-- ==== Sys2Proof/Word.lean ====
section
/-! DEFINITION. The plain words of the model. -/
namespace Sys2Proof

/-- A byte of host memory, a frame or a table record. -/
abbrev Byte := BitVec 8
/-- A register word: every BAR0 register word is 32 bits wide (R8). -/
abbrev Word := BitVec 32
/-- A 64-bit register or counter. -/
abbrev DWord := BitVec 64
/-- A sparse table: key and entry pairs, keys strictly rising, no entry equal to the default of its type. -/
abbrev Tab (α : Type) := List (Nat × α)

end Sys2Proof
end

