-- ==== Sys2Proof/Syntax.lean ====
section
/-! DEFINITION. The commands of the block: the operand types and `Instr`, one constructor per row of the
spec's table of operations and events (spec/opcode_table.json; 95_what_each_step_holds.md). -/
namespace Sys2Proof

/-- The entry of a command ring: the ring and its descriptor sequence number (R53). -/
structure CmdRef where
  ring : Nat := 0
  seq : Nat := 0
deriving DecidableEq, Repr, Inhabited

/-- What the host answers to the device's read of a command's host buffer (Table 2.15, R62, R63). -/
inductive HostAns where
  /-- the bytes of HOST_ADDR to HOST_ADDR + HOST_LEN − 1 -/
  | data (bytes : List Byte)
  /-- the host answered with this error status (HOST_UR, HOST_CA, HOST_POISON, HOST_TIMEOUT) after these bytes had arrived -/
  | error (status : Byte) (arrived : List Byte)
deriving DecidableEq, Repr, Inhabited

/-- A direction of the DMA engine (R60). -/
inductive Dir where
  | toHost | fromHost
deriving DecidableEq, Repr, Inhabited

/-- The descriptor a late error concerns (R64): a command's data or a packet descriptor, by ring and sequence
number. -/
structure DescRef where
  ring : Nat := 0
  seq : Nat := 0
  tag : Nat := 0
  evRing : Nat := 0
  packet : Bool := false
deriving DecidableEq, Repr, Inhabited

/-- What a flush read belongs to (R63, R65): the Linen record of a SUMMARY, a command's descriptor, or a punt buffer, by ring and
sequence number. -/
inductive FlushOf where
  | summary
  | command (ref : CmdRef)
  | punt (ring seq : Nat)
deriving DecidableEq, Repr, Inhabited

/-- Which host read of a packet ring failed (R563). -/
inductive HostRead where
  | descriptor | data
deriving DecidableEq, Repr, Inhabited

/-- Where a receiver's loops stand (R84, R85, R91): the receive FFE taps, the DFE tap in 1/128 of the main cursor, the
slicer thresholds, the sampling phase in 1/128 UI and the frequency offset in 0.1 ppm. -/
structure RxLoops where
  ffe : List Int := []
  dfe : Int := 0
  thresholds : List Int := []
  phase : Nat := 0
  freqOffset : Int := 0
deriving DecidableEq, Repr, Inhabited

/-- What a receiver reports when it is ready or has adapted (R87, Table 3.8): SNR in 0.01 dB, the precoding that training
agreed (R81), the CTLE code chosen and where its loops stand. -/
structure RxMeasure where
  snr : Nat := 0
  precodeTx : Bool := false
  precodeRx : Bool := false
  ctle : Nat := 0
  rx : RxLoops := {}
deriving DecidableEq, Repr, Inhabited

/-- Abilities that a Clause 73 page may name (R78): 200GBASE-CR1, 200GBASE-KR1 and any other. -/
inductive AnAbility where
  | cr1 | kr1 | other
deriving DecidableEq, Repr, Inhabited

/-- What an online test found (R101, R510): of each lane under test whether it calibrated within range and its bit errors,
for a macro or a lane group; by how many ns two time bases advanced apart, rounded up, for a time base; how many errors it found, for
the other units. -/
structure TestFound where
  lanes : List (Bool × Nat) := []
  errors : Nat := 0
deriving DecidableEq, Repr, Inhabited

/-- Lock events of a port's PCS (R113, R115, R116, R427). -/
inductive LockEv where
  /-- sync headers seen by one PCS lane, oldest first -/
  | headers (pcsLane : Nat) (hs : List (BitVec 2))
  /-- AM lock and deskew done, with the skew found and whether the timestamp offsets calibrated -/
  | aligned (skewNs : Nat) (calOk : Bool)
deriving DecidableEq, Repr, Inhabited

/-- Losses of lock (R115, R118). -/
inductive LossEv where
  | headers (pcsLane : Nat) (hs : List (BitVec 2))
  | amLock | deskew
deriving DecidableEq, Repr, Inhabited

/-- Fault sequences of the link (R120). -/
inductive FaultSeq where
  | localFault | remoteFault | clear
deriving DecidableEq, Repr, Inhabited

/-- The overhead fields of one received overhead frame (R148, R158, R159). -/
structure Overhead where
  crcOk : Bool := true
  groupNum : Nat := 0
  phyMap : Nat := 0
  phyNum : Nat := 0
  instNum : Nat := 0
  c : Nat := 0
  cr : Nat := 0
  ca : Nat := 0
  calA : List Nat := []
  calB : List Nat := []
  rpf : Bool := false
  skewNs : Nat := 0
deriving DecidableEq, Repr, Inhabited

/-- The client counts of one second that come from the blocks themselves (R165): local client, invalid blocks, Local
Fault seen, idles inserted and deleted. -/
structure PmClient where
  client : Nat := 0
  blockErrors : Nat := 0
  lf : Bool := false
  inserted : Nat := 0
  deleted : Nat := 0
deriving DecidableEq, Repr, Inhabited

abbrev PmCounts := List PmClient

/-- What a parse thread is given (R172): a packet that waits whole in the pipe's input, or a frame of which the first
bytes have arrived. -/
inductive ThreadSrc where
  | waiting (pkt : Nat)
  | arriving (port : Nat) (first : List Byte)
deriving DecidableEq, Repr, Inhabited

/-- The end of a Serge block operation (R387). -/
inductive BlockRes where
  | ok (data : List Byte)
  | error
deriving DecidableEq, Repr, Inhabited

/-- What link ECC did in a read (R406): nothing, it corrected `n` errors, or it could not correct one, the retry included. -/
inductive LinkFound where
  | clean
  | corrected (n : Nat)
  | lost
deriving DecidableEq, Repr, Inhabited

/-- A regulator's answer (R466, R467): nothing, or its voltage in mV, current in mA and STATUS_WORD. -/
structure VrAnswer where
  answered : Bool := false
  mv : Nat := 0
  ma : Nat := 0
  status : Nat := 0
deriving DecidableEq, Repr, Inhabited

/-- One 20 µs power measurement (R466, R468): the answers of regulators 0 to 15 (those not read now are not
answered and keep their last value), the estimates of the energy meters per domain number in nJ and the operand bytes each
job ingested in the interval. -/
structure PowerMeasure where
  vr : List VrAnswer := []
  estimates : List Nat := []
  ingested : List Nat := []
deriving DecidableEq, Repr, Inhabited

/-- A fault report of a unit (R490): class, unit kind and index, detail bytes, and whether it is a condition. -/
structure Report where
  cls : Nat := 0
  kind : Nat := 0
  unit : Nat := 0
  detail : List Byte := []
  condition : Bool := false
deriving DecidableEq, Repr, Inhabited

/-- What a clock monitor counted in its 1 µs window (R31): the clock's frequency in Hz, 0 where it stood still, and whether
the window overlaps the return from a stretch of the clock (R475). -/
structure ClockFound where
  hz : Nat := 0
  returning : Bool := false
deriving DecidableEq, Repr, Inhabited

/-- What the read-back of WIPE found not to be zero (R416, R528): 64 KiB granules of usable Burlap by number, and the owners of
on-die memories by kind and index of Table 18.3. -/
structure WipeFound where
  granules : List Nat := []
  units : List (Nat × Nat) := []
deriving DecidableEq, Repr, Inhabited

/-- A cell of the boundary register (R554): its value and its own enable. -/
structure ScanCell where
  value : Bool := false
  enable : Bool := false
deriving DecidableEq, Repr, Inhabited

/-- A pass through the register that the TAP's instruction selects (R553): what the boundary cells see at their balls, by
cell, and the cells shifted in at TDI, first in first. With no cell shifted in there is no pass. -/
structure TapScan where
  pins : List Bool := []
  tdi : List ScanCell := []
deriving DecidableEq, Repr, Inhabited

/-- The end of a channel's training (R401, R402, R408, R409): success, whether the channel answered at all, density
code, I/O width, rate code trained and sensor temperature. -/
structure TrainRes where
  ok : Bool := true
  answered : Bool := true
  density : Nat := 0
  width : Nat := 16
  rate : Nat := 1
deriving DecidableEq, Repr, Inhabited

/-- The commands, one constructor per row of spec/opcode_table.json. -/
inductive Instr where
  /-- REGISTER_WRITE (R10). A BAR0 register write with no row of its own sets its fields under the access codes, with misaligned writes discarded and 64-bit low words held. -/
  | registerWrite (addr size : Nat) (value : Word)
  /-- REGISTER_READ_CLEAR (R10). A read of a field with access code RC returns its value and then clears it. -/
  | registerReadClear (addr : Nat)
  /-- LOW_WORD_READ (R9). A read of the low word of a 64-bit register returns it and latches the current high word. -/
  | lowWordRead (addr : Nat)
  /-- RING_ENABLE (R37). A write of HIF_RING_CFG.ENABLE = 1 is checked and either enables the ring with positions reset or sets CFG_ERR. -/
  | ringEnable (ring : Nat) (value : Word)
  /-- RING_DISABLE (R37). A write of HIF_RING_CFG.ENABLE = 0 stops fetching from the ring, and commands already fetched run on. -/
  | ringDisable (ring : Nat) (value : Word)
  /-- DOORBELL (R41). A write of INDEX and GEN to a ring's BAR2 page is checked and moves the producer or consumer position. -/
  | doorbell (ring : Nat) (value : Word)
  /-- ARM (R43). The doorbell ARM bit arms an event ring's MSI-X vector, which is raised at once if unconsumed events remain. -/
  | arm (ring : Nat) (value : Word)
  /-- RESTART (R66). A write of HIF_DMA_CTRL.RESTART returns a HALTED channel to IDLE. -/
  | restart (ch : Nat)
  /-- SUMMARY_GO (R73). A write of HIF_SUMMARY_CTRL.GO queues a register-started SUMMARY into HIF_SUMMARY_ADDR, or is ignored while BUSY is set. -/
  | summaryGo
  /-- COMMAND_FETCH (R56). The command engine fetches the next command of a ring in round-robin order, assigns its DESC_SEQ and makes the start checks. -/
  | commandFetch (desc : List Byte)
  /-- DESCRIPTOR_FETCH_ERROR (R560). The host answers a command descriptor read with an error, and the device posts one EV_CMD_ERROR for that entry. -/
  | descriptorFetchError (status : Byte)
  /-- NOP (R54). The NOP command completes with OK. -/
  | nop (ref : CmdRef)
  /-- SUMMARY (R72). The SUMMARY command queues a write of the Linen record on DC00. -/
  | summary (ref : CmdRef)
  /-- SUMMARY_QUEUE_START (R73). A queued SUMMARY starts once the one before it has ended. -/
  | summaryQueueStart
  /-- RING_QUIESCE (R564). The RING_QUIESCE command stops fetching from a ring after the entries already fetched. -/
  | ringQuiesce (ref : CmdRef)
  /-- RING_RESUME (R564). The RING_RESUME command resumes fetching from a quiesced ring. -/
  | ringResume (ref : CmdRef)
  /-- CHANNEL_RESTART (R66). The CHANNEL_RESTART command returns a HALTED channel to IDLE. -/
  | channelRestart (ref : CmdRef)
  /-- CHANNEL_SHARE (R67). The CHANNEL_SHARE command sets a channel's bus share from its next burst. -/
  | channelShare (ref : CmdRef)
  /-- EVENT_TEST (R54). The EVENT_TEST command completes with an EV_TEST event that carries its operands. -/
  | eventTest (ref : CmdRef)
  /-- EVENT_WRITE (R46). A completion or backlog event waiting for room is written to its event ring once space returns, with completions written first. -/
  | eventWrite (ring : Nat)
  /-- BURST_START (R67). A channel starts its next burst in a direction once its share spacing has elapsed. -/
  | burstStart (ch : Nat) (dir : Dir)
  /-- DESCRIPTOR_COMPLETE (R62). A standard channel completes a descriptor when BYTES_LEFT reaches 0. -/
  | descriptorComplete (ch : Nat)
  /-- FLUSH_READ_RETURN (R63). The flush read of a privileged channel returns, and the descriptor completes with its answered bytes or its error. -/
  | flushReadReturn (ch : Nat) (of : FlushOf) (answered : Nat) (err : Option Byte)
  /-- LATE_ERROR (R64). An internal target answers a beat with an error after its descriptor completed, and the channel halts. -/
  | lateError (ch : Nat) (desc : DescRef) (status : Byte)
  /-- POWER_DEFER_LIMIT (R71). The deferral limit expires, and each affected descriptor stops at its beat and completes with DOMAIN_OFF. -/
  | powerDeferLimit (domain : Nat)
  /-- INJECT_DESCRIPTOR_FETCH (R52). The device reads the next inject descriptor and checks the SOP and EOP structure of the packet. -/
  | injectDescriptorFetch (ring : Nat) (desc : List Byte)
  /-- INJECT_BUFFER_READ_DONE (R189). The read of an injected packet's buffers ends, and the packet enters its pipe with a tag formed from the inject header. -/
  | injectBufferReadDone (ring : Nat) (buffers : List (Nat × List Byte))
  /-- HOST_READ_ERROR (R563). The host answers a descriptor or inject data read with an error, and the entry or packet is written back with ERR. -/
  | hostReadError (ring : Nat) (what : HostRead) (status : Byte)
  /-- PUNT_BUFFER_WRITE (R565). A punted packet that waits in the control pool is written into buffers that its punt ring offers, in ring order. -/
  | puntBufferWrite (ring : Nat) (descs : List (List Byte))
  /-- HOST_LINK_CHANGE (R35). The host link trains or retrains to a rate and width. -/
  | hostLinkChange (gen width : Nat) (flit : Bool)
  /-- HOST_LINK_DOWN (R516). The host link goes down without PERST_N, which records FC006 at HALT. -/
  | hostLinkDown
  /-- PERST_N_ASSERT (R527). The assertion of PERST_N resets only the host interface, disables every ring and discards in-flight completions. -/
  | perstNAssert
  /-- PERST_N_RELEASE (R547). The release of PERST_N lets the host link train. -/
  | perstNRelease
  /-- MACRO_ENABLE (R87). Setting LAN_MACRO_CFG.ENABLE powers, locks and calibrates a macro. -/
  | macroEnable (m : Nat) (value : Word)
  /-- MACRO_DISABLE (R87). Clearing LAN_MACRO_CFG.ENABLE takes every lane of the macro OFF and squelches its transmitters. -/
  | macroDisable (m : Nat) (value : Word)
  /-- MACRO_RATE_CHANGE (R77). A change of LAN_MACRO_CFG.RATE takes the macro's ports down, retrains its lanes and may re-lock CLK_LGnn. -/
  | macroRateChange (m : Nat) (value : Word)
  /-- TX_DISABLE (R103). A write of LAN_LANE_CFG.TX_DISABLE squelches or releases a transmitter at once. -/
  | txDisable (lane : Nat) (value : Word)
  /-- PLL_LOCK (R87). The macro's transmit PLL locks, and its lanes enter CAL. -/
  | pllLock (m : Nat)
  /-- CALIBRATION_DONE (R87). Calibration ends with signal detected, and the lane enters AN, TRAIN or ADAPT as TRAIN_MODE selects. -/
  | calibrationDone (lane : Nat) (inRange signal : Bool)
  /-- NEGOTIATION_COMPLETE (R87). Clause 73 auto-negotiation completes, and the lane starts training or posts a failure. -/
  | negotiationComplete (lane : Nat) (partner : List AnAbility)
  /-- AN_TIMEOUT (R87). 500 ms pass without negotiation complete, and the lane returns to CAL. -/
  | anTimeout (lane : Nat)
  /-- TRAIN_RETRY (R88). The wait of 100 ms, or 1 s after eight failures, ends and the lane retries training. -/
  | trainRetry (lane : Nat)
  /-- TAP_REQUEST (R83). A link partner's training request moves one transmit tap, or is answered at limit. -/
  | tapRequest (lane tap : Nat) (up : Bool)
  /-- RECEIVERS_READY (R87). Both receivers report ready, and a lane with enough SNR enters DATA and signals its port. -/
  | receiversReady (lane : Nat) (m : RxMeasure)
  /-- TRAIN_TIMEOUT (R87). Training runs 450 ms, or SNR is low at ready, and the lane returns to CAL while the other lanes of its port follow. -/
  | trainTimeout (lane : Nat) (atLimit : Bool)
  /-- ADAPTATION_CONVERGED (R87). Receiver-only adaptation converges, and a lane with enough SNR enters DATA. -/
  | adaptationConverged (lane : Nat) (m : RxMeasure)
  /-- ADAPT_TIMEOUT (R87). 100 ms pass in ADAPT without enough SNR, and the lane returns to CAL. -/
  | adaptTimeout (lane : Nat)
  /-- LANE_LOSS (R86). A lane in DATA loses signal or CDR lock, leaves DATA and reports to its port within 100 ns. -/
  | laneLoss (lane : Nat) (cdr : Bool)
  /-- WAKE_DECLARED (R139). The wake-pattern detector sees 100 µs of pattern, and the port wakes and its lanes restore their warm state or go cold. -/
  | wakeDeclared (port : Nat)
  /-- WAKE_SNR_OK (R94). A waking lane reaches SNR_MIN and enters DATA, and the port goes UP once every lane is aligned. -/
  | wakeSnrOk (lane : Nat) (m : RxMeasure)
  /-- WAKE_TIMEOUT (R87). 1.6 ms pass in WAKE without enough SNR, and the lane goes cold to CAL. -/
  | wakeTimeout (lane : Nat) (partnerTrained : Bool)
  /-- BACKGROUND_CTLE_STEP (R91). Every 10 ms in DATA, the CTLE may move one code and the FFE re-converges. -/
  | backgroundCtleStep (lane : Nat) (up : Option Bool) (rx : RxLoops)
  /-- LANE_RETRAIN (R98). The LANE_RETRAIN command returns lanes to CAL. -/
  | laneRetrain (ref : CmdRef)
  /-- LANE_TEST (R96). The LANE_TEST command starts or ends a pattern or loopback test on lanes. -/
  | laneTest (ref : CmdRef)
  /-- LANE_EYE (R97). The LANE_EYE command starts an eye scan of a lane with the secondary slicer. -/
  | laneEye (ref : CmdRef)
  /-- LANE_EYE_DONE (R97). An eye scan ends and its counts are written, or it stops with LANE_RESTARTED when the lane leaves DATA. -/
  | laneEyeDone (lane : Nat) (counts : List Nat)
  /-- LANE_READ (R98). The LANE_READ command writes 64-byte lane records. -/
  | laneRead (ref : CmdRef)
  /-- LAYOUT_CHANGE (R569). A write of MAC_MACRO_MODE.STARTS is checked and changes the macro's port layout, taking down only the ports that change. -/
  | layoutChange (m : Nat) (value : Word)
  /-- PORT_ADMIN (R144). The PORT_ADMIN command enables, disables, sleeps or wakes a port. -/
  | portAdmin (ref : CmdRef)
  /-- PORT_GATE_LIST (R133). The PORT_GATE_LIST command loads a standby gate list, which takes over at a computed cycle start. -/
  | portGateList (ref : CmdRef) (host : HostAns)
  /-- PORT_READ (R144). The PORT_READ command writes 64-byte port records. -/
  | portRead (ref : CmdRef)
  /-- PORT_WD_RESTORE (R130). The PORT_WD_RESTORE command restores classes held by the pause watchdog. -/
  | portWdRestore (ref : CmdRef)
  /-- BLOCK_LOCK (R115). A PCS lane locks after 64 valid headers, or a port completes AM lock and deskew, and its timestamp offsets are calibrated. -/
  | blockLock (port : Nat) (ev : LockEv)
  /-- LOCK_LOSS (R115). A PCS lane loses block lock after 16 invalid headers of 64, and an UP port goes down. -/
  | lockLoss (port : Nat) (ev : LossEv)
  /-- HI_BER (R116). An NRZ port's 500 µs window shows 97 or more invalid headers, which sets or clears HI_BER. -/
  | hiBer (port invalid : Nat)
  /-- UP_DEBOUNCE (R117). A port that stays aligned without fault for UP_DEBOUNCE enters UP and signals link up. -/
  | upDebounce (port : Nat)
  /-- REMOTE_FAULT (R120). A received fault sequence sets LOCAL_FAULT or REMOTE_FAULT and may take the port down. -/
  | remoteFault (port : Nat) (seq : FaultSeq)
  /-- FEC_WINDOW (R114). A 1 ms FEC window ends, and FEC_DEGRADE is set or cleared against SET and CLEAR. -/
  | fecWindow (port : Nat) (codewords : List Nat)
  /-- FRAME_RECEIVE (R109). A frame is received whole by a port's MAC and is counted, discarded or passed to its pipe. -/
  | frameReceive (port : Nat) (frame : List Byte) (codewords : List Nat) (inputFull : Bool)
  /-- PFC_FRAME_RECEIVE (R127). A received PFC frame loads or ends the pause timers of its enabled classes. -/
  | pfcFrameReceive (port : Nat) (enable : Byte) (times : List Nat) (fcsOk : Bool)
  /-- PAUSE_FRAME_RECEIVE (R127). A received PAUSE frame pauses every class in PAUSE mode. -/
  | pauseFrameReceive (port time : Nat) (fcsOk : Bool)
  /-- PAUSE_TIMER_EXPIRY (R127). A class's pause timer runs out, and its queues may send again. -/
  | pauseTimerExpiry (port cls : Nat)
  /-- PFC_FRAME_SEND (R125). A pending PFC or PAUSE frame is sent at the next frame boundary, ahead of every waiting frame. -/
  | pfcFrameSend (port : Nat)
  /-- PFC_REFRESH (R123). REFRESH quanta pass while XOFF lasts, and the XOFF frame is sent again. -/
  | pfcRefresh (port cls : Nat)
  /-- PFC_WATCHDOG (R130). A class stays paused for WD_TIME, and the watchdog action takes effect. -/
  | pfcWatchdog (port cls : Nat)
  /-- WATCHDOG_RESTORE (R130). RESTORE ms pass without a pause, and the class is restored. -/
  | watchdogRestore (port cls : Nat)
  /-- GATE_TRANSITION (R132). The time of a gate-list entry arrives, and the gates open and close as that entry gives. -/
  | gateTransition (port : Nat)
  /-- GATE_LIST_SWITCH (R133). At T, the standby gate list replaces the active one. -/
  | gateListSwitch (port : Nat)
  /-- SLEEP_ENTRY (R138). Once the frame in progress ends, the port's lanes save warm state and squelch, and the port enters SLEEP. -/
  | sleepEntry (port : Nat)
  /-- WAKE_PATTERN_END (R140). The port's 300 µs wake pattern ends, and it sends data symbols with the restored taps. -/
  | wakePatternEnd (port : Nat)
  /-- FRAME_END (R110). An ingress frame ends, or is found bad, after its parse or egress has begun. -/
  | frameEnd (pkt : Nat) (rest : List Byte) (codewords : List Nat)
  /-- GROUP_ENABLE (R170). Setting SLT_GROUP_CFG.ENABLE is checked and takes a FlexE group to DOWN. -/
  | groupEnable (group : Nat) (value : Word)
  /-- GROUP_DISABLE (R151). Clearing SLT_GROUP_CFG.ENABLE takes a group to DISABLED. -/
  | groupDisable (group : Nat) (value : Word)
  /-- FRAME_START_PATTERN (R153). A frame-start pattern is seen, and a candidate is held, confirmed or ignored. -/
  | frameStartPattern (group inst block : Nat)
  /-- OVERHEAD_POSITION (R155). An expected overhead position passes, and a candidate is discarded or a miss counts towards loss of frame lock. -/
  | overheadPosition (group inst block : Nat) (pattern : Bool)
  /-- MULTIFRAME_LOCK (R156). OMF transitions declare or lose multiframe lock, and the group's state follows. -/
  | multiframeLock (group inst : Nat) (omf : Bool)
  /-- OVERHEAD_FRAME (R159). A received overhead frame is checked against the payload labels, and its calendars, CR and CA are taken. -/
  | overheadFrame (group inst : Nat) (oh : Overhead)
  /-- CALENDAR_SWITCH (R163). At a multiframe start, the transmit C is set to the standby calendar, and that page becomes active. -/
  | calendarSwitch (group : Nat)
  /-- CAL_SWITCH_TIMEOUT (R163). 10 ms pass without a matching CA, and the switch is abandoned with FC052. -/
  | calSwitchTimeout (group : Nat)
  /-- RX_CALENDAR_SWITCH (R163). At the boundary for a received C change, the receive client map changes. -/
  | rxCalendarSwitch (group : Nat)
  /-- PM_SECOND (R165). A second of the PM time base ends and is classed per group and client. -/
  | pmSecond (counts : PmCounts)
  /-- PM_BIN_BOUNDARY (R164). A 15-minute or day boundary closes the current bin and opens a new one. -/
  | pmBinBoundary (day : Bool)
  /-- SLOT_GROUP_MEMBERS (R168). The SLOT_GROUP_MEMBERS command sets the member ports of a disabled group. -/
  | slotGroupMembers (ref : CmdRef) (host : HostAns)
  /-- SLOT_CLIENT_SET (R168). The SLOT_CLIENT_SET command defines or frees a client. -/
  | slotClientSet (ref : CmdRef)
  /-- SLOT_CM_WRITE (R161). The SLOT_CM_WRITE command writes connection-memory entries to the standby page. -/
  | slotCmWrite (ref : CmdRef) (host : HostAns)
  /-- SLOT_CAL_SWITCH (R163). The SLOT_CAL_SWITCH command checks the standby range and starts a calendar switch. -/
  | slotCalSwitch (ref : CmdRef)
  /-- SLOT_PM_READ (R167). The SLOT_PM_READ command copies a performance bin. -/
  | slotPmRead (ref : CmdRef)
  /-- SLOT_GROUP_READ (R168). The SLOT_GROUP_READ command writes a group's header and per-slot state. -/
  | slotGroupRead (ref : CmdRef)
  /-- PARSE_THREAD_ASSIGN (R172). A parse thread is assigned to a packet once its first 64 bytes are in the input buffer. -/
  | parseThreadAssign (src : ThreadSrc)
  /-- PARSE_WORD (R177). A parse microword issues once its bytes are available and executes its record, extract, flag, match and advance steps. -/
  | parseWord (pkt : Nat)
  /-- INGRESS_STAGES (R23). A packet passes ingress stages 2 to 9: classify, tunnel terminate, lookups, route resolve, meter and counters. -/
  | ingressStages (pkt : Nat)
  /-- ADMISSION (R274). Stage 10 decides whether a packet is stored on die, spilled, put in headroom, trimmed, punted or discarded. -/
  | admission (pkt : Nat)
  /-- REMAINING_CELLS (R274). Cells that arrive beyond a packet's length estimate are charged, or the packet is cut when no cell is free. -/
  | remainingCells (pkt : Nat) (more : List Byte)
  /-- REPLICATION (R251). A panel's traffic manager makes replicas from a multicast group's entries and admits each against its queue. -/
  | replication (panel pkt : Nat)
  /-- DEQUEUE_DECISION (R302). A port that can take a frame selects a queue by strict level, fair set and ETS, and sends its head packet. -/
  | dequeueDecision (port : Nat)
  /-- EGRESS_STAGES (R23). A dequeued packet passes stages 11 to 15: classify, edit, ECN or trim, egress ACL and time correction. -/
  | egressStages (pkt : Nat) (txTotalNs : Nat)
  /-- TRANSMIT_END (R252). A frame leaves its port, its reference is released and its cells are freed when the count reaches 0. -/
  | transmitEnd (pkt : Nat)
  /-- QUEUE_FLUSH (R276). The queues of a port that left UP are flushed within 1 ms, and their spill blocks are freed. -/
  | queueFlush (port : Nat)
  /-- EM_INSERT (R206). The EM_INSERT command writes an exact-match entry, relocating others if needed. -/
  | emInsert (ref : CmdRef)
  /-- EM_DELETE (R220). The EM_DELETE command removes an exact-match entry, conditionally on PENDING_AGE. -/
  | emDelete (ref : CmdRef)
  /-- EM_LOOKUP (R238). The EM_LOOKUP command returns an entry and its place. -/
  | emLookup (ref : CmdRef)
  /-- EM_READ (R238). The EM_READ command dumps banks of exact-match entries. -/
  | emRead (ref : CmdRef)
  /-- LPM_ADD (R222). The LPM_ADD command adds or replaces a prefix atomically. -/
  | lpmAdd (ref : CmdRef)
  /-- LPM_DELETE (R222). The LPM_DELETE command removes a prefix atomically. -/
  | lpmDelete (ref : CmdRef)
  /-- LPM_LOOKUP (R238). The LPM_LOOKUP command returns the longest matching prefix. -/
  | lpmLookup (ref : CmdRef)
  /-- TCAM_WRITE (R225). The TCAM_WRITE command writes TCAM entries in ascending order. -/
  | tcamWrite (ref : CmdRef) (host : HostAns)
  /-- TCAM_READ (R237). The TCAM_READ command returns TCAM records. -/
  | tcamRead (ref : CmdRef)
  /-- ECMP_GROUP_WRITE (R237). The ECMP_GROUP_WRITE command writes an ECMP group record. -/
  | ecmpGroupWrite (ref : CmdRef)
  /-- MEMBER_WRITE (R237). The MEMBER_WRITE command writes member slots. -/
  | memberWrite (ref : CmdRef) (host : HostAns)
  /-- NEXTHOP_WRITE (R237). The NEXTHOP_WRITE command writes next hops. -/
  | nexthopWrite (ref : CmdRef) (host : HostAns)
  /-- ECMP_READ (R237). The ECMP_READ command returns group, member or next-hop records. -/
  | ecmpRead (ref : CmdRef)
  /-- SHADOW_CHECK (R233). The SHADOW_CHECK command compares shadow records at once and repairs mismatches. -/
  | shadowCheck (ref : CmdRef) (host : HostAns)
  /-- TABLE_STAT (R240). The TABLE_STAT command writes the table occupancy block. -/
  | tableStat (ref : CmdRef)
  /-- CLASSIFY_WRITE (R198). The CLASSIFY_WRITE command writes a port classify record or profile. -/
  | classifyWrite (ref : CmdRef) (host : HostAns)
  /-- ENDPOINT_WRITE (R200). The ENDPOINT_WRITE command writes a tunnel endpoint. -/
  | endpointWrite (ref : CmdRef)
  /-- LEARN_HOLDOFF_EXPIRY (R215). A recent-learn filter entry expires LEARN_HOLDOFF after its creation. -/
  | learnHoldoffExpiry (typ key : Nat)
  /-- LEARN_RATE_WINDOW (R216). A 1 ms learn-notice window ends, and its count restarts. -/
  | learnRateWindow
  /-- NEXT_HOP_DOWN (R231). On a port's link-down signal, its next hops are marked down within 200 ns and live counts update. -/
  | nextHopDown (port : Nat)
  /-- NEXT_HOP_UP (R231). UP_HOLD ms after link up, the port's next hops are marked up. -/
  | nextHopUp (port : Nat)
  /-- EDIT_WRITE (R267). The EDIT_WRITE command writes or reads edit records in every panel. -/
  | editWrite (ref : CmdRef) (host : HostAns)
  /-- MCAST_WRITE (R253). The MCAST_WRITE command writes or reads multicast group records or entries. -/
  | mcastWrite (ref : CmdRef) (host : HostAns)
  /-- MIRROR_WRITE (R267). The MIRROR_WRITE command writes or reads a mirror session. -/
  | mirrorWrite (ref : CmdRef)
  /-- EGRESS_WRITE (R267). The EGRESS_WRITE command writes or reads port egress records, ECN profiles or egress ACL entries. -/
  | egressWrite (ref : CmdRef) (host : HostAns)
  /-- PARSE_READ (R194). The PARSE_READ command copies parse store words. -/
  | parseRead (ref : CmdRef)
  /-- SPILL_ASSEMBLY_TIMEOUT (R285). A run with no append for 1 µs writes its partial block to Burlap. -/
  | spillAssemblyTimeout (queue : Nat)
  /-- READBACK_START (R285). Readback of a run's oldest blocks into prefetch begins once a block is written and the head leaves room. -/
  | readbackStart (queue : Nat)
  /-- BLOCK_READ_DONE (R286). A spill block read completes into prefetch, and packets whose units are all on die become eligible. -/
  | blockReadDone (queue : Nat) (ok : Bool)
  /-- BUF_PROFILE_WRITE (R296). The BUF_PROFILE_WRITE command writes or reads queue profiles. -/
  | bufProfileWrite (ref : CmdRef) (host : HostAns)
  /-- BUF_QUEUE_MAP (R296). The BUF_QUEUE_MAP command maps queues to profiles. -/
  | bufQueueMap (ref : CmdRef) (host : HostAns)
  /-- BUF_PORT_WRITE (R277). The BUF_PORT_WRITE command sets the headroom limits of ports. -/
  | bufPortWrite (ref : CmdRef) (host : HostAns)
  /-- BUF_QUEUE_READ (R296). The BUF_QUEUE_READ command writes queue state records. -/
  | bufQueueRead (ref : CmdRef)
  /-- SHAPER_TICK (R307). Every 64 ns, every shaper refills and applies pending record writes. -/
  | shaperTick (panel : Nat)
  /-- WHEEL_SLOT_DUE (R308). A timing-wheel slot comes due, and its parked queues and ports wake. -/
  | wheelSlotDue (panel : Nat)
  /-- OVERFLOW_SLOT_DUE (R309). An overflow-wheel slot comes due, and its entries move to the main wheel. -/
  | overflowSlotDue (panel : Nat)
  /-- DEPTH_SAMPLE (R314). Every 1 µs of the sample time base, every queue's depth is sampled. -/
  | depthSample
  /-- SAMPLE_WINDOW_CLOSE (R315). A 100 µs window closes, and its depth and delay statistics are recorded. -/
  | sampleWindowClose
  /-- SCH_PORT_WRITE (R318). The SCH_PORT_WRITE command writes or reads port scheduling records. -/
  | schPortWrite (ref : CmdRef) (host : HostAns)
  /-- SCH_SHAPER_WRITE (R310). The SCH_SHAPER_WRITE command writes or reads shaper records. -/
  | schShaperWrite (ref : CmdRef) (host : HostAns)
  /-- SCH_METER_WRITE (R313). The SCH_METER_WRITE command writes or reads meter records. -/
  | schMeterWrite (ref : CmdRef) (host : HostAns)
  /-- SCH_SAMPLE_READ (R316). The SCH_SAMPLE_READ command copies queue sample records. -/
  | schSampleRead (ref : CmdRef)
  /-- CONTRIB (R333). A CONTRIB received by a cluster is checked and accumulated into its chunk's slot, which may complete and emit. -/
  | contrib (cluster : Nat)
  /-- RESULT (R333). A RESULT from the parent is stored and sent to every child. -/
  | result (cluster : Nat)
  /-- RESEND (R343). A received RESEND is answered by a retried partial or by WAIT. -/
  | resend (cluster : Nat)
  /-- RESULT_REQ (R344). A received RESULT_REQ is answered by RESULT or RESEND. -/
  | resultReq (cluster : Nat)
  /-- WAIT (R342). A received WAIT marks a child so that the next expiry counts no retry. -/
  | wait (cluster : Nat)
  /-- PACE (R353). A PACE received by the root sets the sender's proposal. -/
  | pace (cluster : Nat)
  /-- PACE_SET (R354). A received PACE_SET schedules the agreed step change and is passed to device children. -/
  | paceSet (cluster : Nat)
  /-- STRAGGLER (R355). A received STRAGGLER marks or clears a child as a straggler. -/
  | straggler (cluster : Nat)
  /-- ABORT (R345). A received ABORT fails a running job and is passed on. -/
  | abort (cluster : Nat)
  /-- SLOT_TIMER_EXPIRY (R342). An OPEN or SPILLED slot's timer expires, and RESEND is sent to the missing children, which may count a retry or fail the job. -/
  | slotTimerExpiry (job chunk : Nat)
  /-- EMITTED_TIMER_EXPIRY (R333). An EMITTED slot's timer expires, and RESULT_REQ is sent to the parent. -/
  | emittedTimerExpiry (job chunk : Nat)
  /-- EPOCH_BOUNDARY (R353). At an epoch boundary, the root accepts a new agreed step, members apply pending changes and PACE is repeated. -/
  | epochBoundary (job : Nat)
  /-- SLOT_RESTORE (R347). A SPILLED slot is read back into the cluster once its last bit is set or pages are free. -/
  | slotRestore (job chunk : Nat)
  /-- CLUSTER_STEP_CHANGE_DONE (R351). A cluster's step change completes, and contributions held in the input queue proceed. -/
  | clusterStepChangeDone (cluster : Nat)
  /-- JOB_MOVE_DONE (R358). A job's staging copy to its new cluster completes. -/
  | jobMoveDone (job : Nat)
  /-- COL_JOB_CREATE (R330). The COL_JOB_CREATE command loads a job record and children and places the job in a cluster. -/
  | colJobCreate (ref : CmdRef) (host : HostAns)
  /-- COL_JOB_DESTROY (R362). The COL_JOB_DESTROY command frees a job, optionally sending ABORT first. -/
  | colJobDestroy (ref : CmdRef)
  /-- COL_JOB_READ (R362). The COL_JOB_READ command writes job entries and counters. -/
  | colJobRead (ref : CmdRef)
  /-- COL_JOB_MOVE (R358). The COL_JOB_MOVE command starts moving a job to another cluster. -/
  | colJobMove (ref : CmdRef)
  /-- COL_PACE_PROPOSE (R352). The COL_PACE_PROPOSE command sets or withdraws a job's host ceiling. -/
  | colPacePropose (ref : CmdRef)
  /-- POOL_GRANT (R372). In each CLK_POOL cycle, a pool grants its lowest free buffer to the request at its queue's head or answers EMPTY. -/
  | poolGrant (pool : Nat)
  /-- POOL_CTRL_ENABLE (R381). A write of POOL_CTRL.ENABLE is checked and starts or stops the pool manager. -/
  | poolCtrlEnable (value : Word)
  /-- BUFFER_TEST_DONE (R378). The two-pattern test of a freed tainted buffer ends, and the buffer returns to the free list or is withdrawn. -/
  | bufferTestDone (handle : Nat) (ok : Bool)
  /-- POOL_ALLOC (R370). The POOL_ALLOC command requests a buffer on pool port 0. -/
  | poolAlloc (ref : CmdRef)
  /-- POOL_FREE (R375). The POOL_FREE command frees a buffer that its owner holds. -/
  | poolFree (ref : CmdRef)
  /-- POOL_TRANSFER (R369). The POOL_TRANSFER command moves a buffer to a new owner. -/
  | poolTransfer (ref : CmdRef)
  /-- POOL_STATE (R380). The POOL_STATE command writes the pool area of the Linen buffer area. -/
  | poolState (ref : CmdRef)
  /-- POOL_OWNER_FREE_ALL (R377). The POOL_OWNER_FREE_ALL command frees every buffer of a host owner. -/
  | poolOwnerFreeAll (ref : CmdRef)
  /-- POOL_COPY (R380). The POOL_COPY command moves data between host memory and an owned buffer. -/
  | poolCopy (ref : CmdRef) (host : HostAns)
  /-- SEQ_WORD (R386). A Serge engine issues one microword from a READY context, with ALU, memory and flow actions. -/
  | seqWord (engine : Nat)
  /-- WAIT_END (R389). A waiting context's condition becomes true, or its load data return, and it becomes READY. -/
  | waitEnd (engine ctx : Nat)
  /-- WAIT_TIMEOUT (R389). A wait lasts longer than WAIT_LIMIT and traps with cause 2. -/
  | waitTimeout (engine ctx : Nat)
  /-- ROUTINE_TRIGGER (R395). A routine's trigger falls, and it starts in a free context or the trigger is skipped. -/
  | routineTrigger (routine : Nat)
  /-- BLOCK_OP_DONE (R387). A Serge block operation ends and sets DMA_DONE and DMA_ERR. -/
  | blockOpDone (engine ctx : Nat) (res : BlockRes)
  /-- STORE_REPAIR (R394). A store block with a double-bit error is re-read from the image copy and rewritten, and the trapped context resumes. -/
  | storeRepair (block : Nat)
  /-- STOP_TIMEOUT (R398). A routine is not ended 10 ms after SEQ_STOP, so its context is freed and the command completes with STOP_FORCED. -/
  | stopTimeout (routine : Nat)
  /-- NO_ISSUE_TIMEOUT (R397). An engine issues no word for 10 ms with a READY context, which records FC166. -/
  | noIssueTimeout (engine : Nat)
  /-- SEQ_LOAD (R393). The SEQ_LOAD command checks and loads a signed Serge section. -/
  | seqLoad (ref : CmdRef) (host : HostAns)
  /-- SEQ_ROUTINE_SET (R395). The SEQ_ROUTINE_SET command changes a routine's engines, trigger and period. -/
  | seqRoutineSet (ref : CmdRef)
  /-- SEQ_RUN (R395). The SEQ_RUN command triggers a command-only routine with an argument. -/
  | seqRun (ref : CmdRef)
  /-- SEQ_STOP (R398). The SEQ_STOP command asks a routine to stop. -/
  | seqStop (ref : CmdRef)
  /-- SEQ_FRAME_READ (R398). The SEQ_FRAME_READ command copies a context's trap frame. -/
  | seqFrameRead (ref : CmdRef)
  /-- SEQ_RESUME (R391). The SEQ_RESUME command resumes or ends a TRAPPED context. -/
  | seqResume (ref : CmdRef)
  /-- SEQ_STORE_READ (R398). The SEQ_STORE_READ command copies store words. -/
  | seqStoreRead (ref : CmdRef)
  /-- PERIODIC_RETRAIN (R409). A channel retrains 100 ms after its last training, or after a 10 °C change. -/
  | periodicRetrain (ch : Nat)
  /-- RETRAIN_RETRY (R409). 1 ms after a failed retrain, the channel retries. -/
  | retrainRetry (ch : Nat)
  /-- REFRESH (R410). A bank's refresh comes due and is issued or postponed. -/
  | refresh (ch bank : Nat) (busy : Bool)
  /-- SELF_REFRESH_ENTRY (R411). A channel idle for SR_IDLE enters self-refresh. -/
  | selfRefreshEntry (ch : Nat)
  /-- SCRUB_READ (R407). The scrubber reads a row in an idle slot and handles what it finds. -/
  | scrubRead (ch row : Nat) (link : LinkFound)
  /-- HALF_READY (R412). A powered-up memory half finishes training and zeroing and serves requests. -/
  | halfReady (half : Nat)
  /-- TB_ENABLE (R419). Setting TIM_TB_CFG.ENABLE starts a time base from what it holds. -/
  | tbEnable (tb : Nat) (value : Word)
  /-- TB_DISABLE (R419). Clearing TIM_TB_CFG.ENABLE stops a time base and freezes it. -/
  | tbDisable (tb : Nat) (value : Word)
  /-- SLEW_DISABLE (R421). Clearing SLEW_EN abandons a pending offset. -/
  | slewDisable (tb : Nat) (value : Word)
  /-- SLEW_COMPLETE (R420). A time base's pending offset reaches 0. -/
  | slewComplete (tb : Nat)
  /-- CLK10_LOSS (R423). CLK10_IN goes missing or off frequency, and a time base using it enters HOLDOVER. -/
  | clk10Loss (ratio : Nat)
  /-- HOLDOVER_EXIT (R423). CLK10_IN stays good for 1 s, and the base returns to RUNNING on it. -/
  | holdoverExit (tb : Nat)
  /-- SECOND_BOUNDARY (R433). A time base passes a second boundary, PPS_OUT pulses and TOD_OUT sends its message. -/
  | secondBoundary (tb : Nat)
  /-- PPS_IN_EDGE (R433). A selected PPS_IN edge is timestamped and posted. -/
  | ppsInEdge (falling : Bool)
  /-- PPS_IN_MISSING (R433). No PPS_IN edge comes for 1.1 s, which records FC194. -/
  | ppsInMissing
  /-- TS_EVENT_EDGE (R433). A selected TS_EVENT_IN edge is timestamped and posted, or counted as missed. -/
  | tsEventEdge (pin : Nat) (falling : Bool)
  /-- TOD_MESSAGE (R433). A time-of-day message arrives on TOD_IN and is posted, or discarded on a bad CRC. -/
  | todMessage (msg : List Byte)
  /-- TIME_READ (R434). The TIME_READ command captures every time base in one CLK_AON cycle. -/
  | timeRead (ref : CmdRef)
  /-- TIME_SET (R421). The TIME_SET command steps a time base to a given time. -/
  | timeSet (ref : CmdRef)
  /-- TIME_ADJUST (R420). The TIME_ADJUST command slews or steps a time base by an offset. -/
  | timeAdjust (ref : CmdRef)
  /-- TIME_TRIM (R422). The TIME_TRIM command sets a time base's frequency trim. -/
  | timeTrim (ref : CmdRef)
  /-- PAIR_SWITCH (R425). The PAIR_SWITCH command switches a pair's active member and loads the carry. -/
  | pairSwitch (ref : CmdRef)
  /-- SNAPSHOT_INSTANT (R445). At a set's snapshot instant, its blocks switch accumulator banks, or the snapshot is skipped. -/
  | snapshotInstant (set : Nat)
  /-- DUMP_COMPLETE (R451). A dump's flush read completes, the trailer is written and the dump is posted. -/
  | dumpComplete (set : Nat) (err : Option Byte)
  /-- GAUZE_RECORD_WRITE (R456). A staged Gauze record is written to the ring, or lost. -/
  | gauzeRecordWrite
  /-- GAUZE_ENABLE (R459). A write of TEL_GAUZE_CFG.ENABLE is checked and starts or stops the sampler ring. -/
  | gauzeEnable (value : Word)
  /-- CTR_SET_WRITE (R444). The CTR_SET_WRITE command sets or reads a dump set. -/
  | ctrSetWrite (ref : CmdRef)
  /-- CTR_READ (R443). The CTR_READ command copies counter values and flags. -/
  | ctrRead (ref : CmdRef)
  /-- CTR_CLEAR (R450). The CTR_CLEAR command zeroes counters or their flags. -/
  | ctrClear (ref : CmdRef)
  /-- CTR_DUMP_NOW (R449). The CTR_DUMP_NOW command takes an on-demand snapshot of a set. -/
  | ctrDumpNow (ref : CmdRef)
  /-- GAUZE_RELEASE (R455). The GAUZE_RELEASE command gives the Gauze ring's consumer position. -/
  | gauzeRelease (ref : CmdRef)
  /-- IOAM_SINK (R458). The IOAM_SINK command writes or reads the IOAM sink port map. -/
  | ioamSink (ref : CmdRef) (host : HostAns)
  /-- POWER_SAMPLE (R466). Every 20 µs, power is measured, limits are checked, panels throttle, cluster ceilings are computed and job energy is charged. -/
  | powerSample (m : PowerMeasure)
  /-- PMBUS_READ (R466). Every 1 ms, every other enabled regulator is read over PMBus. -/
  | pmbusRead (answers : List VrAnswer)
  /-- THROTTLE_RAISE (R470). Each 1 ms under 95 % of the limits, throttled domains rise one step. -/
  | throttleRaise
  /-- RAIL_REACHED (R464). A regulator reports its raised voltage, and the pending step raises its frequency. -/
  | railReached (cr mv : Nat)
  /-- DROOP_TRIP (R475). A droop detector trips, and its domain's clocks halve within 2 ns. -/
  | droopTrip (det code : Nat)
  /-- DROOP_RETURN (R475). Every detector of a domain reads above threshold for 100 ns, and the clock returns to full rate in 8 steps. -/
  | droopReturn (domain : Nat)
  /-- DROOP_RECALIBRATION (R484). A droop detector recalibrates in an idle slot of 2 µs. -/
  | droopRecalibration (det : Nat)
  /-- VR_ALERT (R477). A VR_ALERT_N ball asserts, and every stepping domain reaches step 0 within 1 µs. -/
  | vrAlert (ball : Nat) (status : List VrAnswer)
  /-- VR_ALERT_CLEAR (R477). Both VR_ALERT_N balls stay deasserted for 10 ms, and the domains may rise. -/
  | vrAlertClear
  /-- SENSOR_READ (R478). Every 100 µs, the thermal sensors are read, throttling applies and temperature retrains are triggered. -/
  | sensorRead (temps : List (Option Int))
  /-- THERMAL_RECOVERY (R479). A die held below THROTTLE_C − HYST_C for 10 ms lets its domains rise one step per 1 ms. -/
  | thermalRecovery (die : Nat)
  /-- THERMAL_TRIP (R481). A sensor reaches 115 °C, and THERMTRIP_N asserts and the device enters LOCKDOWN. -/
  | thermalTrip (sensor : Nat)
  /-- DOMAIN_POWER_DOWN_DONE (R482). A deferred power-down ends with power cut and is posted. -/
  | domainPowerDownDone (domain : Nat)
  /-- PWR_DOMAIN (R482). The PWR_DOMAIN command powers a domain down or up, or sets a host ceiling. -/
  | pwrDomain (ref : CmdRef)
  /-- PWR_LIMIT_SET (R469). The PWR_LIMIT_SET command writes the power limits. -/
  | pwrLimitSet (ref : CmdRef)
  /-- PWR_READ (R487). The PWR_READ command writes the power area. -/
  | pwrRead (ref : CmdRef)
  /-- PWR_PMBUS (R486). The PWR_PMBUS command reads or writes a regulator over PMBus. -/
  | pwrPmbus (ref : CmdRef) (ans : VrAnswer)
  /-- RECORD_FORMATION (R491). In each CLK_AON cycle, the fault manager forms records from the heads of its intake queues, merges, sets levels and applies reactions. -/
  | recordFormation (incoming : List Report)
  /-- CONDITION_CLEAR (R492). A unit reports that a condition has ended, and its record gains CLEARED and CLEARED_TS. -/
  | conditionClear (cls kind unit : Nat)
  /-- FENCE_COMPLETE (R505). A unit fenced by command finishes draining, and UNIT_FENCE completes. -/
  | fenceComplete (kind unit : Nat)
  /-- TEST_END (R510). A unit's online test ends, and PASSED is set or cleared. -/
  | testEnd (kind unit : Nat) (found : TestFound)
  /-- ALIVE_TOGGLE (R513). Every 500 µs, the fault manager toggles ALIVE_OUT once every intake queue has been served. -/
  | aliveToggle
  /-- CLOCK_MONITOR_WINDOW (R31). A 1 µs monitor window ends, and a stopped or off-frequency clock is reported. -/
  | clockMonitorWindow (clock : Nat) (found : ClockFound)
  /-- RESET_REQ (R515). A BMC write to RESET_REQ advances or cancels the 0xA5, 0x5A reset sequence. -/
  | resetReq (value : Byte) (within1ms : Bool)
  /-- FAULT_ACK (R504). The FAULT_ACK command acknowledges every record of the named classes. -/
  | faultAck (ref : CmdRef)
  /-- FAULT_READ (R517). The FAULT_READ command copies the first-error record, the history, the latest records or the fault area. -/
  | faultRead (ref : CmdRef)
  /-- FAULT_CLASS_SET (R497). The FAULT_CLASS_SET command sets or reads a class's entry level, ceiling and merge time. -/
  | faultClassSet (ref : CmdRef)
  /-- UNIT_FENCE (R505). The UNIT_FENCE command fences a unit by command or by force. -/
  | unitFence (ref : CmdRef)
  /-- UNIT_TEST (R510). The UNIT_TEST command starts the online test of a fenced unit. -/
  | unitTest (ref : CmdRef)
  /-- UNIT_RETURN (R510). The UNIT_RETURN command returns a tested unit to service. -/
  | unitReturn (ref : CmdRef)
  /-- FIRST_CLEAR (R499). The FIRST_CLEAR command empties FLT_FIRST. -/
  | firstClear (ref : CmdRef)
  /-- DIAG_TEST (R512). The DIAG_TEST command tests a unit that cannot be fenced, in DIAG only. -/
  | diagTest (ref : CmdRef) (passed : Bool)
  /-- VDD_AON_GOOD (R520). VDD_AON becomes good, and the device enters RESET and loads fuses. -/
  | vddAonGood (fuseError : Bool)
  /-- VDD_AON_LOST (R520). VDD_AON is lost, and the device enters OFF. -/
  | vddAonLost
  /-- RAIL_RESET_LEVEL (R525). VDD_CORE or VDD_AON falls to its reset level, which resets the device with kind 4. -/
  | railResetLevel (rail : Nat)
  /-- RESET_N_ASSERT (R525). RESET_N is asserted for at least 1 µs, which resets the device. -/
  | resetNAssert
  /-- RESET_N_RELEASE (R548). RESET_N is high with good rails and clocks, and the device samples straps and enters WIPE. -/
  | resetNRelease (straps : Nat) (good : Bool)
  /-- WIPE_COMPLETE (R528). The on-die and LPDDR5X wipes end, and the device enters BOOT. -/
  | wipeComplete (found : WipeFound)
  /-- BOOT_IMAGE_ACCEPTED (R532). An image passes every check, the stores are loaded and the device enters STAGED. -/
  | bootImageAccepted (slotA slotB : List Byte)
  /-- HOST_BOOT_GO (R530). A write of SYS_HOST_BOOT_CTRL.GO starts the fetch of a host image over DC00. -/
  | hostBootGo (value : Word)
  /-- HOST_IMAGE_CHECKED (R530). A fetched host image is checked and accepted, or refused with FC240. -/
  | hostImageChecked (image : List Byte)
  /-- DRAIN_END (R521). Every queue is empty in DRAIN, and the device enters STAGED. -/
  | drainEnd
  /-- DRAIN_LIMIT (R521). DRAIN_LIMIT passes, the remaining queues are flushed and the device enters STAGED. -/
  | drainLimit
  /-- NONCE_EXPIRY (R535). A debug nonce expires 60 s after issue. -/
  | nonceExpiry
  /-- MODE_SET (R520). The MODE_SET command requests a mode transition. -/
  | modeSet (ref : CmdRef)
  /-- SYS_RESET (R537). The SYS_RESET command resets the device with kind 3. -/
  | sysReset (ref : CmdRef)
  /-- LC_ADVANCE (R534). The LC_ADVANCE command advances the life-cycle state and resets with kind 5. -/
  | lcAdvance (ref : CmdRef) (host : HostAns)
  /-- ROLLBACK_ADVANCE (R533). The ROLLBACK_ADVANCE command raises the rollback counter to the active SECURITY_VERSION. -/
  | rollbackAdvance (ref : CmdRef)
  /-- DEBUG_CHALLENGE (R535). The DEBUG_CHALLENGE command writes a fresh nonce and the device ID. -/
  | debugChallenge (ref : CmdRef)
  /-- DEBUG_UNLOCK (R535). The DEBUG_UNLOCK command verifies a signed response and grants debug. -/
  | debugUnlock (ref : CmdRef) (host : HostAns)
  /-- FLASH_WRITE (R537). The FLASH_WRITE command erases and programs a flash slot. -/
  | flashWrite (ref : CmdRef) (host : HostAns) (flashOk : Bool)
  /-- KEY_REVOKE (R534). The KEY_REVOKE command revokes a key slot. -/
  | keyRevoke (ref : CmdRef)
  /-- TAP_INSTRUCTION (R553). An instruction loaded into the TAP selects its register, or acts as BYPASS and records FC246 if refused. -/
  | tapInstruction (code : Byte) (scan : TapScan)
  /-- SIGNAL_DETECT (R87). A lane in CAL with calibration done first detects signal and starts auto-negotiation, training or adaptation. -/
  | signalDetect (lane : Nat)
  /-- CHANNEL_TRAINING_DONE (R408). A memory channel's initial training or retrain ends, succeeding or failing with FC176 or FC177, and held requests are served. -/
  | channelTrainingDone (ch : Nat) (t : TrainRes)
  /-- NO_ACCEPTABLE_IMAGE (R529). BOOT finds no acceptable flash image, records FC241 and sets HOST_WAIT. -/
  | noAcceptableImage
  /-- LANE_GROUP_CLOCK_LOCK (R28). CLK_LGnn re-locks after a change of the group's highest lane rate, or fails to re-lock and records FC019. -/
  | laneGroupClockLock (group : Nat) (ok : Bool)
deriving DecidableEq, Repr

end Sys2Proof
end

