-- ==== Sys2Proof/Config.lean ====
section
/-! DEFINITION. What a part or its surroundings fix and the spec leaves open: constants without a body, so that no
proof can see their values. -/
namespace Sys2Proof

/-- The n-th free value (log entry 4): a random number the spec does not give (R258, R453, R535). -/
opaque Config.freeValue : Nat → BitVec 64

/-- The fused 16-byte device ID (R535, SYS_DEVICE_ID). -/
opaque Config.deviceId : List Byte

/-- The fused voltage table PWR_VF: millivolts of core regulator and step (R463). -/
opaque Config.fusedMv : Nat → Nat → Nat

/-- The fused frequency in MHz of a point of step class 3 (R461, PWR_VF), which the spec does not give. -/
opaque Config.fusedMhz : Nat → Nat

/-- The fused hash of key slot 0, the manufacturing key (R532, Table 19.9). -/
opaque Config.mfgKeyHash : List Byte

/-- SHA-384 of a byte string (R531, R532, R535): uninterpreted. -/
opaque Config.sha384 : List Byte → List Byte

/-- Whether a 96-byte ECDSA P-384 signature of a 48-byte digest verifies under a 96-byte public key (R531, R535):
uninterpreted. -/
opaque Config.ecdsaOk : List Byte → List Byte → List Byte → Bool

/-- The words of the wipe store (R384), whose contents the spec does not give. -/
opaque Config.wipeStore : Nat → BitVec 128

/-- The bank of an item of the mirrored region (R196), by memory and item: the spec does not say where an item lies. -/
opaque Config.mirrorBank : Nat → Nat → BitVec 8

/-- CRC-16 of a FlexE overhead frame over its fields (R148), which OIF FlexE IA 2.2 lays down: uninterpreted. -/
opaque Config.overheadCrc : List Nat → BitVec 16

end Sys2Proof
end

