-- ==== Sys2Proof/Machine/Bits.lean ====
section
/-! DEFINITION. Bit fields, byte order, sign and saturation: the numbers that registers, records and frames are made
of (R6: layouts in BAR space and host memory are little-endian, layouts on the wire are big-endian). -/
namespace Sys2Proof.Machine

/-- Field of `w` bits of `n` that starts at bit `lo`. -/
def fld (n lo w : Nat) : Nat := n / 2 ^ lo % 2 ^ w

/-- Bit `i` of `n`. -/
def bitAt (n i : Nat) : Bool := n / 2 ^ i % 2 == 1

/-- A flag as a bit. -/
def b2n (b : Bool) : Nat := if b then 1 else 0

/-- `n` with its field of `w` bits at `lo` set to `v`. -/
def setFld (n lo w v : Nat) : Nat := n - fld n lo w * 2 ^ lo + v % 2 ^ w * 2 ^ lo

/-- `k` bytes of `v`, least significant byte first (R6). -/
def le (k v : Nat) : List Byte := (List.range k).map fun i => BitVec.ofNat 8 (v / 256 ^ i)

/-- `k` bytes of `v`, most significant byte first (R6). -/
def be (k v : Nat) : List Byte := (le k v).reverse

/-- The number that bytes give, least significant byte first. -/
def leNat : List Byte → Nat
  | [] => 0
  | b :: bs => b.toNat + 256 * leNat bs

/-- The number that bytes give, most significant byte first. -/
def beNat (bs : List Byte) : Nat := leNat bs.reverse

/-- `k` zero bytes. -/
def zeros (k : Nat) : List Byte := List.replicate k 0

/-- `k` bytes from offset `off`; bytes past the end read as 0. -/
def slice (bs : List Byte) (off k : Nat) : List Byte :=
  let t := (bs.drop off).take k
  t ++ zeros (k - t.length)

/-- The little-endian field of `k` bytes at offset `off`. -/
def leAt (bs : List Byte) (off k : Nat) : Nat := leNat (slice bs off k)

/-- The big-endian field of `k` bytes at offset `off`. -/
def beAt (bs : List Byte) (off k : Nat) : Nat := beNat (slice bs off k)

/-- The byte at offset `off`. -/
def byteAt (bs : List Byte) (off : Nat) : Nat := (bs.getD off 0).toNat

/-- `bs` cut or filled with zero bytes to `k` bytes. -/
def fit (k : Nat) (bs : List Byte) : List Byte := slice bs 0 k

/-- `bs` with the bytes from offset `off` replaced by `v`, as far as `bs` reaches. -/
def splice (bs : List Byte) (off : Nat) (v : List Byte) : List Byte :=
  (bs.take off ++ v ++ bs.drop (off + v.length)).take bs.length

/-- The two's-complement number that the low `w` bits of `n` give. -/
def toS (w n : Nat) : Int :=
  let m := n % 2 ^ w
  if m < 2 ^ (w - 1) then (m : Int) else (m : Int) - (2 ^ w : Nat)

/-- The low `w` bits of the two's complement of `i`. -/
def ofS (w : Nat) (i : Int) : Nat := (i % ((2 ^ w : Nat) : Int)).toNat

/-- `n` held at the largest value of `w` bits. -/
def sat (w n : Nat) : Nat := min n (2 ^ w - 1)

/-- A byte. -/
def byte (n : Nat) : Byte := BitVec.ofNat 8 n

/-- Bits, bit 0 first, as a number. -/
def ofBits : List Bool → Nat
  | [] => 0
  | b :: bs => b2n b + 2 * ofBits bs

/-- Whether every reserved byte of a layout is 0. -/
def allZero (bs : List Byte) : Bool := bs.all (· == 0)

/-- `bs` in pieces of `k` bytes, at most `n` of them. -/
def chunks (k : Nat) : Nat → List Byte → List (List Byte)
  | 0, _ => []
  | n + 1, bs => if bs.isEmpty then [] else bs.take k :: chunks k n (bs.drop k)

end Sys2Proof.Machine
end

