-- ==== Sys2Proof/Machine/Tab.lean ====
section
/-! DEFINITION. Sparse tables and the block's byte memories in one canonical form: keys strictly rising, no entry
equal to what an unlisted key reads as. -/
namespace Sys2Proof.Machine

variable {α : Type}

/-- The entry of key `k`; `d` where the table lists none. -/
def tgetD (t : Tab α) (k : Nat) (d : α) : α :=
  match t with
  | [] => d
  | (j, v) :: r => if j = k then v else tgetD r k d

/-- Put `v` in a table at a place of its own. -/
def tput (t : Tab α) (k : Nat) (v : α) : Tab α :=
  match t with
  | [] => [(k, v)]
  | (j, w) :: r => if k < j then (k, v) :: (j, w) :: r else if k = j then (k, v) :: r else (j, w) :: tput r k v

/-- Take every entry of key `k` out of a table. -/
def tdrop (t : Tab α) (k : Nat) : Tab α :=
  match t with
  | [] => []
  | (j, w) :: r => if j = k then tdrop r k else (j, w) :: tdrop r k

/-- Write `v` at key `k` of a table whose unlisted keys read as `d`. -/
def tsetD [DecidableEq α] (t : Tab α) (k : Nat) (v d : α) : Tab α :=
  if v = d then tdrop t k else tput t k v

/-- The entry of key `k` of a table whose unlisted keys read as the default of the entry type. -/
def tget [Inhabited α] (t : Tab α) (k : Nat) : α := tgetD t k default

/-- Write `v` at key `k`. -/
def tset [DecidableEq α] [Inhabited α] (t : Tab α) (k : Nat) (v : α) : Tab α := tsetD t k v default

/-- Change the entry of key `k` by `f`. -/
def tmod [DecidableEq α] [Inhabited α] (t : Tab α) (k : Nat) (f : α → α) : Tab α := tset t k (f (tget t k))

/-- Keys strictly rising. -/
def trising : Tab α → Bool
  | [] => true
  | [_] => true
  | (j, _) :: (k, w) :: r => decide (j < k) && trising ((k, w) :: r)

/-- The canonical form of a table. -/
def twf [DecidableEq α] [Inhabited α] (t : Tab α) : Bool :=
  trising t && t.all fun e => decide (e.2 ≠ default)

/-- A byte memory of the block: unlisted bytes read 0 (R528: WIPE zeroes every memory). -/
abbrev Memory := Tab Byte

/-- The canonical form of a byte memory. -/
def Memory.wf (m : Memory) : Bool := twf m

/-- `n` bytes of a memory from address `a`. -/
def mread (m : Memory) (a : Nat) : Nat → List Byte
  | 0 => []
  | n + 1 => tget m a :: mread m (a + 1) n

/-- Write bytes into a memory from address `a` on. -/
def mwrite (m : Memory) (a : Nat) : List Byte → Memory
  | [] => m
  | b :: bs => mwrite (tset m a b) (a + 1) bs

/-- Zero `n` bytes from address `a`: entries of those addresses leave the list. -/
def mzero (m : Memory) (a n : Nat) : Memory := m.filter fun e => !(decide (a ≤ e.1) && decide (e.1 < a + n))

/-- Change every listed entry by `f`. -/
def tmap [DecidableEq α] [Inhabited α] (t : Tab α) (f : Nat → α → α) : Tab α :=
  t.foldl (fun a e => tset a e.1 (f e.1 e.2)) t

/-- Change every key `i < n` of a table by `f i`. -/
def tmodAll [DecidableEq α] [Inhabited α] (t : Tab α) (f : Nat → α → α) : Nat → Tab α
  | 0 => t
  | n + 1 => tmod (tmodAll t f n) n (f n)

end Sys2Proof.Machine
end

