-- ==== Sys2Proof/Machine/Regs.lean ====
section
/-! DEFINITION. The BAR0 registers: where each lies, what it holds after reset, and which of its bits a write sets
(R8, R10 and the register tables of the chapters). -/
namespace Sys2Proof.Machine

/-- A BAR0 register or array of registers. Element `n` of an array stands at
`base + hi × (n ÷ per) + lo × (n mod per)`. `wide` registers take two words, low word first (R9). Masks are over the
whole register. Bits that are neither `rw`, `w1c` nor `rc` are read-only, write-only or reserved, and their value is
computed from the state when they are read. -/
structure RegDesc where
  base : Nat
  count : Nat := 1
  hi : Nat := 0
  per : Nat := 1
  lo : Nat := 0
  wide : Bool := false
  rw : Nat := 0
  w1c : Nat := 0
  rc : Nat := 0
  reset : Nat → Nat := fun _ => 0

/-- BAR0 address of element `n`. -/
def RegDesc.addr (r : RegDesc) (n : Nat) : Nat := r.base + r.hi * (n / r.per) + r.lo * (n % r.per)

/-- Reset value of the word of element `n` at word `w` (0 low, 1 high). -/
def RegDesc.resetWord (r : RegDesc) (n w : Nat) : Word := BitVec.ofNat 32 (r.reset n / 2 ^ (32 * w))

/-- Which element and word of a register an aligned address names. -/
def RegDesc.find (r : RegDesc) (a : Nat) : Option (Nat × Nat) :=
  if a < r.base then none else
  let off := a - r.base
  let k := if r.hi = 0 then 0 else off / r.hi
  let rest := off - r.hi * k
  let j := if r.lo = 0 then 0 else rest / r.lo
  let w := (rest - r.lo * j) / 4
  let n := k * r.per + j
  if decide (n < r.count) && decide (j < r.per) && decide (w < (if r.wide then 2 else 1)) &&
      decide (r.addr n + 4 * w = a) then some (n, w) else none

namespace Reg

/-! ### Host interface (Tables 2.2 to 2.9) -/
def hifCtrl : RegDesc := { base := 0x0400000, rw := 0x7 }
def hifLinkStat : RegDesc := { base := 0x0400004 }
def hifSummaryAddr : RegDesc := { base := 0x0400100, wide := true, rw := 0xFFFFFFFFFFFFFFC0 }
def hifSummaryCtrl : RegDesc := { base := 0x0400108 }
def hifEventRoute : RegDesc := { base := 0x0400200, count := 12, hi := 4, rw := 0x1FF }
def hifRingBase : RegDesc := { base := 0x0401000, count := 256, hi := 32, wide := true, rw := 0xFFFFFFFFFFFFF000 }
def hifRingCfg : RegDesc := { base := 0x0401008, count := 256, hi := 32, rw := 0x3FFFFF }
def hifRingStat : RegDesc := { base := 0x040100C, count := 256, hi := 32 }
def hifDmaCfg : RegDesc := { base := 0x0403000, count := 64, hi := 16, rw := 0x1FF }
def hifDmaStat : RegDesc := { base := 0x0403004, count := 64, hi := 16 }
def hifDmaCtrl : RegDesc := { base := 0x0403008, count := 64, hi := 16 }
/-- The MSI-X table (R36): 257 entries of 4 words. Each vector is masked at reset, as PCI Express lays it down. -/
def msixTable : RegDesc :=
  { base := 0x0408000, count := 1028, hi := 4, rw := 0xFFFFFFFF, reset := fun n => if n % 4 = 3 then 1 else 0 }
def msixPba : RegDesc := { base := 0x040A000, count := 10, hi := 4 }

/-! ### Boot and security (Table 19.15) -/
def sysStatus : RegDesc := { base := 0x0000000 }
def sysStraps : RegDesc := { base := 0x0000004 }
def sysImage : RegDesc := { base := 0x0000008 }
def sysImageInfo : RegDesc := { base := 0x000000C }
def sysResetStat : RegDesc := { base := 0x0000010, rc := 0xFF00 }
def sysDrain : RegDesc := { base := 0x0000014, rw := 0xFFFF, reset := fun _ => 100 }
def sysHostBootAddr : RegDesc := { base := 0x0000020, wide := true, rw := 0xFFFFFFFFFFFFF000 }
def sysHostBootCtrl : RegDesc := { base := 0x0000028, rw := 0x7FFFFF }
def sysDeviceId : RegDesc := { base := 0x0000040, count := 4, hi := 4 }
def sysPriorFirst : RegDesc := { base := 0x0000100, count := 16, hi := 4 }

/-! ### Time (Table 15.9) -/
def timCtrl : RegDesc := { base := 0x3400000, rw := 0x3F }
def timTbCfg : RegDesc := { base := 0x3400100, count := 4, hi := 0x40, rw := 0x1FFFF07, reset := fun _ => 4 + 1000 * 256 }
def timTbStat : RegDesc := { base := 0x3400104, count := 4, hi := 0x40, w1c := 8 }
def timPpsOut : RegDesc := { base := 0x3400200, count := 2, hi := 8, rw := 0xFFFFF007, reset := fun _ => 100 * 4096 }
def timPpsOfs : RegDesc := { base := 0x3400204, count := 2, hi := 8, rw := 0xFFFFFFFF }
def timTodCfg : RegDesc := { base := 0x3400300, rw := 0xFFFFFFFF, reset := fun _ => 1736 * 2 + 37 * 65536 }
def timEventCfg : RegDesc := { base := 0x3400310, rw := 0x1FFFFF }

/-! ### Fault manager (Table 18.12) -/
/-- Default entry level of a fault class, from the owners' tables (3.10, 4.4, 5.10, 6.9, 7.9, 8.10, 9.6, 10.6, 11.14,
12.5, 13.9, 14.3, 15.6, 16.7, 17.5, 18.8 and 19.12). Every other class enters at NOTE. -/
def entryDefault (c : Nat) : Nat :=
  if [16, 21, 36, 48, 53, 66, 67, 70, 71, 72, 73, 82, 83, 97, 100, 112, 114, 128, 134, 144, 146, 160, 165, 167, 177,
      178, 195, 208, 213, 224, 225, 228, 229, 231, 249].contains c then 2
  else if [1, 17, 19, 20, 32, 64, 68, 80, 89, 96, 130, 131, 163, 166, 176, 181, 183, 192, 243, 248].contains c then 3
  else if [5, 6, 102, 115, 136, 147, 162, 215, 234, 247].contains c then 4
  else if [227, 244, 251].contains c then 5
  else 1
/-- Ceiling at reset (R496). -/
def ceilingDefault (c : Nat) : Nat := if entryDefault c ≤ 3 then 4 else 5
/-- Classes their owners declare fixed (R497, R481 and Table 19.12). -/
def clsFixed (c : Nat) : Bool := c == 227 || c == 244
def fltCtrl : RegDesc := { base := 0x3C00000, rw := 0x7, reset := fun _ => 2 }
def fltStat : RegDesc := { base := 0x3C00004 }
def fltLive : RegDesc := { base := 0x3C00100, count := 8, hi := 4 }
def fltUnack : RegDesc := { base := 0x3C00120, count := 8, hi := 4 }
def fltFirst : RegDesc := { base := 0x3C00200, count := 16, hi := 4 }
def fltClassCfg : RegDesc :=
  { base := 0x3C01000, count := 256, hi := 4, rw := 0xFF3F,
    reset := fun c => entryDefault c + 8 * ceilingDefault c + (if clsFixed c then 64 else 0) + 256 }

/-! ### Lanes (Tables 3.12 to 3.17) -/
def lanMacroCfg : RegDesc := { base := 0x0800000, count := 128, hi := 0x8000, rw := 0x1F }
def lanMacroStat : RegDesc := { base := 0x0800004, count := 128, hi := 0x8000 }
def lanLaneCfg : RegDesc :=
  { base := 0x0801000, count := 1024, hi := 0x8000, per := 8, lo := 0x100, rw := 0xFF, reset := fun _ => 0x60 }
def lanLaneStat : RegDesc := { base := 0x0801004, count := 1024, hi := 0x8000, per := 8, lo := 0x100 }
def lanLaneTxffe : RegDesc :=
  { base := 0x0801008, count := 1024, hi := 0x8000, per := 8, lo := 0x100, wide := true, rw := 0xFFFFFFFFFFFF,
    reset := fun _ => 0x38F80000 }
def lanLaneRx : RegDesc :=
  { base := 0x0801010, count := 1024, hi := 0x8000, per := 8, lo := 0x100, rw := 0xFFFFF31F,
    reset := fun _ => 1700 * 65536 + 3 * 4096 + 2 * 256 + 12 }

/-! ### Ports (Tables 4.9 to 4.19) -/
def macMacroMode : RegDesc := { base := 0x0E00000, count := 128, hi := 0x40, rw := 0xFF }
def macPortCfg : RegDesc :=
  { base := 0x0C00000, count := 1024, hi := 0x800, rw := 0x3FFFFF0F, reset := fun _ => 10 * 256 + 9216 * 65536 }
def macPortStat : RegDesc := { base := 0x0C00004, count := 1024, hi := 0x800 }
def macPfcCfg : RegDesc :=
  { base := 0x0C00008, count := 1024, hi := 0x800, rw := 0xFFFFFFFF, reset := fun _ => 0xFFFF0000 }
def macPfcRefresh : RegDesc := { base := 0x0C0000C, count := 1024, hi := 0x800, rw := 0xFFFF, reset := fun _ => 0x8000 }
def macPfcWd : RegDesc := { base := 0x0C00010, count := 1024, hi := 0x800, rw := 0xFFFFFFFF, reset := fun _ => 100 * 2 ^ 18 }
def macFecDegrade : RegDesc := { base := 0x0C00014, count := 1024, hi := 0x800, rw := 0xFFFFFFFF }
def macGateCfg : RegDesc := { base := 0x0C00018, count := 1024, hi := 0x800, rw := 0xF, reset := fun _ => 8 }
def macMcLevel : RegDesc := { base := 0x0C0001C, count := 1024, hi := 0x800, rw := 0xFFF }
def macPortSa : RegDesc := { base := 0x0C00020, count := 1024, hi := 0x800, wide := true, rw := 0xFFFFFFFFFFFF }
/-- Element p × 8 + c. -/
def macPfcXoff : RegDesc :=
  { base := 0x0C00040, count := 8192, hi := 0x800, per := 8, lo := 8, rw := 0xFFFFFFFF, reset := fun _ => 0xFFFFFFFF }
def macPfcXon : RegDesc := { base := 0x0C00044, count := 8192, hi := 0x800, per := 8, lo := 8, rw := 0xFFFFFFFF }

/-! ### Slotted layer (Tables 5.11 to 5.14) -/
def sltCtrl : RegDesc := { base := 0x1000000, rw := 0x7 }
def sltGroupCfg : RegDesc := { base := 0x1001000, count := 32, hi := 16, rw := 0xFFFFFF, reset := fun _ => 0x200000 }
def sltGroupBase : RegDesc := { base := 0x1001004, count := 32, hi := 16, rw := 0xFFF }
def sltGroupStat : RegDesc := { base := 0x1001008, count := 32, hi := 16 }

/-! ### Telemetry (Table 16.10) -/
def telCtrl : RegDesc := { base := 0x3800000, rw := 0x1, reset := fun _ => 1 }
def telGauzeBase : RegDesc := { base := 0x3800100, wide := true, rw := 0xFFFFFFFFFFFFF000 }
def telGauzeCfg : RegDesc := { base := 0x3800108, rw := 0xFFF, reset := fun _ => 10 * 2 + 4 * 64 }
def telGauzeRate : RegDesc := { base := 0x3800110, count := 3, hi := 4, rw := 0xFFFFFFFF }
def telGauzeDropMask : RegDesc := { base := 0x3800120, rw := 0xFFFFE }
def telGauzeStat : RegDesc := { base := 0x3800124 }

/-! ### Pipes (Tables 6.11 to 6.15, 8.12 to 8.14) -/
def parseCfg : RegDesc := { base := 0x1400000, rw := 0xFFFFF, reset := fun _ => 64 }
def parseSeed : RegDesc := { base := 0x1400004, rw := 0xFFFFFFFF, reset := fun _ => 0xFFFFFFFF }
def parseErr : RegDesc := { base := 0x1400008, rw := 0x1F1F, reset := fun _ => 0x1D }
def parseStat : RegDesc := { base := 0x1400100, count := 16, hi := 4, rc := 0xFF }
def puntRing : RegDesc := { base := 0x1400200, count := 8, hi := 4, rw := 0x1FF }
def egressCfg : RegDesc := { base := 0x1400300, rw := 0x1F, reset := fun _ => 7 }
def ioamNode : RegDesc := { base := 0x1400304, rw := 0xFFFFFF }
def ioamInsert : RegDesc := { base := 0x1400308, rw := 0xFFFFFFF, reset := fun _ => 0xF8 * 65536 + 4 * 2 ^ 24 }

/-! ### Tables (Tables 7.12 and 7.13) -/
def tblCtrl : RegDesc := { base := 0x1800000, rw := 0x7 }
def tblSeed0 : RegDesc := { base := 0x1800004, rw := 0xFFFFFFFF, reset := fun _ => 0xFFFFFFFF }
def tblSeed1 : RegDesc := { base := 0x1800008, rw := 0xFFFFFFFF }
def tblLearn : RegDesc := { base := 0x1800010, rw := 0xFFFFFFFF, reset := fun _ => 100 + 1024 * 65536 }
def tblShadowCfg : RegDesc := { base := 0x1800014, rw := 0x7FFFFFF, reset := fun _ => 1000 + 2000 * 65536 }
def tblAr : RegDesc := { base := 0x1800018, rw := 0xFFFFFFFF, reset := fun _ => 64 }
def tblTcamMode : RegDesc := { base := 0x1800020, wide := true, rw := 0xFFFFFFFFFFFF }
def tblShadowBase : RegDesc := { base := 0x1800100, count := 6, hi := 16, wide := true, rw := 0xFFFFFFFFFFFFFFC0 }
def tblShadowLen : RegDesc := { base := 0x1800108, count := 6, hi := 16, rw := 0xFFFFFFFF }
def tblType : RegDesc := { base := 0x1801000, count := 64, hi := 4, rw := 0xFFFF03FF, reset := fun _ => 300 * 65536 }

/-! ### Buffer (Tables 9.11 to 9.14) -/
def bufCtrl : RegDesc := { base := 0x1C00000, rw := 0x1F, reset := fun _ => 2 }
def bufMcFloor : RegDesc := { base := 0x1C00004, rw := 0xFFFFF, reset := fun _ => 4096 }
def bufPoolSize : RegDesc :=
  { base := 0x1C00010, count := 4, hi := 8, rw := 0xFFFFF, reset := fun k => if k = 0 then 753664 else if k = 3 then 16384 else 0 }
def bufPoolReserve : RegDesc := { base := 0x1C00014, count := 4, hi := 8, rw := 0xFFFFF }
def bufHeadroom : RegDesc := { base := 0x1C00030, rw := 0xFFFFF }
def bufStage : RegDesc := { base := 0x1C00034, rw := 0xFFFFF, reset := fun _ => 16384 }
def bufSpillBase : RegDesc := { base := 0x1C00040, wide := true, rw := 0xFFFFFFFFFFFF0000 }
def bufSpillBlocks : RegDesc := { base := 0x1C00048, rw := 0x1FFFFF }
def bufSpillShare : RegDesc := { base := 0x1C0004C, rw := 0xFF, reset := fun _ => 64 }

/-! ### Scheduling (Tables 10.8 and 10.9) -/
def schCtrl : RegDesc := { base := 0x2000000, rw := 0x7, reset := fun _ => 1 }
def schTmStat : RegDesc := { base := 0x2000010, count := 4, hi := 4 }

/-! ### LPDDR5X (Tables 14.4 to 14.7) -/
def memCtrl : RegDesc := { base := 0x3000000, rw := 0xFFFFFF1F, reset := fun _ => 2 + 4 + 10 * 256 + 24 * 65536 }
def memCfg : RegDesc := { base := 0x3000004 }
def memUsable : RegDesc := { base := 0x3000008 }
def memChanStat : RegDesc := { base := 0x3000100, count := 32, hi := 4, rc := 0xFFFF0000 }

/-! ### Collectives (Tables 11.19 to 11.22) -/
def colCtrl : RegDesc := { base := 0x2400000, rw := 0x7 }
def colEncap : RegDesc := { base := 0x2400004, rw := 0xFFFFFFFF }
def colOvfBase : RegDesc := { base := 0x2400008, wide := true, rw := 0xFFFFFFFFFFFF0000 }
def colOvfBlocks : RegDesc := { base := 0x2400010, rw := 0x1FFFFF }
def colClusterStat : RegDesc := { base := 0x2400020, count := 4, hi := 4 }

/-! ### Power (Table 17.9) -/
def pwrCtrl : RegDesc := { base := 0x3E00000, rw := 0x3, reset := fun _ => 3 }
def pwrLimit : RegDesc := { base := 0x3E00004, rw := 0x7FFFFFFF, reset := fun _ => 1000 + 10 * 2048 + 900 * 2 ^ 20 }
def pwrPolicy : RegDesc := { base := 0x3E00008, rw := 0xFFFFFF3F, reset := fun _ => 10 * 256 + 2000 * 65536 }
def pwrTherm : RegDesc := { base := 0x3E0000C, rw := 0xFFF, reset := fun _ => 100 + 3 * 256 }
def pwrDroop : RegDesc := { base := 0x3E00010, rw := 0xFF, reset := fun _ => 40 }
def pwrStat : RegDesc := { base := 0x3E00014 }
def pwrVr : RegDesc := { base := 0x3E00100, count := 16, hi := 4, rw := 0xFFFF0FFF }
def pwrVf : RegDesc := { base := 0x3E00400, count := 32, hi := 4 }

/-! ### Buffer pools (Tables 12.9 to 12.13) -/
def poolCtrl : RegDesc := { base := 0x2800000, rw := 0x1 }
def poolSCount : RegDesc :=
  { base := 0x2800010, count := 4, hi := 4, rw := 0xFFFF, reset := fun k => [4096, 1024, 512, 256].getD k 0 }
def poolMBase : RegDesc := { base := 0x2800020, wide := true, rw := 0xFFFFFFFFFFC00000 }
/-- Element k − 4. -/
def poolMCount : RegDesc := { base := 0x2800030, count := 4, hi := 4, rw := 0x1FFFFF }
def poolFreeStat : RegDesc := { base := 0x2800100, count := 8, hi := 4, w1c := 0x80000000 }

/-! ### Serge (Tables 13.12 and 13.13) -/
def seqCtrl : RegDesc := { base := 0x2C00000, rw := 0xFFFF0001, reset := fun _ => 1 + 10000 * 65536 }
def seqEngineStat : RegDesc := { base := 0x2C00010, count := 8, hi := 4, rc := 0xFFFF0000 }

end Reg

end Sys2Proof.Machine
end

