-- ==== Sys2Proof/Machine/Types/Common.lean ====
section
/-! DEFINITION. State types shared by the subsystems: events, commands in flight, output. -/
namespace Sys2Proof.Machine

/-- An event descriptor of Table 2.12, before PHASE is known. -/
structure Event where
  code : Nat := 0
  tag : Nat := 0
  status : Nat := 0
  async : Bool := false
  late : Bool := false
  /-- wrap phase of TIMESTAMP -/
  ph : Nat := 0
  src : Nat := 0
  ch : Nat := 255
  ts : Nat := 0
  seq : Nat := 0
  done : Nat := 0
  left : Nat := 0
  payload : List Byte := []
deriving DecidableEq, Repr, Inhabited

/-- What waits in an event ring's backlog (R46): an event, or the place of `n` discarded events. -/
inductive Waiting where
  | ev (e : Event)
  | lost (n : Nat)
deriving DecidableEq, Repr, Inhabited

/-- Stage of a command in flight: fetched and not started (it waits for its turn, R57), running, or complete and
waiting for event ring space (Table 2.20). -/
inductive CmdStage where
  | fetched | running | waiting
deriving DecidableEq, Repr, Inhabited

/-- A command in flight (R47, R56). `evRing` is its resolved completion ring (R561). -/
structure Cmd where
  ring : Nat := 0
  seq : Nat := 0
  tag : Nat := 0
  opcode : Nat := 0
  noEvent : Bool := false
  ordered : Bool := false
  evRing : Nat := 0
  ch : Nat := 0
  addr : Nat := 0
  len : Nat := 0
  ops : List Byte := []
  stage : CmdStage := .fetched
  /-- in flight when PERST_N was asserted: it runs on and its event is discarded (R527) -/
  orphan : Bool := false
deriving DecidableEq, Repr, Inhabited

/-- The outcome of a command's owner: STATUS, PAYLOAD and the bytes it gives the host buffer. -/
structure CmdRes where
  status : Nat := 0
  payload : List Byte := []
  data : List Byte := []
  /-- the host refused the read of its buffer after this many bytes -/
  refused : Bool := false
  arrived : Nat := 0
deriving DecidableEq, Repr, Inhabited

/-- Where a lane's transmitter or receiver takes its symbols from (Table 3.6): its port or line, the pattern generator, the
recovered receive symbols, its own transmitter inside the macro, or the digital boundary to CLK_LGnn. -/
inductive LaneSrc where
  | line | pattern (k : Nat) | recovered | ownTx | digital
deriving DecidableEq, Repr, Inhabited

/-- What one instance of a FlexE group sends in its overhead, but for what changes from frame to frame (R148): the calendars
are the client numbers of its 20 slots. SC is 0 and the management channels are zero. -/
structure TxOverhead where
  groupNum : Nat := 0
  phyMap : Nat := 0
  phyNum : Nat := 0
  instNum : Nat := 0
  c : Nat := 0
  cr : Nat := 0
  ca : Nat := 0
  calA : List Nat := []
  calB : List Nat := []
  rpf : Bool := false
  sc : Nat := 0
deriving DecidableEq, Repr, Inhabited

/-- What a FlexE slot carries on transmit (R148, R160, R161): Error control blocks, Local Fault ordered sets, or the blocks of a
terminated or an interchanged client, of whose slots it is the `turn`-th in ascending order (R162). -/
inductive SlotFill where
  | error | localFault
  | terminated (client turn : Nat)
  | interchanged (client turn : Nat)
deriving DecidableEq, Repr, Inhabited

/-- What the block sends out, as its surroundings see it. -/
inductive Out where
  /-- a posted write of an event or a write-back, without relaxed ordering (R35, R44, R50), or of the Linen record (2.8) -/
  | hostWrite (addr : Nat) (bytes : List Byte)
  /-- a posted write request of a descriptor's data, with relaxed ordering (R35, R60); its byte enables cover these bytes
  only (R61) -/
  | hostData (addr : Nat) (bytes : List Byte)
  /-- a read request of a descriptor's data, in whole dwords (R60, R61) -/
  | hostRead (addr len : Nat)
  /-- a zero-length flush read to the last written address (R63) -/
  | flushRead (addr : Nat)
  /-- an MSI-X interrupt (R35, R43, R494) -/
  | msix (vector : Nat)
  /-- the completion of a BAR read (R8, R9, R40) -/
  | readData (addr : Nat) (value : Word)
  /-- a frame, or as much of it as left before a stomp, on a port's transmit lanes -/
  | frame (port : Nat) (bytes : List Byte) (stomped : Bool)
  /-- a PFC or PAUSE frame (R124, R125) -/
  | macControl (port : Nat) (bytes : List Byte)
  /-- a lane's transmitter squelched or released (R87, R103) -/
  | squelch (lane : Nat) (on : Bool)
  /-- the paths of a lane's transmitter and receiver as a test begins or ends (R95) -/
  | lanePath (lane : Nat) (tx rx : LaneSrc)
  /-- a wake pattern on a port's lanes (R140) -/
  | wakePattern (port : Nat)
  /-- the link fault sequence that a port's transmitter sends from now on (R120) -/
  | linkFault (port : Nat) (seq : FaultSeq)
  /-- link up or down as fast failover sees it (R119, R231) -/
  | linkSignal (port : Nat) (up : Bool)
  /-- an answer to a link partner's training request (R83): 0 held, 1 updated, 2 at limit -/
  | tapAnswer (lane tap answer : Nat)
  /-- the overhead that the instances of a FlexE group send from now on, in order (R148, R163) -/
  | overhead (group : Nat) (insts : List TxOverhead)
  /-- what the slots of a FlexE group carry from now on, in order (R148, R160) -/
  | slots (group : Nat) (fills : List SlotFill)
  /-- a pulse of WIDTH µs on PPS_OUT0 or PPS_OUT1, OFFSET ns from the second boundary (R433) -/
  | pps (k width : Nat) (offset : Int)
  /-- a message on TOD_OUT (Table 15.5), at so many cycles of CLK_SB a bit -/
  | tod (div : Nat) (bytes : List Byte)
  /-- a level of ALIVE_OUT (R513) -/
  | alive (level : Bool)
  /-- a level of THERMTRIP_N: true means asserted (R481) -/
  | thermtrip (on : Bool)
  /-- an AVSBus or PMBus command to a regulator (R465, R486) -/
  | vr (index command value : Nat)
  /-- a flash slot is erased and programmed from an offset on (R537) -/
  | flash (slot offset : Nat) (bytes : List Byte)
  /-- cells that a pass of the TAP shifts out at TDO, first out first (R553, R554) -/
  | tdo (cells : List ScanCell)
  /-- the boundary cells that a TAP instruction makes drive their balls or lanes, with their levels (R99, R553, R554); none
  where every output floats (HIGHZ) -/
  | boundary (instruction : Nat) (driven : List (Nat × Bool))
deriving DecidableEq, Repr, Inhabited

end Sys2Proof.Machine
end

