-- ==== Sys2Proof/Machine/Types/Buf.lean ====
section
/-! DEFINITION. The shared buffer's state (09_buffer_and_spill.md). -/
namespace Sys2Proof.Machine

/-- The cells of a stored packet, shared by its replicas and copies (R252). -/
structure Cells where
  refs : Nat := 0
  /-- cells that each trimmed replica among the references keeps (R259) -/
  parts : List Nat := []
  /-- pool 0 to 3; 4 headroom; 5 none on die -/
  pool : Nat := 0
  /-- cells charged to the reserved and to the shared part -/
  res : Nat := 0
  sh : Nat := 0
  /-- charged to headroom account (port, class), in cells or units -/
  head : Option (Nat × Nat × Nat) := none
  /-- counted in O(port, class): cells or units (R122) -/
  port : Nat := 0
  cls : Nat := 0
  occ : Nat := 0
  /-- banks of the cells, in order (R269) -/
  banks : List Nat := []
  /-- of a spilled packet: bank + 1 of each unit that lies in a staging cell (write assembly or prefetch), by unit -/
  staged : Tab Nat := []
  /-- a cell of it is lost (R295) -/
  lost : Bool := false
deriving DecidableEq, Repr, Inhabited

/-- A block of a spill run that is not yet read back (R280, R285). -/
structure RBlock where
  id : Nat := 0
  /-- position in the run of the block's first place -/
  base : Nat := 0
  /-- position of its first unit that is not read back, its units from there on, and those of them written to Burlap; the rest is
  in write assembly -/
  start : Nat := 0
  n : Nat := 0
  w : Nat := 0
  reading : Bool := false
  lost : Bool := false
deriving DecidableEq, Repr, Inhabited

/-- A queue: its packets in order of admission and its spill run (R276, Table 9.4). -/
structure Queue where
  pkts : List Nat := []
  /-- cells of the packets stored on die -/
  ondie : Nat := 0
  spilling : Bool := false
  /-- readback of the run has begun (R285) -/
  began : Bool := false
  blocks : List RBlock := []
  /-- units appended and read back, counted from the first run -/
  appended : Nat := 0
  readPos : Nat := 0
  /-- largest run since it was opened, and since the last BUF_QUEUE_READ, in blocks -/
  runPeak : Nat := 0
  peak : Nat := 0
  /-- channel rotation of the run -/
  rot : Nat := 0
deriving DecidableEq, Repr, Inhabited

structure BufState where
  queues : Tab Queue := []
  cells : Tab Cells := []
  nextCid : Nat := 0
  /-- queue profiles (Table 9.2); profile 0 is as R298 gives it -/
  profiles : Tab Nat := [(0, 2 + 7 * 2 ^ 16 + 4 * 2 ^ 24 + 786432 * 2 ^ 64)]
  map : Tab Nat := []
  /-- H(p, c), keyed p × 8 + c -/
  limit : Tab Nat := []
  /-- next bank by ingress pipe, 16 for the clusters (R269) -/
  rot : Tab Nat := []
  spillPeak : Nat := 0
  /-- the queue whose run was read back last (R286) -/
  readLast : Nat := 20479
  lossless : Nat := 0
  spillLost : Nat := 0
  bankLost : Nat := 0
  /-- CLK_AON cycles of lossless discards within the last 1 ms, and of the last event, keyed p × 8 + c (R278) -/
  llTimes : Tab (List Nat) := []
  llPost : Tab (Option Nat) := []
  /-- the same for refusals of the region (0) and of staging (1) (R288) -/
  exTimes : Tab (List Nat) := []
  exPost : Tab (Option Nat) := []
  cfgErr : Bool := false
deriving DecidableEq, Repr, Inhabited

end Sys2Proof.Machine
end

