-- ==== Sys2Proof/Machine/Types/Col.lean ====
section
/-! DEFINITION. The collective engine's state (11_collectives.md). -/
namespace Sys2Proof.Machine

/-- A staging entry of one element (R336, R339): the exact value in units of the LSB weight with its flags for SUM; the
element's bits in DTYPE for MIN and MAX. -/
structure ElemAcc where
  v : Int := 0
  pInf : Bool := false
  nInf : Bool := false
  nan : Bool := false
  negz : Bool := true
deriving DecidableEq, Repr, Inhabited

/-- Table 11.8. -/
inductive SlotSt where
  | free | opened | spilled | emitted | retained | recover
deriving DecidableEq, Repr, Inhabited

/-- A Rinwald packet in a cluster's input queue: its pipe and job, source address of 16 bytes, encapsulation, header and
payload. -/
structure CPkt where
  pipe : Nat := 0
  job : Nat := 0
  src : List Byte := []
  eth : Bool := false
  hdr : List Byte := []
  payload : List Byte := []
deriving DecidableEq, Repr, Inhabited

/-- A staging slot (R332, R333). -/
structure CSlot where
  st : SlotSt := .free
  /-- children whose contribution has been taken -/
  bits : Nat := 0
  acc : List ElemAcc := []
  /-- the partial sent and the result held, each with its OVF -/
  part : List Byte := []
  partOvf : Bool := false
  res : List Byte := []
  resOvf : Bool := false
  /-- a contribution arrived with OVF set -/
  ovf : Bool := false
  /-- consecutive counted retries, and children that sent WAIT since the last expiry (R342) -/
  retries : Nat := 0
  waits : Nat := 0
  /-- order of opening, and of eviction (R346, R347) -/
  order : Nat := 0
  evicted : Nat := 0
  /-- ns of the first contribution's arrival -/
  first : Nat := 0
  /-- overflow blocks, and the log's contributions, oldest first -/
  blocks : List Nat := []
  log : List CPkt := []
  /-- it recovers from a cluster fault (Table 11.12) -/
  again : Bool := false
deriving DecidableEq, Repr, Inhabited

/-- An agreed step and the epoch at which it takes effect (R353, R354). -/
structure StepSet where
  step : Nat := 0
  epoch : Nat := 0
  /-- it arrived after that boundary -/
  late : Bool := false
deriving DecidableEq, Repr, Inhabited

/-- STATE of a job (R363). -/
inductive JobSt where
  | free | running | moving | failed | recovering
deriving DecidableEq, Repr, Inhabited

/-- A job (R329, R363). -/
structure Job where
  st : JobSt := .free
  /-- the record of Table 11.6 and the child entries of Table 11.7 -/
  record : List Byte := []
  kids : List (List Byte) := []
  cluster : Nat := 0
  /-- this device's child index at its parent, which the spec does not say how a device learns -/
  childIx : Nat := 0
  agreed : Nat := 0
  /-- changes announced and not yet applied, oldest first -/
  pend : List StepSet := []
  /-- the latest PACE_SET announced -/
  last : Option StepSet := none
  host : Option Nat := none
  /-- root: proposals of members, by member index, as step + 1; 0 is the initial STEP -/
  props : Tab Nat := []
  /-- ceiling of this member when it was last looked at (R352) -/
  ceil : Nat := 7
  /-- this member is a straggler, and its children that are (R355) -/
  self : Bool := false
  strag : Nat := 0
  base : Nat := 0
  slots : Tab CSlot := []
  ovf : Bool := false
  inexact : Bool := false
  fail : Nat := 0
  done : Nat := 0
  retries : Nat := 0
  lateMax : Nat := 0
  late : Nat := 0
  energy : Nat := 0
  /-- a move's destination, its log, and the log's overflow blocks (R358) -/
  dest : Nat := 0
  log : List CPkt := []
  blocks : List Nat := []
  /-- CLK_AON cycles of the last EV_COL_RETRY and EV_COL_OVERFLOW, and OVF_DROPs since -/
  retryAt : Option Nat := none
  ovfAt : Option Nat := none
  ovfTimes : List Nat := []
  changeTs : Nat := 0
  changePh : Nat := 0
deriving DecidableEq, Repr, Inhabited

/-- A collective cluster (R319, R351). -/
structure Cluster where
  step : Nat := 0
  /-- CLK_AON cycle in which the last step change completed (R31) -/
  stepAt : Option Nat := none
  /-- a step change in progress -/
  changing : Option Nat := none
  /-- the step whose rail voltage is sought, whether the rail has it, and whether the boundary has passed (R464, R465) -/
  raise : Option Nat := none
  railUp : Bool := false
  due : Bool := false
  /-- input queue, oldest first -/
  q : List CPkt := []
deriving DecidableEq, Repr, Inhabited

structure ColState where
  jobs : Tab Job := []
  clusters : Tab Cluster := []
  /-- counters of Table 11.17, keyed job × 16 + index -/
  ctrs : Tab Nat := []
  /-- slots opened, and evictions made, so far -/
  opened : Nat := 0
  evictions : Nat := 0
  cfgErr : Bool := false
deriving DecidableEq, Repr, Inhabited

end Sys2Proof.Machine
end

