-- ==== Sys2Proof/Machine/Types/Flt.lean ====
section
/-! DEFINITION. The fault manager's state (18_faults.md). -/
namespace Sys2Proof.Machine

/-- A fault record (Table 18.2). -/
structure FltRec where
  cls : Nat := 0
  level : Nat := 1
  sameCycle : Bool := false
  escalated : Bool := false
  condition : Bool := false
  cleared : Bool := false
  acked : Bool := false
  fenced : Bool := false
  raised : Bool := false
  setPh : Nat := 0
  clrPh : Nat := 0
  tb : Nat := 0
  seq : Nat := 0
  aon : Nat := 0
  setTs : Nat := 0
  clrTs : Nat := 0
  kind : Nat := 0
  unit : Nat := 0
  count : Nat := 1
  detail : List Byte := []
  /-- CLK_AON cycle of the record's last report (R492) -/
  lastAon : Nat := 0
deriving DecidableEq, Repr, Inhabited

/-- A report in an intake queue with its stamp (R30, R491). -/
structure Intake where
  rep : Report := {}
  aon : Nat := 0
  ts : Nat := 0
  ph : Nat := 0
  tb : Nat := 0
  /-- a condition that ended before its record was formed: ns and wrap phase -/
  clr : Option (Nat × Nat) := none
deriving DecidableEq, Repr, Inhabited

/-- Table 18.6. -/
inductive FenceState where
  | inService | fenced | testing
deriving DecidableEq, Repr, Inhabited

/-- Fence state of a unit. -/
structure FUnit where
  state : FenceState := .inService
  passed : Bool := false
  /-- a fence by command drains: the UNIT_FENCE that waits (R505, R507) -/
  draining : Option CmdRef := none
  /-- further UNIT_FENCE commands that wait for the same drain -/
  also : List CmdRef := []
  /-- the UNIT_TEST that waits -/
  testCmd : Option CmdRef := none
  /-- the unit has reported a fault during its test (Table 18.6) -/
  faulted : Bool := false
deriving DecidableEq, Repr, Inhabited

structure FltState where
  /-- intake queues of the 16 class blocks, oldest first -/
  intake : Tab (List Intake) := []
  /-- reports discarded by a block since its queue was last full (FC249 follows) -/
  blockLost : Tab Nat := []
  /-- every record since reset, newest first -/
  recs : List FltRec := []
  /-- SEQs of the history queue, newest first, at most 32 -/
  hist : List Nat := []
  /-- SEQ of FLT_FIRST's record -/
  first : Option Nat := none
  nextSeq : Nat := 0
  levelCounts : Tab Nat := []
  lost : Nat := 0
  cfgErr : Bool := false
  /-- fence state of units, keyed kind × 1024 + index -/
  units : Tab FUnit := []
  /-- last acknowledgement of a class: its CLK_AON cycle, and the level of the class's latest record that a report of that
  cycle meets (R504) -/
  ackAt : Tab (Option (Nat × Nat)) := []
  alive : Bool := false
  /-- every intake queue has been served since the last edge of ALIVE_OUT (R513) -/
  served : Bool := false
  /-- RESET_REQ has received 0xA5 -/
  resetArmed : Bool := false
deriving DecidableEq, Repr, Inhabited

end Sys2Proof.Machine
end

