-- ==== Sys2Proof/Machine/Types/Hif.lean ====
section
/-! DEFINITION. The host interface's state (02_control_model.md). -/
namespace Sys2Proof.Machine

/-- A packet descriptor of Table 2.13 as the device holds it. -/
structure PktDesc where
  /-- ring position of the entry -/
  pos : Nat := 0
  addr : Nat := 0
  len : Nat := 0
  sop : Bool := false
  eop : Bool := false
  cookie : Nat := 0
deriving DecidableEq, Repr, Inhabited

/-- A punt buffer that is written and waits for the flush read of its privileged channel (R63): its descriptor, its entry's
number, and what the write-back says if the flush read returns without error. -/
structure PuntBuf where
  desc : PktDesc := {}
  seq : Nat := 0
  status : Nat := 0
  len : Nat := 0
  sop : Bool := false
  eop : Bool := false
  trunc : Bool := false
  ts : Nat := 0
  ph : Nat := 0
deriving DecidableEq, Repr, Inhabited

/-- What an inject ring's reader is doing (R51, R52). -/
inductive InjectStage where
  /-- no packet is open -/
  | idle
  /-- a packet is open; its descriptors wait for EOP -/
  | opened
  /-- descriptors are discarded up to and including the next EOP, or up to the next SOP -/
  | skipping
  /-- the packet is whole and its buffers are being read (R189) -/
  | reading
deriving DecidableEq, Repr, Inhabited

/-- Device side of one ring. Positions count as index + S × generation, modulo 2S (R39). -/
structure Ring where
  /-- producer position -/
  prod : Nat := 0
  /-- consumer position -/
  cons : Nat := 0
  /-- last accepted doorbell word (Table 2.20) -/
  host : Nat := 0
  cfgErr : Bool := false
  quiesced : Bool := false
  /-- the consumer position given with ARM = 1, while armed (R43) -/
  armed : Option Nat := none
  /-- entries fetched since the ring was enabled (R53) -/
  fetched : Nat := 0
  /-- completions that wait for room, oldest first, each with its command -/
  comps : List (CmdRef × Event) := []
  /-- asynchronous events that wait for room, oldest first -/
  backlog : List Waiting := []
  /-- events discarded for this ring, saturating at 255 (Table 2.20) -/
  lost : Nat := 0
  /-- inject ring: the open packet's descriptors, in ring order -/
  injDescs : List PktDesc := []
  injStage : InjectStage := .idle
  /-- punt ring: packets admitted and waiting for buffers, oldest first (R565) -/
  punts : List Nat := []
  /-- punt ring: bytes of the head packet already written, and buffers it used -/
  puntDone : Nat := 0
  puntBufs : Nat := 0
  /-- punt ring on a privileged channel: buffers written whose flush read has not returned, oldest first (R63) -/
  puntWait : List PuntBuf := []
  /-- inject ring: packets discarded (R52, R191, R563) -/
  discarded : Nat := 0
deriving DecidableEq, Repr, Inhabited

/-- A descriptor's transfer on a DMA channel (R62 to R65). -/
structure Xfer where
  cmd : CmdRef := {}
  dir : Dir := .toHost
  addr : Nat := 0
  /-- BYTES_LEFT -/
  left : Nat := 0
  /-- bytes counted down -/
  done : Nat := 0
  /-- bytes requested from the host whose data has not arrived (R62) -/
  asked : Nat := 0
  /-- the error that an answer to a beat reported before a privileged descriptor completed, 0 if none (R63) -/
  bad : Nat := 0
  /-- bytes of the beats so answered -/
  badBytes : Nat := 0
  /-- bytes still to be written to the host -/
  data : List Byte := []
  /-- what the command completes with when the transfer ends without error -/
  res : CmdRes := {}
  /-- power domains the transfer touches (R69) -/
  domains : List Nat := []
deriving DecidableEq, Repr, Inhabited

/-- A DMA channel (Table 2.7, R62 to R68). -/
structure Chan where
  halted : Bool := false
  lastStatus : Nat := 0
  /-- descriptors started and not completed, oldest first -/
  xfers : List Xfer := []
  lastSeq : Nat := 0
  lateErrors : Nat := 0
  /-- CLK_AON cycle of the last burst start in each direction, descriptor fetches and write-backs counting as bursts (R67) -/
  lastToHost : Option Nat := none
  lastFromHost : Option Nat := none
deriving DecidableEq, Repr, Inhabited

/-- A SUMMARY that runs or waits (R73): its command, or none for one started by register. -/
structure SumJob where
  cmd : Option CmdRef := none
  addr : Nat := 0
deriving DecidableEq, Repr, Inhabited

structure HifState where
  rings : Tab Ring := []
  chans : Tab Chan := []
  /-- commands in flight, in fetch order (R56) -/
  inflight : List Cmd := []
  /-- the ring at which the next round-robin turn begins (R56) -/
  rrNext : Nat := 0
  /-- HIF_LINK_STAT -/
  gen : Nat := 0
  width : Nat := 0
  flit : Bool := false
  linkUp : Bool := false
  /-- PCIe Max_Payload_Size and Max_Read_Request_Size in bytes (Table 2.1) -/
  mps : Nat := 128
  mrrs : Nat := 512
  /-- by direction, to host first: the channel behind which the next round-robin turn begins, among the privileged channels
  and among the standard ones (R68) -/
  turnPriv : Nat × Nat := (0, 0)
  turnStd : Nat × Nat := (4, 4)
  sumRun : Option SumJob := none
  sumWait : List SumJob := []
  sumErr : Bool := false
  /-- the record being written: its bytes, while the flush read is awaited (R74) -/
  sumRecord : List Byte := []
  /-- Linen records written since reset -/
  sumCount : Nat := 0
  eventsLost : Nat := 0
  routeDiscards : Nat := 0
  perstDiscards : Nat := 0
deriving DecidableEq, Repr, Inhabited

end Sys2Proof.Machine
end

