-- ==== Sys2Proof/Machine/Types/Lan.lean ====
section
/-! DEFINITION. The lane array's state (03_lanes.md). -/
namespace Sys2Proof.Machine

/-- Lane states (Table 3.4). -/
inductive LaneSt where
  | off | cal | an | train | adapt | data | sleep | wake | test
deriving DecidableEq, Repr, Inhabited

/-- A lane's warm state (R93). Transmit taps are the 48 bits of LAN_LANE_TXFFE. -/
structure Warm where
  ctle : Nat := 0
  ffe : List Int := []
  dfe : Int := 0
  freq : Int := 0
  taps : Nat := 0
  preTx : Bool := false
  preRx : Bool := false
  rate : Nat := 0
  temp : Int := 0
deriving DecidableEq, Repr, Inhabited

structure Lane where
  st : LaneSt := .off
  /-- termination and ADC calibrated (Table 3.4) -/
  calDone : Bool := false
  signal : Bool := false
  cdrLock : Bool := false
  /-- a retry waits for its 100 ms or 1 s (R88) -/
  retryWait : Bool := false
  /-- consecutive failures (R88) -/
  failures : Nat := 0
  trainCount : Nat := 0
  trainFails : Nat := 0
  losCount : Nat := 0
  snr : Nat := 0
  ctle : Nat := 0
  /-- receive FFE taps: 24 in LR, 12 in SR and NRZ (Table 3.3) -/
  ffe : List Int := []
  /-- in 1/128 of the main cursor -/
  dfe : Int := 0
  /-- slicer thresholds: 3 in PAM4, 1 in NRZ (Table 3.3) -/
  thresholds : List Int := []
  /-- CDR sampling phase in 1/128 UI, and its frequency in 0.1 ppm, within ±2,000 (R85) -/
  phase : Nat := 0
  freq : Int := 0
  /-- REACH of the last training that began: true is LR (R79) -/
  reach : Bool := false
  /-- °C at the last ADC calibration (Table 3.11) -/
  adcTemp : Int := 0
  /-- transmit taps in use, bytes as LAN_LANE_TXFFE -/
  taps : Nat := 0
  preTx : Bool := false
  preRx : Bool := false
  /-- precoder states (R81) -/
  txPrev : Nat := 0
  rxPrev : Nat := 0
  calTemp : Int := 0
  calMode : Nat := 0
  calTs : Nat := 0
  calPh : Nat := 0
  ctleMoved : Bool := false
  coldWake : Bool := false
  warm : Option Warm := none
  /-- last warm save's temperature -/
  warmTemp : Int := 0
  cfgErr : Bool := false
  /-- LAN_LANE_CFG, LAN_LANE_TXFFE and LAN_LANE_RX as taken at the last entry to CAL (R103) -/
  cfgUse : Nat := 0x60
  ffeUse : Nat := 0x38F80000
  rxUse : Nat := 1700 * 65536 + 3 * 4096 + 2 * 256 + 12
  testMode : Nat := 0
  pattern : Nat := 0
  check : Nat := 0
  testBits : Nat := 0
  testErrors : Nat := 0
  /-- the LANE_EYE that scans this lane, and whether the lane left DATA or TEST since (R97) -/
  eye : Option CmdRef := none
  eyeBroken : Bool := false
  /-- EYE and DWELL of that scan -/
  eyeSel : Nat := 0
  eyeDwell : Nat := 0
  /-- transmitter squelched -/
  squelched : Bool := true
deriving DecidableEq, Repr, Inhabited

/-- A lane macro (Table 3.13). -/
structure LMacro where
  pllLock : Bool := false
  cfgErr : Bool := false
  /-- °C and rate code at the last PLL and termination calibration (Tables 3.11, 3.13) -/
  calTemp : Int := 0
  calRate : Nat := 0
deriving DecidableEq, Repr, Inhabited

/-- CLK_LGnn of a lane group (R104). -/
inductive LgClk where
  | off | locking | running | relock
deriving DecidableEq, Repr, Inhabited

structure LGroup where
  clk : LgClk := .off
  /-- CLK_AON cycle in which CLK_LGnn last changed state (R31) -/
  clkAt : Option Nat := none
  changeTs : Nat := 0
  changePh : Nat := 0
deriving DecidableEq, Repr, Inhabited

structure LanState where
  lanes : Tab Lane := []
  macros : Tab LMacro := []
  groups : Tab LGroup := []
deriving DecidableEq, Repr, Inhabited

end Sys2Proof.Machine
end

