-- ==== Sys2Proof/Machine/Types/Mac.lean ====
section
/-! DEFINITION. The ports' state (04_ports.md). -/
namespace Sys2Proof.Machine

/-- Port states (Table 4.2). -/
inductive PortSt where
  | disabled | down | linking | up | sleep | waking
deriving DecidableEq, Repr, Inhabited

/-- A gate list (R132): entries of GATES and INTERVAL, CYCLE_NS, BASE. -/
structure GateList where
  entries : List (Nat × Nat) := []
  cycle : Nat := 0
  baseSec : Nat := 0
  baseNs : Nat := 0
deriving DecidableEq, Repr, Inhabited

/-- A PCS lane's block lock (R115). -/
structure PcsLane where
  locked : Bool := false
  /-- bit position of the 66 that the hunt has slipped to -/
  slips : Nat := 0
  /-- consecutive valid headers while hunting -/
  run : Nat := 0
  /-- validity of the last headers since lock, newest first, at most 64 -/
  window : List Bool := []
deriving DecidableEq, Repr, Inhabited

structure Port where
  st : PortSt := .disabled
  downCause : Nat := 0
  changeTs : Nat := 0
  changePh : Nat := 0
  /-- alignment: block or AM lock and deskew done -/
  aligned : Bool := false
  localRx : Bool := false
  remoteRx : Bool := false
  /-- the fault sequence the port transmits (R120) -/
  txFault : FaultSeq := .clear
  hiBer : Bool := false
  fecDegrade : Bool := false
  fecSymbols : Nat := 0
  cfgErr : Bool := false
  /-- FC_MODE and MAX_FRAME in force (R146) -/
  fcMode : Nat := 0
  maxFrame : Nat := 9216
  /-- O(p, c) in cells (R122) -/
  occ : Tab Nat := []
  /-- pause timers by class, in quanta; absent or 0: not paused (R127) -/
  pause : Tab Nat := []
  /-- bit c: XOFF asserted (R123) -/
  xoff : Nat := 0
  /-- bit c: a frame with QUANTA, or with time 0, is to be sent for class c (R125) -/
  sendOn : Nat := 0
  sendOff : Nat := 0
  /-- bit c: the pause watchdog has triggered (R130) -/
  wd : Nat := 0
  pcs : Tab PcsLane := []
  /-- sleep entry waits for the frame in progress (R138) -/
  sleeping : Bool := false
  /-- a wake trigger (0 detector, 1 command, 2 packet) that came before sleep entry ended (4.7) -/
  wakeNext : Option Nat := none
  /-- trigger of the wake in progress -/
  wakeTrig : Nat := 0
  /-- the wake pattern is being sent (R140) -/
  waving : Bool := false
  /-- the port left UP and its queues are to be flushed (R276) -/
  flush : Bool := false
  /-- active and standby gate lists (R133) -/
  active : GateList := {}
  standby : GateList := {}
  /-- T of a pending switch, in total ns -/
  switchAt : Option Nat := none
  page : Bool := false
  /-- entry now in force; none until the next cycle start -/
  gateIx : Option Nat := none
  /-- gate states, bit L open (R131); open until a list closes them -/
  gates : Nat := 0xFF
  gateFail : Bool := false
  /-- the failure is a parity error of the active list (R137) -/
  gateParity : Bool := false
  /-- ports start a frame only when none is in transmission -/
  sending : Option Nat := none
deriving DecidableEq, Repr, Inhabited

structure MacState where
  ports : Tab Port := []
  /-- MAC_MACRO_MODE.CFG_ERR by macro -/
  modeErr : Tab Bool := []
deriving DecidableEq, Repr, Inhabited

end Sys2Proof.Machine
end

