-- ==== Sys2Proof/Machine/Types/Mem.lean ====
section
/-! DEFINITION. The state of the LPDDR5X interface (14_memory_interface.md). -/
namespace Sys2Proof.Machine

/-- State of a memory channel, apart from fences and half power (Table 14.7). -/
inductive ChanSt where
  | absent | training | ready | selfRefresh
deriving DecidableEq, Repr, Inhabited

structure MChan where
  st : ChanSt := .absent
  /-- a retrain is in progress, or waits for its retry (R409) -/
  retraining : Bool := false
  retry : Bool := false
  /-- the channel has trained since the last reset or half power-up -/
  trained : Bool := false
  temp : Int := 0
  /-- CLK_AON cycle of the last training -/
  trainedAt : Nat := 0
  ce : Nat := 0
  linkCe : Nat := 0
  /-- link corrections of the present second, and the CLK_AON cycle of its start (FC180) -/
  linkCount : Nat := 0
  linkSince : Nat := 0
  /-- refreshes postponed, by bank (R410) -/
  late : Tab Nat := []
  /-- refreshes issued, by bank -/
  refreshes : Tab Nat := []
  /-- density and width the channel reported, once it has answered -/
  density : Option Nat := none
  width : Nat := 16
  /-- rate code trained -/
  rate : Nat := 0
deriving DecidableEq, Repr, Inhabited

structure MemState where
  chans : Tab MChan := []
  /-- MEM_CFG and MEM_USABLE -/
  rate : Nat := 0
  density : Nat := 0
  present : Bool := false
  usableMib : Nat := 0
  /-- bit h: half h serves requests (R412) -/
  serving : Nat := 0
  /-- Burlap, by usable address -/
  burlap : Memory := []
  /-- overflow blocks lost with a fenced channel, by usable address ÷ 65,536 (R414) -/
  lostGran : Tab Bool := []
  /-- AUTO_SR that host software wrote, while DOZE holds it set (R411) -/
  autoSr : Option Bool := none
deriving DecidableEq, Repr, Inhabited

end Sys2Proof.Machine
end

