-- ==== Sys2Proof/Machine/Types/Pip.lean ====
section
/-! DEFINITION. Packets, the Calico tag and the pipes' state (06_parse_and_tag.md, 08_actions_and_egress.md). Records of
the spec's tables are held as numbers whose byte n is bits 8n + 7 to 8n (R6). -/
namespace Sys2Proof.Machine

/-- The Calico tag (Table 6.6). -/
structure Tag where
  inPort : Nat := 0
  pipeIn : Nat := 0
  pipeOut : Nat := 0
  kind : Nat := 0
  rxTs : Nat := 0
  rxPh : Nat := 0
  tb : Nat := 0
  cls : Nat := 0
  pflags : Nat := 0
  hash : Nat := 0
  dest : Nat := 0
  dk : Nat := 0
  qidx : Nat := 0
  mirror : Nat := 0
  edit : Nat := 0
  tel : Nat := 0
  err : Nat := 0
  /-- HDR_OFF, slots 0 to 15; 0xFF absent -/
  hdr : List Nat := List.replicate 16 255
  frameLen : Nat := 0
  vid : Nat := 0
  metadata : Nat := 0
  qdelay : Nat := 0
deriving DecidableEq, Repr, Inhabited

/-- Where a packet is. -/
inductive PktStage where
  /-- whole, waits for a parse thread (R172) -/
  | input
  | parsing
  /-- its tag is formed; ingress stages 2 to 9 follow -/
  | parsed
  /-- ready for stage 10 -/
  | ready
  /-- stored as multicast; traffic managers walk its group (R251) -/
  | walking
  | queued
  /-- selected; egress stages follow -/
  | egress
  /-- leaves its port (R252) -/
  | leaving
  /-- in the control pool for a punt ring (R192) -/
  | punted
deriving DecidableEq, Repr, Inhabited

/-- A packet, replica or mirror copy. -/
structure Pkt where
  /-- the device holds it -/
  live : Bool := false
  stage : PktStage := .input
  tag : Tag := {}
  /-- the pipe that serves its ingress -/
  pipe : Nat := 0
  /-- the frame from its destination address: without FCS once it has ended, with all bytes that have arrived before -/
  frame : List Byte := []
  ended : Bool := true
  /-- RX_TS in total ns -/
  rxTotal : Nat := 0
  /-- a collective result of this job (R275) -/
  job : Option Nat := none
  direct : Bool := false
  /-- the inject header gave FLOW_HASH (R189) -/
  hashGiven : Bool := false
  -- parse (R177)
  pc : Nat := 0
  cursor : Nat := 0
  steps : Nat := 0
  key : List Byte := []
  hashIn : List Byte := []
  hashCut : Bool := false
  -- side state (R242) and what the lookups found (Table 16.6)
  ttlCheck : Bool := false
  meter : Option Nat := none
  ctr : Option Nat := none
  emSrc : Option Nat := none
  emDst : Option Nat := none
  lpmLen : Option Nat := none
  tcamIx : Option Nat := none
  member : Option Nat := none
  hop : Option Nat := none
  /-- Table 16.5 reason that a decision to discard has given -/
  reason : Nat := 0
  -- storage
  /-- L, the length stored at admission, FCS included (R303) -/
  len : Nat := 0
  /-- cells the packet counts in its queue -/
  cells : Nat := 0
  /-- the shared cells it references (R252) -/
  cid : Option Nat := none
  /-- units of a spilled packet and the position of its first one in its run; 0 units: on die -/
  units : Nat := 0
  uStart : Nat := 0
  /-- further positions and counts of its units: those charged after another packet had joined the run (R274) -/
  more : List (Nat × Nat) := []
  /-- a unit of it is lost (R287) -/
  lost : Bool := false
  port : Nat := 0
  queue : Option Nat := none
  /-- ns of the system reference at admission (QDELAY) -/
  admNs : Nat := 0
  ct : Bool := false
  trimmed : Bool := false
  /-- a trimmed replica: it references only the first cells of the stored packet (R259) -/
  part : Bool := false
  /-- the packet that this is a copy or replica of -/
  root : Option Nat := none
  /-- group record as admission read it (R251) -/
  grp : Nat := 0
  /-- panels whose traffic managers have walked the group -/
  walked : List Nat := []
  -- egress
  /-- cells in the packet's queue at dequeue (R264) -/
  depth : Nat := 0
  /-- first 128 bytes as received (R454), and those from slot 14 at stage 11 -/
  first : List Byte := []
  ioam : List Byte := []
  /-- egress time E in total ns -/
  egressNs : Nat := 0
  /-- ends with its FCS inverted (R110) -/
  stomp : Bool := false
deriving DecidableEq, Repr, Inhabited

/-- A frame whose parse began before it had ended: its port and the bytes that have arrived, by packet number. -/
structure Arrival where
  live : Bool := false
  port : Nat := 0
  bytes : List Byte := []
deriving DecidableEq, Repr, Inhabited

structure PipState where
  pkts : Tab Pkt := []
  nextId : Nat := 0
  /-- frames that are still arriving -/
  arriving : Tab Arrival := []
  /-- parse store, action profiles, edit templates (template × 16 + word) and layouts of the active image (R175, R241,
  R254, Table 19.8) -/
  store : Tab Nat := []
  profiles : Tab Nat := []
  templates : Tab Nat := []
  layouts : Tab Nat := []
  loaded : Bool := false
  /-- frames that stage 2 has discarded, by ingress port (R199) -/
  tagDrops : Tab Nat := []
  /-- PEAK_THREADS by pipe -/
  peak : Tab Nat := []
  edits : Tab Nat := []
  groups : Tab Nat := []
  entries : Tab Nat := []
  /-- replicas skipped, by group (R251) -/
  skips : Tab Nat := []
  mirrors : Tab Nat := []
  /-- packets seen by a session since its last copy, and copies refused (R248) -/
  mirSeen : Tab Nat := []
  mirRefused : Tab Nat := []
  egress : Tab Nat := []
  ecn : Tab Nat := []
  eacl : Tab Nat := []
deriving DecidableEq, Repr, Inhabited

end Sys2Proof.Machine
end

