-- ==== Sys2Proof/Machine/Types/Pool.lean ====
section
/-! DEFINITION. The buffer pool manager's state (12_buffer_pools.md). -/
namespace Sys2Proof.Machine

/-- Who waits for a request's answer: a POOL_ALLOC, or a context of a Serge engine. -/
inductive PoolWho where
  | cmd (ref : CmdRef)
  | serge (engine ctx : Nat)
deriving DecidableEq, Repr, Inhabited

/-- A request in a pool's queue (R370, R371). -/
structure PoolReq where
  port : Nat := 0
  spill : Bool := false
  owner : Nat := 0
  /-- the pool's cycle in which it arrived -/
  cyc : Nat := 0
  who : PoolWho := .cmd {}
deriving DecidableEq, Repr, Inhabited

/-- A buffer that is not plainly free (R368, R378). -/
structure PBuf where
  owner : Nat := 0
  tainted : Bool := false
  withdrawn : Bool := false
  /-- freed while tainted, under its two-pattern test -/
  testing : Bool := false
deriving DecidableEq, Repr, Inhabited

/-- A pool (R371, R372, Table 12.7). -/
structure Pool where
  queue : List PoolReq := []
  /-- the port last granted to; 11 before the first grant -/
  ptr : Nat := 11
  /-- POOL_GRANT cycles so far -/
  cycles : Nat := 0
  low : Option Nat := none
  grants : Nat := 0
  empties : Nat := 0
  spillUps : Nat := 0
  withdrawn : Nat := 0
  misuse : Nat := 0
  emptySeen : Bool := false
  /-- CLK_AON cycles of EMPTY answers of the last ms, newest first, and of the last EV_POOL_EMPTY -/
  emptyTimes : List Nat := []
  emptyPost : Option Nat := none
deriving DecidableEq, Repr, Inhabited

/-- The last misuse (Table 12.7). -/
structure Misuse where
  handle : Nat := 0
  owner : Nat := 0
  offender : Nat := 0
  ts : Nat := 0
  ph : Nat := 0
deriving DecidableEq, Repr, Inhabited

structure PoolState where
  pools : Tab Pool := []
  /-- buffers, by handle -/
  bufs : Tab PBuf := []
  /-- the service SRAM, by byte offset -/
  sram : Memory := []
  last : Misuse := {}
  cfgErr : Bool := false
deriving DecidableEq, Repr, Inhabited

end Sys2Proof.Machine
end

