-- ==== Sys2Proof/Machine/Types/Pwr.lean ====
section
/-! DEFINITION. The power manager's state (17_power.md). -/
namespace Sys2Proof.Machine

/-- STATE of a power domain (R487). -/
inductive DomSt where
  | off | poweringUp | on | deferred | poweringDown
deriving DecidableEq, Repr, Inhabited

/-- A supply dip in progress (R475, R476): the first detector, the lowest code seen and the CLK_AON cycle of the first trip. -/
structure Dip where
  first : Nat := 0
  code : Nat := 0
  since : Nat := 0
deriving DecidableEq, Repr, Inhabited

/-- A power domain (Tables 17.1 and 17.8). A cluster's step is the collective engine's. -/
structure PDom where
  st : DomSt := .on
  /-- present step of a panel, the table array or the buffer, as steps below 7 -/
  below : Nat := 0
  /-- the step to which the domain rises once its rail has the voltage (R464) -/
  raise : Option Nat := none
  /-- host ceiling (Table 17.6) -/
  host : Option Nat := none
  dip : Option Dip := none
  /-- scaled energy of the last interval, in nJ (R468) -/
  nj : Nat := 0
  /-- PWR_DOMAIN that waits for its power-down, and descriptors that ended DOMAIN_OFF (R482) -/
  down : Option CmdRef := none
  cut : Nat := 0
  /-- PWR_DOMAIN that waits for its power-up -/
  up : Option CmdRef := none
deriving DecidableEq, Repr, Inhabited

/-- A thermal sensor (R478): signed 1/16 °C. -/
structure Sensor where
  temp : Int := 0
  /-- highest reading since reset, none before the first -/
  max : Option Int := none
  failed : Bool := false
  /-- at THROTTLE_C -/
  hot : Bool := false
deriving DecidableEq, Repr, Inhabited

/-- The last reading of a regulator (R466, R467). -/
structure VrRead where
  mv : Nat := 0
  ma : Nat := 0
  /-- reads not answered in a row -/
  misses : Nat := 0
deriving DecidableEq, Repr, Inhabited

/-- Why the forwarding domains are below their highest step (Table 17.7). -/
inductive PwrCause where
  | peak | sustained | thermal | alert
deriving DecidableEq, Repr, Inhabited

/-- What a droop recalibration recorded (Table 17.3): the domain's energy in an interval, the die temperature, the CLK_AON
cycle. -/
structure DroopCal where
  nj : Nat := 0
  temp : Int := 0
  at_ : Nat := 0
deriving DecidableEq, Repr, Inhabited

structure PwrState where
  /-- when a clock's frequency was last not to be checked (R31), keyed domain × 4 + cause: 0 a step change, 1 the start or
  end of a stretch, 2 a power-up or power-down; the CLK_AON cycle in which it ended -/
  clkAt : Tab (Option Nat) := []
  /-- frames discarded at a full pipe input in the last 1 ms (R462): pipe and CLK_AON cycle, newest first -/
  throttled : List (Nat × Nat) := []
  /-- droop detectors' thresholds, by detector -/
  droopCal : Tab DroopCal := []
  doms : Tab PDom := []
  sensors : Tab Sensor := []
  vrs : Tab VrRead := []
  /-- energy of each 20 µs interval in nJ, newest first, at most 50,000 (R469, R472) -/
  hist : List Nat := []
  /-- intervals in a row in which the meters disagreed, by regulator (R468) -/
  disagree : Tab Nat := []
  /-- over a limit at the last sample (R470) -/
  isOver : Bool := false
  /-- throttling in progress and its cause (EV_PWR_LIMIT) -/
  cause : Option PwrCause := none
  /-- a VR_ALERT_N ball is asserted (R477) -/
  alert : Bool := false
  /-- thermal throttling by core die (R479) -/
  thermal : Tab Bool := []
  /-- a core die's domains were lowered for temperature and have not all risen again -/
  cooled : Tab Bool := []
  /-- power ceiling of each cluster, as steps below 7 (R471) -/
  ceilCut : Tab Nat := []
  /-- thermal ceiling of each cluster, as steps below 7 (R479) -/
  thermCut : Tab Nat := []
  /-- ceiling of each cluster as EV_PWR_CEILING last gave it, as steps below 7 (R471) -/
  ceilTold : Tab Nat := []
  /-- samples since the last FC231 (R473), none: no record yet -/
  sinceFull : Option Nat := none
  cfgErr : Bool := false
deriving DecidableEq, Repr, Inhabited

end Sys2Proof.Machine
end

