-- ==== Sys2Proof/Machine/Types/Sch.lean ====
section
/-! DEFINITION. The traffic managers' state (10_scheduling.md). -/
namespace Sys2Proof.Machine

/-- A start and finish tag (R303), and whether its queue or level was eligible when last looked at (R304). -/
structure FTag where
  s : Nat := 0
  f : Nat := 0
  was : Bool := false
deriving DecidableEq, Repr, Inhabited

/-- A shaper (Table 10.2): tokens in 1/65,536 byte, the write that waits for a tick, and its place on a wheel. -/
structure Shaper where
  rate : Nat := 0
  burst : Nat := 0
  /-- signed -/
  ovh : Int := 0
  tokens : Int := 0
  /-- the write that waits, and whether a CLEAR_DEBT waits with it (R310) -/
  next : Option (Nat × Nat × Int) := none
  clear : Bool := false
  /-- tick at which the debt is repaid, and whether it waits on the overflow wheel (R308, R309) -/
  due : Option Nat := none
  far : Bool := false
deriving DecidableEq, Repr, Inhabited

/-- What a sampling window gathers for one queue (R315): samples that were not 0, their sum, least and largest; packets
dequeued and the sum, least and largest of their delays. -/
structure Samp where
  cnt : Nat := 0
  sum : Nat := 0
  least : Nat := 0
  most : Nat := 0
  pkts : Nat := 0
  dsum : Nat := 0
  dleast : Nat := 0
  dmost : Nat := 0
deriving DecidableEq, Repr, Inhabited

/-- The last completed window (Table 10.5). -/
structure Window where
  suspect : Bool := false
  /-- queues whose sample state was lost in it (FC116) -/
  bad : List Nat := []
  samples : Nat := 0
  endTs : Nat := 0
  endPh : Nat := 0
  tb : Nat := 0
  qs : Tab Samp := []
deriving DecidableEq, Repr, Inhabited

structure SchState where
  /-- port scheduling records (Table 10.1); unlisted ports hold the reset record -/
  recs : Tab Nat := []
  shapers : Tab Shaper := []
  /-- ticks by panel (R307) -/
  ticks : Tab Nat := []
  /-- tags by queue -/
  tags : Tab FTag := []
  /-- virtual time by port × 9 + level, 8 the ETS group's (R303, R305) -/
  v : Tab Nat := []
  /-- tags of ETS levels, by port × 8 + level -/
  ets : Tab FTag := []
  /-- latest depth sample by queue (R314) -/
  depth : Tab Nat := []
  /-- the present window: samples taken, and what it gathers -/
  taken : Nat := 0
  win : Tab Samp := []
  suspect : Bool := false
  seq : Nat := 0
  last : Option Window := none
deriving DecidableEq, Repr, Inhabited

end Sys2Proof.Machine
end

