-- ==== Sys2Proof/Machine/Types/Seq.lean ====
section
/-! DEFINITION. Serge's state (13_sequencer.md). -/
namespace Sys2Proof.Machine

/-- Table 13.1. -/
inductive CtxSt where
  | free | ready | waiting | trapped
deriving DecidableEq, Repr, Inhabited

/-- A wait for a condition (R389), and the CLK_AON cycle at which it began. -/
structure SeqWait where
  cond : Nat := 0
  neg : Bool := false
  since : Nat := 0
deriving DecidableEq, Repr, Inhabited

/-- A block operation in progress (R387). -/
structure BlkOp where
  /-- BLK_IN -/
  inward : Bool := false
  space : Nat := 0
  addr : Nat := 0
  len : Nat := 0
  /-- scratch offset of the data -/
  place : Nat := 0
  /-- BLK_OUT: the bytes, and whether scratch gave them without error -/
  data : List Byte := []
  bad : Bool := false
deriving DecidableEq, Repr, Inhabited

/-- A context (R382). -/
structure Ctx where
  st : CtxSt := .free
  routine : Nat := 0
  pc : Nat := 0
  /-- X0 to X15 -/
  x : Tab Nat := []
  zero : Bool := false
  neg : Bool := false
  carry : Bool := false
  /-- return addresses, latest first -/
  stack : List Nat := []
  /-- between a trap and its RESTORE (R392) -/
  inHandler : Bool := false
  /-- the trigger's argument -/
  arg : Nat := 0
  /-- where the run goes on after a wait -/
  resume : Nat := 0
  /-- started by SEQ_RUN -/
  byRun : Bool := false
  wait : Option SeqWait := none
  /-- a load whose data are on their way: register and value -/
  load : Option (Nat × Nat) := none
  /-- the wait and the load that a trap interrupted -/
  savedWait : Option SeqWait := none
  savedLoad : Option (Nat × Nat) := none
  /-- block operations in progress, oldest first -/
  blk : List BlkOp := []
  dmaDone : Bool := false
  dmaErr : Bool := false
  tblDone : Bool := false
  tblErr : Bool := false
  poolDone : Bool := false
  /-- register that a pending ALLOC writes -/
  poolReg : Nat := 0
  /-- CLK_AON cycle of the trigger, or of the end of the last wait on PERIOD -/
  periodAt : Nat := 0
  /-- PERIOD_US in force -/
  period : Nat := 0
  /-- trapped with cause 1, until the store block is repaired (R394) -/
  repair : Bool := false
deriving DecidableEq, Repr, Inhabited

/-- An engine (R382, R399). -/
structure Engine where
  ctxs : Tab Ctx := []
  /-- the context that issued last -/
  last : Nat := 3
  /-- TRAPS since reset, and since SEQ_ENGINE_STAT was read -/
  traps : Nat := 0
  trapsRc : Nat := 0
  skipped : Nat := 0
  lastCause : Nat := 0
  words : Nat := 0
  /-- stamp of the last change of STATE (R75) -/
  changeTs : Nat := 0
  changePh : Nat := 0
deriving DecidableEq, Repr, Inhabited

/-- An aging pass of a TYPE (R218): where it is, and the CLK_AON cycle of its start. -/
structure AgePass where
  on : Bool := false
  start : Nat := 0
  cursor : Nat := 0
deriving DecidableEq, Repr, Inhabited

structure SeqState where
  engines : Tab Engine := []
  /-- scratch, keyed engine × 16,384 + offset -/
  scratch : Memory := []
  /-- the store's words, and the CRC-32C of each 64-word block (R394) -/
  store : Tab Nat := []
  crc : Tab Nat := []
  /-- the Serge section in the boot controller's image memory (R530) -/
  section5 : List Byte := []
  /-- routine table, 16 bytes an entry, as numbers -/
  table : Tab Nat := []
  /-- checkpoints, keyed routine × 32 + byte -/
  chk : Memory := []
  /-- runs of each routine since reset -/
  runs : Tab Nat := []
  /-- SEQ_STOP commands that wait, with their routines -/
  stops : List (Nat × CmdRef) := []
  /-- aging passes, by TYPE -/
  aging : Tab AgePass := []
  /-- CLK_AON cycle at which the present shadow sweep began, and FC087 reported for it -/
  sweepAt : Option Nat := none
  overran : Bool := false
  /-- base and length of each shadow area, as that sweep found them at its start (R239) -/
  areas : Tab (Nat × Nat) := []
deriving DecidableEq, Repr, Inhabited

end Sys2Proof.Machine
end

