-- ==== Sys2Proof/Machine/Types/Slt.lean ====
section
/-! DEFINITION. The slotted layer's state (05_slotted_layer.md). -/
namespace Sys2Proof.Machine

/-- Group states (Table 5.2). -/
inductive GrpSt where
  | disabled | down | aligning | up
deriving DecidableEq, Repr, Inhabited

/-- A candidate of the alignment search (R153): block of its last sighting and confirmations in succession. -/
structure Cand where
  block : Nat := 0
  confirms : Nat := 0
deriving DecidableEq, Repr, Inhabited

/-- One FlexE instance (5.3). -/
structure Inst where
  cands : List Cand := []
  frameLock : Bool := false
  /-- block of the last expected position -/
  pos : Nat := 0
  misses : Nat := 0
  mfLock : Bool := false
  /-- OMF of the last frame seen, and the position of the last OMF transition, or of the place where one was due (R156) -/
  omf : Option Bool := none
  omfPos : Option Nat := none
  omfBad : Nat := 0
  /-- an overhead frame without CRC error has been received since frame lock -/
  ohSeen : Bool := false
  /-- received calendars A and B: client numbers of the instance's 20 slots (R158) -/
  calA : List Nat := []
  calB : List Nat := []
  /-- the last frame's label checks: group number, PHY map, PHY or instance number, skew -/
  badNum : Bool := false
  badMap : Bool := false
  badPhy : Bool := false
  skewNs : Nat := 0
  rpf : Bool := false
deriving DecidableEq, Repr, Inhabited

/-- Counts of one second of a group (R165). -/
structure SecAcc where
  crc : Nat := 0
  lockLosses : Nat := 0
  alarm : Bool := false
  notUp : Bool := false
  calMis : Bool := false
  /-- enabled at some instant of the second -/
  seen : Bool := false
deriving DecidableEq, Repr, Inhabited

structure Group where
  st : GrpSt := .disabled
  changeTs : Nat := 0
  changePh : Nat := 0
  cfgErr : Bool := false
  /-- DISABLED at FENCE until ENABLE is written 0 and then 1 (R169) -/
  held : Bool := false
  /-- member ports and PHY numbers, in member order (R149) -/
  members : List (Nat × Nat) := []
  /-- instances, keyed by their number over the group -/
  insts : Tab Inst := []
  alarms : Nat := 0
  ignored : Nat := 0
  maxSkew : Nat := 0
  txCal : Nat := 0
  rxCal : Nat := 0
  /-- C last received -/
  rxC : Nat := 0
  rxCr : Nat := 0
  rxCa : Nat := 0
  txCr : Nat := 0
  txCa : Nat := 0
  /-- what its instances' overhead and its slots carry now -/
  tx : List TxOverhead := []
  fills : List SlotFill := []
  /-- the SLOT_CAL_SWITCH that waits -/
  switching : Option CmdRef := none
  sec : SecAcc := {}
  /-- unavailability (Table 5.6): in force, and the present run of seconds that would end that, newest first, each with
  whether it was an errored second -/
  unavail : Bool := false
  run : List Bool := []
deriving DecidableEq, Repr, Inhabited

/-- A client (R157): kind 0 free, 1 terminated, 2 interchanged. -/
structure SClient where
  kind : Nat := 0
  group : Nat := 0
  wire : Nat := 0
  port : Nat := 0
  up : Bool := false
  /-- down at some instant of the present second -/
  secDown : Bool := false
deriving DecidableEq, Repr, Inhabited

/-- A group's or a client's counts in a bin (Table 5.6). -/
structure GBin where
  enabled : Bool := false
  crc : Nat := 0
  lockLosses : Nat := 0
  es : Nat := 0
  ses : Nat := 0
  uas : Nat := 0
  mismatch : Nat := 0
  switches : Nat := 0
deriving DecidableEq, Repr, Inhabited

structure CBin where
  wire : Nat := 0
  group : Nat := 0
  kind : Nat := 0
  blockErrors : Nat := 0
  lf : Nat := 0
  inserted : Nat := 0
  deleted : Nat := 0
  down : Nat := 0
deriving DecidableEq, Repr, Inhabited

/-- A performance bin (R164). -/
structure PmBin where
  /-- false between a step across a boundary and the next boundary (R166) -/
  running : Bool := true
  partly : Bool := false
  suspect : Bool := false
  seq : Nat := 0
  start : Nat := 0
  seconds : Nat := 0
  groups : Tab GBin := []
  clients : Tab CBin := []
deriving DecidableEq, Repr, Inhabited

structure SltState where
  groups : Tab Group := []
  clients : Tab SClient := []
  /-- connection memory, keyed page × 2,560 + slot (R161) -/
  cm : Tab Nat := []
  bin15 : PmBin := { seq := 1 }
  prev15 : List PmBin := []
  binDay : PmBin := { seq := 1 }
  prevDay : List PmBin := []
deriving DecidableEq, Repr, Inhabited

end Sys2Proof.Machine
end

