-- ==== Sys2Proof/Machine/Types/Sys.lean ====
section
/-! DEFINITION. The state of boot and security (19_modes_and_boot.md) and of the pins (20_package_and_electrical.md). -/
namespace Sys2Proof.Machine

/-- Operating modes, in the order of 0.6.2 (Table 19.1). -/
inductive Mode where
  | off | reset | wipe | boot | staged | forward | degraded | drain | doze | hold | lockdown | diag
deriving DecidableEq, Repr

/-- Life-cycle states (Table 19.9). -/
inductive LifeCycle where
  | blank | provisioned | field | retired
deriving DecidableEq, Repr, Inhabited

/-- A DEBUG_CHALLENGE that awaits its answer (R535). -/
structure Nonce where
  bytes : List Byte := []
  scope : Nat := 0
deriving DecidableEq, Repr, Inhabited

structure SysState where
  mode : Mode := .reset
  lifecycle : LifeCycle := .blank
  imageSlot : Nat := 0
  hostImage : Bool := false
  /-- scope granted -/
  debug : Nat := 0
  hostWait : Bool := false
  straps : Nat := 0
  imageVersion : Nat := 0
  secVersion : Nat := 0
  keySlot : Nat := 0
  /-- fuses: blown rollback bits, revoked slots, key hashes of slots 0 to 3 -/
  rollback : Nat := 0
  revoked : Nat := 0
  keyHash : Tab (List Byte) := []
  /-- an uncorrectable error was met when the fuses were loaded (Table 19.2, FC244) -/
  fuseError : Bool := false
  resetKind : Nat := 0
  perstCount : Nat := 0
  resets : Nat := 0
  /-- SYS_PRIOR_FIRST -/
  priorFirst : List Byte := []
  /-- the MODE_SET that waits and the mode it names -/
  modeWait : Option (CmdRef × Mode) := none
  nonce : Option Nonce := none
  /-- failed unlocks since power-on -/
  unlockFails : Nat := 0
  /-- a grant carried across the reset of kind 6 (R526, R535) -/
  grantAcross : Nat := 0
  /-- boot image memory: the active image -/
  image : List Byte := []
  bootBusy : Bool := false
  bootErr : Bool := false
  /-- balls and rails -/
  resetN : Bool := false
  perstN : Bool := false
  thermtrip : Bool := false
  /-- the TAP's selected instruction -/
  tapIr : Nat := 0x01
  /-- boundary register, cell 0, the one nearest TDO, first (R554): what was last shifted in, and what the cells hold for
  their balls since the last update -/
  boundary : Tab ScanCell := []
  boundaryLatch : Tab ScanCell := []
deriving DecidableEq, Repr

end Sys2Proof.Machine
end

