-- ==== Sys2Proof/Machine/Types/Tbl.lean ====
section
/-! DEFINITION. The table array's state (07_tables.md, and the meters of 10_scheduling.md). -/
namespace Sys2Proof.Machine

/-- An exact-match entry (Table 7.3), without its VALID bit: every entry of the table is valid. KEY and TYPE are bytes 0
to 22. -/
structure EmEntry where
  valid : Bool := false
  key : List Byte := []
  typ : Nat := 0
  pinned : Bool := false
  hit : Bool := false
  pendingAge : Bool := false
  profile : Nat := 0
  data : Nat := 0
deriving DecidableEq, Repr, Inhabited

/-- A prefix's result (R221). -/
structure LpmRes where
  dk : Nat := 0
  dest : Nat := 0
deriving DecidableEq, Repr, Inhabited

/-- A flowlet (R229). -/
structure Flowlet where
  used : Bool := false
  group : Nat := 0
  slot : Nat := 0
  last : Nat := 0
deriving DecidableEq, Repr, Inhabited

/-- A meter (Table 10.4): its record's bytes 0 to 19, tokens in 1/65,536 byte, and the ns of its last charge. -/
structure Meter where
  cfg : Nat := 0
  tc : Nat := 0
  tp : Nat := 0
  last : Nat := 0
deriving DecidableEq, Repr, Inhabited

/-- An entry of the recent-learn filter (Table 7.4): OPEN(a), or CONTESTED. -/
structure Learn where
  typ : Nat := 0
  key : List Byte := []
  port : Nat := 0
  contested : Bool := false
deriving DecidableEq, Repr, Inhabited

structure TblState where
  /-- keyed bank × 16,384 + bucket × 4 + slot -/
  em : Tab EmEntry := []
  /-- prefixes, keyed by VRF, family, length and address -/
  lpm : Tab LpmRes := []
  tcam : Tab Nat := []
  groups : Tab Nat := []
  members : Tab Nat := []
  hops : Tab Nat := []
  meters : Tab Meter := []
  flowlets : Tab Flowlet := []
  /-- by port: its next hops are marked up (R231) -/
  up : Tab Bool := []
  /-- by group: EV_TBL_GROUP_EMPTY has been posted (R228) -/
  empty : Tab Bool := []
  ports : Tab Nat := []
  profiles : Tab Nat := []
  endpoints : Tab Nat := []
  /-- recent-learn filter, oldest first -/
  filter : List Learn := []
  /-- notices posted in the present 1 ms window (R216) -/
  window : Nat := 0
  /-- banks that lookups do not probe (R210, R211) -/
  noProbe : Tab Bool := []
  /-- banks under evacuation, oldest first -/
  evac : List Nat := []
  cfgErr : Bool := false
  insertFails : Nat := 0
  evicted : Nat := 0
  learnPosted : Nat := 0
  learnContested : Nat := 0
  learnSuppressed : Nat := 0
  learnRateDrops : Nat := 0
  shadowFixes : Nat := 0
  parityMisses : Nat := 0
  sweepMs : Nat := 0
  sweepTs : Nat := 0
  sweepPh : Nat := 0
  /-- pinned items to be restored from the shadow out of sweep order (R211, R235, R236): shadow kind and key -/
  restore : List (Nat × Nat) := []
  /-- banks whose pinned entries are being reinserted (R211) -/
  rebuild : List Nat := []
  /-- objects of table commands with the CLK_AON cycle of completion (R234): shadow kind and key -/
  recent : List (Nat × Nat × Nat) := []
deriving DecidableEq, Repr, Inhabited

end Sys2Proof.Machine
end

