-- ==== Sys2Proof/Machine/Types/Tel.lean ====
section
/-! DEFINITION. The telemetry unit's state (16_telemetry.md). -/
namespace Sys2Proof.Machine

/-- A local accumulator (R439, R441). -/
structure Acc where
  n : Nat := 0
  inexact : Bool := false
deriving DecidableEq, Repr, Inhabited

/-- A counter: its central value and flags, and its accumulators by panel × 2 + bank (R437 to R442). -/
structure Ctr where
  value : Nat := 0
  wrap : Bool := false
  inexact : Bool := false
  acc : Tab Acc := []
deriving DecidableEq, Repr, Inhabited

/-- A dump in progress (R446, R451): the old banks are folded, the record is not yet written. -/
structure Dump where
  seq : Nat := 0
  flags : Nat := 0
  slot : Nat := 0
  /-- the snapshot instant, in ns of the set's base -/
  at_ : Nat := 0
  periods : Nat := 0
deriving DecidableEq, Repr, Inhabited

/-- A CTR_CLEAR that waits for a dump to read the counters (R450): its command and operands. -/
structure ClearWait where
  cmd : CmdRef := {}
  kind : Nat := 0
  what : Nat := 0
  first : Nat := 0
  items : Nat := 0
deriving DecidableEq, Repr, Inhabited

/-- A dump set (R444): `ops` are the operands of the CTR_SET_WRITE in force. -/
structure DumpSet where
  ops : List Byte := []
  enabled : Bool := false
  bankB : Bool := false
  /-- DUMP_SEQ of the next dump -/
  seq : Nat := 0
  dump : Option Dump := none
  /-- intervals skipped since the last snapshot (R447) -/
  skipped : Nat := 0
  suspect : Bool := false
  /-- a CTR_SET_WRITE that takes effect once the dump in progress is written (R450) -/
  next : Option (List Byte) := none
  /-- CTR_CLEAR commands that wait for the dump in progress (R450) -/
  clears : List ClearWait := []
deriving DecidableEq, Repr, Inhabited

structure TelState where
  /-- counters, keyed kind × 2^32 + number (R440) -/
  ctrs : Tab Ctr := []
  sets : Tab DumpSet := []
  cfgErr : Bool := false
  /-- dumps and sampler stopped at FENCE until TEL_CTRL.ENABLE is written 0 and then 1 (R457) -/
  stopped : Bool := false
  gzProd : Nat := 0
  gzCons : Nat := 0
  gzSeq : Nat := 0
  gzLost : Nat := 0
  /-- lost records not yet announced, and the CLK_AON cycle of the last EV_GAUZE_LOST -/
  gzLostEv : Nat := 0
  gzLostAt : Option Nat := none
  /-- staged records, oldest first: bytes 0 to 191 and 200 to 255, and GAP -/
  gzStage : List (List Byte) := []
  /-- eligible packets since the last take, and the gap drawn, by pipe × 4 + source -/
  gzSince : Tab Nat := []
  gzGap : Tab Nat := []
  /-- IOAM sink map, by port -/
  sink : Tab Bool := []
deriving DecidableEq, Repr, Inhabited

end Sys2Proof.Machine
end

