-- ==== Sys2Proof/Machine/Types/Time.lean ====
section
/-! DEFINITION. The time unit's state (15_time.md). -/
namespace Sys2Proof.Machine

/-- Table 15.1. -/
inductive TbState where
  | stopped | running | holdover | fenced
deriving DecidableEq, Repr, Inhabited

/-- A time base (R417 to R423). -/
structure TimeBase where
  sec : Nat := 0
  ns : Nat := 0
  /-- 48 fractional bits of a nanosecond, of which the top 16 are visible (R418) -/
  frac : Nat := 0
  /-- TRIM, signed, in 2^−40 -/
  trim : Int := 0
  /-- pending offset, in 2^−48 ns -/
  pending : Int := 0
  state : TbState := .stopped
  /-- in HOLDOVER: CLK10_IN to system reference, in 2^−40 (R423) -/
  ratio : Nat := 2 ^ 40
  freqJump : Bool := false
  /-- a pending offset has run out and SLEW_COMPLETE has not followed yet -/
  slewEnd : Bool := false
  steps : Nat := 0
  changeTs : Nat := 0
  changePh : Nat := 0
deriving DecidableEq, Repr, Inhabited

structure TimState where
  tb : Tab TimeBase := []
  /-- pair k's active member is the odd one -/
  odd01 : Bool := false
  odd23 : Bool := false
  /-- C of each pair, in 2^−48 ns (R424, R425) -/
  carry01 : Int := 0
  carry23 : Int := 0
  /-- TIM_CTRL.CFG_ERR -/
  cfgErr : Bool := false
  /-- missed edges per pin, 0 to 3 TS_EVENT_IN, 4 PPS_IN, since the last edge posted -/
  missed : Tab Nat := []
  /-- CLK_AON cycle of the last selected edge of each pin (R433) -/
  edgeAt : Tab (Option Nat) := []
  /-- transmit captures that wait to be posted, oldest first: panel and payload (R430) -/
  captures : List (Nat × List Byte) := []
  /-- transmit captures discarded (R430) -/
  captureLost : Nat := 0
deriving DecidableEq, Repr, Inhabited

end Sys2Proof.Machine
end

