-- ==== Sys2Proof/Machine/State.lean ====
section
/-! DEFINITION. The block's state, its state after reset, and the reasons a step can stop. -/
namespace Sys2Proof.Machine

/-- Why the block stops. Safe: the command is one no sender can give. -/
inductive Fault where
  /-- a command names a unit (a lane, a port, a channel, a bank …) outside the range the spec gives that unit;
  raised by `within` in every meaning with an index. Safe: the hardware has no such unit. -/
  | noSuchUnit
deriving DecidableEq, Repr

/-- Why a command has no meaning. -/
inductive Refusal where
  /-- an arm of `exec` that has no meaning yet; raised by `exec` only. Safe: nothing is claimed of it. -/
  | notModelled (mnemonic : String)
deriving DecidableEq, Repr

/-- Everything the spec gives the block, and the queue of commands that wait, first in, first out. -/
structure State where
  /-- commands that wait -/
  pending : List Instr := []
  /-- BAR0 words that differ from their reset value, by address (R8) -/
  regs : Tab Word := []
  /-- read latches of 64-bit registers, by address of the low word (R9) -/
  latch : Tab (Option Word) := []
  /-- write holds of 64-bit registers, by address of the low word (R9) -/
  hold : Tab (Option Word) := []
  /-- CLK_AON cycles since reset, 64 bits (AON_CYCLE of Table 18.2) -/
  aon : Nat := 0
  /-- what the block has sent out, newest first -/
  out : List Out := []
  /-- index of the next free value -/
  freeIx : Nat := 0
  hif : HifState := {}
  tim : TimState := {}
  flt : FltState := {}
  sys : SysState := {}
  lan : LanState := {}
  mac : MacState := {}
  tel : TelState := {}
  pwr : PwrState := {}
  slt : SltState := {}
  pip : PipState := {}
  tbl : TblState := {}
  buf : BufState := {}
  sch : SchState := {}
  mem : MemState := {}
  col : ColState := {}
  pool : PoolState := {}
  seq : SeqState := {}
  /-- memory items hit by an upset, keyed item × 64 + memory: 1 correctable, 2 uncorrectable, plus 4 × the bits turned over. No
  command makes one. -/
  upset : Tab Nat := []
deriving DecidableEq, Repr

/-- The power domains in RESET: every one but the always-on domain is held without power (Table 19.1, R33). -/
def heldDoms : Tab PDom := (List.range 30).map fun d => (d + 1, { st := .off })

/-- The machine right after reset: every field at the value the spec states for reset or the assumption log names. -/
def State.reset : State := { pwr := { doms := heldDoms } }

end Sys2Proof.Machine
end

