-- ==== Sys2Proof/Machine/Ops.lean ====
section
/-! DEFINITION. The named operations every family of commands shares: registers, output, time stamps, events and
completions, fault reports, commands in flight and their transfers. -/
namespace Sys2Proof.Machine

/-- The outcome of one command. -/
abbrev Res := Host.Outcome State Fault Refusal

/-- A command that names a unit by an index: the unit exists, or no sender can give the command. -/
def within (ok : Bool) (s : State) : Res := if ok then .next s else .fault .noSuchUnit

/-! ### Registers -/

/-- One word of BAR0: word `w` of element `n` of `r` (R8). -/
def rdWord (r : RegDesc) (n w : Nat) (s : State) : Word := tgetD s.regs (r.addr n + 4 * w) (r.resetWord n w)

/-- A register's value, both words where it is wide. -/
def rd (r : RegDesc) (n : Nat) (s : State) : Nat :=
  (rdWord r n 0 s).toNat + (if r.wide then 2 ^ 32 * (rdWord r n 1 s).toNat else 0)

def wrWord (r : RegDesc) (n w : Nat) (v : Word) (s : State) : State :=
  { s with regs := tsetD s.regs (r.addr n + 4 * w) v (r.resetWord n w) }

/-- Set a register's stored value. -/
def wr (r : RegDesc) (n v : Nat) (s : State) : State :=
  let t := wrWord r n 0 (BitVec.ofNat 32 v) s
  if r.wide then wrWord r n 1 (BitVec.ofNat 32 (v / 2 ^ 32)) t else t

/-- The value a write of `v` leaves: its RW bits are set, its other bits keep what they hold (R10). -/
def rwMerge (r : RegDesc) (old v : Nat) : Nat := (old &&& (r.rw ^^^ (2 ^ 64 - 1))) ||| (v &&& r.rw)

/-- A host write of a register's RW fields (R10). -/
def wrRw (r : RegDesc) (n v : Nat) (s : State) : State := wr r n (rwMerge r (rd r n s) v) s

/-- Set one field of a register's stored value. -/
def wrFld (r : RegDesc) (n lo w v : Nat) (s : State) : State := wr r n (setFld (rd r n s) lo w v) s

/-- A field of a register. -/
def rdFld (r : RegDesc) (n lo w : Nat) (s : State) : Nat := fld (rd r n s) lo w

/-! ### Output and free values -/

def emit (o : Out) (s : State) : State := { s with out := o :: s.out }

/-- The next free value, and the state that has used it. -/
def takeFree (s : State) : Nat × State := ((Config.freeValue s.freeIx).toNat, { s with freeIx := s.freeIx + 1 })

/-! ### Time bases as every consumer reads them (R417, R419, R424) -/

/-- Total count in ns (R417). -/
def TimeBase.total (t : TimeBase) : Nat := t.sec * 1000000000 + t.ns

/-- Total count in 2^−48 ns. -/
def TimeBase.fine (t : TimeBase) : Nat := t.total * 2 ^ 48 + t.frac

/-- Nanoseconds that 48-bit seconds span. -/
def timeSpan : Nat := 2 ^ 48 * 1000000000

/-- The base set to a count in 2^−48 ns. -/
def TimeBase.setFine (t : TimeBase) (f : Int) : TimeBase :=
  let f := (f % ((timeSpan * 2 ^ 48 : Nat) : Int)).toNat
  { t with sec := f / 2 ^ 48 / 1000000000, ns := f / 2 ^ 48 % 1000000000, frac := f % 2 ^ 48 }

/-- The base that an even number names while its pair bit is set, with its carry: the active member (R424). -/
def tbSource (n : Nat) (s : State) : Nat × Int :=
  let c := rd Reg.timCtrl 0 s
  if n = 0 ∧ bitAt c 2 then (if s.tim.odd01 then 1 else 0, s.tim.carry01)
  else if n = 2 ∧ bitAt c 3 then (if s.tim.odd23 then 3 else 2, s.tim.carry23)
  else (n, 0)

/-- What time base number `n` reads as: total ns; 0 while fenced (R419, R424). -/
def timeOf (n : Nat) (s : State) : Nat :=
  let (m, c) := tbSource n s
  let t := tget s.tim.tb m
  if t.state = .fenced then 0
  else (((t.fine : Int) + c) / (2 ^ 48 : Int) % ((timeSpan : Nat) : Int)).toNat

/-- Whether the base (or pair output) runs: RUNNING or HOLDOVER. -/
def tbRuns (n : Nat) (s : State) : Bool :=
  let st := (tget s.tim.tb (tbSource n s).1).state
  decide (st = .running) || decide (st = .holdover)

/-- A record timestamp and its wrap phase on base `n` (R11, R417). -/
def stampOf (n : Nat) (s : State) : Nat × Nat := (timeOf n s % 2 ^ 32, timeOf n s / 2 ^ 32 % 4)

/-- The base that stamps events (HIF_CTRL.TS_BASE). -/
def tsBase (s : State) : Nat := rdFld Reg.hifCtrl 0 1 2 s

/-- A stamp on HIF_CTRL.TS_BASE. -/
def stamp (s : State) : Nat × Nat := stampOf (tsBase s) s

/-! ### Rings (2.3) -/

/-- S, the entries of a ring (Table 2.5). -/
def ringSize (n : Nat) (s : State) : Nat := 2 ^ (rdFld Reg.hifRingCfg n 0 4 s + 6)
def ringKind (n : Nat) (s : State) : Nat := rdFld Reg.hifRingCfg n 4 2 s
def ringPriv (n : Nat) (s : State) : Bool := bitAt (rd Reg.hifRingCfg n s) 6
def ringOn (n : Nat) (s : State) : Bool := bitAt (rd Reg.hifRingCfg n s) 7
def ringEv (n : Nat) (s : State) : Nat := rdFld Reg.hifRingCfg n 8 8 s
def ringCh (n : Nat) (s : State) : Nat := rdFld Reg.hifRingCfg n 16 6 s
def ringBase (n : Nat) (s : State) : Nat := rd Reg.hifRingBase n s

def getRing (n : Nat) (s : State) : Ring := tget s.hif.rings n
def setRing (n : Nat) (r : Ring) (s : State) : State := { s with hif := { s.hif with rings := tset s.hif.rings n r } }

/-- An enabled event ring (R37). -/
def evRingOn (n : Nat) (s : State) : Bool := decide (n < 256) && ringOn n s && decide (ringKind n s = 1)

/-- Occupancy: (producer − consumer) mod 2S (R39). -/
def occupancy (size : Nat) (r : Ring) : Nat := (r.prod + 2 * size - r.cons) % (2 * size)

/-- Host address of the entry at a position. -/
def entryAddr (n entrySize pos : Nat) (s : State) : Nat := ringBase n s + entrySize * (pos % ringSize n s)

/-- PHASE of an entry written at a position: 1 in generation 0, 0 in generation 1 (R44). -/
def phaseOf (size pos : Nat) : Nat := if pos / size % 2 = 0 then 1 else 0

/-- The 64 bytes of an event (Table 2.12). -/
def Event.bytes (e : Event) (phase : Nat) : List Byte :=
  le 2 e.code ++ le 2 e.tag ++ le 1 e.status ++ le 1 (phase + 2 * b2n e.async + 4 * b2n e.late + 8 * (e.ph % 4)) ++
  le 1 e.src ++ le 1 e.ch ++ le 4 e.ts ++ le 4 e.seq ++ le 4 e.done ++ le 4 e.left ++ fit 40 e.payload

/-- Whether (new − old) mod 2S shows a position at or beyond another. -/
def atOrBeyond (size new old : Nat) : Bool := decide ((new + 2 * size - old) % (2 * size) ≤ size)

/-- The Per Vector Mask bit of an MSI-X vector (R36). -/
def vectorMasked (n : Nat) (s : State) : Bool := bitAt (rd Reg.msixTable (4 * n + 3) s) 0

/-- Raise an MSI-X vector (R35): a masked one only sets its bit of the pending-bit array (R36). -/
def raiseVector (n : Nat) (s : State) : State :=
  if vectorMasked n s then wr Reg.msixPba (n / 32) (rd Reg.msixPba (n / 32) s ||| 2 ^ (n % 32)) s else emit (.msix n) s

/-- Write an event into its ring, which has room, and raise the armed vector (R43, R44). -/
def writeEvent (n : Nat) (e : Event) (s : State) : State :=
  let r := getRing n s
  let size := ringSize n s
  let s := emit (.hostWrite (entryAddr n 64 r.prod s) (e.bytes (phaseOf size r.prod))) s
  match r.armed with
  | none => setRing n { r with prod := (r.prod + 1) % (2 * size) } s
  | some a =>
    if atOrBeyond size r.prod a then
      raiseVector n (setRing n { r with prod := (r.prod + 1) % (2 * size), armed := none } s)
    else setRing n { r with prod := (r.prod + 1) % (2 * size) } s

/-- Room in an enabled event ring. -/
def ringRoom (n : Nat) (s : State) : Bool :=
  evRingOn n s && decide (occupancy (ringSize n s) (getRing n s) < ringSize n s)

/-- Events of a backlog that count against its 64 places. -/
def backlogCount (b : List Waiting) : Nat := (b.filter fun w => match w with | .ev _ => true | .lost _ => false).length

/-- One more discarded event behind a backlog. -/
def addLost : List Waiting → List Waiting
  | [] => [.lost 1]
  | [.lost k] => [.lost (k + 1)]
  | w :: r => w :: addLost r

/-- An asynchronous event for a ring: written, put in the backlog, or discarded and counted (R46). -/
def asyncToRing (n : Nat) (e : Event) (s : State) : State :=
  let r := getRing n s
  if ringRoom n s ∧ r.comps = [] ∧ r.backlog = [] then writeEvent n e s
  else if backlogCount r.backlog < 64 then setRing n { r with backlog := r.backlog ++ [.ev e] } s
  else
    let s := setRing n { r with backlog := addLost r.backlog, lost := sat 8 (r.lost + 1) } s
    { s with hif := { s.hif with eventsLost := sat 32 (s.hif.eventsLost + 1) } }

/-- An asynchronous event, before its route is known. -/
def mkAsync (code : Nat) (payload : List Byte) (s : State) : Event :=
  { code := code, async := true, ts := (stamp s).1, ph := (stamp s).2, payload := fit 40 payload }

/-- Post an asynchronous event by HIF_EVENT_ROUTE (Table 2.8, R562); in LOCKDOWN the command engine is stopped (R523). -/
def post (code : Nat) (payload : List Byte) (s : State) : State :=
  if s.sys.mode = .lockdown then s else
  let route := rd Reg.hifEventRoute (code / 4096) s
  let ring := fld route 0 8
  if bitAt route 8 ∧ evRingOn ring s then asyncToRing ring (mkAsync code payload s) s
  else { s with hif := { s.hif with routeDiscards := sat 32 (s.hif.routeDiscards + 1) } }

/-- An event of a code can be posted now without being discarded for want of room in the backlog (R46). -/
def postRoom (code : Nat) (s : State) : Bool :=
  let route := rd Reg.hifEventRoute (code / 4096) s
  !(bitAt route 8 && evRingOn (fld route 0 8) s) || decide (backlogCount (getRing (fld route 0 8) s).backlog < 64)

/-- Transmit captures that wait are posted while there is room (R430). -/
def postCaptures : List (Nat × List Byte) → State → State
  | [], s => { s with tim := { s.tim with captures := [] } }
  | c :: r, s => if postRoom 0x7005 s then postCaptures r (post 0x7005 c.2 s) else { s with tim := { s.tim with captures := c :: r } }
def drainCaptures (s : State) : State := if s.tim.captures = [] ∨ s.sys.mode = .lockdown then s else postCaptures s.tim.captures s

/-! ### Fault reports (18.1) -/

/-- CLK_AON cycles of one millisecond. -/
def aonMs : Nat := 250000

/-- Whether a report merges into a record (R492). -/
def mergesInto (c kind unit now mergeMs : Nat) (r : FltRec) : Bool :=
  r.cls == c && r.kind == kind && r.unit == unit && !r.acked &&
  (!r.cleared || (decide (mergeMs ≠ 0) && decide (now ≤ r.lastAon + mergeMs * aonMs)))

/-- A record that takes one more report (R492). -/
def FltRec.merge (r : FltRec) (cond : Bool) (now : Nat) : FltRec :=
  if cond ∧ r.cleared then
    { r with count := sat 32 (r.count + 1), lastAon := now, condition := true, cleared := false, clrTs := 0, clrPh := 0 }
  else { r with count := sat 32 (r.count + 1), lastAon := now }

/-- Change the newest record that satisfies `p`; none where no record does. -/
def mergeFirst (p : FltRec → Bool) (f : FltRec → FltRec) : List FltRec → Option (List FltRec)
  | [] => none
  | r :: rs => if p r then some (f r :: rs) else (mergeFirst p f rs).map (r :: ·)

/-- Merge a report into a record, if one takes it (R492). -/
def tryMerge (rep : Report) (now : Nat) (s : State) : Option State :=
  let ms := rdFld Reg.fltClassCfg rep.cls 8 8 s
  match mergeFirst (mergesInto rep.cls rep.kind rep.unit now ms) (fun r => r.merge rep.condition now) s.flt.recs with
  | none => none
  | some rs => some { s with flt := { s.flt with recs := rs } }

/-! ### Fence state of units (18.5, 18.6) -/

/-- Key of a unit in the fence table. -/
def unitKey (kind ix : Nat) : Nat := kind * 1024 + ix
def getUnit (kind ix : Nat) (s : State) : FUnit := tget s.flt.units (unitKey kind ix)
def setUnit (kind ix : Nat) (u : FUnit) (s : State) : State :=
  { s with flt := { s.flt with units := tset s.flt.units (unitKey kind ix) u } }

/-- The units that a report stands for: its unit, or its class's set (R558). -/
def reportSet (cls kind unit : Nat) : List (Nat × Nat) :=
  if cls = 20 ∧ kind = 3 then [(3, unit / 2 * 2), (3, unit / 2 * 2 + 1)]
  else if 112 ≤ cls ∧ cls ≤ 127 ∧ kind = 3 then (List.range 4).map fun g => (3, unit / 4 * 4 + g)
  else if cls = 183 ∧ kind = 9 then (List.range 16).map fun i => (9, unit / 16 * 16 + i)
  else [(kind, unit)]

/-- A unit under online test that reports a fault has failed it (Table 18.6). -/
def markTest (rep : Report) (s : State) : State :=
  (reportSet rep.cls rep.kind rep.unit).foldl (fun s u =>
    if u.2 < 1024 ∧ (getUnit u.1 u.2 s).state = .testing then setUnit u.1 u.2 { getUnit u.1 u.2 s with faulted := true } s else s) s

/-- A report's place in its queue: behind every other, but reports of one class taken in one cycle stand in order of unit
kind and unit index (R498). -/
def insertReport (i : Intake) : List Intake → List Intake
  | [] => [i]
  | j :: r =>
    if j.aon = i.aon ∧ j.rep.cls = i.rep.cls ∧ (i.rep.kind < j.rep.kind ∨ (i.rep.kind = j.rep.kind ∧ i.rep.unit < j.rep.unit)) then
      i :: j :: r
    else j :: insertReport i r

/-- A report enters the intake queue of its class block, stamped with the CLK_AON cycle (R30, R491). -/
def enqueue (rep : Report) (s : State) : State :=
  let s := markTest rep s
  let b := rep.cls / 16
  let q := tget s.flt.intake b
  if q.length < 8 then
    let st := stamp s
    let i : Intake := { rep := { rep with detail := fit 24 rep.detail }, aon := s.aon, ts := st.1, ph := st.2, tb := tsBase s }
    { s with flt := { s.flt with intake := tset s.flt.intake b (insertReport i q) } }
  else match tryMerge rep s.aon s with
    | some t => t
    | none => { s with flt := { s.flt with
        lost := sat 32 (s.flt.lost + 1), blockLost := tmod s.flt.blockLost b (· + 1) } }

/-- A unit reports a fault event (R490), naming a unit by kind and index (R558). -/
def report (cls kind unit : Nat) (detail : List Byte) (s : State) : State :=
  enqueue { cls := cls, kind := kind, unit := unit % 65536, detail := detail } s

/-- A unit reports a fault condition (R490). -/
def reportCond (cls kind unit : Nat) (detail : List Byte) (s : State) : State :=
  enqueue { cls := cls, kind := kind, unit := unit % 65536, detail := detail, condition := true } s

/-- Not in service: fenced or under online test (R509, R510). -/
def fencedU (kind ix : Nat) (s : State) : Bool := decide ((getUnit kind ix s).state ≠ .inService)

/-- Fence code of the Linen common prefix (R75, R510). -/
def fenceCode (kind ix : Nat) (s : State) : Nat :=
  match (getUnit kind ix s).state with
  | .inService => 0
  | .fenced => 1
  | .testing => 2

/-- Units of a kind, of `n`, that are not in service, as a bit map. -/
def fenceMap (kind n : Nat) (s : State) : Nat := ofBits ((List.range n).map fun i => fencedU kind i s)

/-- Whether any unit is not in service (R509). -/
def anyFenced (s : State) : Bool := s.flt.units.any fun e => decide (e.2.state ≠ .inService)

/-- Highest unacknowledged level of a unit's records, 0 if none (R75). -/
def unitLevel (kind ix : Nat) (s : State) : Nat :=
  s.flt.recs.foldl (fun a r => if !r.acked && r.kind == kind && r.unit == ix then max a r.level else a) 0

/-- The Linen common prefix (R75). -/
def prefix75 (state fence level flags ts ph : Nat) : List Byte :=
  [byte state, byte fence, byte (level + 64 * (ph % 4)), byte flags] ++ le 4 ts

/-! ### Modes -/

def Mode.num : Mode → Nat
  | .off => 0 | .reset => 1 | .wipe => 2 | .boot => 3 | .staged => 4 | .forward => 5 | .degraded => 6
  | .drain => 7 | .doze => 8 | .hold => 9 | .lockdown => 10 | .diag => 11

/-- STAGED, or a mode later than STAGED in Table 19.1. -/
def Mode.late (m : Mode) : Bool := decide (4 ≤ m.num)

/-- Modes in which the command engine serves rings (R72, R523, R524). -/
def Mode.engine (m : Mode) : Bool := m.late && decide (m ≠ .lockdown)

/-- A write to a BAR0 window other than SYS, FLT and PWR: it is discarded before STAGED and in LOCKDOWN (R523, R524). -/
def whenOpen (s t : State) : State := if s.sys.mode.engine then t else s

/-- What the power manager does, it does from WIPE on (Table 19.1, R557). -/
def fromWipe (s t : State) : State := if 2 ≤ s.sys.mode.num then t else s

/-- Modes in which pipes take frames: FORWARD, DEGRADED and DRAIN (Table 19.1, R521). -/
def Mode.forwards (m : Mode) : Bool := decide (m = .forward) || decide (m = .degraded) || decide (m = .drain)

/-- Change the mode; EV_SYS_MODE follows each change from STAGED or later to a mode other than RESET (R520). Causes:
0 command, 1 fence change, 2 fault, 3 drain limit. -/
def setMode (m : Mode) (cause : Nat) (s : State) : State :=
  let old := s.sys.mode
  let s := if old.late ∧ old ≠ m ∧ m ≠ .reset ∧ m ≠ .off then post 0xB000 [byte m.num, byte old.num, byte cause] s else s
  { s with sys := { s.sys with mode := m } }

/-! ### Commands in flight (2.4, 2.6) -/

/-- The opcodes that chapters assign (R54, Table 2.14 and the command tables). -/
def assignedOp (op : Nat) : Bool :=
  decide (op ≤ 0x06) || decide (0x10 ≤ op ∧ op ≤ 0x13) || decide (0x18 ≤ op ∧ op ≤ 0x1A) || op == 0x1C || op == 0x1D ||
  decide (0x20 ≤ op ∧ op ≤ 0x27) || decide (0x30 ≤ op ∧ op ≤ 0x33) || decide (0x38 ≤ op ∧ op ≤ 0x3B) ||
  decide (0x40 ≤ op ∧ op ≤ 0x44) || decide (0x50 ≤ op ∧ op ≤ 0x55) || decide (0x60 ≤ op ∧ op ≤ 0x65) ||
  decide (0x70 ≤ op ∧ op ≤ 0x74) || decide (0x78 ≤ op ∧ op ≤ 0x7B) || decide (0x80 ≤ op ∧ op ≤ 0x87) ||
  decide (0x90 ≤ op ∧ op ≤ 0x9D) || decide (0xA0 ≤ op ∧ op ≤ 0xA6) || op == 0xA8 || decide (0xAC ≤ op ∧ op ≤ 0xAF) ||
  decide (0xB0 ≤ op ∧ op ≤ 0xB7)

def Cmd.ref (c : Cmd) : CmdRef := { ring := c.ring, seq := c.seq }

/-- An operand of `k` bytes at an offset of OPERANDS. -/
def Cmd.op (c : Cmd) (off k : Nat) : Nat := leAt c.ops off k

/-- The completion event of a command (Tables 2.12 and 2.16). -/
def completion (c : Cmd) (r : CmdRes) (done left : Nat) (s : State) : Event :=
  { code := if r.status ≠ 0 then 2 else if c.opcode = 6 then 7 else 1
    tag := c.tag, status := r.status, ts := (stamp s).1, ph := (stamp s).2, src := c.ring
    ch := if c.len = 0 then 255 else if c.opcode = 1 then 0 else c.ch
    seq := c.seq, done := done, left := left, payload := fit 40 r.payload }

/-- Take the first entry that satisfies `p` out of a list. -/
def dropFirst (p : α → Bool) : List α → List α
  | [] => []
  | x :: xs => if p x then xs else x :: dropFirst p xs

/-- Change the first entry that satisfies `p`. -/
def modFirst (p : α → Bool) (f : α → α) : List α → List α
  | [] => []
  | x :: xs => if p x then f x :: xs else x :: modFirst p f xs

/-- Take a command out of flight. A ring that was enabled again may give its number a second time: the older command is
meant. -/
def retire (ref : CmdRef) (s : State) : State :=
  { s with hif := { s.hif with inflight := dropFirst (fun c => decide (c.ref = ref)) s.hif.inflight } }

/-- Change a command in flight. -/
def modCmd (ref : CmdRef) (f : Cmd → Cmd) (s : State) : State :=
  { s with hif := { s.hif with inflight := modFirst (fun c => decide (c.ref = ref)) f s.hif.inflight } }

/-- A completion for its event ring: written while there is room, else it waits and its command stays in flight
(R38, R46). -/
def completeTo (c : Cmd) (e : Event) (s : State) : State :=
  if ringRoom c.evRing s ∧ (getRing c.evRing s).comps = [] then retire c.ref (writeEvent c.evRing e s)
  else
    let r := getRing c.evRing s
    modCmd c.ref (fun d => { d with stage := .waiting }) (setRing c.evRing { r with comps := r.comps ++ [(c.ref, e)] } s)

/-- Whether a completion posts an event: every error, every EVENT_TEST, and a success without NO_EVENT (R48, R54). -/
def Cmd.posts (c : Cmd) (r : CmdRes) : Bool := decide (r.status ≠ 0) || !c.noEvent || decide (c.opcode = 6)

/-- A command ends (R45 to R49, R54); the completion of a command in flight when PERST_N was asserted is discarded
and counted (R527). -/
def finish (c : Cmd) (r : CmdRes) (done left : Nat) (s : State) : State :=
  if s.sys.mode = .lockdown then s
  else if c.orphan then
    let s := retire c.ref s
    { s with hif := { s.hif with
        perstDiscards := if c.posts r then sat 32 (s.hif.perstDiscards + 1) else s.hif.perstDiscards } }
  else if c.posts r then completeTo c (completion c r done left s) s else retire c.ref s

def findCmd (ref : CmdRef) (s : State) : Option Cmd := s.hif.inflight.find? fun c => decide (c.ref = ref)

/-- A command that waited for its end outside the command engine ends now. -/
def finishRef (ref : CmdRef) (r : CmdRes) (s : State) : State :=
  match findCmd ref s with
  | none => s
  | some c => finish c r 0 0 s

/-- The commands of a ring that are ahead of a command, in ring order. -/
def earlier (c : Cmd) (s : State) : List Cmd :=
  (s.hif.inflight.takeWhile fun d => decide (d.ref ≠ c.ref)).filter fun d => decide (d.ring = c.ring)

/-- Whether a command may start (R57): commands of one ring start in ring order, and an ORDERED command waits until
every earlier command of its ring has completed. -/
def startable (c : Cmd) (s : State) : Bool :=
  if c.ordered then (earlier c s).isEmpty
  else (earlier c s).all fun d => decide (d.stage ≠ .fetched)

/-- Start check 4 (R561): in HOLD the engine accepts only NOP and SUMMARY (R72); SEQ_LOAD is taken in STAGED and DIAG (R393),
DIAG_TEST in DIAG (R512). -/
def modeForbids (op : Nat) (s : State) : Bool :=
  (decide (s.sys.mode = .hold) && decide (op ≠ 0) && decide (op ≠ 1)) ||
  (op == 0xA0 && decide (s.sys.mode ≠ .staged) && decide (s.sys.mode ≠ .diag)) || (op == 0x87 && decide (s.sys.mode ≠ .diag))

/-- Channel `ch` is enabled. -/
def chanOn (ch : Nat) (s : State) : Bool := bitAt (rd Reg.hifDmaCfg ch s) 8

def getChan (ch : Nat) (s : State) : Chan := tget s.hif.chans ch
def setChan (ch : Nat) (c : Chan) (s : State) : State := { s with hif := { s.hif with chans := tset s.hif.chans ch c } }

/-- Start check 5 (R48, R561) of a command that moves data on its channel: FENCED, then BAD_CHANNEL. -/
def channelCheck (c : Cmd) (s : State) : Option Nat :=
  if c.len = 0 ∨ c.opcode = 1 then none
  else if fencedU 10 c.ch s then some 0x06
  else if c.ch ≥ 64 ∨ !chanOn c.ch s ∨ (decide (c.ch < 4) && !ringPriv c.ring s) then some 0x08
  else none

/-- Start checks 4 and 5, made when the command starts. -/
def startCheck (c : Cmd) (s : State) : Option Nat :=
  if modeForbids c.opcode s then some 0x05 else channelCheck c s

/-- What an owner does with a command: it is done, or it ends later at a step of its own. -/
inductive CmdEnd where
  | done (r : CmdRes)
  | later

/-- A descriptor starts on its channel (R62 to R65). -/
def startXfer (x : Xfer) (ch : Nat) (s : State) : State :=
  let c := getChan ch s
  setChan ch { c with xfers := c.xfers ++ [x], lastSeq := x.cmd.seq } s

/-! ### Power domains of a command's data (R34, R69, R70) -/

/-- The panels of `per` items each that a range of items reaches, as power domains. -/
def rangeDoms (first n per : Nat) : List Nat :=
  ((List.range 4).filter fun x => decide (first < (x + 1) * per) && decide (x * per < first + n)).map (1 + ·)

/-- The panels that have power: a command for every panel reaches these. -/
def liveDoms (s : State) : List Nat :=
  ((List.range 4).map (1 + ·)).filter fun d => decide ((tget s.pwr.doms d).st ≠ .off) && decide ((tget s.pwr.doms d).st ≠ .poweringUp)

/-- The power domains that hold the source or target of a command's data (Tables 1.5 and 2.14): the table array, the buffer, a
panel, or a lane group. POOL_COPY and COL_JOB_CREATE look for theirs themselves; every other command's target lies in the
service block, the host interface or the always-on domain, which have power whenever the engine serves. -/
def cmdDoms (c : Cmd) (s : State) : List Nat :=
  if c.opcode = 0x26 ∨ c.opcode = 0x27 ∨ (0xAC ≤ c.opcode ∧ c.opcode ≤ 0xAF) then liveDoms s
  else if 0x10 ≤ c.opcode ∧ c.opcode ≤ 0x25 ∨ c.opcode = 0x3A then [5]
  else if 0x30 ≤ c.opcode ∧ c.opcode ≤ 0x33 then [6]
  else if c.opcode = 0x38 then rangeDoms (c.op 0 2) (c.op 2 2) 256
  else if c.opcode = 0x39 then rangeDoms (c.op 0 4) (c.op 4 4) 5120 ++ rangeDoms (c.op 0 4 - 20480) (c.op 0 4 + c.op 4 4 - 20480) 256
  else if c.opcode = 0x3B then rangeDoms (c.op 0 2) (c.op 2 2) 5120
  else if c.opcode = 0x92 ∨ c.opcode = 0x93 then (if c.op 0 2 / 64 < 16 then [11 + c.op 0 2 / 64] else [])
  else if c.opcode = 0x95 then rangeDoms (c.op 0 2) 1 256
  else if c.opcode = 0x96 then rangeDoms (c.op 0 2) (c.op 2 2) 256
  else if c.opcode = 0xA8 then rangeDoms (c.op 0 1) 1 4
  else []

/-- A power-down of one of the domains is registered, or it has no power (R70). -/
def domsDown (ds : List Nat) (s : State) : Bool := ds.any fun d => decide ((tget s.pwr.doms d).st ≠ .on)

/-- The owner's result, once known: a command that moves no data ends; one that moves data starts its descriptor, and
ends when that completes (R62, R63). A status other than OK moves data only where the owner gives bytes (R194). Of a host buffer
whose read the host refused, the bytes that had arrived are counted, and a privileged channel reports none left (R62, R63). -/
def conclude (c : Cmd) (r : CmdRes) (domains : List Nat) (s : State) : State :=
  if (r.status ≠ 0 ∧ r.data = []) ∨ c.len = 0 then
    finish c r (min r.arrived c.len) (if r.refused ∧ 4 ≤ c.ch then c.len - r.arrived else 0) s
  else if fencedU 10 c.ch s then finish c { status := 0x06 } 0 0 s
  else if r.data.isEmpty then
    startXfer { cmd := c.ref, dir := .fromHost, addr := c.addr, left := c.len, res := r, domains := domains } c.ch s
  else
    startXfer { cmd := c.ref, dir := .toHost, addr := c.addr, left := c.len, data := fit c.len r.data, res := r,
                domains := domains } c.ch s

/-- A HALTED channel, or one that drains for a fence by command, starts no new descriptor (R66, R505). -/
def chanBlocked (ch : Nat) (s : State) : Bool := (getChan ch s).halted || (getUnit 10 ch s).draining.isSome

def chanReady (c : Cmd) (s : State) : Bool := decide (c.len = 0) || decide (c.opcode = 1) || fencedU 10 c.ch s || !chanBlocked c.ch s

/-- A channel moves data of its own accord: enabled, not fenced, not blocked. -/
def chanServes (ch : Nat) (s : State) : Bool := chanOn ch s && !fencedU 10 ch s && !chanBlocked ch s

/-- The channel that Serge uses in place of DC01, DC02 or DC03 (R508). -/
def sergeChan (ch : Nat) (s : State) : Nat :=
  if ch = 3 then (if fencedU 10 3 s then 2 else 3) else if fencedU 10 ch s then 3 else ch

/-- Run a command in flight: the command engine runs, the named command has this opcode, has not started and may start now;
otherwise nothing happens. Start checks 4 and 5 come first, then the owner's checks and effect. `domains` are the power domains
that its data touches: a descriptor that would start while one of them is off or to be powered down ends with DOMAIN_OFF, with
nothing done (R70), and the loss of one stops its transfer (R71). -/
def runCmdIn (domains : Cmd → State → List Nat) (op : Nat) (ref : CmdRef) (body : Cmd → State → State × CmdEnd) (s : State) : State :=
  match findCmd ref s with
  | none => s
  | some c =>
    if s.sys.mode.engine ∧ c.opcode = op ∧ c.stage = .fetched ∧ startable c s ∧ (chanReady c s ∨ modeForbids c.opcode s) then
      match startCheck c s with
      | some st => finish c { status := st } 0 0 s
      | none =>
        let s := modCmd ref (fun d => { d with stage := .running }) s
        let down := decide (c.len ≠ 0) && domsDown (domains c s) s
        match body c s with
        | (t, .later) => if down then finish c { status := 0x07 } 0 0 s else t
        | (t, .done r) =>
          if down ∧ ¬(r.status ≠ 0 ∧ r.data = []) then finish c { status := 0x07 } 0 0 s else conclude c r (domains c s) t
    else s

/-- `runCmdIn` for a command whose domains its opcode and operands tell. -/
def runCmd (op : Nat) (ref : CmdRef) (body : Cmd → State → State × CmdEnd) (s : State) : State :=
  runCmdIn cmdDoms op ref body s

/-- The owner completes a command with a status alone. -/
def fail (st : Nat) (s : State) : State × CmdEnd := (s, .done { status := st })
/-- The owner completes a command with OK. -/
def okay (s : State) : State × CmdEnd := (s, .done {})
/-- The owner completes a command with OK and a PAYLOAD. -/
def okayWith (payload : List Byte) (s : State) : State × CmdEnd := (s, .done { payload := payload })
/-- The owner completes a command with OK and bytes for its host buffer. -/
def okayData (data : List Byte) (s : State) : State × CmdEnd := (s, .done { data := data })

/-- A command that reads its host buffer: the bytes the host answered, or the host's error, after which the owner does nothing
(R61, Table 2.15). -/
def withHost (c : Cmd) (h : HostAns) (s : State) (k : List Byte → State × CmdEnd) : State × CmdEnd :=
  match h with
  | .error st got => (s, .done { status := if st.toNat = 0 then 0x0C else st.toNat, refused := true, arrived := got.length })
  | .data bs => k (fit c.len bs)

/-- Common status codes (Table 2.15). -/
def BAD_PARAM : Nat := 0x02
def NO_RESOURCE : Nat := 0x04
def ST_MODE : Nat := 0x05
def ST_FENCED : Nat := 0x06
def DOMAIN_OFF : Nat := 0x07
def TARGET_ECC : Nat := 0x0D

/-! ### Thermal sensors (R478, R480) -/

/-- Sensors of the die that a sensor stands on; that of a lane group stands alone. -/
def dieSensors (n : Nat) : List Nat :=
  if n < 6 then List.range 6 else if n < 12 then (List.range 6).map (6 + ·) else if n < 28 then [n] else [28, 29, 30, 31]
def getSensor (n : Nat) (s : State) : Sensor := tget s.pwr.sensors n
/-- Temperature in 1/16 °C that a sensor stands for: a failed one is taken 5 °C above the hottest working one of its die (R480). -/
def sensorTemp (n : Nat) (s : State) : Int :=
  let x := getSensor n s
  if !x.failed then x.temp
  else match (dieSensors n).filter fun m => !(getSensor m s).failed with
    | [] => x.temp
    | m :: r => r.foldl (fun a k => max a (getSensor k s).temp) (getSensor m s).temp + 80

/-! ### Upsets of memories -/

/-- The upset state of an item of a memory: 0 none, 1 correctable, 2 uncorrectable. -/
def upsetOf (mem ix : Nat) (s : State) : Nat := tget s.upset (ix * 64 + mem) % 4
/-- The bits of an item that its upset has turned over. -/
def flipsOf (mem ix : Nat) (s : State) : Nat := tget s.upset (ix * 64 + mem) / 4
/-- An item is rewritten: its upset is gone. -/
def clearUpset (mem ix : Nat) (s : State) : State := { s with upset := tset s.upset (ix * 64 + mem) 0 }

/-- The items of a memory that an upset has hit, with its kind. -/
def upsetItems (mem : Nat) (s : State) : List (Nat × Nat) :=
  (s.upset.filter fun e => e.1 % 64 == mem && decide (e.2 % 4 ≠ 0)).map fun e => (e.1 / 64, e.2 % 4)

/-- The memories that rules on upsets name. -/
def memParse : Nat := 1
def memProfile : Nat := 2
def memTemplate : Nat := 3
def memEdit : Nat := 4
def memGroup : Nat := 5
def memEntry : Nat := 6
def memMirror : Nat := 7
def memEacl : Nat := 8
def memEm : Nat := 9
def memLpm : Nat := 10
def memEcmp : Nat := 11
def memMember : Nat := 12
def memHop : Nat := 13
def memMeter : Nat := 14
def memFlowlet : Nat := 15
def memSeq : Nat := 16
/-- 17 and 18 are the Burlap bursts and the service SRAM; these are Serge's: scratch words, checkpoint words, store words. -/
def memScratch : Nat := 19
def memChk : Nat := 20
def memStore : Nat := 21
/-- Warm states by lane (R94), gate lists by port (R137), and tags and key buffers by packet (R187, FC067). -/
def memWarm : Nat := 22
def memGate : Nat := 23
def memTag : Nat := 24
def memKey : Nat := 27
/-- Buffer cells: 256 × the number of the stored packet, plus the cell or unit (R269). -/
def memCell : Nat := 28
/-- Scheduling state by queue (FC112), shapers (FC114) and sample state by queue (FC116). -/
def memSched : Nat := 29
def memShaper : Nat := 30
def memSample : Nat := 31
/-- Staging of a collective slot: 2^32 × job + chunk (Table 11.14). -/
def memStaging : Nat := 32
/-- Central values by counter key, and accumulators by 8 × key + 2 × panel + bank (Table 16.7). -/
def memCtr : Nat := 33
def memAcc : Nat := 34
/-- Connection memory entries (FC048, FC049), and performance bins: 2 × BIN_SEQ, plus 1 for a day bin (FC053). -/
def memCm : Nat := 25
def memPm : Nat := 26

end Sys2Proof.Machine
end

