-- ==== Sys2Proof/Machine/Count.lean ====
section
/-! DEFINITION. Counters (16.1, 16.2): counting into accumulators, folding, reading. -/
namespace Sys2Proof.Machine

/-- Items of a counter kind and counters of an item (Table 16.1). -/
def ctrPer (kind : Nat) : Nat := if kind = 0 then 54 else if kind = 1 then 13 else if kind = 2 then 2 else 16
def ctrItems (kind : Nat) : Nat := if kind = 0 then 1024 else if kind = 1 then 20480 else if kind = 2 then 1048576 else 16

/-- Width of a local accumulator (Table 16.1). -/
def accBits (kind num : Nat) : Nat :=
  let ix := num % ctrPer kind
  if kind = 0 then (if ix = 1 ∨ ix = 3 then 48 else if 44 ≤ ix ∧ ix ≤ 51 then 40 else 32)
  else if kind = 1 then (if ix = 1 ∨ ix = 3 then 48 else 32)
  else if kind = 2 then (if ix = 1 then 48 else 32) else 32

def ctrKey (kind num : Nat) : Nat := kind * 2 ^ 32 + num

/-- Fields of a set's operands (Table 16.8). -/
def DumpSet.kind (d : DumpSet) : Nat := leAt d.ops 1 1
def DumpSet.flags (d : DumpSet) : Nat := leAt d.ops 2 1
def DumpSet.tb (d : DumpSet) : Nat := leAt d.ops 3 1
def DumpSet.first (d : DumpSet) : Nat := leAt d.ops 4 4
def DumpSet.items (d : DumpSet) : Nat := leAt d.ops 8 4
def DumpSet.period (d : DumpSet) : Nat := leAt d.ops 12 4
def DumpSet.slots (d : DumpSet) : Nat := leAt d.ops 16 2
def DumpSet.evRing (d : DumpSet) : Nat := leAt d.ops 18 1
def DumpSet.area (d : DumpSet) : Nat := leAt d.ops 24 8

/-- The time that a base number reads stepped, did not run or was slewed beyond SLEW_MAX: the next record of every set
on it is TIME_SUSPECT (R448). -/
def markSuspect (n : Nat) (s : State) : State :=
  { s with tel := { s.tel with sets := tmap s.tel.sets fun _ d => if d.enabled ∧ d.tb = n then { d with suspect := true } else d } }

/-- Whether an enabled set holds a counter. -/
def DumpSet.holds (d : DumpSet) (kind num : Nat) : Bool :=
  d.enabled && decide (d.kind = kind) && decide (d.first ≤ num / ctrPer kind) && decide (num / ctrPer kind < d.first + d.items)

/-- The enabled set that holds a counter, with its number. -/
def setOf (kind num : Nat) (s : State) : Option (Nat × DumpSet) := s.tel.sets.find? fun e => e.2.holds kind num

/-- The bank a counter counts into: only a counter of an enabled set switches banks (R444). -/
def activeBank (kind num : Nat) (s : State) : Nat :=
  match setOf kind num s with
  | some (_, d) => b2n d.bankB
  | none => 0

/-- Count `n` in `panel`'s accumulator; an accumulator that reaches its largest value stays there, sets INEXACT, and
FC209 is recorded (R439, R441). -/
def countIn (panel kind num n : Nat) (s : State) : State :=
  let key := ctrKey kind num
  let c := tget s.tel.ctrs key
  let ix := panel * 2 + activeBank kind num s
  let a := tget c.acc ix
  let top := 2 ^ accBits kind num - 1
  let full := decide (a.n + n ≥ top)
  let a' : Acc := { n := min (a.n + n) top, inexact := a.inexact || full }
  let s := { s with tel := { s.tel with ctrs := tset s.tel.ctrs key { c with acc := tset c.acc ix a' } } }
  if full ∧ !a.inexact then report 209 14 kind (le 8 num) s else s

/-- Count `n` in counter `ix` of an item. -/
def count (kind item ix n : Nat) (s : State) : State := countIn 0 kind (item * ctrPer kind + ix) n s

/-- Count in a port's fixed counter (Table 4.8). -/
def countPort (p ix n : Nat) (s : State) : State := count 0 p ix n s
/-- Count in a queue's fixed counter (Table 9.10). -/
def countQueue (q ix n : Nat) (s : State) : State := count 1 q ix n s
/-- Count in a pipe's counter (Table 16.2). -/
def countPipe (p ix n : Nat) (s : State) : State := count 3 p ix n s
/-- Charge a flex counter pair in a panel (R438). -/
def countFlex (panel id bytes : Nat) (s : State) : State :=
  countIn panel 2 (id * 2 + 1) bytes (countIn panel 2 (id * 2) 1 s)

/-- Fold one accumulator into the central value (R439, R442): read, cleared, added modulo 2^64. -/
def foldAcc (kind num ix : Nat) (s : State) : State :=
  let key := ctrKey kind num
  let c := tget s.tel.ctrs key
  let a := tget c.acc ix
  let sum := c.value + a.n
  let wrapped := decide (sum ≥ 2 ^ 64)
  let newInexact := a.inexact && !c.inexact
  let c' : Ctr := { value := sum % 2 ^ 64, wrap := c.wrap || wrapped, inexact := c.inexact || a.inexact, acc := tset c.acc ix {} }
  let s := { s with tel := { s.tel with ctrs := tset s.tel.ctrs key c' } }
  match setOf kind num s with
  | some _ => s
  | none =>
    let s := if wrapped then post 0x6001 ([byte kind, 0xFF, 0, 0] ++ le 4 num) s else s
    if newInexact then post 0x6002 ([byte kind, 0xFF, 0, 0] ++ le 4 num) s else s

/-- Panels that count a kind separately (Table 16.1). -/
def ctrPanels (kind : Nat) : Nat := if kind = 2 then 4 else 1

/-- A counter becomes INEXACT; in no set, the event is posted once until the flag is cleared (R441). -/
def markInexact (kind num : Nat) (s : State) : State :=
  let key := ctrKey kind num
  let c := tget s.tel.ctrs key
  let t := { s with tel := { s.tel with ctrs := tset s.tel.ctrs key { c with inexact := true } } }
  if c.inexact ∨ (setOf kind num s).isSome then t else post 0x6002 ([byte kind, 0xFF, 0, 0] ++ le 4 num) t

/-- The central value of a counter is read: one with an uncorrectable error becomes 0 and INEXACT (FC208), a correctable error is
mended (FC210, Table 16.7). -/
def meetValue (kind num : Nat) (s : State) : State :=
  let key := ctrKey kind num
  match upsetOf memCtr key s with
  | 1 => report 210 14 kind (le 8 num) (clearUpset memCtr key s)
  | 2 =>
    let s := clearUpset memCtr key s
    report 208 14 kind (le 8 num)
      (markInexact kind num { s with tel := { s.tel with ctrs := tmod s.tel.ctrs key fun c => { c with value := 0 } } })
  | _ => s

/-- An accumulator is read: one with a parity error is discarded, and its counter is INEXACT (FC213); a correctable error is mended
(FC210). -/
def meetAcc (kind num ix : Nat) (s : State) : State :=
  let key := ctrKey kind num
  match upsetOf memAcc (8 * key + ix) s with
  | 1 => report 210 14 kind (le 8 num) (clearUpset memAcc (8 * key + ix) s)
  | 2 =>
    let s := clearUpset memAcc (8 * key + ix) s
    report 213 14 kind (le 8 num)
      (markInexact kind num { s with tel := { s.tel with ctrs := tmod s.tel.ctrs key fun c => { c with acc := tset c.acc ix {} } } })
  | _ => s

/-- A counter is read with its accumulators. -/
def meetCtr (kind num : Nat) (s : State) : State :=
  (List.range (2 * ctrPanels kind)).foldl (fun s ix => meetAcc kind num ix s) (meetValue kind num s)

/-- A counter and its accumulators are written anew. -/
def freshCtr (kind num : Nat) (s : State) : State :=
  (List.range (2 * ctrPanels kind)).foldl (fun s ix => clearUpset memAcc (8 * ctrKey kind num + ix) s)
    (clearUpset memCtr (ctrKey kind num) s)

/-- Fold the accumulators of a counter that its bank `bank` holds. -/
def foldBank (kind num bank : Nat) (s : State) : State :=
  (List.range (ctrPanels kind)).foldl (fun s p => foldAcc kind num (p * 2 + bank) (meetAcc kind num (p * 2 + bank) s))
    (meetValue kind num s)

/-- Fold a counter: both banks, but the new bank of a counter whose dump is in progress is held (R446). -/
def foldCtr (kind num : Nat) (s : State) : State :=
  match setOf kind num s with
  | some (_, d) => if d.dump.isSome then foldBank kind num (1 - b2n d.bankB) s else foldBank kind num 1 (foldBank kind num 0 s)
  | none => foldBank kind num 1 (foldBank kind num 0 s)

/-- The central value plus both unfolded accumulators (R443). -/
def ctrValue (kind num : Nat) (s : State) : Nat :=
  let c := tget s.tel.ctrs (ctrKey kind num)
  ((c.acc.map fun e => e.2.n).foldl (· + ·) c.value) % 2 ^ 64

end Sys2Proof.Machine
end

