-- ==== Sys2Proof/Machine/SlotOps.lean ====
section
/-! DEFINITION. FlexE groups and clients as ports and the clock act on them (5.2 to 5.6). -/
namespace Sys2Proof.Machine

def getGrp (g : Nat) (s : State) : Group := tget s.slt.groups g
def setGrp (g : Nat) (x : Group) (s : State) : State := { s with slt := { s.slt with groups := tset s.slt.groups g x } }
def modGrp (g : Nat) (f : Group → Group) (s : State) : State := setGrp g (f (getGrp g s)) s
def getClient (k : Nat) (s : State) : SClient := tget s.slt.clients k
def setClient (k : Nat) (x : SClient) (s : State) : State := { s with slt := { s.slt with clients := tset s.slt.clients k x } }

def GrpSt.num : GrpSt → Nat
  | .disabled => 0 | .down => 1 | .aligning => 2 | .up => 3

/-- Instances of one member: 1, 2 or 4 for PHY_SPEED 1, 2 or 3 (Table 5.1). -/
def phyInsts (speed : Nat) : Nat := if speed = 1 then 1 else if speed = 2 then 2 else if speed = 3 then 4 else 0
def grpSpeed (g : Nat) (s : State) : Nat := rdFld Reg.sltGroupCfg g 22 2 s
def slotBase (g : Nat) (s : State) : Nat := rdFld Reg.sltGroupBase g 0 12 s
/-- I, the instances of a group (R149). -/
def grpInsts (g : Nat) (s : State) : Nat := (getGrp g s).members.length * phyInsts (grpSpeed g s)
/-- Slots of a group. -/
def grpSlots (g : Nat) (s : State) : Nat := 20 * grpInsts g s
/-- Enabled: in a state other than DISABLED. -/
def grpOn (g : Nat) (s : State) : Bool := decide ((getGrp g s).st ≠ .disabled)

/-- The enabled group a port is a member of (R150). -/
def groupOfPort (p : Nat) (s : State) : Option Nat :=
  (s.slt.groups.find? fun e => decide (e.2.st ≠ .disabled) && e.2.members.any fun m => m.1 == p).map Prod.fst

/-- The terminated client bound to a port in the enabled group that the port is a member of. -/
def clientOfPort (p : Nat) (s : State) : Option (Nat × SClient) :=
  s.slt.clients.find? fun e => e.2.kind == 1 && e.2.port == p && groupOfPort p s == some e.2.group

/-- Connection memory entry of a page and global slot, and its fields (Table 5.5). -/
def cmEntry (page slot : Nat) (s : State) : Nat := tget s.slt.cm (page * 2560 + slot)
def cmWire (e : Nat) : Nat := fld e 0 16
def cmKind (e : Nat) : Nat := fld e 16 2
def cmClient (e : Nat) : Nat := fld e 18 8

/-- Entries of a group's range on a page. -/
def pageRange (g page : Nat) (s : State) : List Nat := (List.range (grpSlots g s)).map fun i => cmEntry page (slotBase g s + i) s

/-- Slot counts of the egress clients that an interchanged client feeds (R162): one for each client number that carries it in
the active page of an enabled group. -/
def egressCounts (k : Nat) (s : State) : List Nat :=
  s.slt.groups.flatMap fun e =>
    if e.2.st = .disabled then []
    else
      let on := ((pageRange e.1 e.2.txCal s).filter fun x => cmKind x == 2 && cmClient x == k).map cmWire
      on.eraseDups.map fun w => (on.filter (· == w)).length

/-- Slots that a client has on transmit: in its group's active page (terminated), or at the first of its egress clients
(interchanged). -/
def txSlots (k : Nat) (s : State) : Nat :=
  let c := getClient k s
  if c.kind = 1 then
    ((pageRange c.group (getGrp c.group s).txCal s).filter fun e => cmKind e == 1 && cmClient e == k).length
  else (egressCounts k s).headD 0

/-- The received calendar `cal` of a group: client numbers of its slots. -/
def rxCalendar (g cal : Nat) (s : State) : List Nat :=
  (List.range (grpInsts g s)).flatMap fun i =>
    let x := tget (getGrp g s).insts i
    let l := if cal = 0 then x.calA else x.calB
    (List.range 20).map fun j => l.getD j 0

/-- Clients of a group, by index. -/
def grpClients (g : Nat) (s : State) : List (Nat × SClient) :=
  s.slt.clients.filter fun e => decide (e.2.kind ≠ 0) && e.2.group == g

/-- The clients that a received calendar does not agree with (CAL_MISMATCH, Table 5.4): a terminated client by its slots on
transmit, an interchanged one by those of each of its egress clients (R162). -/
def misClients (g cal : Nat) (s : State) : List Nat :=
  let rx := rxCalendar g cal s
  let counts (k : Nat) (c : SClient) : List Nat :=
    if c.kind = 1 ∨ egressCounts k s = [] then [txSlots k s] else egressCounts k s
  ((grpClients g s).filter fun e => (counts e.1 e.2).any fun n => decide ((rx.filter (· == e.2.wire)).length ≠ n)).map Prod.fst

/-- The received calendar names a client number that is in no client of the group. -/
def strangeWire (g cal : Nat) (s : State) : Bool :=
  (rxCalendar g cal s).any fun w => decide (w ≠ 0) && decide (w ≠ 0xFFFF) && !(grpClients g s).any fun e => e.2.wire == w

/-- A received calendar passes the check of CAL_MISMATCH. -/
def calOk (g cal : Nat) (s : State) : Bool := (misClients g cal s).isEmpty && !strangeWire g cal s

/-- A client goes down or starts; a terminated one signals its port's link (R152, R160). -/
def clientTo (k : Nat) (up : Bool) (s : State) : State :=
  let c := getClient k s
  if c.up = up then s
  else
    let s := setClient k { c with up := up, secDown := c.secDown || !up } s
    if c.kind = 1 then emit (.linkSignal c.port up) s else s

/-- Raise or clear an alarm; each change posts EV_SLOT_ALARM (R159). -/
def setAlarm (g bit client : Nat) (on : Bool) (s : State) : State :=
  let x := getGrp g s
  if bitAt x.alarms bit = on then s
  else post 0x9022 [byte g, byte bit, byte (b2n on), byte client]
    (setGrp g { x with alarms := setFld x.alarms bit 1 (b2n on), sec := { x.sec with
      alarm := x.sec.alarm || on, calMis := x.sec.calMis || (on && bit == 3) } } s)

/-- The PHY map of the configured PHY numbers. -/
def phyMapOf (x : Group) : Nat := (x.members.map Prod.snd).foldl (fun a n => a ||| 2 ^ n) 0

/-- The overhead of a group's instances (R148, R158): the calendars are the WIRE_IDs of the two pages. While the group is DOWN,
a member sends RPF if another member port is not UP (Table 5.2). -/
def overheadNow (g : Nat) (s : State) : List TxOverhead :=
  let x := getGrp g s
  let k := phyInsts (grpSpeed g s)
  x.members.zipIdx.flatMap fun m =>
    (List.range k).map fun i =>
      let cal (page : Nat) := (List.range 20).map fun j => cmWire (cmEntry page (slotBase g s + 20 * (k * m.2 + i) + j) s)
      { groupNum := rdFld Reg.sltGroupCfg g 0 20 s, phyMap := phyMapOf x, phyNum := m.1.2, instNum := i
        c := x.txCal, cr := x.txCr, ca := x.txCa, calA := cal 0, calB := cal 1
        rpf := decide (x.st = .down) &&
          x.members.any fun o => decide (o.1 ≠ m.1.1) && decide ((tget s.mac.ports o.1).st ≠ .up) }

/-- What changes from frame to frame of an overhead multiframe: OMF, which changes every 16 frames (R156), and the CRC-16 of the
frame, which the IA lays down. -/
def overheadOmf (frame : Nat) : Bool := decide (frame / 16 % 2 = 1)
def overheadCrc (t : TxOverhead) (frame : Nat) : BitVec 16 :=
  Config.overheadCrc ([t.groupNum, t.phyMap, t.phyNum, t.instNum, t.c, t.cr, t.ca, b2n t.rpf, t.sc, b2n (overheadOmf frame)] ++
    t.calA ++ t.calB)

/-- What a group's slots carry (R148, R160 to R162): unused and unavailable slots, and slots whose connection memory entry is
lost, carry Error control blocks (FC048); the egress slots of an interchanged client that is down carry Local Fault. -/
def fillsNow (g : Nat) (s : State) : List SlotFill :=
  let page := (getGrp g s).txCal
  let es := pageRange g page s
  es.zipIdx.map fun e =>
    let turn := ((es.take e.2).filter (· == e.1)).length
    if upsetOf memCm (page * 2560 + slotBase g s + e.2) s = 2 then .error
    else if cmKind e.1 = 1 then .terminated (cmClient e.1) turn
    else if cmKind e.1 = 2 then (if (getClient (cmClient e.1) s).up then .interchanged (cmClient e.1) turn else .localFault)
    else .error

/-- The entries of a group's active page are read: an uncorrectable one is FC048, a correctable one FC049 and rewritten. -/
def readPage (g : Nat) (s : State) : State :=
  let page := (getGrp g s).txCal
  let ks := (List.range (grpSlots g s)).map fun i => page * 2560 + slotBase g s + i
  let s := if ks.any fun k => decide (upsetOf memCm k s = 2) then report 48 13 g [byte g] s else s
  let soft := ks.filter fun k => decide (upsetOf memCm k s = 1)
  if soft = [] then s else report 49 13 g [byte g] (soft.foldl (fun s k => clearUpset memCm k s) s)

/-- The members of an enabled group send what its state asks for: each change goes out. -/
def sendOverhead (g : Nat) (s : State) : State :=
  if !grpOn g s then s
  else
    let t := overheadNow g s
    let s := if t = (getGrp g s).tx then s else emit (.overhead g t) (modGrp g (fun x => { x with tx := t }) s)
    let f := fillsNow g s
    if f = (getGrp g s).fills then s else emit (.slots g f) (modGrp g (fun x => { x with fills := f }) (readPage g s))

/-- Every enabled group's transmitters follow. -/
def sendAll (s : State) : State := (List.range 32).foldl (fun s g => sendOverhead g s) s

/-- Every instance of a group has sent overhead since its frame lock. -/
def allSeen (g : Nat) (s : State) : Bool :=
  decide (0 < grpInsts g s) && (List.range (grpInsts g s)).all fun i => (tget (getGrp g s).insts i).ohSeen

/-- CAL_MISMATCH of a group (Table 5.4): raised while the overhead of every instance is there and does not agree. In UP,
affected clients are down and the others that have slots run. -/
def applyCal (g : Nat) (s : State) : State :=
  let x := getGrp g s
  let bad := misClients g x.rxCal s
  let s := if x.st ≠ .up then s
    else (grpClients g s).foldl (fun s e => clientTo e.1 (!bad.contains e.1 && decide (0 < txSlots e.1 s)) s) s
  setAlarm g 3 (bad.headD 0xFF) (grpOn g s && allSeen g s && !calOk g x.rxCal s) s

/-- Apply CAL_MISMATCH to every group. -/
def applyCals (s : State) : State := sendAll ((List.range 32).foldl (fun s g => applyCal g s) s)

/-- A pending calendar switch ends without a switch: CR returns to the active calendar (R163). -/
def endSwitch (g status : Nat) (s : State) : State :=
  let x := getGrp g s
  match x.switching with
  | none => s
  | some ref => finishRef ref { status := status } (sendOverhead g (setGrp g { x with switching := none, txCr := x.txCal } s))

/-- Whether some instance of a group satisfies `f`. -/
def anyInst (g : Nat) (f : Inst → Bool) (s : State) : Bool :=
  (List.range (grpInsts g s)).any fun i => f (tget (getGrp g s).insts i)

/-- The alarms of what the last overhead frames hold (Table 5.4, bits 0 to 2, 4 and 5); SKEW records FC051 when it is raised. -/
def showAlarms (g : Nat) (s : State) : State :=
  let skew := anyInst g (fun n => decide (n.skewNs > 10000)) s
  let hadSkew := bitAt (getGrp g s).alarms 5
  let s := setAlarm g 2 0xFF (anyInst g Inst.badPhy s)
    (setAlarm g 1 0xFF (anyInst g Inst.badMap s) (setAlarm g 0 0xFF (anyInst g Inst.badNum s) s))
  let s := setAlarm g 5 0xFF skew (setAlarm g 4 0xFF (anyInst g Inst.rpf s) s)
  if skew ∧ !hadSkew then report 51 13 g [byte g] s else s

/-- Clear a group's alignment search (5.3), and with it what the received overhead showed. -/
def clearSearch (g : Nat) (s : State) : State := applyCal g (showAlarms g (modGrp g (fun x => { x with insts := [] }) s))

/-- A group changes state (Table 5.2); leaving UP ends its clients and a pending switch (R152, R163). A group that goes to
DISABLED sends Local Fault on its members, whose instances are aligned no more. Causes: 0 admin, 1 member port down, 2 lock
loss, 3 payload label, 4 skew. -/
def grpTo (g : Nat) (st : GrpSt) (cause : Nat) (s : State) : State :=
  let x := getGrp g s
  if x.st = st then s
  else
    let z := stamp s
    let s := setGrp g { x with st := st, changeTs := z.1, changePh := z.2, sec := { x.sec with notUp := true, seen := true } } s
    let s :=
      if st = .up then applyCal g (post 0x9020 [byte g] s)
      else if x.st = .up then
        let s := (grpClients g s).foldl (fun s e => clientTo e.1 false s) s
        endSwitch g 0x83 (post 0x9021 [byte g, byte cause] s)
      else if x.st = .aligning ∧ st = .down then post 0x9021 [byte g, byte cause] s
      else s
    let s := if st ≠ .disabled then s
      else
        let s := x.members.foldl (fun s m => emit (.linkFault m.1 .localFault) s) s
        clearSearch g (modGrp g (fun x => { x with tx := [], fills := [] }) s)
    sendAll s

/-- Whether ALIGNING may become UP: every instance in multiframe lock, labels matching, skew within 10 µs. -/
def grpReady (g : Nat) (s : State) : Bool :=
  let x := getGrp g s
  decide (0 < grpInsts g s) && (List.range (grpInsts g s)).all fun i =>
    let n := tget x.insts i
    n.mfLock && n.ohSeen && !n.badNum && !n.badMap && !n.badPhy && decide (n.skewNs ≤ 10000)

/-- ALIGNING becomes UP when it may. -/
def grpTryUp (g : Nat) (s : State) : State :=
  if (getGrp g s).st = .aligning ∧ grpReady g s then grpTo g .up 0 s else s

/-- Every member port of a group is UP. -/
def membersUp (g : Nat) (s : State) : Bool :=
  (getGrp g s).members.all fun m => decide ((tget s.mac.ports m.1).st = .up)

/-- DOWN with every member UP: ALIGNING, and the search starts (Table 5.2). -/
def grpTryAlign (g : Nat) (s : State) : State :=
  if (getGrp g s).st = .down ∧ membersUp g s then grpTo g .aligning 0 (clearSearch g s) else s

/-- A member port has left UP: the group goes DOWN (Table 5.2). -/
def slotPortDown (p : Nat) (s : State) : State :=
  match groupOfPort p s with
  | none => s
  | some g => if (getGrp g s).st = .down then s else grpTo g .down 1 s

/-- A member port has entered UP. -/
def slotPortUp (p : Nat) (s : State) : State :=
  match groupOfPort p s with
  | none => s
  | some g => grpTryAlign g s

/-- A port carries its own MAC stream, or that of a client that is up (R150). -/
def macRuns (p : Nat) (s : State) : Bool :=
  match groupOfPort p s with
  | none => decide ((tget s.mac.ports p).st = .up)
  | some _ => match clientOfPort p s with
    | none => false
    | some (_, c) => c.up

/-! ### Performance bins (5.6) -/

/-- FLAGS of a bin (Table 5.7). -/
def PmBin.flags (b : PmBin) : Nat := b2n b.partly + 2 * b2n b.suspect

/-- A parity error in the storage of a bin: it is flagged as not filled, FC053 (Table 5.10). -/
def binLost (day : Bool) (b : PmBin) (s : State) : Bool := decide (upsetOf memPm (2 * b.seq + b2n day) s ≠ 0)

/-- A bin with the identities of the groups and clients as they stand now. -/
def freezeBin (b : PmBin) (s : State) : PmBin :=
  { b with
    groups := tmodAll b.groups (fun g x => { x with enabled := grpOn g s }) 32
    clients := tmodAll b.clients (fun k x =>
      let c := getClient k s
      { x with wire := c.wire, group := c.group, kind := c.kind }) 256 }

/-- Close the current bin of a kind and open the next one (R164); `opens` says whether it runs from now. -/
def closeBin (day opens : Bool) (start : Nat) (s : State) : State :=
  let b := freezeBin (if day then s.slt.binDay else s.slt.bin15) s
  let next : PmBin := { running := opens, seq := (b.seq + 1) % 2 ^ 32, start := start }
  let t := if day then { s with slt := { s.slt with binDay := next, prevDay := [b] } }
    else { s with slt := { s.slt with bin15 := next, prev15 := (b :: s.slt.prev15).take 32 } }
  post 0x9024 ([byte (b2n day), 0, 0, 0] ++ le 4 b.seq ++ [byte b.flags]) t

/-- A step of the bins' time base from second `a` to second `b` (R166). -/
def pmStep (day : Bool) (a b : Nat) (s : State) : State :=
  let len := if day then 86400 else 900
  let cur := if day then s.slt.binDay else s.slt.bin15
  if !cur.running then s
  else if a / len = b / len then
    let c := { cur with suspect := true }
    if day then { s with slt := { s.slt with binDay := c } } else { s with slt := { s.slt with bin15 := c } }
  else
    let c := { cur with partly := true, suspect := true }
    let s := if day then { s with slt := { s.slt with binDay := c } } else { s with slt := { s.slt with bin15 := c } }
    closeBin day false 0 s

/-- Mark the current bins that run TIME_SUSPECT (R166). -/
def pmSuspect (s : State) : State :=
  let mark := fun (b : PmBin) => if b.running then { b with suspect := true } else b
  { s with slt := { s.slt with bin15 := mark s.slt.bin15, binDay := mark s.slt.binDay } }

/-- SLT_CTRL.PM_TB. -/
def pmTb (s : State) : Nat := rdFld Reg.sltCtrl 0 1 2 s

end Sys2Proof.Machine
end

