-- ==== Sys2Proof/Machine/Symbols.lean ====
section
/-! DEFINITION. A lane's symbols: Gray mapping, precoding, polarity and the receive chain (3.2 to 3.4). No row of the table
carries a symbol: these are the lane's own functions over the state that training, wake and adaptation leave in it. -/
namespace Sys2Proof.Machine

/-! ### Symbol coding (R80, R81) -/

/-- The symbol value of a bit pair (Table 3.2). The first bit of the pair in PCS order is the more significant (R80). -/
def grayOf (first second : Bool) : Nat :=
  match first, second with
  | false, false => 0
  | false, true => 1
  | true, true => 2
  | true, false => 3

/-- The bit pair of a symbol value, first bit in PCS order first (Table 3.2). -/
def pairOf (sym : Nat) : Bool × Bool :=
  match sym % 4 with
  | 0 => (false, false)
  | 1 => (false, true)
  | 2 => (true, true)
  | _ => (true, false)

/-- The level of a PAM4 symbol value, in thirds (Table 3.2): −1, −1/3, +1/3, +1. -/
def pamLevel (sym : Nat) : Int := 2 * ((sym % 4 : Nat) : Int) - 3

/-- Transmit precoding, `g − previous` mod 4, the result being the next previous value (R81). -/
def precode (prev g : Nat) : Nat := (g % 4 + (4 - prev % 4)) % 4

/-- Receive decoding, `p + previous` mod 4, the received value being the next previous one (R81). -/
def decode (prev p : Nat) : Nat := (p + prev) % 4

/-- One symbol value on its way out: precoded where transmit precoding is on (R81). -/
def sendSymbol (l : Lane) (g : Nat) : Nat × Lane :=
  if l.preTx then let p := precode l.txPrev g; (p, { l with txPrev := p }) else (g % 4, l)

/-- One symbol value on its way in: decoded where receive precoding is on (R81). -/
def takeSymbol (l : Lane) (p : Nat) : Nat × Lane :=
  if l.preRx then (decode l.rxPrev p, { l with rxPrev := p % 4 }) else (p % 4, l)

/-- The PAM4 levels, in thirds, that a lane sends for PCS bits: pairs, precoding, then TX_POL (R80, R81, Table 3.14). -/
def sendBits : List Bool → Lane → List Int × Lane
  | a :: b :: rest, l =>
    let (p, l) := sendSymbol l (grayOf a b)
    let v := if bitAt l.cfgUse 0 then -pamLevel p else pamLevel p
    let (vs, l) := sendBits rest l
    (v :: vs, l)
  | _, l => ([], l)

/-- The PCS bits that a lane reads from sliced PAM4 symbol values: RX_POL, decoding, then pairs (R80, R81, Table 3.14). -/
def takeSymbols : List Nat → Lane → List Bool × Lane
  | [], l => ([], l)
  | x :: rest, l =>
    let (g, l) := takeSymbol l (if bitAt l.cfgUse 1 then 3 - x % 4 else x)
    let (bs, l) := takeSymbols rest l
    ((pairOf g).1 :: (pairOf g).2 :: bs, l)

/-! ### The receive chain (R84, R85) -/

/-- CTLE boost at Nyquist in tenths of a dB: 32 codes in 0.5 dB steps (Table 3.3). -/
def ctleBoost (code : Nat) : Nat := 5 * (code % 32)

/-- ADC bits of a lane and active taps of its receive FFE, by the reach it trained with (R79, Table 3.3). -/
def adcBits (l : Lane) : Nat := if l.reach then 7 else 6
def ffeTaps (l : Lane) : Nat := if l.reach then 24 else 12

/-- The ADC: one signed sample of a lane's width (Table 3.3). -/
def adcOf (l : Lane) (x : Int) : Int :=
  max (-(2 ^ (adcBits l - 1) : Nat)) (min ((2 ^ (adcBits l - 1) - 1 : Nat) : Int) x)

/-- PRE_CURSORS in use: the FFE's taps before the main cursor, and the main cursor itself (Tables 3.3, 3.17). -/
def preCursors (l : Lane) : Nat := fld l.rxUse 12 4
def mainCursor (l : Lane) : Int := l.ffe.getD (preCursors l) 0

/-- The FFE over the samples of a window of its taps, oldest first (Table 3.3). -/
def ffeOf (l : Lane) (window : List Int) : Int :=
  ((l.ffe.take (ffeTaps l)).zip (window.map (adcOf l))).foldl (fun a e => a + e.1 * e.2) 0

/-- The 1-tap DFE: the last decision's level, in thirds, times DFE/128 of the main cursor, is taken off (Table 3.3). -/
def dfeOf (l : Lane) (last : Nat) (x : Int) : Int := x - l.dfe * mainCursor l * pamLevel last / 384

/-- The slicer: how many of the thresholds lie below the value (Table 3.3). -/
def sliceOf (l : Lane) (x : Int) : Nat := (l.thresholds.filter fun t => decide (t < x)).length

/-- The chain of Table 3.3 behind the CTLE, in its order: ADC, FFE, DFE and slicer. -/
def receiveChain (l : Lane) (window : List Int) (last : Nat) : Nat := sliceOf l (dfeOf l last (ffeOf l window))

/-- Tracking bandwidth of the CDR in MHz (R85, Table 3.17). -/
def cdrMHz (l : Lane) : Nat := 2 ^ fld l.rxUse 8 2

/-- The CDR tracks up to ±200 ppm, in 0.1 ppm (R85). -/
def cdrFreq (f : Int) : Int := max (-2000) (min 2000 f)

/-- A lane takes the places where its receiver's loops stand: taps of its FFE's length, the CDR within its range
(R84, R85, R91). -/
def Lane.loops (l : Lane) (r : RxLoops) : Lane :=
  { l with ffe := (r.ffe ++ List.replicate 24 0).take (ffeTaps l), dfe := r.dfe, thresholds := r.thresholds,
           phase := r.phase % 128, freq := cdrFreq r.freqOffset }

/-- The CTLE code changes; LANE_READ shows that it moved since the last LANE_EYE began (Table 3.8). -/
def Lane.ctleTo (l : Lane) (c : Nat) : Lane := { l with ctle := c, ctleMoved := l.ctleMoved || decide (c ≠ l.ctle) }

/-! ### Test paths (R95) -/

/-- Where a lane's transmitter and receiver take their symbols from (Table 3.6). In near-end loopback the transmitter still
drives its own receiver while it is squelched at the balls. -/
def lanePaths (l : Lane) : LaneSrc × LaneSrc :=
  let gen := if bitAt l.check 0 then LaneSrc.pattern l.pattern else .line
  if l.st ≠ .test then (.line, .line)
  else match l.testMode with
    | 1 => (gen, .line)
    | 2 => (gen, .ownTx)
    | 3 => (.recovered, .line)
    | 4 => (gen, .digital)
    | _ => (.line, .line)

end Sys2Proof.Machine
end

