-- ==== Sys2Proof/Machine/PortOps.lean ====
section
/-! DEFINITION. Lanes and ports as they act on each other: layouts, squelch, a lane's entry to and exit from DATA, a
port's changes of state, sleep and wake (3.5, 3.7, 4.1, 4.4, 4.7). -/
namespace Sys2Proof.Machine

/-! ### Layout (R12, R105 to R107) -/

def macroOf (lane : Nat) : Nat := lane / 8
def groupOfLane (lane : Nat) : Nat := lane / 64
def panelOfLane (lane : Nat) : Nat := lane / 256
def chipletOfLane (lane : Nat) : Nat := lane / 128

/-- MAC_MACRO_MODE.STARTS. -/
def starts (m : Nat) (s : State) : Nat := rdFld Reg.macMacroMode m 0 8 s

/-- Lanes from bit `i` to the next set bit or the end of the macro. -/
def runWidth (st i : Nat) : Nat := 1 + ((List.range (7 - i)).takeWhile fun k => !bitAt st (i + 1 + k)).length

/-- w of the port that starts at a lane under a layout; 0 where none starts. -/
def widthIn (st lane : Nat) : Nat := if bitAt st (lane % 8) then runWidth st (lane % 8) else 0

/-- w of port `p`; 0 where lane `p` starts no port. -/
def portWidth (p : Nat) (s : State) : Nat := widthIn (starts (macroOf p) s) p

/-- The lane that starts the port of a lane under a layout. -/
def startIn (st lane : Nat) : Option Nat :=
  ((List.range (lane % 8 + 1)).reverse.find? fun i => bitAt st i).map fun i => lane - lane % 8 + i

/-- The port a lane belongs to. -/
def portOf (lane : Nat) (s : State) : Option Nat := startIn (starts (macroOf lane) s) lane

def portLanes (p : Nat) (s : State) : List Nat := (List.range (portWidth p s)).map (p + ·)

/-- The macro's rate code. -/
def rateOf (m : Nat) (s : State) : Nat := rdFld Reg.lanMacroCfg m 0 3 s
def macroOn (m : Nat) (s : State) : Bool := bitAt (rd Reg.lanMacroCfg m s) 4

/-- Widths that Table 4.1 allows at a rate code; code 0 is checked against R105 only (R107). -/
def widthOk (rate w : Nat) : Bool := (w == 1 || w == 2 || w == 4 || w == 8) && (decide (rate ≠ 4) || w == 1 || w == 4)

/-- Whether a layout satisfies R105, Table 4.1 at a rate code and the bit 0 rule (R107). -/
def layoutOk (rate st : Nat) : Bool :=
  decide (st = 0) || (bitAt st 0 && (List.range 8).all fun i =>
    !bitAt st i || (widthOk rate (runWidth st i) && decide (i % runWidth st i = 0)))

/-- Gb/s of MAC data of one lane at a rate code (Table 4.1). -/
def laneGbps (rate : Nat) : Nat := if rate = 1 then 200 else if rate = 2 then 100 else if rate = 3 then 50 else if rate = 4 then 25 else 0

/-- Speed of a port in Gb/s (R106). -/
def portGbps (p : Nat) (s : State) : Nat := portWidth p s * laneGbps (rateOf (macroOf p) s)

/-- Rate of a port's MAC stream in Gb/s: that of its terminated client while it is a member of an enabled group
(R157, R163). -/
def macGbps (p : Nat) (s : State) : Nat :=
  match groupOfPort p s with
  | none => portGbps p s
  | some _ => match clientOfPort p s with
    | none => 0
    | some (k, _) => 5 * txSlots k s

/-- SPEED code of Table 4.6. -/
def speedCode (gbps : Nat) : Nat :=
  if gbps = 25 then 1 else if gbps = 50 then 2 else if gbps = 100 then 3 else if gbps = 200 then 4
  else if gbps = 400 then 5 else if gbps = 800 then 6 else if gbps = 1600 then 7 else 0

/-! ### Access -/

def getLane (n : Nat) (s : State) : Lane := tget s.lan.lanes n
def setLane (n : Nat) (l : Lane) (s : State) : State := { s with lan := { s.lan with lanes := tset s.lan.lanes n l } }
def modLane (n : Nat) (f : Lane → Lane) (s : State) : State := setLane n (f (getLane n s)) s
def getMacro (m : Nat) (s : State) : LMacro := tget s.lan.macros m
def setMacro (m : Nat) (x : LMacro) (s : State) : State := { s with lan := { s.lan with macros := tset s.lan.macros m x } }
def getGroup (g : Nat) (s : State) : LGroup := tget s.lan.groups g
def setGroup (g : Nat) (x : LGroup) (s : State) : State := { s with lan := { s.lan with groups := tset s.lan.groups g x } }
def getPort (p : Nat) (s : State) : Port := tget s.mac.ports p
def setPort (p : Nat) (x : Port) (s : State) : State := { s with mac := { s.mac with ports := tset s.mac.ports p x } }
def modPort (p : Nat) (f : Port → Port) (s : State) : State := setPort p (f (getPort p s)) s

def LaneSt.num : LaneSt → Nat
  | .off => 0 | .cal => 1 | .an => 2 | .train => 3 | .adapt => 4 | .data => 5 | .sleep => 6 | .wake => 7 | .test => 8

def PortSt.num : PortSt → Nat
  | .disabled => 0 | .down => 1 | .linking => 2 | .up => 3 | .sleep => 4 | .waking => 5

/-- Macro not in service, of itself or through its lane group (R100). -/
def macroFenced (m : Nat) (s : State) : Bool := fencedU 1 m s || fencedU 3 (m / 8) s

/-- Macro under online test, of itself or through its lane group. -/
def macroTesting (m : Nat) (s : State) : Bool :=
  decide ((getUnit 1 m s).state = .testing) || decide ((getUnit 3 (m / 8) s).state = .testing)

/-- A port's fence state: its own, or its macro's or lane group's (R567). -/
def portFenced (p : Nat) (s : State) : Bool := fencedU 2 p s || macroFenced (macroOf p) s

/-- The lane-group sensor in °C (R478). -/
def groupTemp (g : Nat) (s : State) : Int := sensorTemp (12 + g) s / 16

/-! ### Transmitters -/

/-- A lane that carries a DISABLED port and is not in TEST stays squelched (Table 4.2, R569). -/
def portQuiet (n : Nat) (s : State) : Bool :=
  decide ((getLane n s).st ≠ .test) && (match portOf n s with
    | none => false
    | some p => decide ((getPort p s).st = .disabled))

/-- Squelch or release a transmitter; TX_DISABLE, a DISABLED port, HOLD and LOCKDOWN keep it squelched (R103, Table 4.2,
R522, R523). -/
def setSquelch (n : Nat) (on : Bool) (s : State) : State :=
  let l := getLane n s
  let want := on || bitAt (rd Reg.lanLaneCfg n s) 7 || portQuiet n s || decide (s.sys.mode = .hold) ||
    decide (s.sys.mode = .lockdown)
  if l.squelched = want then s else emit (.squelch n want) (setLane n { l with squelched := want } s)

/-- What squelches a lane of itself: OFF, SLEEP, near-end loopback, and a wake pattern on its port's first lane only
(Tables 3.4 and 3.6, R138 to R140). -/
def laneQuiet (n : Nat) (s : State) : Bool :=
  let l := getLane n s
  let waves := match portOf n s with
    | none => false
    | some p => (getPort p s).waving
  match l.st with
  | .off => true
  | .sleep => true
  | .test => decide (l.testMode = 2)
  | .wake => waves && portOf n s != some n
  | _ => false

/-- A transmitter follows what its lane, its port and its registers ask for. -/
def settleTx (n : Nat) (s : State) : State := setSquelch n (laneQuiet n s) s

/-! ### Port state changes (Table 4.2) -/

def le2 (n : Nat) : List Byte := le 2 n

/-- Level of a queue index of a port (R128, R131): the class that fills a unicast queue, or MAC_MC_LEVEL. -/
def levelOf (p idx : Nat) (s : State) : Nat := if idx < 16 then idx / 2 else rdFld Reg.macMcLevel p (3 * (idx - 16)) 3 s

/-- The queues of the levels that `held` names are not eligible now; becoming eligible again is a wake (R304). -/
def unwake (p : Nat) (held : Nat → Bool) (s : State) : State :=
  let off := fun (t : FTag) => { t with was := false }
  let tags := (List.range 20).foldl (fun a i => if held (levelOf p i s) then tmod a (p * 20 + i) off else a) s.sch.tags
  let ets := (List.range 8).foldl (fun a l => if held l then tmod a (p * 8 + l) off else a) s.sch.ets
  { s with sch := { s.sch with tags := tags, ets := ets } }

/-- The fault sequence a port transmits (R120): Local Fault without alignment, Remote Fault while it receives Local Fault; none
while its transmitters are squelched. -/
def faultToSend (x : Port) : FaultSeq :=
  if x.st = .disabled ∨ x.st = .sleep then .clear
  else if !x.aligned then .localFault
  else if x.localRx then .remoteFault else .clear

/-- The transmitter follows (R120). -/
def settleFault (p : Nat) (s : State) : State :=
  let x := getPort p s
  if x.txFault = faultToSend x then s else emit (.linkFault p (faultToSend x)) (setPort p { x with txFault := faultToSend x } s)

/-- A port enters a state: CHANGE_TS is stamped. No queue of a port that changes state is eligible at that instant. -/
def portEnter (p : Nat) (st : PortSt) (s : State) : State :=
  let z := stamp s
  settleFault p <| unwake p (fun _ => true) <| modPort p (fun x => { x with st := st, changeTs := z.1, changePh := z.2 }) s

/-- The exit from UP (R119, R129): link down is signalled, the exit is counted, received pauses clear and the transmit
XOFF state is dropped. -/
def leaveUp (p : Nat) (s : State) : State :=
  let s := countPort p 24 1 s
  let s := emit (.linkSignal p false) s
  modPort p (fun x => { x with pause := [], xoff := 0, sendOn := 0, sendOff := 0, flush := true }) s

/-- A port goes to DOWN with a cause (R118): from UP link down is signalled and EV_PORT_DOWN posted. -/
def portDown (p cause : Nat) (s : State) : State :=
  let x := getPort p s
  if x.st = .disabled ∨ x.st = .down then s else
  let wasUp := decide (x.st = .up)
  let s := if wasUp then leaveUp p s else s
  let s := portEnter p .down (modPort p (fun x => { x with
    downCause := cause, aligned := false, pcs := [], sleeping := false, wakeNext := none, waving := false }) s)
  if wasUp then slotPortDown p (post 0x9011 (le2 p ++ [byte cause]) s) else s

/-- Every lane of the port in DATA. -/
def allData (p : Nat) (s : State) : Bool := (portLanes p s).all fun l => decide ((getLane l s).st = .data)

/-- DOWN with every lane in DATA: LINKING begins (Table 4.2). -/
def tryLinking (p : Nat) (s : State) : State :=
  if (getPort p s).st = .down ∧ portWidth p s ≠ 0 ∧ allData p s then
    portEnter p .linking (modPort p (fun x => { x with aligned := false, pcs := [] }) s)
  else s

/-- A port goes to DISABLED (Table 4.2): transmitters squelched; from UP link down and EV_PORT_DOWN. Cause 0 by
command; cause 6 by a fence, which a port that is DISABLED already takes too (R567). -/
def portDisable (p cause : Nat) (s : State) : State :=
  let x := getPort p s
  if x.st = .disabled then (if cause = 6 then setPort p { x with downCause := 6 } s else s) else
  let wasUp := decide (x.st = .up)
  let s := if wasUp then leaveUp p s else s
  let s := (portLanes p s).foldl (fun s l => setSquelch l true s) s
  let s := portEnter p .disabled (modPort p (fun x => { x with
    downCause := cause, aligned := false, pcs := [], sleeping := false, wakeNext := none, waving := false, flush := true }) s)
  if wasUp then slotPortDown p (post 0x9011 (le2 p ++ [byte cause]) s) else s

/-- Bits c of XOFF that O(p, c) asks for now (R123, R124). -/
def xoffLevel (p c : Nat) (s : State) : Nat := rd Reg.macPfcXoff (p * 8 + c) s
def xonLevel (p c : Nat) (s : State) : Nat := rd Reg.macPfcXon (p * 8 + c) s

/-- Whether class c may generate: its TX_EN bit and a valid pair (R123, R126). -/
def mayXoff (p c : Nat) (s : State) : Bool :=
  bitAt (rdFld Reg.macPfcCfg p 0 8 s) c && decide (xonLevel p c s < xoffLevel p c s)

/-- The occupancy that class c's watermarks see (R122, R124). -/
def occSeen (p c : Nat) (s : State) : Nat :=
  let x := getPort p s
  if x.fcMode = 1 then (List.range 8).foldl (fun a k => a + tget x.occ k) 0 else tget x.occ c

/-- Classes with generation in a mode: 8 for PFC, class 0 for PAUSE, none otherwise. -/
def fcClasses (mode : Nat) : Nat := if mode = 2 then 8 else if mode = 1 then 1 else 0

/-- Evaluate one class's XOFF (R123, R124, R126): an assertion asks for a frame with QUANTA, an end for a frame with
time 0. -/
def evalClass (p c : Nat) (s : State) : State :=
  let x := getPort p s
  let on := bitAt x.xoff c
  let o := occSeen p c s
  let may := mayXoff p c s && decide (c < fcClasses x.fcMode)
  if x.st ≠ .up then s
  else if !on ∧ may ∧ o ≥ xoffLevel p c s then
    setPort p { x with xoff := setFld x.xoff c 1 1, sendOn := setFld x.sendOn c 1 1, sendOff := setFld x.sendOff c 1 0 } s
  else if on ∧ (!may ∨ o ≤ xonLevel p c s) then
    setPort p { x with xoff := setFld x.xoff c 1 0, sendOff := setFld x.sendOff c 1 1, sendOn := setFld x.sendOn c 1 0 } s
  else s

/-- Evaluate every class of a port. -/
def evalFc (p : Nat) (s : State) : State := (List.range 8).foldl (fun s c => evalClass p c s) s

/-- Change O(p, c) by a signed number of cells and evaluate (R122). -/
def addOcc (p c : Nat) (d : Int) (s : State) : State :=
  evalFc p (modPort p (fun x => { x with occ := tmod x.occ c fun o => ((o : Int) + d).toNat }) s)

/-- Entry to UP (R119, R129): link up is signalled, EV_PORT_UP posted, XOFF state rebuilt from O. -/
def portUp (p : Nat) (s : State) : State :=
  let s := portEnter p .up (modPort p (fun x => { x with xoff := 0, sendOn := 0, sendOff := 0, downCause := 0 }) s)
  let s := emit (.linkSignal p true) s
  slotPortUp p (evalFc p (post 0x9010 (le2 p ++ [byte (speedCode (portGbps p s))]) s))

/-- WAKING with every lane in DATA and the PCS aligned: UP without debounce (Table 4.2, R94). -/
def tryWaked (p : Nat) (s : State) : State :=
  let x := getPort p s
  if x.st = .waking ∧ allData p s ∧ x.aligned then
    post 0x9017 (le2 p ++ [0, byte x.wakeTrig]) (portUp p s)
  else s

/-- A waking port goes cold: DOWN, EV_PORT_WAKE with the cold flag (Table 4.2, R142). -/
def portCold (p : Nat) (s : State) : State :=
  let x := getPort p s
  if x.st = .waking then
    let s := portDown p 8 s
    let s := (portLanes p s).foldl (fun s n => settleTx n s) s
    tryLinking p (post 0x9017 (le2 p ++ [1, byte x.wakeTrig]) s)
  else s

/-! ### Lane state changes (Table 3.4) -/

/-- A lane scanned by LANE_EYE leaves DATA or TEST (R97). -/
def breakEye (l : Lane) : Lane := if l.eye.isSome then { l with eyeBroken := true } else l

/-- The counts of a lane under a checking test, to which the spec gives no value (free values), never less than before and
never past 64 bits (R96). -/
def observeTest (n : Nat) (s : State) : State :=
  let l := getLane n s
  if l.st = .test ∧ bitAt l.check 1 then
    let (b, s) := takeFree s
    let (e, s) := takeFree s
    setLane n { l with testBits := max l.testBits b, testErrors := max l.testErrors (min e (max l.testBits b)) } s
  else s

/-- Entry to CAL: the lane's set-up registers take effect, transmit taps and CTLE code with them, and its transmitter is
released (R103, Table 3.4). A test that ends here leaves its counts (R96). -/
def laneToCal (n : Nat) (s : State) : State :=
  let s := observeTest n s
  let l := getLane n s
  let was := l.st
  let l := if l.st = .data ∨ l.st = .test then breakEye l else l
  let rx := rd Reg.lanLaneRx n s
  let l := { l with st := .cal, cfgUse := rd Reg.lanLaneCfg n s, ffeUse := rd Reg.lanLaneTxffe n s, rxUse := rx,
                    taps := rd Reg.lanLaneTxffe n s, retryWait := false }
  let s := setSquelch n false (setLane n (l.ctleTo (fld rx 0 5)) s)
  if was = .test then emit (.lanePath n .line .line) s else s

/-- The port of a lane that left DATA: LINKING and UP go DOWN with lane loss, WAKING goes cold (R86, R118). -/
def portLaneLost (lane : Nat) (s : State) : State :=
  match portOf lane s with
  | none => s
  | some p =>
    let x := getPort p s
    if x.st = .linking ∨ x.st = .up then portDown p 1 s
    else if x.st = .waking then portCold p s else s

/-- A lane in DATA leaves it for another state by `f`: EV_LANE_DOWN with its cause, then the port follows (R86). -/
def leaveData (n cause : Nat) (f : State → State) (s : State) : State :=
  if (getLane n s).st = .data then
    portLaneLost n (post 0x9001 (le2 n ++ [byte cause]) (f s))
  else f s

/-- A lane goes OFF: squelched, uncalibrated. -/
def laneToOff (n : Nat) (s : State) : State :=
  let s := observeTest n s
  let l := getLane n s
  let l := if l.st = .data ∨ l.st = .test then breakEye l else l
  setSquelch n true (setLane n { l with st := .off, calDone := false, signal := false, cdrLock := false,
                                        retryWait := false, warm := none } s)

/-- Entry to DATA (Table 3.4, R81, R88): precoders reset, the failure count clears, EV_LANE_UP is posted and the port is
signalled. After a training or adaptation the lane keeps what its receiver reached and the conditions: temperature of the
lane group, rate code, the reach it trained with, and the time (R92). -/
def laneToData (n : Nat) (m : RxMeasure) (record : Bool) (s : State) : State :=
  let l := getLane n s
  let z := stamp s
  let mac := macroOf n
  let l := { l with st := .data, signal := true, cdrLock := true, failures := 0, retryWait := false,
                    trainCount := (l.trainCount + 1) % 2 ^ 32, snr := m.snr % 2 ^ 16, txPrev := 0, rxPrev := 0 }
  let l := if record then
      { (l.loops m.rx).ctleTo (m.ctle % 32) with
        calTemp := groupTemp (groupOfLane n) s, calTs := z.1, calPh := z.2, calMode := rateOf mac s + 8 * b2n l.reach }
    else l
  let s := setLane n l s
  let s := post 0x9000 (le2 n ++ [byte (rateOf mac s), 0] ++ le2 l.snr) s
  match portOf n s with
  | none => s
  | some p => tryWaked p (tryLinking p s)

/-- SNR_MIN in use by a lane. -/
def snrMin (l : Lane) : Nat := fld l.rxUse 16 16

/-- One failure of a lane (R88): counted, posted, FC018 at the eighth in a row. -/
def countFail (n reason : Nat) (s : State) : State :=
  let l := getLane n s
  let k := l.failures + 1
  let pay := le2 n ++ [byte reason, 0] ++ le 4 (sat 32 k)
  let s := setLane n { l with failures := k, trainFails := (l.trainFails + 1) % 2 ^ 32, retryWait := true } s
  let s := post 0x9002 pay s
  if k = 8 then report 18 14 n pay s else s

/-- A lane of a port failed: every other lane of the port returns to CAL, and all retry together (R89). -/
def failOthers (n : Nat) (s : State) : State :=
  match portOf n s with
  | none => s
  | some p =>
    (portLanes p s).foldl (fun s k =>
      let st := (getLane k s).st
      if k = n ∨ st = .off ∨ st = .test ∨ st = .sleep then s
      else modLane k (fun l => { l with retryWait := true }) (leaveData k 4 (laneToCal k) s)) s

/-- A lane's training fails and it returns to CAL (R88); the other lanes of its port follow (R89). -/
def trainFail (n reason : Nat) (s : State) : State := failOthers n (countFail n reason (laneToCal n s))

/-- How a lane trains: TRAIN_MODE as taken at the entry to CAL at rate code 1, receiver-only (2) at every other rate code
(R76, R78, Tables 3.1 and 3.14). -/
def trainMode (n : Nat) (s : State) : Nat :=
  if rateOf (macroOf n) s = 1 then fld (getLane n s).cfgUse 4 2 else 2

/-- A lane in CAL, calibrated, with signal and no wait, of a macro in service: it enters AN, TRAIN or ADAPT as its training
asks (Table 3.4). REACH takes effect here (R79). -/
def laneStart (n : Nat) (s : State) : State :=
  let l := getLane n s
  if l.st = .cal ∧ l.calDone ∧ l.signal ∧ !l.retryWait ∧ !macroFenced (macroOf n) s then
    let l := { l with reach := bitAt (rd Reg.lanMacroCfg (macroOf n) s) 3 }
    let mode := trainMode n s
    if mode = 0 then setLane n { l with st := .an } s
    else if mode = 1 then setLane n { l with st := .train } s
    else
      let pam := decide (rateOf (macroOf n) s ≠ 4)
      setLane n { l with st := .adapt, preTx := bitAt l.cfgUse 2 && pam, preRx := bitAt l.cfgUse 3 && pam } s
  else s

/-- A sleeping lane wakes (R94): its warm state is restored if it is valid, else it goes cold to CAL with a reason. The
temperature is the lane-group sensor's, and a parity error is an upset of the lane's warm storage. -/
def laneWake (n : Nat) (s : State) : State :=
  let l := getLane n s
  if l.st ≠ .sleep then s else
  let rate := rateOf (macroOf n) s
  let cold (reason : Nat) (s : State) : State :=
    post 0x9003 (le2 n ++ [byte reason]) (laneToCal n (modLane n (fun l => { l with coldWake := true, warm := none }) s))
  match l.warm with
  | none => cold 3 s
  | some w =>
    if upsetOf memWarm n s ≠ 0 then cold 3 (report 21 14 n (le2 n ++ [3]) s)
    else if w.rate ≠ rate then cold 0 s
    else if (groupTemp (groupOfLane n) s - w.temp).natAbs > 10 then cold 1 s
    else setLane n { l.ctleTo w.ctle with
      st := .wake, ffe := w.ffe, dfe := w.dfe, freq := w.freq, taps := w.taps, preTx := w.preTx, preRx := w.preRx,
      coldWake := false } s

/-- Whether a lane's warm state is valid now (R94, WARM_VALID). -/
def warmValid (n : Nat) (s : State) : Bool :=
  match (getLane n s).warm with
  | none => false
  | some w => decide (w.rate = rateOf (macroOf n) s) && decide ((groupTemp (groupOfLane n) s - w.temp).natAbs ≤ 10)

/-- A wake trigger of a port (R140): 0 detector, 1 command, 2 packet. A trigger before sleep entry has ended is served
after it (4.7). -/
def wakePort (p trig : Nat) (s : State) : State :=
  let x := getPort p s
  if x.st = .up ∧ x.sleeping then modPort p (fun x => { x with wakeNext := some trig }) s
  else if x.st ≠ .sleep then s
  else
    let s := portEnter p .waking (modPort p (fun x => { x with wakeTrig := trig, waving := true, aligned := false, pcs := [] }) s)
    let s := emit (.wakePattern p) (setSquelch p false s)
    let s := (portLanes p s).foldl (fun s l => laneWake l s) s
    if (portLanes p s).any (fun l => decide ((getLane l s).st = .cal)) then portCold p s else s

/-- Enter SLEEP (R138): the lanes save their warm state and squelch, EV_PORT_SLEEP is posted; a trigger that came
earlier is served at once. -/
def enterSleep (p : Nat) (s : State) : State :=
  let x := getPort p s
  let s := countPort p 24 1 s
  let s := (portLanes p s).foldl (fun s n =>
    let l := getLane n s
    let t := groupTemp (groupOfLane n) s
    let w : Warm := { ctle := l.ctle, ffe := l.ffe, dfe := l.dfe, freq := l.freq, taps := l.taps, preTx := l.preTx, preRx := l.preRx,
                      rate := rateOf (macroOf n) s, temp := t }
    setSquelch n true (setLane n { (breakEye l) with st := .sleep, warm := some w, warmTemp := t } (clearUpset memWarm n s))) s
  let s := portEnter p .sleep (modPort p (fun x => { x with
    pause := [], xoff := 0, sendOn := 0, sendOff := 0, aligned := false, pcs := [], sleeping := false, wakeNext := none }) s)
  let s := slotPortDown p (post 0x9016 (le2 p) s)
  match x.wakeNext with
  | none => s
  | some t => wakePort p t s

/-! ### Gates (4.6) -/

/-- Whether a port's gate of a level is open (R131, R137). -/
def gateOpen (p level : Nat) (s : State) : Bool :=
  let cfg := rd Reg.macGateCfg p s
  let x := getPort p s
  !bitAt cfg 0 || (x.gateFail && bitAt cfg 3) || bitAt x.gates level

/-- GATE_FAIL of a port (R137): set with its fault and event. -/
def gateFails (p : Nat) (parity : Bool) (s : State) : State :=
  let x := getPort p s
  if x.gateFail ∧ (x.gateParity ∨ !parity) then s else
  let pay := le2 p ++ [byte (b2n parity)]
  let s := modPort p (fun x => { x with gateFail := true, gateParity := x.gateParity || parity, gateIx := none }) s
  post 0x9015 pay (report (if parity then 36 else 37) 2 p pay s)

/-- Offset at which entry `i` of a gate list ends within the cycle (R132). -/
def entryEnd (l : GateList) (i : Nat) : Nat :=
  let sum := ((l.entries.take (i + 1)).map Prod.snd).foldl (· + ·) 0
  if i + 1 < l.entries.length ∧ sum < l.cycle then sum else l.cycle

/-- The entry after entry `i` of a list: the next one that begins before the end of the cycle, else entry 0 (R132). -/
def nextEntry (l : GateList) (i : Nat) : Nat := if entryEnd l i < l.cycle then i + 1 else 0

/-- The gates take entry `i` of the active list; a parity error of the list stops them (R132, R137). -/
def gateTake (p i : Nat) (s : State) : State :=
  if upsetOf memGate p s ≠ 0 then gateFails p true s
  else
    let x := getPort p s
    let gates := (x.active.entries.getD i (0, 0)).1
    unwake p (fun l => !bitAt gates l) (setPort p { x with gateIx := some i, gates := gates } s)

/-- The gates of a port begin to follow its list (R131): they stand at the entry of the present time; before BASE they keep
their states until the first cycle starts. -/
def gatePlace (p : Nat) (s : State) : State :=
  let x := getPort p s
  let l := x.active
  let base := l.baseSec * 1000000000 + l.baseNs
  let now := timeOf (rdFld Reg.macGateCfg p 1 2 s) s
  if l.entries = [] ∨ now < base ∨ x.gateFail then setPort p { x with gateIx := none } s
  else gateTake p (((List.range l.entries.length).find? fun i => decide ((now - base) % l.cycle < entryEnd l i)).getD 0) s

/-- The gates of a port follow the state of their time base (R137): lost, or restored. -/
def gateTb (p : Nat) (s : State) : State :=
  let cfg := rd Reg.macGateCfg p s
  let x := getPort p s
  if portWidth p s = 0 ∨ !bitAt cfg 0 then s
  else if !tbRuns (fld cfg 1 2) s then gateFails p false s
  else if x.gateFail ∧ !x.gateParity then
    post 0x9015 (le2 p ++ [2]) (modPort p (fun x => { x with gateFail := false, gateIx := none }) s)
  else s

/-- Every port's gates follow their time bases. -/
def gatesFollowTb (s : State) : State := (List.range 1024).foldl (fun s p => gateTb p s) s

/-- A step of time base `n`: each gate keeps its state until the next cycle start on the new time (R136). -/
def gatesStepped (n : Nat) (s : State) : State :=
  let hit (p : Nat) (x : Port) : Port := if rdFld Reg.macGateCfg p 1 2 s = n then { x with gateIx := none } else x
  { s with mac := { s.mac with ports := tmap s.mac.ports hit } }

end Sys2Proof.Machine
end

