-- ==== Sys2Proof/Machine/PktOps.lean ====
section
/-! DEFINITION. Packets: their tags, the bytes of their headers, the cells they share, Gauze samples and discards
(6.6, 8.4, 9.1, 16.5). -/
namespace Sys2Proof.Machine

/-! ### Access -/

def getPkt (i : Nat) (s : State) : Pkt := tget s.pip.pkts i
def setPkt (i : Nat) (p : Pkt) (s : State) : State := { s with pip := { s.pip with pkts := tset s.pip.pkts i p } }
def setArriving (i : Nat) (a : Arrival) (s : State) : State := { s with pip := { s.pip with arriving := tset s.pip.arriving i a } }
def modPkt (i : Nat) (f : Pkt → Pkt) (s : State) : State := setPkt i (f (getPkt i s)) s
/-- A packet of this number exists and is at a stage. -/
def atStage (i : Nat) (st : PktStage) (s : State) : Bool := (getPkt i s).live && decide ((getPkt i s).stage = st)
def dropPkt (i : Nat) (s : State) : State := { s with pip := { s.pip with pkts := tset s.pip.pkts i {} } }
/-- A new packet and its number. -/
def newPkt (p : Pkt) (s : State) : Nat × State :=
  (s.pip.nextId, { s with pip := { s.pip with pkts := tset s.pip.pkts s.pip.nextId { p with live := true }, nextId := s.pip.nextId + 1 } })

def getQ (q : Nat) (s : State) : Queue := tget s.buf.queues q
def setQ (q : Nat) (x : Queue) (s : State) : State := { s with buf := { s.buf with queues := tset s.buf.queues q x } }
def modQ (q : Nat) (f : Queue → Queue) (s : State) : State := setQ q (f (getQ q s)) s
def getCells (i : Nat) (s : State) : Cells := tget s.buf.cells i
def setCells (i : Nat) (x : Cells) (s : State) : State := { s with buf := { s.buf with cells := tset s.buf.cells i x } }

/-! ### Pipes (R12, R17) -/

def siblingOf (pipe : Nat) : Nat := if pipe % 2 = 0 then pipe + 1 else pipe - 1
/-- The pipe that serves a lane group: its own, or the sibling while that is fenced (R17). -/
def servingPipe (g : Nat) (s : State) : Nat := if fencedU 4 g s then siblingOf g else g
def pipeOfPort (p : Nat) (s : State) : Nat := servingPipe (groupOfLane p) s
def panelOfPipe (pipe : Nat) : Nat := pipe / 4

/-- The packet time base (R426). -/
def pktTb (s : State) : Nat := rdFld Reg.timCtrl 0 0 2 s
/-- ns of the system reference since reset. -/
def refNs (s : State) : Nat := 4 * s.aon

/-! ### The tag (Table 6.6) -/

def Tag.slot (t : Tag) (n : Nat) : Nat := t.hdr.getD n 255
def Tag.setSlot (t : Tag) (n v : Nat) : Tag := { t with hdr := t.hdr.set n v }
def Tag.flag (t : Tag) (b : Nat) : Bool := bitAt t.pflags b
def Tag.setFlag (t : Tag) (b : Nat) : Tag := { t with pflags := t.pflags ||| 2 ^ b }
def Tag.setErr (t : Tag) (b : Nat) : Tag := { t with err := t.err ||| 2 ^ b }
def Tag.setTel (t : Tag) (b : Nat) : Tag := { t with tel := t.tel ||| 2 ^ b }
def Tag.tc (t : Tag) : Nat := fld t.cls 0 3

def Tag.bytes (t : Tag) : List Byte :=
  le 2 t.inPort ++ [byte (t.pipeIn + 16 * t.pipeOut), byte t.kind] ++ le 4 t.rxTs ++ [byte (t.rxPh + 4 * t.tb), byte t.cls] ++
  le 2 t.pflags ++ le 4 t.hash ++ le 4 t.dest ++ [byte t.dk, byte t.qidx, byte t.mirror, 0] ++ le 4 t.edit ++ le 2 t.tel ++
  le 2 t.err ++ (List.range 16).map (fun n => byte (t.slot n)) ++ le 2 t.frameLen ++ le 2 t.vid ++ le 4 t.metadata ++
  le 4 t.qdelay ++ zeros 4

/-! ### Header bytes -/

/-- A packet to the host with a reason and the stage that decided. -/
def puntTag (t : Tag) (reason stage : Nat) : Tag := { t with dk := 6, dest := reason + stage * 2 ^ 16 }

/-- An IP header at a place: whether it is IPv6, its length and its protocol. -/
def ipAt (f : List Byte) (o : Nat) : Option (Bool × Nat × Nat) :=
  let v := byteAt f o / 16
  if o = 255 ∨ o + 20 > f.length then none
  else if v = 4 then
    let hl := byteAt f o % 16 * 4
    if hl < 20 ∨ o + hl > f.length then none else some (false, hl, byteAt f (o + 9))
  else if v = 6 then if o + 40 > f.length then none else some (true, 40, byteAt f (o + 6))
  else none

/-- The TOS or traffic class byte. -/
def tosAt (f : List Byte) (o : Nat) : Nat :=
  if byteAt f o / 16 = 6 then byteAt f o % 16 * 16 + byteAt f (o + 1) / 16 else byteAt f (o + 1)

/-- Set the TOS or traffic class byte. -/
def setTos (f : List Byte) (o v : Nat) : List Byte :=
  if byteAt f o / 16 = 6 then splice f o [byte (byteAt f o / 16 * 16 + v / 16), byte (v % 16 * 16 + byteAt f (o + 1) % 16)]
  else splice f (o + 1) [byte v]

/-- TTL or hop limit, and its place. -/
def ttlPlace (f : List Byte) (o : Nat) : Nat := if byteAt f o / 16 = 6 then o + 7 else o + 8

/-- The length that stages 8 and 9 and admission take (R246): the bytes received with FCS, or while the frame has not
ended an estimate from slot 2, else MAX_FRAME. -/
def chargeLen (p : Pkt) (s : State) : Nat :=
  let o := p.tag.slot 2
  if p.ended then p.frame.length + 4
  else if o = 255 then (getPort p.tag.inPort s).maxFrame
  else if byteAt p.frame o / 16 = 6 then o + 40 + beAt p.frame (o + 4) 2 + 4 else o + beAt p.frame (o + 2) 2 + 4

/-- The length that FRAME_LEN gives (R246, R261): the bytes received, or the estimate of a frame that had not ended at stage 10. -/
def countLen (p : Pkt) (s : State) : Nat :=
  if p.tag.frameLen ≠ 0 then p.tag.frameLen else chargeLen { p with ended := false } s

/-! ### Memories with SECDED (R266) -/

/-- An item is read: a single-bit error is corrected and rewritten in place (FC069), an uncorrectable one recorded as its
class. -/
def meetSecded (mem cls i : Nat) (s : State) : State :=
  match upsetOf mem i s with
  | 1 => report 69 14 i (le 8 i) (clearUpset mem i s)
  | 2 => report cls 14 i (le 8 i) s
  | _ => s

/-! ### Gauze samples (R452 to R456) -/

/-- A Gauze record is lost (R456): counted, FC212, EV_GAUZE_LOST at most once in each ms. -/
def gauzeLose (s : State) : State :=
  let n := s.tel.gzLostEv + 1
  let t := { s with tel := { s.tel with gzLost := sat 32 (s.tel.gzLost + 1), gzLostEv := n } }
  let due := match s.tel.gzLostAt with
    | none => true
    | some a => decide (s.aon ≥ a + aonMs)
  let pay := le 4 n
  let t := report 212 14 0 pay t
  if due then post 0x6003 pay { t with tel := { t.tel with gzLostEv := 0, gzLostAt := some t.aon } } else t

/-- One source looks at an eligible packet of a pipe (R453): whether it takes it, and the eligible packets since its
previous take. -/
def gauzeSource (pipe src : Nat) (s : State) : Bool × Nat × State :=
  let r := rd Reg.telGauzeRate src s
  let n := fld r 0 24
  let key := pipe * 4 + src
  let since := tget s.tel.gzSince key + 1
  let gap := if n = 1 then 1 else if tget s.tel.gzGap key = 0 then n else tget s.tel.gzGap key
  if n = 0 then (false, 0, s)
  else if since < gap then (false, since, { s with tel := { s.tel with gzSince := tset s.tel.gzSince key since } })
  else
    let (v, s) := takeFree s
    let j := n * fld r 24 8 / 256
    let g := n - j + v % 2 ^ 32 % (2 * j + 1)
    (true, since, { s with tel := { s.tel with gzSince := tset s.tel.gzSince key 0, gzGap := tset s.tel.gzGap key g } })

/-- The sampler runs: TEL_CTRL.ENABLE, not stopped by a fence, its ring enabled. -/
def gauzeOn (s : State) : Bool :=
  bitAt (rd Reg.telCtrl 0 s) 0 && !s.tel.stopped && bitAt (rd Reg.telGauzeCfg 0 s) 0

/-- A field that says which item a lookup found; all ones if none. -/
def optNum (o : Option Nat) : List Byte := le 4 (o.getD 0xFFFFFFFF)

/-- The Gauze record of a packet (Table 16.6), with PHASE, SEQ and LOST still 0. -/
def gauzeRecord (p : Pkt) (srcs reason gap now : Nat) (fwd : Bool) : List Byte :=
  let t := p.tag
  let head := if srcs = 4 then p.ioam else if p.trimmed then (if p.first = [] then p.frame else p.first.take p.frame.length)
    else if p.first = [] then p.frame else p.first
  let fl := 2 * b2n fwd + 4 * b2n (!fwd) + 8 * b2n p.trimmed + 16 * b2n (bitAt t.tel 4) + 32 * b2n (bitAt t.tel 5) +
    64 * b2n (bitAt t.tel 6) + 128 * b2n (t.flag 10)
  fit 256 (fit 128 head ++ le 2 t.inPort ++ le 2 (if p.queue.isSome then p.port else 0xFFFF) ++ le 2 (p.queue.getD 0xFFFF) ++
    [byte fl, byte srcs] ++ le 2 reason ++ le 2 (if t.frameLen = 0 then p.len else t.frameLen) ++ le 4 t.rxTs ++
    le 4 (sat 32 (now - p.rxTotal)) ++ le 4 t.qdelay ++ [byte (t.rxPh + 4 * t.tb), byte (t.pipeIn + 16 * t.pipeOut)] ++ le 2 t.err ++
    le 4 t.hash ++ optNum p.emSrc ++ optNum p.emDst ++ le 4 (match p.lpmLen with | none => 0 | some l => l + 256) ++
    optNum p.tcamIx ++ optNum p.member ++ optNum p.hop ++ le 4 t.dest ++ [byte t.dk, byte t.cls] ++ zeros 2 ++ zeros 8 ++
    le 4 gap ++ le 4 t.metadata ++ le 4 t.edit)

/-- Offer a packet to the three Gauze sources at its point of record (R452). -/
def gauze (p : Pkt) (pipe reason now : Nat) (fwd : Bool) (s : State) : State :=
  if !gauzeOn s then s else
  let e0 := bitAt p.tag.tel 0
  let e1 := decide (reason ≠ 0) && bitAt (rd Reg.telGauzeDropMask 0 s) reason
  let e2 := fwd && bitAt p.tag.tel 2 && tget s.tel.sink p.port
  let step := fun (a : Nat × Option Nat × State) (x : Nat × Bool) =>
    if x.2 then
      let (took, gap, t) := gauzeSource pipe x.1 a.2.2
      if took then (a.1 + 2 ^ x.1, some (a.2.1.getD gap), t) else (a.1, a.2.1, t)
    else a
  let (srcs, gap, t) := [(0, e0), (1, e1), (2, e2)].foldl step (0, none, s)
  if srcs = 0 then t
  else if t.tel.gzStage.length ≥ 1024 then gauzeLose t
  else { t with tel := { t.tel with gzStage := t.tel.gzStage ++ [gauzeRecord p srcs reason (gap.getD 0) now fwd] } }

/-! ### References and discards (R252, R259, R274) -/

/-- O of a stored packet's port and class falls by `n` (R122). -/
def occDown (c : Cells) (n : Nat) (s : State) : State := if n = 0 then s else addOcc c.port c.cls (-(n : Int)) s

/-- The cells of a packet that only trimmed replicas reference: those beyond the longest of them are freed (R259). -/
def shrinkCells (id : Nat) (c : Cells) (s : State) : State :=
  let k := c.parts.foldl max 0
  let res := min c.res k
  let c' := { c with res := res, sh := min c.sh (k - res), occ := min c.occ k, banks := c.banks.take k }
  occDown c (c.occ - c'.occ) (setCells id c' s)

/-- One reference to a packet's cells ends, that of a trimmed replica being to its first `part` cells; the cells are
freed when none remains (R252, R293). -/
def release (id : Nat) (part : Option Nat) (s : State) : State :=
  let c := getCells id s
  let c := match part with
    | none => { c with refs := c.refs - 1 }
    | some k => { c with refs := c.refs - 1, parts := c.parts.erase k }
  if c.refs = 0 then occDown c c.occ (setCells id {} s)
  else if c.refs = c.parts.length then shrinkCells id c s
  else setCells id c s

/-- A stage takes a packet up: a parity error of its tag is found there, TAG_PARITY set and FC066 recorded (R187). -/
def checkTag (i pipe : Nat) (s : State) : State :=
  if upsetOf memTag i s = 0 then s
  else report 66 4 pipe (le 8 i) (clearUpset memTag i (modPkt i (fun p => { p with tag := p.tag.setErr 5 }) s))

/-- The lookups read a packet's key buffer: a parity error of it sets LOOKUP_PARITY and records FC067 (Table 6.9). -/
def checkKey (i pipe : Nat) (s : State) : State :=
  if upsetOf memKey i s = 0 then s
  else report 67 4 pipe (le 8 i) (clearUpset memKey i (modPkt i (fun p => { p with tag := p.tag.setErr 7 }) s))

/-- A packet is gone: its reference ends. -/
def endPkt (i : Nat) (s : State) : State :=
  let p := getPkt i s
  match p.cid with
  | none => dropPkt i s
  | some c => release c (if p.part then some p.cells else none) (dropPkt i s)

/-- A packet is discarded for a reason of Table 16.5: counted in a pipe for reasons 1 to 15, offered to the sampler,
gone. -/
def discard (i reason pipe : Nat) (s : State) : State :=
  let p := getPkt i s
  let s := if 1 ≤ reason ∧ reason ≤ 15 ∧ pipe < 16 then countPipe pipe reason 1 s else s
  endPkt i (gauze p pipe reason (timeOf (pktTb s) s) false s)

end Sys2Proof.Machine
end

