-- ==== Sys2Proof/Machine/MemOps.lean ====
section
/-! DEFINITION. The usable Burlap space: where an address lies and whether it is served (14.2, 14.6). -/
namespace Sys2Proof.Machine

/-- U in bytes. -/
def usable (s : State) : Nat := s.mem.usableMib * 2 ^ 20

/-- The memory half of a usable address (R403). -/
def halfOf (a : Nat) (s : State) : Nat := if a ≥ usable s / 2 then 1 else 0

/-- Offset within the half. -/
def halfOffset (a : Nat) (s : State) : Nat := a - halfOf a s * (usable s / 2)

/-- The channel of a usable address (R403). -/
def chanOfAddr (a : Nat) (s : State) : Nat := 16 * halfOf a s + halfOffset a s / 2 ^ 16 % 16

/-- Channel-local usable offset (R403). -/
def chanOffset (a : Nat) (s : State) : Nat := halfOffset a s / 2 ^ 20 * 2 ^ 16 + halfOffset a s % 2 ^ 16

/-- Row and data burst of a usable address (R403). -/
def rowOfAddr (a : Nat) (s : State) : Nat := chanOffset a s / 1792
def burstOfAddr (a : Nat) (s : State) : Nat := chanOffset a s % 1792 / 64

def getMChan (ch : Nat) (s : State) : MChan := tget s.mem.chans ch
def setMChan (ch : Nat) (c : MChan) (s : State) : State := { s with mem := { s.mem with chans := tset s.mem.chans ch c } }
def modMChan (ch : Nat) (f : MChan → MChan) (s : State) : State := setMChan ch (f (getMChan ch s)) s

/-- The half of a channel serves requests (R412). -/
def halfServes (h : Nat) (s : State) : Bool := bitAt s.mem.serving h

/-- A channel is present, in service, and its half serves. -/
def chanUp (ch : Nat) (s : State) : Bool :=
  decide ((getMChan ch s).st ≠ .absent) && !fencedU 9 ch s && halfServes (ch / 16) s

/-- A channel takes new spill and overflow blocks (R280, R413): it is up and not being fenced. -/
def chanTakes (ch : Nat) (s : State) : Bool := chanUp ch s && (getUnit 9 ch s).draining.isNone

/-- The granules of a channel are lost: it is absent, out of service, or being fenced (R413). -/
def chanLost (ch : Nat) (s : State) : Bool :=
  decide ((getMChan ch s).st = .absent) || fencedU 9 ch s || (getUnit 9 ch s).draining.isSome

/-- A request reaches a channel: it leaves self-refresh (R411). -/
def chanUsed (ch : Nat) (s : State) : State :=
  if (getMChan ch s).st = .selfRefresh then modMChan ch (fun c => { c with st := .ready }) s else s

/-- The memory number of Burlap bursts in the upset table: items are 64-byte bursts of the usable space. -/
def memBurst : Nat := 17

/-- The bursts that `n` bytes at a usable address lie in. -/
def burstsOf (a n : Nat) : List Nat := (List.range ((a % 64 + n + 63) / 64)).map (a / 64 + ·)

/-- The bursts of `n` bytes are read (R404, R406): a correctable error is corrected with FC179 and counted, an uncorrectable one
recorded as FC178. -/
def burlapScan (a n : Nat) (s : State) : State :=
  let bursts := burstsOf a n
  let s := bursts.foldl (fun s b => chanUsed (chanOfAddr (64 * b) s) s) s
  let soft := bursts.filter fun b => upsetOf memBurst b s == 1
  let hard := bursts.filter fun b => upsetOf memBurst b s == 2
  let s := soft.foldl (fun s b =>
    let ch := chanOfAddr (64 * b) s
    report 179 9 ch (le 8 (64 * b)) (modMChan ch (fun c => { c with ce := sat 8 (c.ce + 1) }) (clearUpset memBurst b s))) s
  hard.foldl (fun s b => report 178 9 (chanOfAddr (64 * b) s) (le 8 (64 * b)) s) s

/-- The bursts of `n` bytes are written: their channels leave self-refresh, and whole bursts lose their upsets. -/
def burstsWritten (a n : Nat) (s : State) : State :=
  (burstsOf a n).foldl (fun s b =>
    let s := chanUsed (chanOfAddr (64 * b) s) s
    if a ≤ 64 * b ∧ 64 * b + 64 ≤ a + n then clearUpset memBurst b s else s) s

/-- The spill engine writes bytes of a block that it holds in a channel. -/
def spillWrite (a : Nat) (bs : List Byte) (s : State) : State :=
  let s := burstsWritten a bs.length s
  { s with mem := { s.mem with burlap := mwrite s.mem.burlap a bs } }

/-- A read of `n` bytes at a usable address as a consumer sees it (R406, R412, R413): DOMAIN_OFF, TARGET_ECC with FC178,
or the bytes; a correctable error is corrected with FC179 and counted. -/
def burlapRead (a n : Nat) (s : State) : Nat × List Byte × State :=
  let bursts := burstsOf a n
  if bursts.any (fun b => !halfServes (halfOf (64 * b) s) s) then (0x07, [], bursts.foldl (fun s b => chanUsed (chanOfAddr (64 * b) s) s) s)
  else
    let hard := bursts.any fun b => upsetOf memBurst b s == 2 || chanLost (chanOfAddr (64 * b) s) s
    let s := burlapScan a n s
    if hard then (TARGET_ECC, [], s) else (0, mread s.mem.burlap a n, s)

/-- A write at a usable address; bytes of lost granules are discarded (R413), whole bursts lose their upsets. -/
def burlapWrite (a : Nat) (bs : List Byte) (s : State) : State :=
  let s := burstsWritten a bs.length s
  (chunks 1 bs.length bs).zipIdx.foldl (fun s x =>
    if chanLost (chanOfAddr (a + x.2) s) s then s
    else { s with mem := { s.mem with burlap := mwrite s.mem.burlap (a + x.2) x.1 } }) s

end Sys2Proof.Machine
end

