-- ==== Sys2Proof/Machine/Crc.lean ====
section
/-! DEFINITION. The check sums the spec names: CRC-32C (Castagnoli; Linen and dump trailers), the Ethernet FCS,
CRC-16/CCITT-FALSE (time-of-day messages), CRC-8 and the Internet check sum. -/
namespace Sys2Proof.Machine

/-- One bit of a reflected CRC with polynomial `p`. -/
def crcBit (p : Nat) (c : Nat) : Nat := if c % 2 = 1 then (c / 2) ^^^ p else c / 2

/-- One byte of a reflected CRC. -/
def crcByte (p : Nat) (c : Nat) (b : Byte) : Nat := (List.range 8).foldl (fun a _ => crcBit p a) (c ^^^ b.toNat)

/-- A reflected 32-bit CRC that starts at all ones and is inverted at its end. -/
def crc32With (p : Nat) (bs : List Byte) : Nat := bs.foldl (crcByte p) 0xFFFFFFFF ^^^ 0xFFFFFFFF

/-- CRC-32C (Castagnoli), Table 2.17. -/
def crc32c (bs : List Byte) : Nat := crc32With 0x82F63B78 bs

/-- The CRC of the Ethernet frame check sequence (IEEE 802.3). -/
def crcFcs (bs : List Byte) : Nat := crc32With 0xEDB88320 bs

/-- One bit of an unreflected CRC of `w` bits. -/
def crcMsbBit (w p c : Nat) : Nat := if c / 2 ^ (w - 1) % 2 = 1 then (c * 2 % 2 ^ w) ^^^ p else c * 2 % 2 ^ w

def crcMsbByte (w p c : Nat) (b : Byte) : Nat :=
  (List.range 8).foldl (fun a _ => crcMsbBit w p a) (c ^^^ (b.toNat * 2 ^ (w - 8)))

/-- CRC-16/CCITT-FALSE: polynomial 0x1021, start 0xFFFF, no reflection (Table 15.5). -/
def crc16 (bs : List Byte) : Nat := bs.foldl (crcMsbByte 16 0x1021) 0xFFFF

end Sys2Proof.Machine
end

