-- ==== Sys2Proof/Machine/TblOps.lean ====
section
/-! DEFINITION. The table array's operations: exact match, LPM, TCAM, ECMP and next hops, action profiles, meters,
learning (7.3 to 7.11, 8.1, 8.2, 10.4). -/
namespace Sys2Proof.Machine

/-! ### The exact-match table (R201 to R208) -/

def getEm (i : Nat) (s : State) : EmEntry := tget s.tbl.em i
def setEm (i : Nat) (e : EmEntry) (s : State) : State := { s with tbl := { s.tbl with em := tset s.tbl.em i e } }
/-- An entry of the table by bucket number (bank × 4,096 + bucket) and slot. -/
def emIx (bucket slot : Nat) : Nat := bucket * 4 + slot
def emBank (i : Nat) : Nat := i / 16384
def emBucket (i : Nat) : Nat := i / 4 % 4096
def emSlot (i : Nat) : Nat := i % 4

/-- The two places of a key and TYPE, as bucket numbers (R202). -/
def emPlaces (key : List Byte) (typ : Nat) (s : State) : Nat × Nat :=
  let b := fit 22 key ++ [byte typ]
  let h0 := b.foldl (crcByte 0x82F63B78) (rd Reg.tblSeed0 0 s)
  let h1 := b.foldl (crcByte 0xEDB88320) (rd Reg.tblSeed1 0 s)
  let b0 := h0 % 256
  let b1 := if h1 % 256 = b0 then b0 ^^^ 1 else h1 % 256
  (b0 * 4096 + h0 / 256 % 4096, b1 * 4096 + h1 / 256 % 4096)

/-- Whether an entry has a parity error. -/
def emBad (i : Nat) (s : State) : Bool := decide (upsetOf memEm i s ≠ 0)

/-- The slots a lookup reads, in order of precedence; it does not probe a bank that is out of use (R203, R210). -/
def emProbe (key : List Byte) (typ : Nat) (s : State) : List Nat :=
  let (p, q) := emPlaces key typ s
  ([p, q].filter fun b => !tget s.tbl.noProbe (b / 4096)).flatMap fun b => (List.range 4).map (emIx b)

/-- The entry that a lookup hits (R203). -/
def emFind (key : List Byte) (typ : Nat) (s : State) : Option Nat :=
  (emProbe key typ s).find? fun i =>
    let e := getEm i s
    e.valid && e.typ == typ && e.key == fit 22 key && !emBad i s

/-- KEY, TYPE and place of an entry, as EV_TBL_AGED carries them. -/
def emPlaceBytes (i : Nat) : List Byte := [byte (emBank i), byte (emSlot i)] ++ le 2 (emBucket i)

/-- FLAGS of an entry. -/
def EmEntry.flags (e : EmEntry) : Nat := b2n e.valid + 2 * b2n e.pinned + 4 * b2n e.hit + 8 * b2n e.pendingAge

/-- The 32 bytes of an entry; an empty slot is zeros. -/
def EmEntry.bytes (e : EmEntry) : List Byte :=
  if e.valid then fit 22 e.key ++ [byte e.typ, byte e.flags, byte e.profile] ++ le 7 e.data else zeros 32

/-- An entry of 32 bytes; HIT and PENDING_AGE are not written (R201). -/
def emOfBytes (b : List Byte) : EmEntry :=
  { valid := true, key := b.take 22, typ := byteAt b 22, pinned := bitAt (byteAt b 23) 1, profile := byteAt b 24, data := leAt b 25 7 }

/-- The object of an exact-match entry, as table commands and shadow records name it. -/
def emObj (key : List Byte) (typ : Nat) : Nat := leNat (fit 22 key ++ [byte typ])

/-- A pinned item is to be restored from the shadow, out of sweep order (R235, R236). -/
def restoreLater (kind key : Nat) (s : State) : State :=
  if s.tbl.restore.contains (kind, key) then s else { s with tbl := { s.tbl with restore := s.tbl.restore ++ [(kind, key)] } }

/-- An entry with a parity error is met (R235): posted; a dynamic one is reported and invalidated, a pinned one is to be
restored, and FC082 comes with its restoration. -/
def emMeetBad (i : Nat) (s : State) : State :=
  let e := getEm i s
  let pay := fit 22 e.key ++ [byte e.typ, byte e.flags] ++ emPlaceBytes i ++ [byte (b2n e.pinned)]
  if e.pinned then restoreLater 0 (emObj e.key e.typ) (post 0x1003 pay s)
  else clearUpset memEm i (setEm i {} (post 0x1003 pay (report 81 5 (emBank i) pay s)))

/-- A lookup has met bad entries: it counts once (Table 7.14). -/
def countMiss (s : State) : State := { s with tbl := { s.tbl with parityMisses := sat 32 (s.tbl.parityMisses + 1) } }

/-- The bad entries among the slots that a lookup reads. -/
def emMeet (key : List Byte) (typ : Nat) (s : State) : State :=
  let bad := (emProbe key typ s).filter fun i => (getEm i s).valid && emBad i s
  if bad = [] then s else bad.foldl (fun s i => emMeetBad i s) (countMiss s)

/-- A hit (R203, R219): HIT is set, and a mark PENDING_AGE cleared and posted. -/
def emHit (i : Nat) (s : State) : State :=
  let e := getEm i s
  let s := setEm i { e with hit := true, pendingAge := false } s
  if e.pendingAge then post 0x1002 (fit 22 e.key ++ [byte e.typ, 0] ++ emPlaceBytes i) s else s

/-- A bank takes no new entries: it is fenced (R207, R210). -/
def bankFenced (b : Nat) (s : State) : Bool := fencedU 5 b s || (getUnit 5 b s).draining.isSome

/-- The lowest free slot of a bucket. -/
def emFree (bucket : Nat) (s : State) : Option Nat := (List.range 4).find? fun k => !(getEm (emIx bucket k) s).valid

/-- The other place of an entry. -/
def emOther (i : Nat) (s : State) : Nat :=
  let e := getEm i s
  let (p, q) := emPlaces e.key e.typ s
  if i / 4 = p then q else p

/-- One bucket of the path search (R207): its entries' other places, in slot order; the first with a free slot ends the
search. `seen` lists the buckets read. -/
def emExpand (bucket : Nat) (path : List Nat) (seen : List Nat) (next : List (Nat × List Nat)) (s : State) :
    List Nat × List (Nat × List Nat) × Option (List Nat) :=
  (List.range 4).foldl (fun a k =>
    match a with
    | (seen, next, some r) => (seen, next, some r)
    | (seen, next, none) =>
      let i := emIx bucket k
      let e := getEm i s
      if !e.valid ∨ e.pendingAge ∨ emBad i s then (seen, next, none)
      else
        let b := emOther i s
        if seen.contains b ∨ bankFenced (b / 4096) s ∨ seen.length ≥ 512 then (seen, next, none)
        else match emFree b s with
          | some f => (b :: seen, next, some (path ++ [i, emIx b f]))
          | none => (b :: seen, next ++ [(b, path ++ [i])], none)) (seen, next, none)

/-- The breadth-first search (R207): a path of slots, each entry of which moves to the next slot; at most 8 moves. -/
def emSearch (s : State) : Nat → List Nat → List (Nat × List Nat) → Option (List Nat)
  | 0, _, _ => none
  | _ + 1, _, [] => none
  | n + 1, seen, (b, path) :: rest =>
    if path.length ≥ 8 then emSearch s n seen rest
    else match emExpand b path seen rest s with
      | (_, _, some r) => some r
      | (seen, next, none) => emSearch s n seen next

/-- Carry out a path from its free end backwards (R208); the first slot is then free. -/
def emMove : List Nat → State → State
  | a :: b :: r, s =>
    let s := emMove (b :: r) s
    let e := getEm a s
    setEm a {} (clearUpset memEm b (setEm b e s))
  | _, s => s

/-- Where a new entry goes and the moves it takes (R206): a free slot of its own buckets, bank0's first, else the head
of a relocation path. -/
def emRoom (p q : Nat) (s : State) : Option (Nat × List Nat) :=
  let ok := [p, q].filter fun b => !bankFenced (b / 4096) s
  match ok.findSome? fun b => (emFree b s).map (emIx b) with
  | some i => some (i, [])
  | none => match emSearch s 600 [p, q] (ok.map fun b => (b, [])) with
    | some (i :: r) => some (i, i :: r)
    | _ => none

/-- Put an entry into the table (R206 to R208): where it went and the moves made; none if no room was found. -/
def emPlace (e : EmEntry) (s : State) : Option (Nat × Nat × State) :=
  let (p, q) := emPlaces e.key e.typ s
  match emRoom p q s with
  | none => none
  | some (i, path) => some (i, path.length - 1, clearUpset memEm i (setEm i e (emMove path s)))

/-- TYPE is defined by the active image: a layout names it (R237). -/
def typeDefined (t : Nat) (s : State) : Bool :=
  s.pip.layouts.any fun e => (bitAt e.2 0 && fld e.2 8 8 == t) || (bitAt e.2 1 && fld e.2 16 8 == t)

/-! ### Items of the mirrored region (R196, R236) -/

/-- A single-copy error of an item is corrected from its twin: FC084. -/
def mirrorFix (mem ix : Nat) (s : State) : State :=
  if upsetOf mem ix s = 1 then report 84 5 (Config.mirrorBank mem ix).toNat (le 8 ix) (clearUpset mem ix s) else s

/-- A lookup meets an item of a shadow kind: a single-copy error is corrected, and an item lost in both copies is to be
restored. -/
def meetItem (mem kind ix : Nat) (s : State) : State :=
  if upsetOf mem ix s = 2 then restoreLater kind ix s else mirrorFix mem ix s

/-! ### LPM (R221, R222) -/

/-- Key of a prefix: VRF, family 6, length, and the address as a number of 32 or 128 bits. -/
def lpmKey (vrf : Nat) (six : Bool) (len addr : Nat) : Nat := ((vrf * 2 + b2n six) * 129 + len) * 2 ^ 128 + addr
def addrBits (six : Bool) : Nat := if six then 128 else 32
/-- An address with the bits beyond a length zeroed. -/
def maskAddr (six : Bool) (len addr : Nat) : Nat := addr / 2 ^ (addrBits six - len) * 2 ^ (addrBits six - len)
/-- Capacity units of a prefix (R221). -/
def lpmUnits (key : Nat) : Nat :=
  let k := key / 2 ^ 128
  if k / 129 % 2 = 0 then 1 else if k % 129 ≤ 64 then 2 else 4
def lpmUsed (s : State) : Nat := s.tbl.lpm.foldl (fun a e => a + lpmUnits e.1) 0

/-- The longest matching prefix: its length and result, longest first from `n`. -/
def lpmSearch (vrf : Nat) (six : Bool) (addr : Nat) (s : State) : Nat → Option (Nat × LpmRes)
  | 0 =>
    let r := tget s.tbl.lpm (lpmKey vrf six 0 0)
    if r = {} then none else some (0, r)
  | n + 1 =>
    let r := tget s.tbl.lpm (lpmKey vrf six (n + 1) (maskAddr six (n + 1) addr))
    if r = {} then lpmSearch vrf six addr s n else some (n + 1, r)

def lpmLookup (vrf : Nat) (six : Bool) (addr : Nat) (s : State) : Option (Nat × LpmRes) :=
  lpmSearch vrf six addr s (addrBits six)

/-! ### TCAM (R223, R224) -/

/-- Block b lies in a joined pair. -/
def tcamJoined (b : Nat) (s : State) : Bool := bitAt (rd Reg.tblTcamMode 0 s) (b / 2)
/-- Width of the entries that an index names: 160, 320, or 0 where the index is invalid (R223). -/
def tcamWidth (ix : Nat) (s : State) : Nat :=
  let b := ix / 1024
  if ix ≥ 98304 then 0 else if !tcamJoined b s then 160 else if b % 2 = 0 then 320 else 0
/-- A block out of use: its share is not in service, or has still to be reloaded from the shadow (Table 7.9). -/
def tcamFenced (b : Nat) (s : State) : Bool :=
  fencedU 6 (b / 6) s || s.tbl.restore.any fun e => decide (e.1 = 2) && decide (e.2 / 6144 = b / 6)

/-- A record of Table 7.5 as a number. -/
def tcamRec (ix : Nat) (s : State) : Nat := tget s.tbl.tcam ix
def recValid (r : Nat) : Bool := bitAt r 320
/-- KEY and MASK of a record match 160 bits of a key (R224). -/
def recMatch (r key : Nat) : Bool := (fld r 0 160 ^^^ fld key 0 160) &&& fld r 160 160 == 0

/-- The winning entry: the lowest valid matching index of a width. -/
def tcamLookup (width key : Nat) (s : State) : Option Nat :=
  (s.tbl.tcam.find? fun e => recValid e.2 && tcamWidth e.1 s == width && !tcamFenced (e.1 / 1024) s && recMatch e.2 key &&
    (width == 160 || recMatch (tcamRec (e.1 + 1024) s) (key / 2 ^ 160))).map Prod.fst

/-! ### ECMP, next hops and flowlets (R226 to R231) -/

def hopRec (n : Nat) (s : State) : Nat := tget s.tbl.hops n
def hopPort (r : Nat) : Nat := fld r 0 10
def hopEdit (r : Nat) : Nat := fld r 32 32
/-- A next hop is up: its port's next hops are marked up (R227, R231). -/
def hopUp (n : Nat) (s : State) : Bool := tget s.tbl.up (hopPort (hopRec n s))

/-- What a next hop gives (R227). -/
inductive HopRes where
  | drop
  | host
  | use (hop : Nat)

def resolveHop (n : Nat) (s : State) : HopRes :=
  let r := hopRec n s
  if !bitAt r 16 ∨ bitAt r 19 ∨ upsetOf memHop n s = 2 then .drop
  else if bitAt r 17 then .host
  else if hopUp n s then .use n
  else if bitAt r 18 ∧ hopUp (fld r 64 18) s ∧ upsetOf memHop (fld r 64 18) s ≠ 2 then .use (fld r 64 18)
  else .drop

/-- A lookup meets a next hop, and its backup where that is asked (R227, R236). -/
def meetHop (n : Nat) (s : State) : State :=
  let r := hopRec n s
  let t := meetItem memHop 5 n s
  if upsetOf memHop n s ≠ 2 ∧ bitAt r 16 ∧ !bitAt r 19 ∧ !bitAt r 17 ∧ !hopUp n s ∧ bitAt r 18 then meetItem memHop 5 (fld r 64 18) t
  else t

def rotr32 (x r : Nat) : Nat := (x / 2 ^ (r % 32) + x * 2 ^ (32 - r % 32)) % 2 ^ 32

/-- A member slot is live (R228). -/
def memberLive (m : Nat) (s : State) : Bool :=
  let r := tget s.tbl.members m
  bitAt r 31 && decide (upsetOf memMember m s ≠ 2) && hopUp (fld r 0 18) s

def grpRec (g : Nat) (s : State) : Nat := tget s.tbl.groups g
/-- The live slots of a group in ascending order. -/
def liveSlots (g : Nat) (s : State) : List Nat :=
  let r := grpRec g s
  ((List.range (fld r 32 16)).map (fld r 0 20 + ·)).filter fun m => memberLive m s

/-- The primary slot of a hash-mode group (R228). -/
def primarySlot (g hash : Nat) (s : State) : Nat :=
  let r := grpRec g s
  fld r 0 20 + rotr32 hash (fld r 56 5) * fld r 32 16 / 2 ^ 32

/-- A lookup meets a group and the slots it asks about: the primary slot alone where that is live and the group in hash mode,
else every slot (R228, R230, R236). -/
def meetGroup (g hash : Nat) (s : State) : State :=
  let r := grpRec g s
  let one := decide (fld r 48 8 = 0) && memberLive (primarySlot g hash s) s
  let t := meetItem memEcmp 3 g s
  if upsetOf memEcmp g s = 2 ∨ fld r 32 16 = 0 then t
  else if one then meetItem memMember 4 (primarySlot g hash s) t
  else ((List.range (fld r 32 16)).map (fld r 0 20 + ·)).foldl (fun s m => meetItem memMember 4 m s) t

/-- Load class of a port for a traffic class (R230). -/
def loadClass (port tc : Nat) (s : State) : Nat :=
  let d := tget s.sch.depth (port * 20 + 2 * tc) + tget s.sch.depth (port * 20 + 2 * tc + 1)
  let u := rdFld Reg.tblAr 0 0 16 s
  if d < u then 0 else min 7 (Nat.log2 (d / u) + 1)

/-- The member slot a group gives a packet, and the state with its flowlet (R228, R229). -/
def pickMember (g hash tc : Nat) (s : State) : Option Nat × State :=
  let r := grpRec g s
  let live := liveSlots g s
  let h := rotr32 hash (fld r 56 5)
  let h2 := rotr32 h 16
  if live = [] ∨ upsetOf memEcmp g s = 2 then (none, s)
  else if fld r 48 8 = 0 then
    let m := primarySlot g hash s
    (some (if live.contains m then m else live.getD (h2 * live.length / 2 ^ 32) 0), s)
  else
    let ix := (h ^^^ (g * 0x9E3779B9 % 2 ^ 32)) / 2 ^ 14
    let bad := decide (upsetOf memFlowlet ix s ≠ 0)
    let s := if bad then report 86 14 ix (le 8 ix) (clearUpset memFlowlet ix s) else s
    let f := tget s.tbl.flowlets ix
    let now := refNs s / 1000 % 65536
    let least := (live.map fun m => loadClass (hopPort (hopRec (fld (tget s.tbl.members m) 0 18) s)) tc s).foldl min 7
    let best := live.filter fun m => loadClass (hopPort (hopRec (fld (tget s.tbl.members m) 0 18) s)) tc s == least
    let keep := !bad && f.used && f.group == g && decide ((now + 65536 - f.last) % 65536 < fld r 64 16) && live.contains f.slot
    let m := if keep then f.slot else best.getD (h2 * best.length / 2 ^ 32) 0
    (some m, { s with tbl := { s.tbl with flowlets := tset s.tbl.flowlets ix { used := true, group := g, slot := m, last := now } } })

/-- A group has no live slot: EV_TBL_GROUP_EMPTY once (R228). -/
def groupEmpty (g : Nat) (s : State) : State :=
  if tget s.tbl.empty g then s
  else post 0x1006 (le 2 g ++ [1]) { s with tbl := { s.tbl with empty := tset s.tbl.empty g true } }

/-- Groups found empty that have a live slot again post the event once more (R228). -/
def groupsLive (s : State) : State :=
  (s.tbl.empty.map Prod.fst).foldl (fun s g =>
    if liveSlots g s = [] then s
    else post 0x1006 (le 2 g ++ [0]) { s with tbl := { s.tbl with empty := tset s.tbl.empty g false } }) s

/-! ### Action profiles (R241, R242) -/

/-- One operation of a profile on a packet; `v` is the value copied. -/
def profileOp (target v stage : Nat) (ttl : Bool) (p : Pkt) : Pkt :=
  let dst := fun dk d => { p with tag := { p.tag with dk := dk, dest := d }, ttlCheck := ttl }
  match target with
  | 1 => dst 1 (v % 2 ^ 10)
  | 2 => dst 2 (v % 2 ^ 14)
  | 3 => dst 3 (v % 2 ^ 18)
  | 4 => dst 4 (v % 2 ^ 16)
  | 5 => dst 5 (v % 2 ^ 7)
  | 6 => dst 6 (v % 2 ^ 16 + stage * 65536)
  | 7 => { p with tag := { p.tag with edit := v % 2 ^ 24 } }
  | 8 => { p with tag := { p.tag with metadata := v % 2 ^ 32 } }
  | 9 => { p with tag := { p.tag with cls := setFld p.tag.cls 0 3 v } }
  | 10 => { p with tag := { p.tag with cls := setFld p.tag.cls 3 2 v } }
  | 11 => { p with tag := { p.tag with mirror := v % 2 ^ 8 } }
  | 12 => { p with meter := some (v % 2 ^ 16) }
  | 13 => { p with ctr := some (v % 2 ^ 20) }
  | 14 => { p with tag := { p.tag with tel := p.tag.tel ||| v % 4 } }
  | _ => p

/-- Run a profile on ACTION_DATA at a stage (R242). -/
def runProfile (prof data stage : Nat) (p : Pkt) : Pkt :=
  if !bitAt prof 0 then { p with tag := { p.tag with dk := 7 }, reason := 4 }
  else
    let p := (List.range 6).foldl (fun p i =>
      let w := fld prof (8 + 16 * i) 16
      profileOp (fld w 0 4) (data / 2 ^ fld w 4 6) stage (bitAt prof 2) p) p
    if bitAt prof 1 then { p with tag := { p.tag with dk := 7 }, reason := 4 } else p

/-! ### Meters (R311, R312) -/

/-- A meter's buckets after `dt` ns (R311, R312): tokens in 1/65,536 byte. -/
def Meter.refill (m : Meter) (now : Nat) : Meter :=
  let dt := now - m.last
  let cbs := fld m.cfg 96 32 * 65536
  let pbs := fld m.cfg 128 32 * 65536
  let tc := m.tc + fld m.cfg 32 32 * dt * 8192 / 1000000
  let tp := m.tp + fld m.cfg 64 32 * dt * 8192 / 1000000
  let tp := if fld m.cfg 0 8 = 2 ∧ bitAt m.cfg 9 then tp + (tc - cbs) else tp
  { m with tc := min tc cbs, tp := min tp pbs, last := now }

/-- The colour of a charge of `b` bytes, and the meter after it (R312). -/
def Meter.charge (m : Meter) (bytes pre : Nat) : Nat × Meter :=
  let b := bytes * 65536
  let pre := if bitAt m.cfg 8 then pre else 0
  if fld m.cfg 0 8 = 1 then
    if pre = 2 ∨ m.tp < b then (2, m)
    else if pre = 1 ∨ m.tc < b then (1, { m with tp := m.tp - b })
    else (0, { m with tp := m.tp - b, tc := m.tc - b })
  else if pre = 0 ∧ m.tc ≥ b then (0, { m with tc := m.tc - b })
  else if pre ≤ 1 ∧ m.tp ≥ b then (1, { m with tp := m.tp - b })
  else (2, m)

/-- A length plus a signed overhead, not below 0. -/
def withOverhead (len over8 : Nat) : Nat := ((len : Int) + toS 8 over8).toNat

/-! ### Objects of table commands, and the shadow areas (R232 to R236, R239) -/

/-- The address of an LPM operand. -/
def prefixAddr (b : List Byte) : Nat := beAt b 4 (if byteAt b 2 = 6 then 16 else 4)
def prefixKey (b : List Byte) : Nat := lpmKey (leAt b 0 2) (byteAt b 2 == 6) (byteAt b 3) (prefixAddr b)

/-- The objects that a table command names: shadow kind and key (R234). LPM_LOOKUP names the prefix it finds. -/
def cmdObjs (c : Cmd) (s : State) : List (Nat × Nat) :=
  let span := fun (kind first n : Nat) => (List.range (min n 4096)).map fun i => (kind, first + i)
  let six := byteAt c.ops 2 == 6
  match c.opcode with
  | 0x10 | 0x11 | 0x12 => [(0, emObj (slice c.ops 0 22) (c.op 22 1))]
  | 0x18 | 0x19 => [(1, prefixKey c.ops)]
  | 0x1A => match lpmLookup (c.op 0 2) six (prefixAddr c.ops) s with
    | some (len, _) => [(1, lpmKey (c.op 0 2) six len (maskAddr six len (prefixAddr c.ops)))]
    | none => []
  | 0x1C | 0x1D => span 2 (c.op 0 4) (c.op 4 2) ++ (if tcamWidth (c.op 0 4) s = 320 then span 2 (c.op 0 4 + 1024) (c.op 4 2) else [])
  | 0x20 => [(3, c.op 0 2)]
  | 0x21 => span 4 (c.op 0 4) (c.op 4 4)
  | 0x22 => span 5 (c.op 0 4) (c.op 4 4)
  | 0x23 => span (c.op 0 1) (c.op 4 4) (c.op 8 4)
  | _ => []

/-- SHADOW_HOLDOFF in CLK_AON cycles. -/
def shadowHold (s : State) : Nat := rdFld Reg.tblShadowCfg 0 0 16 s * 250

/-- A table command for these objects completes (R234). -/
def touch (objs : List (Nat × Nat)) (s : State) : State :=
  if objs = [] then s
  else
    let old := s.tbl.recent.filter fun e => decide (s.aon < e.2.2 + shadowHold s) && !objs.contains (e.1, e.2.1)
    { s with tbl := { s.tbl with recent := objs.map (fun o => (o.1, o.2, s.aon)) ++ old } }

/-- An object that the sweep skips: a table command for it is in the engine, or completed within SHADOW_HOLDOFF (R234). -/
def held (kind key : Nat) (s : State) : Bool :=
  (s.tbl.recent.any fun e => e.1 == kind && e.2.1 == key && decide (s.aon < e.2.2 + shadowHold s)) ||
  s.hif.inflight.any fun c => decide (c.stage ≠ .waiting) && (cmdObjs c s).contains (kind, key)

/-- Base and length of a shadow area: as the sweep in progress found them, else as the registers give them (R239). -/
def areaOf (k : Nat) (s : State) : Nat × Nat :=
  if s.seq.sweepAt.isSome ∧ s.seq.areas ≠ [] then tget s.seq.areas k else (rd Reg.tblShadowBase k s, rd Reg.tblShadowLen k s)

/-- A shadow sweep begins (R233, R239). -/
def beginSweep (s : State) : State :=
  { s with seq := { s.seq with
      sweepAt := some s.aon, overran := false
      areas := (List.range 6).foldl (fun t k => tset t k (rd Reg.tblShadowBase k s, rd Reg.tblShadowLen k s)) [] } }

/-! ### Learning (R214 to R217) -/

def filterState (key : List Byte) (typ : Nat) (s : State) : Option Learn :=
  s.tbl.filter.find? fun l => l.typ == typ && l.key == key

/-- A learn candidate (Table 7.4, R216). `move` carries the port that the entry holds. -/
def learnCandidate (key : List Byte) (typ : Nat) (move : Option Nat) (p : Pkt) (s : State) : State :=
  let t := p.tag
  let a := t.inPort
  let rate := rdFld Reg.tblLearn 0 16 16 s
  let ev := fun (kind pa pb : Nat) (s : State) =>
    post 0x1000 (fit 22 key ++ [byte typ, byte kind] ++ le 2 pa ++ le 2 pb ++ le 2 t.vid ++ [byte t.pipeIn, 0] ++ le 4 t.rxTs ++
      [byte (t.rxPh + 4 * t.tb)])
      { s with tbl := { s.tbl with learnPosted := sat 32 (s.tbl.learnPosted + 1), window := s.tbl.window + 1 } }
  if rate ≠ 0 ∧ s.tbl.window ≥ rate then { s with tbl := { s.tbl with learnRateDrops := sat 32 (s.tbl.learnRateDrops + 1) } }
  else match filterState key typ s with
    | none =>
      let f := if s.tbl.filter.length ≥ 4096 then s.tbl.filter.drop 1 else s.tbl.filter
      let s := { s with tbl := { s.tbl with filter := f ++ [{ typ := typ, key := key, port := a }] } }
      match move with
      | none => ev 0 a 0xFFFF s
      | some b => ev 1 a b s
    | some l =>
      if l.contested ∨ l.port = a then { s with tbl := { s.tbl with learnSuppressed := sat 32 (s.tbl.learnSuppressed + 1) } }
      else
        let f := s.tbl.filter.map fun x => if x = l then { x with contested := true } else x
        ev 2 l.port a { s with tbl := { s.tbl with filter := f, learnContested := sat 32 (s.tbl.learnContested + 1) } }

end Sys2Proof.Machine
end

