-- ==== Sys2Proof/Machine/BufOps.lean ====
section
/-! DEFINITION. The shared buffer: profiles, pools, staging, blocks of the spill region, storage, queues, readback
(9.1 to 9.6). -/
namespace Sys2Proof.Machine

/-! ### Queues and their records (Tables 8.7 and 9.2) -/

/-- Profile record of a queue. -/
def profOf (q : Nat) (s : State) : Nat := tget s.buf.profiles (tget s.buf.map q)
def prSpill (r : Nat) : Bool := bitAt r 0
def prCt (r : Nat) : Bool := bitAt r 1
def prPool (r : Nat) : Nat := fld r 8 2
def prAlpha (r : Nat) : Nat := fld r 16 4
def prPrefetch (r : Nat) : Nat := fld r 24 8
def prMin (r : Nat) : Nat := fld r 32 32
def prMax (r : Nat) : Nat := fld r 64 32
def prSpillMax (r : Nat) : Nat := fld r 96 32

/-- Port egress record, TRIM_QIDX and TRIM_LEN (Table 8.7). -/
def egressRec (p : Nat) (s : State) : Nat := tget s.pip.egress p
def trimQidx (p : Nat) (s : State) : Nat := let v := fld (egressRec p s) 48 8; if v = 0 then 15 else v
def trimLen (p : Nat) (s : State) : Nat := let v := fld (egressRec p s) 64 16; if v = 0 then 128 else v

/-- A port's trim queue, and a multicast queue, never spill (R282, R291). -/
def neverSpills (q : Nat) (s : State) : Bool := decide (q % 20 ≥ 16) || decide (q % 20 = trimQidx (q / 20) s)

/-! ### Cells, units, pools (R268, R271, R272, R281) -/

def cellsOf (len : Nat) : Nat := (len + 255) / 256
def unitsOf (len : Nat) : Nat := (len + 64 + 255) / 256

/-- Buffer banks not in service. -/
def banksOut (s : State) : Nat := ((List.range 256).filter fun b => fencedU 7 b s).length

/-- Cells in service (R271). -/
def cellsIn (s : State) : Nat := 786432 - 3072 * banksOut s

/-- Cells that fenced banks take from a pool (R295): from the lossy pool down to its RESERVE, then from the shared part
of the lossless pool. -/
def bankCut (k : Nat) (s : State) : Nat :=
  let part := fun k => rd Reg.bufPoolSize k s - rd Reg.bufPoolReserve k s
  let lossy := min (3072 * banksOut s) (part 0)
  if k = 0 then lossy else if k = 1 then min (3072 * banksOut s - lossy) (part 1) else 0

/-- Sum over stored packets. -/
def sumCells (f : Cells → Nat) (s : State) : Nat := s.buf.cells.foldl (fun a e => a + f e.2) 0

def poolRes (k : Nat) (s : State) : Nat := sumCells (fun c => if c.pool = k then c.res else 0) s
def poolSh (k : Nat) (s : State) : Nat := sumCells (fun c => if c.pool = k then c.sh else 0) s
/-- F: free cells of a pool's shared part (R273); cells that the reserved part holds beyond a lowered RESERVE count against it
(R271). -/
def sharedFree (k : Nat) (s : State) : Nat :=
  rd Reg.bufPoolSize k s - bankCut k s - max (rd Reg.bufPoolReserve k s) (poolRes k s) - poolSh k s
def reserveFree (k : Nat) (s : State) : Nat := rd Reg.bufPoolReserve k s - poolRes k s

/-- Charge to a headroom account from stored packets that satisfy `f`. -/
def headSum (f : Cells → Nat × Nat × Nat → Bool) (s : State) : Nat :=
  sumCells (fun c => match c.head with | some h => if f c h then h.2.2 else 0 | none => 0) s
/-- Headroom used by (p, c) (R277). -/
def headAcct (p c : Nat) (s : State) : Nat := headSum (fun _ h => h.1 == p && h.2.1 == c) s
/-- Cells of the headroom part in use. -/
def headUsed (s : State) : Nat := headSum (fun c _ => c.pool == 4) s

/-! ### Spill runs (R280 to R285) -/

/-- Where a spilled packet's units lie in its run: positions and counts. -/
def Pkt.spans (p : Pkt) : List (Nat × Nat) :=
  if p.units = 0 then [] else (p.uStart, p.units - (p.more.map Prod.snd).foldl (· + ·) 0) :: p.more

/-- Units of a spilled packet that lie in prefetch. -/
def prefetched (p : Pkt) (readPos : Nat) : Nat :=
  if p.lost then 0 else p.spans.foldl (fun a e => a + min e.2 (readPos - e.1)) 0

/-- Cells read ahead of a queue (Table 9.8). -/
def prefetchCells (q : Nat) (s : State) : Nat :=
  let x := getQ q s
  x.pkts.foldl (fun a i => a + prefetched (getPkt i s) x.readPos) 0

/-- On-die cells of a queue, prefetch and headroom included (R273, Table 9.8). -/
def onDie (q : Nat) (s : State) : Nat := (getQ q s).ondie + prefetchCells q s

/-- Units in Burlap and in write assembly (Table 9.8). -/
def Queue.runUnits (x : Queue) : Nat := x.appended - x.readPos

/-- Depth of a queue (R314). -/
def queueDepth (q : Nat) (s : State) : Nat := onDie q s + (getQ q s).runUnits

/-- Staging cells in use: write assembly, reads in progress, prefetch, and prefetched packets that are leaving. -/
def stageUsed (s : State) : Nat := sumCells (fun c => c.staged.length) s
def stageFree (s : State) : Nat := rd Reg.bufStage 0 s - stageUsed s

/-- Blocks of the region. -/
def regionBlocks (s : State) : Nat := rd Reg.bufSpillBlocks 0 s
def blockAddr (id : Nat) (s : State) : Nat := rd Reg.bufSpillBase 0 s + 65536 * id
def blockChan (id : Nat) (s : State) : Nat := chanOfAddr (blockAddr id s) s
/-- Blocks in use. -/
def usedBlocks (s : State) : List Nat := s.buf.queues.flatMap fun e => e.2.blocks.map fun b => b.id
/-- First free block from `i` on, among `n`, in a channel. -/
def freeBlockIn (ch : Nat) (used : List Nat) (s : State) : Nat → Nat → Option Nat
  | 0, _ => none
  | n + 1, i => if blockChan i s = ch && !used.contains i then some i else freeBlockIn ch used s n (i + 1)
/-- A free block for a run with channel rotation `rot`, and the rotation after it (R280). -/
def pickBlock (rot : Nat) (used : List Nat) (s : State) : Option (Nat × Nat) :=
  (List.range 32).findSome? fun k =>
    let ch := (rot + k) % 32
    if chanTakes ch s then (freeBlockIn ch used s (regionBlocks s) 0).map fun b => (b, (ch + 1) % 32) else none

/-- Places of a block that units have taken. -/
def RBlock.taken (b : RBlock) : Nat := b.start - b.base + b.n

/-- The run's last block can take more units (R285). -/
def RBlock.open (b : RBlock) : Bool := decide (b.taken < 256) && !b.reading && !b.lost

/-- Put `n` more units into a run, block by block; none where a block is needed and none is free. -/
def growRun (s : State) : Nat → Nat → Queue → List Nat → Option Queue
  | 0, _, x, _ => some x
  | fuel + 1, n, x, used =>
    if n = 0 then some x
    else match x.blocks.getLast?.filter RBlock.open with
      | some b =>
        let k := min n (256 - b.taken)
        growRun s fuel (n - k) { x with blocks := x.blocks.dropLast ++ [{ b with n := b.n + k }], appended := x.appended + k } used
      | none =>
        match pickBlock x.rot used s with
        | none => none
        | some (id, rot) =>
          let k := min n 256
          growRun s fuel (n - k) { x with
            blocks := x.blocks ++ [{ id := id, base := x.appended, start := x.appended, n := k }]
            appended := x.appended + k, rot := rot } (id :: used)

/-- A run with `n` more units, if the region has the blocks it needs. -/
def appendUnits (q n : Nat) (s : State) : Option Queue := growRun s (2 * (n / 256 + 2)) n (getQ q s) (usedBlocks s)

/-- A refusal of the region (0) or of staging (1): FC101 and EV_BUF_SPILL_EXHAUSTED once in each 1 ms (R288). -/
def exhausted (what : Nat) (s : State) : State :=
  let recent := (tget s.buf.exTimes what).filter fun t => decide (s.aon < t + aonMs)
  let times := recent ++ [s.aon]
  let s := report 101 14 what [byte what] { s with buf := { s.buf with exTimes := tset s.buf.exTimes what times } }
  let due := match tget s.buf.exPost what with
    | none => true
    | some t => decide (s.aon ≥ t + aonMs)
  if due then post 0x3001 ([byte what, 0, 0, 0] ++ le 4 times.length) { s with buf := { s.buf with exPost := tset s.buf.exPost what (some s.aon) } }
  else s

/-- EV_BUF_SPILL if SPILL_EV is set (Table 9.4). -/
def postSpill (q entered peak : Nat) (s : State) : State :=
  if bitAt (rd Reg.bufCtrl 0 s) 4 then post 0x3000 (le 2 q ++ [byte entered, 0] ++ le 4 peak) s else s

/-- A queue's run after an append: its peaks, and the region's. -/
def setRun (q : Nat) (x : Queue) (s : State) : State :=
  let n := x.blocks.length
  let s := setQ q { x with runPeak := max x.runPeak n, peak := max x.peak n } s
  { s with buf := { s.buf with spillPeak := max s.buf.spillPeak (usedBlocks s).length } }

/-- A run is empty: it closes (Table 9.4). -/
def closeRun (q : Nat) (s : State) : State :=
  let x := getQ q s
  if x.spilling ∧ x.runUnits = 0 ∧ x.blocks = [] then
    postSpill q 0 x.runPeak (setQ q { x with spilling := false, began := false, runPeak := 0 } s)
  else s

/-! ### Storage (R252, R269, R289) -/

/-- The banks that cells of a stored packet lie in. -/
def Cells.inBanks (c : Cells) : List Nat := c.banks ++ c.staged.map fun e => e.2 - 1

/-- Cells in use in each bank. -/
def bankUse (s : State) : Tab Nat := s.buf.cells.foldl (fun t e => e.2.inBanks.foldl (fun t b => tmod t b (· + 1)) t) []

/-- Banks for `n` cells in rotation: fenced banks, banks being fenced and full banks are skipped (R269, R295). -/
def pickBanks (s : State) : Nat → Nat → Tab Nat → List Nat × Nat
  | 0, rot, _ => ([], rot)
  | n + 1, rot, use =>
    match ((List.range 256).map fun k => (rot + k) % 256).find? fun b =>
        !fencedU 7 b s && (getUnit 7 b s).draining.isNone && decide (tget use b < 3072) with
    | none => ([], rot)
    | some b => let r := pickBanks s n ((b + 1) % 256) (tmod use b (· + 1)); (b :: r.1, r.2)

/-- Store cells: a record of them with one reference; `onDie` cells lie in banks. O(p, c) rises by `occ` (R122). -/
def storeCells (c : Cells) (key n : Nat) (s : State) : Nat × State :=
  let (banks, rot) := pickBanks s n (tget s.buf.rot key) (bankUse s)
  let id := s.buf.nextCid
  let c := { c with refs := 1, banks := banks }
  let s := { s with buf := { s.buf with cells := tset s.buf.cells id c, nextCid := id + 1, rot := tset s.buf.rot key rot } }
  (id, if c.occ = 0 then s else addOcc c.port c.cls c.occ s)

/-- Cells that count in O of the packet's ingress port: none for a copy or for a packet of no port. -/
def occOf (p : Pkt) (n : Nat) : Nat := if p.tag.inPort < 1024 ∧ !bitAt p.tag.tel 5 then n else 0

/-- A cell is read: a correctable error is corrected (FC098); one with an uncorrectable error (FC097) spoils the packet. -/
def meetCell (id : Nat) (spoilt : Bool) (cell bank : Nat) (s : State) : Bool × State :=
  let key := 256 * id + cell
  match upsetOf memCell key s with
  | 1 => (spoilt, report 98 14 bank (le 2 bank ++ le 4 key) (clearUpset memCell key s))
  | 2 => (true, report 97 7 bank (le 2 bank ++ le 4 key) s)
  | _ => (spoilt, s)

/-- The cells of a packet are read: with an uncorrectable error among them it is to end stomped (Table 9.6). -/
def readCells (i : Nat) (s : State) : State :=
  let p := getPkt i s
  match p.cid with
  | none => s
  | some id =>
    let c := getCells id s
    let cells := if p.units = 0 then (c.banks.take p.cells).zipIdx.map fun x => (x.2, x.1) else c.staged.map fun e => (e.1, e.2 - 1)
    let (spoilt, s) := cells.foldl (fun a x => meetCell id a.1 x.1 x.2 a.2) (false, s)
    if spoilt then modPkt i (fun p => { p with stomp := true }) s else s

/-! ### Where a run's units lie (R281, R285) -/

/-- The positions of a spilled packet's units in its run, in order. -/
def Pkt.positions (p : Pkt) : List Nat := p.spans.flatMap fun e => (List.range e.2).map (e.1 + ·)

/-- A place of the run lies in a block that is not read back. -/
def RBlock.has (b : RBlock) (pos : Nat) : Bool := decide (b.start ≤ pos) && decide (pos < b.start + b.n)

/-- A unit lies in a staging cell: it is in write assembly, is being read, or is in prefetch. -/
def Queue.onDieAt (x : Queue) (pos : Nat) : Bool :=
  decide (pos < x.readPos) || x.blocks.any fun b => b.has pos && (b.reading || decide (b.start + b.w ≤ pos))

/-- Unit `k` of a packet as a run stores it: bytes of its tag and its frame (R281). -/
def Pkt.unitBytes (p : Pkt) (k : Nat) : List Byte := ((p.tag.bytes ++ p.frame).drop (256 * k)).take 256

/-- The bytes of a unit go to its place in Burlap (R281). -/
def storeUnit (q i k pos : Nat) (s : State) : State :=
  match (getQ q s).blocks.find? fun b => b.has pos with
  | none => s
  | some b => spillWrite (blockAddr b.id s + 256 * (pos - b.base)) ((getPkt i s).unitBytes k) s

/-- A unit takes a staging cell as it comes on die, in the rotation of its packet's ingress pipe (R269), and leaves it as it is
written to Burlap. -/
def settleUnit (q i k pos : Nat) (s : State) : State :=
  let p := getPkt i s
  match p.cid with
  | none => s
  | some id =>
    let c := getCells id s
    let at' := tget c.staged k
    let drop := fun (s : State) => setCells id { getCells id s with staged := tset (getCells id s).staged k 0 } s
    if p.lost then (if at' = 0 then s else drop s)
    else if (getQ q s).onDieAt pos then
      if at' ≠ 0 then s
      else match pickBanks s 1 (tget s.buf.rot p.pipe) (bankUse s) with
        | (b :: _, rot) => setCells id { c with staged := tset c.staged k (b + 1) } { s with buf := { s.buf with rot := tset s.buf.rot p.pipe rot } }
        | ([], _) => s
    else if at' = 0 then s
    else
      let (spoilt, s) := meetCell id false k (at' - 1) s
      drop (storeUnit q i k pos (if spoilt then modPkt i (fun p => { p with stomp := true }) s else s))

/-- Every unit of a run's packets takes or leaves its staging cell as the blocks now say. -/
def settle (q : Nat) (s : State) : State :=
  (getQ q s).pkts.foldl (fun s i => (getPkt i s).positions.zipIdx.foldl (fun s x => settleUnit q i x.2 x.1 s) s) s

/-- A full block is written to Burlap (R285). -/
def RBlock.close (b : RBlock) : RBlock := if b.taken = 256 ∧ !b.reading ∧ !b.lost then { b with w := b.n } else b

/-- After a change of a run: its new units are assembled, and its full blocks written. -/
def runStep (q : Nat) (s : State) : State :=
  settle q (modQ q (fun x => { x with blocks := x.blocks.map RBlock.close }) (settle q s))

/-- Bytes of a spilled packet that arrive after its units have been written go to their places in Burlap. -/
def spillLate (i : Nat) (s : State) : State :=
  let p := getPkt i s
  match p.queue with
  | none => s
  | some q => p.positions.zipIdx.foldl (fun s x => if (getQ q s).onDieAt x.1 then s else storeUnit q i x.2 x.1 s) s

/-- R273. -/
structure Fit where
  ok : Bool
  r : Nat
  sh : Nat
  t : Nat

def alphaTimes (a f : Nat) : Nat := if a ≥ 7 then f * 2 ^ (a - 7) else f / 2 ^ (7 - a)

def fits (q n pool : Nat) (s : State) : Fit :=
  let pr := profOf q s
  let d := onDie q s
  let f := sharedFree pool s
  let r := if d < prMin pr then min n (prMin pr - d) else 0
  let t := min (prMax pr) (max (prMin pr) (alphaTimes (prAlpha pr) f))
  { ok := decide (d + n ≤ t) && decide (n - r ≤ f) && decide (r ≤ reserveFree pool s), r := r, sh := n - r, t := t }

/-! ### Queues (R276, R297) -/

/-- A packet joins the tail of its queue: counted; with AUTO_WAKE a sleeping port wakes (R140). -/
def joinQueue (i q : Nat) (s : State) : State :=
  let p := getPkt i s
  let port := q / 20
  let s := setPkt i { p with stage := .queued, queue := some q, port := port, admNs := refNs s } s
  let s := modQ q (fun x => { x with pkts := x.pkts ++ [i], ondie := x.ondie + (if p.units = 0 then p.cells else 0) }) s
  let s := countQueue q 1 p.len (countQueue q 0 1 s)
  if bitAt (rd Reg.macPortCfg port s) 2 then wakePort port 2 s else s

/-- A packet leaves its queue, whatever becomes of it. -/
def leaveQueue (i q : Nat) (s : State) : State :=
  let p := getPkt i s
  modQ q (fun x => { x with pkts := x.pkts.filter (fun j => decide (j ≠ i)),
                            ondie := x.ondie - (if p.units = 0 then p.cells else 0) }) s

/-- Blocks whose units belong to no packet of the run any more leave it. -/
def dropQueued (i q reason : Nat) (s : State) : State := discard i reason (pipeOfPort (q / 20) s) (leaveQueue i q s)

/-- The head packets of a queue that have lost a cell or a unit are discarded there (R287, R295). -/
def dropLost (q : Nat) : List Nat → State → State
  | [], s => s
  | i :: rest, s =>
    let p := getPkt i s
    let bank : Bool := match p.cid with | some c => (getCells c s).lost | none => false
    if p.lost || bank then
      let s := countQueue q 8 1 s
      let s := if p.lost then report 100 14 q (le 2 q) { s with buf := { s.buf with spillLost := sat 32 (s.buf.spillLost + 1) } }
        else { s with buf := { s.buf with bankLost := sat 32 (s.buf.bankLost + 1) } }
      dropLost q rest (dropQueued i q 16 s)
    else s

/-- Look at a queue's head: lost packets at it are discarded. -/
def lookHead (q : Nat) (s : State) : State := dropLost q (getQ q s).pkts s

/-- Flush a queue (R276): its packets are discarded in order as `ctr` and `reason`, its blocks freed without readback. -/
def flushQueue (q ctr reason : Nat) (s : State) : State :=
  let s := (getQ q s).pkts.foldl (fun s i => dropQueued i q reason (countQueue q ctr 1 s)) s
  modQ q (fun x => { x with blocks := [], readPos := x.appended, spilling := false, began := false, runPeak := 0 }) s

/-- Every queue of a port is flushed, if the port left UP (R276). -/
def flushPort (p : Nat) (s : State) : State :=
  if (getPort p s).flush then
    let s := (List.range 20).foldl (fun s k => flushQueue (p * 20 + k) 7 6 s) s
    modPort p (fun x => { x with flush := false }) s
  else s

/-! ### Readback (R285, R287, R290) -/

/-- Mark the packets of a queue that hold a unit of a block as lost (R287). -/
def loseUnits (q : Nat) (b : RBlock) (s : State) : State :=
  (getQ q s).pkts.foldl (fun s i =>
    let p := getPkt i s
    if p.spans.any fun e => decide (e.1 < b.start + b.n) && decide (b.start < e.1 + e.2) then setPkt i { p with lost := true } s
    else s) s

/-- The oldest blocks of a run that are lost are passed over; then an empty run closes. -/
def passLost (q : Nat) : Nat → State → State
  | 0, s => s
  | n + 1, s =>
    match (getQ q s).blocks with
    | b :: r => if b.lost then passLost q n (modQ q (fun x => { x with blocks := r, readPos := b.start + b.n }) s) else s
    | [] => s

/-- The run's oldest block may be read back now: the prefetch and staging have room for it (R285, R290). -/
def mayRead (q : Nat) (b : RBlock) (s : State) : Bool :=
  !b.reading && decide (b.w ≠ 0) && decide (prefetchCells q s + b.w ≤ 256 * prPrefetch (profOf q s)) &&
  decide (b.w ≤ stageFree s)

/-- Units of the run's oldest block that are still in write assembly may be read from staging now (R285). -/
def mayTake (q : Nat) (b : RBlock) (s : State) : Bool :=
  (getQ q s).began && decide (b.w = 0) && !b.reading && !b.lost && decide (prefetchCells q s + b.n ≤ 256 * prPrefetch (profOf q s))

/-- Once readback has begun, units of the oldest block that are still in write assembly are read from staging directly
(R285). -/
def takeAssembly (q : Nat) (s : State) : State :=
  let x := getQ q s
  match x.blocks with
  | b :: r =>
    if mayTake q b s then
      closeRun q (setQ q { x with blocks := r, readPos := b.start + b.n } s)
    else s
  | [] => s

/-- Whether two ranges of addresses, each with a length, meet. -/
def overlap (a n b m : Nat) : Bool := decide (n ≠ 0) && decide (m ≠ 0) && decide (a < b + m) && decide (b < a + n)

end Sys2Proof.Machine
end

