-- ==== Sys2Proof/Machine/Lanes.lean ====
section
/-! DEFINITION. The lane array's commands and events (03_lanes.md). -/
namespace Sys2Proof.Machine

/-! ### Macro set-up (R77, R87, R103) -/

/-- Highest line rate of a lane group, as a rate code; 0 where no macro has a rate. Code 1 is the fastest. -/
def groupRate (g : Nat) (s : State) : Nat :=
  let rs := (List.range 8).map fun i => rateOf (8 * g + i) s
  if rs.contains 1 then 1 else if rs.contains 2 then 2 else if rs.contains 3 then 3 else if rs.contains 4 then 4 else 0

/-- Ports that a macro's layout starts. -/
def macroPorts (m : Nat) (s : State) : List Nat :=
  ((List.range 8).map (8 * m + ·)).filter fun p => decide (portWidth p s ≠ 0)

/-- Every lane of a macro in operation returns to CAL with a change of configuration (R77, R28). -/
def retrainMacro (m : Nat) (s : State) : State :=
  (List.range 8).foldl (fun s i =>
    let n := 8 * m + i
    if (getLane n s).st = .off then s else leaveData n 3 (laneToCal n) s) s

/-- Every port of a macro goes down with cause 7 (R77, R28). -/
def downMacro (m : Nat) (s : State) : State := (macroPorts m s).foldl (fun s p => portDown p 7 s) s

/-- CLK_LGnn of a group changes state. -/
def groupClk (g : Nat) (c : LgClk) (s : State) : State :=
  let z := stamp s
  setGroup g { clk := c, clkAt := some s.aon, changeTs := z.1, changePh := z.2 } s

/-- The power domain of a lane group is not off (Table 1.5). -/
def groupPowered (g : Nat) (s : State) : Bool := decide ((tget s.pwr.doms (11 + g)).st ≠ .off)

/-- A lane group's power returns: CLK_LGnn locks where a macro has a rate (R104). -/
def groupPowerUp (g : Nat) (s : State) : State := if groupRate g s = 0 then s else groupClk g .locking s

/-- The highest rate of a group changed from `old` to `new` (R28): CLK_LGnn re-locks, and every port of the group goes down
until its lanes have trained again. -/
def groupRelock (g old new : Nat) (s : State) : State :=
  if new = old ∨ !groupPowered g s then s
  else if new = 0 then groupClk g .off s
  else if old = 0 then groupClk g .locking s
  else
    (List.range 8).foldl (fun s i => retrainMacro (8 * g + i) (downMacro (8 * g + i) s)) (groupClk g .relock s)

/-- A macro's lanes go OFF and its PLL stops (Table 3.4). -/
def lanesOff (m : Nat) (s : State) : State :=
  let s := (List.range 8).foldl (fun s i => laneToOff (8 * m + i) s) s
  setMacro m { getMacro m s with pllLock := false } s

/-- Take a macro OFF (Table 3.4): its lanes go OFF, its ports go DOWN with cause 1 (R118, R567). -/
def macroOff (m : Nat) (s : State) : State := (macroPorts m s).foldl (fun s p => portDown p 1 s) (lanesOff m s)

/-- Whether a write of LAN_MACRO_CFG is ignored (R103). -/
def macroCfgBad (m v : Nat) (s : State) : Bool :=
  let rate := fld v 0 3
  decide (rate ≥ 5) || (bitAt v 3 && (rate == 3 || rate == 4)) ||
  (decide (1 ≤ rate ∧ rate ≤ 4) && !layoutOk rate (starts m s)) ||
  (bitAt v 4 && !groupPowered (m / 8) s)

/-- A change of RATE (R77): every port of the macro goes down, its lanes retrain, and its PLL locks again. -/
def macroRerate (m : Nat) (s : State) : State :=
  let s := (List.range 8).foldl (fun s i => modLane (8 * m + i) (fun l => { l with calDone := false }) s)
    (retrainMacro m (downMacro m s))
  setMacro m { getMacro m s with pllLock := false } s

/-- Whether a write of LAN_MACRO_CFG turns a macro off: ENABLE is cleared, or RATE becomes 0, "off" (Tables 3.4, 3.12). -/
def turnsOff (old v : Nat) : Bool :=
  (bitAt old 4 && !bitAt v 4) || (decide (fld old 0 3 ≠ 0) && decide (fld v 0 3 = 0))

/-- A write of LAN_MACRO_CFG (R77, R87, R103). -/
def writeMacroCfg (m v : Nat) (s : State) : State :=
  if macroCfgBad m v s then setMacro m { getMacro m s with cfgErr := true } s
  else
    let old := rd Reg.lanMacroCfg m s
    let oldTop := groupRate (m / 8) s
    let s := setMacro m { getMacro m s with cfgErr := false } (wrRw Reg.lanMacroCfg m v s)
    let top := groupRate (m / 8) s
    let s :=
      if turnsOff old v then macroOff m (if fld old 0 3 ≠ fld v 0 3 then downMacro m s else s)
      else if fld old 0 3 ≠ fld v 0 3 then macroRerate m s
      else s
    groupRelock (m / 8) oldTop top s

/-- Setting LAN_MACRO_CFG.ENABLE powers, locks and calibrates a macro (R87). -/
def execMacroEnable (m : Nat) (value : Word) (s : State) : Res :=
  within (decide (m < 128)) (whenOpen s (if bitAt value.toNat 4 then writeMacroCfg m value.toNat s else s))

/-- Clearing LAN_MACRO_CFG.ENABLE takes every lane of the macro OFF (R87). -/
def execMacroDisable (m : Nat) (value : Word) (s : State) : Res :=
  within (decide (m < 128)) (whenOpen s (if bitAt value.toNat 4 then s else writeMacroCfg m value.toNat s))

/-- A change of LAN_MACRO_CFG.RATE (R77, R28). -/
def execMacroRateChange (m : Nat) (value : Word) (s : State) : Res :=
  within (decide (m < 128)) (whenOpen s (if fld value.toNat 0 3 ≠ rateOf m s then writeMacroCfg m value.toNat s else s))

/-- A write of LAN_LANE_CFG (Table 3.14, R103): TRAIN_MODE 3 is ignored with CFG_ERR, TX_DISABLE acts at once. -/
def writeLaneCfg (n v : Nat) (s : State) : State :=
  let bad := decide (fld v 4 2 = 3)
  let v := if bad then setFld v 4 2 (rdFld Reg.lanLaneCfg n 4 2 s) else v
  let was := bitAt (rd Reg.lanLaneCfg n s) 7
  let s := modLane n (fun l => { l with cfgErr := bad }) (wrRw Reg.lanLaneCfg n v s)
  if bitAt v 7 = was then s
  else if bitAt v 7 then setSquelch n true s
  else settleTx n s

/-- A write of LAN_LANE_CFG.TX_DISABLE squelches or releases a transmitter at once (R103). -/
def execTxDisable (lane : Nat) (value : Word) (s : State) : Res :=
  within (decide (lane < 1024)) (whenOpen s (writeLaneCfg lane value.toNat s))

/-- The taps of LAN_LANE_TXFFE: PRE3, PRE2, PRE1, MAIN, POST1, POST2 (Table 3.16). -/
def tapsOf (v : Nat) : List Int := (List.range 6).map fun i => toS 8 (fld v (8 * i) 8)

/-- R82: MAIN in 16 to 64, every other tap in −32 to 32, the absolute values sum to at most 64. -/
def tapsOk (v : Nat) : Bool :=
  let ts := tapsOf v
  let main := ts.getD 3 0
  decide (16 ≤ main ∧ main ≤ 64) && (List.range 6).all (fun i => i == 3 || decide ((ts.getD i 0).natAbs ≤ 32)) &&
  decide ((ts.map Int.natAbs).foldl (· + ·) 0 ≤ 64)

/-- A write of LAN_LANE_TXFFE; one that breaks R82 is ignored with CFG_ERR (R83). -/
def writeTxffe (n v : Nat) (s : State) : State :=
  if tapsOk v then modLane n (fun l => { l with cfgErr := false }) (wrRw Reg.lanLaneTxffe n v s)
  else modLane n (fun l => { l with cfgErr := true }) s

/-- A write of LAN_LANE_RX: PRE_CURSORS outside 1 to 8 is ignored with CFG_ERR (Table 3.17). -/
def writeLaneRx (n v : Nat) (s : State) : State :=
  let pc := fld v 12 4
  let bad := decide (pc < 1 ∨ pc > 8)
  let v := if bad then setFld v 12 4 (rdFld Reg.lanLaneRx n 12 4 s) else v
  modLane n (fun l => { l with cfgErr := bad }) (wrRw Reg.lanLaneRx n v s)

/-! ### Start-up and training (Table 3.4) -/

/-- The macro's transmit PLL locks, at its rate and its lane group's temperature (R87, Table 3.11), and its lanes enter
CAL. -/
def execPllLock (m : Nat) (s : State) : Res :=
  within (decide (m < 128))
    (if macroOn m s ∧ rateOf m s ≠ 0 ∧ groupPowered (m / 8) s ∧ !(getMacro m s).pllLock ∧ (!macroFenced m s ∨ macroTesting m s) then
      let s := setMacro m { getMacro m s with pllLock := true, calTemp := groupTemp (m / 8) s, calRate := rateOf m s } s
      (List.range 8).foldl (fun s i => if (getLane (8 * m + i) s).st = .off then laneToCal (8 * m + i) s else s) s
    else s)

/-- Calibration ends (R87): out of range records FC017; with signal the lane starts. The ADC's calibration records its
temperature (Table 3.11). -/
def execCalibrationDone (lane : Nat) (inRange signal : Bool) (s : State) : Res :=
  let l := getLane lane s
  within (decide (lane < 1024))
    (if l.st = .cal ∧ !l.calDone ∧ (getMacro (macroOf lane) s).pllLock then
      if inRange then laneStart lane (setLane lane { l with
        calDone := true, signal := signal, adcTemp := groupTemp (groupOfLane lane) s } s)
      else report 17 1 (macroOf lane) (le 8 lane) s
    else s)

/-- A lane in CAL with calibration done first detects signal (R87). -/
def execSignalDetect (lane : Nat) (s : State) : Res :=
  let l := getLane lane s
  within (decide (lane < 1024))
    (if l.st = .cal ∧ l.calDone then laneStart lane (setLane lane { l with signal := true } s) else s)

/-- The abilities that the device advertises (R78): 200GBASE-CR1 and 200GBASE-KR1. -/
def advertised : List AnAbility := [.cr1, .kr1]

/-- Clause 73 auto-negotiation completes with the partner's abilities (R78, R87): training starts, or no common ability is
posted, the lane waits in AN, and the other lanes of its port follow that failure (R88, R89). -/
def execNegotiationComplete (lane : Nat) (partner : List AnAbility) (s : State) : Res :=
  let l := getLane lane s
  within (decide (lane < 1024))
    (if l.st = .an ∧ !l.retryWait then
      if partner.any advertised.contains then setLane lane { l with st := .train } s
      else failOthers lane (countFail lane 0 s)
    else s)

/-- 500 ms pass without negotiation complete (R87). -/
def execAnTimeout (lane : Nat) (s : State) : Res :=
  within (decide (lane < 1024))
    (if (getLane lane s).st = .an ∧ !(getLane lane s).retryWait then trainFail lane 1 s else s)

/-- The wait of 100 ms or 1 s ends and the lane retries (R88). -/
def execTrainRetry (lane : Nat) (s : State) : Res :=
  let l := getLane lane s
  within (decide (lane < 1024))
    (if l.retryWait then laneStart lane (setLane lane { l with retryWait := false } s) else s)

/-- A link partner's training request moves one tap by 1/64, or is answered at limit (R83). -/
def execTapRequest (lane tap : Nat) (up : Bool) (s : State) : Res :=
  let l := getLane lane s
  within (decide (lane < 1024) && decide (tap < 6))
    (if l.st = .train then
      let cur := toS 8 (fld l.taps (8 * tap) 8)
      let taps := setFld l.taps (8 * tap) 8 (ofS 8 (if up then cur + 1 else cur - 1))
      if tapsOk taps then emit (.tapAnswer lane tap 1) (setLane lane { l with taps := taps } s)
      else emit (.tapAnswer lane tap 2) s
    else s)

/-- Both receivers report ready (R87): DATA with enough SNR and the precoding that training agreed, never in NRZ (R81); else
the failure is counted. -/
def execReceiversReady (lane : Nat) (m : RxMeasure) (s : State) : Res :=
  let l := getLane lane s
  within (decide (lane < 1024))
    (if l.st = .train then
      if m.snr ≥ snrMin l then
        let pam := decide (rateOf (macroOf lane) s ≠ 4)
        laneToData lane m true (setLane lane { l with preTx := m.precodeTx && pam, preRx := m.precodeRx && pam } s)
      else trainFail lane 2 s
    else s)

/-- Training runs 450 ms (R87, Table 3.9: reason 3 where the partner stood at limit). -/
def execTrainTimeout (lane : Nat) (atLimit : Bool) (s : State) : Res :=
  within (decide (lane < 1024))
    (if (getLane lane s).st = .train then trainFail lane (if atLimit then 3 else 1) s else s)

/-- Receiver-only adaptation converges with enough SNR (R87). -/
def execAdaptationConverged (lane : Nat) (m : RxMeasure) (s : State) : Res :=
  let l := getLane lane s
  within (decide (lane < 1024))
    (if l.st = .adapt ∧ m.snr ≥ snrMin l then laneToData lane m true s
    else if l.st = .adapt then setLane lane { l with snr := m.snr % 2 ^ 16 } s else s)

/-- 100 ms pass in ADAPT without enough SNR (R87). -/
def execAdaptTimeout (lane : Nat) (s : State) : Res :=
  let l := getLane lane s
  within (decide (lane < 1024))
    (if l.st = .adapt then trainFail lane (if l.snr = 0 then 1 else 2) s else s)

/-- A lane in DATA loses signal or CDR lock (R86). -/
def execLaneLoss (lane : Nat) (cdr : Bool) (s : State) : Res :=
  let l := getLane lane s
  within (decide (lane < 1024))
    (if l.st = .data then
      leaveData lane (b2n cdr) (fun s => modLane lane (fun l => { l with
        signal := cdr && l.signal, cdrLock := false, losCount := (l.losCount + 1) % 2 ^ 32 }) (laneToCal lane s)) s
    else s)

/-- CLK_LGnn re-locks, or fails to and records FC019 (R28). -/
def execLaneGroupClockLock (group : Nat) (ok : Bool) (s : State) : Res :=
  let g := getGroup group s
  within (decide (group < 16))
    (if g.clk = .relock ∨ g.clk = .locking then
      if ok then groupClk group .running s else report 19 3 group (le 8 group) s
    else s)

/-! ### Sleep, wake and background adaptation -/

/-- 100 µs of wake pattern (R139): the port wakes, its lanes restore their warm state or go cold (R94). -/
def execWakeDeclared (port : Nat) (s : State) : Res := within (decide (port < 1024)) (wakePort port 0 s)

/-- A waking lane reaches SNR_MIN (R94). -/
def execWakeSnrOk (lane : Nat) (m : RxMeasure) (s : State) : Res :=
  let l := getLane lane s
  within (decide (lane < 1024))
    (if l.st = .wake ∧ m.snr ≥ snrMin l then laneToData lane m false s else s)

/-- 1.6 ms pass in WAKE without enough SNR, or the partner trains (R94): the lane goes cold. The reason of a plain
timeout is not stated (free value). -/
def execWakeTimeout (lane : Nat) (partnerTrained : Bool) (s : State) : Res :=
  within (decide (lane < 1024))
    (if (getLane lane s).st = .wake then
      let (r, s) := if partnerTrained then (2, s) else ((takeFree s).1 % 256, (takeFree s).2)
      let s := laneToCal lane (modLane lane (fun l => { l with coldWake := true, warm := none }) s)
      portLaneLost lane (post 0x9003 (le2 lane ++ [byte r]) s)
    else s)

/-- The 10 ms of background adaptation in DATA (R91): the FFE, the DFE and the CDR stand where they have adapted to, the
ADC is recalibrated, and with BG_CTLE the CTLE may move one code. -/
def execBackgroundCtleStep (lane : Nat) (up : Option Bool) (rx : RxLoops) (s : State) : Res :=
  let l := getLane lane s
  within (decide (lane < 1024))
    (if l.st = .data then
      let c := if !bitAt l.cfgUse 6 then l.ctle else match up with
        | none => l.ctle
        | some true => min 31 (l.ctle + 1)
        | some false => l.ctle - 1
      setLane lane { (l.loops rx).ctleTo c with adcTemp := groupTemp (groupOfLane lane) s } s
    else s)

/-! ### Commands (Table 3.7) -/

def LANE_BUSY : Nat := 0x80
def LANE_RESTARTED : Nat := 0x81

/-- The lanes a lane command names, all in one lane group and 1 to 64 of them (Table 3.7). -/
def laneRange (c : Cmd) : Option (List Nat) :=
  let first := c.op 0 2
  let k := c.op 2 2
  if 1 ≤ k ∧ k ≤ 64 ∧ first + k ≤ 1024 ∧ first / 64 = (first + k - 1) / 64 then some ((List.range k).map (first + ·)) else none

/-- LANE_RETRAIN returns lanes to CAL (R98). -/
def laneRetrainCmd (c : Cmd) (s : State) : State × CmdEnd :=
  match laneRange c with
  | none => fail BAD_PARAM s
  | some ls =>
    if c.len ≠ 0 then fail BAD_PARAM s
    else if ls.any (fun n => macroFenced (macroOf n) s) then fail ST_FENCED s
    else if ls.any (fun n => decide ((getLane n s).st = .test)) then fail LANE_BUSY s
    else okay (ls.foldl (fun s n =>
      let st := (getLane n s).st
      if st = .an ∨ st = .train ∨ st = .adapt ∨ st = .data then leaveData n 2 (laneToCal n) s else s) s)

/-- The command LaneRetrain. -/
def execLaneRetrain (ref : CmdRef) (s : State) : Res := .next (runCmd 0x90 ref laneRetrainCmd s)

/-- Whether LANE_TEST is accepted for a lane (R96): no port that is up, or its macro under online test; a lane that is
OFF cannot enter TEST (Table 3.4). -/
def testAllowed (n : Nat) (s : State) : Bool :=
  let up := match portOf n s with
    | none => false
    | some p => decide ((getPort p s).st = .up)
  (!up || macroTesting (macroOf n) s) && decide ((getLane n s).st ≠ .off)

/-- LANE_TEST starts or ends a test (R95, R96): the lane's transmitter and receiver take the paths of the mode, and
CHECK[2] clears the checker's counters whatever the mode. -/
def laneTestCmd (c : Cmd) (s : State) : State × CmdEnd :=
  match laneRange c with
  | none => fail BAD_PARAM s
  | some ls =>
    let mode := c.op 4 1
    let pat := c.op 5 1
    let chk := c.op 6 1
    let nrz := ls.any fun n => decide (rateOf (macroOf n) s = 4)
    if c.len ≠ 0 ∨ mode > 4 ∨ pat > 7 ∨ chk > 7 ∨ ((pat = 5 ∨ pat = 6) ∧ nrz) then fail BAD_PARAM s
    else if ls.any (fun n => macroFenced (macroOf n) s && !macroTesting (macroOf n) s) then fail ST_FENCED s
    else if ls.any (fun n => !testAllowed n s) then fail LANE_BUSY s
    else okay (ls.foldl (fun s n =>
      let was := (getLane n s).st
      let clear (l : Lane) : Lane := if bitAt chk 2 then { l with testBits := 0, testErrors := 0 } else l
      if mode = 0 then modLane n clear (if was = .test then laneToCal n s else s)
      else
        let s := settleTx n (modLane n (fun l => { clear (if was = .data then breakEye l else l) with
          st := .test, testMode := mode, pattern := pat, check := chk, retryWait := false }) (observeTest n s))
        let s := emit (.lanePath n (lanePaths (getLane n s)).1 (lanePaths (getLane n s)).2) s
        if was = .data then portLaneLost n s else s) s)

/-- The command LaneTest. -/
def execLaneTest (ref : CmdRef) (s : State) : Res := .next (runCmd 0x91 ref laneTestCmd s)

/-- LANE_EYE starts an eye scan (R97). -/
def laneEyeCmd (c : Cmd) (s : State) : State × CmdEnd :=
  let n := c.op 0 2
  let eye := c.op 4 1
  let dwell := c.op 5 1
  let st := (getLane n s).st
  if n ≥ 1024 ∨ eye > 3 ∨ (rateOf (macroOf n) s = 4 ∧ eye ≠ 1) ∨ dwell < 10 ∨ dwell > 40 ∨
     c.len ≠ (if eye = 3 then 49152 else 16384) then fail BAD_PARAM s
  else if macroFenced (macroOf n) s then fail ST_FENCED s
  else if st ≠ .data ∧ st ≠ .test then fail BAD_PARAM s
  else if (getLane n s).eye.isSome then fail LANE_BUSY s
  else (modLane n (fun l => { l with
    eye := some c.ref, eyeBroken := false, eyeSel := eye, eyeDwell := dwell, ctleMoved := false }) s, .later)

/-- The command LaneEye. -/
def execLaneEye (ref : CmdRef) (s : State) : Res := .next (runCmd 0x92 ref laneEyeCmd s)

/-- Byte of the count for point (p, v) in the 16,384-byte block of one eye (R97). -/
def eyePlace (p v : Int) : Nat := ((p + 32) * 64 + (v + 32)).toNat * 4

/-- The blocks of a scan: the counts of the 4,096 points of each eye at the places of R97, each at most the 2^DWELL bits
compared, in a u32 that stops at its maximum. -/
def eyeBlocks (dwell eyes : Nat) (counts : List Nat) : List Byte :=
  (List.range (4096 * eyes)).flatMap fun i => le 4 (sat 32 (min (2 ^ dwell) (counts.getD i 0)))

/-- An eye scan ends and its counts are written, or it stops with LANE_RESTARTED (R97). The operand's counts are in the
order of the scan: eye by eye upwards in EYE, phase offset by phase offset, vertical offset by vertical offset, each from
−32 up. -/
def execLaneEyeDone (lane : Nat) (counts : List Nat) (s : State) : Res :=
  let l := getLane lane s
  within (decide (lane < 1024))
    (match l.eye with
    | none => s
    | some ref =>
      let s := setLane lane { l with eye := none, eyeBroken := false } s
      match findCmd ref s with
      | none => s
      | some c =>
        if l.eyeBroken then finish c { status := LANE_RESTARTED } 0 0 s
        else if domsDown (cmdDoms c s) s then finish c { status := DOMAIN_OFF } 0 0 s
        else conclude c { data := eyeBlocks l.eyeDwell (if l.eyeSel = 3 then 3 else 1) counts } (cmdDoms c s) s)

/-- The 64-byte record of LANE_READ (Table 3.8). -/
def laneRecord (n : Nat) (s : State) : List Byte :=
  let l := getLane n s
  fit 64 (le2 n ++ [byte l.st.num,
    byte (b2n l.signal + 2 * b2n l.cdrLock + 4 * b2n (warmValid n s) + 8 * b2n l.preTx + 16 * b2n l.preRx +
      32 * b2n l.ctleMoved + 64 * b2n l.coldWake)] ++
    le2 l.snr ++ [byte l.ctle, byte (ofS 8 l.dfe)] ++ le 6 l.taps ++ le 2 (ofS 16 l.freq) ++ le 8 l.testBits ++
    le 8 l.testErrors ++ [byte (ofS 8 l.calTemp), byte l.calMode, byte (ofS 8 l.warmTemp), byte l.calPh] ++ le 4 l.calTs ++
    le 4 l.trainCount ++ le 4 l.trainFails ++ le 4 l.losCount)

/-- LANE_READ writes 64-byte lane records (R98). -/
def laneReadCmd (c : Cmd) (s : State) : State × CmdEnd :=
  let first := c.op 0 2
  let k := c.op 2 2
  if k < 1 ∨ k > 1024 ∨ first + k > 1024 ∨ c.len ≠ 64 * k then fail BAD_PARAM s
  else
    let ls := (List.range k).map (first + ·)
    if ls.any (fun n => macroFenced (macroOf n) s && !macroTesting (macroOf n) s) then fail ST_FENCED s
    else
      let s := ls.foldl (fun s n => observeTest n s) s
      okayData (ls.flatMap fun n => laneRecord n s) s

/-- The command LaneRead. -/
def execLaneRead (ref : CmdRef) (s : State) : Res := .next (runCmd 0x93 ref laneReadCmd s)

/-! ### Status registers and the Linen entry -/

/-- LAN_MACRO_STAT (Table 3.13). -/
def macroStat (m : Nat) (s : State) : Nat :=
  let x := getMacro m s
  b2n x.pllLock + 2 * b2n (x.pllLock && (List.range 8).all fun i => (getLane (8 * m + i) s).calDone) +
    4 * b2n x.cfgErr + 256 * ofS 8 x.calTemp

/-- LAN_LANE_STAT (Table 3.15). -/
def laneStat (n : Nat) (s : State) : Nat :=
  let l := getLane n s
  l.st.num + 16 * b2n l.signal + 32 * b2n l.cdrLock + 64 * b2n (warmValid n s) + 128 * b2n l.cfgErr +
    256 * b2n l.preTx + 512 * b2n l.preRx + 65536 * l.snr

/-- The Linen lane-group entry (Table 3.18); `pre` is the common prefix. -/
def linenGroup (g : Nat) (pre : List Byte) (s : State) : List Byte :=
  let ls := (List.range 64).map (64 * g + ·)
  let map (f : LaneSt → Bool) : Nat := ofBits (ls.map fun n => f (getLane n s).st)
  let sum (f : Lane → Nat) : Nat := ls.foldl (fun a n => a + f (getLane n s)) 0
  fit 64 (pre ++ [byte (groupRate g s), byte (ofBits ((List.range 8).map fun i => (getMacro (8 * g + i) s).pllLock))] ++ zeros 2 ++
    le 8 (map fun st => decide (st = .data)) ++
    le 8 (map fun st => decide (st = .cal ∨ st = .an ∨ st = .train ∨ st = .adapt ∨ st = .wake)) ++
    le 8 (map fun st => decide (st = .test)) ++ [byte (ofS 8 (groupTemp g s))] ++ zeros 3 ++
    le 4 (sum Lane.trainFails) ++ le 4 (sum Lane.losCount))

end Sys2Proof.Machine
end

