-- ==== Sys2Proof/Machine/Ports.lean ====
section
/-! DEFINITION. The ports' commands and events that touch no queue (04_ports.md). -/
namespace Sys2Proof.Machine

/-! ### Layout (R107, R108, R569) -/

/-- Clear every fixed counter of a port (R569). -/
def clearPortCtrs (p : Nat) (s : State) : State :=
  { s with tel := { s.tel with ctrs := s.tel.ctrs.filter fun e => !(decide (p * 54 ≤ e.1) && decide (e.1 < p * 54 + 54)) } }

/-- Return a port block's registers to their reset values (R569). -/
def resetPortRegs (p : Nat) (s : State) : State :=
  let a := 0x0C00000 + 0x800 * p
  let keep := fun (k : Nat) => !(decide (a ≤ k) && decide (k < a + 0x800))
  { s with regs := s.regs.filter (fun e => keep e.1), hold := s.hold.filter (fun e => keep e.1) }

/-- Lanes of a port that sleeps no more start as Table 3.4 has it, without their warm state. -/
def unsleep (ls : List Nat) (s : State) : State :=
  ls.foldl (fun s k => if (getLane k s).st = .sleep then laneToCal k (modLane k (fun l => { l with warm := none }) s) else s) s

/-- One lane number of a macro under a change of layout from `old` to `new` (R569). The lanes of a port that slept train
again, so that the ports they now belong to link up on them. -/
def relayLane (old new n : Nat) (s : State) : State :=
  let w0 := widthIn old n
  let w1 := widthIn new n
  let s := if w0 = w1 then s else unsleep ((List.range w0).map (n + ·)) s
  if w0 = w1 then s
  else if w1 ≠ 0 ∧ w0 ≠ 0 then
    if (getPort n s).st = .down then modPort n (fun x => { x with downCause := 7 }) s else portDown n 7 s
  else if w0 ≠ 0 then
    let s := portDown n 7 s
    let x := getPort n s
    clearPortCtrs n (resetPortRegs n (setPort n { occ := x.occ, flush := x.flush } s))
  else clearPortCtrs n (resetPortRegs n (modPort n (fun x => { occ := x.occ, flush := x.flush }) s))

/-- A write of MAC_MACRO_MODE.STARTS (R107, R569): checked, then only the ports whose lanes change go down. -/
def writeMacroMode (m v : Nat) (s : State) : State :=
  let new := fld v 0 8
  let old := starts m s
  if !layoutOk (rateOf m s) new then { s with mac := { s.mac with modeErr := tset s.mac.modeErr m true } }
  else
    let s := { s with mac := { s.mac with modeErr := tset s.mac.modeErr m false } }
    let s := (List.range 8).foldl (fun s i => relayLane old new (8 * m + i) s) s
    let s := wrRw Reg.macMacroMode m v s
    let s := (macroPorts m s).foldl (fun s p => tryLinking p s) s
    (List.range 8).foldl (fun s i => settleTx (8 * m + i) s) s

/-- A write of MAC_MACRO_MODE.STARTS changes the macro's port layout (R569). -/
def execLayoutChange (m : Nat) (value : Word) (s : State) : Res :=
  within (decide (m < 128)) (whenOpen s (writeMacroMode m value.toNat s))

/-! ### Port registers (4.10) -/

/-- A port register's write, with its fields out of range kept and flagged (R126, R146, Tables 4.10 to 4.19). -/
def setPortErr (p : Nat) (bad : Bool) (s : State) : State := modPort p (fun x => { x with cfgErr := bad }) s

def writePortCfg (p v : Nat) (s : State) : State :=
  let old := rd Reg.macPortCfg p s
  let badFc := decide (fld v 0 2 = 3)
  let mf := fld v 16 14
  let badMf := decide (mf < 1518 ∨ mf > 10240)
  let v := if badFc then setFld v 0 2 (fld old 0 2) else v
  let v := if badMf then setFld v 16 14 (fld old 16 14) else v
  setPortErr p (badFc || badMf) (wrRw Reg.macPortCfg p v s)

def writePfcRefresh (p v : Nat) (s : State) : State :=
  if fld v 0 16 = 0 then setPortErr p true s else setPortErr p false (wrRw Reg.macPfcRefresh p v s)

def writePfcWd (p v : Nat) (s : State) : State :=
  let bad := decide (fld v 16 2 = 3)
  let v := if bad then setFld v 16 2 (rdFld Reg.macPfcWd p 16 2 s) else v
  setPortErr p bad (wrRw Reg.macPfcWd p v s)

/-- MAC_GATE_CFG: gates that are enabled, or moved to another time base, are placed in their list by the present time
(R131). -/
def writeGateCfg (p v : Nat) (s : State) : State :=
  let old := rd Reg.macGateCfg p s
  let s := setPortErr p false (wrRw Reg.macGateCfg p v s)
  if bitAt v 0 then gateTb p (if bitAt old 0 ∧ fld old 1 2 = fld v 1 2 then s else gatePlace p s)
  else modPort p (fun x => { x with gates := 0xFF, gateIx := none, gateFail := x.gateParity && x.gateFail }) s

/-- XOFF and XON: a pair with XON ≥ XOFF sets CFG_ERR and generates no PFC (R126). -/
def writeWatermark (r : RegDesc) (p c v : Nat) (s : State) : State :=
  let s := wrRw r (p * 8 + c) v s
  evalFc p (setPortErr p (decide (xonLevel p c s ≥ xoffLevel p c s)) s)

/-! ### Frames of the MAC control sublayer (4.5) -/

/-- Kind of a destination address: 4 unicast, 5 multicast, 6 broadcast, as counter indices (Table 4.8). -/
def destCtr (dst : List Byte) : Nat :=
  if dst.all (· == 0xFF) then 6 else if bitAt (byteAt dst 0) 0 then 5 else 4

/-- Size counter of a good frame (Table 4.8). -/
def sizeCtr (len : Nat) : Nat :=
  if len ≤ 64 then 7 else if len ≤ 127 then 8 else if len ≤ 255 then 9 else if len ≤ 511 then 10 else if len ≤ 1023 then 11
  else if len ≤ 1518 then 12 else if len ≤ 9216 then 13 else 14

/-- Count a good received frame of `len` bytes with FCS (Table 4.8, counters 0, 1 and 4 to 14). -/
def countGood (p len : Nat) (dst : List Byte) (s : State) : State :=
  countPort p (sizeCtr len) 1 (countPort p (destCtr dst) 1 (countPort p 1 len (countPort p 0 1 s)))

/-- The multicast address of MAC control frames (802.3 Annex 31B, 802.1Qbb). -/
def ctrlDst : List Byte := [0x01, 0x80, 0xC2, 0x00, 0x00, 0x01]

/-- Whether the watchdog makes the port ignore pauses of class c (R130, actions 1 and 2). -/
def wdIgnores (p c : Nat) (s : State) : Bool :=
  bitAt (getPort p s).wd c && decide (rdFld Reg.macPfcWd p 16 2 s ≠ 0)

/-- A good PFC frame's class entries (R127, R568). -/
def pfcReceive (p enable : Nat) (times : List Nat) (s : State) : State :=
  let x := getPort p s
  (List.range 8).foldl (fun s c =>
    if !bitAt enable c then s
    else
      let s := countPort p (28 + c) 1 s
      if x.fcMode ≠ 2 ∨ !bitAt (rdFld Reg.macPfcCfg p 8 8 s) c then countPort p 27 1 s
      else if wdIgnores p c s then s
      else
        let s := if times.getD c 0 % 2 ^ 16 = 0 then s else unwake p (· == c) s
        modPort p (fun x => { x with pause := tset x.pause c (times.getD c 0 % 2 ^ 16) }) s) s

/-- A good PAUSE frame (R127, R568). -/
def pauseReceive (p time : Nat) (s : State) : State :=
  let s := countPort p 25 1 s
  if (getPort p s).fcMode ≠ 1 then s
  else (List.range 8).foldl (fun s c =>
    if wdIgnores p c s then s
    else
      let s := if time % 2 ^ 16 = 0 then s else unwake p (· == c) s
      modPort p (fun x => { x with pause := tset x.pause c (time % 2 ^ 16) }) s) s

/-- A 25.78125 Gb/s NRZ port. -/
def isNrz (p : Nat) (s : State) : Bool := decide (rateOf (macroOf p) s = 4)

/-- A codeword of RS(544,514) with more than 15 symbol errors is uncorrectable (R111). -/
def uncorrectable (errors : Nat) : Bool := decide (errors > 15)

/-- Whether one of the codewords that a frame overlaps, given by their symbol errors, is uncorrectable; NRZ ports run without
FEC (R111, R112). -/
def fecErrored (p : Nat) (codewords : List Nat) (s : State) : Bool := !isNrz p s && codewords.any uncorrectable

/-- The outcome of the MAC's checks of a frame with FCS (R109, R111): the counter of a bad frame, or none. -/
def macCheck (p : Nat) (frame : List Byte) (codewords : List Nat) (s : State) : Option Nat :=
  let n := frame.length
  if n < 64 then some 16
  else if n > (getPort p s).maxFrame then some 17
  else if fecErrored p codewords s then some 18
  else if leAt frame (n - 4) 4 ≠ crcFcs (frame.take (n - 4)) then some 15
  else none

/-- Whether a port takes frames: its MAC stream runs, its own or that of its client (R150). -/
def frameTaken (p : Nat) (s : State) : Bool := decide (p < 1024) && decide (portWidth p s ≠ 0) && macRuns p s

/-- A received PFC frame loads or ends the pause timers of its enabled classes (R127, R568). -/
def execPfcFrameReceive (port : Nat) (enable : Byte) (times : List Nat) (fcsOk : Bool) (s : State) : Res :=
  within (decide (port < 1024))
    (if !frameTaken port s then s
    else if !fcsOk then countPort port 15 1 s
    else pfcReceive port enable.toNat times (countGood port 64 ctrlDst s))

/-- A received PAUSE frame pauses every class in PAUSE mode (R127, R568). -/
def execPauseFrameReceive (port time : Nat) (fcsOk : Bool) (s : State) : Res :=
  within (decide (port < 1024))
    (if !frameTaken port s then s
    else if !fcsOk then countPort port 15 1 s
    else pauseReceive port time (countGood port 64 ctrlDst s))

/-- A class's pause timer runs out, and its queues may send again (R127). -/
def execPauseTimerExpiry (port cls : Nat) (s : State) : Res :=
  within (decide (port < 1024) && decide (cls < 8)) (modPort port (fun x => { x with pause := tset x.pause cls 0 }) s)

/-- Fill a frame to 60 bytes and append its FCS. -/
def withFcs (bs : List Byte) : List Byte :=
  let b := if bs.length < 60 then bs ++ zeros (60 - bs.length) else bs
  b ++ le 4 (crcFcs b)

/-- The frame a port sends for flow control: PFC with the classes that change, or PAUSE (R123, R124, R125). -/
def fcFrame (p : Nat) (s : State) : List Byte :=
  let x := getPort p s
  let quanta := rdFld Reg.macPfcCfg p 16 16 s
  let head := ctrlDst ++ be 6 (rd Reg.macPortSa p s) ++ be 2 0x8808
  if x.fcMode = 1 then withFcs (head ++ be 2 0x0001 ++ be 2 (if bitAt x.sendOn 0 then quanta else 0))
  else withFcs (head ++ be 2 0x0101 ++ be 2 (x.sendOn ||| x.sendOff) ++
    (List.range 8).flatMap fun c => be 2 (if bitAt x.sendOn c then quanta else 0))

/-- A port may send MAC frames: its MAC stream runs, its own or that of a client that is up, and it receives neither Local
Fault nor Remote Fault (R120, R150). -/
def mayTransmit (p : Nat) (s : State) : Bool :=
  let x := getPort p s
  macRuns p s && !x.localRx && !x.remoteRx

/-- A PFC or PAUSE frame waits for the next frame boundary (R125). -/
def fcWaits (x : Port) : Bool := (decide (x.sendOn ≠ 0) || decide (x.sendOff ≠ 0)) && decide (x.fcMode ≠ 0)

/-- A pending PFC or PAUSE frame is sent at a frame boundary, ahead of every waiting frame (R125). -/
def execPfcFrameSend (port : Nat) (s : State) : Res :=
  let x := getPort port s
  within (decide (port < 1024))
    (if mayTransmit port s ∧ x.sending = none ∧ fcWaits x then
      let s := emit (.macControl port (fcFrame port s)) s
      let s := if x.fcMode = 1 then countPort port 26 1 s
        else (List.range 8).foldl (fun s c => if bitAt (x.sendOn ||| x.sendOff) c then countPort port (36 + c) 1 s else s) s
      let s := countPort port 3 64 (countPort port 2 1 s)
      modPort port (fun x => { x with sendOn := 0, sendOff := 0 }) s
    else s)

/-- REFRESH quanta pass while XOFF lasts, and the XOFF frame is sent again (R123). -/
def execPfcRefresh (port cls : Nat) (s : State) : Res :=
  within (decide (port < 1024) && decide (cls < 8))
    (if (getPort port s).st = .up ∧ bitAt (getPort port s).xoff cls then
      modPort port (fun x => { x with sendOn := setFld x.sendOn cls 1 1 }) s else s)

/-- A watchdog class is restored: the event is posted again (R130). -/
def wdRestore (p c : Nat) (s : State) : State :=
  if bitAt (getPort p s).wd c then
    post 0x9013 (le2 p ++ [byte c, 0]) (modPort p (fun x => { x with wd := setFld x.wd c 1 0 }) s)
  else s

/-- RESTORE ms pass without a pause, and the class is restored (R130). -/
def execWatchdogRestore (port cls : Nat) (s : State) : Res :=
  within (decide (port < 1024) && decide (cls < 8)) (wdRestore port cls s)

/-! ### Link state (4.3, 4.4) -/

/-- PCS lanes of an NRZ port (R116). -/
def pcsLanes (p : Nat) (s : State) : Nat := if portWidth p s = 4 then 20 else 1

/-- One sync header at a PCS lane (R115): hunting, an invalid header slips one bit of the 66 and restarts the count, and 64
valid ones in a row lock; locked, 16 invalid headers of any 64 in a row lose lock. -/
def PcsLane.feed (l : PcsLane) (h : BitVec 2) : PcsLane :=
  let ok := decide (h = 1) || decide (h = 2)
  if l.locked then
    let w := (ok :: l.window).take 64
    if (w.filter (!·)).length ≥ 16 then { slips := l.slips } else { l with window := w }
  else if !ok then { slips := (l.slips + 1) % 66 }
  else if l.run + 1 ≥ 64 then { locked := true, slips := l.slips } else { l with run := l.run + 1 }

/-- Alignment found during LINKING or WAKING (R113, R427): skew beyond 64 ns records FC034 and the port stays, a failed
calibration records FC198. -/
def portAligned (p skewNs : Nat) (calOk : Bool) (s : State) : State :=
  let x := getPort p s
  if x.st ≠ .linking ∧ x.st ≠ .waking then s
  else if isNrz p s ∧ !(List.range (pcsLanes p s)).all (fun k => (tget x.pcs k).locked) then s
  else if skewNs > 64 then report 34 2 p (le 8 p) (setPort p { x with downCause := 9 } s)
  else
    let s := if calOk then s else report 198 2 p (le 8 p) s
    tryWaked p (settleFault p (modPort p (fun x => { x with aligned := true }) s))

/-- Lock is lost (R115, R118): the loss is counted, alignment ends, an UP port goes down. -/
def lockLost (p : Nat) (counts : Bool) (s : State) : State :=
  let s := if counts then countPort p 23 1 s else s
  let s := settleFault p (modPort p (fun x => { x with aligned := false }) s)
  if (getPort p s).st = .up then tryLinking p (portDown p 2 s) else s

/-- Ports whose PCS runs: LINKING, WAKING and UP. -/
def pcsRuns (p : Nat) (s : State) : Bool :=
  let st := (getPort p s).st
  decide (st = .linking) || decide (st = .waking) || decide (st = .up)

/-- A sync header at PCS lane `k` of a port (R115, R116, R118): a lock of the one lane of a 25G port aligns it, every loss of
lock is counted and ends the alignment. -/
def feedHeader (p k : Nat) (h : BitVec 2) (s : State) : State :=
  if !pcsRuns p s then s
  else
    let x := getPort p s
    let l := tget x.pcs k
    let s := setPort p { x with pcs := tset x.pcs k (l.feed h) } s
    if l.locked ∧ !(l.feed h).locked then lockLost p true s
    else if !l.locked ∧ (l.feed h).locked ∧ pcsLanes p s = 1 then portAligned p 0 true s
    else s

def feedHeaders (p k : Nat) (hs : List (BitVec 2)) (s : State) : State := hs.foldl (fun s h => feedHeader p k h s) s

/-- A PCS lane that hunts sees sync headers, and locks after 64 valid ones; or the port completes AM lock and deskew (R115,
R116). -/
def execBlockLock (port : Nat) (ev : LockEv) (s : State) : Res :=
  within (decide (port < 1024))
    (match ev with
    | .headers k hs =>
      if isNrz port s ∧ k < pcsLanes port s ∧ !(tget (getPort port s).pcs k).locked then feedHeaders port k hs s else s
    | .aligned skew calOk => portAligned port skew calOk s)

/-- A locked PCS lane sees sync headers, and loses block lock after 16 invalid ones of 64; or AM lock or deskew is lost (R115,
R118). -/
def execLockLoss (port : Nat) (ev : LossEv) (s : State) : Res :=
  within (decide (port < 1024))
    (if !pcsRuns port s then s else
    match ev with
    | .headers k hs =>
      if isNrz port s ∧ k < pcsLanes port s ∧ (tget (getPort port s).pcs k).locked then feedHeaders port k hs s else s
    | .amLock => lockLost port true s
    | .deskew => lockLost port false s)

/-- A 500 µs window of an NRZ port: 97 or more invalid headers raise HI_BER, a window with fewer clears it (R116). -/
def execHiBer (port invalid : Nat) (s : State) : Res :=
  let x := getPort port s
  within (decide (port < 1024))
    (if !isNrz port s ∨ portWidth port s = 0 then s
    else if invalid ≥ 97 then
      let s := setPort port { x with hiBer := true } s
      if x.st = .up then tryLinking port (portDown port 3 s) else s
    else setPort port { x with hiBer := false } s)

/-- A port that stays aligned without fault for UP_DEBOUNCE enters UP (R117). -/
def execUpDebounce (port : Nat) (s : State) : Res :=
  let x := getPort port s
  within (decide (port < 1024))
    (if x.st = .linking ∧ x.aligned ∧ !x.localRx ∧ !x.remoteRx ∧ !x.hiBer then portUp port s else s)

/-- A received fault sequence sets LOCAL_FAULT or REMOTE_FAULT; a remote fault takes an UP port down, a local fault is answered
with Remote Fault (R118, R120). -/
def execRemoteFault (port : Nat) (seq : FaultSeq) (s : State) : Res :=
  within (decide (port < 1024))
    (match seq with
    | .localFault => settleFault port (modPort port (fun x => { x with localRx := true }) s)
    | .remoteFault =>
      let s := modPort port (fun x => { x with remoteRx := true }) s
      if (getPort port s).st = .up then tryLinking port (portDown port 4 s) else s
    | .clear => settleFault port (modPort port (fun x => { x with localRx := false, remoteRx := false }) s))

/-- A 1 ms FEC window ends (R114), with the symbol errors of each codeword that had any: their sum is the window's count, and
the codewords and the corrected symbols count in the counters 20 to 22 of Table 4.8. -/
def execFecWindow (port : Nat) (codewords : List Nat) (s : State) : Res :=
  let x := getPort port s
  let count := codewords.foldl (· + ·) 0
  let good := codewords.filter fun e => decide (0 < e) && !uncorrectable e
  let cfg := rd Reg.macFecDegrade port s
  let up (set : Bool) (s : State) : State :=
    post 0x9012 (le2 port ++ [byte (b2n set), 0] ++ le 4 count) (modPort port (fun x => { x with fecDegrade := set }) s)
  within (decide (port < 1024))
    (if isNrz port s ∨ portWidth port s = 0 then s else
      let s := countPort port 20 good.length (countPort port 21 (codewords.filter uncorrectable).length
        (setPort port { x with fecSymbols := sat 32 count } s))
      let s := countPort port 22 (good.foldl (· + ·) 0) s
      if fld cfg 0 16 ≠ 0 ∧ count ≥ 16 * fld cfg 0 16 then
        if x.fecDegrade then s else
          let s := up true s
          if bitAt (rd Reg.macPortCfg port s) 3 ∧ x.st = .up then tryLinking port (portDown port 5 s) else s
      else if x.fecDegrade ∧ count < 16 * fld cfg 16 16 then up false s else s)

/-! ### Gates (4.6) -/

/-- The time of a gate-list entry arrives (R132): the gates open and close as that entry gives. -/
def execGateTransition (port : Nat) (s : State) : Res :=
  let x := getPort port s
  let cfg := rd Reg.macGateCfg port s
  within (decide (port < 1024))
    (if portWidth port s = 0 ∨ !bitAt cfg 0 then s
    else if !tbRuns (fld cfg 1 2) s then gateFails port false s
    else if x.gateFail ∨ x.active.entries = [] then s
    else
      gateTake port (match x.gateIx with
        | none => 0
        | some i => nextEntry x.active i) s)

/-- At T, the standby gate list replaces the active one and entry 0 begins (R133). With ENABLE = 0 the gates stay open
(Table 4.16). A new list has no parity error (R137). -/
def execGateListSwitch (port : Nat) (s : State) : Res :=
  let x := getPort port s
  let on := bitAt (rd Reg.macGateCfg port s) 0
  within (decide (port < 1024))
    (match x.switchAt with
    | none => s
    | some t =>
      let x' := { x with active := x.standby, standby := {}, switchAt := none, page := !x.page, gateIx := if on then some 0 else none,
                         gates := if on then (x.standby.entries.getD 0 (0, 0)).1 else x.gates,
                         gateFail := x.gateFail && !x.gateParity, gateParity := false }
      post 0x9014 (le2 port ++ [byte (b2n x'.page)] ++ zeros 5 ++ le 8 (t / 1000000000) ++ le 4 (t % 1000000000))
        (unwake port (fun l => !bitAt x'.gates l) (setPort port x' (clearUpset memGate port s))))

/-! ### Sleep (4.7) -/

/-- Once the frame in progress has ended, the port enters SLEEP (R138). -/
def execSleepEntry (port : Nat) (s : State) : Res :=
  let x := getPort port s
  within (decide (port < 1024)) (if x.st = .up ∧ x.sleeping ∧ x.sending = none then enterSleep port s else s)

/-- The 300 µs wake pattern ends, and the port sends data symbols on all its lanes with the restored taps (R140). -/
def execWakePatternEnd (port : Nat) (s : State) : Res :=
  within (decide (port < 1024))
    (if (getPort port s).waving then
      (portLanes port s).foldl (fun s n => setSquelch n false s) (modPort port (fun x => { x with waving := false }) s)
    else s)

/-! ### Commands (Table 4.5) -/

def PORT_STATE : Nat := 0x80
def NO_PORT : Nat := 0x81

/-- A DISABLED port is enabled: FC_MODE and MAX_FRAME take effect, its transmitters are released, lanes that were left in
SLEEP start as Table 3.4 has it (R146, Table 4.2). -/
def portEnable (p : Nat) (s : State) : State :=
  let cfg := rd Reg.macPortCfg p s
  let s := portEnter p .down (modPort p (fun x => { x with fcMode := fld cfg 0 2, maxFrame := fld cfg 16 14, downCause := 0 }) s)
  let s := (portLanes p s).foldl (fun s n => settleTx n s) (unsleep (portLanes p s) s)
  tryLinking p s

/-- PORT_ADMIN enables, disables, sleeps or wakes a port (R144). -/
def portAdminCmd (c : Cmd) (s : State) : State × CmdEnd :=
  let p := c.op 0 2
  let act := c.op 2 1
  let st := (getPort p s).st
  if p ≥ 1024 ∨ act > 3 ∨ c.len ≠ 0 then fail BAD_PARAM s
  else if portWidth p s = 0 then fail NO_PORT s
  else if act = 0 then okay (portDisable p 0 s)
  else if act = 1 then
    if st ≠ .disabled then okay s
    else if portFenced p s then fail ST_FENCED s
    else if !macroOn (macroOf p) s then fail PORT_STATE s
    else okay (portEnable p s)
  else if act = 2 then
    if st ≠ .up ∨ (getPort p s).sleeping then fail PORT_STATE s
    else okay (modPort p (fun x => { x with sleeping := true }) (emit (.linkSignal p false) s))
  else if st = .up ∧ (getPort p s).sleeping then okay (wakePort p 1 s)
  else if st ≠ .sleep then fail PORT_STATE s
  else okay (wakePort p 1 s)

/-- The command PortAdmin. -/
def execPortAdmin (ref : CmdRef) (s : State) : Res := .next (runCmd 0x94 ref portAdminCmd s)

/-- T of R133: BASE + N × CYCLE for the smallest N with T ≥ t_load + 1 µs. -/
def gateSwitchTime (base cycle load : Nat) : Nat :=
  if base ≥ load + 1000 then base else base + (load + 1000 - base + cycle - 1) / cycle * cycle

/-- The entries that PORT_GATE_LIST's data give (R132). -/
def gateEntries (n : Nat) (bs : List Byte) : List (Nat × Nat) :=
  (List.range n).map fun i => (leAt bs (8 * i) 1, leAt bs (8 * i + 4) 4)

/-- PORT_GATE_LIST loads a standby gate list (R132 to R134). -/
def portGateListCmd (c : Cmd) (host : HostAns) (s : State) : State × CmdEnd :=
  let p := c.op 0 2
  let k := c.op 2 2
  let cycle := c.op 4 4
  let bns := c.op 8 4
  let bsec := c.op 16 6
  if p ≥ 1024 ∨ k < 1 ∨ k > 256 ∨ c.len ≠ 8 * k ∨ cycle < 1000 ∨ cycle > 1000000000 ∨ bns > 999999999 then fail BAD_PARAM s
  else if portWidth p s = 0 then fail NO_PORT s
  else withHost c host s fun bs =>
    let es := gateEntries k bs
    if es.any (fun e => decide (e.2 < 64 ∨ e.2 > cycle)) then fail BAD_PARAM s
    else
      let t := gateSwitchTime (bsec * 1000000000 + bns) cycle (timeOf (rdFld Reg.macGateCfg p 1 2 s) s)
      let again := (getPort p s).switchAt.isSome
      okayWith (le 8 (t / 1000000000) ++ le 4 (t % 1000000000) ++ [byte (b2n again)])
        (modPort p (fun x => { x with
          standby := { entries := es, cycle := cycle, baseSec := bsec, baseNs := bns }, switchAt := some t }) s)

/-- The command PortGateList. -/
def execPortGateList (ref : CmdRef) (host : HostAns) (s : State) : Res := .next (runCmd 0x95 ref (fun c => portGateListCmd c host) s)

/-- Bit map of the classes paused by the partner. -/
def rxPaused (x : Port) : Nat := ofBits ((List.range 8).map fun c => decide (tget x.pause c ≠ 0))

/-- FLAGS of Table 4.6, without the fence bit. -/
def portFlags (p : Nat) (s : State) : Nat :=
  let x := getPort p s
  b2n (x.localRx || decide (x.txFault = .localFault)) + 2 * b2n x.remoteRx + 4 * b2n x.hiBer + 8 * b2n x.fecDegrade + 16 * b2n x.gateFail

/-- GATE of Table 4.6. -/
def portGate (p : Nat) (s : State) : Nat :=
  let x := getPort p s
  b2n (bitAt (rd Reg.macGateCfg p s) 0) + 2 * b2n x.page + 4 * b2n x.switchAt.isSome

/-- SPEED and w of Table 4.6; a lane that starts no port gives 0. -/
def portSpeed (p : Nat) (s : State) : Nat := if portWidth p s = 0 then 0 else speedCode (portGbps p s)

/-- The 64-byte record of PORT_READ (Table 4.6). -/
def portRecord (p : Nat) (s : State) : List Byte :=
  let x := getPort p s
  if portWidth p s = 0 then fit 64 (le2 p) else
  fit 64 (le2 p ++ [byte x.st.num, byte (portFlags p s + 32 * b2n (portFenced p s)), byte (portSpeed p s), byte (portWidth p s),
    byte (rxPaused x), byte x.xoff, byte x.wd, byte x.downCause, byte (portGate p s), 0] ++
    ((List.range 8).flatMap fun c => le 4 (tget x.occ c)) ++ le 4 x.fecSymbols ++ le 4 x.changeTs ++ [byte x.changePh])

/-- PORT_READ writes 64-byte port records (R144). -/
def portReadCmd (c : Cmd) (s : State) : State × CmdEnd :=
  let p := c.op 0 2
  let k := c.op 2 2
  if k < 1 ∨ k > 1024 ∨ p + k > 1024 ∨ c.len ≠ 64 * k then fail BAD_PARAM s
  else okayData ((List.range k).flatMap fun i => portRecord (p + i) s) s

/-- The command PortRead. -/
def execPortRead (ref : CmdRef) (s : State) : Res := .next (runCmd 0x96 ref portReadCmd s)

/-- PORT_WD_RESTORE restores classes held by the pause watchdog (R130). -/
def portWdRestoreCmd (c : Cmd) (s : State) : State × CmdEnd :=
  let p := c.op 0 2
  if p ≥ 1024 ∨ c.len ≠ 0 then fail BAD_PARAM s
  else if portWidth p s = 0 then fail NO_PORT s
  else okay ((List.range 8).foldl (fun s k => if bitAt (c.op 2 1) k then wdRestore p k s else s) s)

/-- The command PortWdRestore. -/
def execPortWdRestore (ref : CmdRef) (s : State) : Res := .next (runCmd 0x97 ref portWdRestoreCmd s)

/-- MAC_PORT_STAT (Table 4.11). -/
def portStat (p : Nat) (s : State) : Nat :=
  let x := getPort p s
  if portWidth p s = 0 then 0 else
  x.st.num + 8 * (portFlags p s % 32) + 256 * rxPaused x + 65536 * x.xoff + 2 ^ 24 * b2n x.cfgErr

/-- The Linen port entry (Table 4.20); `pre` is the common prefix. -/
def linenPort (p : Nat) (pre : List Byte) (s : State) : List Byte :=
  let x := getPort p s
  if portWidth p s = 0 then fit 16 pre else
  fit 16 (pre ++ [byte (portSpeed p s), byte (portWidth p s), byte (rxPaused x), byte x.xoff, byte x.downCause, byte (portGate p s)])

end Sys2Proof.Machine
end

