-- ==== Sys2Proof/Machine/Buffer.lean ====
section
/-! DEFINITION. Admission and its outcomes, replication, the ends of frames, spill and readback, and the buffer commands
(6.4, 8.3, 8.4, 9.2 to 9.9, R110, R130). -/
namespace Sys2Proof.Machine

/-! ### Outcomes of admission (Table 9.3) -/

/-- A port takes packets: UP, SLEEP or WAKING (Table 9.3 step 2, R251). -/
def portTakes (p : Nat) (s : State) : Bool :=
  let st := (getPort p s).st
  decide (p < 1024) && decide (portWidth p s ≠ 0) && (decide (st = .up) || decide (st = .sleep) || decide (st = .waking))

/-- A packet is refused: counted in its queue, discarded with a reason in the pipe that decided. -/
def refuse (i q ctr reason : Nat) (s : State) : State := discard i reason (getPkt i s).pipe (countQueue q ctr 1 s)

/-- Store a packet's cells on die and join a queue with them. -/
def storeOnDie (i q : Nat) (c : Cells) (n : Nat) (s : State) : State :=
  let p := getPkt i s
  let (id, s) := storeCells { c with port := p.tag.inPort, cls := p.tag.tc, occ := occOf p n } p.pipe n s
  joinQueue i q (setPkt i { p with cid := some id, cells := n, units := 0 } s)

/-- Whether a packet may be cut through (R279). -/
def cutThrough (p : Pkt) (q : Nat) (s : State) : Bool :=
  let port := q / 20
  let x := getQ q s
  let lvl := levelOf port (q % 20) s
  bitAt (rd Reg.bufCtrl 0 s) 1 && prCt (profOf q s) && !bitAt p.tag.tel 5 && !p.trimmed && !p.tag.flag 10 && p.job.isNone &&
  x.pkts.isEmpty && !x.spilling && decide (macGbps port s ≤ macGbps p.tag.inPort s) &&
  decide (tget (getPort port s).pause lvl = 0) && gateOpen port lvl s

/-- A packet's units are appended to the queue's run, with the run that results (R281, R285). -/
def appendPkt (i q units : Nat) (x : Queue) (head : Option (Nat × Nat × Nat)) (s : State) : State :=
  let p := getPkt i s
  let uStart := (getQ q s).appended
  let (id, s) := storeCells { pool := 5, head := head, port := p.tag.inPort, cls := p.tag.tc, occ := occOf p units } p.pipe 0 s
  let s := setRun q x s
  let s := runStep q (joinQueue i q (setPkt i { p with cid := some id, units := units, uStart := uStart } s))
  countQueue q 11 units (countQueue q 10 1 s)

/-- R283, and the refusals of R288: the run after the append. A run whose profile has lost SPILL drains (R296). -/
def tryAppend (q units : Nat) (s : State) : Option Queue × State :=
  let x := getQ q s
  let pr := profOf q s
  if !prSpill pr ∨ x.runUnits + units > 256 * prSpillMax pr then (none, s)
  else match appendUnits q units s with
    | none => (none, exhausted 0 s)
    | some y => if units ≤ stageFree s then (some y, s) else (none, exhausted 1 s)

/-- R282: the run that opening would give. -/
def tryOpen (q n units : Nat) (s : State) : Option Queue × State :=
  let pr := profOf q s
  if !bitAt (rd Reg.bufCtrl 0 s) 0 ∨ !prSpill pr ∨ prSpillMax pr = 0 ∨ neverSpills q s then (none, s)
  else match appendUnits q units s with
    | none => (none, exhausted 0 s)
    | some y => if max n units ≤ stageFree s then (some { y with spilling := true, runPeak := 0 }, s) else (none, exhausted 1 s)

/-- A lossless packet is discarded (R278). -/
def dropLossless (i q : Nat) (s : State) : State :=
  let p := getPkt i s
  let key := p.tag.inPort * 8 + p.tag.tc
  let times := ((tget s.buf.llTimes key).filter fun t => decide (s.aon < t + aonMs)) ++ [s.aon]
  let s := { s with buf := { s.buf with llTimes := tset s.buf.llTimes key times, lossless := sat 32 (s.buf.lossless + 1) } }
  let s := report 99 (if p.tag.inPort < 1024 then 2 else 14) p.tag.inPort (le 2 p.tag.inPort ++ [byte p.tag.tc]) s
  let due := match tget s.buf.llPost key with
    | none => true
    | some t => decide (s.aon ≥ t + aonMs)
  let s := if due then
      post 0x3002 (le 2 p.tag.inPort ++ [byte p.tag.tc, 0] ++ le 4 times.length)
        { s with buf := { s.buf with llPost := tset s.buf.llPost key (some s.aon) } }
    else s
  refuse i q 6 9 s

/-- What a trimmed packet keeps (R259): L bytes, a frame no longer than L whole. -/
def trimKeep (p : Pkt) (port : Nat) (s : State) : Nat :=
  let l := if p.tag.flag 12 then max (trimLen port s) (p.tag.slot 15) else trimLen port s
  min l (chargeLen p s - 4)

/-- Trim-eligible under R259. -/
def mayTrim (p : Pkt) (q : Nat) (s : State) : Bool :=
  bitAt (egressRec (q / 20) s) (40 + levelOf (q / 20) (q % 20) s) && decide (p.tag.slot 2 ≠ 255)

/-- The packet as it is trimmed: cut, in the trim queue, its class kept. -/
def trimmedPkt (p : Pkt) (port : Nat) (s : State) : Pkt :=
  let k := trimKeep p port s
  { p with frame := p.frame.take k, len := k + 4, trimmed := true, first := if p.first = [] then p.frame.take 128 else p.first,
           tag := { p.tag with qidx := trimQidx port s } }

/-- The watchdog discards packets of a held queue (R130, action 2). -/
def wdDiscards (q : Nat) (s : State) : Bool :=
  let port := q / 20
  bitAt (getPort port s).wd (levelOf port (q % 20) s) && decide (rdFld Reg.macPfcWd port 16 2 s = 2)

/-- Step 8: trimmed into the port's trim queue, or a trim drop (R259). -/
def trimTo (i q : Nat) (s : State) : State :=
  let port := q / 20
  let p := trimmedPkt (getPkt i s) port s
  let n := cellsOf p.len
  let q2 := port * 20 + trimQidx port s
  let pool := prPool (profOf q2 s)
  let f := fits q2 n pool s
  if wdDiscards q2 s then discard i 17 p.pipe (countPort port 52 1 s)
  else if f.ok then
    let s := countPipe p.pipe 11 1 (countQueue q 9 1 s)
    storeOnDie i q2 { pool := pool, res := f.r, sh := f.sh } n (setPkt i p s)
  else discard i 10 p.pipe s

/-- Headroom allows `n` cells (R277). -/
def headroomOk (p : Pkt) (n : Nat) (s : State) : Bool :=
  decide (p.tag.inPort < 1024) &&
  decide (headAcct p.tag.inPort p.tag.tc s + n ≤ tget s.buf.limit (p.tag.inPort * 8 + p.tag.tc)) &&
  decide (headUsed s + n ≤ rd Reg.bufHeadroom 0 s)

/-- Steps 7 to 9 of Table 9.3. `spillTried`: a spill was refused. -/
def admitRest (i q n units : Nat) (spillTried : Bool) (s : State) : State :=
  let p := getPkt i s
  let lossless := decide (prPool (profOf q s) = 1)
  if lossless ∧ headroomOk p n s then
    if (getQ q s).spilling then
      match appendUnits q units s with
      | none => dropLossless i q (exhausted 0 s)
      | some x =>
        if units ≤ stageFree s then countQueue q 12 1 (appendPkt i q units x (some (p.tag.inPort, p.tag.tc, units)) s)
        else dropLossless i q (exhausted 1 s)
    else countQueue q 12 1 (storeOnDie i q { pool := 4, head := some (p.tag.inPort, p.tag.tc, n) } n s)
  else if mayTrim p q s then trimTo i q s
  else if lossless then dropLossless i q s
  else if spillTried then refuse i q 5 8 s
  else refuse i q 4 7 s

/-- Steps 4 to 9 of Table 9.3 for a unicast packet whose port takes it. -/
def admitUnicast (i q : Nat) (s : State) : State :=
  let p := getPkt i s
  let n := cellsOf p.len
  let units := unitsOf p.len
  if (getQ q s).spilling then
    match tryAppend q units s with
    | (some x, s) => appendPkt i q units x none s
    | (none, s) => admitRest i q n units true s
  else
    let pool := if p.job.isSome then 2 else prPool (profOf q s)
    let f := fits q n pool s
    if f.ok then storeOnDie i q { pool := pool, res := f.r, sh := f.sh } n (setPkt i { p with ct := cutThrough p q s } s)
    else
      let may := prSpill (profOf q s) && decide (prSpillMax (profOf q s) ≠ 0) && !neverSpills q s && bitAt (rd Reg.bufCtrl 0 s) 0
      match tryOpen q n units s with
      | (some x, s) => appendPkt i q units x none (postSpill q 1 0 s)
      | (none, s) => admitRest i q n units may s

/-- A direct injected packet, a collective result or a mirror copy: QIDX comes from the inject header, the job or the session
(R275), and its next hop is resolved at stage 10 (R227). -/
def Pkt.givenQidx (p : Pkt) : Bool := p.direct || p.job.isSome || bitAt p.tag.tel 5

/-- A copy, a result or a direct packet meets its next hop at stage 10 (R227, R236). -/
def meetEgress (p : Pkt) (s : State) : State :=
  if p.tag.dk = 3 ∧ p.givenQidx then meetHop (p.tag.dest % 2 ^ 18) s else s

/-- The egress port of a packet for one port: the named port, or that of the named next hop (R226); a copy, a result or a
direct packet resolves its next hop now (R227). -/
def egressPort (p : Pkt) (s : State) : HopRes :=
  if p.tag.dk = 1 then .use (p.tag.dest % 1024)
  else if p.tag.dk = 3 then
    let n := p.tag.dest % 2 ^ 18
    if p.givenQidx then
      match resolveHop n s with
      | .use m => .use (hopPort (hopRec m s))
      | r => r
    else .use (hopPort (hopRec n s))
  else .drop

/-- QIDX (R275). -/
def pickQidx (p : Pkt) (port : Nat) (s : State) : Nat :=
  if p.givenQidx then p.tag.qidx
  else 2 * p.tag.tc + (if bitAt (egressRec port s) (128 + p.tag.tc) ∧ bitAt p.tag.hash 31 then 1 else 0)

/-- DEST_KIND 6: into a pool for the punt ring of its class, if that is enabled and the shared part has room (R192,
R565, Table 9.3 step 1); `refusal` is what becomes of it otherwise. QIDX is 0, but for a packet whose QIDX another source gives
first (R275). -/
def puntTo (i pool : Nat) (refusal : State → State) (s : State) : State :=
  let p := getPkt i s
  let e := rd Reg.puntRing p.tag.tc s
  let ring := fld e 0 8
  let n := cellsOf p.len
  if !bitAt e 8 ∨ !(ringOn ring s && decide (ringKind ring s = 3)) ∨ sharedFree pool s < n then refusal s
  else
    let (id, s) := storeCells { pool := pool, sh := n, port := p.tag.inPort, cls := p.tag.tc, occ := occOf p n } p.pipe n s
    let s := setPkt i { p with stage := .punted, cid := some id, cells := n, tag := { p.tag with qidx := if p.givenQidx then p.tag.qidx else 0 } } s
    let r := getRing ring s
    setRing ring { r with punts := r.punts ++ [i] } s

/-- A group record as admission reads it (Table 8.4, FC071): 0, which has no entries, while it is lost. -/
def readGroup (g : Nat) (s : State) : Nat × State :=
  (if upsetOf memGroup g s = 2 then 0 else tget s.pip.groups g, meetSecded memGroup 71 g s)

/-- DEST_KIND 4: stored once in MC_POOL (R293). -/
def storeMulticast (i : Nat) (s : State) : State :=
  let p := getPkt i s
  let n := cellsOf p.len
  let pool := rdFld Reg.bufCtrl 0 2 2 s
  let (g, s) := readGroup (p.tag.dest % 2 ^ 16) s
  if fld g 32 16 = 0 ∨ sharedFree pool s < n + rd Reg.bufMcFloor 0 s then discard i 12 p.pipe s
  else
    let (id, s) := storeCells { pool := pool, sh := n, port := p.tag.inPort, cls := p.tag.tc, occ := occOf p n } p.pipe n s
    setPkt i { p with stage := .walking, cid := some id, cells := n, grp := g, admNs := refNs s } s

/-- DEST_KIND 1 or 3: steps 2 and 4 to 9 of Table 9.3. -/
def admitToPort (i port : Nat) (s : State) : State :=
  let s := flushPort port s
  let p := getPkt i s
  let qidx := pickQidx p port s
  let q := port * 20 + qidx
  let s := setPkt i { p with tag := { p.tag with qidx := qidx, pipeOut := pipeOfPort port s }, port := port } s
  if qidx ≥ 20 then discard i 7 p.pipe s
  else if !portTakes port s ∨ (s.sys.mode = .drain ∧ p.job.isNone) then refuse i q 7 6 s
  else if wdDiscards q s then discard i 17 p.pipe (countPort port 52 1 s)
  else admitUnicast i q s

/-- Table 9.3 for a packet whose errors do not discard it. -/
def admitMain (i : Nat) (s : State) : State :=
  let p := getPkt i s
  let k := p.tag.dk
  let refused := discard i 13 p.pipe
  if k = 6 then puntTo i 3 refused s
  else if k = 4 then (if s.sys.mode = .drain then discard i 6 p.pipe s else storeMulticast i s)
  else if k = 1 ∨ k = 3 then
    let t := meetEgress p s
    match egressPort p s with
    | .use port => admitToPort i port t
    | .host => puntTo i 3 refused (setPkt i { p with tag := puntTag p.tag 3 7 } t)
    | .drop => discard i 3 p.pipe t
  else discard i (if k = 5 then 4 else if p.reason = 0 then 3 else p.reason) p.pipe s

/-! ### Mirror copies (R247, R248, R292) -/

/-- The valid session that a packet names, unless its record is lost (FC072). -/
def readMirror (m : Nat) (s : State) : Option Nat × State :=
  let r := tget s.pip.mirrors m
  (if m = 0 ∨ upsetOf memMirror m s = 2 ∨ !bitAt r 16 then none else some r, meetSecded memMirror 72 m s)

/-- A copy is refused: counted against its session. -/
def refuseCopy (i m : Nat) (s : State) : State :=
  discard i 19 (getPkt i s).pipe { s with pip := { s.pip with mirRefused := tmod s.pip.mirRefused m fun k => sat 32 (k + 1) } }

/-- The copy joins its queue: it shares the original's cells if those are on die and whole, else takes cells of the lossy
pool (R247, R292). -/
def copyToPort (i m port : Nat) (share : Option Nat) (s : State) : State :=
  let s := flushPort port s
  let p := getPkt i s
  let q := port * 20 + p.tag.qidx
  let n := cellsOf p.len
  let f := fits q n 0 s
  let s := setPkt i { p with port := port, tag := { p.tag with pipeOut := pipeOfPort port s } } s
  if p.tag.qidx ≥ 20 ∨ !portTakes port s ∨ s.sys.mode = .drain then refuseCopy i m s
  else if wdDiscards q s then refuseCopy i m (countPort port 52 1 s)
  else if !f.ok then refuseCopy i m s
  else match share with
    | some id =>
      let c := getCells id s
      joinQueue i q (modPkt i (fun p => { p with cid := some id, cells := n }) (setCells id { c with refs := c.refs + 1 } s))
    | none => storeOnDie i q { pool := 0, res := f.r, sh := f.sh } n s

/-- A packet's mirror copy, made from the packet `p` as stage 10 found it; `share` is the cell record of an original that
lies whole on die. -/
def mirrorCopy (p : Pkt) (root : Nat) (share : Option Nat) (s : State) : State :=
  let m := p.tag.mirror
  let (r, s) := readMirror m s
  match r with
  | none => s
  | some r =>
    let every := max 1 (fld r 112 16)
    let seen := tget s.pip.mirSeen m + 1
    if seen < every then { s with pip := { s.pip with mirSeen := tset s.pip.mirSeen m seen } }
    else
      let s := { s with pip := { s.pip with mirSeen := tset s.pip.mirSeen m 0 } }
      let trunc := fld r 96 16
      let k := fld r 0 8
      let t := { p.tag with dk := k, dest := fld r 32 32, qidx := fld r 8 8, edit := fld r 64 32, mirror := 0, tel := p.tag.tel ||| 32 }
      let t := if k = 6 then puntTag t 5 10 else t
      let len := if trunc = 0 then p.len else min p.len (trunc + 4)
      let (i, s) := newPkt { p with stage := .ready, tag := t, frame := if trunc = 0 then p.frame else p.frame.take trunc, len := len,
                                    first := p.frame.take 128, root := some root, direct := false, job := none, ct := false } s
      let out := if k = 6 then HopRes.host else egressPort (getPkt i s) s
      let s := meetEgress (getPkt i s) s
      match out with
      | .use port => copyToPort i m port share s
      | .host => puntTo i 0 (refuseCopy i m) (modPkt i (fun p => { p with tag := puntTag p.tag (if k = 6 then 5 else 3) (if k = 6 then 10 else 7) }) s)
      | .drop => refuseCopy i m s

/-- The cells that a copy may share: the original's, if it is stored whole on die. -/
def shareable (i : Nat) (s : State) : Option Nat :=
  let p := getPkt i s
  match p.cid with
  | none => none
  | some id => if p.live ∧ !p.trimmed ∧ (getCells id s).pool ≠ 5 then some id else none

/-- Stage 10 (R184, R247, R274): parse errors, the outcome of Table 9.3, and the mirror copy, whether or not the original is
accepted. FRAME_LEN is written, 0 while the frame has not ended. -/
def admitPkt (i : Nat) (s : State) : State :=
  let p := getPkt i s
  let len := chargeLen p s
  let p := { p with len := len, tag := { p.tag with frameLen := if p.ended then len else 0 } }
  let s := setPkt i p s
  let err := fld p.tag.err 0 5
  let masks := rd Reg.parseErr 0 s
  let s :=
    if bitAt p.tag.err 5 ∨ bitAt p.tag.err 6 then discard i 1 p.pipe s
    else if err &&& fld masks 8 5 ≠ 0 then puntTo i 3 (discard i 13 p.pipe) (setPkt i { p with tag := puntTag p.tag 1 10 } s)
    else if err &&& fld masks 0 5 ≠ 0 then discard i 1 p.pipe s
    else admitMain i s
  mirrorCopy p i (shareable i s) s

/-- Stage 10 decides where a packet goes (R274). -/
def execAdmission (pkt : Nat) (s : State) : Res :=
  .next (if atStage pkt .ready s then admitPkt pkt (checkTag pkt (getPkt pkt s).pipe s) else s)

/-! ### Frames that have not ended at stage 10 (R110, R274) -/

/-- A punted packet leaves its punt ring unwritten. -/
def unpunt (i : Nat) (s : State) : State :=
  { s with hif := { s.hif with rings := tmap s.hif.rings fun _ r => { r with punts := r.punts.filter fun j => decide (j ≠ i) } } }

/-- A frame whose egress has begun ends with its FCS inverted; before, it is discarded. -/
def cutShort (i reason : Nat) (s : State) : State :=
  let p := getPkt i s
  if p.stage = .egress ∨ p.stage = .leaving then setPkt i { p with stomp := true, ended := true } s
  else match p.queue with
    | some q => if p.stage = .queued then dropQueued i q reason s else discard i reason p.pipe s
    | none => discard i reason p.pipe (if p.stage = .punted then unpunt i s else s)

/-- The packet of a frame and its replicas and copies. -/
def holdersOf (pkt : Nat) (s : State) : List Nat :=
  (s.pip.pkts.filter fun e => (decide (e.1 = pkt) || decide (e.2.root = some pkt)) && e.2.live && !e.2.ended).map Prod.fst

/-- Bytes of a frame reach a packet that holds it: all of them, or as many as a trimmed packet or a copy keeps. -/
def takeBytes (bytes : List Byte) (i : Nat) (s : State) : State :=
  spillLate i (modPkt i (fun p => { p with frame := if p.trimmed ∨ bitAt p.tag.tel 5 then bytes.take (p.len - 4) else bytes }) s)

/-- Units beyond a spilled packet's length estimate join the run, as many as the region and the staging have room for; where one
finds none, the packet is cut (R274). -/
def growSpilled (i id arrived : Nat) (s : State) : State :=
  let p := getPkt i s
  let q := p.queue.getD 0
  let c := getCells id s
  let extra := unitsOf arrived - p.units
  let room := (List.range (extra + 1)).reverse.find? fun k => decide (k ≤ stageFree s) && (appendUnits q k s).isSome
  let k := room.getD 0
  let pos := (getQ q s).appended
  let s := match appendUnits q k s with
    | none => s
    | some x =>
      if k = 0 then s
      else
        let s := if c.occ = 0 then s else addOcc c.port c.cls k s
        let s := countQueue q 11 k (setRun q x s)
        runStep q (setCells id { c with occ := if c.occ = 0 then 0 else c.occ + k, head := c.head.map fun h => (h.1, h.2.1, h.2.2 + k) }
          (setPkt i { p with units := p.units + k, more := p.more ++ [(pos, k)] } s))
  if k < extra then cutShort i 8 s else s

/-- Cells beyond the length estimate of the packets that share cells are charged, as many as the part they lie in has free; where
one finds none, the packets are cut (R274). -/
def growOnDie (id arrived : Nat) (hs : List Nat) (s : State) : State :=
  let c := getCells id s
  let p := getPkt (hs.headD 0) s
  let extra := cellsOf arrived - p.cells
  let k := min extra (if c.pool = 4 then rd Reg.bufHeadroom 0 s - headUsed s else sharedFree c.pool s)
  let (banks, rot) := pickBanks s k (tget s.buf.rot p.pipe) (bankUse s)
  let c' := { c with sh := if c.pool = 4 then 0 else c.sh + k, banks := c.banks ++ banks,
                     head := c.head.map fun h => (h.1, h.2.1, h.2.2 + k), occ := if c.occ = 0 then 0 else c.occ + k }
  let s := { s with buf := { s.buf with rot := tset s.buf.rot p.pipe rot } }
  let s := setCells id c' (if c.occ = 0 then s else addOcc c.port c.cls k s)
  let s := hs.foldl (fun s h =>
    let p := getPkt h s
    let s := setPkt h { p with cells := p.cells + k } s
    match p.queue with
    | some q => if p.stage = .queued then modQ q (fun x => { x with ondie := x.ondie + k }) s else s
    | none => s) s
  if k < extra then hs.foldl (fun s h => cutShort h 7 s) s else s

/-- The bytes of a frame so far reach every packet that holds it, and cells beyond its length estimate are charged, or the packet is
cut at its last cell (R182, R274). -/
def frameGrows (pkt : Nat) (bytes : List Byte) (s : State) : State :=
  let hs := holdersOf pkt s
  let s := hs.foldl (fun s i => takeBytes bytes i s) s
  let grows := hs.filter fun i => !(getPkt i s).trimmed && !bitAt (getPkt i s).tag.tel 5
  ((grows.filterMap fun i => (getPkt i s).cid).eraseDups).foldl (fun s id =>
    let on := grows.filter fun i => (getPkt i s).live && decide ((getPkt i s).cid = some id)
    if on = [] then s
    else if (getCells id s).pool = 5 then growSpilled (on.headD 0) id bytes.length s
    else growOnDie id bytes.length on s) s

/-- More bytes of a frame arrive after its parse has begun (R182, R274). -/
def execRemainingCells (pkt : Nat) (more : List Byte) (s : State) : Res :=
  let a := tget s.pip.arriving pkt
  .next (if !a.live then s else frameGrows pkt (a.bytes ++ more) (setArriving pkt { a with bytes := a.bytes ++ more } s))

/-- The end of a frame reaches a packet that holds it, whole or cut. `bad` is the counter of a bad frame. -/
def frameRest (all : List Byte) (bad : Option Nat) (i : Nat) (s : State) : State :=
  let p := getPkt i s
  if !p.live ∨ p.ended then s
  else
    let keep := if p.trimmed ∨ bitAt p.tag.tel 5 then min (p.len - 4) (all.length - 4) else all.length - 4
    if bad = none then spillLate i (setPkt i { p with frame := all.take keep, ended := true } s)
    else if p.stage = .parsing ∨ p.stage = .parsed ∨ p.stage = .ready then
      setPkt i { p with frame := all.take keep, ended := true, tag := p.tag.setErr 6 } s
    else cutShort i 1 (setPkt i { p with frame := all.take keep } s)

/-- An ingress frame ends, or is found bad, after its parse has begun (R109, R110, R184): it is checked and counted as a frame
received whole is, whatever has become of its packet (Table 4.8). A bad frame whose egress has begun is stomped, one before
stage 10 takes RX_BAD, any other is discarded. An oversize frame is cut at MAX_FRAME bytes. -/
def execFrameEnd (pkt : Nat) (rest : List Byte) (codewords : List Nat) (s : State) : Res :=
  let a := tget s.pip.arriving pkt
  .next (if !a.live then s
    else
      let all := a.bytes ++ rest
      let bad := macCheck a.port all codewords s
      let s := setArriving pkt {} s
      let s := match bad with
        | none => countGood a.port all.length (all.take 6) s
        | some c => countPort a.port c 1 s
      let all := if bad = some 17 then all.take (getPort a.port s).maxFrame else all
      (holdersOf pkt s).foldl (fun s i => frameRest all bad i s) s)

/-! ### Replication (R251, R293) -/

/-- A replica of a stored packet for one entry: skipped at a port that takes none, admitted to its queue, trimmed or
discarded. -/
def replicate (i e : Nat) (s : State) : State :=
  let p := getPkt i s
  let port := fld e 0 10
  if !portTakes port s then { s with pip := { s.pip with skips := tmod s.pip.skips (p.tag.dest % 2 ^ 16) fun k => sat 32 (k + 1) } }
  else
    let s := flushPort port s
    let qidx := 16 + fld e 16 2
    let q := port * 20 + qidx
    let t := { p.tag with qidx := qidx, pipeOut := pipeOfPort port s, tel := p.tag.tel ||| 64,
                          edit := if fld e 32 32 = 0 then p.tag.edit else fld e 32 32 }
    let (r, s) := newPkt { p with stage := .ready, tag := t, port := port, root := some i, walked := [], cid := none } s
    let pipe := pipeOfPort port s
    let join := fun (p' : Pkt) (q : Nat) (s : State) =>
      match p.cid with
      | none => dropPkt r s
      | some id =>
        let c := getCells id s
        let c := { c with refs := c.refs + 1, parts := if p'.part then p'.cells :: c.parts else c.parts }
        joinQueue r q (setCells id c (setPkt r { p' with cid := some id } s))
    if wdDiscards q s then discard r 17 pipe (countPort port 52 1 s)
    else if (fits q p.cells (prPool (profOf q s)) s).ok then join (getPkt r s) q s
    else if mayTrim p q s then
      let t := trimmedPkt (getPkt r s) port s
      let n := cellsOf t.len
      let q2 := port * 20 + trimQidx port s
      if wdDiscards q2 s then discard r 17 pipe (countPort port 52 1 s)
      else if (fits q2 n (prPool (profOf q2 s)) s).ok then
        join { t with cells := n, part := true } q2 (countPipe pipe 11 1 (countQueue q 9 1 s))
      else discard r 10 pipe s
    else discard r 7 pipe (countQueue q 4 1 s)

/-- An entry of the replication memory, if it can be used (Table 8.4, FC071). -/
def readEntry (n : Nat) (s : State) : Option Nat × State :=
  let e := tget s.pip.entries n
  (if upsetOf memEntry n s ≠ 2 ∧ bitAt e 24 then some e else none, meetSecded memEntry 71 n s)

/-- A panel makes its replicas of a multicast packet, entry by entry in ascending order (R251). -/
def walkGroup (panel pkt : Nat) (s : State) : State :=
  let p := getPkt pkt s
  (List.range (fld p.grp 32 16)).foldl (fun s k =>
    match readEntry (fld p.grp 0 19 + k) s with
    | (none, s) => s
    | (some e, s) =>
      if fld e 0 10 / 256 ≠ panel ∨ (bitAt p.grp 48 ∧ fld e 0 10 = p.tag.inPort) then s else replicate pkt e s) s

/-- A panel's traffic manager walks a multicast packet's entries (R251); once every panel has, the walk's own reference ends
(R252). -/
def execReplication (panel pkt : Nat) (s : State) : Res :=
  let p := getPkt pkt s
  within (decide (panel < 4)) (if !atStage pkt .walking s ∨ p.walked.contains panel then s
    else
      let walked := panel :: p.walked
      if walked.length = 4 then endPkt pkt (walkGroup panel pkt s)
      else modPkt pkt (fun p => { p with walked := walked }) (walkGroup panel pkt s))

/-! ### Flushes (R130, R276) -/

/-- The queues of a port that left UP are flushed (R276). -/
def execQueueFlush (port : Nat) (s : State) : Res := within (decide (port < 1024)) (flushPort port s)

/-- The queues of a port whose level is c. -/
def heldQueues (p c : Nat) (s : State) : List Nat := ((List.range 20).filter fun k => levelOf p k s == c).map (p * 20 + ·)

/-- A class stays paused for WD_TIME: the watchdog triggers (R130). -/
def execPfcWatchdog (port cls : Nat) (s : State) : Res :=
  let x := getPort port s
  let cfg := rd Reg.macPfcWd port s
  within (decide (port < 1024) && decide (cls < 8))
    (if fld cfg 0 16 = 0 ∨ tget x.pause cls = 0 ∨ bitAt x.wd cls then s
    else
      let pay := le2 port ++ [byte cls, 1]
      let s := post 0x9013 pay (report 35 2 port pay (modPort port (fun x => { x with wd := setFld x.wd cls 1 1 }) s))
      let action := fld cfg 16 2
      let s := if action = 0 then s else modPort port (fun x => { x with pause := tset x.pause cls 0 }) s
      if action = 2 then
        (heldQueues port cls s).foldl (fun s q =>
          let n := (getQ q s).pkts.length
          countPort port 52 n ((getQ q s).pkts.foldl (fun s i => dropQueued i q 17 s) s) |>
            modQ q (fun x => { x with blocks := [], readPos := x.appended, spilling := false, began := false, runPeak := 0 })) s
      else s)

/-! ### Spill and readback (R285 to R287) -/

def validQueue (q : Nat) : Bool := decide (q < 20480)

/-- A run with no append for 1 µs writes its partial block to Burlap (R285). -/
def execSpillAssemblyTimeout (queue : Nat) (s : State) : Res :=
  within (validQueue queue) (settle queue (modQ queue (fun x =>
    match x.blocks.getLast? with
    | some b => if b.w < b.n ∧ !b.reading ∧ !b.lost then { x with blocks := x.blocks.dropLast ++ [{ b with w := b.n }] } else x
    | none => x) s))

/-- A run has something to read back now. -/
def readReady (q : Nat) (s : State) : Bool :=
  match (getQ q s).blocks.find? fun b => !b.lost with
  | none => false
  | some b => mayRead q b s || mayTake q b s

/-- It is a run's turn: the engine reads runs back in round-robin order (R286), and none that is ready comes before it. -/
def readTurn (q : Nat) (s : State) : Bool :=
  let far := fun (k : Nat) => (k + 20480 - (s.buf.readLast + 1) % 20480) % 20480
  s.buf.queues.all fun e => !readReady e.1 s || decide (far q ≤ far e.1)

/-- Readback of a run's oldest block into prefetch begins, or its assembled units are taken from staging, if it is the run's turn (R285, R286, R290). -/
def execReadbackStart (queue : Nat) (s : State) : Res :=
  within (validQueue queue)
    (let s := passLost queue ((getQ queue s).blocks.length) s
    let x := getQ queue s
    match x.blocks with
    | [] => closeRun queue s
    | b :: r =>
      if !readTurn queue s then s
      else
      let s := if readReady queue s then { s with buf := { s.buf with readLast := queue } } else s
      if mayRead queue b s then
        settle queue (chanUsed (blockChan b.id s) (setQ queue { x with blocks := { b with reading := true } :: r, began := true } s))
      else takeAssembly queue s)

/-- A spill block read completes (R286, R287): its written units are in prefetch; an unreadable block, or one with an
uncorrectable error among the units read, loses its packets. -/
def execBlockReadDone (queue : Nat) (ok : Bool) (s : State) : Res :=
  within (validQueue queue)
    (let x := getQ queue s
    match x.blocks with
    | [] => s
    | b :: r =>
      if !b.reading then s
      else
        let addr := blockAddr b.id s + 256 * (b.start - b.base)
        let hard := (burstsOf addr (256 * b.w)).any fun u => upsetOf memBurst u s == 2
        let s := burlapScan addr (256 * b.w) s
        let s := if ok ∧ !hard ∧ !b.lost then s
          else loseUnits queue { b with n := b.w } (if ok ∨ hard then s else report 178 9 (blockChan b.id s) (le 8 addr) s)
        let rest := if b.n = b.w then r else { b with start := b.start + b.w, n := b.n - b.w, w := 0, reading := false } :: r
        closeRun queue (runStep queue (modQ queue (fun x => { x with blocks := rest, readPos := b.start + b.w }) s)))

/-! ### Commands (Table 9.7) -/

def NO_SPILL : Nat := 0x80

/-- A READ command's flag byte and whether its reserved bits are 0. -/
def readFlag (c : Cmd) (off : Nat) : Bool := bitAt (c.op off 1) 0
def flagOk (c : Cmd) (off : Nat) : Bool := decide (c.op off 1 < 2)

/-- A queue profile record obeys Table 9.2. -/
def profileOk (r : Nat) : Bool :=
  decide (fld r 2 6 = 0) && decide (fld r 10 6 = 0) && decide (fld r 16 8 ≤ 11) &&
  (!prSpill r || (decide (1 ≤ prPrefetch r) && decide (prPrefetch r ≤ 8))) && decide (prPrefetch r ≤ 8)

/-- BUF_PROFILE_WRITE writes or reads queue profiles (R291, R296). -/
def bufProfileWriteCmd (c : Cmd) (host : HostAns) (s : State) : State × CmdEnd :=
  let first := c.op 0 1
  let n := c.op 1 1
  if n < 1 ∨ n > 64 ∨ first + n > 64 ∨ c.len ≠ 16 * n ∨ !flagOk c 2 then fail BAD_PARAM s
  else if readFlag c 2 then okayData ((List.range n).flatMap fun k => le 16 (tget s.buf.profiles (first + k))) s
  else withHost c host s fun bs =>
    let recs := (List.range n).map fun k => leAt bs (16 * k) 16
    if !recs.all profileOk then fail BAD_PARAM s
    else if (recs.zipIdx.any fun r => prSpill r.1 && (List.range 20480).any fun q => tget s.buf.map q == first + r.2 && neverSpills q s) then fail NO_SPILL s
    else okay { s with buf := { s.buf with profiles := recs.zipIdx.foldl (fun t r => tset t (first + r.2) r.1) s.buf.profiles } }

/-- The command BufProfileWrite. -/
def execBufProfileWrite (ref : CmdRef) (host : HostAns) (s : State) : Res := .next (runCmd 0x30 ref (fun c => bufProfileWriteCmd c host) s)

/-- BUF_QUEUE_MAP maps queues to profiles (R291, R296). -/
def bufQueueMapCmd (c : Cmd) (host : HostAns) (s : State) : State × CmdEnd :=
  let first := c.op 0 2
  let n := c.op 2 2
  if n < 1 ∨ n > 20480 ∨ first + n > 20480 ∨ c.len ≠ n ∨ !flagOk c 4 then fail BAD_PARAM s
  else if readFlag c 4 then okayData ((List.range n).map fun k => byte (tget s.buf.map (first + k))) s
  else withHost c host s fun bs =>
    if (bs.any fun b => decide (b.toNat > 63)) then fail BAD_PARAM s
    else if (bs.zipIdx.any fun b => prSpill (tget s.buf.profiles b.1.toNat) && neverSpills (first + b.2) s) then fail NO_SPILL s
    else okay { s with buf := { s.buf with map := bs.zipIdx.foldl (fun t b => tset t (first + b.2) b.1.toNat) s.buf.map } }

/-- The command BufQueueMap. -/
def execBufQueueMap (ref : CmdRef) (host : HostAns) (s : State) : Res := .next (runCmd 0x31 ref (fun c => bufQueueMapCmd c host) s)

/-- BUF_PORT_WRITE sets the headroom limits of ports (R277). -/
def bufPortWriteCmd (c : Cmd) (host : HostAns) (s : State) : State × CmdEnd :=
  let first := c.op 0 2
  let n := c.op 2 2
  if n < 1 ∨ n > 1024 ∨ first + n > 1024 ∨ c.len ≠ 16 * n ∨ !flagOk c 4 then fail BAD_PARAM s
  else if readFlag c 4 then okayData ((List.range (8 * n)).flatMap fun k => le 2 (tget s.buf.limit (8 * first + k))) s
  else withHost c host s fun bs =>
    okay { s with buf := { s.buf with limit := (List.range (8 * n)).foldl (fun t k => tset t (8 * first + k) (leAt bs (2 * k) 2)) s.buf.limit } }

/-- The command BufPortWrite. -/
def execBufPortWrite (ref : CmdRef) (host : HostAns) (s : State) : Res := .next (runCmd 0x32 ref (fun c => bufPortWriteCmd c host) s)

/-- A queue state record (Table 9.8). -/
def queueRecord (q : Nat) (s : State) : List Byte :=
  let x := getQ q s
  le 2 q ++ [byte (b2n x.spilling), byte (tget s.buf.map q)] ++ le 4 (onDie q s) ++ le 4 x.runUnits ++ le 4 (prefetchCells q s) ++
  le 4 (sat 32 (fits q 0 (prPool (profOf q s)) s).t) ++ le 4 x.pkts.length ++ le 4 x.peak ++ zeros 4

/-- BUF_QUEUE_READ writes queue state records; each queue's peak restarts (Table 9.8). -/
def bufQueueReadCmd (c : Cmd) (s : State) : State × CmdEnd :=
  let first := c.op 0 2
  let n := c.op 2 2
  if n < 1 ∨ n > 4096 ∨ first + n > 20480 ∨ c.len ≠ 32 * n then fail BAD_PARAM s
  else
    let qs := (List.range n).map (first + ·)
    okayData (qs.flatMap fun q => queueRecord q s)
      (qs.foldl (fun s q => modQ q (fun x => { x with peak := x.blocks.length }) s) s)

/-- The command BufQueueRead. -/
def execBufQueueRead (ref : CmdRef) (s : State) : Res := .next (runCmd 0x33 ref bufQueueReadCmd s)

/-! ### Registers (Tables 9.11 to 9.14) -/

/-- CFG_ERR after a write of a buffer register. -/
def bufErr (bad : Bool) (s : State) : State := { s with buf := { s.buf with cfgErr := bad } }

/-- Sum of SIZE[0..3] + HEADROOM + STAGE. -/
def partSum (s : State) : Nat :=
  (List.range 4).foldl (fun a k => a + rd Reg.bufPoolSize k s) 0 + rd Reg.bufHeadroom 0 s + rd Reg.bufStage 0 s

/-- Every pool's RESERVE is at most its SIZE, and STAGE is at least 4,096 while SPILL_EN is 1 (Table 9.13). -/
def partOk (s : State) : Bool :=
  decide (partSum s ≤ cellsIn s) && (List.range 4).all (fun k => decide (rd Reg.bufPoolReserve k s ≤ rd Reg.bufPoolSize k s)) &&
  (!bitAt (rd Reg.bufCtrl 0 s) 0 || decide (rd Reg.bufStage 0 s ≥ 4096))

/-- A write of a register of Table 9.1, ignored where it would break the partition (R271). -/
def writePart (r : RegDesc) (n v : Nat) (s : State) : State :=
  let t := wrRw r n v s
  if partOk t then bufErr false t else bufErr true s

/-- BUF_SPILL_BASE and BUF_SPILL_BLOCKS: ignored while SPILL_EN is 1 (Table 9.14). -/
def writeRegion (r : RegDesc) (v : Nat) (s : State) : State :=
  if bitAt (rd Reg.bufCtrl 0 s) 0 ∨ (r.base = Reg.bufSpillBlocks.base ∧ v % 2 ^ 21 > 1835008) then bufErr true s
  else bufErr false (wrRw r 0 v s)

/-- Table 9.15, bytes 0 to 52. -/
def linenBuffer (s : State) : List Byte :=
  fit 256 ((List.range 4).flatMap (fun k => le 4 (poolRes k s + poolSh k s)) ++ le 4 (headUsed s) ++ le 4 (stageUsed s) ++
    le 4 (usedBlocks s).length ++ le 4 s.buf.spillPeak ++ le 2 (s.buf.queues.filter fun e => e.2.spilling).length ++
    le 2 (256 - banksOut s) ++ le 4 (cellsIn s) ++ le 4 s.buf.lossless ++ le 4 s.buf.spillLost ++ le 4 s.buf.bankLost ++
    [byte (b2n (bitAt (rd Reg.bufCtrl 0 s) 0) + 2 * b2n (halfServes 0 s) + 4 * b2n (halfServes 1 s))])

end Sys2Proof.Machine
end

