-- ==== Sys2Proof/Machine/ColNum.lean ====
section
/-! DEFINITION. The exact arithmetic of the collective engine (11.5): number formats, entering and emitting an element. -/
namespace Sys2Proof.Machine

/-- A floating-point format: exponent and mantissa bits, and whether it is E4M3, which has no infinity. -/
structure FpFmt where
  eb : Nat
  mb : Nat
  e4m3 : Bool := false

def fp64 : FpFmt := { eb := 11, mb := 52 }
def fp32 : FpFmt := { eb := 8, mb := 23 }

/-- The format of a DTYPE (Table 11.5). -/
def dtFmt (dt : Nat) : FpFmt :=
  match dt with
  | 0 => fp32
  | 1 => { eb := 8, mb := 7 }
  | 2 => { eb := 5, mb := 10 }
  | 3 => { eb := 4, mb := 3, e4m3 := true }
  | _ => { eb := 5, mb := 2 }

/-- The format of a wide partial. -/
def wideFmt (dt : Nat) : FpFmt := if dt = 0 then fp64 else fp32

/-- Bytes of an element, of a wide partial and of a SUM staging entry (Table 11.5). -/
def dtSize (dt : Nat) : Nat := if dt = 0 ∨ dt = 5 then 4 else if dt ≤ 2 then 2 else 1
def dtWide (dt : Nat) : Nat := if dt = 0 ∨ dt = 5 then 8 else 4
def dtStage (dt : Nat) : Nat := if dt ≤ 1 then 41 else if dt = 2 then 11 else 9
/-- Width of the accumulator, and minus the exponent of its LSB weight. -/
def dtBits (dt : Nat) : Nat := if dt ≤ 1 then 320 else if dt = 2 then 80 else 64
def dtLsb (dt : Nat) : Nat := if dt ≤ 1 then 149 else if dt = 2 then 24 else if dt ≤ 4 then 16 else 0

def FpFmt.bias (f : FpFmt) : Nat := 2 ^ (f.eb - 1) - 1
def FpFmt.width (f : FpFmt) : Nat := 1 + f.eb + f.mb
def FpFmt.sign (f : FpFmt) (n : Nat) : Bool := bitAt n (f.eb + f.mb)
def FpFmt.expo (f : FpFmt) (n : Nat) : Nat := fld n f.mb f.eb
def FpFmt.mant (f : FpFmt) (n : Nat) : Nat := fld n 0 f.mb
/-- Magnitude bits of infinity; of E4M3, those of its NaN. -/
def FpFmt.top (f : FpFmt) : Nat := if f.e4m3 then 0x7F else (2 ^ f.eb - 1) * 2 ^ f.mb
def FpFmt.isNan (f : FpFmt) (n : Nat) : Bool :=
  if f.e4m3 then n % 128 == 127 else f.expo n == 2 ^ f.eb - 1 && f.mant n != 0
def FpFmt.isInf (f : FpFmt) (n : Nat) : Bool := !f.e4m3 && f.expo n == 2 ^ f.eb - 1 && f.mant n == 0
def FpFmt.isZero (f : FpFmt) (n : Nat) : Bool := f.expo n == 0 && f.mant n == 0
/-- The canonical NaN (Table 11.9). -/
def FpFmt.canonNan (f : FpFmt) : Nat := if f.e4m3 then 0x7F else f.top + 2 ^ (f.mb - 1)
/-- Largest finite magnitude of E4M3: 448. -/
def FpFmt.e4m3Max : Nat := 0x7E
def FpFmt.signBit (f : FpFmt) (s : Bool) : Nat := b2n s * 2 ^ (f.eb + f.mb)

/-- `a ÷ 2^k` rounded to nearest, ties to even. -/
def rne (a k : Nat) : Nat :=
  let q := a / 2 ^ k
  let r := 2 * (a % 2 ^ k)
  if r > 2 ^ k ∨ (r = 2 ^ k ∧ q % 2 = 1) then q + 1 else q

/-- A finite magnitude in units of 2^−lsb, and whether it was exact (R336, R337). -/
def FpFmt.fixed (f : FpFmt) (n lsb : Nat) : Nat × Bool :=
  let e := max (f.expo n) 1 + lsb
  let m := if f.expo n = 0 then f.mant n else f.mant n + 2 ^ f.mb
  let low := f.bias + f.mb
  if e ≥ low then (m * 2 ^ (e - low), true) else (rne m (low - e), m % 2 ^ (low - e) == 0)

/-- A signed value clamped to `w` bits of two's complement. -/
def clampS (w : Nat) (v : Int) : Int := max (-((2 ^ (w - 1) : Nat) : Int)) (min v ((2 ^ (w - 1) : Nat) - 1 : Int))

/-- What one element of a SUM contribution is: a flag, or a value in units of the LSB weight with its exactness. -/
inductive Entered where
  | nan
  | inf (neg : Bool)
  | value (v : Int) (negZero exact : Bool)

/-- An element of a contribution as its format gives it (R336, R337). -/
def enter (dt : Nat) (wide : Bool) (n : Nat) : Entered :=
  if dt = 5 then .value (toS (if wide then 64 else 32) n) false true
  else
    let f := if wide then wideFmt dt else dtFmt dt
    if f.isNan n then .nan
    else if f.isInf n then .inf (f.sign n)
    else
      let (m, ex) := f.fixed n (dtLsb dt)
      let v : Int := if f.sign n then -(m : Int) else m
      let c := clampS (dtBits dt) v
      .value c (f.isZero n && f.sign n) (ex && decide (c = v))

/-- An accumulator entry takes an element (R336): `none` for the value where the sum leaves the accumulator's range,
which the spec gives no result for. -/
def ElemAcc.take (a : ElemAcc) (w : Nat) (e : Entered) : ElemAcc × Bool :=
  match e with
  | .nan => ({ a with nan := true, negz := false }, true)
  | .inf neg => ({ a with nInf := a.nInf || neg, pInf := a.pInf || !neg, negz := false }, true)
  | .value v nz _ =>
    let t := a.v + v
    ({ a with v := t, negz := a.negz && nz }, decide (clampS w t = t))

/-- A magnitude in units of 2^−lsb rounded once into a format: its bits without sign, and whether it overflowed
(Table 11.9). -/
def FpFmt.round (f : FpFmt) (a lsb : Nat) : Nat × Bool :=
  let low := f.bias + f.mb - 1
  -- exponents of result LSBs, counted from that of the subnormals
  let q := Nat.log2 a + low - (lsb + f.mb)
  let sh := lsb + q
  let m := if sh ≥ low then rne a (sh - low) else a * 2 ^ (low - sh)
  let n := q * 2 ^ f.mb + m
  if n ≥ f.top then (if f.e4m3 then (FpFmt.e4m3Max, true) else (f.top, false)) else (n, false)

/-- A SUM element as it is emitted, and whether it saturated (Table 11.9). -/
def ElemAcc.emit (a : ElemAcc) (dt : Nat) (wide : Bool) : Nat × Bool :=
  if dt = 5 then
    if wide then (ofS 64 a.v, false)
    else let c := clampS 32 a.v; (ofS 32 c, decide (c ≠ a.v))
  else
    let f := if wide then wideFmt dt else dtFmt dt
    if a.nan ∨ (a.pInf ∧ a.nInf) then (f.canonNan, false)
    else if a.pInf ∨ a.nInf then
      (f.signBit a.nInf + (if f.e4m3 then FpFmt.e4m3Max else f.top), f.e4m3)
    else if a.v = 0 then (f.signBit a.negz, false)
    else
      let (n, o) := f.round a.v.natAbs (dtLsb dt)
      (f.signBit (decide (a.v < 0)) + n, o)

/-- Order of MIN and MAX (R339): a number that rises with the element, −0 below +0. -/
def orderKey (dt n : Nat) : Int :=
  if dt = 5 then toS 32 n
  else
    let f := dtFmt dt
    let m : Nat := n % 2 ^ (f.eb + f.mb)
    if f.sign n then -(m : Int) - 1 else m

/-- The canonical NaN of a DTYPE, where the element is a NaN. -/
def nanOf (dt n : Nat) : Option Nat := if dt ≠ 5 && (dtFmt dt).isNan n then some (dtFmt dt).canonNan else none

/-- The running extreme of two elements (R339). -/
def extreme (dt : Nat) (mx : Bool) (a b : Nat) : Nat :=
  match nanOf dt a, nanOf dt b with
  | some n, _ => n
  | none, some n => n
  | none, none => if decide (orderKey dt a < orderKey dt b) = mx then b else a

end Sys2Proof.Machine
end

