-- ==== Sys2Proof/Machine/PowerOps.lean ====
section
/-! DEFINITION. Power domains, steps and rails (17.1): which domain a clock belongs to, what voltage a rail needs, how a
step changes. -/
namespace Sys2Proof.Machine

def getDom (d : Nat) (s : State) : PDom := tget s.pwr.doms d
/-- Marks for the clock monitors what of a domain changes (R31): a step change takes up to 1 µs from now (R464). -/
def markClk (d : Nat) (o x : PDom) (s : State) : Tab (Option Nat) :=
  let put := fun (k t : Nat) (on : Bool) (m : Tab (Option Nat)) => if on then tset m (4 * d + k) (some t) else m
  put 2 s.aon (decide (o.st ≠ x.st)) (put 1 s.aon (o.dip.isSome != x.dip.isSome) (put 0 (s.aon + 250) (decide (o.below ≠ x.below)) s.pwr.clkAt))

def setDom (d : Nat) (x : PDom) (s : State) : State :=
  { s with pwr := { s.pwr with doms := tset s.pwr.doms d x, clkAt := markClk d (getDom d s) x s } }
def modDom (d : Nat) (f : PDom → PDom) (s : State) : State := setDom d (f (getDom d s)) s
def getCluster (k : Nat) (s : State) : Cluster := tget s.col.clusters k
def setCluster (k : Nat) (x : Cluster) (s : State) : State := { s with col := { s.col with clusters := tset s.col.clusters k x } }
def modCluster (k : Nat) (f : Cluster → Cluster) (s : State) : State := setCluster k (f (getCluster k s)) s

def DomSt.num : DomSt → Nat
  | .off => 0 | .poweringUp => 1 | .on => 2 | .deferred => 3 | .poweringDown => 4

/-- The domain has power. -/
def DomSt.powered (d : DomSt) : Bool := decide (d ≠ .off) && decide (d ≠ .poweringUp)
def domPowered (d : Nat) (s : State) : Bool := (getDom d s).st.powered
/-- The domain serves: on, with no power-down registered (R70). -/
def domServes (d : Nat) (s : State) : Bool := decide ((getDom d s).st = .on)

/-- Domain numbers of Table 17.1. -/
def panelDom (x : Nat) : Nat := 1 + x
def tableDom : Nat := 5
def bufferDom : Nat := 6
def clusterDom (k : Nat) : Nat := 7 + k
def laneDom (g : Nat) : Nat := 11 + g
def halfDom (h : Nat) : Nat := 27 + h
def serviceDom : Nat := 30

/-- Step class of a domain (Table 17.1). -/
def stepClass (d : Nat) : Option Nat :=
  if 1 ≤ d ∧ d ≤ 4 then some 0 else if d = 5 ∨ d = 6 then some 1 else if 7 ≤ d ∧ d ≤ 10 then some 2
  else if d = 29 ∨ d = 30 then some 3 else none

/-- VDD_CORE regulator of a domain (Table 17.1). -/
def railOf (d : Nat) : Option Nat :=
  if d = 1 ∨ d = 2 ∨ d = 7 ∨ d = 8 then some 0 else if d = 3 ∨ d = 4 ∨ d = 9 ∨ d = 10 then some 1
  else if d = 5 ∨ d = 6 then some 2 else if 27 ≤ d ∧ d ≤ 30 then some 3 else none

/-- Domains on a core regulator. -/
def railDoms (cr : Nat) : List Nat := (List.range 31).filter fun d => railOf d == some cr

/-- Frequency in MHz of a step (Tables 11.1 and 17.2). -/
def stepMhz (cls p : Nat) : Nat :=
  match cls with
  | 0 => [750, 900, 1000, 1100, 1200, 1300, 1400, 1500].getD p 0
  | 1 => [800, 900, 1000, 1100, 1200, 1300, 1400, 1500].getD p 0
  | 2 => [500, 600, 700, 800, 900, 1000, 1125, 1250].getD p 0
  | _ => Config.fusedMhz p

/-- The step at which a domain runs. -/
def domStep (d : Nat) (s : State) : Nat :=
  if 7 ≤ d ∧ d ≤ 10 then (getCluster (d - 7) s).step else 7 - (getDom d s).below

/-- The step to which a domain will rise, if a raise is pending. -/
def domRaise (d : Nat) (s : State) : Option Nat :=
  if 7 ≤ d ∧ d ≤ 10 then (getCluster (d - 7) s).raise else (getDom d s).raise

/-- The step that a domain's rail already serves (R464): its present one, or a raise that the rail has been raised for. -/
def domServed (d : Nat) (s : State) : Nat :=
  if 7 ≤ d ∧ d ≤ 10 then
    let c := getCluster (d - 7) s
    max (max c.step (c.changing.getD 0)) (if c.railUp then c.raise.getD 0 else 0)
  else domStep d s

/-- Voltage of a step: fused plus GUARD_MV, clamped (R463). -/
def stepMv (cls p : Nat) (s : State) : Nat :=
  max 620 (min 800 (Config.fusedMv cls p + rdFld Reg.pwrPolicy 0 8 8 s))

/-- Highest voltage among steps that the powered domains of a rail take. -/
def railMax (cr : Nat) (f : Nat → Nat) (s : State) : Nat :=
  (railDoms cr).foldl (fun a d => match stepClass d with
    | some c => if domPowered d s then max a (stepMv c (f d) s) else a
    | none => a) 620

/-- The power manager commands the core regulators: once BOOT has loaded the fused voltage table (R545), until the power of
their domains is gone (R523). -/
def railsLed (s : State) : Bool := decide (4 ≤ s.sys.mode.num) && decide (s.sys.mode ≠ .lockdown)

/-- The voltage that a rail has: what its present steps need; 0.75 V before the power manager commands it (R545). -/
def railMv (cr : Nat) (s : State) : Nat := if railsLed s then railMax cr (fun d => domServed d s) s else 750
/-- The voltage that a rail is set to: a pending raise counts at its new step (R463). -/
def railTarget (cr : Nat) (s : State) : Nat := railMax cr (fun d => max (domServed d s) ((domRaise d s).getD 0)) s

/-- The voltage that a core regulator is set to: 0.75 V before the power manager commands it (R545). -/
def setMv (cr : Nat) (s : State) : Nat := if railsLed s then railTarget cr s else 750

/-- AVSBus commands that follow from a change of steps (R464, R465), and the first ones after BOOT (R545). -/
def railFollow (old s : State) : State :=
  (List.range 4).foldl (fun t cr =>
    if railsLed s ∧ (!railsLed old ∨ railTarget cr s ≠ railTarget cr old) then emit (.vr cr 0 (railTarget cr s)) t else t) s

/-- Whether a domain may run a step at its rail's present voltage. -/
def railServes (d p : Nat) (s : State) : Bool :=
  match railOf d, stepClass d with
  | some cr, some c => decide (stepMv c p s ≤ railMv cr s)
  | _, _ => true

/-- Set the step of a panel, the table array or the buffer: down at once, up when the rail has the voltage (R464). -/
def setStep (d p : Nat) (s : State) : State :=
  let x := getDom d s
  if p ≤ domStep d s ∨ railServes d p s then
    railFollow s (setDom d { x with below := 7 - p, raise := none } s)
  else railFollow s (setDom d { x with raise := some p } s)

/-- The step that a domain has or will have. -/
def domGoal (d : Nat) (s : State) : Nat := (domRaise d s).getD (domStep d s)

/-- A supply dip record of a domain stands at FENCE or above and is unacknowledged (R476). -/
def heldDroop (d : Nat) (s : State) : Bool :=
  s.flt.recs.any fun r => r.cls == 224 && r.kind == 14 && r.unit == d && decide (3 ≤ r.level) && !r.acked

/-- Highest step that a forwarding domain may take: host ceiling, R476, VR alert, DOZE. -/
def domMax (d : Nat) (s : State) : Nat :=
  if s.pwr.alert ∨ s.sys.mode = .doze then 0
  else min ((getDom d s).host.getD 7) (if heldDroop d s then 6 else 7)

/-- Ceiling of a cluster (R471, R476, R477, R479): power, temperature, dips, alert, host and DOZE. -/
def clusterCeil (k : Nat) (s : State) : Nat :=
  let c := min (7 - tget s.pwr.ceilCut k) (7 - tget s.pwr.thermCut k)
  min c (domMax (clusterDom k) s)

/-- Lane groups under a panel. -/
def panelGroups (x : Nat) : List Nat := (List.range 4).map (4 * x + ·)

/-- Domains that a domain requires (Table 1.5). -/
def requires (d : Nat) : List Nat :=
  if 1 ≤ d ∧ d ≤ 4 then [5, 6] else if 7 ≤ d ∧ d ≤ 10 then [6] else if 11 ≤ d ∧ d ≤ 26 then [1 + (d - 11) / 4]
  else if d = 27 ∨ d = 28 then [6] else []

/-- The order in which the power manager powers domains up: each comes after those it requires (R33). -/
def upOrder : List Nat :=
  [5, 6] ++ (List.range 4).map (1 + ·) ++ (List.range 4).map (7 + ·) ++ [27, 28] ++ (List.range 16).map (11 + ·) ++ [29, 30]

/-- A domain is powered up if those that it requires are up (R33). -/
def riseDom (d : Nat) (s : State) : State :=
  if (requires d).all fun e => domServes e s then modDom d (fun x => { x with st := .on }) s else s

/-- Leaving RESET, the power manager powers every domain up, in the order of the Requires column (R33). -/
def powerAll (s : State) : State := upOrder.foldl (fun s d => riseDom d s) s

/-- The core die of a panel or a cluster. -/
def dieOf (x : Nat) : Nat := x / 2

end Sys2Proof.Machine
end

