-- ==== Sys2Proof/Machine/Time.lean ====
section
/-! DEFINITION. The time unit (15_time.md): its operations on time bases, the pins, and the steps of the time pins. -/
namespace Sys2Proof.Machine

def getTb (n : Nat) (s : State) : TimeBase := tget s.tim.tb n
def setTb (n : Nat) (t : TimeBase) (s : State) : State := { s with tim := { s.tim with tb := tset s.tim.tb n t } }

/-- Table 15.1 number. -/
def TbState.num : TbState → Nat
  | .stopped => 0 | .running => 1 | .holdover => 2 | .fenced => 3

/-- Fine count of the base or pair output (R424). -/
def fineOf (n : Nat) (s : State) : Int :=
  let (m, c) := tbSource n s
  let t := getTb m s
  if t.state = .fenced then 0 else ((t.fine : Int) + c) % ((timeSpan * 2 ^ 48 : Nat) : Int)

/-- Seconds that a base reads as. -/
def secOf (n : Nat) (s : State) : Nat := timeOf n s / 1000000000
/-- Nanoseconds within the second. -/
def nsOf (n : Nat) (s : State) : Nat := timeOf n s % 1000000000
/-- The 16 visible bits of the fraction (R418). -/
def fracOf (n : Nat) (s : State) : Nat := (fineOf n s % (2 ^ 48 : Int)).toNat / 2 ^ 32

/-- SLEW_MAX in ns per second (R420). -/
def slewMax (n : Nat) (s : State) : Nat := rdFld Reg.timTbCfg n 8 17 s
/-- SLEW_EN (R420, R421). -/
def slewEn (n : Nat) (s : State) : Bool := bitAt (rd Reg.timTbCfg n s) 2

/-- What a slew moves in `k` nanoseconds, in 2^−48 ns. -/
def slewAmount (rate k : Nat) : Nat := k * rate * 2 ^ 48 / 1000000000

/-- Take `a` from a signed quantity towards 0. -/
def towardZero (p : Int) (a : Nat) : Int := if p ≥ 0 then p - min (a : Int) p else p + min (a : Int) (-p)

/-- Advance of a running base over `k` nanoseconds of its source (R418, R423), without the slew term. -/
def TimeBase.rate (t : TimeBase) (k : Nat) : Int :=
  let base : Int := (k : Int) * ((2 ^ 48 : Int) + t.trim * (2 ^ 8 : Int))
  if t.state = .holdover then base * (t.ratio : Int) / (2 ^ 40 : Int) else base

/-- A base after `k` nanoseconds (R418, R420). -/
def TimeBase.advance (t : TimeBase) (rate k : Nat) : TimeBase :=
  if t.state = .running ∨ t.state = .holdover then
    let p := towardZero t.pending (slewAmount rate k)
    let u := t.setFine ((t.fine : Int) + t.rate k + (t.pending - p))
    { u with pending := p, slewEnd := t.slewEnd || (decide (t.pending ≠ 0) && decide (p = 0)) }
  else t

/-- Every time base and carry after `k` nanoseconds. -/
def advanceTime (k : Nat) (s : State) : State :=
  let s := (List.range 4).foldl (fun s n => setTb n ((getTb n s).advance (slewMax n s) k) s) s
  { s with tim := { s.tim with
      carry01 := towardZero s.tim.carry01 (slewAmount (slewMax 0 s) k)
      carry23 := towardZero s.tim.carry23 (slewAmount (slewMax 2 s) k) } }

/-- Signed 64-bit payload field. -/
def sle8 (i : Int) : List Byte := le 8 (ofS 64 i)

/-- The whole ns of a quantity in 2^−48 ns, towards zero. -/
def fineNs (i : Int) : Int := Int.tdiv i (2 ^ 48 : Int)

/-- Whether pair `p`'s bit is set (R424). -/
def paired (p : Nat) (s : State) : Bool := bitAt (rd Reg.timCtrl 0 s) (2 + p)
def pairOdd (p : Nat) (s : State) : Bool := if p = 0 then s.tim.odd01 else s.tim.odd23
def pairCarry (p : Nat) (s : State) : Int := if p = 0 then s.tim.carry01 else s.tim.carry23
def setPair (p : Nat) (odd : Bool) (c : Int) (s : State) : State :=
  if p = 0 then { s with tim := { s.tim with odd01 := odd, carry01 := c } }
  else { s with tim := { s.tim with odd23 := odd, carry23 := c } }

/-- Switch a pair's active member; C takes up the difference, so the output does not jump (R425). -/
def switchPair (p : Nat) (toOdd : Bool) (s : State) : State :=
  let old := getTb (2 * p + b2n (pairOdd p s)) s
  let new := getTb (2 * p + b2n toOdd) s
  let c := (old.fine : Int) - (new.fine : Int) + pairCarry p s
  post 0x7003 ([byte p, byte (b2n toOdd)] ++ zeros 6 ++ sle8 (fineNs c)) (setPair p toOdd c s)

/-- Automatic switch (R425): the active member became FENCED or HOLDOVER, the other one runs. -/
def autoSwitch (n : Nat) (s : State) : State :=
  let p := n / 2
  let active := 2 * p + b2n (pairOdd p s)
  let st := (getTb n s).state
  if paired p s ∧ bitAt (rd Reg.timCtrl 0 s) (4 + p) ∧ n = active ∧ (st = .fenced ∨ st = .holdover) ∧
      (getTb (4 * p + 1 - active) s).state = .running then switchPair p (!pairOdd p s) s
  else s

/-- A base changes state: EV_TIM_STATE with its cause, then the automatic switch (Table 15.1, R425). Causes: 0
command, 1 clock lost, 2 clock restored, 3 PPS_IN missing, 4 fence. -/
def setTbState (n : Nat) (st : TbState) (cause : Nat) (s : State) : State :=
  let t := getTb n s
  if t.state = st then s else
  let z := stamp s
  let t : TimeBase :=
    match st with
    | .stopped => if t.state = .fenced then { t with sec := 0, ns := 0, frac := 0, trim := 0, pending := 0 } else t
    | _ => t
  let s := setTb n { t with state := st, changeTs := z.1, changePh := z.2 } s
  autoSwitch n (post 0x7002 [byte n, byte st.num, byte cause] s)

/-- A step of `d` ns (R421): the time jumps, EV_TIM_STEP is posted. -/
def stepTb (n : Nat) (d : Int) (s : State) : State :=
  let t := getTb n s
  let u := t.setFine ((t.fine : Int) + d * (2 ^ 48 : Int))
  post 0x7000 ([byte n] ++ zeros 7 ++ sle8 d) (setTb n { u with steps := sat 32 (t.steps + 1) } s)

/-- A pending offset ends with `left` ns abandoned, or 0 (R420, R421). -/
def slewDone (n : Nat) (left : Int) (s : State) : State :=
  post 0x7001 ([byte n] ++ zeros 7 ++ sle8 left) s

/-- Clear a pending offset and post what is abandoned (R421). -/
def abandonSlew (n : Nat) (s : State) : State :=
  let t := getTb n s
  if t.pending = 0 then s
  else slewDone n (fineNs t.pending) (setTb n { t with pending := 0, slewEnd := false } s)

/-- A write of TIM_TB_CFG (R419, R421, R435, Table 15.9): SRC changes only while STOPPED, a SLEW_MAX out of range is
ignored, clearing SLEW_EN abandons a pending offset, ENABLE starts or stops the base. -/
def writeTbCfg (n v : Nat) (s : State) : State :=
  let old := rd Reg.timTbCfg n s
  let t := getTb n s
  let srcBad := decide (bitAt v 1 ≠ bitAt old 1) && decide (t.state ≠ .stopped)
  let v := if srcBad then setFld v 1 1 (fld old 1 1) else v
  let sm := fld v 8 17
  let v := if 1 ≤ sm ∧ sm ≤ 100000 then v else setFld v 8 17 (fld old 8 17)
  let s := { wrRw Reg.timTbCfg n v s with tim := { s.tim with cfgErr := srcBad } }
  let s := if bitAt old 2 ∧ !bitAt v 2 then abandonSlew n s else s
  if bitAt v 0 then (if t.state = .stopped then setTbState n .running 0 s else s)
  else if t.state = .fenced then s else setTbState n .stopped 0 s

/-- A write of TIM_CTRL: a pair bit changes only while both its bases are STOPPED (R435). -/
def writeTimCtrl (v : Nat) (s : State) : State :=
  let old := rd Reg.timCtrl 0 s
  let stopped := fun p => decide ((getTb (2 * p) s).state = .stopped) && decide ((getTb (2 * p + 1) s).state = .stopped)
  let bad0 := decide (bitAt v 2 ≠ bitAt old 2) && !stopped 0
  let bad1 := decide (bitAt v 3 ≠ bitAt old 3) && !stopped 1
  let v := if bad0 then setFld v 2 1 (fld old 2 1) else v
  let v := if bad1 then setFld v 3 1 (fld old 3 1) else v
  { wrRw Reg.timCtrl 0 v s with tim := { s.tim with cfgErr := bad0 || bad1 } }

/-- A write of TIM_PPS_OUT: a WIDTH out of range is ignored (Table 15.9). -/
def writePpsOut (k v : Nat) (s : State) : State :=
  let w := fld v 12 20
  wrRw Reg.timPpsOut k (if 1 ≤ w ∧ w ≤ 500000 then v else setFld v 12 20 (rdFld Reg.timPpsOut k 12 20 s)) s

/-- A write of TIM_PPS_OFS: an OFFSET beyond ±1,000,000 is ignored (Table 15.9). -/
def writePpsOfs (k v : Nat) (s : State) : State :=
  if (toS 32 v).natAbs ≤ 1000000 then wrRw Reg.timPpsOfs k v s else s

/-- A time base's pending offset reaches 0 (R420). -/
def execSlewComplete (tb : Nat) (s : State) : Res :=
  let t := getTb tb s
  within (decide (tb < 4))
    (if (t.pending ≠ 0 ∧ (t.state = .running ∨ t.state = .holdover)) ∨ t.slewEnd then
      let u := t.setFine ((t.fine : Int) + t.pending)
      slewDone tb 0 (setTb tb { u with pending := 0, slewEnd := false } s)
    else s)

/-- The message of Table 15.5 for base `n`. -/
def todBytes (n : Nat) (s : State) : List Byte :=
  let t := getTb (tbSource n s).1 s
  let b := be 2 0x5AA5 ++ [1, byte (n + 4 * b2n (t.state = .holdover) + 8 * b2n t.freqJump)] ++
    be 6 (secOf n s) ++ be 2 (rdFld Reg.timTodCfg 0 16 16 s) ++ zeros 2
  b ++ be 2 (crc16 b)

/-- PPS_OUT k pulses for WIDTH µs, its rising edge OFFSET ns from the second boundary (R433). -/
def pulse (k : Nat) (s : State) : State :=
  emit (.pps k (rdFld Reg.timPpsOut k 12 20 s) (toS 32 (rd Reg.timPpsOfs k s))) s

/-- A time base passes a second boundary: PPS_OUT pulses, and TOD_OUT sends its message after PPS_OUT0, at BAUD_DIV cycles of
CLK_SB a bit (R422, R433). -/
def execSecondBoundary (tb : Nat) (s : State) : Res :=
  let pulses := fun k => bitAt (rd Reg.timPpsOut k s) 0 && decide (rdFld Reg.timPpsOut k 1 2 s = tb)
  within (decide (tb < 4))
    (if tbRuns tb s then
      let t := if pulses 0 then
          let u := pulse 0 s
          if bitAt (rd Reg.timTodCfg 0 s) 0 then emit (.tod (rdFld Reg.timTodCfg 0 1 15 s) (todBytes tb s)) u else u
        else s
      if pulses 1 then pulse 1 t else t
    else s)

/-- An external edge is posted as EV_TIM_EXT_TS with the missed edges counted since the last one (Table 15.8). -/
def postEdge (pin tb : Nat) (falling : Bool) (s : State) : State :=
  let s' := post 0x7004 ([byte pin, byte (b2n falling), byte tb, 0] ++ le 4 (tget s.tim.missed pin) ++
    le 6 (secOf tb s) ++ zeros 2 ++ le 4 (nsOf tb s)) s
  { s' with tim := { s'.tim with missed := tset s'.tim.missed pin 0 } }

/-- The four configuration bits of an input pin (TIM_EVENT_CFG.PINS). -/
def pinCfg (pin : Nat) (s : State) : Nat := rdFld Reg.timEventCfg 0 (4 * pin) 4 s

/-- Whether an edge of a pin is selected. -/
def edgeSelected (pin : Nat) (falling : Bool) (s : State) : Bool :=
  bitAt (pinCfg pin s) 0 && decide (bitAt (pinCfg pin s) 1 = falling)

/-- A selected PPS_IN edge is timestamped and posted (R433). -/
def execPpsInEdge (falling : Bool) (s : State) : Res :=
  .next (if edgeSelected 4 falling s then postEdge 4 (fld (pinCfg 4 s) 2 2) falling s else s)

/-- No PPS_IN edge for 1.1 s (R433): FC194, and EV_TIM_STATE with cause 3. -/
def execPpsInMissing (s : State) : Res :=
  let n := fld (pinCfg 4 s) 2 2
  .next (if bitAt (rd Reg.timEventCfg 0 s) 20 then
    post 0x7002 [byte n, byte (getTb n s).state.num, 3]
      (report 194 12 n [byte n, byte (getTb n s).state.num, 3] s)
  else s)

/-- A selected edge of a pin came within 1 µs of this instant (R433). -/
def edgeNear (pin : Nat) (s : State) : Bool :=
  match tget s.tim.edgeAt pin with
  | none => false
  | some t => decide (s.aon < t + 250)

/-- A selected TS_EVENT_IN edge is timestamped and posted, or, within 1 µs of the previous one, counted as missed (R433). -/
def execTsEventEdge (pin : Nat) (falling : Bool) (s : State) : Res :=
  let t := { s with tim := { s.tim with edgeAt := tset s.tim.edgeAt pin (some s.aon) } }
  within (decide (pin < 4))
    (if edgeSelected pin falling s then
      if edgeNear pin s then { t with tim := { t.tim with missed := tmod t.tim.missed pin fun m => sat 32 (m + 1) } }
      else postEdge pin (fld (pinCfg pin s) 2 2) falling t
    else s)

/-- A time-of-day message arrives on TOD_IN: posted, or discarded on a bad CRC (R433, Table 15.5). -/
def execTodMessage (msg : List Byte) (s : State) : Res :=
  let m := fit 16 msg
  .next (if msg.length = 16 ∧ beAt m 14 2 = crc16 (m.take 14) then post 0x7006 m s
    else report 197 0 0 [] s)

/-! ### Extending a timestamp (R432) -/

/-- The full time of a snapshot from its seconds and the low 32 bits of its count. -/
def snapFull (sec ts : Nat) : Nat :=
  let lo := sec * 1000000000 % 2 ^ 64
  (lo + (ts + 2 ^ 32 - lo % 2 ^ 32) % 2 ^ 32) % 2 ^ 64

/-- The full time of a record's timestamp and wrap phase against the full time `n` of a snapshot. -/
def extendStamp (n ts ph : Nat) : Nat :=
  let c := n / 2 ^ 34 * 2 ^ 34 + ph % 4 * 2 ^ 32 + ts % 2 ^ 32
  if c > n + 2 ^ 33 then (c + 2 ^ 64 - 2 ^ 34) % 2 ^ 64 else if c + 2 ^ 33 < n then (c + 2 ^ 34) % 2 ^ 64 else c

/-! ### Commands (R434, Table 15.7) -/

/-- The base a time command names, checked: BAD_PARAM out of range or with a host buffer, FENCED for a fenced base. -/
def tbCheck (c : Cmd) (s : State) : Option Nat :=
  if c.op 0 1 > 3 ∨ c.len ≠ 0 then some BAD_PARAM
  else if (getTb (c.op 0 1) s).state = .fenced then some ST_FENCED else none

/-- One base's 16 bytes of TIME_READ. -/
def timeReadBytes (n : Nat) (s : State) : List Byte :=
  le 6 (secOf n s) ++ le 2 (fracOf n s) ++ le 4 (nsOf n s) ++ le 4 (stampOf n s).1

/-- TIME_READ captures every base in one CLK_AON cycle. -/
def timeReadCmd (c : Cmd) (s : State) : State × CmdEnd :=
  if c.len ≠ 64 then fail BAD_PARAM s else
  let r := List.range 4
  (s, .done { payload := (r.map fun n => byte (getTb n s).state.num) ++
                [byte (ofBits (r.flatMap fun n => [bitAt (stampOf n s).2 0, bitAt (stampOf n s).2 1]))]
              data := r.flatMap fun n => timeReadBytes n s })

/-- The command TimeRead. -/
def execTimeRead (ref : CmdRef) (s : State) : Res := .next (runCmd 0x70 ref timeReadCmd s)

/-- PAIR_SWITCH switches a pair's active member (R425); 0x82 NOT_RUNNING. -/
def pairSwitchCmd (c : Cmd) (s : State) : State × CmdEnd :=
  let p := c.op 0 1
  let dst := c.op 1 1
  if p > 1 ∨ dst > 1 ∨ c.len ≠ 0 then fail BAD_PARAM s
  else if !paired p s then fail BAD_PARAM s
  else
    let st := (getTb (2 * p + dst) s).state
    if st = .fenced then fail ST_FENCED s
    else if st ≠ .running then fail 0x82 s
    else if pairOdd p s = decide (dst = 1) then okay s
    else okay (switchPair p (decide (dst = 1)) s)

/-- The command PairSwitch. -/
def execPairSwitch (ref : CmdRef) (s : State) : Res := .next (runCmd 0x74 ref pairSwitchCmd s)

/-- The Linen time-base entry (Table 15.10); `pre` is the common prefix. -/
def linenTb (n : Nat) (pre : List Byte) (s : State) : List Byte :=
  let t := getTb n s
  fit 64 (pre ++ le 6 (secOf n s) ++ le 2 (fracOf n s) ++ le 4 (nsOf n s) ++ le 4 (ofS 32 t.trim) ++ sle8 (fineNs t.pending) ++
    le 4 (slewMax n s) ++ sle8 (if n % 2 = 0 ∧ paired (n / 2) s then fineNs (pairCarry (n / 2) s) else 0) ++ le 4 t.steps)

/-- TIM_TB_STAT (Table 15.9). -/
def tbStat (n : Nat) (s : State) : Nat :=
  let t := getTb n s
  t.state.num + 4 * b2n (t.pending ≠ 0) + 8 * b2n t.freqJump +
    16 * b2n (paired (n / 2) s && decide (pairOdd (n / 2) s = decide (n % 2 = 1)))

end Sys2Proof.Machine
end

