-- ==== Sys2Proof/Machine/ColOps.lean ====
section
/-! DEFINITION. The collective engine's operations: jobs and their records, frames that a cluster builds, staging slots,
overflow into Burlap, failure, pacing (11.1 to 11.10). -/
namespace Sys2Proof.Machine

/-! ### Access -/

def getJob (j : Nat) (s : State) : Job := tget s.col.jobs j
def setJob (j : Nat) (x : Job) (s : State) : State := { s with col := { s.col with jobs := tset s.col.jobs j x } }
def modJob (j : Nat) (f : Job → Job) (s : State) : State := setJob j (f (getJob j s)) s
def getSlot (j c : Nat) (s : State) : CSlot := tget (getJob j s).slots c
def setSlot (j c : Nat) (x : CSlot) (s : State) : State := modJob j (fun a => { a with slots := tset a.slots c x }) s
/-- Count in a job counter (Table 11.17). -/
def countJob (j i n : Nat) (s : State) : State :=
  { s with col := { s.col with ctrs := tmod s.col.ctrs (j * 16 + i) fun v => sat 32 (v + n) } }
def jobCtr (j i : Nat) (s : State) : Nat := tget s.col.ctrs (j * 16 + i)

/-! ### The record (Tables 11.6 and 11.7) -/

def Job.f (j : Job) (off k : Nat) : Nat := leAt j.record off k
def Job.root (j : Job) : Bool := decide (j.f 4 1 = 0)
def Job.op (j : Job) : Nat := j.f 5 1
def Job.dt (j : Job) : Nat := j.f 6 1
def Job.eth (j : Job) : Bool := bitAt (j.f 7 1) 1
def Job.children (j : Job) : Nat := j.f 8 2
def Job.elements (j : Job) : Nat := j.f 10 2
def Job.window (j : Job) : Nat := j.f 12 1
/-- A field with a value that 0 stands for. -/
def Job.dflt (j : Job) (off k d : Nat) : Nat := if j.f off k = 0 then d else j.f off k
def Job.maxRetries (j : Job) : Nat := j.dflt 18 1 3
def Job.epochUs (j : Job) : Nat := j.dflt 20 4 1000
def Job.tb (j : Job) : Nat := j.f 24 1 % 4
def Job.member (j : Job) : Nat := j.f 28 2
def Job.parentAddr (j : Job) : List Byte := slice j.record 32 16
def Job.rootAddr (j : Job) : List Byte := slice j.record 48 16
def Job.parentNh (j : Job) : Nat := j.f 64 4 % 2 ^ 18
def Job.rootNh (j : Job) : Nat := j.f 68 4 % 2 ^ 18
/-- SUM, whose partials and accumulators are exact. -/
def Job.sum (j : Job) : Bool := decide (j.op = 0)
def Job.barrier (j : Job) : Bool := decide (j.op = 3)
/-- What the device emits is wide (R338): an INTERIOR node's SUM with WIDE 1 or INT32. -/
def Job.wideOut (j : Job) : Bool := j.sum && !j.root && (bitAt (j.f 7 1) 0 || decide (j.dt = 5))
def Job.outSize (j : Job) : Nat := if j.wideOut then dtWide j.dt else dtSize j.dt
def Job.kid (j : Job) (i : Nat) : List Byte := j.kids.getD i []
def kidAddr (k : List Byte) : List Byte := slice k 0 16
def kidNh (k : List Byte) : Nat := leAt k 16 4 % 2 ^ 18
def kidDevice (k : List Byte) : Bool := bitAt (leAt k 20 1) 1
def kidMember (k : List Byte) : Nat := leAt k 22 2
/-- Every child's bit. -/
def Job.all (j : Job) : Nat := 2 ^ j.children - 1
/-- The job holds slots and takes packets. -/
def Job.runs (j : Job) : Bool := decide (j.st = .running) || decide (j.st = .moving) || decide (j.st = .recovering)

def JobSt.num : JobSt → Nat
  | .free => 0 | .running => 1 | .moving => 2 | .failed => 3 | .recovering => 4

/-- Accumulator bytes, and pages of the two areas of a slot (R332). -/
def Job.accBytes (j : Job) : Nat := if j.barrier then 0 else j.elements * (if j.sum then dtStage j.dt else dtSize j.dt)
def Job.accPages (j : Job) : Nat := (j.accBytes + 4095) / 4096
def Job.emitPages (j : Job) : Nat := if j.barrier then 0 else (j.elements * j.outSize + 4095) / 4096

/-! ### Time (R351) -/

/-- The epoch that time stands in, low 32 bits. -/
def epochNow (j : Job) (s : State) : Nat :=
  (secOf j.tb s * (1000000 / j.epochUs) + nsOf j.tb s / (1000 * j.epochUs)) % 2 ^ 32
/-- Epoch `a` is at or after epoch `b`, by signed difference. -/
def epochReached (a b : Nat) : Bool := decide ((a + 2 ^ 32 - b) % 2 ^ 32 < 2 ^ 31)

/-! ### Frames that a cluster builds (R324, R326) -/

/-- One's complement sum of 16-bit words. -/
def sum16 (bs : List Byte) : Nat :=
  let rec go : List Byte → Nat → Nat
    | a :: b :: r, n => go r (n + a.toNat * 256 + b.toNat)
    | [a], n => n + a.toNat * 256
    | [], n => n
  go bs 0
def fold16 (n : Nat) : Nat := let m := n % 65536 + n / 65536; let k := m % 65536 + m / 65536; k % 65536 + k / 65536
/-- The UDP checksum over an IPv6 pseudo header. -/
def udp6Sum (src dst udp : List Byte) : Nat :=
  let c := 65535 - fold16 (sum16 (src ++ dst ++ be 4 udp.length ++ be 4 17 ++ udp))
  if c = 0 then 65535 else c

/-- What a Rinwald packet carries beside its job's fields. -/
structure RMsg where
  typ : Nat
  flags : Nat := 0
  chunk : Nat := 0
  index : Nat := 0
  elements : Nat := 0
  arg : Nat := 0
  epoch : Nat := 0
  payload : List Byte := []

/-- The Rinwald header of a message that the device sends (Table 11.2). -/
def rinwaldHdr (j : Job) (m : RMsg) (s : State) : List Byte :=
  let st := stampOf j.tb s
  [byte (16 + m.typ), byte (m.flags + 8 * b2n j.self), byte (j.op * 16 + j.dt), byte (getCluster j.cluster s).step] ++
    be 4 (j.f 0 4) ++ be 4 m.chunk ++ be 2 m.index ++ be 2 m.elements ++ be 4 st.1 ++
    [byte (st.2 + 4 * b2n (tbRuns j.tb s)), byte m.arg, 0, 0] ++ be 4 m.epoch ++
    be 4 (if m.payload = [] then 0 else crc32c m.payload)

/-- `w` bits of free values. -/
def takeFreeBits : Nat → State → Nat × State
  | 0, s => (0, s)
  | n + 1, s =>
    let (v, s) := takeFree s
    let (r, s) := takeFreeBits n s
    (v + 2 ^ 64 * r, s)

/-- The frame around it (R325), with the offsets of IPv6, UDP and Rinwald headers. `free` gives the flow
label and, under IPv6, the destination MAC that stands until the edit of stage 12: the job record holds neither. -/
def rinwaldFrame (j : Job) (peer rin : List Byte) (free : Nat) (s : State) : List Byte × Nat :=
  let vlan := j.f 78 2
  let l2 := fun (ty : Nat) => (if j.eth then peer.take 6 else be 6 (free / 2 ^ 64)) ++ slice j.record 72 6 ++
    (if vlan = 0 then [] else be 2 0x8100 ++ be 2 vlan) ++ be 2 ty
  let o := if vlan = 0 then 14 else 18
  if j.eth then (l2 (rdFld Reg.colEncap 0 16 16 s) ++ rin, o)
  else
    let src := slice j.record 80 16
    let len := 8 + rin.length
    let head := be 2 (j.f 98 2) ++ be 2 (rdFld Reg.colEncap 0 0 16 s) ++ be 2 len
    let c := udp6Sum src peer (head ++ [0, 0] ++ rin)
    (l2 0x86DD ++ be 4 (6 * 2 ^ 28 + j.f 97 1 * 2 ^ 20 + free % 2 ^ 20) ++ be 2 len ++ [17, byte (j.f 96 1)] ++ src ++ peer ++
      head ++ be 2 c ++ rin, o)

/-- The flow label and UDP checksum of an IPv6 Rinwald frame, free values; an Ethernet one has none. -/
def flowLabel (eth : Bool) (s : State) : Nat × State := if eth then (0, s) else takeFreeBits 2 s

/-- A cluster hands a frame to admission (R324); it is lost where the peer's next hop is not usable. -/
def sendRin (j : Nat) (peer : List Byte) (nh : Nat) (m : RMsg) (s : State) : State :=
  let x := getJob j s
  let out := resolveHop nh s
  let s := meetHop nh s
  match out with
  | .use hop =>
    let (free, s) := flowLabel x.eth s
    let (f, o) := rinwaldFrame x peer (rinwaldHdr x m s ++ m.payload) free s
    let r := if x.eth then o else o + 48
    let st := stampOf (pktTb s) s
    let t : Tag := { inPort := 0xFFFF, rxTs := st.1, rxPh := st.2, tb := pktTb s, cls := x.f 14 1 % 8, dk := 3, dest := hop,
                     edit := hopEdit (hopRec hop s), qidx := x.f 13 1 % 16, frameLen := f.length + 4 }
    let t := (t.setFlag 14).setSlot 0 0
    let t := if x.eth then t else (t.setSlot 2 o).setSlot 3 (o + 40)
    let t := (t.setSlot 12 r).setSlot 15 (r + 32)
    (newPkt { stage := .ready, tag := t, pipe := 16, frame := f, job := some j, rxTotal := timeOf (pktTb s) s, hop := some hop } s).2
  | _ => s

def sendParent (j : Nat) (m : RMsg) (s : State) : State :=
  let x := getJob j s
  if x.root then s else sendRin j x.parentAddr x.parentNh { m with index := x.childIx } s
def sendRoot (j : Nat) (m : RMsg) (s : State) : State :=
  let x := getJob j s
  if x.root then s else sendRin j x.rootAddr x.rootNh { m with index := x.member } s
def sendChild (j i : Nat) (m : RMsg) (s : State) : State :=
  let k := (getJob j s).kid i
  sendRin j (kidAddr k) (kidNh k) { m with index := i } s
/-- To every child of the mask. -/
def sendKids (j mask : Nat) (m : RMsg) (s : State) : State :=
  (List.range (getJob j s).children).foldl (fun s i => if bitAt mask i then sendChild j i m s else s) s
/-- To every device child, with its member index. -/
def sendDevices (j : Nat) (m : RMsg) (s : State) : State :=
  (getJob j s).kids.foldl (fun s k =>
    if kidDevice k then sendRin j (kidAddr k) (kidNh k) { m with index := kidMember k } s else s) s

/-- CONTRIB with the slot's partial (Table 11.8). -/
def sendPartial (j c : Nat) (retry : Bool) (s : State) : State :=
  let x := getJob j s
  let a := getSlot j c s
  sendParent j { typ := 1, flags := b2n x.wideOut + 2 * b2n retry + 4 * b2n a.partOvf, chunk := c,
                 elements := if x.barrier then 0 else x.elements, payload := a.part } s
def resultMsg (j c : Nat) (s : State) : RMsg :=
  let x := getJob j s
  let a := getSlot j c s
  { typ := 2, flags := 4 * b2n a.resOvf, chunk := c, elements := if x.barrier then 0 else x.elements, payload := a.res }
def sendResends (j c mask : Nat) (s : State) : State :=
  let n := ((List.range (getJob j s).children).filter fun i => bitAt mask i).length
  countJob j 9 n (sendKids j mask { typ := 3, chunk := c } s)
def sendResultReq (j c : Nat) (s : State) : State := countJob j 11 1 (sendParent j { typ := 4, chunk := c } s)
def sendWait (j c : Nat) (s : State) : State := countJob j 10 1 (sendParent j { typ := 5, chunk := c } s)

/-! ### States of jobs and failure (R345) -/

/-- A job's STATE changes: EV_COL_JOB_STATE. -/
def setJobSt (j : Nat) (st : JobSt) (reason : Nat) (s : State) : State :=
  let x := getJob j s
  if x.st = st then s else
  let z := stamp s
  post 0x4000 [byte j, byte st.num, byte reason] (setJob j { x with st := st, fail := reason, changeTs := z.1, changePh := z.2 } s)

/-- ABORT to the parent with this device's child index, to the device children and to the root with its member index
(R345, Table 11.3). -/
def sendAborts (j reason : Nat) (s : State) : State :=
  let x := getJob j s
  let m : RMsg := { typ := 9, arg := reason }
  let s := x.kids.foldl (fun s k =>
    if kidDevice k then sendRin j (kidAddr k) (kidNh k) { m with index := x.member } s else s) (sendParent j m s)
  if x.rootAddr = x.parentAddr then s else sendRoot j m s

/-- The device holds no slot of a job any more. -/
def freeSlots (j : Nat) (s : State) : State := modJob j (fun x => { x with slots := [], log := [], blocks := [] }) s

/-- A job fails (R345). -/
def failJob (j reason : Nat) (s : State) : State :=
  let x := getJob j s
  if !x.runs then s
  else sendAborts j reason (freeSlots j (report 132 14 j [byte j, byte reason] (setJobSt j .failed reason s)))

/-! ### Staging and overflow (R332, R346 to R348) -/

/-- Staging pages that a slot holds. -/
def slotPages (x : Job) (a : CSlot) : Nat :=
  match a.st with
  | .free => 0
  | .opened => x.accPages + x.emitPages
  | _ => x.emitPages
def usedPages (k : Nat) (s : State) : Nat :=
  s.col.jobs.foldl (fun n e => if e.2.cluster = k then e.2.slots.foldl (fun n a => n + slotPages e.2 a.2) n else n) 0
def freePages (k : Nat) (s : State) : Nat := 3072 - usedPages k s

/-- Overflow blocks in use. -/
def ovfUsed (s : State) : List Nat := s.col.jobs.flatMap fun e => e.2.blocks ++ e.2.slots.flatMap fun a => a.2.blocks
def ovfAddr (b : Nat) (s : State) : Nat := rd Reg.colOvfBase 0 s + 65536 * b
/-- The lowest free blocks of the overflow region, `n` of them, from `i` on. -/
def ovfFind (used : List Nat) (s : State) : Nat → Nat → Nat → List Nat
  | 0, _, _ => []
  | fuel + 1, i, n =>
    if n = 0 then []
    else if !used.contains i && chanTakes (chanOfAddr (ovfAddr i s) s) s then i :: ovfFind used s fuel (i + 1) (n - 1)
    else ovfFind used s fuel (i + 1) n
def ovfTake (n : Nat) (s : State) : Option (List Nat) :=
  let l := ovfFind (ovfUsed s) s (rd Reg.colOvfBlocks 0 s) 0 n
  if l.length = n then some l else none
/-- A burst lies in one of these overflow blocks. -/
def inBlocks (bs : List Nat) (burst : Nat) (s : State) : Bool := bs.any fun b => ovfAddr b s / 65536 == burst / 1024
/-- Blocks are written anew: none of them is lost any more, and no upset stands in them; their channels leave self-refresh
(R411). -/
def ovfFresh (bs : List Nat) (s : State) : State :=
  let s := bs.foldl (fun s b => chanUsed (chanOfAddr (ovfAddr b s) s) s) s
  bs.foldl (fun s b => { s with mem := { s.mem with lostGran := tset s.mem.lostGran (ovfAddr b s / 65536) false } })
    { s with upset := s.upset.filter fun e => !(e.1 % 64 == memBurst && inBlocks bs (e.1 / 64) s) }
/-- Blocks are read back: correctable errors are mended with FC179, uncorrectable ones recorded as FC178 (R404, R406). Answers
whether every block was readable. -/
def ovfRead (bs : List Nat) (s : State) : Bool × State :=
  let hit := (upsetItems memBurst s).filter fun e => inBlocks bs e.1 s
  let s := bs.foldl (fun s b => chanUsed (chanOfAddr (ovfAddr b s) s) s) s
  (hit.all fun e => e.2 != 2, hit.foldl (fun s e => burlapScan (64 * e.1) 64 s) s)
def blocksOf (bytes : Nat) : Nat := (bytes + 65535) / 65536
def CPkt.size (p : CPkt) : Nat := p.hdr.length + p.payload.length
def logBytes (l : List CPkt) : Nat := l.foldl (fun n p => n + p.size) 0

/-- A contribution is discarded for lack of overflow blocks (R348). -/
def ovfDrop (j : Nat) (s : State) : State :=
  let x := getJob j s
  let times := (x.ovfTimes.filter fun t => decide (s.aon < t + aonMs)) ++ [s.aon]
  let s := countJob j 8 1 s
  let due := match x.ovfAt with
    | none => true
    | some t => decide (s.aon ≥ t + aonMs)
  if due then
    let s := setJob j { x with ovfTimes := times, ovfAt := some s.aon } s
    post 0x4004 ([byte j, 0, 0, 0] ++ le 4 times.length) (report 133 14 0 ([byte j, 0, 0, 0] ++ le 4 times.length) s)
  else setJob j { x with ovfTimes := times } s

/-- One slot of a job whose staging is lost (Table 11.12). -/
def recoverSlot (j c : Nat) (s : State) : State :=
  let s := clearUpset memStaging (2 ^ 32 * j + c) s
  let a := getSlot j c s
  match a.st with
  | .opened | .emitted =>
    let s := setSlot j c { st := .opened, order := a.order, first := refNs s, again := true } s
    sendResends j c (getJob j s).all s
  | .retained => sendResultReq j c (setSlot j c { a with st := .recover, part := [], res := [], again := true } s)
  | _ => s

/-- The staging of a slot is read (R361, Table 11.14): a correctable error is mended (FC129); a slot with an uncorrectable one
is recovered as Table 11.12 (FC128), or, RETAINED at the ROOT, fails its job with reason 3 as R359 does; an OPEN slot whose sum
fails its residue check is recovered as one (FC130). -/
def meetStaging (j c : Nat) (s : State) : State :=
  let item := 2 ^ 32 * j + c
  let x := getJob j s
  let st := (getSlot j c s).st
  let note := fun (cls : Nat) => report cls 8 x.cluster ([byte j, 0, 0, 0] ++ le 4 c) (clearUpset memStaging item s)
  match upsetOf memStaging item s with
  | 1 => note 129
  | 2 => if st = .retained ∧ x.root then failJob j 3 (note 128) else recoverSlot j c (note 128)
  | 3 => if st = .opened then recoverSlot j c (note 130) else s
  | _ => s

/-- The oldest OPEN slot of a cluster: job and chunk (R346). -/
def oldestOpen (k : Nat) (s : State) : Option (Nat × Nat) :=
  let all := s.col.jobs.flatMap fun e =>
    if e.2.cluster = k then (e.2.slots.filter fun a => a.2.st == .opened).map fun a => (a.2.order, e.1, a.1) else []
  all.foldl (fun (b : Option (Nat × Nat × Nat)) a => match b with
    | none => some a
    | some c => if a.1 < c.1 then some a else b) none |>.map fun a => a.2

/-- Evict a slot to the overflow region (R346); its accumulator is read for it. -/
def evict (j c : Nat) (s : State) : Option State :=
  (ovfTake (blocksOf (getJob j s).accBytes) s).map fun bs =>
    let s := ovfFresh bs (meetStaging j c s)
    let n := s.col.evictions + 1
    let a := getSlot j c s
    countJob j 12 1 (setSlot j c { a with st := .spilled, blocks := bs, evicted := n } { s with col := { s.col with evictions := n } })

/-- Evict OPEN slots of a cluster, oldest first, until `n` pages are free (R346); none where that fails, with the
evictions made undone by nothing: the state after them is the second result. -/
def makeRoom (k n : Nat) : Nat → State → Bool × State
  | 0, s => (decide (n ≤ freePages k s), s)
  | fuel + 1, s =>
    if n ≤ freePages k s then (true, s)
    else match oldestOpen k s with
      | none => (false, s)
      | some (j, c) => match evict j c s with
        | none => (false, s)
        | some t => makeRoom k n fuel t
def openSlots (k : Nat) (s : State) : Nat :=
  s.col.jobs.foldl (fun n e => if e.2.cluster = k then n + (e.2.slots.filter fun a => a.2.st == .opened).length else n) 0

/-- Blocks of a slot that are lost or no longer served (R348, R413, R414). -/
def ovfLost (bs : List Nat) (s : State) : Bool :=
  bs.any fun b => tget s.mem.lostGran (ovfAddr b s / 65536) || !halfServes (halfOf (ovfAddr b s) s) s

/-! ### Accumulating (R336 to R340) -/

/-- One element enters a SUM entry: the entry, whether the element was inexact, and the state that has drawn a free
value where the sum leaves the accumulator. -/
def takeElem (dt : Nat) (wide : Bool) (a : ElemAcc) (n : Nat) (s : State) : ElemAcc × Bool × State :=
  let e := enter dt wide n
  let bad := match e with
    | .value _ _ ex => !ex
    | _ => false
  let (b, ok) := a.take (dtBits dt) e
  if ok then (b, bad, s)
  else
    let (v, s) := takeFreeBits (dtBits dt / 64 + 1) s
    ({ b with v := toS (dtBits dt) v }, bad, s)

/-- The elements of a payload. -/
def elems (size n : Nat) (bs : List Byte) : List Nat := (chunks size n bs).map beNat

def takeSum (dt : Nat) (wide : Bool) (acc : List ElemAcc) (l : List Nat) (s : State) : List ElemAcc × Nat × State :=
  let (r, n, s) := (acc.zip l).foldl (fun (x : List ElemAcc × Nat × State) e =>
    let (a, bad, t) := takeElem dt wide e.1 e.2 x.2.2
    (a :: x.1, x.2.1 + b2n bad, t)) ([], 0, s)
  (r.reverse, n, s)

/-- A contribution enters a slot's accumulator and sets its child's bit. -/
def takeContrib (j c : Nat) (p : CPkt) (s : State) : State :=
  let x := getJob j s
  let a := getSlot j c s
  let i := beAt p.hdr 12 2
  let fl := byteAt p.hdr 1
  let wide := bitAt fl 0 && x.sum
  let size := if wide then dtWide x.dt else dtSize x.dt
  let l := if x.barrier then [] else elems size x.elements p.payload
  let (acc, n, s) :=
    if x.sum then takeSum x.dt wide (if a.acc = [] then List.replicate x.elements {} else a.acc) l s
    else if a.bits = 0 ∨ a.acc = [] then (l.map fun v => ({ v := ((nanOf x.dt v).getD v : Nat) } : ElemAcc), 0, s)
    else ((a.acc.zip l).map fun e => { e.1 with v := (extreme x.dt (decide (x.op = 2)) e.1.v.toNat e.2 : Nat) }, 0, s)
  let s := countJob j 13 n s
  let s := modJob j (fun x => { x with inexact := x.inexact || decide (n ≠ 0), ovf := x.ovf || bitAt fl 2
                                       late := max x.late (refNs s - (if a.bits = 0 then refNs s else a.first)) }) s
  setSlot j c { a with acc := acc, bits := a.bits ||| 2 ^ i, retries := 0, ovf := a.ovf || bitAt fl 2,
                       first := if a.bits = 0 then refNs s else a.first } s

/-- BASE moves past every FREE chunk (Table 11.8). -/
def advanceBase (j : Nat) : Nat → State → State
  | 0, s => s
  | n + 1, s =>
    let x := getJob j s
    if (tget x.slots x.base).st = .free ∧ x.slots ≠ [] then
      advanceBase j n (setJob j { x with base := (x.base + 1) % 2 ^ 32 } s)
    else s

/-- The slot of chunk c reached EMITTED or RETAINED: that of chunk c − WINDOW is freed (Table 11.8). -/
def freeOld (j c : Nat) (s : State) : State :=
  let x := getJob j s
  let o := (c + 2 ^ 32 - x.window) % 2 ^ 32
  if (getSlot j o s).st = .retained then advanceBase j (2 * x.window) (setSlot j o {} s) else s

/-- A recovering job whose slots have all recovered runs again. -/
def recovered (j : Nat) (s : State) : State :=
  let x := getJob j s
  if x.st = .recovering ∧ x.slots.all (fun a => !a.2.again) then setJobSt j .running 0 s else s

/-- A slot reached RETAINED with a result: it goes to every child (Table 11.8). -/
def retain (j c : Nat) (payload : List Byte) (ovf : Bool) (s : State) : State :=
  let a := getSlot j c s
  let s := clearUpset memStaging (2 ^ 32 * j + c) s
  let s := setSlot j c { a with st := .retained, res := payload, resOvf := ovf, acc := [], again := false } s
  let s := modJob j (fun x => { x with done := sat 32 (x.done + 1), ovf := x.ovf || ovf }) s
  let s := sendKids j (getJob j s).all (resultMsg j c s) s
  recovered j (freeOld j c s)

/-- The elements of a complete slot as emitted, with how many saturated (R338 to R340). -/
def roundSlot (x : Job) (a : CSlot) : List Byte × Nat :=
  if x.barrier then ([], 0)
  else
    let l := a.acc.map fun e => if x.sum then e.emit x.dt x.wideOut else (e.v.toNat, false)
    (l.flatMap fun e => be x.outSize e.1, (l.filter fun e => e.2).length)

/-- An OPEN slot whose last bit is set (Table 11.8). -/
def completeSlot (j c : Nat) (s : State) : State :=
  let x := getJob j s
  let a := getSlot j c s
  if a.st ≠ .opened ∨ a.bits ≠ x.all then s
  else
    let (bytes, n) := roundSlot x a
    let s := countJob j 14 n s
    let ovf := a.ovf || decide (n ≠ 0)
    if x.root then retain j c bytes ovf s
    else
      let s := setSlot j c { a with st := .emitted, part := bytes, partOvf := ovf, acc := [], again := false } s
      let s := modJob j (fun x => { x with ovf := x.ovf || ovf }) s
      recovered j (freeOld j c (sendPartial j c false s))

/-! ### Pacing (R350 to R355) -/

/-- Jobs that run in a cluster. -/
def jobsOf (k : Nat) (s : State) : List Nat := (s.col.jobs.filter fun e => e.2.runs && e.2.cluster == k).map fun e => e.1
/-- Lowest agreed step of a cluster's pace group (R350). -/
def groupStep (k : Nat) (s : State) : Nat := (jobsOf k s).foldl (fun a j => min a (getJob j s).agreed) 7
/-- The step that a cluster has or is changing to. -/
def Cluster.eff (c : Cluster) : Nat := c.changing.getD c.step

/-- STRAGGLER to the parent and the root (R355). -/
def sendStraggler (j : Nat) (step : Nat) (s : State) : State :=
  let x := getJob j s
  let m : RMsg := { typ := 8, arg := step, epoch := epochNow x s }
  let s := if x.root then s else sendRin j x.parentAddr x.parentNh { m with index := x.member } s
  if x.rootAddr = x.parentAddr then s else sendRoot j m s

/-- This member begins or ceases to be a straggler of a job (R350, R355). -/
def lookJob (j : Nat) (s : State) : State :=
  let x := getJob j s
  let c := getCluster x.cluster s
  let turn := fun (on : Bool) =>
    sendStraggler j c.eff (post 0x4001 ([byte j, byte (b2n on), byte c.eff, 0] ++ le 2 0xFFFF) (setJob j { x with self := on } s))
  if !x.runs then s
  else if !x.self ∧ c.eff < x.agreed then turn true
  else if x.self ∧ c.step ≥ x.agreed ∧ c.eff ≥ x.agreed then turn false
  else s
def lookCluster (k : Nat) (s : State) : State := (jobsOf k s).foldl (fun s j => lookJob j s) s

/-- A step change of a cluster starts (R351). -/
def startChange (k t : Nat) (s : State) : State :=
  railFollow s (modCluster k (fun c => { c with changing := some t, raise := none, railUp := false, due := false }) s)

/-- The rail of a cluster is raised for a step that it will take (R464, R465). -/
def seekRail (k t : Nat) (due : Bool) (s : State) : State :=
  railFollow s (modCluster k (fun c => { c with raise := some t, railUp := railServes (clusterDom k) t s, due := due }) s)

/-- The step that a cluster takes at an epoch boundary: its pace group's, a rise being no higher than its ceiling (R350,
R477). -/
def clusterAim (k : Nat) (s : State) : Nat :=
  let c := getCluster k s
  let g := groupStep k s
  if g ≤ c.eff then g else max c.eff (min g (clusterCeil k s))

/-- A cluster follows its pace group (R350, R351, R465): false where the rail is not ready. -/
def followGroup (k : Nat) (s : State) : Bool × State :=
  let c := getCluster k s
  let t := clusterAim k s
  if jobsOf k s = [] ∨ t = c.eff then (true, s)
  else if c.changing.isSome then (true, modCluster k (fun c => { c with due := true }) s)
  else if t < c.step then (true, startChange k t s)
  else if railServes (clusterDom k) t s ∨ (c.railUp ∧ t ≤ c.raise.getD 0) then (true, startChange k t s)
  else (false, seekRail k t true s)

/-- A rail is sought for the highest step that a pending change brings (R465). -/
def foreseeRail (k : Nat) (s : State) : State :=
  let want := (jobsOf k s).foldl (fun a j =>
    let x := getJob j s
    min a (match x.pend.getLast? with | some p => p.step | none => x.agreed)) (clusterCeil k s)
  let c := getCluster k s
  if jobsOf k s ≠ [] ∧ want > c.eff ∧ c.raise.isNone then seekRail k want false s else s

/-- A cluster is lowered at once (R355, R472, R477, R479). -/
def dropCluster (k t : Nat) (s : State) : State :=
  if t < (getCluster k s).eff then lookCluster k (startChange k t s) else s

/-- This member's ceiling for a job (R352). -/
def jobCeil (j : Nat) (s : State) : Nat :=
  let x := getJob j s
  min (clusterCeil x.cluster s) (x.host.getD 7)

/-- PACE to the root (R352). -/
def sendPace (j arg : Nat) (s : State) : State := sendRoot j { typ := 6, arg := arg, epoch := epochNow (getJob j s) s } s

/-- A member's ceiling may have changed: PACE at once (R352). -/
def lookCeil (j : Nat) (s : State) : State :=
  let x := getJob j s
  let c := jobCeil j s
  if !x.runs ∨ c = x.ceil then s
  else
    let s := setJob j { x with ceil := c } s
    if c = x.agreed then s else sendPace j c s
def lookCeils (s : State) : State := (s.col.jobs.map fun e => e.1).foldl (fun s j => lookCeil j s) s

/-- Announce a change: pending here, passed to the device children (R353). -/
def announce (j : Nat) (p : StepSet) (s : State) : State :=
  let s := modJob j (fun x => { x with pend := x.pend ++ [p], last := some { p with late := false } }) s
  foreseeRail (getJob j s).cluster (sendDevices j { typ := 7, arg := p.step, epoch := p.epoch } s)

/-- The root's minimum of proposals: its own is its ceiling (R353). -/
def minProposal (x : Job) (own : Nat) : Nat :=
  (List.range (x.f 26 2)).foldl (fun a m =>
    if m = x.member then a else min a (match tget x.props m with | 0 => x.f 15 1 | v => v - 1)) own

/-- Pending changes whose boundary has come are applied (R354); `n` is the epoch that begins. -/
def applyPend (j n : Nat) (s : State) : State :=
  let x := getJob j s
  let (now, rest) := x.pend.partition fun p => epochReached n p.epoch || p.late
  let s := setJob j { x with pend := rest } s
  now.foldl (fun s p =>
    let s := modJob j (fun x => { x with agreed := p.step }) s
    let s := post 0x4002 ([byte j, byte p.step, 0, 0] ++ le 4 p.epoch ++ [0]) s
    if p.late then report 135 14 j [byte j] (countJob j 15 1 s) else s) s

/-! ### Receiving (R323, R328) -/

/-- A chunk in the window of a job (R331): 0 inside, else the counter, AHEAD or STALE. -/
def windowOf (x : Job) (c : Nat) : Nat :=
  let d := (c + 2 ^ 32 - x.base) % 2 ^ 32
  if d < 2 * x.window then 0 else if d ≥ 2 ^ 31 then 5 else 4

/-- The header and the lengths are consistent with the job (first row of Table 11.4). -/
def hdrOk (x : Job) (p : CPkt) : Bool :=
  let h := p.hdr
  let t := byteAt h 0 % 16
  let fl := byteAt h 1
  let n := beAt h 14 2
  let wide := bitAt fl 0 && x.sum
  let data := (decide (t = 1) || decide (t = 2)) && !x.barrier
  decide (h.length = 32) && decide (byteAt h 0 / 16 = 1) && decide (1 ≤ t) && decide (t ≤ 9) && decide (fl < 16) &&
  decide (byteAt h 3 < 8) && decide (byteAt h 20 < 8) && decide (beAt h 22 2 = 0) &&
  decide (byteAt h 2 = x.op * 16 + x.dt) &&
  (if data then decide (n = x.elements) && !(decide (t = 2) && wide) &&
      decide (p.payload.length = n * (if wide then dtWide x.dt else dtSize x.dt))
   else decide (n = 0) && decide (p.payload.length = 0))

/-- The address that a packet must come from; none where its sender has no entry here. -/
def senderOk (x : Job) (p : CPkt) : Bool :=
  let t := byteAt p.hdr 0 % 16
  let ix := beAt p.hdr 12 2
  let n := if x.eth then 6 else 16
  let same := fun (a : List Byte) => a.take n == p.src.take n
  let child := decide (ix < x.children) && same (kidAddr (x.kid ix))
  let dev := x.kids.filter fun k => kidDevice k && kidMember k == ix
  (x.eth == p.eth) &&
  (if t = 1 ∨ t = 4 ∨ t = 5 then child
   else if t = 2 ∨ t = 3 ∨ t = 7 then !x.root && same x.parentAddr
   else if t = 9 then x.root || same x.parentAddr || same x.rootAddr || x.kids.any fun k => same (kidAddr k)
   else dev.isEmpty || dev.any fun k => same (kidAddr k))

/-- The first failing check of Table 11.4, apart from room: a counter. -/
def recvCheck (p : CPkt) (s : State) : Option Nat :=
  let x := getJob p.job s
  let t := byteAt p.hdr 0 % 16
  if x.st ≠ .free ∧ !hdrOk x p then some 0
  else if !x.runs ∨ beAt p.hdr 4 4 ≠ x.f 0 4 then some 1
  else if !senderOk x p then some 2
  else if beAt p.hdr 28 4 ≠ (if p.payload = [] then 0 else crc32c p.payload) then some 3
  else if t ≤ 5 ∧ windowOf x (beAt p.hdr 8 4) ≠ 0 then some (windowOf x (beAt p.hdr 8 4))
  else none

/-- The Rinwald packet in a frame. -/
def rinwaldOf (i : Nat) (j : Nat) (s : State) : CPkt :=
  let p := getPkt i s
  let x := getJob j s
  let o := p.tag.slot 12
  let ip := p.tag.slot 2
  let hdr := (p.frame.drop o).take 32
  let rest := p.frame.drop (o + 32)
  let size := if bitAt (byteAt hdr 1) 0 && x.sum then dtWide x.dt else dtSize x.dt
  let n := if ip = 255 then beAt hdr 14 2 * size else beAt p.frame (o - 8 + 4) 2 - 40
  { pipe := p.pipe, job := j, eth := decide (ip = 255),
    src := if ip = 255 then fit 16 (slice p.frame 6 6) else slice p.frame (ip + 8) 16,
    hdr := hdr, payload := rest.take n }

/-- A packet that R323 admits reaches the cluster of its job: checked, then queued if there is room (R319, Table 11.4). -/
def colReceive (i j : Nat) (s : State) : State :=
  let p := rinwaldOf i j s
  let s := endPkt i s
  let k := (getJob j s).cluster
  let c := getCluster k s
  match recvCheck p s with
  | some n => countJob j n 1 s
  | none =>
    if c.q.foldl (fun n p => n + p.size) 0 + p.size > 262144 then countJob j 7 1 s
    else setCluster k { c with q := c.q ++ [p] } s

/-- The engine accepts the packet's encapsulation (R323). -/
def encapOk (p : Pkt) (s : State) : Bool :=
  let v := rd Reg.colCtrl 0 s
  bitAt v 0 && p.tag.flag 14 && bitAt v (if p.tag.slot 2 = 255 then 2 else 1)

/-! ### Placement (R357) -/

/-- A cluster in service: not fenced nor being fenced, and powered. -/
def clusterIn (k : Nat) (s : State) : Bool := !fencedU 8 k s && (getUnit 8 k s).draining.isNone && domServes (clusterDom k) s
/-- Jobs that a cluster holds. -/
def jobsHeld (k : Nat) (s : State) : Nat := (s.col.jobs.filter fun e => e.2.st != .free && e.2.cluster == k).length

/-- The cluster that R357 gives a job of an agreed step. -/
def placeJob (step : Nat) (s : State) : Option Nat :=
  let ks := (List.range 4).filter fun k => clusterIn k s
  let best := (ks.filter fun k => jobsOf k s ≠ [] && groupStep k s == step).foldl (fun (b : Option Nat) k => match b with
    | none => some k
    | some a => if freePages k s > freePages a s then some k else b) none
  match best with
  | some k => some k
  | none => ks.find? fun k => jobsHeld k s == 0

/-- A job starts to move (R358). -/
def startMove (j k : Nat) (s : State) : State := setJobSt j .moving 0 (modJob j (fun x => { x with dest := k }) s)

/-- Every job of a cluster that is fenced by command moves, or fails with reason 4 (R358). -/
def moveAll (k : Nat) (s : State) : State :=
  (jobsOf k s).foldl (fun s j => match placeJob (getJob j s).agreed s with
    | some d => startMove j d s
    | none => failJob j 4 s) s

/-- Jobs that were moving to a cluster which leaves service find another (R357). -/
def redirectMoves (k : Nat) (s : State) : State :=
  ((s.col.jobs.filter fun e => e.2.st == .moving && e.2.dest == k).map fun e => e.1).foldl (fun s j =>
    match placeJob (getJob j s).agreed s with
    | some d => modJob j (fun x => { x with dest := d }) s
    | none => failJob j 4 s) s

def CPkt.index (p : CPkt) : Nat := beAt p.hdr 12 2
def CPkt.chunk (p : CPkt) : Nat := beAt p.hdr 8 4
def CPkt.retry (p : CPkt) : Bool := bitAt (byteAt p.hdr 1) 1

/-- A contribution joins a log in the overflow region, which takes a block where its last one is full (R346, R358). -/
def logRoom (log : List CPkt) (p : CPkt) (s : State) : Option (List Nat) :=
  ovfTake (blocksOf (logBytes log + p.size) - blocksOf (logBytes log)) s

/-- A contribution to a slot of a job that is not moving (Table 11.8). -/
def contribSlot (p : CPkt) (s : State) : State :=
  let j := p.job
  let c := p.chunk
  let x := getJob j s
  let a := getSlot j c s
  let i := p.index
  match a.st with
  | .free =>
    let (ok, s) := makeRoom x.cluster (x.accPages + x.emitPages) (openSlots x.cluster s) s
    if ok then
      let n := s.col.opened + 1
      let s := clearUpset memStaging (2 ^ 32 * j + c) s
      let s := setSlot j c { st := .opened, order := n } { s with col := { s.col with opened := n } }
      completeSlot j c (takeContrib j c p s)
    else ovfDrop j s
  | .opened => if bitAt a.bits i then countJob j 6 1 s else completeSlot j c (takeContrib j c p s)
  | .spilled =>
    if bitAt a.bits i then countJob j 6 1 s
    else match logRoom a.log p s with
      | none => ovfDrop j s
      | some bs =>
      setSlot j c { a with log := a.log ++ [p], blocks := a.blocks ++ bs, bits := a.bits ||| 2 ^ i, retries := 0 } (ovfFresh bs s)
  | .retained => if p.retry then sendChild j i (resultMsg j c s) s else countJob j 6 1 s
  | _ => countJob j 6 1 s

/-- A job that has moved takes the contributions of its log, and its new cluster looks at its step (R351, R358). -/
def takeLog (j k : Nat) (log : List CPkt) (s : State) : State :=
  let s := log.foldl (fun s p => if windowOf (getJob j s) p.chunk = 0 then contribSlot p s else s) s
  lookCluster k (followGroup k s).2

/-- A cluster is fenced by a fault: only its staging is lost, and its jobs move; the log of a job that was moving already
is taken in the new cluster (R358, R359). -/
def loseCluster (k : Nat) (s : State) : State :=
  let s := redirectMoves k (modCluster k (fun c => { c with q := [] }) s)
  (jobsOf k s).foldl (fun s j =>
    let x := getJob j s
    if x.root ∧ x.slots.any fun a => a.2.st == .retained then failJob j 3 s
    else match placeJob x.agreed s with
      | none => failJob j 4 s
      | some d =>
        let (_, s) := makeRoom d (x.slots.foldl (fun n a => n + slotPages x a.2) 0) (openSlots d s) s
        let s := modJob j (fun x => { x with cluster := d, log := [], blocks := [] }) s
        let s := x.slots.foldl (fun s e => recoverSlot j e.1 s) s
        let s := post 0x4005 [byte j, byte k, byte d, 0] s
        let s := if (getJob j s).slots.any fun a => a.2.again then setJobSt j .recovering 0 s else setJobSt j .running 0 s
        takeLog j d x.log s) s

end Sys2Proof.Machine
end

