-- ==== Sys2Proof/Machine/Ingress.lean ====
section
/-! DEFINITION. Ingress stages 2 to 9 (07_tables.md, 08_actions_and_egress.md 8.1 and 8.2). A stage takes a packet and
answers it as the next stage finds it. -/
namespace Sys2Proof.Machine

/-- The layout record of a packet's KIND (Table 19.8). -/
def layoutOf (p : Pkt) (s : State) : Nat := tget s.pip.layouts (p.tag.kind % 32)

/-- Bytes of the key buffer that `n` ranges name, concatenated; ranges start at byte `off` of the layout. -/
def keyRanges (lay off : Nat) (key : List Byte) (n : Nat) : List Byte :=
  (List.range n).flatMap fun i => slice key (fld lay (8 * (off + 2 * i)) 8) (fld lay (8 * (off + 2 * i + 1)) 8)

/-- Stage 7 or a profile ends the packet's way: DEST_KIND 7 with its reason. -/
def Pkt.toDrop (p : Pkt) (reason : Nat) : Pkt := { p with tag := { p.tag with dk := 7 }, reason := reason }

/-! ### Stage 2 (R198, R199) -/

/-- The VLAN tag after slot 0. -/
def vlanOf (p : Pkt) : Option Nat :=
  let o := p.tag.slot 0
  let ty := beAt p.frame (o + 12) 2
  if o ≠ 255 ∧ (ty = 0x8100 ∨ ty = 0x88A8) then some (beAt p.frame (o + 14) 2) else none

/-- Classify: none where the tag rule discards the frame. -/
def stage2 (p : Pkt) (s : State) : Option Pkt :=
  let r := tget s.tbl.ports p.tag.inPort
  let prof := tget s.tbl.profiles (fld r 24 4)
  let v := vlanOf p
  if (v.isSome && bitAt r 17) || (v.isNone && bitAt r 16) then none
  else
    let vid := match v with
      | some t => if t % 4096 = 0 then fld r 0 12 else t % 4096
      | none => fld r 0 12
    let ip := p.tag.slot 2
    let cls :=
      if bitAt r 19 && decide (ip ≠ 255) then fld prof (64 + 8 * (tosAt p.frame ip / 4)) 5
      else match v with
        | some t => if bitAt r 18 then fld prof (8 * (t / 8192)) 5 else fld r 48 5
        | none => fld r 48 5
    let key := splice p.key (fld (layoutOf p s) 32 8) (le 2 (fld r 32 12))
    some { p with tag := { p.tag with vid := vid, cls := cls }, key := key }

/-! ### Stage 3 (R200) -/

/-- An endpoint record matches a destination address: record bytes 1 FLAGS, 2 and 3 VRF, 4 to 19 ADDR. -/
def endpointHit (e vrf : Nat) (six : Bool) (dst : List Byte) : Bool :=
  bitAt e 8 && (bitAt e 9 == six) && fld e 16 12 == vrf && (le 16 (fld e 32 128)).take dst.length == dst

def stage3 (p : Pkt) (s : State) : Pkt :=
  let o := p.tag.slot 2
  let six := decide (byteAt p.frame o / 16 = 6)
  let dst := if six then slice p.frame (o + 24) 16 else slice p.frame (o + 16) 4
  let vrf := fld (tget s.tbl.ports p.tag.inPort) 32 12
  if p.tag.slot 4 ≠ 255 ∧ o ≠ 255 ∧ fld p.tag.err 0 5 = 0 ∧ s.tbl.endpoints.any (fun e => endpointHit e.2 vrf six dst) then
    { p with tag := p.tag.setFlag 11 }
  else p

/-! ### Stage 4 (R203, R204, R214, R323) -/

/-- Run an action profile; one that cannot be read gives DEST_KIND 7 (FC068). -/
def applyProfile (n data stage : Nat) (p : Pkt) (s : State) : Pkt × State :=
  if upsetOf memProfile (p.pipe * 256 + n) s = 2 then (p.toDrop 4, report 68 4 p.pipe (le 8 n) s)
  else
    let s := if upsetOf memProfile (p.pipe * 256 + n) s = 1 then
        report 69 14 n (le 8 n) (clearUpset memProfile (p.pipe * 256 + n) s)
      else s
    (runProfile (tget s.pip.profiles n) data stage p, s)

/-- The source lookup: the hit bit, and a learn candidate (R214). -/
def sourceLookup (p : Pkt) (s : State) : Pkt × State :=
  let lay := layoutOf p s
  let key := fit 22 (keyRanges lay 8 p.key 4)
  let typ := fld lay 8 6
  let cfg := rd Reg.tblType typ s
  let s := emMeet key typ s
  let learns := bitAt (rd Reg.tblCtrl 0 s) 0 && bitAt cfg 0 && decide (fld p.tag.err 0 8 = 0) && !p.tag.flag 10
  match emFind key typ s with
  | none => (p, if learns ∧ bitAt cfg 1 then learnCandidate key typ none p s else s)
  | some i =>
    let e := getEm i s
    let s := emHit i s
    let held := fld e.data (fld cfg 4 6) 10
    ({ p with emSrc := some i },
      if learns ∧ bitAt cfg 2 ∧ !e.pinned ∧ held ≠ p.tag.inPort then learnCandidate key typ (some held) p s else s)

/-- The destination lookup and its profile. -/
def destLookup (p : Pkt) (s : State) : Pkt × State :=
  let lay := layoutOf p s
  let key := fit 22 (keyRanges lay 16 p.key 4)
  let typ := fld lay 16 6
  let s := emMeet key typ s
  match emFind key typ s with
  | none => (p, s)
  | some i =>
    let e := getEm i s
    applyProfile e.profile e.data 4 { p with emDst := some i } (emHit i s)

def stage4 (p : Pkt) (s : State) : Pkt × State :=
  let lay := layoutOf p s
  let (p, s) := if bitAt lay 0 then sourceLookup p s else (p, s)
  if bitAt lay 1 then destLookup p s else (p, s)

/-- A packet that R323 does not admit: DEST_KIND 7, and BAD_JOB where its job is not free. -/
def notAdmitted (p : Pkt) (s : State) : Pkt × State :=
  let j := p.tag.dest % 128
  (p.toDrop 4, if (getJob j s).st = .free then s else countJob j 1 1 s)

/-! ### Stages 5 and 6 (R221, R223) -/

def stage5 (p : Pkt) (s : State) : Pkt × State :=
  let lay := layoutOf p s
  if p.tag.dk ≠ 0 ∨ !bitAt lay 2 then (p, s)
  else
    let six := decide (fld lay 48 8 = 6)
    let vrf := leAt p.key (fld lay 32 8) 2 % 4096
    let addr := beAt p.key (fld lay 40 8) (if six then 16 else 4)
    match lpmLookup vrf six addr s with
    | none => (p.toDrop 3, s)
    | some (len, r) =>
      let k := lpmKey vrf six len (maskAddr six len addr)
      let t := meetItem memLpm 1 k s
      if upsetOf memLpm k s = 2 then (p.toDrop 3, t)
      else ({ p with lpmLen := some len, ttlCheck := false, reason := if r.dk = 7 then 3 else p.reason,
                     tag := { p.tag with dk := r.dk, dest := r.dest } }, t)

def stage6 (p : Pkt) (s : State) : Pkt × State :=
  let lay := layoutOf p s
  if !bitAt lay 3 then (p, s)
  else
    let width := if fld lay 24 8 = 2 then 320 else 160
    let key := leNat (fit (width / 8) (keyRanges lay 24 p.key 8))
    match tcamLookup width key s with
    | none => (p, s)
    | some i =>
      let r := tcamRec i s
      applyProfile (fld r 384 8) (fld r 392 56) 6 { p with tcamIx := some i } s

/-! ### Stage 7 (R226 to R228, R243, R244) -/

/-- Slot of the working IP header. -/
def workIp (t : Tag) : Nat := if t.flag 11 then t.slot 10 else t.slot 2

/-- A packet resolved to a next hop: the TTL check, then EDIT_PTR. -/
def useHop (p : Pkt) (n : Nat) (s : State) : Pkt :=
  let e := hopEdit (hopRec n s)
  let p := { p with hop := some n, tag := { p.tag with dk := 3, dest := n, edit := if e = 0 then p.tag.edit else e } }
  let o := workIp p.tag
  if p.ttlCheck ∧ o ≠ 255 ∧ byteAt p.frame (ttlPlace p.frame o) ≤ 1 then { p with tag := puntTag p.tag 2 7 } else p

def resolveNext (p : Pkt) (n : Nat) (s : State) : Pkt × State :=
  let t := meetHop n s
  match resolveHop n s with
  | .drop => (p.toDrop 3, t)
  | .host => ({ p with tag := puntTag p.tag 3 7 }, t)
  | .use m => (useHop p m s, t)

def stage7 (p : Pkt) (s : State) : Pkt × State :=
  if p.tag.dk = 3 then resolveNext p (p.tag.dest % 2 ^ 18) s
  else if p.tag.dk = 2 then
    let g := p.tag.dest % 2 ^ 14
    match pickMember g p.tag.hash p.tag.tc (meetGroup g p.tag.hash s) with
    | (some m, s) => resolveNext { p with member := some m } (fld (tget s.tbl.members m) 0 18) s
    | (none, s) =>
      let s := if liveSlots g s = [] then groupEmpty g s else s
      if fld (grpRec g s) 80 8 = 1 then ({ p with tag := puntTag p.tag 3 7 }, s) else (p.toDrop 3, s)
  else (p, s)

/-! ### Stages 8 and 9 (R245, R246, R311, R312) -/

/-- The meter as the charge finds it: refilled; full buckets where both its copies have failed (R236). -/
def meterNow (k : Nat) (s : State) : Meter × State :=
  let m := tget s.tbl.meters k
  if upsetOf memMeter k s = 2 then
    ({ m with tc := fld m.cfg 96 32 * 65536, tp := fld m.cfg 128 32 * 65536, last := refNs s },
      report 85 14 k (le 8 k) (clearUpset memMeter k s))
  else (m.refill (refNs s), mirrorFix memMeter k s)

def stage8 (p : Pkt) (s : State) : Pkt × State :=
  match p.meter with
  | none => (p, s)
  | some k =>
    if fld (tget s.tbl.meters k).cfg 0 8 = 0 then (p, s)
    else
      let (m, s) := meterNow k s
      let (colour, m) := m.charge (withOverhead (chargeLen p s) (fld m.cfg 24 8)) (fld p.tag.cls 3 2)
      let s := { s with tbl := { s.tbl with meters := tset s.tbl.meters k m } }
      let act := fld m.cfg 16 8
      let cls := setFld p.tag.cls 5 2 colour
      let p := { p with tag := { p.tag with cls := setFld cls 3 2 (max (fld cls 3 2) colour) } }
      (if (act = 1 ∧ colour = 2) ∨ (act = 2 ∧ colour ≥ 1) then p.toDrop 5 else p, s)

def stage9 (p : Pkt) (s : State) : Pkt × State :=
  let s := match p.ctr with
    | some c => countFlex (panelOfPipe p.pipe) c (chargeLen p s) s
    | none => s
  ({ p with tag := if p.tag.slot 14 ≠ 255 then p.tag.setTel 2 else p.tag }, s)

/-! ### The walk -/

/-- Stages 5 to 9. -/
def stages5to9 (i : Nat) (p : Pkt) (s : State) : State :=
  let (p, s) := stage5 p s
  let (p, s) := stage6 p s
  let (p, s) := stage7 p s
  let (p, s) := stage8 p s
  let (p, s) := stage9 p s
  setPkt i { p with stage := .ready } s

/-- Stages 2 to 9 of a parsed packet (R23). A Rinwald packet that R323 admits leaves for its cluster after stage 4, once
its frame has ended (R24). -/
def ingress (i : Nat) (s : State) : State :=
  let p := getPkt i s
  match stage2 p s with
  | none => discard i 2 p.pipe { s with pip := { s.pip with tagDrops := tmod s.pip.tagDrops p.tag.inPort fun k => (k + 1) % 2 ^ 64 } }
  | some p =>
    let (p, t) := stage4 (stage3 p s) s
    if p.tag.dk = 5 then
      if !encapOk p t then (let (p, t) := notAdmitted p t; stages5to9 i p t)
      else if !p.ended then s
      else if bitAt p.tag.err 6 then discard i 1 p.pipe t
      else colReceive i (p.tag.dest % 128) (setPkt i p t)
    else stages5to9 i p t

/-- A packet passes ingress stages 2 to 9 (R23). -/
def execIngressStages (pkt : Nat) (s : State) : Res :=
  let pipe := (getPkt pkt s).pipe
  .next (if atStage pkt .parsed s then ingress pkt (checkKey pkt pipe (checkTag pkt pipe s)) else s)

end Sys2Proof.Machine
end

