-- ==== Sys2Proof/Machine/Tables.lean ====
section
/-! DEFINITION. The table commands, learning windows and fast failover (7.4 to 7.13). -/
namespace Sys2Proof.Machine

def TABLE_FULL : Nat := 0x80
def EXISTS : Nat := 0x81
def NOT_FOUND : Nat := 0x82
def NOT_PENDING : Nat := 0x83
def TYPE_INVALID : Nat := 0x84

/-- A table command holds the objects it names from the sweep, whatever its status (R234). -/
def tableCmd (body : Cmd → State → State × CmdEnd) (c : Cmd) (s : State) : State × CmdEnd :=
  let r := body c s
  (touch (cmdObjs c s) r.1, r.2)

/-- Bytes of KEY that the layouts of the active image extract for a TYPE (Tables 7.3 and 19.8). -/
def keyBytes (t : Nat) (s : State) : Nat :=
  let len := fun (lay off : Nat) => (List.range 4).foldl (fun a i => a + fld lay (8 * (off + 2 * i + 1)) 8) 0
  s.pip.layouts.foldl (fun a e =>
    let a := if bitAt e.2 0 ∧ fld e.2 8 8 = t then max a (len e.2 8) else a
    if bitAt e.2 1 ∧ fld e.2 16 8 = t then max a (len e.2 16) else a) 0

/-- The owner copies items to the host: each is met as every read of its memory meets it, and where one has an uncorrectable error
the command ends with TARGET_ECC (Table 2.15). -/
def readItems (mem : Nat) (meet : Nat → State → State) (items : List Nat) (bytes : Nat → List Byte) (s : State) : State × CmdEnd :=
  let t := items.foldl (fun s i => meet i s) s
  if items.any fun i => upsetOf mem i s == 2 then fail TARGET_ECC t else okayData (items.flatMap bytes) t

/-! ### Exact match (R206, R220, R238) -/

/-- EM_INSERT (R206 to R208). -/
def emInsertCmd (c : Cmd) (s : State) : State × CmdEnd :=
  let b := slice c.ops 0 32
  let e := emOfBytes b
  let mode := c.op 32 1
  if e.typ > 63 ∨ !bitAt (byteAt b 23) 0 ∨ byteAt b 23 > 15 ∨ mode > 1 ∨ c.len ≠ 0 then fail BAD_PARAM s
  else if !typeDefined e.typ s then fail TYPE_INVALID s
  else if !allZero (e.key.drop (keyBytes e.typ s)) then fail BAD_PARAM s
  else
    let s := emMeet e.key e.typ s
    match emFind e.key e.typ s with
    | some i =>
      if mode = 0 then fail EXISTS s
      else
        let o := getEm i s
        let s := setEm i { e with hit := o.hit, pendingAge := o.pendingAge } s
        okayWith ([byte (emBank i), 0] ++ le 2 (emBucket i) ++ [byte (emSlot i), 0]) s
    | none => match emPlace e s with
      | none => fail TABLE_FULL { s with tbl := { s.tbl with insertFails := sat 32 (s.tbl.insertFails + 1) } }
      | some (i, moves, s) =>
        okayWith ([byte (emBank i), 0] ++ le 2 (emBucket i) ++ [byte (emSlot i), byte moves]) s

/-- The command EmInsert. -/
def execEmInsert (ref : CmdRef) (s : State) : Res := .next (runCmd 0x10 ref (tableCmd emInsertCmd) s)

/-- EM_DELETE (R220). -/
def emDeleteCmd (c : Cmd) (s : State) : State × CmdEnd :=
  let key := slice c.ops 0 22
  let typ := c.op 22 1
  if typ > 63 ∨ c.op 23 1 > 1 ∨ c.len ≠ 0 then fail BAD_PARAM s
  else if !typeDefined typ s then fail TYPE_INVALID s
  else
    let s := emMeet key typ s
    match emFind key typ s with
    | none => fail NOT_FOUND s
    | some i =>
      if c.op 23 1 = 1 ∧ !(getEm i s).pendingAge then fail NOT_PENDING s
      else okay (setEm i {} s)

/-- The command EmDelete. -/
def execEmDelete (ref : CmdRef) (s : State) : Res := .next (runCmd 0x11 ref (tableCmd emDeleteCmd) s)

/-- EM_LOOKUP (R238). -/
def emLookupCmd (c : Cmd) (s : State) : State × CmdEnd :=
  let key := slice c.ops 0 22
  let typ := c.op 22 1
  if typ > 63 ∨ c.len ≠ 0 then fail BAD_PARAM s
  else if !typeDefined typ s then fail TYPE_INVALID s
  else
    let s := emMeet key typ s
    match emFind key typ s with
    | none => fail NOT_FOUND s
    | some i => okayWith ((getEm i s).bytes ++ [byte (emBank i), 0] ++ le 2 (emBucket i) ++ [byte (emSlot i)]) s

/-- The command EmLookup. -/
def execEmLookup (ref : CmdRef) (s : State) : Res := .next (runCmd 0x12 ref (tableCmd emLookupCmd) s)

/-- The entries of a bank in bucket and slot order. -/
def bankBytes (b : Nat) (s : State) : List Byte := (List.range 16384).flatMap fun k => (getEm (b * 16384 + k) s).bytes

/-- EM_READ dumps banks (R238). -/
def emReadCmd (c : Cmd) (s : State) : State × CmdEnd :=
  let b := c.op 0 2
  let n := c.op 2 2
  if b > 255 ∨ n < 1 ∨ b + n > 256 ∨ c.len ≠ 524288 * n then fail BAD_PARAM s
  else if (List.range n).any fun k => fencedU 5 (b + k) s then fail ST_FENCED s
  else okayData ((List.range n).flatMap fun k => bankBytes (b + k) s) s

/-- The command EmRead. -/
def execEmRead (ref : CmdRef) (s : State) : Res := .next (runCmd 0x13 ref emReadCmd s)

/-! ### LPM (R222) -/

/-- VRF, FAMILY and LEN of an operand obey Table 7.10, apart from LEN where it is ignored. -/
def prefixOk (b : List Byte) (withLen : Bool) : Bool :=
  let six := byteAt b 2 == 6
  decide (leAt b 0 2 < 4096) && (byteAt b 2 == 4 || six) &&
  (!withLen || (decide (byteAt b 3 ≤ addrBits six) && decide (beAt b 4 16 % 2 ^ (128 - byteAt b 3) = 0)))
/-- DEST of an LPM result fits its DEST_KIND (R186): a group, a next hop or a punt word. -/
def lpmDestOk (dk dest : Nat) : Bool :=
  if dk = 2 then decide (dest < 2 ^ 14) else if dk = 3 then decide (dest < 2 ^ 18) else if dk = 6 then decide (dest < 2 ^ 24)
  else decide (dk = 7)

/-- Add or replace a prefix, if the units suffice (R222). -/
def addPrefix (key : Nat) (r : LpmRes) (s : State) : Option State :=
  let old := if tget s.tbl.lpm key = {} then 0 else lpmUnits key
  if lpmUsed s - old + lpmUnits key > 2097152 then none
  else some (clearUpset memLpm key { s with tbl := { s.tbl with lpm := tset s.tbl.lpm key r } })

/-- LPM_ADD (R222). -/
def lpmAddCmd (c : Cmd) (s : State) : State × CmdEnd :=
  if !prefixOk c.ops true ∨ !lpmDestOk (c.op 20 1) (c.op 24 4) ∨ c.op 21 3 ≠ 0 ∨ c.len ≠ 0 then fail BAD_PARAM s
  else
    match addPrefix (prefixKey c.ops) { dk := c.op 20 1, dest := c.op 24 4 } s with
    | none => fail TABLE_FULL { s with tbl := { s.tbl with insertFails := sat 32 (s.tbl.insertFails + 1) } }
    | some s => okay s

/-- The command LpmAdd. -/
def execLpmAdd (ref : CmdRef) (s : State) : Res := .next (runCmd 0x18 ref (tableCmd lpmAddCmd) s)

/-- LPM_DELETE (R222). -/
def lpmDeleteCmd (c : Cmd) (s : State) : State × CmdEnd :=
  let key := prefixKey c.ops
  if !prefixOk c.ops true ∨ c.len ≠ 0 then fail BAD_PARAM s
  else if tget s.tbl.lpm key = {} then fail NOT_FOUND s
  else okay (clearUpset memLpm key { s with tbl := { s.tbl with lpm := tset s.tbl.lpm key {} } })

/-- The command LpmDelete. -/
def execLpmDelete (ref : CmdRef) (s : State) : Res := .next (runCmd 0x19 ref (tableCmd lpmDeleteCmd) s)

/-- LPM_LOOKUP (R238). A prefix lost in both copies gives DEST_KIND 7 (R236), and no DEST that the spec states: a free value. -/
def lpmLookupCmd (c : Cmd) (s : State) : State × CmdEnd :=
  let six := byteAt c.ops 2 == 6
  if !prefixOk c.ops false ∨ c.len ≠ 0 then fail BAD_PARAM s
  else match lpmLookup (c.op 0 2) six (prefixAddr c.ops) s with
    | none => fail NOT_FOUND s
    | some (len, r) =>
      let k := lpmKey (c.op 0 2) six len (maskAddr six len (prefixAddr c.ops))
      let t := meetItem memLpm 1 k s
      if upsetOf memLpm k s = 2 then
        let (v, t) := takeFree t
        okayWith ([7, byte len, 0, 0] ++ le 4 v) t
      else okayWith ([byte r.dk, byte len, 0, 0] ++ le 4 r.dest) t

/-- The command LpmLookup. -/
def execLpmLookup (ref : CmdRef) (s : State) : Res := .next (runCmd 0x1A ref (tableCmd lpmLookupCmd) s)

/-! ### TCAM (R225) -/

/-- INDEX and COUNT of an operand: the width of the entries, or 0 where they break Table 7.10. -/
def tcamOperand (c : Cmd) (s : State) : Nat :=
  let i := c.op 0 4
  let n := c.op 4 2
  if i ≥ 98304 ∨ n < 1 ∨ i % 1024 + n > 1024 then 0
  else
    let w := tcamWidth i s
    if c.len = (if w = 320 then 128 else 64) * n then w else 0

def tcamRecOk (b : List Byte) : Bool := decide (byteAt b 40 < 2) && allZero (slice b 41 7) && allZero (slice b 56 8)
def setTcam (i : Nat) (b : List Byte) (s : State) : State := { s with tbl := { s.tbl with tcam := tset s.tbl.tcam i (leNat b) } }

/-- A block of an operand is out of service. -/
def tcamOut (i w : Nat) (s : State) : Bool := tcamFenced (i / 1024) s || (w == 320 && tcamFenced (i / 1024 + 1) s)

/-- TCAM_WRITE, in ascending index order (R225). -/
def tcamWriteCmd (c : Cmd) (host : HostAns) (s : State) : State × CmdEnd :=
  let i := c.op 0 4
  let w := tcamOperand c s
  if w = 0 then fail BAD_PARAM s
  else if tcamOut i w s then fail ST_FENCED s
  else withHost c host s fun bs =>
    let recs := chunks 64 (bs.length / 64) bs
    if !recs.all tcamRecOk then fail BAD_PARAM s
    else okay (recs.zipIdx.foldl (fun s r =>
      let ix := if w = 320 then i + r.2 / 2 + 1024 * (r.2 % 2) else i + r.2
      setTcam ix r.1 s) s)

/-- The command TcamWrite. -/
def execTcamWrite (ref : CmdRef) (host : HostAns) (s : State) : Res := .next (runCmd 0x1C ref (tableCmd fun c => tcamWriteCmd c host) s)

/-- TCAM_READ (R237). -/
def tcamReadCmd (c : Cmd) (s : State) : State × CmdEnd :=
  let i := c.op 0 4
  let w := tcamOperand c s
  if w = 0 then fail BAD_PARAM s
  else if tcamOut i w s then fail ST_FENCED s
  else okayData ((List.range (c.op 4 2)).flatMap fun k =>
    le 64 (tcamRec (i + k) s) ++ (if w = 320 then le 64 (tcamRec (i + k + 1024) s) else [])) s

/-- The command TcamRead. -/
def execTcamRead (ref : CmdRef) (s : State) : Res := .next (runCmd 0x1D ref (tableCmd tcamReadCmd) s)

/-! ### ECMP (R237) -/

/-- A group record obeys Table 7.6. -/
def groupOk (r : Nat) : Bool :=
  decide (fld r 20 12 = 0) && decide (fld r 32 16 ≤ 4096) && decide (fld r 0 20 + fld r 32 16 ≤ 1048576) && decide (fld r 48 8 ≤ 1) &&
  decide (fld r 56 8 < 32) && decide (fld r 64 16 ≠ 0) && decide (fld r 80 8 ≤ 1) && decide (fld r 88 40 = 0)
def memberOk (r : Nat) : Bool := decide (fld r 18 13 = 0)
def hopOk (r : Nat) : Bool :=
  decide (fld r 10 6 = 0) && decide (fld r 20 12 = 0) && decide (fld r 82 14 = 0) && decide (fld r 96 32 = 0)

def setEcmp (g r : Nat) (s : State) : State :=
  groupsLive (clearUpset memEcmp g { s with tbl := { s.tbl with groups := tset s.tbl.groups g r } })
def setMember (m r : Nat) (s : State) : State :=
  clearUpset memMember m { s with tbl := { s.tbl with members := tset s.tbl.members m r } }
def setHop (n r : Nat) (s : State) : State :=
  clearUpset memHop n { s with tbl := { s.tbl with hops := tset s.tbl.hops n r } }

/-- ECMP_GROUP_WRITE (R237). -/
def ecmpGroupWriteCmd (c : Cmd) (s : State) : State × CmdEnd :=
  let g := c.op 0 2
  let r := c.op 8 16
  if g > 16383 ∨ !groupOk r ∨ c.len ≠ 0 then fail BAD_PARAM s else okay (setEcmp g r s)

/-- The command EcmpGroupWrite. -/
def execEcmpGroupWrite (ref : CmdRef) (s : State) : Res := .next (runCmd 0x20 ref (tableCmd ecmpGroupWriteCmd) s)

/-- Write `n` records of `size` bytes from host memory, one by one. -/
def writeRecords (c : Cmd) (host : HostAns) (size first n : Nat) (ok : Nat → Bool) (put : Nat → Nat → State → State) (s : State) :
    State × CmdEnd :=
  withHost c host s fun bs =>
    let recs := (chunks size n bs).map leNat
    if !recs.all ok then fail BAD_PARAM s else okay (recs.zipIdx.foldl (fun s r => put (first + r.2) r.1 s) s)

/-- MEMBER_WRITE (R237). -/
def memberWriteCmd (c : Cmd) (host : HostAns) (s : State) : State × CmdEnd :=
  let first := c.op 0 4
  let n := c.op 4 4
  if n < 1 ∨ n > 4096 ∨ first + n > 1048576 ∨ c.len ≠ 4 * n then fail BAD_PARAM s
  else
    let (s, e) := writeRecords c host 4 first n memberOk setMember s
    (groupsLive s, e)

/-- The command MemberWrite. -/
def execMemberWrite (ref : CmdRef) (host : HostAns) (s : State) : Res := .next (runCmd 0x21 ref (tableCmd fun c => memberWriteCmd c host) s)

/-- NEXTHOP_WRITE (R237). -/
def nexthopWriteCmd (c : Cmd) (host : HostAns) (s : State) : State × CmdEnd :=
  let first := c.op 0 4
  let n := c.op 4 4
  if n < 1 ∨ n > 4096 ∨ first + n > 262144 ∨ c.len ≠ 16 * n then fail BAD_PARAM s
  else
    let (s, e) := writeRecords c host 16 first n hopOk setHop s
    (groupsLive s, e)

/-- The command NexthopWrite. -/
def execNexthopWrite (ref : CmdRef) (host : HostAns) (s : State) : Res := .next (runCmd 0x22 ref (tableCmd fun c => nexthopWriteCmd c host) s)

/-- Record size and count of a shadow kind (Table 7.8). -/
def shadowSize (k : Nat) : Nat := if k = 2 then 64 else if k = 3 ∨ k = 5 then 16 else if k = 4 then 4 else 32
def shadowMax (k : Nat) : Nat :=
  match k with
  | 0 => 262144 | 1 => 2097152 | 2 => 98304 | 3 => 16384 | 4 => 1048576 | _ => 262144

/-- The device's record of an indexed kind. -/
def tblRec (k i : Nat) (s : State) : Nat :=
  match k with
  | 2 => tcamRec i s
  | 3 => grpRec i s
  | 4 => tget s.tbl.members i
  | _ => hopRec i s

/-- The memory of an indexed kind of the mirrored region. -/
def kindMem (kind : Nat) : Nat := if kind = 3 then memEcmp else if kind = 4 then memMember else memHop

/-- ECMP_READ (R237). -/
def ecmpReadCmd (c : Cmd) (s : State) : State × CmdEnd :=
  let k := c.op 0 1
  let first := c.op 4 4
  let n := c.op 8 4
  if k < 3 ∨ k > 5 ∨ n < 1 ∨ n > 4096 ∨ first + n > shadowMax k ∨ c.len ≠ shadowSize k * n then fail BAD_PARAM s
  else readItems (kindMem k) (meetItem (kindMem k) k) ((List.range n).map (first + ·)) (fun i => le (shadowSize k) (tblRec k i s)) s

/-- The command EcmpRead. -/
def execEcmpRead (ref : CmdRef) (s : State) : Res := .next (runCmd 0x23 ref (tableCmd ecmpReadCmd) s)

/-! ### Shadow compare (R233 to R236) -/

/-- A mismatch was repaired, or its repair failed (ACTION 2): FC083, or FC082 where the device's copy was lost in place, and
EV_TBL_SHADOW_FIX; a repair counts (Table 7.14). -/
def shadowFix (kind action ix : Nat) (unit : Nat × Nat) (lost : Option Nat) (s : State) : State :=
  let s := if action = 2 then s else { s with tbl := { s.tbl with shadowFixes := sat 32 (s.tbl.shadowFixes + 1) } }
  let pay := [byte kind, byte action, 0, 0] ++ le 4 ix
  post 0x1004 pay (match lost with
    | some bank => report 82 5 bank pay s
    | none => report 83 unit.1 unit.2 pay s)

/-- The place that holds a key's entry, an entry with a parity error too. -/
def emAt (key : List Byte) (typ : Nat) (s : State) : Option Nat :=
  (emProbe key typ s).find? fun i =>
    let e := getEm i s
    e.valid && e.typ == typ && e.key == fit 22 key

/-- The bank that lost an item in both copies, if it is lost. -/
def lostItem (mem ix : Nat) (s : State) : Option Nat :=
  if upsetOf mem ix s = 2 then some (Config.mirrorBank mem ix).toNat else none

/-- A record of an area against the device's copy, whose single-copy error is corrected: whether it was repaired. -/
def compareRecord (kind ix : Nat) (b : List Byte) (s : State) : Bool × State :=
  let mirror : Nat × Nat := (14, ix)
  if kind = 0 then
    let e := emOfBytes b
    match emAt e.key e.typ s with
    | some i =>
      let o := getEm i s
      let n := { e with hit := o.hit, pendingAge := o.pendingAge }
      if n = o ∧ !emBad i s then (false, s)
      else (true, shadowFix 0 0 ix (5, emBank i) (if emBad i s then some (emBank i) else none) (clearUpset memEm i (setEm i n s)))
    | none => match emPlace e s with
      | some (i, _, s) => (true, shadowFix 0 1 ix (5, emBank i) none s)
      | none => (false, shadowFix 0 2 ix (14, ix) none s)
  else if kind = 1 then
    let key := prefixKey b
    let s := mirrorFix memLpm key s
    let r : LpmRes := { dk := byteAt b 20, dest := leAt b 24 4 }
    let o := tget s.tbl.lpm key
    let lost := lostItem memLpm key s
    if o = r ∧ lost.isNone then (false, s)
    else match addPrefix key r s with
      | some t => (true, shadowFix 1 (if o = {} then 1 else 0) ix mirror lost t)
      | none => (false, shadowFix 1 2 ix mirror lost s)
  else
    let r := leNat b
    if kind = 2 then
      if tcamRec ix s = r then (false, s) else (true, shadowFix 2 0 ix (6, ix / 6144) none (setTcam ix b s))
    else
      let mem := kindMem kind
      let s := mirrorFix mem ix s
      let lost := lostItem mem ix s
      if tblRec kind ix s = r ∧ lost.isNone then (false, s)
      else
        let t := if kind = 3 then { s with tbl := { s.tbl with groups := tset s.tbl.groups ix r } }
          else if kind = 4 then { s with tbl := { s.tbl with members := tset s.tbl.members ix r } }
          else { s with tbl := { s.tbl with hops := tset s.tbl.hops ix r } }
        (true, shadowFix kind 0 ix mirror lost (clearUpset mem ix t))

/-- The object of a record, and whether a list record is skipped (Table 7.8). -/
def recordObj (kind ix : Nat) (b : List Byte) : Nat :=
  if kind = 0 then emObj (b.take 22) (byteAt b 22) else if kind = 1 then prefixKey b else ix
def recordOff (kind : Nat) (b : List Byte) : Bool :=
  (decide (kind = 0) && !bitAt (byteAt b 23) 0) || (decide (kind = 1) && decide (byteAt b 2 = 0))

/-- One record of an area: whether it was repaired. An item that waits for its restoration is served at once (R235, R236); a
held one is skipped until the next sweep (R234). `all`: every record is compared, not only those that restore an item. -/
def shadowRecord (all : Bool) (kind ix : Nat) (b : List Byte) (s : State) : Bool × State :=
  let key := recordObj kind ix b
  let waits := s.tbl.restore.contains (kind, key)
  if recordOff kind b ∨ (!waits ∧ (!all ∨ held kind key s)) then (false, s)
  else
    let (fixed, t) := compareRecord kind ix b s
    (fixed, { t with tbl := { t.tbl with restore := t.tbl.restore.filter fun e => decide (e ≠ (kind, key)) } })

/-- SHADOW_CHECK compares records at once (R233). A host error on the shadow read skips the records (FC088). -/
def shadowCheckCmd (c : Cmd) (host : HostAns) (s : State) : State × CmdEnd :=
  let k := c.op 0 1
  let first := c.op 4 4
  let n := c.op 8 4
  if k > 5 ∨ n < 1 ∨ first + n > (areaOf k s).2 ∨ c.len ≠ 0 then fail BAD_PARAM s
  else match host with
    | .error _ _ => okayWith (le 4 0) (report 88 14 0 [byte k] s)
    | .data bs =>
      let recs := chunks (shadowSize k) n (fit (shadowSize k * n) bs)
      let (m, s) := recs.zipIdx.foldl (fun (a : Nat × State) r =>
        let (fixed, t) := shadowRecord true k (first + r.2) r.1 a.2
        (a.1 + b2n fixed, t)) (0, s)
      okayWith (le 4 m) (groupsLive s)

/-- The command ShadowCheck. -/
def execShadowCheck (ref : CmdRef) (host : HostAns) (s : State) : Res := .next (runCmd 0x24 ref (fun c => shadowCheckCmd c host) s)

/-! ### Occupancy (R240) -/

/-- The table area (Table 7.14). -/
def tableArea (s : State) : List Byte :=
  let em := s.tbl.em.map fun e => e.2
  let rows := (s.tbl.tcam.filter fun e => recValid e.2 && tcamWidth e.1 s != 0).foldl (fun a e => a + tcamWidth e.1 s / 160) 0
  let groups := s.tbl.groups.filter fun e => fld e.2 32 16 != 0
  fit 1024 (le 4 em.length ++ le 4 (em.filter fun e => e.pinned).length ++ le 4 (em.filter fun e => e.pendingAge).length ++
    le 4 (lpmUsed s) ++ le 4 rows ++ le 4 (s.tbl.hops.filter fun e => bitAt e.2 16).length ++ le 2 groups.length ++
    le 2 (groups.filter fun e => liveSlots e.1 s == []).length ++ le 4 s.tbl.insertFails ++ le 4 s.tbl.evicted ++
    le 4 s.tbl.learnPosted ++ le 4 s.tbl.learnContested ++ le 4 s.tbl.learnSuppressed ++ le 4 s.tbl.learnRateDrops ++
    le 4 s.tbl.shadowFixes ++ le 4 s.tbl.parityMisses ++ le 4 s.tbl.sweepMs ++ le 4 s.tbl.sweepTs ++ [byte s.tbl.sweepPh, 0, 0, 0] ++
    le 2 (s.tbl.evac.headD 0xFFFF) ++ zeros 54 ++
    (List.range 256).flatMap fun b => le 2 (s.tbl.em.filter fun e => emBank e.1 == b).length)

/-- TABLE_STAT (R240). -/
def tableStatCmd (c : Cmd) (s : State) : State × CmdEnd :=
  if c.len ≠ 1024 then fail BAD_PARAM s else okayData (tableArea s) s

/-- The command TableStat. -/
def execTableStat (ref : CmdRef) (s : State) : Res := .next (runCmd 0x25 ref tableStatCmd s)

/-! ### Classify and endpoints (R198, R200) -/

def portRecOk (r : Nat) : Bool :=
  decide (fld r 12 4 = 0) && decide (fld r 16 8 < 16) && decide (fld r 24 8 < 16) && decide (fld r 44 4 = 0) &&
  decide (fld r 48 8 < 32) && decide (fld r 56 8 = 0)

/-- CLASSIFY_WRITE (R198). -/
def classifyWriteCmd (c : Cmd) (host : HostAns) (s : State) : State × CmdEnd :=
  let k := c.op 0 1
  let ix := c.op 2 2
  if k = 0 then
    if ix > 1023 ∨ !portRecOk (c.op 8 8) ∨ c.len ≠ 0 then fail BAD_PARAM s
    else okay { s with tbl := { s.tbl with ports := tset s.tbl.ports ix (c.op 8 8) } }
  else if k ≠ 1 ∨ ix > 15 ∨ c.len ≠ 72 then fail BAD_PARAM s
  else withHost c host s fun bs =>
    if !bs.all fun b => decide (b.toNat < 32) then fail BAD_PARAM s
    else okay { s with tbl := { s.tbl with profiles := tset s.tbl.profiles ix (leNat bs) } }

/-- The command ClassifyWrite. -/
def execClassifyWrite (ref : CmdRef) (host : HostAns) (s : State) : Res := .next (runCmd 0x26 ref (fun c => classifyWriteCmd c host) s)

/-- ENDPOINT_WRITE (R200). -/
def endpointWriteCmd (c : Cmd) (s : State) : State × CmdEnd :=
  if c.op 1 1 > 3 ∨ c.op 2 2 > 4095 ∨ c.len ≠ 0 then fail BAD_PARAM s
  else okay { s with tbl := { s.tbl with endpoints := tset s.tbl.endpoints (c.op 0 1) (c.op 0 20) } }

/-- The command EndpointWrite. -/
def execEndpointWrite (ref : CmdRef) (s : State) : Res := .next (runCmd 0x27 ref endpointWriteCmd s)

/-! ### Learning windows (R215, R216) -/

/-- A recent-learn filter entry expires (R215). -/
def execLearnHoldoffExpiry (typ key : Nat) (s : State) : Res :=
  .next { s with tbl := { s.tbl with filter := s.tbl.filter.filter fun l => !(l.typ == typ && leNat l.key == key) } }

/-- A 1 ms window ends (R216). -/
def execLearnRateWindow (s : State) : Res := .next { s with tbl := { s.tbl with window := 0 } }

/-! ### Fast failover (R231) -/

/-- A port has signalled link up: its terminated client is up, or the port itself is, with no sleep begun (R119, R152). -/
def linkUp (p : Nat) (s : State) : Bool :=
  match clientOfPort p s with
  | some e => e.2.up
  | none => decide ((getPort p s).st = .up) && !(getPort p s).sleeping && (groupOfPort p s).isNone

/-- The next hops of a port that signalled link down are marked down (R231). -/
def execNextHopDown (port : Nat) (s : State) : Res :=
  within (decide (port < 1024))
    (if linkUp port s then s else { s with tbl := { s.tbl with up := tset s.tbl.up port false } })

/-- UP_HOLD after link up, the port's next hops are marked up (R231). -/
def execNextHopUp (port : Nat) (s : State) : Res :=
  within (decide (port < 1024))
    (if linkUp port s then groupsLive { s with tbl := { s.tbl with up := tset s.tbl.up port true } } else s)

/-! ### Registers (R239) -/

def tblErr (bad : Bool) (s : State) : State := { s with tbl := { s.tbl with cfgErr := bad } }

/-- TBL_CTRL: with SHADOW_EN 0 the sweep ends, but for one that rebuilds a lost bank (R211, R233). -/
def writeTblCtrl (v : Nat) (s : State) : State :=
  let t := tblErr false (wrRw Reg.tblCtrl 0 v s)
  if bitAt v 1 ∨ s.tbl.rebuild ≠ [] then t else { t with seq := { t.seq with sweepAt := none, areas := [] } }

/-- A hash seed changes only while no exact-match entry is valid (R239). -/
def writeSeed (r : RegDesc) (v : Nat) (s : State) : State :=
  if s.tbl.em = [] then tblErr false (wrRw r 0 v s) else tblErr true s

/-- A pair that holds a valid entry keeps its mode: the write is ignored (R239). -/
def writeTcamMode (v : Nat) (s : State) : State :=
  let change := rd Reg.tblTcamMode 0 s ^^^ rwMerge Reg.tblTcamMode (rd Reg.tblTcamMode 0 s) v
  if s.tbl.tcam.any fun e => recValid e.2 && bitAt change (e.1 / 2048) then tblErr true s
  else tblErr false (wrRw Reg.tblTcamMode 0 v s)

/-- TBL_TYPE_CFG: PORT_BIT above 46 and AGE_PERIOD 0 are not taken (R239, Table 7.13b). -/
def writeTypeCfg (t v : Nat) (s : State) : State :=
  let old := rd Reg.tblType t s
  let bad := decide (fld v 4 6 > 46)
  let v := if bad then setFld v 4 6 (fld old 4 6) else v
  let v := if fld v 16 16 = 0 then setFld v 16 16 (fld old 16 16) else v
  tblErr bad (wrRw Reg.tblType t v s)

/-- A field of a register keeps its value where the write gives one out of range. -/
def wrKeep (r : RegDesc) (n lo w : Nat) (ok : Nat → Bool) (v : Nat) (s : State) : State :=
  wrRw r n (if ok (fld v lo w) then v else setFld v lo w (rdFld r n lo w s)) s

/-- TBL_LEARN_CFG, TBL_SHADOW_CFG, TBL_AR_CFG and TBL_SHADOW_LEN (Tables 7.12 and 7.13a). -/
def writeLearnCfg (v : Nat) (s : State) : State := wrKeep Reg.tblLearn 0 0 16 (fun x => decide (x ≠ 0)) v s
def writeShadowCfg (v : Nat) (s : State) : State :=
  wrKeep Reg.tblShadowCfg 0 16 11 (fun x => decide (100 ≤ x) && decide (x ≤ 2000)) v s
def writeArCfg (v : Nat) (s : State) : State := wrKeep Reg.tblAr 0 0 16 (fun x => decide (x ≠ 0)) v s
def writeShadowLen (k v : Nat) (s : State) : State := wrKeep Reg.tblShadowLen k 0 32 (fun x => decide (x ≤ shadowMax k)) v s

end Sys2Proof.Machine
end

