-- ==== Sys2Proof/Machine/Actions.lean ====
section
/-! DEFINITION. The action and egress commands (Table 8.11). -/
namespace Sys2Proof.Machine

/-- EDIT_WRITE writes or reads edit records (R267). -/
def editWriteCmd (c : Cmd) (host : HostAns) (s : State) : State × CmdEnd :=
  let first := c.op 0 4
  let n := c.op 4 2
  if n < 1 ∨ n > 256 ∨ first + n > 32768 ∨ !flagOk c 6 ∨ c.len ≠ 128 * n then fail BAD_PARAM s
  else if readFlag c 6 then
    readItems memEdit (meetSecded memEdit 70) ((List.range n).map (first + ·)) (fun i => le 128 (tget s.pip.edits i)) s
  else writeRecords c host 128 first n (fun _ => true)
    (fun i r s => clearUpset memEdit i { s with pip := { s.pip with edits := tset s.pip.edits i r } }) s

/-- The command EditWrite. -/
def execEditWrite (ref : CmdRef) (host : HostAns) (s : State) : Res := .next (runCmd 0xAC ref (fun c => editWriteCmd c host) s)

/-- A group record, and an entry, obey Table 8.4. -/
def mcGroupOk (r : Nat) : Bool :=
  decide (fld r 19 13 = 0) && decide (fld r 32 16 ≤ 4096) && decide (fld r 0 19 + fld r 32 16 ≤ 524288) && decide (fld r 49 15 = 0)
def mcEntryOk (r : Nat) : Bool := decide (fld r 10 6 = 0) && decide (fld r 18 6 = 0) && decide (fld r 25 7 = 0)

/-- MCAST_WRITE writes or reads group records or entries (R253, R267). -/
def mcastWriteCmd (c : Cmd) (host : HostAns) (s : State) : State × CmdEnd :=
  let k := c.op 0 1
  let first := c.op 4 4
  let n := c.op 8 4
  if k > 1 ∨ !flagOk c 1 ∨ n < 1 ∨ n > 4096 ∨ first + n > (if k = 0 then 65536 else 524288) ∨ c.len ≠ 8 * n then fail BAD_PARAM s
  else if readFlag c 1 then
    let mem := if k = 0 then memGroup else memEntry
    readItems mem (meetSecded mem 71) ((List.range n).map (first + ·)) (fun i => le 8 (tget (if k = 0 then s.pip.groups else s.pip.entries) i)) s
  else if k = 0 then writeRecords c host 8 first n mcGroupOk
    (fun i r s => clearUpset memGroup i { s with pip := { s.pip with groups := tset s.pip.groups i r } }) s
  else writeRecords c host 8 first n mcEntryOk
    (fun i r s => clearUpset memEntry i { s with pip := { s.pip with entries := tset s.pip.entries i r } }) s

/-- The command McastWrite. -/
def execMcastWrite (ref : CmdRef) (host : HostAns) (s : State) : Res := .next (runCmd 0xAD ref (fun c => mcastWriteCmd c host) s)

/-- A session record obeys Table 8.3. -/
def mirrorOk (r : Nat) : Bool :=
  let k := fld r 0 8
  let t := fld r 96 16
  decide (fld r 17 15 = 0) &&
  (!bitAt r 16 || ((k == 1 || k == 3 || k == 6) && decide (fld r 8 8 ≤ 19) && (t == 0 || (decide (64 ≤ t) && decide (t ≤ 256)))))

/-- MIRROR_WRITE writes or reads a session (R267). -/
def mirrorWriteCmd (c : Cmd) (s : State) : State × CmdEnd :=
  let m := c.op 0 1
  let r := c.op 8 16
  if m = 0 ∨ !flagOk c 1 ∨ c.len ≠ 0 then fail BAD_PARAM s
  else if readFlag c 1 then
    if upsetOf memMirror m s = 2 then fail TARGET_ECC (meetSecded memMirror 72 m s)
    else okayWith (le 16 (tget s.pip.mirrors m)) (meetSecded memMirror 72 m s)
  else if !mirrorOk r then fail BAD_PARAM s
  else okay (clearUpset memMirror m { s with pip := { s.pip with mirrors := tset s.pip.mirrors m r } })

/-- The command MirrorWrite. -/
def execMirrorWrite (ref : CmdRef) (s : State) : Res := .next (runCmd 0xAE ref mirrorWriteCmd s)

/-- A port egress record obeys Table 8.7, an ECN profile Table 8.8, an egress ACL entry Table 7.5. -/
def egressOk (r : Nat) : Bool :=
  let q := fld r 48 8
  let l := fld r 64 16
  decide (fld r 36 4 = 0) && (q == 0 || q == 14 || q == 15) && !bitAt r 63 && (l == 0 || (decide (64 ≤ l) && decide (l ≤ 256))) &&
  decide (fld r 80 8 ≤ 2) && decide (fld r 88 8 = 0) && decide (fld r 136 120 = 0)
def ecnOk (r : Nat) : Bool := decide (fld r 0 32 ≤ fld r 32 32) && decide (fld r 72 56 = 0)
def eaclOk (r : Nat) : Bool := tcamRecOk (le 64 r)

/-- EGRESS_WRITE writes or reads port egress records, ECN profiles or egress ACL entries (R267). -/
def egressWriteCmd (c : Cmd) (host : HostAns) (s : State) : State × CmdEnd :=
  let k := c.op 0 1
  let first := c.op 4 4
  let n := c.op 8 4
  let top := if k = 0 then 1024 else if k = 1 then 16 else 2048
  let size := if k = 0 then 32 else if k = 1 then 16 else 64
  if k > 2 ∨ !flagOk c 1 ∨ n < 1 ∨ (k = 1 ∧ first = 0) ∨ first + n > top ∨ c.len ≠ size * n then fail BAD_PARAM s
  else if readFlag c 1 then
    let t := if k = 0 then s.pip.egress else if k = 1 then s.pip.ecn else s.pip.eacl
    let items := (List.range n).map (first + ·)
    if k = 2 then readItems memEacl (meetSecded memEacl 73) items (fun i => le size (tget t i)) s
    else okayData (items.flatMap fun i => le size (tget t i)) s
  else if k = 0 then writeRecords c host 32 first n egressOk
    (fun i r s => { s with pip := { s.pip with egress := tset s.pip.egress i r } }) s
  else if k = 1 then writeRecords c host 16 first n ecnOk
    (fun i r s => { s with pip := { s.pip with ecn := tset s.pip.ecn i r } }) s
  else writeRecords c host 64 first n eaclOk
    (fun i r s => clearUpset memEacl i { s with pip := { s.pip with eacl := tset s.pip.eacl i r } }) s

/-- The command EgressWrite. -/
def execEgressWrite (ref : CmdRef) (host : HostAns) (s : State) : Res := .next (runCmd 0xAF ref (fun c => egressWriteCmd c host) s)

end Sys2Proof.Machine
end

