-- ==== Sys2Proof/Machine/Control.lean ====
section
/-! DEFINITION. The control model (02_control_model.md): rings and doorbells, the command engine and the control opcodes,
DMA channels, and the host link. -/
namespace Sys2Proof.Machine

/-! ### Ring set-up (R37, R38, R565) -/

/-- R37 refuses to enable a ring with this set-up. -/
def ringRefused (n v : Nat) (s : State) : Bool :=
  decide (fld v 0 4 > 10) || decide (ringBase n s = 0) || (decide (fld v 4 2 ≠ 1) && !evRingOn (fld v 8 8) s) ||
    (decide (fld v 16 6 < 4) && !bitAt v 6)

/-- The reason under which a punt to a ring that is not enabled is discarded (R192, R248). -/
def puntReason (i : Nat) (s : State) : Nat := if bitAt (getPkt i s).tag.tel 5 then 19 else 13

/-- Packets that wait for a punt ring are discarded when it is disabled (R565). -/
def dropPunts (n : Nat) (s : State) : State :=
  let r := getRing n s
  r.punts.foldl (fun s i => discard i (puntReason i s) (getPkt i s).pipe s)
    (setRing n { r with punts := [], puntDone := 0, puntBufs := 0 } s)

/-- A ring goes to ENABLE = 1: positions, generation, QUIESCED and the count of fetched entries are reset (R37, R53). -/
def enableRing (n v : Nat) (s : State) : State :=
  let r := getRing n s
  setRing n { r with prod := 0, cons := 0, host := 0, cfgErr := false, quiesced := false, armed := none, fetched := 0,
                     injDescs := [], injStage := .idle, puntDone := 0, puntBufs := 0, puntWait := [] } (wrRw Reg.hifRingCfg n v s)

/-- A write of HIF_RING_CFG[n] (R37): of an enabled ring only ENABLE changes; ENABLE = 1 may be refused with CFG_ERR. -/
def writeRingCfg (n v : Nat) (s : State) : State :=
  let old := rd Reg.hifRingCfg n s
  if bitAt old 7 then
    if bitAt v 7 then s
    else
      let s := wr Reg.hifRingCfg n (setFld old 7 1 0) s
      if fld old 4 2 = 3 then dropPunts n s else s
  else if !bitAt v 7 then wrRw Reg.hifRingCfg n v s
  else if ringRefused n v s then
    setRing n { getRing n s with cfgErr := true } (wrRw Reg.hifRingCfg n (setFld v 7 1 0) s)
  else enableRing n v s

/-- While a ring is enabled, a write of its base is ignored (R37). -/
def writeRingBase (n v : Nat) (s : State) : State := if ringOn n s then s else wrRw Reg.hifRingBase n v s

/-- A write of HIF_RING_CFG with ENABLE = 1 enables the ring or is refused (R37). -/
def execRingEnable (ring : Nat) (value : Word) (s : State) : Res :=
  within (decide (ring < 256)) (whenOpen s (if bitAt value.toNat 7 then writeRingCfg ring value.toNat s else s))

/-- A write of HIF_RING_CFG with ENABLE = 0 stops fetching; commands already fetched run on (R37). -/
def execRingDisable (ring : Nat) (value : Word) (s : State) : Res :=
  within (decide (ring < 256)) (whenOpen s (if bitAt value.toNat 7 then s else writeRingCfg ring value.toNat s))

/-! ### Doorbells (R39 to R43) -/

/-- DEV_INDEX and DEV_GEN: the position of the device's side (Table 2.6). -/
def devPos (n : Nat) (s : State) : Nat := if ringKind n s = 1 then (getRing n s).prod else (getRing n s).cons
def devPosWord (n : Nat) (s : State) : Nat :=
  devPos n s % ringSize n s + 65536 * (devPos n s / ringSize n s % 2)

/-- The side of the ring that host software moves. -/
def hostPos (n : Nat) (s : State) : Nat := if ringKind n s = 1 then (getRing n s).cons else (getRing n s).prod

/-- Whether R41 accepts a doorbell's position on an enabled ring. -/
def doorbellOk (n v : Nat) (s : State) : Bool :=
  let size := ringSize n s
  let new := fld v 0 16 + size * fld v 16 1
  let occ := if ringKind n s = 1 then (devPos n s + 2 * size - new) % (2 * size) else (new + 2 * size - devPos n s) % (2 * size)
  decide (fld v 0 16 < size) && atOrBeyond size new (hostPos n s) && decide (occ ≤ size)

/-- Arm an event ring at the consumer position given (R43). -/
def armRing (n new : Nat) (s : State) : State :=
  let r := getRing n s
  if r.prod ≠ new then raiseVector n (setRing n { r with armed := none } s) else setRing n { r with armed := some new } s

/-- A doorbell write to a ring's page (R41, R43). The command engine takes none before STAGED and in LOCKDOWN. -/
def ringDoorbell (n v : Nat) (s : State) : State :=
  if !s.sys.mode.engine then s
  else if !ringOn n s then post 0x0004 ([byte n, 1, 0, 0] ++ le 4 v) s
  else if !doorbellOk n v s then post 0x0004 ([byte n, 0, 0, 0] ++ le 4 v) s
  else
    let new := fld v 0 16 + ringSize n s * fld v 16 1
    let r := { getRing n s with host := v }
    if ringKind n s = 1 then
      let s := setRing n { r with cons := new } s
      if bitAt v 17 then armRing n new s else s
    else setRing n { r with prod := new } s

/-- A doorbell moves a ring's producer or consumer position, or is refused (R41). -/
def execDoorbell (ring : Nat) (value : Word) (s : State) : Res :=
  within (decide (ring < 256)) (ringDoorbell ring value.toNat s)

/-- A doorbell with ARM = 1 arms an event ring's vector, or raises it at once (R43). -/
def execArm (ring : Nat) (value : Word) (s : State) : Res :=
  within (decide (ring < 256)) (if bitAt value.toNat 17 then ringDoorbell ring value.toNat s else s)

/-! ### The bus-share limiter (R67) -/

/-- Link bandwidth in eighths of a byte per ns (R67). -/
def linkRate8 (s : State) : Nat :=
  (if s.hif.gen = 6 then 64 else if s.hif.gen = 5 then 32 else 16) * s.hif.width

/-- The share of a channel lets it start a burst now, `last` being its previous start (R67). -/
def burstDue (ch : Nat) (last : Option Nat) (s : State) : Bool :=
  let share := rdFld Reg.hifDmaCfg ch 0 8 s
  match last with
  | none => true
  | some a => decide (share = 0) || decide ((s.aon - a) * 4 * share * linkRate8 s ≥ 4096 * 256 * 8)

/-- The CLK_AON cycle at which a channel's share lets a burst start that is ready now (R67). -/
def burstAt (ch : Nat) (last : Option Nat) (s : State) : Nat :=
  let share := rdFld Reg.hifDmaCfg ch 0 8 s
  let per := 4 * share * linkRate8 s
  match last with
  | none => s.aon
  | some a => if share = 0 ∨ per = 0 then s.aon else max s.aon (a + (4096 * 256 * 8 + per - 1) / per)

/-- A descriptor fetch, a write-back or a packet's data takes its place among the channel's bursts of a direction (R67). -/
def countBurst (ch : Nat) (dir : Dir) (s : State) : State :=
  let c := getChan ch s
  match dir with
  | .toHost => setChan ch { c with lastToHost := some (burstAt ch c.lastToHost s) } s
  | .fromHost => setChan ch { c with lastFromHost := some (burstAt ch c.lastFromHost s) } s

/-- The bursts of `n` bytes. -/
def countBursts (ch : Nat) (dir : Dir) (n : Nat) (s : State) : State :=
  (List.range ((n + 4095) / 4096)).foldl (fun s _ => countBurst ch dir s) s

/-! ### Fetching commands (R53, R56, R58, R560, R561) -/

/-- Entries posted and not fetched. -/
def posted (n : Nat) (s : State) : Nat := occupancy (ringSize n s) (getRing n s)

/-- A ring of kind `k` has an entry for the device to fetch, its channel serves and its share lets it read (R66, R67, R508,
R564). -/
def hasWork (k n : Nat) (s : State) : Bool :=
  ringOn n s && decide (ringKind n s = k) && !(getRing n s).quiesced && decide (posted n s ≠ 0) && chanServes (ringCh n s) s &&
    burstDue (ringCh n s) (getChan (ringCh n s) s).lastFromHost s

/-- The command ring whose turn it is (R56). -/
def turnRing (s : State) : Option Nat := ((List.range 256).map fun k => (s.hif.rrNext + k) % 256).find? fun n => hasWork 0 n s

/-- The device has fetched an entry: its position moves on, it has taken a DESC_SEQ (R53), and the read counts against its
channel's share (R67). A packet descriptor is the last that its channel started (Table 2.20). -/
def takeEntry (n : Nat) (s : State) : State :=
  let r := getRing n s
  let ch := ringCh n s
  let s := countBurst ch .fromHost s
  let s := if ringKind n s = 0 then s else setChan ch { getChan ch s with lastSeq := r.fetched } s
  setRing n { r with cons := (r.cons + 1) % (2 * ringSize n s), fetched := (r.fetched + 1) % 2 ^ 32 } s

/-- The command engine may fetch: mode, HIF_CTRL.ENABLE and room among 1,024 commands in flight (R56, R72, R523). -/
def mayFetch (s : State) : Bool :=
  s.sys.mode.engine && bitAt (rd Reg.hifCtrl 0 s) 0 && decide (s.hif.inflight.length < 1024)

/-- The command that an entry's 64 bytes hold (Table 2.11), with its data channel and completion ring resolved
(R48, R561). -/
def decodeCmd (n seq : Nat) (d : List Byte) (s : State) : Cmd :=
  let fl := byteAt d 1
  { ring := n, seq := seq, tag := leAt d 2 2, opcode := byteAt d 0, noEvent := bitAt fl 0, ordered := bitAt fl 1
    evRing := if bitAt fl 3 ∧ evRingOn (byteAt d 4) s then byteAt d 4 else ringEv n s
    ch := if bitAt fl 2 then byteAt d 5 else ringCh n s
    addr := leAt d 8 8, len := leAt d 16 4, ops := slice d 24 40 }

/-- Start checks 1 to 3 (R561): DUP_TAG, an EV_VALID ring that is no enabled event ring, BAD_OPCODE. -/
def fetchCheck (c : Cmd) (d : List Byte) (s : State) : Option Nat :=
  if s.hif.inflight.any fun x => x.ring == c.ring && x.tag == c.tag then some 0x03
  else if bitAt (byteAt d 1) 3 ∧ !evRingOn (byteAt d 4) s then some BAD_PARAM
  else if !assignedOp c.opcode then some 0x01
  else none

/-- The command engine fetches the next command in round-robin order and makes the start checks (R56, R561). Checks 4 and
5 are made here of a command that may start at once. -/
def execCommandFetch (desc : List Byte) (s : State) : Res :=
  .next (if !mayFetch s then s else
    match turnRing s with
    | none => s
    | some n =>
      let d := fit 64 desc
      let c := decodeCmd n (getRing n s).fetched d s
      let bad := fetchCheck c d s
      let s := takeEntry n s
      let s := { s with hif := { s.hif with rrNext := (n + 1) % 256, inflight := s.hif.inflight ++ [c] } }
      match bad with
      | some st => finish c { status := st } 0 0 s
      | none =>
        if startable c s then
          match startCheck c s with
          | some st => finish c { status := st } 0 0 s
          | none => s
        else s)

/-- An event that is treated as a completion (R46): written, or waiting for room. -/
def postCompletion (ring : Nat) (ref : CmdRef) (e : Event) (s : State) : State :=
  if ringRoom ring s ∧ (getRing ring s).comps = [] then writeEvent ring e s
  else
    let r := getRing ring s
    setRing ring { r with comps := r.comps ++ [(ref, e)] } s

/-- The host refuses a command descriptor read: the entry counts as fetched and posts one EV_CMD_ERROR (R560). -/
def execDescriptorFetchError (status : Byte) (s : State) : Res :=
  .next (if !mayFetch s then s else
    match turnRing s with
    | none => s
    | some n =>
      let seq := (getRing n s).fetched
      let e : Event := { code := 2, status := status.toNat, ts := (stamp s).1, ph := (stamp s).2, src := n, seq := seq }
      let s := takeEntry n s
      postCompletion (ringEv n s) { ring := n, seq := 2 ^ 32 + seq } e { s with hif := { s.hif with rrNext := (n + 1) % 256 } })

/-! ### Control opcodes (Table 2.14, R564) -/

/-- A control command ends: it moves no data, whatever its HOST_LEN. -/
def endCtl (c : Cmd) (r : CmdRes) (s : State) : State × CmdEnd := (finish c r 0 0 s, .later)

/-- NOP completes with OK. -/
def nopCmd (c : Cmd) (s : State) : State × CmdEnd := endCtl c {} s

/-- The command Nop. -/
def execNop (ref : CmdRef) (s : State) : Res := .next (runCmd 0x00 ref nopCmd s)

/-- SUMMARYs that run or wait. -/
def sumCount (s : State) : Nat := (if s.hif.sumRun.isSome then 1 else 0) + s.hif.sumWait.length

/-- SUMMARY queues a write of the Linen record on DC00 (R72, R73). -/
def summaryCmd (c : Cmd) (s : State) : State × CmdEnd :=
  if c.addr % 64 ≠ 0 ∨ c.len ≠ 65536 then endCtl c { status := BAD_PARAM } s
  else if sumCount s ≥ 5 then endCtl c { status := NO_RESOURCE } s
  else ({ s with hif := { s.hif with sumWait := s.hif.sumWait ++ [{ cmd := some c.ref, addr := c.addr }] } }, .later)

/-- The command Summary. -/
def execSummary (ref : CmdRef) (s : State) : Res := .next (runCmd 0x01 ref summaryCmd s)

/-- A register-started SUMMARY runs or waits (Table 2.9). -/
def sumBusy (s : State) : Bool :=
  (match s.hif.sumRun with | some j => j.cmd.isNone | none => false) || s.hif.sumWait.any fun j => j.cmd.isNone

/-- A write of HIF_SUMMARY_CTRL with GO queues a SUMMARY into HIF_SUMMARY_ADDR (R73); ERR if the queue is full. -/
def summaryGo (s : State) : State :=
  if sumBusy s then s
  else if sumCount s ≥ 5 then { s with hif := { s.hif with sumErr := true } }
  else { s with hif := { s.hif with sumErr := false, sumWait := s.hif.sumWait ++ [{ cmd := none, addr := rd Reg.hifSummaryAddr 0 s }] } }

/-- The row SUMMARY_GO. -/
def execSummaryGo (s : State) : Res := .next (whenOpen s (summaryGo s))

/-- RING_QUIESCE and RING_RESUME name an enabled command, inject or punt ring (R564). -/
def setQuiesced (q : Bool) (c : Cmd) (s : State) : State × CmdEnd :=
  let n := c.op 0 1
  if !ringOn n s ∨ ringKind n s = 1 then endCtl c { status := BAD_PARAM } s
  else endCtl c {} (setRing n { getRing n s with quiesced := q } s)

/-- RING_QUIESCE stops fetching from a ring. -/
def ringQuiesceCmd (c : Cmd) (s : State) : State × CmdEnd := setQuiesced true c s

/-- The command RingQuiesce. -/
def execRingQuiesce (ref : CmdRef) (s : State) : Res := .next (runCmd 0x02 ref ringQuiesceCmd s)

/-- RING_RESUME resumes fetching. -/
def ringResumeCmd (c : Cmd) (s : State) : State × CmdEnd := setQuiesced false c s

/-- The command RingResume. -/
def execRingResume (ref : CmdRef) (s : State) : Res := .next (runCmd 0x03 ref ringResumeCmd s)

/-- A HALTED channel returns to IDLE (R66). -/
def restartChan (ch : Nat) (s : State) : State := setChan ch { getChan ch s with halted := false } s

/-- CHANNEL_RESTART acts as HIF_DMA_CTRL.RESTART. -/
def channelRestartCmd (c : Cmd) (s : State) : State × CmdEnd :=
  if c.op 0 1 > 63 then endCtl c { status := BAD_PARAM } s else endCtl c {} (restartChan (c.op 0 1) s)

/-- The command ChannelRestart. -/
def execChannelRestart (ref : CmdRef) (s : State) : Res := .next (runCmd 0x04 ref channelRestartCmd s)

/-- A write of HIF_DMA_CTRL.RESTART (R66). -/
def execRestart (ch : Nat) (s : State) : Res := within (decide (ch < 64)) (whenOpen s (restartChan ch s))

/-- CHANNEL_SHARE sets a channel's bus share, which its next burst uses (R67). -/
def channelShareCmd (c : Cmd) (s : State) : State × CmdEnd :=
  if c.op 0 1 > 63 then endCtl c { status := BAD_PARAM } s else endCtl c {} (wrFld Reg.hifDmaCfg (c.op 0 1) 0 8 (c.op 1 1) s)

/-- The command ChannelShare. -/
def execChannelShare (ref : CmdRef) (s : State) : Res := .next (runCmd 0x05 ref channelShareCmd s)

/-- EVENT_TEST completes with EV_TEST and its operands. -/
def eventTestCmd (c : Cmd) (s : State) : State × CmdEnd := endCtl c { payload := c.ops } s

/-- The command EventTest. -/
def execEventTest (ref : CmdRef) (s : State) : Res := .next (runCmd 0x06 ref eventTestCmd s)

/-! ### Waiting events (R46) -/

/-- What waits for a ring is written once it has room: completions first, then the backlog in order (R46), into
whose room transmit captures follow (R430). -/
def execEventWrite (ring : Nat) (s : State) : Res :=
  let r := getRing ring s
  within (decide (ring < 256))
    (if !s.sys.mode.engine ∨ !ringRoom ring s then s
    else match r.comps, r.backlog with
      | (ref, e) :: rest, _ => retire ref (writeEvent ring e (setRing ring { r with comps := rest } s))
      | [], .ev e :: rest => drainCaptures (writeEvent ring e (setRing ring { r with backlog := rest } s))
      | [], .lost k :: rest => drainCaptures (writeEvent ring (mkAsync 0x0005 (le 4 k) s) (setRing ring { r with backlog := rest } s))
      | [], [] => s)

/-! ### Bursts and completion of descriptors (R62 to R68) -/

/-- The host accesses of `n` bytes from address `a` (R60): a head up to the next 64-byte boundary, aligned middle requests of at
most `mid` bytes, and a tail. The bytes lie within one 4 KiB block, so no request crosses one. -/
def accesses (mid : Nat) : Nat → Nat → Nat → List (Nat × Nat)
  | 0, _, _ => []
  | fuel + 1, a, n =>
    if n = 0 then []
    else
      let k := if a % 64 ≠ 0 then min (64 - a % 64) n else if n < 64 then n else min (mid - a % mid) (n / 64 * 64)
      (a, k) :: accesses mid fuel (a + k) (n - k)

/-- `accesses` of bytes that may lie in several 4 KiB blocks: a block border is an access border. -/
def hostAccesses (mid a n : Nat) : List (Nat × Nat) :=
  (List.range ((a + n + 4095) / 4096 - a / 4096)).flatMap fun k =>
    let lo := max a ((a / 4096 + k) * 4096)
    accesses mid 66 lo (min (a + n) ((a / 4096 + k + 1) * 4096) - lo)

/-- Write data to host memory from an address on, in requests of at most Max_Payload_Size (R60, R61). -/
def writeHost (a : Nat) (bs : List Byte) (s : State) : State :=
  (hostAccesses s.hif.mps a bs.length).foldl (fun s x => emit (.hostData x.1 (slice bs (x.1 - a) x.2)) s) s

/-- Request data of host memory, in reads of whole dwords of at most Max_Read_Request_Size (R60, R61). -/
def readHost (a n : Nat) (s : State) : State :=
  (hostAccesses s.hif.mrrs a n).foldl (fun s x => emit (.hostRead (x.1 / 4 * 4) ((x.1 + x.2 + 3) / 4 * 4 - x.1 / 4 * 4)) s) s

/-- Bytes of a descriptor that its channel has not issued. -/
def Xfer.toIssue (x : Xfer) : Nat := x.left - x.asked

/-- Read requests of a descriptor that the host has not answered. -/
def Xfer.reads (x : Xfer) (s : State) : Nat := (hostAccesses s.hif.mrrs (x.addr + x.done) x.asked).length

/-- Read requests outstanding on every channel (Table 2.1). -/
def readsOut (s : State) : Nat := s.hif.chans.foldl (fun n e => e.2.xfers.foldl (fun n x => n + x.reads s) n) 0

/-- The data asked for arrives: it counts down (R62). -/
def Xfer.arrive (x : Xfer) : Xfer := { x with left := x.left - x.asked, done := x.done + x.asked, asked := 0 }

/-- The first descriptor of a channel in a direction with bytes to issue. -/
def isNext (dir : Dir) (x : Xfer) : Bool := decide (x.dir = dir) && decide (x.toIssue ≠ 0)
def nextXfer (ch : Nat) (dir : Dir) (s : State) : Option Xfer := (getChan ch s).xfers.find? (isNext dir)

/-- A channel may start a burst (R67, R68): it has bytes to issue, its share allows it, and of the 1,024 read requests that may
be outstanding enough are free for a burst. -/
def eligibleChan (dir : Dir) (s : State) (ch : Nat) : Bool :=
  let c := getChan ch s
  (nextXfer ch dir s).isSome && (match dir with
    | .toHost => burstDue ch c.lastToHost s
    | .fromHost => burstDue ch c.lastFromHost s && decide (readsOut s + 66 ≤ 1024))

/-- The channel whose burst is next in a direction: round robin among the privileged channels, then among the standard
ones (R68). -/
def nextChan (dir : Dir) (s : State) : Option Nat :=
  let p := if dir = .toHost then s.hif.turnPriv.1 else s.hif.turnPriv.2
  let q := if dir = .toHost then s.hif.turnStd.1 else s.hif.turnStd.2
  let privs := (List.range 4).map fun k => (p + k) % 4
  let stds := (List.range 60).map fun k => 4 + (q - 4 + k) % 60
  (privs ++ stds).find? (eligibleChan dir s)

/-- The round robin goes on behind a channel. -/
def turnPast (dir : Dir) (ch : Nat) (h : HifState) : HifState :=
  let set := fun (x : Nat × Nat) (v : Nat) => if dir = .toHost then (v, x.2) else (x.1, v)
  if ch < 4 then { h with turnPriv := set h.turnPriv ((ch + 1) % 4) } else { h with turnStd := set h.turnStd (4 + (ch - 3) % 60) }

/-- The bytes of a descriptor's next burst: up to the next 4 KiB border (R60, R67). -/
def Xfer.burst (x : Xfer) : Nat := min (4096 - (x.addr + x.done + x.asked) % 4096) x.toIssue

/-- A burst to the host: its bytes are written and count down (R62), and a privileged channel flushes after its last write
(R63). -/
def burstOut (ch : Nat) (x : Xfer) (s : State) : State :=
  let c := getChan ch s
  let n := x.burst
  let a := x.addr + x.done
  let y := { x with left := x.left - n, done := x.done + n, data := x.data.drop n }
  let s := setChan ch { c with xfers := modFirst (isNext .toHost) (fun _ => y) c.xfers, lastToHost := some s.aon } s
  let s := writeHost a (x.data.take n) s
  if ch < 4 ∧ y.left = 0 then emit (.flushRead (a + n - 1)) s else s

/-- A burst from the host: the data of the descriptor's burst before it has arrived and counts down (R62), and the next bytes are
asked for. -/
def burstIn (ch : Nat) (x : Xfer) (s : State) : State :=
  let c := getChan ch s
  let n := x.burst
  let a := x.addr + x.done + x.asked
  let s := setChan ch { c with xfers := modFirst (isNext .fromHost) (fun _ => { x.arrive with asked := n }) c.xfers,
                               lastFromHost := some s.aon } s
  readHost a n s

/-- A channel starts its next burst in a direction, where the round robin has reached it (R60, R67, R68). -/
def execBurstStart (ch : Nat) (dir : Dir) (s : State) : Res :=
  within (decide (ch < 64))
    (match nextXfer ch dir s with
    | none => s
    | some x =>
      if !s.sys.mode.engine ∨ nextChan dir s ≠ some ch then s else
      let s := { s with hif := turnPast dir ch s.hif }
      match dir with
      | .toHost => burstOut ch x s
      | .fromHost => burstIn ch x s)

/-- A descriptor ends with a status and its byte counts, and its command with it. -/
def endXfer (ch : Nat) (p : Xfer → Bool) (x : Xfer) (st done left : Nat) (s : State) : State :=
  let c := getChan ch s
  let st := if st = 0 then x.res.status else st
  let s := setChan ch { c with xfers := dropFirst p c.xfers, lastStatus := st } s
  match findCmd x.cmd s with
  | none => s
  | some c => finish c { x.res with status := st } done left s

/-- A descriptor whose completion awaits no flush read: one that reads the host and has asked for every byte, or on a standard
channel one that has written every byte. -/
def xferWhole (ch : Nat) (x : Xfer) : Bool :=
  if x.dir = .fromHost then decide (x.toIssue = 0) else decide (x.left = 0) && decide (4 ≤ ch)

/-- Bytes of a descriptor answered without error, once all have moved. -/
def Xfer.good (x : Xfer) : Nat := x.done + x.asked - x.badBytes

/-- A descriptor whose bytes have all moved ends; a table command that it belongs to holds its objects from the shadow sweep
(R234). -/
def endWhole (ch : Nat) (p : Xfer → Bool) (x : Xfer) (st done left : Nat) (s : State) : State :=
  let objs := match findCmd x.cmd s with
    | none => []
    | some c => cmdObjs c s
  touch objs (endXfer ch p x st done left s)

/-- A standard channel completes a descriptor when BYTES_LEFT reaches 0 (R62): the last data asked for has arrived. A privileged
channel completes one that reads the host once every beat is answered, with the error of an answer if there was one (R63). -/
def execDescriptorComplete (ch : Nat) (s : State) : Res :=
  within (decide (ch < 64))
    (whenOpen s (match (getChan ch s).xfers.find? (xferWhole ch) with
    | none => s
    | some x => endWhole ch (xferWhole ch) x x.bad x.good 0 s))

/-- A SUMMARY ends (R73, R74): its trailer is written where the record was delivered. -/
def endSummary (j : SumJob) (st : Nat) (s : State) : State :=
  let body := s.hif.sumRecord
  let s := setChan 0 { getChan 0 s with lastStatus := st } s
  let s := if st = 0 then writeHost (j.addr + 0xFFF0) ((fit 16 (slice body 8 4 ++ le 4 (crc32c body)))) s else s
  let s := { s with hif := { s.hif with sumRun := none, sumRecord := [] } }
  match j.cmd with
  | none => { s with hif := { s.hif with sumErr := decide (st ≠ 0) } }
  | some ref =>
    match findCmd ref s with
    | none => s
    | some c => finish c { status := st } (if st = 0 then 65536 else 0) 0 s

/-- A late error: EV_DMA_LATE_ERROR to the ring of the descriptor's completion, or FC000 where that is not an enabled event
ring, and the channel halts (R64, R66). -/
def lateError (ch : Nat) (desc : DescRef) (status : Byte) (s : State) : State :=
  let c := getChan ch s
  let ring := if desc.packet then ringEv desc.ring s else desc.evRing
  let e : Event := { code := 3, tag := if desc.packet then 0 else desc.tag, status := status.toNat, late := true,
                     ts := (stamp s).1, ph := (stamp s).2, src := desc.ring, ch := ch, seq := desc.seq }
  let t := setChan ch { c with halted := true, lateErrors := sat 32 (c.lateErrors + 1) } s
  if evRingOn ring t then postCompletion ring { ring := desc.ring, seq := 2 ^ 32 + desc.seq } e t
  else report 0 10 ch [byte ch] t

/-- The descriptor of a command in flight on a channel. -/
def xferOf (ref : CmdRef) (x : Xfer) : Bool := decide (x.cmd = ref)

/-- An internal target answers a beat with an error (R63 to R65). On a privileged channel the descriptor, which has not completed,
keeps the error; after a standard channel has completed the beat's descriptor it is a late error. -/
def execLateError (ch : Nat) (desc : DescRef) (status : Byte) (s : State) : Res :=
  let c := getChan ch s
  let p := xferOf { ring := desc.ring, seq := desc.seq }
  within (decide (ch < 64) && decide (desc.ring < 256))
    (whenOpen s (if ch < 4 then
      if desc.packet then s
      else setChan ch { c with xfers := modFirst p (fun x => { x with bad := status.toNat, badBytes := x.badBytes + 64 }) c.xfers } s
    else if !desc.packet && c.xfers.any p then s
    else lateError ch desc status s))

/-! ### Packet descriptors (R50 to R52, R563) -/

/-- A channel has completed a packet descriptor (Tables 2.7 and 2.20); its write-back counts against the share (R67). -/
def packetDone (n status : Nat) (s : State) : State :=
  let ch := ringCh n s
  let s := countBurst ch .toHost s
  setChan ch { getChan ch s with lastStatus := status } s

/-- Write a packet descriptor back in place (Table 2.13), with the instant `z` (ns and wrap phase). -/
def writeBackAt (n : Nat) (d : PktDesc) (status len : Nat) (sop eop trunc : Bool) (z : Nat × Nat) (s : State) : State :=
  let fl := phaseOf (ringSize n s) d.pos + 2 * b2n sop + 4 * b2n eop + 8 * b2n (status ≠ 0 ∨ trunc) + 16 * z.2 + 64 * b2n trunc
  packetDone n status (emit (.hostWrite (entryAddr n 32 d.pos s)
    (le 8 d.addr ++ le 4 len ++ le 2 fl ++ [byte status, 0] ++ le 8 d.cookie ++ le 4 z.1 ++ zeros 4)) s)

/-- Write a packet descriptor back in place, now. -/
def writeBack (n : Nat) (d : PktDesc) (status len : Nat) (sop eop trunc : Bool) (s : State) : State :=
  writeBackAt n d status len sop eop trunc (stamp s) s

/-- The write-back of an entry that the host refused to let the device read (R563). -/
def writeBackRefused (n pos status : Nat) (s : State) : State :=
  packetDone n status (emit (.hostWrite (entryAddr n 32 pos s)
    (zeros 12 ++ le 2 (phaseOf (ringSize n s) pos + 8) ++ [byte status] ++ zeros 17)) s)

/-- The record instant `age` ns ago on a time base (R11). -/
def stampAgo (tb age : Nat) (s : State) : Nat × Nat :=
  let t := (timeOf tb s + timeSpan - age % timeSpan) % timeSpan
  (t % 2 ^ 32, t / 2 ^ 32 % 4)

/-- Write descriptors back as posted, with one status; the reads of their buffers ended so many ns ago (R189). -/
def writeBackAll (n status : Nat) (ds : List PktDesc) (ages : List Nat) (s : State) : State :=
  ds.zipIdx.foldl (fun s x => writeBackAt n x.1 status x.1.len x.1.sop x.1.eop false (stampAgo (tsBase s) (ages.getD x.2 0) s) s) s

/-- The packet descriptor in an entry's 32 bytes. -/
def decodeDesc (pos : Nat) (b : List Byte) : PktDesc :=
  let fl := leAt b 12 2
  { pos := pos, addr := leAt b 0 8, len := leAt b 8 4, sop := bitAt fl 1, eop := bitAt fl 2, cookie := leAt b 16 8 }

/-- An inject packet is discarded: it is counted (R52). -/
def countDropped (n : Nat) (s : State) : State := setRing n { getRing n s with discarded := (getRing n s).discarded + 1 } s

/-- The open inject packet's descriptors are written back with a status (R52, R189). -/
def closeInject (n status : Nat) (ages : List Nat) (s : State) : State :=
  let r := getRing n s
  setRing n { r with injDescs := [], injStage := .idle } (writeBackAll n status r.injDescs ages s)

/-- An open inject packet, if there is one, is discarded and counted, and its descriptors are written back with ERR and a status
(R52). -/
def dropInject (n status : Nat) (s : State) : State :=
  if (getRing n s).injDescs = [] then closeInject n status [] s else countDropped n (closeInject n status [] s)

/-- Add a descriptor to the open inject packet: it grows, is whole, or breaks R52. -/
def growInject (n : Nat) (d : PktDesc) (s : State) : State :=
  let r := getRing n s
  let ds := r.injDescs ++ [d]
  let s := setRing n { r with injDescs := ds, injStage := .opened } s
  if d.eop then
    if (ds.map PktDesc.len).foldl (· + ·) 0 < 46 then dropInject n BAD_PARAM s
    else setRing n { getRing n s with injStage := .reading } s
  else if ds.length ≥ 16 then
    let s := dropInject n BAD_PARAM s
    setRing n { getRing n s with injStage := .skipping } s
  else s

/-- A descriptor where a packet begins, or one of a packet that is being skipped (R52). -/
def beginInject (n : Nat) (d : PktDesc) (s : State) : State :=
  let r := getRing n s
  let bad := writeBack n d BAD_PARAM d.len d.sop d.eop false s
  if d.sop then
    if d.len < 32 then countDropped n (setRing n { getRing n bad with injDescs := [], injStage := if d.eop then .idle else .skipping } bad)
    else growInject n d (setRing n { r with injDescs := [] } s)
  else if r.injStage = .skipping then
    setRing n { getRing n bad with injDescs := [], injStage := if d.eop then .idle else .skipping } bad
  else countDropped n (setRing n { getRing n bad with injDescs := [], injStage := .idle } bad)

/-- The device reads the next inject descriptor and checks the packet's structure (R51, R52). -/
def execInjectDescriptorFetch (ring : Nat) (desc : List Byte) (s : State) : Res :=
  let r := getRing ring s
  within (decide (ring < 256))
    (if !s.sys.mode.engine || !hasWork 2 ring s || decide (r.injStage = .reading) then s
    else
      let d := decodeDesc r.cons (fit 32 desc)
      let s := takeEntry ring s
      if r.injStage = .opened then
        if d.sop then beginInject ring d (dropInject ring BAD_PARAM s) else growInject ring d s
      else beginInject ring d s)

/-- Whether an inject header obeys Table 6.7 and R191. -/
def injectOk (h : List Byte) (s : State) : Bool :=
  let fl := byteAt h 1
  let pipe := byteAt h 2
  let port := leAt h 4 2
  let dk := byteAt h 6
  byteAt h 0 == 1 && decide (fl < 8) && decide (pipe < 16) && decide (port < 1024) && decide (portWidth port s ≠ 0) &&
    (groupOfLane port == pipe || servingPipe (groupOfLane port) s == pipe) && byteAt h 3 < 128 && allZero (slice h 25 7) &&
    (!bitAt fl 0 || dk == 1 || dk == 3 || dk == 4)

/-- The tag that an inject header gives, the read of the SOP buffer having ended `age` ns ago (R189, R190). -/
def injectTag (h : List Byte) (age : Nat) (s : State) : Tag :=
  let fl := byteAt h 1
  let z := stampAgo (pktTb s) age s
  let port := leAt h 4 2
  let t : Tag := { inPort := port, pipeIn := servingPipe (groupOfLane port) s, rxTs := z.1, rxPh := z.2, tb := pktTb s,
                   cls := byteAt h 3, pflags := 2 ^ 10, edit := leAt h 12 4, metadata := leAt h 16 4, mirror := byteAt h 24,
                   tel := b2n (bitAt fl 2), hash := if bitAt fl 1 then leAt h 20 4 else 0 }
  if bitAt fl 0 then
    { t with dk := byteAt h 6, qidx := byteAt h 7 % 32, dest := leAt h 8 4, hdr := List.replicate 15 255 ++ [0] }
  else t

/-- An injected packet enters its pipe, or admission if it is direct (R25, R190). -/
def injectPkt (h frame : List Byte) (age : Nat) (s : State) : State :=
  let fl := byteAt h 1
  let t := injectTag h age s
  (newPkt { tag := t, pipe := t.pipeIn, frame := frame, rxTotal := timeOf (pktTb s) s - age, direct := bitAt fl 0,
            hashGiven := bitAt fl 1, stage := if bitAt fl 0 then .ready else .input } s).2

/-- The status with which an inject packet ends (R70, R191): BAD_PARAM for its header, FENCED for its lane group, MODE where pipes
take no packet, DOMAIN_OFF where the panel of its pipe is off or to be powered down, or of a direct packet the buffer. -/
def injectStatus (h : List Byte) (s : State) : Nat :=
  let g := groupOfLane (leAt h 4 2)
  if !injectOk h s then BAD_PARAM else if fencedU 3 g s then ST_FENCED
  else if !s.sys.mode.forwards then ST_MODE
  else if domsDown [if bitAt (byteAt h 1) 0 then bufferDom else panelDom (g / 4)] s then DOMAIN_OFF
  else 0

/-- The reads of an injected packet's buffers have ended, each so many ns ago: the packet enters its pipe and its descriptors are
written back (R189 to R191). -/
def execInjectBufferReadDone (ring : Nat) (buffers : List (Nat × List Byte)) (s : State) : Res :=
  let r := getRing ring s
  within (decide (ring < 256))
    (if r.injStage ≠ .reading then s
    else
      let data := (r.injDescs.zipIdx.map fun x => fit x.1.len (buffers.getD x.2 (0, [])).2).flatMap id
      let ages := buffers.map Prod.fst
      let h := data.take 32
      let st := injectStatus h s
      let t := closeInject ring st ages (r.injDescs.foldl (fun s d => countBursts (ringCh ring s) .fromHost d.len s) s)
      if st = 0 then injectPkt h (data.drop 32) (ages.getD 0 0) t else countDropped ring t)

/-- The host refuses the read of a packet descriptor or of an inject buffer (R563). -/
def execHostReadError (ring : Nat) (what : HostRead) (status : Byte) (s : State) : Res :=
  let r := getRing ring s
  within (decide (ring < 256))
    (match what with
    | .data => if r.injStage = .reading then dropInject ring status.toNat s else s
    | .descriptor =>
      if !s.sys.mode.engine then s
      else if hasWork 2 ring s ∧ r.injStage ≠ .reading then
        dropInject ring BAD_PARAM (writeBackRefused ring r.cons status.toNat (takeEntry ring s))
      else if hasWork 3 ring s then writeBackRefused ring r.cons status.toNat (takeEntry ring s)
      else s)

/-! ### Punted packets (R51, R192, R565) -/

/-- The byte stream of a punted packet: its tag, then the frame without FCS (R192, R565). -/
def puntStream (p : Pkt) : List Byte := p.tag.bytes ++ p.frame

/-- A punt buffer that is written: on a privileged channel its write-back waits for the flush read (R63). -/
def puntWritten (n : Nat) (b : PuntBuf) (s : State) : State :=
  if ringCh n s < 4 then
    let s := emit (.flushRead (b.desc.addr + b.len - 1)) s
    setRing n { getRing n s with puntWait := (getRing n s).puntWait ++ [b] } s
  else writeBackAt n b.desc b.status b.len b.sop b.eop b.trunc (b.ts, b.ph) s

/-- One buffer of a punt ring takes the next bytes of the packet at the head (R51, R565). The write of a packet cut at 16 buffers
ends the packet, so its last write-back has EOP too. While the buffer's domain is off or to be powered down, the descriptor ends
with DOMAIN_OFF (R70). -/
def puntBuffer (n : Nat) (b : List Byte) (s : State) : State :=
  let r := getRing n s
  match r.punts with
  | [] => s
  | i :: rest =>
    if !s.sys.mode.engine || !hasWork 3 n s || !(getPkt i s).ended then s else
    let d := decodeDesc r.cons (fit 32 b)
    let seq := r.fetched
    let s := takeEntry n s
    let r := getRing n s
    if d.len = 0 then writeBack n d BAD_PARAM 0 false false false s
    else if domsDown [bufferDom] s then writeBack n d DOMAIN_OFF 0 false false false s
    else
      let all := puntStream (getPkt i s)
      let chunk := (all.drop r.puntDone).take d.len
      let whole := decide (r.puntDone + chunk.length ≥ all.length)
      let trunc := !whole && decide (r.puntBufs + 1 = 16)
      let z := stamp s
      let s := writeHost d.addr chunk (countBursts (ringCh n s) .toHost chunk.length s)
      let s := puntWritten n { desc := d, seq := seq, status := if trunc then 0x0E else 0, len := chunk.length,
                               sop := decide (r.puntBufs = 0), eop := whole || trunc, trunc := trunc, ts := z.1, ph := z.2 } s
      let r := getRing n s
      if whole || trunc then endPkt i (setRing n { r with punts := rest, puntDone := 0, puntBufs := 0 } s)
      else setRing n { r with puntDone := r.puntDone + chunk.length, puntBufs := r.puntBufs + 1 } s

/-- The flush read of a punt buffer returns: the buffer is written back with its status, or with the host's error and the bytes
answered (R51, R63). -/
def puntFlushed (n seq answered : Nat) (err : Option Byte) (s : State) : State :=
  let r := getRing n s
  match r.puntWait.find? fun b => decide (b.seq = seq) with
  | none => s
  | some b =>
    let s := setRing n { r with puntWait := dropFirst (fun b => decide (b.seq = seq)) r.puntWait } s
    match err with
    | none => writeBackAt n b.desc b.status b.len b.sop b.eop b.trunc (b.ts, b.ph) s
    | some e => writeBackAt n b.desc e.toNat (min answered b.len) b.sop b.eop b.trunc (b.ts, b.ph) s

/-- The flush read of a privileged channel returns (R63, R65): the descriptor it belongs to completes with its answered bytes or
its error; on DC00 it may be that of the SUMMARY in progress (R74). -/
def execFlushReadReturn (ch : Nat) (of : FlushOf) (answered : Nat) (err : Option Byte) (s : State) : Res :=
  within (decide (ch < 4))
    (whenOpen s (match of with
    | .summary =>
      match (if ch = 0 then s.hif.sumRun else none) with
      | none => s
      | some j => endSummary j (match err with | some e => e.toNat | none => 0) s
    | .command ref =>
      let p := fun (x : Xfer) => xferOf ref x && decide (x.dir = .toHost) && decide (x.left = 0)
      match (getChan ch s).xfers.find? p with
      | none => s
      | some x =>
        match err with
        | none => endWhole ch p x x.bad x.good 0 s
        | some e => endWhole ch p x e.toNat (min answered x.good) 0 s
    | .punt ring seq => if ring < 256 ∧ ringCh ring s = ch then puntFlushed ring seq answered err s else s))

/-- The cells of the punted packets that have no buffer yet are read: one with an uncorrectable error is discarded (Table 9.6). -/
def dropSpoilt (ring : Nat) (s : State) : State :=
  let r := getRing ring s
  (if r.puntBufs = 0 then r.punts else r.punts.drop 1).foldl (fun s i =>
    let t := readCells i s
    if (getPkt i t).stomp then discard i 0 (getPkt i t).pipe (unpunt i t) else t) s

/-- Punted packets are written into the buffers their ring offers, in ring order (R565). -/
def execPuntBufferWrite (ring : Nat) (descs : List (List Byte)) (s : State) : Res :=
  within (decide (ring < 256)) (descs.foldl (fun s b => puntBuffer ring b s) (dropSpoilt ring s))

/-! ### Power-down deferral (R69 to R71) -/

/-- The deferral limit expires: each affected descriptor stops at its beat and completes with DOMAIN_OFF (R71). -/
def stopDomain (d : Nat) (s : State) : State :=
  let hit := fun (x : Xfer) => x.domains.contains d
  (List.range 64).foldl (fun s ch =>
    ((getChan ch s).xfers.filter hit).foldl (fun s x =>
      let y := getDom d s
      endXfer ch hit x DOMAIN_OFF (x.done - x.badBytes) x.left (setDom d { y with cut := y.cut + 1 } s)) s) s

/-- The punt buffers that the buffer's power-down waits for are written back with DOMAIN_OFF (R69, R71). -/
def stopPunts (s : State) : State :=
  (List.range 256).foldl (fun s n =>
    (getRing n s).puntWait.foldl (fun s b =>
      let y := getDom bufferDom s
      let s := setDom bufferDom { y with cut := y.cut + 1 } s
      writeBackAt n b.desc DOMAIN_OFF b.len b.sop b.eop b.trunc (b.ts, b.ph) s)
      (setRing n { getRing n s with puntWait := [] } s)) s

/-- POWER_DEFER_LIMIT of a domain that waits expires (R71). -/
def execPowerDeferLimit (domain : Nat) (s : State) : Res :=
  within (decide (domain < 31)) (if (getDom domain s).st = .deferred then
      (if domain = bufferDom then stopPunts (stopDomain domain s) else stopDomain domain s) else s)

/-! ### The host link (R35, R516, R527) -/

/-- HIF_LINK_STAT (Table 2.3). -/
def linkStat (s : State) : Nat := s.hif.gen + 16 * s.hif.width + 256 * b2n s.hif.flit

/-- The host link trains or retrains to a rate and width that Table 2.1 allows: FC003 where it fell, EV_LINK_CHANGE. -/
def execHostLinkChange (gen width : Nat) (flit : Bool) (s : State) : Res :=
  let ok := (gen == 4 || gen == 5 || gen == 6) && (width == 1 || width == 2 || width == 4 || width == 8) && (flit == (gen == 6))
  .next (if !ok || s.sys.perstN || decide (s.sys.mode = .off) || decide (s.sys.mode = .reset) then s
    else
      let fell := s.hif.linkUp && (decide (gen < s.hif.gen) || decide (width < s.hif.width))
      let t := { s with hif := { s.hif with gen := gen, width := width, flit := flit, linkUp := true } }
      let t := if fell then report 3 14 0 (le 4 (linkStat t)) t else t
      if linkStat t = linkStat s then t else post 0x0006 (le 4 (linkStat t)) t)

/-- The host link goes down without PERST_N: FC006 (R516). -/
def execHostLinkDown (s : State) : Res :=
  .next (if s.hif.linkUp then
      report 6 14 0 [] { s with hif := { s.hif with gen := 0, width := 0, flit := false, linkUp := false } }
    else s)

/-- Addresses of the HIF window (Table 0.2). -/
def hifWindow (a : Nat) : Bool := decide (0x0400000 ≤ a ∧ a < 0x0800000)

/-- A completion that PERST_N discards. -/
def perstDiscard (k : Nat) (s : State) : State :=
  { s with hif := { s.hif with perstDiscards := sat 32 (s.hif.perstDiscards + k) } }

/-- A command in flight at the assertion of PERST_N whose end no later row brings: its completion waited for room, its
transfer was stopped, or it is a SUMMARY. -/
def perstEnds (s : State) (c : Cmd) : Bool :=
  decide (c.stage = .waiting) || decide (c.opcode = 1 ∧ c.stage = .running) ||
    s.hif.chans.any fun e => e.2.xfers.any fun x => decide (x.cmd = c.ref)

/-- PERST_N resets the host interface only (R527). -/
def perstReset (s : State) : State :=
  let gone := s.hif.inflight.filter fun c => perstEnds s c
  let stay := (s.hif.inflight.filter fun c => !perstEnds s c).map fun c => { c with orphan := true }
  let lost := gone.filter fun c => decide (c.stage = .waiting) || c.posts {}
  let s := (List.range 256).foldl (fun s n => dropPunts n s) s
  let h := s.hif
  let s := { s with
    regs := s.regs.filter fun e => !hifWindow e.1
    latch := s.latch.filter fun e => !hifWindow e.1
    hold := s.hold.filter fun e => !hifWindow e.1
    hif := { h with rings := [], chans := tmap h.chans fun _ c => { lateErrors := c.lateErrors }
                    inflight := stay, rrNext := 0, turnPriv := (0, 0), turnStd := (4, 4), gen := 0, width := 0, flit := false, linkUp := false
                    sumRun := none, sumWait := [], sumErr := false, sumRecord := [] } }
  perstDiscard lost.length s

/-- The assertion of PERST_N (R527); SYS_RESET_STAT counts it. -/
def execPerstNAssert (s : State) : Res :=
  .next (if s.sys.perstN || decide (s.sys.mode = .off) then s
    else
      let t := perstReset s
      { t with sys := { t.sys with perstN := true, perstCount := sat 8 (t.sys.perstCount + 1) } })

/-- The release of PERST_N lets the host link train (R547). -/
def execPerstNRelease (s : State) : Res := .next { s with sys := { s.sys with perstN := false } }

/-! ### Registers -/

/-- HIF_RING_STAT (Table 2.6). -/
def ringStat (n : Nat) (s : State) : Nat :=
  let r := getRing n s
  let full := evRingOn n s && decide (occupancy (ringSize n s) r ≥ ringSize n s) && (!r.comps.isEmpty || !r.backlog.isEmpty)
  devPosWord n s + 2 ^ 17 * b2n r.cfgErr + 2 ^ 18 * b2n r.quiesced + 2 ^ 19 * b2n full

/-- Descriptors that a channel has started and not completed (Tables 2.7 and 2.20): commands' data, the Linen record, packet
descriptors. -/
def chanFlight (ch : Nat) (s : State) : Nat :=
  (getChan ch s).xfers.length + (if ch = 0 ∧ s.hif.sumRun.isSome then 1 else 0) +
    s.hif.rings.foldl (fun n e => if ringCh e.1 s = ch then n + e.2.injDescs.length + e.2.puntWait.length else n) 0

/-- A punt buffer of the channel is being written. -/
def puntsOn (ch : Nat) (s : State) : Bool := s.hif.rings.any fun e => decide (ringCh e.1 s = ch) && !e.2.puntWait.isEmpty

/-- STATE of a channel (Table 2.7, R69). -/
def dmaState (ch : Nat) (s : State) : Nat :=
  let c := getChan ch s
  let deferred := (c.xfers.any fun x => x.domains.any fun d => decide ((getDom d s).st = .deferred)) ||
    (decide ((getDom bufferDom s).st = .deferred) && puntsOn ch s)
  if c.halted then 2 else if deferred then 3 else if chanFlight ch s = 0 then 0 else 1

/-- HIF_DMA_STAT (Table 2.7). -/
def dmaStat (ch : Nat) (s : State) : Nat :=
  let c := getChan ch s
  dmaState ch s + 256 * c.lastStatus + 65536 * sat 16 (chanFlight ch s)

end Sys2Proof.Machine
end

