-- ==== Sys2Proof/Machine/MemCtl.lean ====
section
/-! DEFINITION. The LPDDR5X controller: training and retraining, refresh, self-refresh, scrub (14.1 to 14.4). -/
namespace Sys2Proof.Machine

/-- The sensor temperature in °C that a channel recorded, against a reading in 1/16 °C. -/
def tempFar (c : MChan) (t : Int) : Bool := decide ((t - 16 * c.temp).natAbs ≥ 160)
/-- The sensor of a channel's half in 1/16 °C (R478). -/
def chanTemp (ch : Nat) (s : State) : Int := sensorTemp (30 + ch / 16) s
/-- A channel's retrain is due: 100 ms since its last training, or 10 °C off (R409). -/
def retrainDue (ch : Nat) (s : State) : Bool :=
  decide (s.aon ≥ (getMChan ch s).trainedAt + 100 * aonMs) || tempFar (getMChan ch s) (chanTemp ch s)

/-- No other channel of the half retrains (R409). -/
def halfQuiet (ch : Nat) (s : State) : Bool :=
  (List.range 16).all fun i => decide (16 * (ch / 16) + i = ch) || !(getMChan (16 * (ch / 16) + i) s).retraining

/-- A channel that may retrain: trained, in service, its half serving (R409, 14.6). -/
def mayRetrain (ch : Nat) (s : State) : Bool :=
  let c := getMChan ch s
  c.trained && chanUp ch s && !c.retraining && (decide (c.st = .ready) || decide (c.st = .selfRefresh)) && halfQuiet ch s

/-- A retrain starts: requests to the channel wait (R409). -/
def startRetrain (ch : Nat) (s : State) : State :=
  modMChan ch (fun c => { c with retraining := true, retry := false, st := .ready }) s

/-- A half's sensor is read: the first channel that is 10 °C off retrains (R409). -/
def tempRetrain (h : Nat) (s : State) : State :=
  match (List.range 16).find? fun i => mayRetrain (16 * h + i) s && tempFar (getMChan (16 * h + i) s) (chanTemp (16 * h + i) s) with
  | some i => startRetrain (16 * h + i) s
  | none => s

/-- 100 ms after its last training, or 10 °C off, a channel retrains (R409). -/
def execPeriodicRetrain (ch : Nat) (s : State) : Res :=
  within (decide (ch < 32)) (if mayRetrain ch s ∧ retrainDue ch s then startRetrain ch s else s)

/-- 1 ms after a failed retrain it is retried (R409). -/
def execRetrainRetry (ch : Nat) (s : State) : Res :=
  within (decide (ch < 32)) (if (getMChan ch s).retry ∧ mayRetrain ch s then startRetrain ch s else s)

/-- The channels of a half train (R408, R412). -/
def trainHalf (h : Nat) (s : State) : State :=
  (List.range 16).foldl (fun s i => modMChan (16 * h + i) (fun c =>
    if c.st = .absent then c else { c with st := .training, trained := false }) s) s

/-- Usable MiB of a channel by density code (Table 14.1). -/
def usablePerChannel (d : Nat) : Nat := 448 * 2 ^ d

/-- A power domain of a memory half goes off. -/
def halfOff (h : Nat) (s : State) : State :=
  { s with pwr := { s.pwr with doms := tmod s.pwr.doms (27 + h) fun x => { x with st := .off } } }

/-- The one data rate of all channels: RATE_MAX, or the code of the slowest present channel that trained (R400, R402). -/
def commonRate (s : State) : Nat :=
  (List.range 32).foldl (fun a ch => let c := getMChan ch s; if c.st = .absent ∨ !c.trained then a else max a c.rate) (rdFld Reg.memCtrl 0 2 3 s)

/-- Once every channel has ended its initial training: one density and width, the rate, U, and the halves (R401, R402).
Channels that disagree make every channel absent, with FC182. -/
def settleMem (s : State) : State :=
  let chans := (List.range 32).map fun ch => getMChan ch s
  if chans.any fun c => decide (c.st = .training) then s
  else
    let here := chans.filter fun c => decide (c.st ≠ .absent)
    match here.filterMap fun c => c.density with
    | [] => halfOff 1 (halfOff 0 { s with mem := { s.mem with present := false, usableMib := 0, rate := 0, density := 0, serving := 0 } })
    | d :: ds =>
      let bad := ds.any (· != d) || here.any fun c => decide (c.width ≠ 16)
      if bad then
        let s := (List.range 32).foldl (fun s ch => modMChan ch (fun c => { c with st := .absent }) s) s
        halfOff 1 (halfOff 0 (report 182 0 0 [] { s with mem := { s.mem with
          present := false, usableMib := 0, rate := 0, density := 0, serving := 0 } }))
      else { s with mem := { s.mem with
        present := true, density := d, usableMib := 32 * usablePerChannel d, serving := 3
        rate := commonRate s } }

/-- A channel's training or retrain ends: it records its half's temperature and the time (R401, R402, R408, R409). -/
def trainingDone (ch : Nat) (t : TrainRes) (s : State) : State :=
  let c := getMChan ch s
  let temp := chanTemp ch s / 16
  if c.st = .training then
    let first := decide (s.sys.mode = .wipe)
    let c' : MChan :=
      if first ∧ !t.answered then { c with st := .absent, density := none }
      else { c with st := .ready, trained := t.ok, temp := temp, trainedAt := s.aon, rate := t.rate,
                    density := if first then some t.density else c.density, width := if first then t.width else c.width }
    let s := setMChan ch c' s
    let s := if c'.st = .ready ∧ !t.ok then report 176 9 ch [byte ch] s else s
    if first then settleMem s else s
  else if c.retraining then
    if t.ok then setMChan ch { c with retraining := false, retry := false, temp := temp, trainedAt := s.aon } s
    else report 177 9 ch [byte ch] (setMChan ch { c with retraining := false, retry := true } s)
  else s

/-- The row CHANNEL_TRAINING_DONE. -/
def execChannelTrainingDone (ch : Nat) (t : TrainRes) (s : State) : Res := within (decide (ch < 32)) (trainingDone ch t s)

/-- A bank's refresh comes due: postponed while its bank is busy, at most 8 times, else issued with those postponed
(R410). -/
def execRefresh (ch bank : Nat) (busy : Bool) (s : State) : Res :=
  let c := getMChan ch s
  let n := tget c.late bank
  within (decide (ch < 32))
    (if !chanUp ch s ∨ c.st ≠ .ready then s
    else if busy ∧ n < 8 then setMChan ch { c with late := tset c.late bank (n + 1) } s
    else if busy then setMChan ch { c with refreshes := tmod c.refreshes bank (· + 1) } s
    else setMChan ch { c with late := tset c.late bank 0, refreshes := tmod c.refreshes bank (· + (n + 1)) } s)

/-- AUTO_SR in force: set in DOZE (R411). -/
def autoSr (s : State) : Bool := bitAt (rd Reg.memCtrl 0 s) 0

/-- A channel idle for SR_IDLE µs enters self-refresh (R411). -/
def execSelfRefreshEntry (ch : Nat) (s : State) : Res :=
  let c := getMChan ch s
  within (decide (ch < 32))
    (if autoSr s ∧ c.st = .ready ∧ !c.retraining ∧ chanUp ch s then setMChan ch { c with st := .selfRefresh } s else s)

/-- AUTO_SR is set on entry to DOZE, and what host software wrote comes back on leaving it (R411). -/
def dozeMem (s : State) : State := wrFld Reg.memCtrl 0 0 1 1 { s with mem := { s.mem with autoSr := some (autoSr s) } }
def undozeMem (s : State) : State :=
  match s.mem.autoSr with
  | none => s
  | some b => wrFld Reg.memCtrl 0 0 1 (b2n b) { s with mem := { s.mem with autoSr := none } }

/-- Rows of a channel: 1,792 data bytes each (R404). -/
def memRows (s : State) : Nat := usable s / 32 / 1792

/-- The usable address of burst `i` of a row of a channel (R403, inverted). -/
def rowAddr (ch row i : Nat) (s : State) : Nat :=
  let loc := row * 1792 + 64 * i
  ch / 16 * (usable s / 2) + (loc / 65536 * 2 ^ 20 + ch % 16 * 65536 + loc % 65536)

/-- Link ECC corrected `n` errors in a channel: LINK_CE, and FC180 once they exceed 1,000 in a second (R406, Table 14.3). The
second is counted from the first error after the last one. -/
def linkSeen (ch n : Nat) (s : State) : State :=
  let c := getMChan ch s
  let anew := decide (s.aon ≥ c.linkSince + 1000 * aonMs)
  let before := if anew then 0 else c.linkCount
  let s := setMChan ch { c with linkCe := sat 8 (c.linkCe + n), linkCount := before + n,
                                linkSince := if anew then s.aon else c.linkSince } s
  if before ≤ 1000 ∧ before + n > 1000 then report 180 9 ch [byte ch] s else s

/-- The scrubber reads a row and handles what it finds in it and on the link (R406, R407). -/
def execScrubRead (ch row : Nat) (link : LinkFound) (s : State) : Res :=
  within (decide (ch < 32))
    (if !bitAt (rd Reg.memCtrl 0 s) 1 ∨ !chanUp ch s ∨ row ≥ memRows s then s
    else
      let t := (List.range 28).foldl (fun s i => burlapScan (rowAddr ch row i s) 64 s) s
      match link with
      | .clean => t
      | .corrected n => linkSeen ch n t
      | .lost => report 178 9 ch (le 8 (rowAddr ch row 0 s)) t)

/-! ### Registers (Tables 14.4 to 14.7) -/

/-- A write of MEM_CTRL: a RATE_MAX of 0, 6 or 7, an SR_IDLE of 0 and a SCRUB_HOURS of 0 are ignored; in DOZE the AUTO_SR
written is kept for later. -/
def writeMemCtrl (v : Nat) (s : State) : State :=
  let old := rd Reg.memCtrl 0 s
  let r := fld v 2 3
  let v := if 1 ≤ r ∧ r ≤ 5 then v else setFld v 2 3 (fld old 2 3)
  let v := if fld v 8 8 = 0 then setFld v 8 8 (fld old 8 8) else v
  let v := if fld v 16 16 = 0 then setFld v 16 16 (fld old 16 16) else v
  match s.mem.autoSr with
  | none => wrRw Reg.memCtrl 0 v s
  | some _ => wrRw Reg.memCtrl 0 (setFld v 0 1 1) { s with mem := { s.mem with autoSr := some (bitAt v 0) } }

def memCfg (s : State) : Nat := s.mem.rate + 8 * s.mem.density + 32 * b2n s.mem.present

/-- STATE of MEM_CHAN_STAT. -/
def chanState (ch : Nat) (s : State) : Nat :=
  let c := getMChan ch s
  if c.st = .absent then 0
  else if (tget s.pwr.doms (27 + ch / 16)).st = .off then 5
  else match (getUnit 9 ch s).state with
    | .fenced => 4
    | .testing => 6
    | .inService => match c.st with
      | .training => 1
      | .selfRefresh => 3
      | _ => if c.retraining then 1 else 2
def memChanStat (ch : Nat) (s : State) : Nat :=
  let c := getMChan ch s
  chanState ch s + 256 * ofS 8 c.temp + 65536 * c.ce + 2 ^ 24 * c.linkCe

end Sys2Proof.Machine
end

