-- ==== Sys2Proof/Machine/PoolOps.lean ====
section
/-! DEFINITION. The buffer pool manager's operations: handles, requests, grants, frees, transfers (12.1 to 12.5). -/
namespace Sys2Proof.Machine

def getPool (k : Nat) (s : State) : Pool := tget s.pool.pools k
def setPool (k : Nat) (p : Pool) (s : State) : State := { s with pool := { s.pool with pools := tset s.pool.pools k p } }
def modPool (k : Nat) (f : Pool → Pool) (s : State) : State := setPool k (f (getPool k s)) s
def getPBuf (h : Nat) (s : State) : PBuf := tget s.pool.bufs h
def setPBuf (h : Nat) (b : PBuf) (s : State) : State := { s with pool := { s.pool with bufs := tset s.pool.bufs h b } }

/-- POOL_CTRL.ENABLE. -/
def poolOn (s : State) : Bool := bitAt (rd Reg.poolCtrl 0 s) 0

/-- Buffer size and largest count of a pool (Table 12.1). -/
def poolSize (k : Nat) : Nat := [1024, 4096, 16384, 65536, 65536, 262144, 1048576, 4194304].getD k 0
def poolMax (k : Nat) : Nat := [32768, 8192, 2048, 512, 1835008, 458752, 114688, 28672].getD k 0
/-- Buffers of a pool. -/
def poolCount (k : Nat) (s : State) : Nat := if k < 4 then rd Reg.poolSCount k s else rd Reg.poolMCount (k - 4) s

/-- Start of a pool: the larger pools of its tier lie before it (R366). -/
def poolStart (k : Nat) (s : State) : Nat :=
  let top := if k < 4 then 4 else 8
  let before := (List.range top).filter fun j => decide (k < j)
  before.foldl (fun a j => a + poolCount j s * poolSize j) (if k < 4 then 0 else rd Reg.poolMBase 0 s)

/-- Bytes of the M-pool region and of the S-pools. -/
def mBytes (s : State) : Nat := [4, 5, 6, 7].foldl (fun a k => a + poolCount k s * poolSize k) 0
def sBytes (s : State) : Nat := [0, 1, 2, 3].foldl (fun a k => a + poolCount k s * poolSize k) 0

/-- Handles (R367). -/
def handleOf (k i : Nat) : Nat := k * 2 ^ 29 + i
def handlePool (h : Nat) : Nat := fld h 29 3
def handleIx (h : Nat) : Nat := fld h 0 21
/-- A handle obeys R367 and its index lies within the pool's count. -/
def handleOk (h : Nat) (s : State) : Bool := decide (fld h 21 8 = 0) && decide (handleIx h < poolCount (handlePool h) s)
/-- Address of a buffer: service SRAM offset or usable Burlap address. -/
def handleAddr (h : Nat) (s : State) : Nat := poolStart (handlePool h) s + handleIx h * poolSize (handlePool h)
/-- The buffer lies in Burlap. -/
def handleM (h : Nat) : Bool := decide (4 ≤ handlePool h)

/-- Host-range owner IDs, and IDs that may own a buffer (Table 12.2). -/
def hostOwner (o : Nat) : Bool := decide (0x1000 ≤ o) && decide (o ≤ 0xFFFE)
def ownerOk (o : Nat) : Bool :=
  (decide (0x40 ≤ o) && decide (o ≤ 0x7F)) || (decide (0x80 ≤ o) && decide (o ≤ 0x89)) || hostOwner o

/-- Buffers of a pool that are not free: owned, under test or withdrawn. -/
def poolBusy (k : Nat) (s : State) : List (Nat × PBuf) :=
  s.pool.bufs.filter fun e => handlePool e.1 == k && (decide (e.2.owner ≠ 0) || e.2.withdrawn || e.2.testing)
def poolFreeCount (k : Nat) (s : State) : Nat := poolCount k s - (poolBusy k s).length

/-- The free buffer with the lowest index (R372). -/
def poolLowest (k : Nat) (s : State) : Option Nat :=
  let n := (poolBusy k s).foldl (fun n e => if handleIx e.1 = n then n + 1 else n) 0
  if n < poolCount k s then some n else none

/-- LOW_FREE follows the free count. -/
def poolLow (k : Nat) (s : State) : State :=
  modPool k (fun p => { p with low := some (min (p.low.getD (poolFreeCount k s)) (poolFreeCount k s)) }) s

/-- Granules of a buffer's 64 KiB blocks, and its channels (R405). -/
def bufGranules (h : Nat) (s : State) : List Nat :=
  if handleM h then (List.range (poolSize (handlePool h) / 65536)).map (handleAddr h s / 65536 + ·) else []
/-- A granule of the buffer is lost (R413). -/
def bufInLost (h : Nat) (s : State) : Bool :=
  (bufGranules h s).any fun g => chanLost (chanOfAddr (65536 * g) s) s

/-- Every owned M-pool buffer with a granule in a channel is marked TAINTED (R413). -/
def taintChannel (ch : Nat) (s : State) : State :=
  let hit := s.pool.bufs.filter fun e =>
    decide (e.2.owner ≠ 0) && (bufGranules e.1 s).any fun g => chanOfAddr (65536 * g) s == ch
  hit.foldl (fun s e => setPBuf e.1 { e.2 with tainted := true } s) s

/-- Owned M-pool buffers of a memory half (R379). -/
def mOwned (h : Nat) (s : State) : Nat :=
  (s.pool.bufs.filter fun e => handleM e.1 && decide (e.2.owner ≠ 0) && halfOf (handleAddr e.1 s) s == h).length

/-! ### Requests (R370 to R373) -/

/-- The smallest pool of a tier that fits and has buffers (R370). -/
def poolFor (size tier : Nat) (s : State) : Option Nat :=
  [0, 1, 2, 3].findSome? fun j =>
    let k := 4 * tier + j
    if size ≤ poolSize k ∧ poolCount k s ≠ 0 then some k else none

/-- The next larger pool of the tier with buffers (R373). -/
def poolNext (k : Nat) (s : State) : Option Nat :=
  ([k + 1, k + 2, k + 3].filter fun j => decide (j / 4 = k / 4)).find? fun j => decide (poolCount j s ≠ 0)

/-- Rank of a port within a cycle: from the port after the one last granted to (R371). -/
def portRank (ptr port : Nat) : Nat := (port + 12 - (ptr + 1)) % 12

/-- A request enters a queue behind the requests of earlier cycles and the earlier ports of its own (R371). -/
def poolInsert (ptr : Nat) (r : PoolReq) : List PoolReq → List PoolReq
  | [] => [r]
  | q :: qs =>
    if decide (q.cyc < r.cyc) || (decide (q.cyc = r.cyc) && decide (portRank ptr q.port ≤ portRank ptr r.port)) then
      q :: poolInsert ptr r qs
    else r :: q :: qs

/-- A request reaches a pool's queue, `ahead` cycles from now. -/
def poolRequest (k ahead : Nat) (r : PoolReq) (s : State) : State :=
  modPool k (fun p => { p with queue := poolInsert p.ptr { r with cyc := p.cycles + ahead } p.queue }) s

/-- An EMPTY answer: counted, EMPTY_SEEN, EV_POOL_EMPTY at most once in each ms (Table 12.8). -/
def poolEmpty (k : Nat) (s : State) : State :=
  let p := getPool k s
  let times := s.aon :: p.emptyTimes.filter fun t => decide (s.aon < t + aonMs)
  let due := match p.emptyPost with
    | none => true
    | some t => decide (s.aon ≥ t + aonMs)
  let p := { p with empties := sat 32 (p.empties + 1), emptySeen := true, emptyTimes := times,
                    emptyPost := if due then some s.aon else p.emptyPost }
  let s := setPool k p s
  if due then post 0x5001 ([byte k, 0, 0, 0] ++ le 4 times.length) s else s

/-- One POOL_GRANT cycle (R372, R373): the pool after it, the answered request and the granted handle. -/
def poolCycle (k : Nat) (s : State) : Option (PoolWho × Option Nat) × State :=
  let p := getPool k s
  let s := setPool k { p with cycles := p.cycles + 1, queue := p.queue.tail } s
  match p.queue with
  | [] => (none, s)
  | r :: _ =>
    match poolLowest k s with
    | some i =>
      let h := handleOf k i
      let s := setPBuf h { owner := r.owner, tainted := bufInLost h s } s
      let s := modPool k (fun p => { p with ptr := r.port, grants := sat 32 (p.grants + 1) }) s
      (some (r.who, some h), poolLow k s)
    | none =>
      let s := poolEmpty k s
      match r.spill, poolNext k s with
      | true, some j =>
        (none, poolRequest j 1 r (modPool k (fun p => { p with spillUps := sat 32 (p.spillUps + 1) }) s))
      | _, _ => (some (r.who, none), s)

/-! ### Frees and transfers (R375 to R378) -/

/-- A misuse: FC144, EV_POOL_MISUSE and the Linen fields (R376). -/
def poolMisuse (h owner offender kind : Nat) (s : State) : State :=
  let pay := le 4 h ++ le 2 owner ++ le 2 offender
  let z := stamp s
  let s := modPool (handlePool h) (fun p => { p with misuse := sat 32 (p.misuse + 1) }) s
  let s := { s with pool := { s.pool with
    last := { handle := h, owner := owner, offender := offender, ts := z.1, ph := z.2 } } }
  post 0x5000 (pay ++ [byte kind]) (report 144 14 h (pay ++ [byte kind]) s)

def NOT_OWNER : Nat := 0x81
def NOT_ALLOCATED : Nat := 0x82
def BAD_OWNER : Nat := 0x83

/-- A party's right to a buffer: 0, or the status it is refused with. -/
def poolRight (h who : Nat) (s : State) : Nat :=
  let o := (getPBuf h s).owner
  if o = 0 then NOT_ALLOCATED else if o ≠ who then NOT_OWNER else 0

/-- A buffer becomes free, or goes under test if it is TAINTED (R375, R378). -/
def poolRelease (h : Nat) (s : State) : State :=
  let b := getPBuf h s
  setPBuf h (if b.tainted then { tainted := true, testing := true } else {}) s

/-- A free by a party (R375, R376): its status and the effect. -/
def poolFreeBy (h who : Nat) (s : State) : Nat × State :=
  let st := poolRight h who s
  if st = 0 then (0, poolRelease h s)
  else (st, poolMisuse h (getPBuf h s).owner who (if st = NOT_ALLOCATED then 1 else 0) s)

/-- A transfer by a party to a new owner (R369, R376). -/
def poolGive (h who new : Nat) (s : State) : Nat × State :=
  let st := poolRight h who s
  if st = 0 then (0, setPBuf h { getPBuf h s with owner := new } s)
  else (st, poolMisuse h (getPBuf h s).owner who (if st = NOT_ALLOCATED then 3 else 2) s)

/-- Every buffer of an owner, in ascending pool code and index order (R377). -/
def ownedBy (o : Nat) (s : State) : List Nat := (s.pool.bufs.filter fun e => decide (e.2.owner = o)).map fun e => e.1

/-! ### Data (R378, R380) -/

/-- The memory number of service SRAM words of 64 bits. -/
def memSram : Nat := 18

/-- Upset words of an SRAM range. -/
def sramHit (a n kind : Nat) (s : State) : List Nat :=
  ((List.range ((a % 8 + n + 7) / 8)).map (a / 8 + ·)).filter fun w => upsetOf memSram w s == kind

/-- Read a buffer's data: a status and the bytes; an uncorrectable error taints it (FC146). -/
def bufRead (h off n : Nat) (s : State) : Nat × List Byte × State :=
  let a := handleAddr h s + off
  let taint := fun s => report 146 14 h (le 4 h) (setPBuf h { getPBuf h s with tainted := true } s)
  if handleM h then
    let (st, bs, s) := burlapRead a n s
    (st, bs, if st = TARGET_ECC then taint s else s)
  else if sramHit a n 2 s ≠ [] then (TARGET_ECC, [], taint s)
  else
    let s := (sramHit a n 1 s).foldl (fun s w => report 145 14 w (le 8 (8 * w)) (clearUpset memSram w s)) s
    (0, mread s.pool.sram a n, s)

/-- Write a buffer's data: a status. -/
def bufWrite (h off : Nat) (bs : List Byte) (s : State) : Nat × State :=
  let a := handleAddr h s + off
  if handleM h then
    if halfServes (halfOf a s) s then (0, burlapWrite a bs s) else (DOMAIN_OFF, s)
  else
    let whole := (List.range ((a % 8 + bs.length + 7) / 8)).map (a / 8 + ·) |>.filter fun w => a ≤ 8 * w && 8 * w + 8 ≤ a + bs.length
    let s := whole.foldl (fun s w => clearUpset memSram w s) s
    (0, { s with pool := { s.pool with sram := mwrite s.pool.sram a bs } })

end Sys2Proof.Machine
end

