-- ==== Sys2Proof/Machine/Power.lean ====
section
/-! DEFINITION. The power manager: measurement and energy, limits and throttling, dips, alerts, temperature, power
domains, the power commands and registers (chapter 17, R32 to R34). -/
namespace Sys2Proof.Machine

/-! ### Ceilings seen from outside -/

/-- EV_PWR_CEILING where a cluster's ceiling is not the one last posted (R471). -/
def tellCeil (k : Nat) (s : State) : State :=
  let c := clusterCeil k s
  if c = 7 - tget s.pwr.ceilTold k then s
  else post 0x7804 [byte k, byte c] { s with pwr := { s.pwr with ceilTold := tset s.pwr.ceilTold k (7 - c) } }

/-- After a change of the power state: EV_PWR_CEILING for every cluster whose ceiling changed, and PACE (R352, R471). -/
def ceilingsMoved (s : State) : State :=
  (List.range 4).foldl (fun s k => foreseeRail k s) (lookCeils ((List.range 4).foldl (fun s k => tellCeil k s) s))

/-! ### Measurement (R466, R467) -/

def vrOn (k : Nat) (s : State) : Bool := bitAt (rd Reg.pwrVr k s) 7
def vrRail (k : Nat) (s : State) : Nat := rdFld Reg.pwrVr k 8 4 s
def vrImax (k : Nat) (s : State) : Nat := rdFld Reg.pwrVr k 16 16 s
def getVr (k : Nat) (s : State) : VrRead := tget s.pwr.vrs k

/-- One answer of a regulator: the value is held; two reads without an answer record FC228, a fault status FC229. -/
def takeVr (k : Nat) (a : VrAnswer) (s : State) : State :=
  let v := getVr k s
  let put := fun (v : VrRead) (s : State) => { s with pwr := { s.pwr with vrs := tset s.pwr.vrs k v } }
  if a.answered then
    let s := put { mv := a.mv, ma := a.ma, misses := 0 } s
    if a.status = 0 then s
    else post 0x7805 ([byte k, 1] ++ le 2 a.status) (report 229 14 k ([byte k, 1] ++ le 2 a.status) s)
  else
    let s := put { v with misses := min 2 (v.misses + 1) } s
    if v.misses = 1 then post 0x7805 [byte k, 0, 0, 0] (report 228 14 k [byte k] s) else s

/-- Power of a regulator in µW; one that does not answer counts at its IMAX (R467). -/
def vrMicro (k : Nat) (s : State) : Nat :=
  let v := getVr k s
  if !vrOn k s then 0 else if v.misses ≥ 2 then v.mv * (1000 * vrImax k s) else v.mv * v.ma
/-- P in µW (R466). -/
def devMicro (s : State) : Nat := (List.range 16).foldl (fun a k => a + vrMicro k s) 0
/-- Energy in nJ of one 20 µs interval. -/
def njOf (micro : Nat) : Nat := micro / 50
/-- P_NOW, the peak-window mean and the 1 s mean in mW. -/
def pNow (s : State) : Nat := s.pwr.hist.headD 0 / 20
def peakWindow (s : State) : Nat := 5 * rdFld Reg.pwrLimit 0 11 9 s
def pPeak (s : State) : Nat := (s.pwr.hist.take (peakWindow s)).foldl (· + ·) 0 / (20 * peakWindow s)
def pSustained (s : State) : Nat := s.pwr.hist.foldl (· + ·) 0 / (20 * 50000)
def peakW (s : State) : Nat := rdFld Reg.pwrLimit 0 0 11 s
def sustainedW (s : State) : Nat := rdFld Reg.pwrLimit 0 20 11 s
def limitEn (s : State) : Bool := bitAt (rd Reg.pwrCtrl 0 s) 0
def thermEn (s : State) : Bool := bitAt (rd Reg.pwrCtrl 0 s) 1

/-! ### Energy meters and job energy (R468, R483) -/

/-- Domains with a VDD_SRAM share (Table 1.5). -/
def sramDoms : List Nat := [1, 2, 3, 4, 5, 6, 7, 8, 9, 10, 30]

/-- Scale the estimates of one regulator's domains to its energy; FC232 after 100 intervals that differ by more than
20 %. -/
def scaleRail (cr : Nat) (est : List Nat) (s : State) : State :=
  let doms := railDoms cr
  let sum := doms.foldl (fun a d => a + est.getD d 0) 0
  let e := njOf (vrMicro cr s)
  let s := doms.foldl (fun s d => modDom d (fun x => { x with nj := if sum = 0 then 0 else est.getD d 0 * e / sum }) s) s
  let differ := decide (5 * (if sum ≥ e then sum - e else e - sum) > e)
  let n := if differ then tget s.pwr.disagree cr + 1 else 0
  let s := { s with pwr := { s.pwr with disagree := tset s.pwr.disagree cr (min n 100) } }
  if n = 100 then report 232 14 cr [byte cr] s else s

/-- The VDD_SRAM reading is shared in the same way among the meters that have a share of it. -/
def shareSram (est : List Nat) (s : State) : State :=
  let e := njOf (((List.range 16).filter fun k => vrRail k s == 4).foldl (fun a k => a + vrMicro k s) 0)
  let sum := sramDoms.foldl (fun a d => a + est.getD d 0) 0
  if e = 0 ∨ sum = 0 then s
  else sramDoms.foldl (fun s d => modDom d (fun x => { x with nj := x.nj + est.getD d 0 * e / sum }) s) s

/-- Charge a cluster's energy to the jobs it holds, by ingested bytes; the remainder goes to the lowest job (R483). -/
def chargeJobs (k : Nat) (ingested : List Nat) (s : State) : State :=
  let jobs := (s.col.jobs.filter fun e => decide (e.2.st ≠ .free) && e.2.cluster == k).map fun e => e.1
  let nj := (getDom (clusterDom k) s).nj
  let sum := jobs.foldl (fun a j => a + ingested.getD j 0) 0
  let share := fun j => if sum = 0 then nj / jobs.length else nj * ingested.getD j 0 / sum
  let given := jobs.foldl (fun a j => a + share j) 0
  match jobs with
  | [] => s
  | j :: _ =>
    let s := jobs.foldl (fun s i => modJob i (fun x => { x with energy := x.energy + share i }) s) s
    modJob j (fun x => { x with energy := x.energy + (nj - given) }) s

/-! ### Limits (R469 to R473) -/

/-- Lower a forwarding domain by one step, to a floor. -/
def lowerStep (floor d : Nat) (s : State) : State :=
  if domPowered d s ∧ domStep d s > floor then setStep d (domStep d s - 1) s else s
/-- Raise a forwarding domain by one step, to what it may take. -/
def raiseStep (d : Nat) (s : State) : State :=
  if domPowered d s ∧ domGoal d s < domMax d s then setStep d (domGoal d s + 1) s else s
/-- A domain is no longer below what it may take. -/
def atTop (d : Nat) (s : State) : Bool := !domPowered d s || decide (domStep d s ≥ domMax d s)

def panels : List Nat := [1, 2, 3, 4]
def fabric : List Nat := [5, 6]
def fwdFloor (s : State) : Nat := rdFld Reg.pwrPolicy 0 0 3 s
def fabricFloor (s : State) : Nat := rdFld Reg.pwrPolicy 0 3 3 s
/-- Lowest present step among powered domains of a list. -/
def lowest (l : List Nat) (s : State) : Nat := l.foldl (fun a d => if domPowered d s then min a (domStep d s) else a) 7

def PwrCause.num : PwrCause → Nat
  | .peak => 0 | .sustained => 1 | .thermal => 2 | .alert => 3

/-- EV_PWR_LIMIT (Table 17.7). -/
def postLimit (began : Bool) (c : PwrCause) (s : State) : State :=
  post 0x7801 ([byte (b2n began), byte c.num, byte (lowest panels s), byte (lowest fabric s)] ++ le 4 (pNow s)) s
/-- Throttling begins, unless it is on already. -/
def throttleBegan (c : PwrCause) (s : State) : State :=
  if s.pwr.cause.isSome then s else postLimit true c { s with pwr := { s.pwr with cause := some c } }
/-- Throttling ends once every forwarding domain is at its top. -/
def throttleEnded (s : State) : State :=
  match s.pwr.cause with
  | none => s
  | some c =>
    if (panels ++ fabric).all (fun d => atTop d s) ∧ !s.pwr.alert then
      postLimit false c { s with pwr := { s.pwr with cause := none } }
    else s

/-- The limits at a sample (R470): panels together, then the table array and buffer. -/
def enforce (s : State) : State :=
  let peak := decide (pNow s > 1000 * peakW s)
  let sust := decide (pSustained s > 1000 * sustainedW s)
  let s := { s with pwr := { s.pwr with isOver := peak || sust } }
  if !limitEn s ∨ !(peak || sust) then s
  else
    let atFloor := panels.all fun d => !domPowered d s || decide (domStep d s ≤ fwdFloor s)
    let t := if atFloor then fabric.foldl (fun s d => lowerStep (fabricFloor s) d s) s
      else panels.foldl (fun s d => lowerStep (fwdFloor s) d s) s
    throttleBegan (if peak then .peak else .sustained) t

/-- Whether a cluster may run step `p` under both limits (R471). -/
def ceilFits (k p : Nat) (s : State) : Bool :=
  let now := pNow s
  let pc := (getDom (clusterDom k) s).nj / 20
  let cost := fun q => stepMhz 2 q * Config.fusedMv 2 q ^ 2
  let f := cost (getCluster k s).step
  let need := (now - pc) * f + pc * cost p
  decide (need ≤ 1000 * peakW s * f) && decide (need ≤ 1000 * sustainedW s * f)
/-- The power ceiling of a cluster (R471). -/
def powerCeil (k : Nat) (s : State) : Nat := (([7, 6, 5, 4, 3, 2, 1]).find? fun p => ceilFits k p s).getD 0
def setCeils (s : State) : State :=
  if !limitEn s then { s with pwr := { s.pwr with ceilCut := [] } }
  else (List.range 4).foldl (fun t k => { t with pwr := { t.pwr with ceilCut := tset t.pwr.ceilCut k (7 - powerCeil k s) } }) s

/-- 20 µs intervals to the boundary at which a cluster's pending change takes effect, or over 3 epochs of the job with
the shortest epoch (R472). -/
def intervalsLeft (k : Nat) (s : State) : Nat :=
  let jobs := jobsOf k s
  let to_ := fun (a : Option Nat) (n : Nat) => some (min n (a.getD n))
  let pend := jobs.foldl (fun a j =>
    let x := getJob j s
    match x.pend with
    | [] => a
    | p :: _ =>
      let d := (p.epoch + 2 ^ 32 - epochNow x s) % 2 ^ 32
      let us := if d ≥ 2 ^ 31 ∨ d = 0 then 0 else d * x.epochUs - nsOf x.tb s / 1000 % x.epochUs
      to_ a (us / 20)) none
  let short := jobs.foldl (fun a j => to_ a (3 * (getJob j s).epochUs / 20)) none
  pend.getD (short.getD 0)

/-- must_drop (R472); `e` holds interval energies, newest first. -/
def mustDrop (e : List Nat) (w now left peak : Nat) : Bool :=
  if left ≥ w then decide (now > peak / w)
  else decide ((e.take (w - left)).foldl (· + ·) 0 + now * left > peak)

/-- A cluster above its ceiling is lowered when the projection exceeds PEAK_W (R472). -/
def dropIfMust (k : Nat) (s : State) : State :=
  let w := peakWindow s
  if limitEn s ∧ clusterCeil k s < (getCluster k s).eff ∧
      mustDrop s.pwr.hist w (s.pwr.hist.headD 0) (intervalsLeft k s) (peakW s * w * 20000) then dropCluster k (clusterCeil k s) s
  else s

/-- FC231, once per window, while the peak window is exceeded at full throttle (R473). -/
def fullThrottle (s : State) : State :=
  let full := panels.all (fun d => !domPowered d s || decide (domStep d s ≤ fwdFloor s)) &&
    fabric.all (fun d => !domPowered d s || decide (domStep d s ≤ fabricFloor s)) &&
    (List.range 4).all fun k => decide ((getCluster k s).step ≤ clusterCeil k s)
  let n := s.pwr.sinceFull.map (· + 1)
  if limitEn s ∧ full ∧ pPeak s > 1000 * peakW s ∧ n.all (fun n => decide (n ≥ peakWindow s)) then
    report 231 0 0 (le 4 (pPeak s)) { s with pwr := { s.pwr with sinceFull := some 0 } }
  else { s with pwr := { s.pwr with sinceFull := n } }

/-- A forwarding domain above what it may take is lowered to it (R476, Table 17.6). -/
def holdTops (s : State) : State :=
  (panels ++ fabric).foldl (fun s d => if domPowered d s ∧ domGoal d s > domMax d s then setStep d (domMax d s) s else s) s

/-- One 20 µs sample: measure, scale and charge energy, enforce the limits, set ceilings (R466 to R473, R483). -/
def powerSample (m : PowerMeasure) (s : State) : State :=
  let s := (List.range 4).foldl (fun s k => if vrOn k s then takeVr k (m.vr.getD k {}) s else s) s
  let s := { s with pwr := { s.pwr with hist := (njOf (devMicro s) :: s.pwr.hist).take 50000 } }
  let s := shareSram m.estimates ((List.range 4).foldl (fun s cr => scaleRail cr m.estimates s) s)
  let s := (List.range 4).foldl (fun s k => chargeJobs k m.ingested s) s
  let s := setCeils (enforce (holdTops s))
  let s := (List.range 4).foldl (fun s k => dropIfMust k s) s
  ceilingsMoved (fullThrottle s)

/-- The row POWER_SAMPLE. -/
def execPowerSample (m : PowerMeasure) (s : State) : Res := .next (fromWipe s (powerSample m s))

/-- Every 1 ms, the other enabled regulators are read over PMBus (R466). -/
def execPmbusRead (answers : List VrAnswer) (s : State) : Res :=
  .next (fromWipe s ((List.range 16).foldl (fun s k => if 4 ≤ k ∧ vrOn k s then takeVr k (answers.getD k {}) s else s) s))

/-- Dies whose domains were lowered for temperature and have not all risen again. -/
def cooledDie (x : Nat) (s : State) : Bool := tget s.pwr.cooled x
/-- A forwarding domain that temperature still holds. -/
def heldThermal (d : Nat) (s : State) : Bool := if d ≤ 4 then cooledDie (dieOf (d - 1)) s else cooledDie 0 s || cooledDie 1 s

/-- Each 1 ms below 95 % of both limits, the throttled domains rise one step, the last lowered first (R470). -/
def throttleRaise (s : State) : State :=
  if pNow s * 100 < 95 * 1000 * peakW s ∧ pNow s * 100 < 95 * 1000 * sustainedW s ∧ !s.pwr.alert then
    let may : List Nat → List Nat := fun l => l.filter fun d => !heldThermal d s
    let s := if (may fabric).all fun d => atTop d s then (may panels).foldl (fun s d => raiseStep d s) s
      else (may fabric).foldl (fun s d => raiseStep d s) s
    throttleEnded s
  else s

/-- The row THROTTLE_RAISE. -/
def execThrottleRaise (s : State) : Res := .next (fromWipe s (throttleRaise s))

/-- A regulator reports its raised voltage: pending steps that it serves are taken; a cluster whose boundary has passed
begins its change (R464, R465). -/
def railReached (cr mv : Nat) (s : State) : State :=
  let s := ((railDoms cr).filter fun d => d ≤ 6).foldl (fun s d =>
    let x := getDom d s
    match x.raise, stepClass d with
    | some p, some c => if stepMv c p s ≤ mv then throttleEnded (setDom d { x with below := 7 - p, raise := none } s) else s
    | _, _ => s) s
  (List.range 4).foldl (fun s k =>
    let c := getCluster k s
    match c.raise with
    | some p =>
      if railOf (clusterDom k) = some cr ∧ stepMv 2 p s ≤ mv then
        if c.due ∧ c.changing.isNone then startChange k p s else setCluster k { c with railUp := true } s
      else s
    | none => s) s

/-- The row RAIL_REACHED. -/
def execRailReached (cr mv : Nat) (s : State) : Res := within (decide (cr < 4)) (fromWipe s (railReached cr mv s))

/-! ### Supply dips (R474 to R476) -/

/-- Domain of a droop detector (R474). -/
def detDom (n : Nat) : Nat :=
  if n < 16 then 1 + n / 4 else if n < 24 then 7 + (n - 16) / 2 else if n < 40 then 5 else if n < 56 then 6
  else if n < 60 then 29 else 30

/-- A detector that reads a code trips: its rail, 500 mV + 2.5 mV × code, is more than WARN_MV below what the regulator is set to
(R474). -/
def trips (det code : Nat) (s : State) : Bool :=
  match railOf (detDom det) with
  | some cr => domPowered (detDom det) s && decide (1000 + 5 * code + 2 * rdFld Reg.pwrDroop 0 0 8 s < 2 * setMv cr s)
  | none => false

/-- A detector trips: the domain's clocks halve; a dip begins or goes on (R474 to R476). -/
def execDroopTrip (det code : Nat) (s : State) : Res :=
  within (decide (det < 64) && decide (code < 256))
    (if trips det code s then
      modDom (detDom det) (fun x => { x with dip := some (match x.dip with
        | none => { first := det, code := code, since := s.aon }
        | some p => { p with code := min p.code code }) }) s
    else s)

/-- The clocks are back at full rate: FC224 and EV_PWR_DROOP, with the time since the first trip (R476). -/
def execDroopReturn (domain : Nat) (s : State) : Res :=
  within (decide (domain < 31)) (match (getDom domain s).dip with
    | none => s
    | some p =>
      let pay := [byte domain, byte p.first, byte p.code, 0] ++ le 4 (4 * (s.aon - p.since))
      post 0x7800 pay (report 224 14 domain pay (modDom domain (fun x => { x with dip := none }) s)))

/-- Hottest temperature of a core die. -/
def dieTemp (x : Nat) (s : State) : Int := ((dieSensors (6 * x)).map fun n => sensorTemp n s).foldl max (sensorTemp (6 * x) s)

/-- A detector recalibrates in an idle slot in which its domain has no step change pending (R484). -/
def execDroopRecalibration (det : Nat) (s : State) : Res :=
  let d := detDom det
  let x := getDom d s
  let busy := x.raise.isSome || (decide (7 ≤ d ∧ d ≤ 10) && (getCluster (d - 7) s).changing.isSome)
  let die := if d = 3 ∨ d = 4 ∨ d = 9 ∨ d = 10 then 1 else 0
  let temp := if d = 29 then sensorTemp 28 s else if d = 30 then sensorTemp 29 s else dieTemp die s
  within (decide (det < 64))
    (if busy then s
    else { s with pwr := { s.pwr with droopCal := tset s.pwr.droopCal det { nj := x.nj, temp := temp, at_ := s.aon } } })

/-! ### Regulator alerts (R477) -/

/-- Every stepping domain goes to step 0. -/
def allToZero (s : State) : State :=
  let s := (panels ++ fabric).foldl (fun s d => if domPowered d s then setStep d 0 s else s) s
  (List.range 4).foldl (fun s k => dropCluster k 0 s) s

/-- A VR_ALERT_N ball asserts: step 0 everywhere, FC225, EV_PWR_VR; STATUS_WORD of every enabled regulator is read. -/
def vrAlert (ball : Nat) (status : List VrAnswer) (s : State) : State :=
  let s := allToZero { s with pwr := { s.pwr with alert := true } }
  let s := post 0x7805 [0xFF, 2, 0, 0] (report 225 14 ball [byte ball] s)
  let s := (List.range 16).foldl (fun s k =>
    let w := (status.getD k {}).status
    if vrOn k s ∧ w ≠ 0 then post 0x7805 ([byte k, 1] ++ le 2 w) (report 229 14 k ([byte k, 1] ++ le 2 w) s) else s) s
  ceilingsMoved (throttleBegan .alert s)

/-- The row VR_ALERT. -/
def execVrAlert (ball : Nat) (status : List VrAnswer) (s : State) : Res := within (decide (ball < 2)) (fromWipe s (vrAlert ball status s))

/-- Both balls have been deasserted for 10 ms: the domains may rise (R477). -/
def execVrAlertClear (s : State) : Res := .next (ceilingsMoved { s with pwr := { s.pwr with alert := false } })

/-! ### Temperature (R478 to R480) -/

def throttleC (s : State) : Int := 16 * (rdFld Reg.pwrTherm 0 0 8 s : Int)
def hystC (s : State) : Int := 16 * (rdFld Reg.pwrTherm 0 8 4 s : Int)

/-- One sensor's reading; none where it failed to update (R480). -/
def takeSensor (n : Nat) (t : Option Int) (s : State) : State :=
  let x := getSensor n s
  let put := fun (x : Sensor) (s : State) => { s with pwr := { s.pwr with sensors := tset s.pwr.sensors n x } }
  match t.filter fun v => decide (-640 ≤ v) && decide (v ≤ 2400) with
  | some v => put { x with temp := v, max := some (max (x.max.getD v) v), failed := false } s
  | none => if x.failed then s else report 230 14 n [byte n] (put { x with failed := true } s)

/-- A sensor crosses THROTTLE_C: FC226 and EV_PWR_THERMAL (R479, Table 17.7). -/
def crossSensor (n : Nat) (s : State) : State :=
  let x := getSensor n s
  let t := sensorTemp n s
  let hot := decide (t ≥ throttleC s)
  let pay := [byte n, byte (b2n hot)] ++ le 2 (ofS 16 t)
  if hot = x.hot then s
  else
    let s := { s with pwr := { s.pwr with sensors := tset s.pwr.sensors n { x with hot := hot } } }
    post 0x7802 pay (if hot then report 226 14 n pay s else s)

def dieHot (x : Nat) (s : State) : Bool := (dieSensors (6 * x)).any fun n => decide (sensorTemp n s ≥ throttleC s)
def dieCool (x : Nat) (s : State) : Bool := (dieSensors (6 * x)).all fun n => decide (sensorTemp n s < throttleC s - hystC s)

/-- A die at THROTTLE_C lowers its panels, the table array and buffer, and its clusters by one step (R479). -/
def coolDie (x : Nat) (s : State) : State :=
  if thermEn s ∧ dieHot x s then
    let s := [2 * x + 1, 2 * x + 2].foldl (fun s d => lowerStep 0 d s) s
    let s := fabric.foldl (fun s d => lowerStep 0 d s) s
    let s := [2 * x, 2 * x + 1].foldl (fun s k =>
      let p := (getCluster k s).eff - 1
      dropCluster k p { s with pwr := { s.pwr with thermCut := tset s.pwr.thermCut k (7 - p) } }) s
    throttleBegan .thermal { s with pwr := { s.pwr with
      thermal := tset s.pwr.thermal x true, cooled := tset s.pwr.cooled x true } }
  else { s with pwr := { s.pwr with thermal := tset s.pwr.thermal x false } }

/-- Every 100 µs: the sensors are read, throttling applies, temperature retrains are triggered (R409, R478, R479). -/
def sensorRead (temps : List (Option Int)) (s : State) : State :=
  let s := (List.range 32).foldl (fun s n => takeSensor n (temps.getD n none) s) s
  let s := (List.range 32).foldl (fun s n => crossSensor n s) s
  let s := coolDie 1 (coolDie 0 s)
  ceilingsMoved ((List.range 2).foldl (fun s h => tempRetrain h s) s)

/-- The row SENSOR_READ. -/
def execSensorRead (temps : List (Option Int)) (s : State) : Res := .next (fromWipe s (sensorRead temps s))

/-- A die that has stayed cool for 10 ms lets its domains rise one step, its clusters first (R479). -/
def thermalRecovery (x : Nat) (s : State) : State :=
  if !cooledDie x s ∨ !dieCool x s then s
  else
    let ks := [2 * x, 2 * x + 1]
    let ds := [2 * x + 1, 2 * x + 2]
    let s := ks.foldl (fun s k => { s with pwr := { s.pwr with thermCut := tmod s.pwr.thermCut k fun c => c - 1 } }) s
    let s := (fabric ++ ds).foldl (fun s d => raiseStep d s) s
    let done := (fabric ++ ds).all (fun d => atTop d s) && ks.all fun k => decide (tget s.pwr.thermCut k = 0)
    let s := if done then { s with pwr := { s.pwr with cooled := tset s.pwr.cooled x false } } else s
    ceilingsMoved (throttleEnded s)

/-- The row THERMAL_RECOVERY. -/
def execThermalRecovery (die : Nat) (s : State) : Res := within (decide (die < 2)) (fromWipe s (thermalRecovery die s))

/-! ### Power domains (R32, R33, R69, R482) -/

/-- Domains that rely on a domain and are not down. -/
def relying (d : Nat) (s : State) : List Nat := (List.range 31).filter fun e => (requires e).contains d && decide ((getDom e s).st ≠ .off)

/-- Overflow blocks, spill blocks and pool buffers of a memory half. -/
def halfUsed (h : Nat) (s : State) : Bool :=
  (usedBlocks s).any (fun b => halfOf (blockAddr b s) s == h) || (ovfUsed s).any (fun b => halfOf (ovfAddr b s) s == h) ||
  decide (mOwned h s ≠ 0)

/-- The condition of Table 1.5's last column. -/
def mayPowerDown (d : Nat) (s : State) : Bool :=
  if d = 0 ∨ d = 29 ∨ d = 30 then false
  else if 7 ≤ d ∧ d ≤ 10 then decide (jobsHeld (d - 7) s = 0)
  else if 11 ≤ d ∧ d ≤ 26 then (List.range 64).all fun i =>
    let p := getPort (64 * (d - 11) + i) s
    decide (p.st ≠ .up) && decide (p.st ≠ .sleep)
  else if d = 27 ∨ d = 28 then !halfUsed (d - 27) s
  else true

/-- A started descriptor has its source or target in a domain (R69). -/
def touchesDom (d : Nat) (s : State) : Bool :=
  (s.hif.chans.any fun e => e.2.xfers.any fun x => x.domains.contains d) ||
    (decide (d = bufferDom) && s.hif.rings.any fun e => !e.2.puntWait.isEmpty)

/-- What a domain loses with its power: a memory half its data (R412), a lane group its macros. -/
def loseDomain (d : Nat) (s : State) : State :=
  if d = 27 ∨ d = 28 then
    let h := d - 27
    let s := { s with mem := { s.mem with
      serving := setFld s.mem.serving h 1 0, burlap := mzero s.mem.burlap (h * (usable s / 2)) (usable s / 2) } }
    (List.range 16).foldl (fun s i => modMChan (16 * h + i) (fun c => { c with trained := false, retraining := false, retry := false }) s) s
  else if 11 ≤ d ∧ d ≤ 26 then groupClk (d - 11) .off ((List.range 8).foldl (fun s i => macroOff (8 * (d - 11) + i) s) s)
  else s

/-- Power is cut: EV_PWR_DOMAIN with the descriptors that ended DOMAIN_OFF, FC233 if there are any, and the command
completes (R482). -/
def cutPower (d : Nat) (s : State) : State :=
  let x := getDom d s
  let s := loseDomain d (setDom d { x with st := .off, raise := none, down := none, cut := 0 } s)
  let s := post 0x7803 ([byte d, 0, 0, 0] ++ le 4 x.cut) s
  let s := if x.cut = 0 then s else report 233 14 d ([byte d, 0, 0, 0] ++ le 4 x.cut) s
  match x.down with
  | none => s
  | some ref => finishRef ref {} s

/-- A waiting power-down whose last descriptor has ended is carried out (R482). -/
def powerDownDone (d : Nat) (s : State) : State :=
  let x := getDom d s
  if (x.st = .deferred ∨ x.st = .poweringDown) ∧ !touchesDom d s then cutPower d s else s

/-- The row DOMAIN_POWER_DOWN_DONE. -/
def execDomainPowerDownDone (domain : Nat) (s : State) : Res := within (decide (domain < 31)) (powerDownDone domain s)

/-- DEPENDENT, CANCELLED (R486). -/
def DEPENDENT : Nat := 0x80

/-- PWR_DOMAIN, ACTION 0. -/
def powerDown (d : Nat) (c : Cmd) (s : State) : State × CmdEnd :=
  let x := getDom d s
  if x.st = .off then okay s
  else if x.st ≠ .on ∨ relying d s ≠ [] ∨ !mayPowerDown d s then fail DEPENDENT s
  else if touchesDom d s then (setDom d { x with st := .deferred, down := some c.ref, cut := 0 } s, .later)
  else okay (cutPower d (setDom d { x with st := .poweringDown, cut := 0 } s))

/-- PWR_DOMAIN, ACTION 1. -/
def powerUp (d : Nat) (c : Cmd) (s : State) : State × CmdEnd :=
  let x := getDom d s
  match x.st with
  | .on => okay s
  | .deferred | .poweringDown =>
    let s := setDom d { x with st := .on, down := none } s
    okay (match x.down with
      | none => s
      | some ref => finishRef ref { status := 0x82 } s)
  | .poweringUp => fail NO_RESOURCE s
  | .off =>
    if (requires d).any fun e => !domServes e s then fail DEPENDENT s
    else if d = 27 ∨ d = 28 then
      (trainHalf (d - 27) (setDom d { x with st := .poweringUp, up := some c.ref } s), .later)
    else
      let t := setDom d { x with st := .on } s
      okay (railFollow s (if 11 ≤ d ∧ d ≤ 26 then groupPowerUp (d - 11) t else t))

/-- PWR_DOMAIN (R33, R482, Table 17.6). -/
def pwrDomainCmd (c : Cmd) (s : State) : State × CmdEnd :=
  let d := c.op 0 1
  let a := c.op 1 1
  let p := c.op 2 1
  if d > 30 ∨ a > 2 ∨ c.len ≠ 0 then fail BAD_PARAM s
  else if a = 0 then powerDown d c s
  else if a = 1 then powerUp d c s
  else if d = 0 ∨ d > 10 ∨ (p > 7 ∧ p ≠ 0xFF) then fail BAD_PARAM s
  else okay (ceilingsMoved (holdTops (modDom d (fun x => { x with host := if p = 0xFF then none else some p }) s)))

/-- The command PWR_DOMAIN. -/
def execPwrDomain (ref : CmdRef) (s : State) : Res := .next (runCmd 0x78 ref pwrDomainCmd s)

/-- A powered-up half has trained and is zeroed: it serves, and PWR_DOMAIN completes (R412). -/
def halfReady (h : Nat) (s : State) : State :=
  let x := getDom (27 + h) s
  let busy := (List.range 16).any fun i => decide ((getMChan (16 * h + i) s).st = .training)
  if x.st ≠ .poweringUp ∨ busy then s
  else
    let hurt := fun (e : Nat × Nat) => e.1 % 64 == memBurst && halfOf (64 * (e.1 / 64)) s == h
    let s := { s with upset := s.upset.filter fun e => !hurt e }
    let s := { s with mem := { s.mem with
      serving := setFld s.mem.serving h 1 1, burlap := mzero s.mem.burlap (h * (usable s / 2)) (usable s / 2)
      rate := commonRate s } }
    let s := setDom (27 + h) { x with st := .on, up := none } s
    match x.up with
    | none => s
    | some ref => finishRef ref {} s

/-- The row HALF_READY. -/
def execHalfReady (half : Nat) (s : State) : Res := within (decide (half < 2)) (halfReady half s)

/-! ### Commands and registers (R486 to R488, Tables 17.6 to 17.9) -/

def pwrErr (bad : Bool) (s : State) : State := { s with pwr := { s.pwr with cfgErr := bad } }

/-- A write of PWR_LIMIT (R469). -/
def writePwrLimit (v : Nat) (s : State) : State :=
  let p := fld v 0 11
  let w := fld v 11 9
  let t := fld v 20 11
  if 100 ≤ p ∧ p ≤ 1000 ∧ 100 ≤ t ∧ t ≤ 900 ∧ t ≤ p ∧ 5 ≤ w ∧ w ≤ 500 then pwrErr false (wrRw Reg.pwrLimit 0 v s) else pwrErr true s

/-- A write of PWR_CTRL: LIMIT_EN = 1 needs entries 0 to 3 of PWR_VR (R488). -/
def writePwrCtrl (v : Nat) (s : State) : State :=
  let ok := (List.range 4).all fun k => vrOn k s && vrRail k s == k
  if bitAt v 0 ∧ !ok then pwrErr true s else pwrErr false (wrRw Reg.pwrCtrl 0 v s)

/-- A write of PWR_VR is ignored while LIMIT_EN is 1 (R488). -/
def writePwrVr (k v : Nat) (s : State) : State := if limitEn s then pwrErr true s else pwrErr false (wrRw Reg.pwrVr k v s)

/-- A write of PWR_POLICY: DEFER_US 0 is ignored; the rails follow GUARD_MV. -/
def writePwrPolicy (v : Nat) (s : State) : State :=
  let v := if fld v 16 16 = 0 then setFld v 16 16 (rdFld Reg.pwrPolicy 0 16 16 s) else v
  railFollow s (wrRw Reg.pwrPolicy 0 v s)
/-- A write of PWR_THERM: a THROTTLE_C out of 70 to 105 is ignored. -/
def writePwrTherm (v : Nat) (s : State) : State :=
  let c := fld v 0 8
  wrRw Reg.pwrTherm 0 (if 70 ≤ c ∧ c ≤ 105 then v else setFld v 0 8 (rdFld Reg.pwrTherm 0 0 8 s)) s
/-- A write of PWR_DROOP: a WARN_MV out of 20 to 100 is ignored. -/
def writePwrDroop (v : Nat) (s : State) : State :=
  let c := fld v 0 8
  wrRw Reg.pwrDroop 0 (if 20 ≤ c ∧ c ≤ 100 then v else setFld v 0 8 (rdFld Reg.pwrDroop 0 0 8 s)) s

/-- PWR_STAT (Table 17.9). -/
def pwrStat (s : State) : Nat :=
  lowest panels s + 8 * lowest fabric s + 64 * b2n s.pwr.isOver + 128 * b2n s.pwr.alert + 65536 * sat 16 (pNow s / 1000)
/-- PWR_VF (R463). -/
def pwrVf (c p : Nat) : Nat := Config.fusedMv c p % 4096 + 65536 * (stepMhz c p % 65536)

/-- PWR_LIMIT_SET (R469). -/
def pwrLimitSetCmd (c : Cmd) (s : State) : State × CmdEnd :=
  if c.len ≠ 0 then fail BAD_PARAM s else okay (writePwrLimit (c.op 0 4) s)

/-- The command PWR_LIMIT_SET. -/
def execPwrLimitSet (ref : CmdRef) (s : State) : Res := .next (runCmd 0x79 ref pwrLimitSetCmd s)

/-- THROTTLE_DISCARDS of a panel: the frames that its pipes discarded under R462 in the last 1 ms, saturating. -/
def throttleDiscards (x : Nat) (s : State) : Nat :=
  sat 16 (s.pwr.throttled.filter fun e => decide (e.1 / 4 = x) && decide (s.aon - e.2 < 250000)).length

/-- One domain of Table 17.8. -/
def domEntry (d : Nat) (s : State) : List Byte :=
  let x := getDom d s
  let has := (stepClass d).isSome
  let ceil := if 7 ≤ d ∧ d ≤ 10 then clusterCeil (d - 7) s else if d ≤ 6 then domMax d s else 7
  let mv := match railOf d with
    | some cr => railMv cr s
    | none => 750
  fit 16 ([byte x.st.num, byte (if has then domStep d s else 0xFF), byte (if has then ceil else 0xFF),
    byte (b2n (has && decide (domStep d s < 7)) + 2 * b2n x.dip.isSome + 4 * b2n (heldDroop d s))] ++ le 2 mv ++
    le 2 (if 1 ≤ d ∧ d ≤ 4 then throttleDiscards (d - 1) s else 0) ++ le 4 (x.nj / 20))

/-- One sensor of Table 17.8. -/
def sensorEntry (n : Nat) (s : State) : List Byte :=
  let x := getSensor n s
  le 2 (ofS 16 x.temp) ++ [byte (ofS 8 (x.max.getD 0 / 16)), byte (b2n x.hot + 2 * b2n x.failed)]

/-- The power area (R487, Table 17.8). -/
def powerArea (s : State) : List Byte :=
  let th := tget s.pwr.thermal 0 || tget s.pwr.thermal 1
  fit 1024 ((List.range 31).flatMap (fun d => domEntry d s) ++ (List.range 32).flatMap (fun n => sensorEntry n s) ++
    le 4 (pNow s) ++ le 4 (pPeak s) ++ le 4 (pSustained s) ++ [byte (b2n s.pwr.isOver + 2 * b2n s.pwr.alert + 4 * b2n th)])

/-- PWR_READ (R487). -/
def pwrReadCmd (c : Cmd) (s : State) : State × CmdEnd := if c.len ≠ 1024 then fail BAD_PARAM s else okayData (powerArea s) s

/-- The command PWR_READ. -/
def execPwrRead (ref : CmdRef) (s : State) : Res := .next (runCmd 0x7A ref pwrReadCmd s)

/-- PWR_PMBUS reads or writes a regulator (R486); 0x81 PMBUS_NACK. -/
def pwrPmbusCmd (c : Cmd) (ans : VrAnswer) (s : State) : State × CmdEnd :=
  let k := c.op 0 1
  let code := c.op 1 1
  let n := c.op 3 1
  let v := if code = 0x8B then ans.mv else if code = 0x8C then ans.ma else ans.status
  if k > 15 ∨ c.op 2 1 > 1 ∨ n < 1 ∨ n > 2 ∨ c.len ≠ 0 then fail BAD_PARAM s
  else if !ans.answered then fail 0x81 s
  else if c.op 2 1 = 1 then okay (emit (.vr k code (c.op 4 n)) s)
  else okayWith (fit 2 (le n v)) s

/-- The command PWR_PMBUS. -/
def execPwrPmbus (ref : CmdRef) (ans : VrAnswer) (s : State) : Res := .next (runCmd 0x7B ref (fun c => pwrPmbusCmd c ans) s)

end Sys2Proof.Machine
end

