-- ==== Sys2Proof/Machine/ModeOps.lean ====
section
/-! DEFINITION. Changes of the operating mode that are not commands: DEGRADED, HOLD, LOCKDOWN, resets and loss of power
(18.5, 19.1, 19.2), and the bytes of a fault record (Table 18.2). -/
namespace Sys2Proof.Machine

/-! ### Records -/

/-- The 64 bytes of a record (Table 18.2). -/
def FltRec.bytes (r : FltRec) : List Byte :=
  let flags := b2n r.sameCycle + 2 * b2n r.escalated + 4 * b2n r.condition + 8 * b2n r.cleared + 16 * b2n r.acked +
    32 * b2n r.fenced + 64 * b2n r.raised
  [byte r.cls, byte r.level, byte flags, byte (r.setPh % 4 + 4 * (r.clrPh % 4) + 16 * (r.tb % 4))] ++ le 4 r.seq ++
  le 8 r.aon ++ le 4 r.setTs ++ le 4 r.clrTs ++ [byte r.kind, 0] ++ le 2 r.unit ++ le 4 r.count ++ fit 24 r.detail ++ zeros 8

/-- The record with a SEQ. -/
def recOf (seq : Nat) (s : State) : Option FltRec := s.flt.recs.find? fun r => r.seq == seq

/-- FLT_FIRST: its record, or zeros (R499). -/
def firstBytes (s : State) : List Byte :=
  match s.flt.first.bind fun q => recOf q s with
  | some r => r.bytes
  | none => zeros 64

/-! ### DEGRADED, HOLD and LOCKDOWN -/

/-- The device runs in DEGRADED in place of FORWARD while any unit is fenced (R509). -/
def followFence (s : State) : State :=
  if s.sys.mode = .forward ∧ anyFenced s then setMode .degraded 1 s
  else if s.sys.mode = .degraded ∧ !anyFenced s then setMode .forward 1 s
  else s

/-- Every lane transmitter is squelched (R522, R523). -/
def squelchAll (s : State) : State := (List.range 1024).foldl (fun s n => setSquelch n true s) s

/-- A HALT record takes the device to HOLD (Table 19.2, R522); a MODE_SET that waits completes with MODE. -/
def enterHold (s : State) : State :=
  if s.sys.mode = .off ∨ s.sys.mode = .reset ∨ s.sys.mode = .lockdown ∨ s.sys.mode = .hold then s
  else
    let w := s.sys.modeWait
    let s := squelchAll (setMode .hold 2 { s with sys := { s.sys with modeWait := none } })
    match w with
    | none => s
    | some (ref, _) => finishRef ref { status := ST_MODE } s

/-- The domains that LOCKDOWN powers down, in the reverse order of the Requires column: all but the always-on domain and the
host interface (R32, R523). -/
def lockdownDoms : List Nat := upOrder.reverse.filter fun d => decide (d ≠ 29)

/-- A LOCK record or a thermal trip takes the device to LOCKDOWN (Table 19.2, R523). -/
def enterLockdown (s : State) : State :=
  if s.sys.mode = .off ∨ s.sys.mode = .lockdown then s
  else
    let s := squelchAll (setMode .lockdown 2 s)
    let s := { s with sys := { s.sys with modeWait := none, debug := 0, nonce := none } }
    lockdownDoms.foldl (fun s d => loseDomain d (modDom d (fun x => { x with st := .off, raise := none, down := none, up := none }) s)) s

/-! ### Reset and power (R525, R526, Table 19.2) -/

/-- Fuses: they outlast every reset and every loss of power (R533). -/
def keepFuses (o n : SysState) : SysState :=
  { n with lifecycle := o.lifecycle, rollback := o.rollback, revoked := o.revoked, keyHash := o.keyHash }

/-- Every lane that drives its transmitter stops doing so. -/
def lanesStop (s : State) : State :=
  (s.lan.lanes.filter fun e => !e.2.squelched).foldl (fun s e => emit (.squelch e.1 true) s) s

/-- A fresh state that keeps what is not the device's registers and memories: the queue, the output so far, the free
values, the fuses, the test access port and the balls. Only the always-on domain has power (Table 19.1). -/
def freshState (o : State) : State :=
  let y : SysState := keepFuses o.sys { tapIr := o.sys.tapIr, boundary := o.sys.boundary, boundaryLatch := o.sys.boundaryLatch, resetN := o.sys.resetN, perstN := o.sys.perstN }
  { pending := o.pending, out := o.out, freeIx := o.freeIx, sys := y, pwr := { doms := heldDoms } }

/-- A reset of a kind of Table 19.3: RESET, every register at its reset value but the retained set (R525, R526). OFF and
LOCKDOWN take none (R523). -/
def doReset (kind : Nat) (s : State) : State :=
  if s.sys.mode = .off ∨ s.sys.mode = .lockdown then s
  else
    let p := firstBytes s
    let s := lanesStop s
    let n := freshState (if s.flt.alive then emit (.alive false) s else s)
    { n with sys := { n.sys with
        mode := .reset, resetKind := kind, resets := sat 16 (s.sys.resets + 1), priorFirst := p, straps := s.sys.straps
        unlockFails := s.sys.unlockFails, grantAcross := if kind = 6 then s.sys.grantAcross else 0
        fuseError := s.sys.fuseError } }

end Sys2Proof.Machine
end

