-- ==== Sys2Proof/Machine/SeqOps.lean ====
section
/-! DEFINITION. Serge's operations: microword fields, the ALU, traps and their frames, routines, loading the store
(13.1 to 13.5), and the keys that sign a section (R532). -/
namespace Sys2Proof.Machine

def getEng (e : Nat) (s : State) : Engine := tget s.seq.engines e
def setEng (e : Nat) (x : Engine) (s : State) : State := { s with seq := { s.seq with engines := tset s.seq.engines e x } }
def modEng (e : Nat) (f : Engine → Engine) (s : State) : State := setEng e (f (getEng e s)) s
def getCtx (e k : Nat) (s : State) : Ctx := tget (getEng e s).ctxs k
/-- STATE of the Linen entry of an engine with these contexts (R399). -/
def ctxsState (t : Tab Ctx) : Nat :=
  let l := (List.range 4).map fun k => (tget t k).st
  if l.contains .trapped then 3 else if l.contains .ready then 1 else if l.contains .waiting then 2 else 0
def setCtx (e k : Nat) (c : Ctx) (s : State) : State :=
  let x := getEng e s
  let t := tset x.ctxs k c
  if ctxsState t = ctxsState x.ctxs then setEng e { x with ctxs := t } s
  else setEng e { x with ctxs := t, changeTs := (stamp s).1, changePh := (stamp s).2 } s
def modCtx (e k : Nat) (f : Ctx → Ctx) (s : State) : State := setCtx e k (f (getCtx e k s)) s
def CtxSt.num : CtxSt → Nat
  | .free => 0 | .ready => 1 | .waiting => 2 | .trapped => 3

/-- X register of a context; numbers beyond X15 have none. -/
def Ctx.reg (c : Ctx) (n : Nat) : Nat := tget c.x n
def Ctx.setReg (c : Ctx) (n v : Nat) : Ctx := { c with x := tset c.x n (v % 2 ^ 64) }

/-! ### Routines (Table 13.7) -/

def rtEntry (r : Nat) (s : State) : Nat := tget s.seq.table r
def rtPc (n : Nat) : Nat := fld n 0 14
def rtValid (n : Nat) : Bool := bitAt n 15
def rtHandler (n : Nat) : Option Nat := if bitAt n 31 then some (fld n 16 14) else none
def rtEngines (n : Nat) : Nat := fld n 32 8
def rtTrigger (n : Nat) : Nat := fld n 40 8
def rtPeriod (n : Nat) : Nat := fld n 64 32

/-- The contexts of all engines. -/
def allCtx : List (Nat × Nat) := (List.range 8).flatMap fun e => (List.range 4).map fun k => (e, k)
/-- The context that runs a routine. -/
def ctxOf (r : Nat) (s : State) : Option (Nat × Nat) :=
  allCtx.find? fun p => let c := getCtx p.1 p.2 s; decide (c.st ≠ .free) && c.routine == r

/-- Modes in which engines run (R384). -/
def seqMode (m : Mode) : Bool :=
  m == .staged || m == .forward || m == .degraded || m == .drain || m == .doze || m == .diag
/-- Whether engines may issue words of a routine: SEQ_CTRL.ENABLE, and the mode; in WIPE only routine 0 (R384). -/
def seqMay (r : Nat) (s : State) : Bool :=
  bitAt (rd Reg.seqCtrl 0 s) 0 && (seqMode s.sys.mode || (decide (s.sys.mode = .wipe) && r == 0))

/-- In HOLD and LOCKDOWN every engine keeps its state: no wait ends or times out (R384). -/
def seqHeld (s : State) : Bool := decide (s.sys.mode = .hold) || decide (s.sys.mode = .lockdown)

/-- A routine's work queue is not empty: routine 2's holds the banks under evacuation and those to rebuild (R210, R211,
Table 13.8). -/
def seqWork (r : Nat) (s : State) : Bool := r == 2 && (!s.tbl.evac.isEmpty || !s.tbl.rebuild.isEmpty)
/-- SEQ_STOP names the routine. -/
def stopReq (r : Nat) (s : State) : Bool := s.seq.stops.any fun p => p.1 == r

/-- The free context that a routine gets: lowest engine in service of its mask (Table 13.1). -/
def freeCtx (mask : Nat) (s : State) : Option (Nat × Nat) :=
  allCtx.find? fun p => bitAt mask p.1 && !fencedU 11 p.1 s && decide ((getCtx p.1 p.2 s).st = .free)

/-- A run begins in a context (Table 13.1). -/
def beginRun (e k r pc arg : Nat) (byRun : Bool) (s : State) : State :=
  let c : Ctx := { st := .ready, routine := r, pc := pc, arg := arg, byRun := byRun, periodAt := s.aon,
                   period := rtPeriod (rtEntry r s) }
  let s := setCtx e k (c.setReg 0 arg) s
  { s with seq := { s.seq with runs := tmod s.seq.runs r fun n => sat 32 (n + 1) } }

/-- A run ends: EV_SEQ_ROUTINE if it was started by SEQ_RUN or ended under SEQ_STOP, whose commands complete. `how`: 0
ended, 1 stopped, 2 forced (Table 13.11, R398). -/
def endRun (e k how status : Nat) (s : State) : State :=
  let c := getCtx e k s
  let r := c.routine
  let waits := s.seq.stops.filter fun p => p.1 == r
  let s := setCtx e k {} s
  let s := if c.byRun ∨ waits ≠ [] then post 0xA001 ([byte r, byte how, 0, 0] ++ le 4 (tget s.seq.runs r)) s else s
  let s := { s with seq := { s.seq with stops := s.seq.stops.filter fun p => !(p.1 == r) } }
  waits.foldl (fun s p => finishRef p.2 { status := status } s) s

/-! ### Microwords (Table 13.2) -/

def mwNext (w : Nat) : Nat := fld w 0 14
def mwFlow (w : Nat) : Nat := fld w 14 3
def mwCond (w : Nat) : Nat := fld w 17 5
def mwCondNeg (w : Nat) : Bool := bitAt w 22
def mwBr (w : Nat) : Nat := fld w 23 14
def mwAlu (w : Nat) : Nat := fld w 37 5
def mwDst (w : Nat) : Nat := fld w 42 4
def mwA (w : Nat) : Nat := fld w 46 4
def mwB (w : Nat) : Nat := fld w 50 4
def mwBImm (w : Nat) : Bool := bitAt w 54
def mwImm (w : Nat) : Nat := fld w 55 16
def mwMem (w : Nat) : Nat := fld w 71 4
def mwSpace (w : Nat) : Nat := fld w 75 4
def mwAddr (w : Nat) : Nat := fld w 79 4
def mwData (w : Nat) : Nat := fld w 83 4
def mwOff (w : Nat) : Nat := fld w 87 12
def mwLen (w : Nat) : Nat := fld w 99 4
def mwRsv (w : Nat) : Nat := fld w 103 25

/-- The word at an address of a routine's store: routine 0 runs from the wipe store (R384). -/
def seqFetch (r pc : Nat) (s : State) : Nat := if r = 0 then (Config.wipeStore (pc % 512)).toNat else tget s.seq.store pc

/-- What the ALU leaves: result, whether DST is written, and the three flags (Table 13.4). `free` stands for a carry
that the spec does not define. -/
structure AluRes where
  val : Nat
  writes : Bool := true
  zero : Bool
  neg : Bool
  carry : Bool

/-- A result with ZERO and NEG of it. -/
def aluOut (v : Nat) (carry : Bool) : AluRes :=
  let r := v % 2 ^ 64
  { val := r, zero := decide (r = 0), neg := bitAt r 63, carry := carry }

/-- The ALU (Table 13.4); none for code 0. CARRY of ADD and ADDS is the carry out of bit 63; of every other operation it
is free. -/
def alu (w a b dst : Nat) (free : Bool) : Option AluRes :=
  match mwAlu w with
  | 1 => some (aluOut (a + b) (decide (2 ^ 64 ≤ a + b)))
  | 2 => some (aluOut (a + 2 ^ 64 - b) free)
  | 3 => some (aluOut (a &&& b) free)
  | 4 => some (aluOut (a ||| b) free)
  | 5 => some (aluOut (a ^^^ b) free)
  | 6 => some (aluOut (a * 2 ^ (b % 64)) free)
  | 7 => some (aluOut (a / 2 ^ (b % 64)) free)
  | 8 => some (aluOut b free)
  | 9 => some { aluOut (a + 2 ^ 64 - b) free with writes := false }
  | 10 => some (aluOut (min a b) free)
  | 11 => some (aluOut (max a b) free)
  | 12 => some (aluOut (min (a + b) (2 ^ 64 - 1)) (decide (2 ^ 64 ≤ a + b)))
  | 13 => some (aluOut ((le 8 b).foldl (crcByte 0x82F63B78) (a % 2 ^ 32)) free)
  | 14 => some (aluOut (setFld dst (16 * (mwA w % 4)) 16 (mwImm w)) free)
  | _ => none

/-- Whether a condition holds in a context (Table 13.3). `since` is the start of the wait, if one is on. -/
def seqCond (c : Ctx) (code : Nat) (since : Option Nat) (s : State) : Bool :=
  match code with
  | 0 => true
  | 1 => c.zero
  | 2 => c.neg
  | 3 => c.carry
  | 4 => c.dmaDone
  | 5 => c.dmaErr
  | 6 => c.tblDone
  | 7 => c.tblErr
  | 8 => match since with
    | some t => decide (t / 250 < s.aon / 250)
    | none => false
  | 9 => decide (s.aon ≥ c.periodAt + 250 * c.period)
  | 10 => seqWork c.routine s
  | 11 => c.poolDone
  | 12 => stopReq c.routine s
  | _ => false

/-! ### Scratch -/

def scratchAt (e a : Nat) : Nat := e * 16384 + a
def scratchWords (e a n : Nat) : List Nat := (List.range ((a % 8 + n + 7) / 8)).map (scratchAt e a / 8 + ·)
/-- A range of scratch has an uncorrectable error. -/
def scratchHard (e a n : Nat) (s : State) : Bool := (scratchWords e a n).any fun w => upsetOf memScratch w s == 2
/-- A read corrects single-bit errors (FC164). -/
def scratchFix (e a n : Nat) (s : State) : State :=
  ((scratchWords e a n).filter fun w => upsetOf memScratch w s == 1).foldl
    (fun s w => report 164 11 e (le 8 (8 * w % 16384)) (clearUpset memScratch w s)) s
def scratchRead (e a n : Nat) (s : State) : List Byte := mread s.seq.scratch (scratchAt e a) n
def scratchWrite (e a : Nat) (bs : List Byte) (s : State) : State :=
  let s := (scratchWords e a bs.length).foldl (fun s w =>
    if scratchAt e a ≤ 8 * w ∧ 8 * w + 8 ≤ scratchAt e a + bs.length then clearUpset memScratch w s else s) s
  { s with seq := { s.seq with scratch := mwrite s.seq.scratch (scratchAt e a) bs } }

/-! ### Traps (13.3) -/

def frameAt (k : Nat) : Nat := 0x3C00 + 0x100 * k

/-- The frame of a trap (Table 13.6). -/
def trapFrame (c : Ctx) (cause info : Nat) (s : State) : List Byte :=
  let z := stamp s
  let next := mwNext (seqFetch c.routine c.pc s)
  let resume := if cause = 2 ∨ cause = 7 then next else c.pc
  let stack := c.stack.reverse
  [byte cause, byte (b2n (decide (cause = 2)) + 2 * b2n c.zero + 4 * b2n c.neg + 8 * b2n c.carry), byte c.stack.length,
    byte c.routine] ++ le 2 c.pc ++ le 2 resume ++ le 4 z.1 ++ [byte z.2, 0, 0, 0] ++ le 8 info ++
    (List.range 8).flatMap (fun i => le 2 (stack.getD i 0)) ++ zeros 24 ++ (List.range 16).flatMap fun i => le 8 (c.reg i)

/-- A context traps (R390, R392, Table 13.1): its frame is written; its handler runs, or it is TRAPPED with EV_SEQ_TRAP
and FC165; after cause 1 it stays TRAPPED until the store is repaired (R394). -/
def seqTrap (e k cause info : Nat) (s : State) : State :=
  let c := getCtx e k s
  let s := scratchWrite e (frameAt k) (trapFrame c cause info s) s
  let s := modEng e (fun x => { x with traps := sat 32 (x.traps + 1), trapsRc := sat 16 (x.trapsRc + 1), lastCause := cause }) s
  let c := { c with savedWait := c.wait, savedLoad := c.load, wait := none, load := none }
  if cause = 1 then setCtx e k { c with st := .trapped, repair := true } s
  else match c.inHandler, rtHandler (rtEntry c.routine s) with
    | false, some h => setCtx e k { c with st := .ready, pc := h, inHandler := true } s
    | _, _ =>
      let pay := [byte e, byte k, byte cause, byte c.routine] ++ le 2 c.pc
      post 0xA000 pay (report 165 11 e pay (setCtx e k { c with st := .trapped } s))

/-- Reload a context from its frame (R391): X, the flags, the stack. -/
def reloadFrame (e k : Nat) (s : State) : Ctx :=
  let f := scratchRead e (frameAt k) 192 s
  let c := getCtx e k s
  let n := min (byteAt f 2) 8
  { c with
    x := (List.range 16).foldl (fun x i => tset x i (leAt f (64 + 8 * i) 8)) []
    zero := bitAt (byteAt f 1) 1, neg := bitAt (byteAt f 1) 2, carry := bitAt (byteAt f 1) 3
    stack := ((List.range n).map fun i => leAt f (24 + 2 * i) 2 % 16384).reverse
    inHandler := false, repair := false }

/-- RESTORE, and SEQ_RESUME with HOW 0 (R391): go on at RESUME, in the trapped wait again if FLAGS.WAIT is set. -/
def restoreFrame (e k : Nat) (s : State) : State :=
  let s := scratchFix e (frameAt k) 192 s
  let f := scratchRead e (frameAt k) 192 s
  let c := reloadFrame e k s
  let resume := leAt f 6 2 % 16384
  if bitAt (byteAt f 1) 0 then
    let pc := leAt f 4 2 % 16384
    let w := seqFetch c.routine pc s
    let wait := match c.savedWait, c.savedLoad with
      | some x, _ => some { x with since := s.aon }
      | none, some _ => none
      | none, none => some { cond := mwCond w, neg := mwCondNeg w, since := s.aon }
    setCtx e k { c with st := .waiting, pc := pc, resume := resume, wait := wait, load := c.savedLoad, savedWait := none, savedLoad := none } s
  else setCtx e k { c with st := .ready, pc := resume, savedWait := none, savedLoad := none } s

/-- SEQ_RESUME with HOW 1 (R391): past the trapped wait, or at NEXT_ADDR of the word at PC. -/
def resumePast (e k : Nat) (s : State) : State :=
  let s := scratchFix e (frameAt k) 192 s
  let f := scratchRead e (frameAt k) 192 s
  let c := reloadFrame e k s
  let pc := if bitAt (byteAt f 1) 0 then (leAt f 6 2 + 1) % 16384 else mwNext (seqFetch c.routine (leAt f 4 2 % 16384) s)
  setCtx e k { c with st := .ready, pc := pc, savedWait := none, savedLoad := none } s

/-- A pool request of a context is answered (R383, Table 13.5): POOL_DONE, and the handle; after EMPTY the register holds
a free value. -/
def seqPoolAnswer (e k : Nat) (h : Option Nat) (s : State) : State :=
  let c := getCtx e k s
  if c.st = .free then s
  else match h with
    | some h => setCtx e k { (c.setReg c.poolReg h) with poolDone := true } s
    | none =>
      let (v, s) := takeFree s
      setCtx e k { (c.setReg c.poolReg v) with poolDone := true } s

/-! ### Fenced engines (R397) -/

/-- The SEQ_STOP commands that wait for a routine complete with OK: it runs no more. -/
def stopsDone (r : Nat) (s : State) : State :=
  (s.seq.stops.filter fun p => p.1 == r).foldl (fun s p => finishRef p.2 {} s)
    { s with seq := { s.seq with stops := s.seq.stops.filter fun p => !(p.1 == r) } }

/-- A run of a fenced engine moves: the routine is triggered again at ENTRY, a TRAPPED context moves with its frame; with
no engine left the routine stops, and its SEQ_STOP commands end (R397, R398). -/
def moveRun (e k : Nat) (s : State) : State :=
  let c := getCtx e k s
  if c.st = .free then s
  else
    let f := scratchRead e (frameAt k) 192 s
    let n := rtEntry c.routine s
    let s := setCtx e k {} s
    match freeCtx (rtEngines n) s with
    | none => stopsDone c.routine (post 0xA002 [byte c.routine, byte e, 0xFF] s)
    | some (e', k') =>
      let again : Ctx := { st := .ready, routine := c.routine, pc := rtPc n, arg := c.arg, byRun := c.byRun, periodAt := s.aon,
                           period := rtPeriod n }
      let s := if c.st = .trapped then scratchWrite e' (frameAt k') f (setCtx e' k' c s)
        else setCtx e' k' (again.setReg 0 c.arg) s
      post 0xA002 [byte c.routine, byte e, byte e'] s

/-- An engine leaves service: its runs move, and its buffers go to the engine that takes over (R397). -/
def fenceEngine (e : Nat) (s : State) : State :=
  let busy := (List.range 4).filter fun k => decide ((getCtx e k s).st ≠ .free)
  let heir := busy.findSome? fun k => (freeCtx (rtEngines (rtEntry (getCtx e k s).routine s)) s).map fun p => p.1
  let s := busy.foldl (fun s k => moveRun e k s) s
  match heir with
  | none => s
  | some h => (ownedBy (0x80 + e) s).foldl (fun s b => setPBuf b { getPBuf b s with owner := 0x80 + h } s) s

/-! ### Keys and the Serge section (R393, R531, R532, Tables 19.7 and 19.9) -/

/-- The fused hash of a key slot. -/
def slotHash (slot : Nat) (s : State) : List Byte := if slot = 0 then Config.mfgKeyHash else tget s.sys.keyHash slot
/-- A key slot that the life-cycle state allows, that is not revoked and whose hash is fused (R532, Table 19.9). -/
def slotAllowed (slot : Nat) (s : State) : Bool :=
  (decide (slot = 0) || decide (tget s.sys.keyHash slot ≠ [])) && !bitAt s.sys.revoked slot && (match s.sys.lifecycle with
    | .blank => slot == 0
    | .retired => false
    | _ => decide (1 ≤ slot) && decide (slot ≤ 3))
/-- A public key of a slot is one the device accepts. -/
def keyOk (slot : Nat) (key : List Byte) (s : State) : Bool :=
  slotAllowed slot s && decide (Config.sha384 key = slotHash slot s)
/-- SECURITY_VERSION against the rollback counter, where the life-cycle state enforces it. -/
def rollbackOk (v : Nat) (s : State) : Bool := decide (s.sys.lifecycle ≠ .field) || decide (s.sys.rollback ≤ v)

/-- A section's words: FIRST, COUNT, and word `i` of the section. -/
def secFirst (b : List Byte) : Nat := leAt b 1024 2
def secCount (b : List Byte) : Nat := leAt b 1026 2
def secWord (b : List Byte) (i : Nat) : Nat := leAt b (1152 + 16 * i) 16
/-- Form of a section (Table 19.7). -/
def secForm (b : List Byte) : Bool :=
  decide (1280 ≤ b.length) && decide (b.length = 1280 + 16 * secCount b) && decide (secFirst b + secCount b ≤ 16384) &&
  decide (byteAt b 1028 ≤ 3) && decide (byteAt b 1029 ≤ 64) && allZero (slice b 1030 26) && allZero (slice b (b.length - 32) 32)
/-- The section's own signature verifies under its key. -/
def secSigned (b : List Byte) (s : State) : Bool :=
  let key := slice b 1056 96
  keyOk (byteAt b 1028) key s && Config.ecdsaOk key (Config.sha384 (b.take (b.length - 128))) (slice b (b.length - 128) 96)
/-- A word has no reserved bit and no refused code (R393). -/
def wordOk (w : Nat) : Bool :=
  decide (mwRsv w = 0) && decide (mwCond w ≤ 12) && decide (mwAlu w ≤ 14) && decide (mwMem w ≤ 10) && decide (mwSpace w ≤ 8)
/-- A routine entry is sound (R393): ENTRY and HANDLER lie within the section. -/
def entryOk (b : List Byte) (n : Nat) : Bool :=
  let within := fun a => decide (secFirst b ≤ a) && decide (a < secFirst b + secCount b)
  decide (fld n 14 1 = 0) && decide (fld n 30 1 = 0) && decide (fld n 48 16 = 0) && decide (fld n 96 32 = 0) &&
  decide (rtTrigger n ≤ 4) && (!rtValid n || (within (rtPc n) && (rtHandler n).all within))
/-- The image check of a section (R393). -/
def secChecked (b : List Byte) : Bool :=
  let entry := fun r => leAt b (16 * r) 16
  ((List.range (secCount b)).all fun i => wordOk (secWord b i)) && ((List.range 64).all fun r => entryOk b (entry r)) &&
  !rtValid (entry 0) && [1, 2, 3, 4, 5].all fun r => rtValid (entry r)

/-- The CRC-32C of a store block (R394). -/
def blockCrc (store : Tab Nat) (k : Nat) : Nat := crc32c ((List.range 64).flatMap fun i => le 16 (tget store (64 * k + i)))
/-- The store that a section fills: words outside it are zero. -/
def secStore (b : List Byte) : Tab Nat :=
  (List.range (secCount b)).foldl (fun t i => tset t (secFirst b + i) (secWord b i)) []

/-- Load a section into the store and the routine table, with its CRCs and its copy (R393, R394, R530). -/
def loadSection (b : List Byte) (s : State) : State :=
  let store := secStore b
  { s with
    seq := { s.seq with
      store := store
      crc := (List.range 256).foldl (fun t k => tset t k (blockCrc store k)) []
      section5 := b
      table := (List.range 64).foldl (fun t r => tset t r (leAt b (16 * r) 16)) [] }
    upset := s.upset.filter fun e => !(e.1 % 64 == memStore) }

/-- The Linen Serge entry (R399, Table 13.14); `pre` is the common prefix. -/
def linenSerge (e : Nat) (pre : List Byte) (s : State) : List Byte :=
  let x := getEng e s
  let r4 := List.range 4
  fit 64 (pre ++ r4.map (fun k => if (getCtx e k s).st = .free then 0xFF else byte (getCtx e k s).routine) ++
    r4.flatMap (fun k => le 2 (getCtx e k s).pc) ++ le 4 x.traps ++ le 4 x.skipped ++ [byte x.lastCause, 0, 0, 0] ++ le 8 x.words)
/-- STATE of the Linen entry (R399). -/
def engState (e : Nat) (s : State) : Nat := ctxsState (getEng e s).ctxs
/-- SEQ_ENGINE_STAT (Table 13.13). -/
def seqEngineStat (e : Nat) (s : State) : Nat :=
  (List.range 4).foldl (fun a k => a + (getCtx e k s).st.num * 4 ^ k) 0 + 256 * b2n (fencedU 11 e s) + 65536 * (getEng e s).trapsRc

end Sys2Proof.Machine
end

