-- ==== Sys2Proof/Machine/SchedOps.lean ====
section
/-! DEFINITION. Eligibility, fair queueing, shapers and sampling windows (10.1 to 10.5). -/
namespace Sys2Proof.Machine

/-! ### Port scheduling records (Table 10.1) -/

/-- The record that every port holds at reset: every weight 1, ETS_MASK 0. -/
def resetSchRec : Nat := leNat (List.replicate 20 1 ++ zeros 4 ++ List.replicate 8 1)
def schRec (p : Nat) (s : State) : Nat := tgetD s.sch.recs p resetSchRec
def ucWeight (r i : Nat) : Nat := fld r (8 * i) 8
def mcWeight (r m : Nat) : Nat := fld r (128 + 8 * m) 8
def etsMask (r : Nat) : Nat := fld r 160 8
def etsWeight (r l : Nat) : Nat := fld r (192 + 8 * l) 8
/-- Weight of a queue index (R303). -/
def queueWeight (r idx : Nat) : Nat := if idx < 16 then ucWeight r idx else mcWeight r (idx - 16)

/-! ### Shapers (R306 to R310) -/

def getShaper (k : Nat) (s : State) : Shaper := tget s.sch.shapers k
def setShaper (k : Nat) (x : Shaper) (s : State) : State := { s with sch := { s.sch with shapers := tset s.sch.shapers k x } }

/-- A shaper of debt 0 that is not parked, or one that is off, holds nothing. -/
def Shaper.free (x : Shaper) : Bool := decide (x.rate = 0) || (decide (x.tokens ≥ 0) && x.due.isNone)

/-- The panel whose traffic manager serves a shaper. -/
def shaperPanel (k : Nat) : Nat := if k < 20480 then k / 20 / 256 else (k - 20480) / 256

/-- Tokens of one tick in 1/65,536 byte (R307). -/
def Shaper.perTick (x : Shaper) : Nat := x.rate * 524288 / 1000000

/-- A bucket in debt is parked for the first tick at which its refills repay it (R308, R309); one without debt leaves the
wheels; a shaper that is off is not parked. -/
def Shaper.park (x : Shaper) (tick : Nat) : Shaper :=
  if x.rate = 0 ∨ x.tokens ≥ 0 then { x with due := none, far := false }
  else
    let d := ((-x.tokens).toNat + x.perTick - 1) / max 1 x.perTick
    { x with due := some (tick + d), far := decide (d ≥ 4096) }

/-- The charge of a frame at its start (R306). -/
def Shaper.charge (x : Shaper) (len tick : Nat) : Shaper :=
  if x.rate = 0 then x
  else ({ x with tokens := x.tokens - (((len : Int) + x.ovh).toNat * 65536 : Nat) } : Shaper).park tick

/-- One tick (R307, R310): a write that waits takes effect, CLEAR_DEBT acts before the refill, the refill is capped. A
parked bucket keeps its slot, or moves to the one a new rate gives; the slot itself is served by the wheel. -/
def Shaper.tick (x : Shaper) (now : Nat) : Shaper :=
  let y := match x.next with
    | none => x
    | some (r, b, o) => { x with rate := r, burst := b, ovh := o, next := none }
  let y := { y with tokens := if x.clear ∧ y.tokens < 0 then 0 else y.tokens, clear := false }
  let y := { y with tokens := min (y.tokens + y.perTick) ((y.burst * 65536 : Nat) : Int) }
  if x.next.isNone ∧ !x.clear then y
  else if y.rate = 0 then { y with due := none, far := false }
  else if x.due.isSome ∧ y.tokens ≥ 0 then { y with due := some now, far := false }
  else y.park now

/-! ### Eligibility (R135, R301) -/

/-- ns from the start of entry `i` until a level closes, over at most `n` entries; none if it stays open. -/
def openFor (l : GateList) (level : Nat) : Nat → Nat → Option Nat
  | 0, _ => none
  | n + 1, i =>
    if !bitAt (l.entries.getD i (0, 0)).1 level then some 0
    else
      let start := if i = 0 then 0 else ((l.entries.take i).map Prod.snd).foldl (· + ·) 0
      (openFor l level n (nextEntry l i)).map (· + (entryEnd l i - start))

/-- ns until the gate of a level closes; none if no close is scheduled (R132, R133, R136, R137). From T of a pending switch
on, the new list alone counts. -/
def gateCloses (p level : Nat) (s : State) : Option Nat :=
  let cfg := rd Reg.macGateCfg p s
  let x := getPort p s
  if !bitAt cfg 0 ∨ x.gateFail then none
  else
    let now := timeOf (fld cfg 1 2) s
    let l := x.active
    let base := l.baseSec * 1000000000 + l.baseNs
    let off := if l.cycle = 0 then 0 else (((now : Int) - base) % (l.cycle : Int)).toNat
    let list := if l.entries = [] then none
      else match x.gateIx with
        | none => (openFor l level l.entries.length 0).map (· + (l.cycle - off))
        | some i =>
          let e := entryEnd l i
          (openFor l level l.entries.length (nextEntry l i)).map (· + (e - off))
    match x.switchAt with
    | none => list
    | some t =>
      let new := (openFor x.standby level x.standby.entries.length 0).map (· + (t - now))
      match list with
      | none => new
      | some a => if a < t - now then some a else new

/-- A frame of `len` bytes leaves before its gate closes (R135); preamble and gap count 20 bytes. -/
def fitsGate (p level len : Nat) (s : State) : Bool :=
  match gateCloses p level s with
  | none => true
  | some ns => decide ((len + 20) * 8 ≤ ns * macGbps p s)

/-- A packet at the head of its queue can start: its last cell is written or it is cut through, and its units are on die
(R279, R285). -/
def canStart (p : Pkt) (x : Queue) : Bool :=
  (p.ended || p.ct) && (p.spans.all fun e => decide (e.1 + e.2 ≤ x.readPos))

/-- R301. -/
def eligible (q : Nat) (s : State) : Bool :=
  let port := q / 20
  let x := getPort port s
  let lvl := levelOf port (q % 20) s
  match (getQ q s).pkts with
  | [] => false
  | i :: _ =>
    canStart (getPkt i s) (getQ q s) && decide (x.st = .up) && !x.sleeping && mayTransmit port s && !fcWaits x &&
    decide (tget x.pause lvl = 0) && gateOpen port lvl s && fitsGate port lvl (getPkt i s).len s &&
    (getShaper q s).free && (getShaper (20480 + port) s).free

/-! ### Tags (R303 to R305) -/

def getTag (q : Nat) (s : State) : FTag := tget s.sch.tags q
def virt (p l : Nat) (s : State) : Nat := tget s.sch.v (p * 9 + l)

/-- A tag after a look: a change to eligible is a wake (R304). -/
def FTag.look (t : FTag) (el : Bool) (v : Nat) : FTag :=
  if el ∧ !t.was then { t with s := if (t.f + 2 ^ 32 - v) % 2 ^ 32 < 2 ^ 30 then t.f else v, was := true }
  else { t with was := el }

/-- A tag after its selection with weight `w` and length `len` (R303). -/
def FTag.step (t : FTag) (len w : Nat) : FTag :=
  let f := (t.s + (len * 4096 + w - 1) / w) % 2 ^ 32
  { t with s := f, f := f }

/-- The trim queue of a port is in no fair set (R302). -/
def isTrim (q : Nat) (s : State) : Bool := decide (q % 20 = trimQidx (q / 20) s)

/-- Queues of a port's level in ascending order, the trim queue left out. -/
def fairSet (p l : Nat) (s : State) : List Nat :=
  ((List.range 20).filter fun k => levelOf p k s == l && !isTrim (p * 20 + k) s).map (p * 20 + ·)

def trimQueue (p : Nat) (s : State) : Nat := p * 20 + trimQidx p s

/-- Some queue of a level is eligible. -/
def levelEligible (p l : Nat) (s : State) : Bool :=
  (fairSet p l s).any (fun q => eligible q s) || (decide (l = 7) && eligible (trimQueue p s) s)

/-- A fault of a panel's traffic manager names the lowest lane group of the panel (R558). -/
def tmFault (cls panel item : Nat) (s : State) : State := report cls 3 (4 * panel) (le 8 item) s

/-- A queue's scheduling state is read: one with an uncorrectable error loses its packets as R276 flushes them, and its tags
restart at V (FC112); a correctable error is mended (FC113). -/
def meetSched (q : Nat) (s : State) : State :=
  let panel := q / 20 / 256
  match upsetOf memSched q s with
  | 1 => tmFault 113 panel q (clearUpset memSched q s)
  | 2 =>
    let v := virt (q / 20) (levelOf (q / 20) (q % 20) s) s
    let s := flushQueue q 7 6 (tmFault 112 panel q (clearUpset memSched q s))
    { s with sch := { s.sch with tags := tset s.sch.tags q { s := v, f := v } } }
  | _ => s

/-- The scheduling state of a port's queues is read. -/
def meetPort (p : Nat) (s : State) : State := (List.range 20).foldl (fun s k => meetSched (p * 20 + k) s) s

/-- Look at every queue and ETS level of a port: lost heads are discarded, wakes take their start tags (R304). -/
def lookPort (p : Nat) (s : State) : State :=
  let s := meetPort p s
  let s := (List.range 20).foldl (fun s k => lookHead (p * 20 + k) s) s
  let s := (List.range 20).foldl (fun s k =>
    let q := p * 20 + k
    let e := eligible q s
    { s with sch := { s.sch with tags := tmod s.sch.tags q fun t => t.look e (virt p (levelOf p k s) s) } }) s
  (List.range 8).foldl (fun s l =>
    let e := levelEligible p l s
    { s with sch := { s.sch with ets := tmod s.sch.ets (p * 8 + l) fun t => t.look e (virt p 8 s) } }) s

/-- The signed comparison of start tags. -/
def tagBefore (a b : Nat) : Bool := decide (toS 32 (a + 2 ^ 32 - b) < 0)

/-- pick_level (R302). -/
def pickLevel (p l : Nat) (s : State) : Option Nat :=
  if l = 7 ∧ eligible (trimQueue p s) s then some (trimQueue p s)
  else (fairSet p l s).foldl (fun best q =>
    if !eligible q s then best
    else match best with
      | none => some q
      | some b => if tagBefore (getTag q s).s (getTag b s).s then some q else best) none

/-- pick_ets (R305): the level. -/
def pickEts (p : Nat) (s : State) : Option Nat :=
  let r := schRec p s
  ((List.range 8).reverse.filter fun l => bitAt (etsMask r) l && levelEligible p l s).foldl (fun best l =>
    match best with
    | none => some l
    | some b => if tagBefore (tget s.sch.ets (p * 8 + l)).s (tget s.sch.ets (p * 8 + b)).s then some l else best) none

/-- select (R302): the queue, and whether it was served in the ETS group. -/
def selectQueue (p : Nat) (s : State) : Option (Nat × Bool) :=
  let r := schRec p s
  match (List.range 8).reverse.findSome? fun l => if bitAt (etsMask r) l then none else pickLevel p l s with
  | some q => some (q, false)
  | none => match pickEts p s with
    | none => none
    | some l => (pickLevel p l s).map fun q => (q, true)

/-- V and the tags after a selection (R303, R305). -/
def stepTags (p q len : Nat) (ets : Bool) (s : State) : State :=
  let r := schRec p s
  let l := levelOf p (q % 20) s
  let s := if isTrim q s then s
    else
      let t := getTag q s
      { s with sch := { s.sch with v := tset s.sch.v (p * 9 + l) t.s, tags := tset s.sch.tags q (t.step len (queueWeight r (q % 20))) } }
  if ets then
    let t := tget s.sch.ets (p * 8 + l)
    { s with sch := { s.sch with v := tset s.sch.v (p * 9 + 8) t.s, ets := tset s.sch.ets (p * 8 + l) (t.step len (etsWeight r l)) } }
  else s

/-! ### Sampling (R314, R315) -/

def sampleOn (s : State) : Bool := bitAt (rd Reg.schCtrl 0 s) 0
def sampleTb (s : State) : Nat := rdFld Reg.schCtrl 0 1 2 s

/-- A depth sample that is not 0. -/
def Samp.depth (x : Samp) (d : Nat) : Samp :=
  if d = 0 then x
  else { x with cnt := x.cnt + 1, sum := x.sum + d, least := if x.cnt = 0 then d else min x.least d, most := max x.most d }

/-- A packet dequeued with a delay. -/
def Samp.delay (x : Samp) (d : Nat) : Samp :=
  { x with pkts := x.pkts + 1, dsum := x.dsum + d, dleast := if x.pkts = 0 then d else min x.dleast d, dmost := max x.dmost d }

/-- The sample state of every queue is read: what an uncorrectable error hits is flagged (FC116), a correctable one is mended
(FC113). Answers the queues whose window is flagged. -/
def meetSamples (s : State) : List Nat × State :=
  (upsetItems memSample s).foldl (fun a e =>
    let t := clearUpset memSample e.1 a.2
    if e.2 = 2 then (e.1 :: a.1, tmFault 116 (e.1 / 20 / 256) e.1 t) else (a.1, tmFault 113 (e.1 / 20 / 256) e.1 t)) ([], s)

/-- The window closes for every queue at once (R315). -/
def closeWindow (suspect : Bool) (s : State) : State :=
  let tb := sampleTb s
  let z := stampOf tb s
  let (bad, s) := meetSamples s
  let w : Window := { suspect := suspect || s.sch.suspect || !tbRuns tb s, samples := s.sch.taken, endTs := z.1, endPh := z.2, tb := tb,
                      bad := bad, qs := s.sch.win }
  { s with sch := { s.sch with last := some w, seq := s.sch.seq + 1, taken := 0, win := [], suspect := false } }

/-- A step of a time base closes the window that runs on it (R315). -/
def sampleStepped (n : Nat) (s : State) : State := if sampleOn s ∧ sampleTb s = n then closeWindow true s else s

end Sys2Proof.Machine
end

