-- ==== Sys2Proof/Machine/Timing.lean ====
section
/-! DEFINITION. Time bases as their consumers feel them (15.1 to 15.3): changes of state, steps and trim, with what gates
(R136, R137), performance bins (R166), sample windows (R315) and dump sets (R448) make of them. -/
namespace Sys2Proof.Machine

/-- Time on base number `n` is suspect: performance bins, the sample window and dump records on it are flagged
(R166, R315, R448). -/
def suspectTime (n : Nat) (s : State) : State :=
  let s := markSuspect n s
  let s := if pmTb s = n then pmSuspect s else s
  if sampleTb s = n then { s with sch := { s.sch with suspect := true } } else s

/-- Base numbers whose reading follows base `n`: its own, or the pair output it feeds (R424). -/
def readersOf (n : Nat) (s : State) : List Nat := (List.range 4).filter fun k => decide ((tbSource k s).1 = n)

/-- Make a change to the time bases; every number that starts or stops running makes its consumers' time suspect, and
gates follow it (R137). -/
def tbWatch (f : State → State) (s : State) : State :=
  let t := f s
  let changed := (List.range 4).filter fun k => decide (tbRuns k s ≠ tbRuns k t)
  if changed.isEmpty then t else gatesFollowTb (changed.foldl (fun a k => suspectTime k a) t)

/-- A write of TIM_TB_CFG as its consumers feel it. -/
def writeTb (n v : Nat) (s : State) : State := tbWatch (writeTbCfg n v) s

/-- Second of a base number's reading. -/
def secNow (n : Nat) (s : State) : Nat := timeOf n s / 1000000000

/-- A step of base `n` by `d` ns reaches every consumer at once (R421, R422): the sample window closes, gates wait for the
next cycle start, bins are flagged or closed, and dump records are suspect. -/
def stepAll (n : Nat) (d : Int) (s : State) : State :=
  let ks := readersOf n s
  let s := ks.foldl (fun a k => sampleStepped k a) s
  let before := secNow (pmTb s) s
  let s := stepTb n d s
  let s := ks.foldl (fun a k => markSuspect k (gatesStepped k a)) s
  if ks.contains (pmTb s) then
    let after := secNow (pmTb s) s
    pmStep true before after (pmStep false before after s)
  else s

/-- Whether a step of `d` ns keeps the time within 48-bit seconds (R421). -/
def stepFits (n : Nat) (d : Int) (s : State) : Bool :=
  let t := (getTb n s).total + d
  decide (0 ≤ t) && decide (t < (timeSpan : Int))

/-- Setting TIM_TB_CFG.ENABLE starts a stopped time base (Table 15.1). -/
def execTbEnable (tb : Nat) (value : Word) (s : State) : Res :=
  within (decide (tb < 4)) (whenOpen s (if bitAt value.toNat 0 then writeTb tb value.toNat s else s))

/-- Clearing TIM_TB_CFG.ENABLE stops a time base at its value (Table 15.1). -/
def execTbDisable (tb : Nat) (value : Word) (s : State) : Res :=
  within (decide (tb < 4)) (whenOpen s (if bitAt value.toNat 0 then s else writeTb tb value.toNat s))

/-- Clearing SLEW_EN abandons a pending offset (R421). -/
def execSlewDisable (tb : Nat) (value : Word) (s : State) : Res :=
  within (decide (tb < 4)) (whenOpen s (if bitAt value.toNat 2 then s else writeTb tb value.toNat s))

/-- CLK10_IN is missing for 1 µs or off its frequency: each running base that uses it enters HOLDOVER with the ratio of
the last second, in 2^−40, and FC193 is recorded (R423, Table 15.1). -/
def execClk10Loss (ratio : Nat) (s : State) : Res :=
  let hit (s : State) (n : Nat) : State :=
    if (getTb n s).state = .running ∧ bitAt (rd Reg.timTbCfg n s) 1 then
      setTbState n .holdover 1 (report 193 12 n [byte n] (setTb n { getTb n s with ratio := ratio } s))
    else s
  .next (tbWatch (fun s => (List.range 4).foldl hit s) s)

/-- CLK10_IN has been good for 1 s: the base returns to it with no phase step (Table 15.1). -/
def execHoldoverExit (tb : Nat) (s : State) : Res :=
  within (decide (tb < 4)) (if (getTb tb s).state = .holdover then tbWatch (setTbState tb .running 2) s else s)

/-- TIME_SET steps a base to a given time (R421); owner statuses 0x80 SLEW_ON, 0x81 TOO_LARGE. -/
def timeSetCmd (c : Cmd) (s : State) : State × CmdEnd :=
  match tbCheck c s with
  | some st => fail st s
  | none =>
    let n := c.op 0 1
    let sec := c.op 8 8
    let ns := c.op 16 4
    if ns ≥ 1000000000 then fail BAD_PARAM s
    else if slewEn n s then fail 0x80 s
    else if sec ≥ 2 ^ 48 then fail 0x81 s
    else
      let d := (sec * 1000000000 + ns : Int) - (getTb n s).total
      (stepAll n d s, .done { payload := sle8 d })

/-- The command TimeSet. -/
def execTimeSet (ref : CmdRef) (s : State) : Res := .next (runCmd 0x71 ref timeSetCmd s)

/-- TIME_ADJUST adds to the pending offset while SLEW_EN is 1, up to ±10 s, and steps otherwise (R420, R421). -/
def timeAdjustCmd (c : Cmd) (s : State) : State × CmdEnd :=
  match tbCheck c s with
  | some st => fail st s
  | none =>
    let n := c.op 0 1
    let d := toS 64 (c.op 8 8)
    let t := getTb n s
    if slewEn n s then
      let p := t.pending + d * (2 ^ 48 : Int)
      if p.natAbs > 10000000000 * 2 ^ 48 then fail 0x81 s
      else if p = 0 ∧ t.pending ≠ 0 then okay (slewDone n 0 (setTb n { t with pending := 0, slewEnd := false } s))
      else okay (setTb n { t with pending := p, slewEnd := false } s)
    else if stepFits n d s then okay (stepAll n d s)
    else fail 0x81 s

/-- The command TimeAdjust. -/
def execTimeAdjust (ref : CmdRef) (s : State) : Res := .next (runCmd 0x72 ref timeAdjustCmd s)

/-- TIME_TRIM sets TRIM; FREQ_JUMP marks a change beyond SLEW_MAX, and consumers that flag suspect time flag it
(R422). -/
def timeTrimCmd (c : Cmd) (s : State) : State × CmdEnd :=
  match tbCheck c s with
  | some st => fail st s
  | none =>
    let n := c.op 0 1
    let t := getTb n s
    let v := toS 32 (c.op 4 4)
    let jump := decide ((v - t.trim).natAbs * 1000000000 > slewMax n s * 2 ^ 40)
    let s := setTb n { t with trim := v, freqJump := t.freqJump || jump } s
    okay (if jump then (readersOf n s).foldl (fun a k => suspectTime k a) s else s)

/-- The command TimeTrim. -/
def execTimeTrim (ref : CmdRef) (s : State) : Res := .next (runCmd 0x73 ref timeTrimCmd s)

end Sys2Proof.Machine
end

