-- ==== Sys2Proof/Machine/FenceOps.lean ====
section
/-! DEFINITION. Fencing units, their online tests and their return to service (18.5, 18.6). -/
namespace Sys2Proof.Machine

/-- Units of a kind (Table 18.3); 0 for a kind that cannot be fenced. -/
def kindCount (kind : Nat) : Nat := ([0, 128, 1024, 16, 16, 256, 16, 256, 4, 32, 64, 8, 4]).getD kind 0

/-- A unit that exists: a port is one that its macro's layout starts. -/
def unitExists (kind ix : Nat) (s : State) : Bool :=
  decide (ix < kindCount kind) && (decide (kind ≠ 2) || decide (portWidth ix s ≠ 0))

/-- A unit that the device keeps while others are out: a table bank whose twin is fenced (R212), DC00, and a privileged
channel while another one is fenced (R508). -/
def unitKept (kind ix : Nat) (s : State) : Bool :=
  if kind = 5 then fencedU 5 (ix ^^^ 1) s
  else if kind = 10 then decide (ix = 0) || (decide (ix < 4) && (List.range 4).any fun k => decide (k ≠ ix) && fencedU 10 k s)
  else false

/-- EV_FLT_UNIT (Table 18.11). -/
def postUnit (kind ix st cause : Nat) (s : State) : State := post 0x8001 ([byte kind, 0] ++ le 2 ix ++ [byte st, byte cause]) s

/-! ### What a fence does (Table 18.3) -/

/-- A macro's ports go to DISABLED with DOWN_CAUSE 6 and its lanes go OFF, squelched (R100, R567, Table 3.4). -/
def fenceMacro (m : Nat) (s : State) : State :=
  lanesOff m ((macroPorts m s).foldl (fun s p => portDisable p 6 s) s)

def fenceGroup (g : Nat) (s : State) : State := (List.range 8).foldl (fun s i => fenceMacro (8 * g + i) s) s

/-- Packets inside a pipe's ingress half are discarded as fence discards (R19); frames that have still to arrive are not
taken up again. -/
def fencePipe (k : Nat) (s : State) : State :=
  let inside := fun (p : Pkt) => p.live && p.pipe == k &&
    (p.stage == .input || p.stage == .parsing || p.stage == .parsed || p.stage == .ready)
  (s.pip.pkts.filter fun e => inside e.2).foldl (fun s e =>
    discard e.1 18 k (if e.2.tag.inPort < 1024 then countPort e.2.tag.inPort 53 1 s else s)) s

/-- A table bank whose read path failed: lookups stop probing it at once, its dynamic entries are lost, and a sweep of the
shadow begins, whatever SHADOW_EN says, which reinserts its pinned ones (R211). -/
def loseBank (b : Nat) (s : State) : State :=
  let gone := s.tbl.em.filter fun e => emBank e.1 == b
  let n := (gone.filter fun e => !e.2.pinned).length
  let s := (gone.filter fun e => e.2.pinned).foldl (fun s e => restoreLater 0 (emObj e.2.key e.2.typ) s) s
  let s := { s with
    tbl := { s.tbl with em := s.tbl.em.filter fun e => !(emBank e.1 == b)
                        noProbe := tset s.tbl.noProbe b true, evac := s.tbl.evac.erase b
                        evicted := sat 32 (s.tbl.evicted + n)
                        rebuild := if rd Reg.tblShadowLen 0 s = 0 then s.tbl.rebuild else s.tbl.rebuild ++ [b] } }
  post 0x1005 (zeros 23 ++ [1] ++ le 4 n) (beginSweep s)

/-- Relocation assist is given a bank (R210). -/
def evacuate (b : Nat) (s : State) : State :=
  if s.tbl.evac.contains b ∨ tget s.tbl.noProbe b then s else { s with tbl := { s.tbl with evac := s.tbl.evac ++ [b] } }

/-- A buffer bank loses its cells: packets with a cell in it are discarded at the heads of their queues; those whose
egress has begun end as R110 states (R295). Answers how many are lost. -/
def loseCells (b : Nat) (s : State) : Nat × State :=
  let hit := (s.buf.cells.filter fun e => e.2.inBanks.contains b).map fun e => e.1
  let s := { s with buf := { s.buf with
    cells := tmap s.buf.cells fun _ c =>
      if c.inBanks.contains b then
        { c with lost := true, banks := c.banks.filter (· != b), staged := c.staged.filter fun e => e.2 != b + 1 }
      else c } }
  let on := fun (p : Pkt) => p.live && (match p.cid with | some c => hit.contains c | none => false)
  let n := (s.pip.pkts.filter fun e => on e.2).length
  (n, { s with pip := { s.pip with
    pkts := tmap s.pip.pkts fun _ p => if on p ∧ (p.stage = .egress ∨ p.stage = .leaving) then { p with stomp := true } else p } })

/-- EV_BUF_BANK (9.9): cause 0 fault, 1 command, 2 returned. -/
def postBank (b cause lost : Nat) (s : State) : State := post 0x3003 ([byte b, byte cause, 0, 0] ++ le 4 lost) s

/-- Every block of a memory channel and its data are lost at once (R287, R414): spill blocks, overflow blocks and the
M-pool buffers with a granule in it; a retrain is abandoned. -/
def loseChannel (ch : Nat) (s : State) : State :=
  let qs := (s.buf.queues.filter fun e => e.2.blocks.any fun b => blockChan b.id s == ch).map fun e => e.1
  let s := qs.foldl (fun s q =>
    let x := getQ q s
    let bad := x.blocks.filter fun b => blockChan b.id s == ch && !b.lost
    let s := bad.foldl (fun s b => loseUnits q b s) s
    let s := modQ q (fun x => { x with blocks := x.blocks.map fun b => if blockChan b.id s == ch then { b with lost := true } else b }) s
    closeRun q (passLost q x.blocks.length s)) s
  let grans := (ovfUsed s).filter fun b => chanOfAddr (ovfAddr b s) s == ch
  let s := { s with mem := { s.mem with lostGran := grans.foldl (fun t b => tset t (ovfAddr b s / 65536) true) s.mem.lostGran } }
  modMChan ch (fun c => { c with retraining := false, retry := false }) (taintChannel ch s)

/-- A DMA channel's started descriptors end with FENCED, and those that wait for it end with FENCED and no byte (R508). -/
def fenceChan (ch : Nat) (s : State) : State :=
  let s := (getChan ch s).xfers.foldl (fun s x => endXfer ch (fun y => decide (y.cmd = x.cmd)) x ST_FENCED x.done x.left s) s
  let waits := s.hif.inflight.filter fun c => decide (c.ch = ch) && decide (c.len ≠ 0) && decide (c.opcode ≠ 1)
  waits.foldl (fun s c => if c.stage = .fetched ∧ startable c s then finish c { status := ST_FENCED } 0 0 s else s) s

/-- The effects of a fence by fault on a unit that was in service (Table 18.3). `cls` is the class of the record, none for
a forced fence. -/
def fenceEffect (kind ix : Nat) (cls : Option Nat) (s : State) : State :=
  if kind = 1 then fenceMacro ix s
  else if kind = 2 then portDisable ix 6 s
  else if kind = 3 then fenceGroup ix s
  else if kind = 4 then fencePipe ix s
  else if kind = 5 then (if cls = some 80 then loseBank ix s else evacuate ix s)
  else if kind = 7 then (let r := loseCells ix s; postBank ix 0 r.1 r.2)
  else if kind = 8 then loseCluster ix s
  else if kind = 9 then loseChannel ix s
  else if kind = 10 then fenceChan ix s
  else if kind = 11 then fenceEngine ix s
  else if kind = 12 then tbWatch (setTbState ix .fenced 4) s
  else s

/-- The UNIT_FENCE commands that wait for a unit's drain complete. -/
def endDrain (u : FUnit) (status : Nat) (s : State) : State :=
  (u.draining.toList ++ u.also).foldl (fun s ref => finishRef ref { status := status } s) s

/-- The unit becomes FENCED (Table 18.6); every UNIT_FENCE that waited for its drain completes. -/
def toFenced (kind ix cause : Nat) (effect : State → State) (s : State) : State :=
  let u := getUnit kind ix s
  followFence (endDrain u 0 (effect (postUnit kind ix 1 cause (setUnit kind ix { state := .fenced } s))))

/-- Whether an online test passed: of a macro or a lane group, each of its 8 or 64 lanes calibrated within range and counted no bit
error (R101); of a time base, the two bases advanced alike within 1 ns (15.7); of another unit, the test found no error (R143, R193,
R360, R415, R508, 7.11, 9.8). -/
def testPassed (kind : Nat) (f : TestFound) : Bool :=
  if kind = 1 ∨ kind = 3 then
    decide (f.lanes.length = (if kind = 1 then 8 else 64)) && f.lanes.all fun e => e.1 && decide (e.2 = 0)
  else if kind = 12 then decide (f.errors ≤ 1)
  else decide (f.errors = 0)

/-- A pipe's parse store, action profiles and templates are reloaded from the active image (R193, R266): upsets of them are
gone. -/
def reloadPipe (k : Nat) (s : State) : State :=
  { s with upset := s.upset.filter fun e =>
      !((e.1 % 64 == memParse && e.1 / 64 / 4096 == k) || (e.1 % 64 == memProfile && e.1 / 64 / 256 == k) ||
        (e.1 % 64 == memTemplate && e.1 / 64 / 256 == k)) }

/-- What an online test leaves, its unit being FENCED again: the lanes of a macro or a lane group go OFF, squelched (R100,
Table 3.4); a pipe has its memories reloaded. -/
def afterTest (kind ix : Nat) (s : State) : State :=
  if kind = 1 then lanesOff ix s
  else if kind = 4 then reloadPipe ix s
  else if kind = 3 then (List.range 8).foldl (fun s i => lanesOff (8 * ix + i) s) s
  else s

/-- An online test ends (Table 18.6). -/
def endTest (kind ix : Nat) (ok : Bool) (s : State) : State :=
  let u := getUnit kind ix s
  if u.state ≠ .testing then s
  else
    let s := afterTest kind ix (postUnit kind ix 1 (if ok then 3 else 4) (setUnit kind ix { state := .fenced, passed := ok } s))
    match u.testCmd with
    | none => s
    | some ref => finishRef ref { status := if ok then 0 else 0x82 } s

/-- A fence that acts at once on one unit, by fault or forced (R505, R507, R559). `cause` is that of EV_FLT_UNIT. -/
def fenceOne (kind ix cause : Nat) (cls : Option Nat) (s : State) : State :=
  match (getUnit kind ix s).state with
  | .testing => s
  | .fenced =>
    let s := setUnit kind ix { getUnit kind ix s with passed := false } s
    if kind = 5 ∧ cls = some 80 ∧ !tget s.tbl.noProbe ix then loseBank ix s else s
  | .inService => toFenced kind ix cause (fenceEffect kind ix cls) s

/-- A fence that acts at once. With both pipes of a pair out, both lane groups of the pair are fenced (R18). -/
def fenceNow (kind ix cause : Nat) (cls : Option Nat) (s : State) : State :=
  let s := fenceOne kind ix cause cls s
  if kind = 4 ∧ fencedU 4 ix s ∧ fencedU 4 (siblingOf ix) s then
    [ix / 2 * 2, ix / 2 * 2 + 1].foldl (fun s g => if fencedU 3 g s then s else fenceOne 3 g cause cls s) s
  else s

/-! ### By command (R505, R506) -/

/-- Nothing is left of what a fence by command waits for (Table 18.3). -/
def drained (kind ix : Nat) (s : State) : Bool :=
  if kind = 5 then !s.tbl.evac.contains ix
  else if kind = 7 then s.buf.cells.all fun e => !e.2.inBanks.contains ix
  else if kind = 8 then s.col.jobs.all fun e => !(e.2.runs && (e.2.cluster == ix || (e.2.st == .moving && e.2.dest == ix)))
  else if kind = 9 then (usedBlocks s).all (fun b => blockChan b s != ix) && (ovfUsed s).all fun b => chanOfAddr (ovfAddr b s) s != ix
  else if kind = 10 then (getChan ix s).xfers.isEmpty
  else true

/-- Kinds whose fence by command completes only when something has drained (Table 18.3). -/
def drainKind (kind : Nat) : Bool := kind == 5 || kind == 7 || kind == 8 || kind == 9 || kind == 10

/-- What the start of a fence by command does to a unit that drains. -/
def startDrain (kind ix : Nat) (s : State) : State :=
  if kind = 5 then evacuate ix s
  else if kind = 8 then moveAll ix (redirectMoves ix s)
  else if kind = 9 then taintChannel ix s
  else s

/-- The effects at the end of a fence by command of a unit that has drained. -/
def drainedEffect (kind ix : Nat) (s : State) : State :=
  if kind = 7 then postBank ix 1 0 s
  else if kind = 9 then modMChan ix (fun c => { c with retraining := false, retry := false }) s
  else if kind = 10 then fenceChan ix s
  else s

/-! ### Return to service (Table 18.6) -/

/-- The owner's return rule: R213 for a table bank, a reload of its blocks from the shadow for a TCAM share (Table 7.9), 9.8 for a buffer bank, R415 for a memory channel, Table 15.1 for a time
base. -/
def returnEffect (kind ix : Nat) (s : State) : State :=
  if kind = 5 then { s with
    tbl := { s.tbl with em := s.tbl.em.filter (fun e => !(emBank e.1 == ix)), noProbe := tset s.tbl.noProbe ix false
                        evac := s.tbl.evac.erase ix }
    upset := s.upset.filter fun e => !(e.1 % 64 == memEm && emBank (e.1 / 64) == ix) }
  else if kind = 6 then
    ((List.range 6144).map (6144 * ix + ·)).foldl (fun s i => if i < (areaOf 2 s).2 then restoreLater 2 i s else s) s
  else if kind = 7 then postBank ix 2 0 s
  else if kind = 9 then { s with
    mem := { s.mem with burlap := s.mem.burlap.filter fun e => !(chanOfAddr e.1 s == ix) }
    upset := s.upset.filter fun e => !(e.1 % 64 == memBurst && chanOfAddr (64 * (e.1 / 64)) s == ix) }
  else if kind = 12 then tbWatch (setTbState ix .stopped 0) s
  else s

end Sys2Proof.Machine
end

