-- ==== Sys2Proof/Machine/Faults.lean ====
section
/-! DEFINITION. The fault manager (18_faults.md): records and the ladder, fences by fault and by command, online tests,
and its commands. -/
namespace Sys2Proof.Machine

/-! ### What FENCE acts on (R495, R558) -/

/-- What a record at FENCE acts on: nothing that can be fenced; a unit that the device must keep; a slotted group (R169);
the telemetry unit (R457); or units. -/
inductive FenceGoal where
  | none | kept | group (g : Nat) | telemetry | units (l : List (Nat × Nat))
deriving DecidableEq, Repr

/-- Kind of the unit that a class fences, from the owners' tables (3.10, 4.4, 6.9, 7.9, 8.10, 9.6, 10.6, 11.14, 13.9, 14.3,
15.6, 18.8). FC243 and FC248 fence the unit that they name. -/
def fenceKind (cls kind : Nat) : Nat :=
  if cls = 243 ∨ cls = 248 then kind
  else if [1].contains cls then 10
  else if [16, 17].contains cls then 1
  else if [19, 20].contains cls || (decide (112 ≤ cls) && decide (cls ≤ 127)) then 3
  else if [32].contains cls then 2
  else if [64, 66, 67, 68].contains cls then 4
  else if [80, 81, 82, 84].contains cls then 5
  else if [89].contains cls then 6
  else if [96, 97].contains cls then 7
  else if [128, 130, 131].contains cls then 8
  else if [163, 166].contains cls then 11
  else if [176, 177, 178, 181, 183].contains cls then 9
  else if [192, 195].contains cls then 12
  else 0

/-- FC248 and FC243 of the host link, the fault manager or another part of the always-on domain: kind 14 with the number
of the part's clock in Table 1.4, from 0. -/
def mustKeep (cls kind unit : Nat) : Bool :=
  (cls == 243 || cls == 248) && kind == 14 && (unit == 37 || decide (46 ≤ unit ∧ unit ≤ 50))

def goalOf (cls kind unit : Nat) (s : State) : FenceGoal :=
  if 48 ≤ cls ∧ cls ≤ 63 then (if kind = 13 ∧ unit < 32 then .group unit else .none)
  else if 208 ≤ cls ∧ cls ≤ 223 then .telemetry
  else if mustKeep cls kind unit then .kept
  else
    let us := if fenceKind cls kind = kind ∧ unit < kindCount kind then reportSet cls kind unit else []
    if us = [] ∨ !us.all fun u => unitExists u.1 u.2 s then .none
    else if us.any fun u => decide ((getUnit u.1 u.2 s).state = .inService) && unitKept u.1 u.2 s then .kept
    else .units us

/-! ### Records (18.1 to 18.3) -/

/-- A record that is about to be formed, what its FENCE acts on, and whether it raises vector 256 whatever IRQ_MIN is. -/
structure Draft where
  r : FltRec := {}
  goal : FenceGoal := .none
  force : Bool := false

/-- R496. -/
def levelOfRec (entry ceiling prev : Nat) : Nat :=
  let l := if prev ≠ 0 ∧ prev + 1 > entry then prev + 1 else entry
  if l > ceiling then ceiling else l

/-- LEVEL of a class's latest unacknowledged record, 0 if none. -/
def prevLevel (cls : Nat) (s : State) : Nat :=
  match s.flt.recs.find? fun r => r.cls == cls && !r.acked with
  | some r => r.level
  | none => 0

/-- A report of the CLK_AON cycle in which its class was acknowledged: the level of the class's latest record as it stood before
that, since the record forms first and is acknowledged with the others (R504). -/
def ackedLevel (i : Intake) (s : State) : Option Nat :=
  match tget s.flt.ackAt i.rep.cls with
  | some (t, l) => if i.aon = t then some l else none
  | none => none

/-- The record of a report, its level, and what it fences (R493 to R496, R511, R559). -/
def draft (i : Intake) (s : State) : Draft :=
  let p := i.rep
  let entry := rdFld Reg.fltClassCfg p.cls 0 3 s
  let l := levelOfRec entry (rdFld Reg.fltClassCfg p.cls 3 3 s) ((ackedLevel i s).getD (prevLevel p.cls s))
  let goal := if l ≥ 3 then goalOf p.cls p.kind p.unit s else .none
  let out := match goal with
    | .units us => us.any fun u => decide ((getUnit u.1 u.2 s).state ≠ .testing)
    | _ => false
  let clr := if p.condition then i.clr else some (i.ts, i.ph)
  let r : FltRec :=
    { cls := p.cls, level := if goal = .kept then max l 4 else l, escalated := decide (l > entry), condition := p.condition
      acked := (ackedLevel i s).isSome, cleared := clr.isSome, fenced := out, raised := decide (goal = .kept), setPh := i.ph, tb := i.tb, aon := i.aon
      setTs := i.ts, clrTs := (clr.getD (0, 0)).1, clrPh := (clr.getD (0, 0)).2, kind := p.kind, unit := p.unit
      detail := p.detail, lastAon := i.aon }
  { r := r, goal := goal, force := decide (l ≥ 3) && decide (goal = .none) }

/-- The units of a draft count as fenced for the drafts of the same cycle that follow. -/
def markDraft (d : Draft) (s : State) : State :=
  match d.goal with
  | .units us => us.foldl (fun s u =>
      if (getUnit u.1 u.2 s).state = .inService then setUnit u.1 u.2 { state := .fenced } s else s) s
  | _ => s

def draftAll : List Intake → State → List Draft
  | [], _ => []
  | i :: r, s => let d := draft i s; d :: draftAll r (markDraft d s)

/-- The heads of the 16 intake queues, and the state without them. -/
def takeHeads (s : State) : List Intake × State :=
  (List.range 16).foldl (fun (a : List Intake × State) b =>
    match tget a.2.flt.intake b with
    | [] => a
    | i :: r => (a.1 ++ [i], { a.2 with flt := { a.2.flt with intake := tset a.2.flt.intake b r } })) ([], s)

/-- FC249 for each block that discarded reports and has room again (R491). -/
def reportLost (s : State) : State :=
  (List.range 16).foldl (fun s b =>
    if tget s.flt.blockLost b ≠ 0 ∧ (tget s.flt.intake b).length < 8 then
      report 249 14 b (le 8 b) { s with flt := { s.flt with blockLost := tset s.flt.blockLost b 0 } }
    else s) s

/-- Put an item into a list before the first one that it precedes. -/
def insertBy (lt : α → α → Bool) (x : α) : List α → List α
  | [] => [x]
  | y :: r => if lt x y then x :: y :: r else y :: insertBy lt x r

def sortBy (lt : α → α → Bool) (l : List α) : List α := l.foldl (fun a x => insertBy lt x a) []

/-- Order of the records of one cycle: stamp, higher level, lower class (R491, R501). -/
def Draft.before (a b : Draft) : Bool :=
  decide (a.r.aon < b.r.aon) ||
    (a.r.aon == b.r.aon && (decide (a.r.level > b.r.level) || (a.r.level == b.r.level && decide (a.r.cls < b.r.cls))))

/-- Another report of the same CLK_AON cycle forms, has formed or will form a record of its own (R501). -/
def hasPeer (d : Draft) (ds : List Draft) (s : State) : Bool :=
  decide ((ds.filter fun e => e.r.aon == d.r.aon).length > 1) || (s.flt.recs.any fun r => r.aon == d.r.aon) ||
    s.flt.intake.any fun q => q.2.any fun i =>
      i.aon == d.r.aon && !(i.rep.cls == d.r.cls && i.rep.kind == d.r.kind && i.rep.unit == d.r.unit)

/-- The reactions of FENCE (R169, R457, R505). -/
def fenceReact (d : Draft) (s : State) : State :=
  match d.goal with
  | .units us => us.foldl (fun s u => fenceNow u.1 u.2 0 (some d.r.cls) s) s
  | .group g =>
    let x := getGrp g s
    if x.st = .disabled then s else modGrp g (fun x => { x with held := true }) (grpTo g .disabled 0 s)
  | .telemetry => { s with tel := { s.tel with stopped := true } }
  | _ => s

/-- A draft becomes a record: SEQ, history, FLT_FIRST, level counts, EV_FLT_RECORD, vector 256, and its fence (18.2, 18.3). -/
def formRecord (d : Draft) (s : State) : State :=
  let r := { d.r with seq := s.flt.nextSeq }
  let s := { s with flt := { s.flt with
    recs := r :: s.flt.recs.map fun x => if x.aon = r.aon then { x with sameCycle := true } else x
    hist := (r.seq :: s.flt.hist).take 32, first := some (s.flt.first.getD r.seq)
    ackAt := if r.acked then tmod s.flt.ackAt r.cls fun a => a.map fun x => (x.1, r.level) else s.flt.ackAt
    nextSeq := (s.flt.nextSeq + 1) % 2 ^ 32, levelCounts := tmod s.flt.levelCounts r.level fun n => sat 32 (n + 1) } }
  let s := post 0x8000 (r.bytes.take 32) s
  fenceReact d (if d.force ∨ r.level ≥ rdFld Reg.fltCtrl 0 0 3 s then raiseVector 256 s else s)

/-- Merge a report into a record (R492); a condition that has ended meanwhile clears it again. -/
def mergeIntake (i : Intake) (s : State) : Option State :=
  match tryMerge i.rep i.aon s, i.clr with
  | some t, some c =>
    let live := fun (r : FltRec) => r.cls == i.rep.cls && r.kind == i.rep.kind && r.unit == i.rep.unit && r.condition && !r.cleared
    some { t with flt := { t.flt with
      recs := modFirst live (fun r => { r with cleared := true, clrTs := c.1, clrPh := c.2 }) t.flt.recs } }
  | o, _ => o

/-- Each report is merged, or stays to form a record. -/
def mergeAll : List Intake → State → List Intake × State
  | [], s => ([], s)
  | i :: r, s => match mergeIntake i s with
    | some t => mergeAll r t
    | none => let (l, t) := mergeAll r s; (i :: l, t)

/-- A report names a unit under online test: the test fails (Table 18.6). -/
def endTests (l : List Intake) (s : State) : State :=
  l.foldl (fun s i => (reportSet i.rep.cls i.rep.kind i.rep.unit).foldl (fun s u =>
    if u.2 < kindCount u.1 then endTest u.1 u.2 false s else s) s) s

/-- The fault manager's work of one CLK_AON cycle (R491 to R502). -/
def formAll (s : State) : State :=
  let (heads, s) := takeHeads s
  let heads := sortBy (fun a b => decide (a.aon < b.aon)) heads
  let s := reportLost s
  let (fresh, s) := mergeAll heads s
  let ds := sortBy Draft.before (draftAll fresh s)
  let ds := ds.map fun d => { d with r := { d.r with sameCycle := hasPeer d ds s } }
  let s := endTests heads (ds.foldl (fun s d => formRecord d s) s)
  let s := { s with flt := { s.flt with served := true } }
  if ds.any fun d => decide (d.r.level ≥ 5) then enterLockdown s
  else if ds.any fun d => decide (d.r.level = 4) then enterHold s
  else s

/-- A report of FC016 says that a macro's transmit PLL has lost lock (Tables 3.10, 3.13). -/
def reportedPll (r : Report) (s : State) : State :=
  if r.cls = 16 ∧ r.kind = 1 ∧ r.unit < 128 then setMacro r.unit { getMacro r.unit s with pllLock := false } s else s

/-- The fault manager takes in the reports of a CLK_AON cycle and forms records (R491). In OFF nothing runs. -/
def execRecordFormation (incoming : List Report) (s : State) : Res :=
  within (incoming.all fun r => decide (r.cls < 256) && decide (r.kind < 15) && decide (r.unit < 65536))
    (if s.sys.mode = .off then s else formAll (incoming.foldl (fun s r => enqueue r (reportedPll r s)) s))

/-! ### Conditions, tests, drains and pins -/

/-- A unit's condition ends: live records of it gain CLEARED and CLEARED_TS (R492, R503); so does a report of it that still
waits. -/
def clearCondition (cls kind unit : Nat) (s : State) : State :=
  let z := stamp s
  let live := fun (r : FltRec) => r.cls == cls && r.kind == kind && r.unit == unit && r.condition && !r.cleared
  let wait := fun (i : Intake) => i.rep.cls == cls && i.rep.kind == kind && i.rep.unit == unit && i.rep.condition && i.clr.isNone
  let q := (tget s.flt.intake (cls / 16)).map fun i => if wait i then { i with clr := some z } else i
  { s with flt := { s.flt with
    intake := tset s.flt.intake (cls / 16) q
    recs := s.flt.recs.map fun r => if live r then { r with cleared := true, clrTs := z.1, clrPh := z.2 } else r } }

/-- The row CONDITION_CLEAR. -/
def execConditionClear (cls kind unit : Nat) (s : State) : Res := within (decide (cls < 256)) (clearCondition cls kind unit s)

/-- A unit fenced by command has drained: it is fenced, and UNIT_FENCE completes (R505). A bank whose twin was fenced
meanwhile stays in service (R212), as does a channel that R508 keeps. -/
def fenceComplete (kind ix : Nat) (s : State) : State :=
  let u := getUnit kind ix s
  if u.draining.isNone ∨ !drained kind ix s then s
  else if unitKept kind ix s then
    let s := setUnit kind ix {} s
    endDrain u 0x83 (if kind = 5 then { s with tbl := { s.tbl with noProbe := tset s.tbl.noProbe ix false } } else s)
  else toFenced kind ix 1 (drainedEffect kind ix) s

/-- The row FENCE_COMPLETE. -/
def execFenceComplete (kind unit : Nat) (s : State) : Res := within (decide (unit < kindCount kind)) (fenceComplete kind unit s)

/-- An online test ends (R510). -/
def execTestEnd (kind unit : Nat) (found : TestFound) (s : State) : Res :=
  within (decide (unit < kindCount kind)) (endTest kind unit (testPassed kind found && !(getUnit kind unit s).faulted) s)

/-- Modes in which ALIVE_OUT changes level (R513). -/
def aliveMode (m : Mode) : Bool := decide (m ≠ .off) && decide (m ≠ .reset) && decide (m ≠ .hold) && decide (m ≠ .lockdown)

/-- The instant of an edge of ALIVE_OUT: it is made once every intake queue has been served since the last one (R513). -/
def execAliveToggle (s : State) : Res :=
  .next (if aliveMode s.sys.mode ∧ s.flt.served then
    emit (.alive (!s.flt.alive)) { s with flt := { s.flt with alive := !s.flt.alive, served := false } } else s)

/-- The unit that owns a clock domain of Table 1.4, domains in the order of the table from 0: a kind and an index. Domains of
no unit of Table 18.3 are kind 14 with their number. -/
def clockUnit (k : Nat) : Nat × Nat :=
  if 10 ≤ k ∧ k ≤ 13 then (8, k - 10)
  else if 14 ≤ k ∧ k ≤ 29 then (3, k - 14)
  else if 41 ≤ k ∧ k ≤ 44 then (12, k - 41)
  else (14, k)

/-- Power domain of a clock domain (Table 1.4). -/
def clockDom (k : Nat) : Nat :=
  if k ≤ 3 then 1 + k else if k ≤ 7 then k - 3 else if k = 8 then 6 else if k = 9 then 5 else if k ≤ 13 then k - 3
  else if k ≤ 29 then k - 3 else if k ≤ 33 then k - 29 else if k = 34 then 30 else if k ≤ 36 then k - 8
  else if k = 37 then 29 else if k ≤ 40 then 30 else if k = 45 then 30 else 0

/-- A clock is not looked at: its domain is powered down or held in reset, or CLK_LGnn is off or re-locks as planned (R31). -/
def clockUnseen (k : Nat) (s : State) : Bool :=
  decide (s.sys.mode.num < 2) || !domPowered (clockDom k) s || k == 46 ||
    (decide (14 ≤ k ∧ k ≤ 29) && decide ((getGroup (k - 14) s).clk ≠ .running))

/-- The droop detectors stretch a clock (R475): its domain is in a dip and the clock is one that steps or that the rule names. -/
def clockStretched (k : Nat) (s : State) : Bool :=
  let dip := fun d => (getDom d s).dip.isSome
  if k ≤ 13 then dip (clockDom k) else if k = 37 then dip 29 else if k = 38 then dip 29 || dip 30
  else if k = 39 ∨ k = 40 ∨ k = 45 then dip 30 else false

/-- Line rate of a rate code in bit/s (Table 3.1). -/
def lineRate (r : Nat) : Nat := [0, 212500000000, 106250000000, 53125000000, 25781250000].getD r 0

/-- Frequency of a clock in Hz at its present step (R31, Tables 1.4, 11.1 and 17.2). -/
def clockNominal (k : Nat) (s : State) : Nat :=
  if k ≤ 7 then 1000000 * stepMhz 0 (domStep (clockDom k) s)
  else if k ≤ 9 then 1000000 * stepMhz 1 (domStep (clockDom k) s)
  else if k ≤ 13 then 1000000 * stepMhz 2 (domStep (clockDom k) s)
  else if k ≤ 29 then lineRate (groupRate (k - 14) s) / 160
  else if k ≤ 33 then 1328125000
  else if k = 35 ∨ k = 36 then 1333000000
  else if k = 46 then 250000000 else if k = 47 then 200000000 else if k = 48 then 50000000
  else if k = 49 then 400000000 else if k = 50 then 32768 else 1000000000

/-- The frequency that the monitor expects: half of it while the clock is stretched (R31). -/
def clockHz (k : Nat) (s : State) : Nat := if clockStretched k s then clockNominal k s / 2 else clockNominal k s

/-- A frequency deviates by more than 2 % from the expected one (R31). CLK_JTAG has no other bound than 50 MHz (Table 1.4). -/
def clockOff (k hz : Nat) (s : State) : Bool :=
  decide (50 * hz > 51 * clockHz k s) || (decide (k ≠ 48) && decide (50 * hz < 49 * clockHz k s))

/-- A window of 1 µs that ends now overlaps an instant. -/
def inWindow (t : Option Nat) (s : State) : Bool :=
  match t with
  | none => false
  | some t => decide (s.aon ≤ t + 250)

/-- The clock's frequency is not checked over the window that ends now (R31): it overlaps a step change, the start of a stretch or
the return from it, a planned re-lock or a power-down. -/
def clockChanging (k : Nat) (s : State) : Bool :=
  let at_ := fun d c => inWindow (tget s.pwr.clkAt (4 * d + c)) s
  let d := clockDom k
  at_ d 2 || (decide (k ≤ 9) && at_ d 0) ||
    (decide (k ≤ 13 ∨ k = 37) && at_ d 1) || (decide (k = 38) && (at_ 29 1 || at_ 30 1)) ||
    (decide (k = 39 ∨ k = 40 ∨ k = 45) && at_ 30 1) ||
    (decide (10 ≤ k ∧ k ≤ 13) && ((getCluster (k - 10) s).changing.isSome || inWindow (getCluster (k - 10) s).stepAt s)) ||
    (decide (14 ≤ k ∧ k ≤ 29) && inWindow (getGroup (k - 14) s).clkAt s)

/-- A 1 µs monitor window of a clock domain ends: a clock that stands still, or one that deviates by more than 2 % from its
expected frequency, is reported for the unit that owns the domain (R31, FC248). -/
def execClockMonitorWindow (clock : Nat) (found : ClockFound) (s : State) : Res :=
  let u := clockUnit clock
  within (decide (clock < 51))
    (if clockUnseen clock s then s
    else if found.hz = 0 ∨ (clockOff clock found.hz s ∧ !found.returning ∧ !clockChanging clock s) then
      report 248 u.1 u.2 (le 8 clock) s
    else s)

/-- A BMC write to RESET_REQ: 0xA5, then 0x5A within 1 ms, resets the device with kind 2; LOCKDOWN ignores it (R515). In OFF
the target does not answer (R514). -/
def execResetReq (value : Byte) (within1ms : Bool) (s : State) : Res :=
  .next (if s.sys.mode = .off then s
    else if s.sys.mode = .lockdown then { s with flt := { s.flt with resetArmed := false } }
    else if value = 0x5A ∧ s.flt.resetArmed ∧ within1ms then doReset 2 s
    else { s with flt := { s.flt with resetArmed := decide (value = 0xA5) } })

/-! ### What software reads (R514, R518, Table 18.12) -/

/-- Highest unacknowledged level of a class; 0 if none. -/
def unackLevel (cls : Nat) (s : State) : Nat := s.flt.recs.foldl (fun a r => if r.cls == cls && !r.acked then max a r.level else a) 0

def maxUnack (s : State) : Nat := s.flt.recs.foldl (fun a r => if r.acked then a else max a r.level) 0

/-- A class has a live record. -/
def classLive (cls : Nat) (s : State) : Bool := s.flt.recs.any fun r => r.cls == cls && !r.cleared

/-- Units not IN_SERVICE. -/
def fencedCount (s : State) : Nat := (s.flt.units.filter fun e => decide (e.2.state ≠ .inService)).length

/-- The history, newest first. -/
def histBytes (s : State) : List Byte :=
  fit 1024 (s.flt.hist.flatMap fun q => match recOf q s with | some r => r.bytes.take 32 | none => zeros 32)

/-- The latest record of each class. -/
def latestBytes (s : State) : List Byte :=
  (List.range 256).flatMap fun c => match s.flt.recs.find? fun r => r.cls == c with | some r => r.bytes | none => zeros 64

/-- The fault area of the Linen record (R518, Table 18.10). -/
def faultArea (s : State) : List Byte :=
  let cs := List.range 256
  firstBytes s ++ histBytes s ++ ((List.range 5).flatMap fun l => le 4 (tget s.flt.levelCounts (l + 1))) ++ le 4 s.flt.nextSeq ++
  le 4 s.flt.lost ++ zeros 4 ++ le 32 (ofBits (cs.map fun c => classLive c s)) ++ zeros 32 ++
  le 96 (cs.foldl (fun a c => a + unackLevel c s * 8 ^ c) 0)

/-- FLT_STAT. -/
def fltStat (s : State) : Nat := maxUnack s + 256 * sat 8 (fencedCount s) + 65536 * (s.flt.nextSeq % 65536)

/-- The words of FLT_LIVE[k] and FLT_UNACK[k]. -/
def fltLive (k : Nat) (s : State) : Nat := ofBits ((List.range 32).map fun i => classLive (32 * k + i) s)
def fltUnack (k : Nat) (s : State) : Nat := ofBits ((List.range 32).map fun i => decide (unackLevel (32 * k + i) s ≠ 0))

/-- FLT_CTRL.CFG_ERR. -/
def fltErr (bad : Bool) (s : State) : State := { s with flt := { s.flt with cfgErr := bad } }

/-- A setting that R497 lets stand: levels 1 to 5, the ceiling not below the entry. -/
def classCfgOk (entry ceiling : Nat) : Bool :=
  decide (1 ≤ entry ∧ entry ≤ 5) && decide (1 ≤ ceiling ∧ ceiling ≤ 5) && decide (entry ≤ ceiling)

/-- A write of FLT_CLASS_CFG (R497): ignored for a fixed class, ignored with CFG_ERR for a bad setting. -/
def writeClassCfg (n v : Nat) (s : State) : State :=
  if Reg.clsFixed n then s
  else if classCfgOk (fld v 0 3) (fld v 3 3) then fltErr false (wrRw Reg.fltClassCfg n v s)
  else fltErr true s

/-! ### Commands (R517, Table 18.9) -/

/-- The classes named are acknowledged in this CLK_AON cycle, which a report of the same cycle is to know (R504). -/
def noteAck (m : Nat) (s : State) : Tab (Option (Nat × Nat)) :=
  ((List.range 256).filter fun k => bitAt m k).foldl (fun t k => tset t k (some (s.aon, prevLevel k s))) s.flt.ackAt

/-- FAULT_ACK acknowledges every record of the classes it names (R504). -/
def faultAckCmd (c : Cmd) (s : State) : State × CmdEnd :=
  let m := c.op 0 32
  if c.len ≠ 0 then fail BAD_PARAM s
  else okay { s with flt := { s.flt with
    recs := s.flt.recs.map (fun r => if bitAt m r.cls then { r with acked := true } else r), ackAt := noteAck m s } }

/-- The row FAULT_ACK. -/
def execFaultAck (ref : CmdRef) (s : State) : Res := .next (runCmd 0x80 ref faultAckCmd s)

/-- FAULT_READ copies FLT_FIRST, the history, the latest records or the fault area. -/
def faultReadCmd (c : Cmd) (s : State) : State × CmdEnd :=
  let w := c.op 0 1
  if w > 3 ∨ c.len ≠ ([64, 1024, 16384, 1280]).getD w 0 then fail BAD_PARAM s
  else okayData (if w = 0 then firstBytes s else if w = 1 then histBytes s else if w = 2 then latestBytes s else faultArea s) s

/-- The row FAULT_READ. -/
def execFaultRead (ref : CmdRef) (s : State) : Res := .next (runCmd 0x81 ref faultReadCmd s)

/-- FAULT_CLASS_SET sets or reads a class's setting (R497). -/
def faultClassSetCmd (c : Cmd) (s : State) : State × CmdEnd :=
  let n := c.op 0 1
  if c.len ≠ 0 ∨ !flagOk c 4 then fail BAD_PARAM s
  else if readFlag c 4 then okayWith (le 4 (rd Reg.fltClassCfg n s)) s
  else if Reg.clsFixed n then fail 0x84 s
  else if classCfgOk (c.op 1 1) (c.op 2 1) then
    okay (fltErr false (wrRw Reg.fltClassCfg n (c.op 1 1 + 8 * c.op 2 1 + 256 * c.op 3 1) s))
  else fail BAD_PARAM (fltErr true s)

/-- The row FAULT_CLASS_SET. -/
def execFaultClassSet (ref : CmdRef) (s : State) : Res := .next (runCmd 0x82 ref faultClassSetCmd s)

/-- The unit that a command names: a status where it names none that can be fenced. `other` answers kinds 0, 13 and 14. -/
def unitOperand (c : Cmd) (other : Nat) : Option Nat :=
  if c.len ≠ 0 ∨ c.op 0 1 > 14 then some BAD_PARAM
  else if kindCount (c.op 0 1) = 0 then some other
  else if c.op 2 2 ≥ kindCount (c.op 0 1) then some BAD_PARAM
  else none

/-- A fence by command of a unit that drains: it would break R212 once a twin that drains is out. -/
def twinDrains (kind ix : Nat) (s : State) : Bool := kind == 5 && (getUnit 5 (ix ^^^ 1) s).draining.isSome

/-- UNIT_FENCE fences a unit by command, or at once with FORCE (R505, R506). -/
def unitFenceCmd (c : Cmd) (s : State) : State × CmdEnd :=
  let k := c.op 0 1
  let ix := c.op 2 2
  let force := bitAt (c.op 4 1) 0
  if c.op 4 1 > 1 then fail BAD_PARAM s
  else match unitOperand c 0x83 with
    | some st => fail st s
    | none =>
      let u := getUnit k ix s
      if u.state ≠ .inService then okay s
      else if !unitExists k ix s ∨ unitKept k ix s ∨ twinDrains k ix s then fail 0x83 s
      else if force then okay (fenceNow k ix 2 none s)
      else if drainKind k then
        if u.draining.isSome then (setUnit k ix { u with also := u.also ++ [c.ref] } s, .later)
        else (startDrain k ix (setUnit k ix { u with draining := some c.ref } s), .later)
      else okay (fenceNow k ix 1 none s)

/-- The row UNIT_FENCE. -/
def execUnitFence (ref : CmdRef) (s : State) : Res := .next (runCmd 0x83 ref unitFenceCmd s)

/-- UNIT_TEST starts the online test of a fenced unit; it completes when the test ends (R510). -/
def unitTestCmd (c : Cmd) (s : State) : State × CmdEnd :=
  let k := c.op 0 1
  let ix := c.op 2 2
  match unitOperand c 0x80 with
  | some st => fail st s
  | none => match (getUnit k ix s).state with
    | .inService => fail 0x80 s
    | .testing => fail 0x85 s
    | .fenced => (setUnit k ix { getUnit k ix s with state := .testing, testCmd := some c.ref, faulted := false } s, .later)

/-- The row UNIT_TEST. -/
def execUnitTest (ref : CmdRef) (s : State) : Res := .next (runCmd 0x84 ref unitTestCmd s)

/-- UNIT_RETURN returns a tested unit to service (R509, R510). -/
def unitReturnCmd (c : Cmd) (s : State) : State × CmdEnd :=
  let k := c.op 0 1
  let ix := c.op 2 2
  match unitOperand c 0x80 with
  | some st => fail st s
  | none => match (getUnit k ix s).state with
    | .inService => fail 0x80 s
    | .testing => fail 0x85 s
    | .fenced =>
      if (getUnit k ix s).passed then okay (followFence (returnEffect k ix (postUnit k ix 0 5 (setUnit k ix {} s))))
      else fail 0x81 s

/-- The row UNIT_RETURN. -/
def execUnitReturn (ref : CmdRef) (s : State) : Res := .next (runCmd 0x85 ref unitReturnCmd s)

/-- FIRST_CLEAR empties FLT_FIRST (R499). -/
def firstClearCmd (c : Cmd) (s : State) : State × CmdEnd :=
  if c.len ≠ 0 then fail BAD_PARAM s else okay { s with flt := { s.flt with first := none } }

/-- The row FIRST_CLEAR. -/
def execFirstClear (ref : CmdRef) (s : State) : Res := .next (runCmd 0x86 ref firstClearCmd s)

/-- DIAG_TEST tests a unit that cannot be fenced, in DIAG only (R512). -/
def diagTestCmd (c : Cmd) (passed : Bool) (s : State) : State × CmdEnd :=
  let t := c.op 0 1
  if c.len ≠ 0 ∨ t > 3 then fail BAD_PARAM s
  else if passed then okay s
  else fail 0x82 (report 252 14 t (le 8 t) s)

/-- The row DIAG_TEST. -/
def execDiagTest (ref : CmdRef) (passed : Bool) (s : State) : Res := .next (runCmd 0x87 ref (fun c => diagTestCmd c passed) s)

end Sys2Proof.Machine
end

