-- ==== Sys2Proof/Machine/Serge.lean ====
section
/-! DEFINITION. The Serge engines: microwords, waits, block operations, routines and their service, the Serge commands
(chapter 13; R210, R218 and R233 as the standard routines serve them). -/
namespace Sys2Proof.Machine

/-! ### The service of the standard routines (Table 13.8) -/

/-- Entries of the exact-match regions. -/
def emTotal : Nat := 4194304

/-- One check of the aging sweep (R218). -/
def ageCheck (i : Nat) (s : State) : State :=
  let e := getEm i s
  if !e.valid ∨ e.pinned then s
  else if emBad i s then emMeetBad i (countMiss s)
  else if e.hit then setEm i { e with hit := false } s
  else if e.pendingAge then s
  else post 0x1001 (fit 22 e.key ++ [byte e.typ, 0] ++ emPlaceBytes i) (setEm i { e with pendingAge := true } s)

/-- A TYPE's pass goes on to the place that is due now: checks spread evenly over AGE_PERIOD (R218). -/
def agePass (t : Nat) (s : State) : State :=
  let cfg := rd Reg.tblType t s
  let p := tget s.seq.aging t
  let put := fun (p : AgePass) (s : State) => { s with seq := { s.seq with aging := tset s.seq.aging t p } }
  if !bitAt cfg 3 ∨ !bitAt (rd Reg.tblCtrl 0 s) 2 then put {} s
  else if !p.on then put { on := true, start := s.aon, cursor := 0 } s
  else
    let period := fld cfg 16 16 * 250000000
    let due := min emTotal ((s.aon - p.start) * emTotal / period)
    let l := (s.tbl.em.filter fun e => decide (p.cursor ≤ e.1) && decide (e.1 < due) && e.2.typ == t).map fun e => e.1
    let s := l.foldl (fun s i => ageCheck i s) s
    if due = emTotal then put { on := true, start := p.start + period, cursor := 0 } s else put { p with cursor := due } s

/-- The aging sweep's share of one word of routine 1. -/
def serveAging (s : State) : State := (List.range 64).foldl (fun s t => agePass t s) s

/-- Relocation assist's share of one word of routine 2 (R210): the next valid entry of the first bank under evacuation
goes to its other place, or is deleted and posted; after the last one lookups stop probing the bank. -/
def serveEvac (s : State) : State :=
  match s.tbl.evac with
  | [] => s
  | b :: rest =>
    match s.tbl.em.find? fun e => emBank e.1 == b with
    | none => { s with tbl := { s.tbl with evac := rest, noProbe := tset s.tbl.noProbe b true } }
    | some (i, e) =>
      if emBad i s then setEm i {} (clearUpset memEm i (emMeetBad i s))
      else match emPlace e s with
        | some (_, _, t) => setEm i {} t
        | none =>
          let s := { s with tbl := { s.tbl with evicted := sat 32 (s.tbl.evicted + 1) } }
          post 0x1005 (fit 22 e.key ++ [byte e.typ, 0] ++ le 4 1) (setEm i {} s)

/-- Shadow records of area `k` that lie whole in a range of host memory: index and offset in the range. -/
def shadowIn (k addr len : Nat) (s : State) : List (Nat × Nat) :=
  let base := (areaOf k s).1
  let size := shadowSize k
  let first := if base ≥ addr then 0 else (addr - base + size - 1) / size
  (List.range (len / size)).filterMap fun j =>
    let i := first + j
    let a := base + size * i
    if i < (areaOf k s).2 ∧ addr ≤ a ∧ a + size ≤ addr + len then some (i, a - addr) else none

/-- A read of host memory takes in the last record of an area. -/
def areaEnds (k addr len : Nat) (s : State) : Bool := (shadowIn k addr len s).any fun x => x.1 + 1 == (areaOf k s).2

/-- The area at whose end a sweep ends. -/
def lastArea (s : State) : Option Nat := ((List.range 6).reverse).find? fun k => decide ((areaOf k s).2 ≠ 0)

/-- A sweep that has run for more than SWEEP_MS records FC087, once (Table 7.9). -/
def sweepLate (s : State) : State :=
  let ms := (s.aon - s.seq.sweepAt.getD s.aon) / aonMs
  if ms > rdFld Reg.tblShadowCfg 0 16 11 s ∧ !s.seq.overran then
    report 87 0 0 (le 4 ms) { s with seq := { s.seq with overran := true } }
  else s

/-- A sweep ends and the next one begins (R233, Table 7.14). -/
def sweepEnds (s : State) : State :=
  let z := stamp s
  beginSweep { s with tbl := { s.tbl with sweepMs := (s.aon - s.seq.sweepAt.getD s.aon) / aonMs, sweepTs := z.1, sweepPh := z.2 } }

/-- Shadow compare's share of one read of routine 3, or of routine 2 for a lost bank (R211, R233, R235, R236): with SHADOW_EN = 1
routine 3 compares every record read; records of items that wait for their restoration are served whatever SHADOW_EN says. A
bank is rebuilt once area 0 has been read to its end. -/
def serveShadow (r addr : Nat) (bs : List Byte) (s : State) : State :=
  let all := r == 3 && bitAt (rd Reg.tblCtrl 0 s) 1
  let s := if all ∧ s.seq.sweepAt.isNone then beginSweep s else s
  let s := sweepLate s
  let s := (List.range 6).foldl (fun s k =>
    (shadowIn k addr bs.length s).foldl (fun s x => (shadowRecord all k x.1 (slice bs x.2 (shadowSize k)) s).2) s) s
  let s := groupsLive s
  let s := if areaEnds 0 addr bs.length s then { s with tbl := { s.tbl with rebuild := [] } } else s
  if all ∧ (lastArea s).any fun k => areaEnds k addr bs.length s then sweepEnds s else s

/-! ### Memory operations (Table 13.5, R387) -/

/-- The address of a word's memory operation. -/
def mwAddrOf (c : Ctx) (w : Nat) : Nat := (c.reg (mwAddr w) + mwOff w) % 2 ^ 64

/-- An access of `n` bytes to a buffer that the engine owns, of the space's tier. -/
def seqBufOk (e space a n : Nat) (s : State) : Bool :=
  let h := fld a 32 32
  handleOk h s && (handleM h == (space == 5)) && decide ((getPBuf h s).owner = 0x80 + e) &&
  decide (fld a 0 32 + n ≤ poolSize (handlePool h))

/-- A counter address (R440). -/
def seqCtrOk (a n : Nat) : Bool :=
  let kind := fld a 32 4
  let num := fld a 0 32 / 8
  decide (kind < 4) && decide (num + n ≤ ctrItems kind * ctrPer kind)

/-- Whether LD8 or ST8 may access an address (R387). -/
def wordAccess (e space a : Nat) (store : Bool) (s : State) : Bool :=
  decide (a % 8 = 0) && (match space with
    | 0 => decide (a + 8 ≤ 16384)
    | 1 => !store
    | 3 => decide (a < 2 ^ 36) && seqCtrOk a 1
    | 4 | 5 => seqBufOk e space a 8 s
    | _ => false)

/-- Whether a block operation may access a range (R384, R387, R440). -/
def blockAccess (e r space a n : Nat) (inward : Bool) (s : State) : Bool :=
  match space with
  | 0 => decide (a + n ≤ 16384)
  | 1 => inward
  | 2 => true
  | 3 => decide (n % 8 = 0) && decide (n ≤ 4096) && decide (a % 8 = 0) && decide (a < 2 ^ 37) && seqCtrOk a (n / 8)
  | 4 | 5 => seqBufOk e space a n s
  | 6 => r == 0 && decide (s.sys.mode = .wipe) && decide (a + n ≤ usable s)
  | 7 => true
  | 8 => decide (a + n ≤ 32)
  | _ => false

/-- Bytes of a routine's checkpoint have an uncorrectable error. -/
def chkHard (r off n : Nat) (s : State) : Bool :=
  (List.range 4).any fun i => decide (off < 8 * i + 8) && decide (8 * i < off + n) && upsetOf memChk (r * 4 + i) s == 2

/-- The trap that a word's memory operation meets: cause and INFO. -/
def memTrap (e : Nat) (c : Ctx) (w : Nat) (s : State) : Option (Nat × Nat) :=
  let a := mwAddrOf c w
  let d := c.reg (mwData w)
  let n := c.reg (mwLen w)
  match mwMem w with
  | 1 => if !wordAccess e (mwSpace w) a false s then some (3, a)
         else if mwSpace w = 0 ∧ scratchHard e a 8 s then some (5, a) else none
  | 2 => if wordAccess e (mwSpace w) a true s then none else some (3, a)
  | 3 => if blockAccess e c.routine (mwSpace w) a n true s ∧ d + n ≤ 16384 then none else some (3, a)
  | 4 => if !(blockAccess e c.routine (mwSpace w) a n false s && decide (d + n ≤ 16384)) then some (3, a)
         else if scratchHard e d n s then some (5, d) else none
  | 10 => if chkHard c.routine 0 32 s then some (6, 0) else none
  | _ => none

/-- What LD8 of a space other than scratch gives; the contents of the table array, whose layout the spec does not give,
and of data with an uncorrectable error are free values. -/
def seqLoad8 (space a : Nat) (s : State) : Nat × State :=
  match space with
  | 3 =>
    let s := meetValue (fld a 32 4) (fld a 0 32 / 8) s
    ((tget s.tel.ctrs (ctrKey (fld a 32 4) (fld a 0 32 / 8))).value, s)
  | 4 | 5 =>
    let (st, bs, s) := bufRead (fld a 32 32) (fld a 0 32) 8 s
    if st = 0 then (leNat bs, s) else takeFree s
  | _ => takeFree s

/-- ST8 of a counter: the central value is written and both accumulators cleared (R440). -/
def seqStoreCtr (kind num v : Nat) (s : State) : State :=
  let key := ctrKey kind num
  let s := freshCtr kind num s
  { s with tel := { s.tel with ctrs := tmod s.tel.ctrs key fun c => { c with value := v, acc := [] } } }

/-- The checkpoint of a routine. -/
def chkRead (r : Nat) (s : State) : List Byte := mread s.seq.chk (32 * r) 32
def chkWrite (r off : Nat) (bs : List Byte) (s : State) : State :=
  let s := ((List.range 4).filter fun i => decide (off ≤ 8 * i) && decide (8 * i + 8 ≤ off + bs.length)).foldl
    (fun s i => clearUpset memChk (r * 4 + i) s) s
  { s with seq := { s.seq with chk := mwrite s.seq.chk (32 * r + off) bs } }

/-- A checkpoint is lost: FC167, and it is zero from then on (Table 13.9). -/
def chkLost (e r : Nat) (s : State) : State := report 167 11 e [byte r] (chkWrite r 0 (zeros 32) s)

/-- X(n), X(n + 1) … as bytes; registers beyond X15 do not exist, and their bytes are free values. -/
def regBytes (c : Ctx) (n : Nat) : Nat → State → List Byte × State
  | 0, s => ([], s)
  | m + 1, s =>
    let (v, s) := if n ≤ 15 then (c.reg n, s) else takeFree s
    let (bs, s) := regBytes c (n + 1) m s
    (le 8 v ++ bs, s)

/-- X(n), X(n + 1) … from bytes. -/
def regsFrom (n : Nat) (bs : List Byte) (c : Ctx) : Ctx :=
  (chunks 8 4 bs).zipIdx.foldl (fun c x => if n + x.2 ≤ 15 then c.setReg (n + x.2) (leNat x.1) else c) c

/-- The memory operation of a word; `c` is the context as the word issued (R386, Table 13.5). -/
def memEffect (e k w : Nat) (c : Ctx) (s : State) : State :=
  let a := mwAddrOf c w
  let r := mwData w
  let d := c.reg r
  let n := c.reg (mwLen w)
  match mwMem w with
  | 1 =>
    if mwSpace w = 0 then
      let s := scratchFix e a 8 s
      modCtx e k (fun x => x.setReg r (leNat (scratchRead e a 8 s))) s
    else
      let (v, s) := seqLoad8 (mwSpace w) a s
      modCtx e k (fun x => { x with load := some (r, v) }) s
  | 2 =>
    match mwSpace w with
    | 0 => scratchWrite e a (le 8 d) s
    | 3 => seqStoreCtr (fld a 32 4) (fld a 0 32 / 8) d s
    | _ => (bufWrite (fld a 32 32) (fld a 0 32) (le 8 d) s).2
  | 3 =>
    let op : BlkOp := { inward := true, space := mwSpace w, addr := a, len := n, place := d }
    modCtx e k (fun x => { x with blk := x.blk ++ [op], dmaDone := false, dmaErr := false }) s
  | 4 =>
    let s := scratchFix e d n s
    let op : BlkOp := { space := mwSpace w, addr := a, len := n, place := d, data := scratchRead e d n s }
    let tbl := decide (mwSpace w = 2)
    modCtx e k (fun x => { x with blk := x.blk ++ [op], dmaDone := false, dmaErr := false,
                                  tblDone := x.tblDone && !tbl, tblErr := x.tblErr && !tbl }) s
  | 5 =>
    let (bs, s) := regBytes c r 5 s
    post (0xA080 + mwOff w % 128) bs s
  | 6 => report (172 + mwOff w % 4) 11 e [byte e, byte k, byte c.routine] s
  | 7 =>
    let s := modCtx e k (fun x => { x with poolDone := false, poolReg := r }) s
    let req : PoolReq := { port := 2 + e, owner := 0x80 + e, who := .serge e k }
    match (if poolOn s ∧ 1 ≤ n ∧ n ≤ 4194304 then poolFor n (mwOff w % 2) s else none) with
    | some p => poolRequest p 0 req s
    | none => seqPoolAnswer e k none s
  | 8 =>
    let s := if d < 2 ^ 32 ∧ handleOk d s then (poolFreeBy d (0x80 + e) s).2 else s
    modCtx e k (fun x => { x with poolDone := true }) s
  | 9 =>
    let (bs, s) := regBytes c r 4 s
    chkWrite c.routine 0 bs s
  | 10 => modCtx e k (fun x => regsFrom r (chkRead c.routine s) x) s
  | _ => s

/-! ### Issue (R382, R386) -/

/-- The context goes on at a word, or waits for the data of its load first. -/
def goOn (e k pc : Nat) (s : State) : State :=
  modCtx e k (fun c => if c.load.isSome then { c with st := .waiting, resume := pc } else { c with pc := pc }) s

/-- FLOW of a word (Table 13.2). -/
def seqFlow (e k w : Nat) (s : State) : State :=
  let c := getCtx e k s
  let holds := seqCond c (mwCond w) none s != mwCondNeg w
  match mwFlow w with
  | 0 => goOn e k (mwNext w) s
  | 1 => goOn e k (if holds then mwBr w else mwNext w) s
  | 2 => goOn e k (mwBr w) (setCtx e k { c with stack := mwNext w :: c.stack } s)
  | 3 => goOn e k (c.stack.headD 0) (setCtx e k { c with stack := c.stack.tail } s)
  | 4 =>
    let wait : SeqWait := { cond := mwCond w, neg := mwCondNeg w, since := s.aon }
    setCtx e k { c with st := .waiting, wait := some wait, resume := mwNext w } s
  | 5 => endRun e k (b2n (stopReq c.routine s)) 0 s
  | 6 => seqTrap e k 7 0 s
  | _ => restoreFrame e k s

/-- Operand B. -/
def mwOperandB (c : Ctx) (w : Nat) : Nat := if mwBImm w then mwImm w else c.reg (mwB w)

/-- The ALU step of a word. -/
def aluStep (e k w : Nat) (s : State) : State :=
  let c := getCtx e k s
  if mwAlu w = 0 then s
  else
    let (v, s) := takeFree s
    match alu w (c.reg (mwA w)) (mwOperandB c w) (c.reg (mwDst w)) (bitAt v 0) with
    | none => s
    | some r =>
      let c := if r.writes then c.setReg (mwDst w) r.val else c
      setCtx e k { c with zero := r.zero, neg := r.neg, carry := r.carry } s

/-- The service that a word of a standard routine brings. -/
def serveRoutine (r : Nat) (s : State) : State := if r = 1 then serveAging s else if r = 2 then serveEvac s else s

/-- What a trap reports beside itself: FC163 and FC167 (Table 13.9). -/
def trapReport (e r cause : Nat) (s : State) : State :=
  if cause = 5 then report 163 11 e [byte e] s else if cause = 6 then chkLost e r s else s

/-- The trap that a word meets before it takes any effect: of its memory operation, or of a RESTORE whose frame scratch cannot
give (R387, R390). -/
def wordTrap (e k : Nat) (c : Ctx) (w : Nat) (s : State) : Option (Nat × Nat) :=
  match memTrap e c w s with
  | some t => some t
  | none => if mwFlow w = 7 ∧ scratchHard e (frameAt k) 192 s then some (5, frameAt k) else none

/-- A READY context issues its word (R386). -/
def seqIssue (e k : Nat) (s : State) : State :=
  let c := getCtx e k s
  let w := seqFetch c.routine c.pc s
  let s := modEng e (fun x => { x with last := k, words := x.words + 1 }) s
  let ecc := if c.routine = 0 then 0 else upsetOf memStore c.pc s
  if ecc = 2 then report 160 14 c.pc (le 2 c.pc) (seqTrap e k 1 c.pc s)
  else
    let s := if ecc = 1 then report 161 14 c.pc (le 2 c.pc) (clearUpset memStore c.pc s) else s
    if (mwFlow w = 2 ∧ c.stack.length ≥ 8) ∨ (mwFlow w = 3 ∧ c.stack = []) then seqTrap e k 4 0 s
    else match wordTrap e k c w s with
      | some (cause, info) => seqTrap e k cause info (trapReport e c.routine cause s)
      | none => serveRoutine c.routine (seqFlow e k w (memEffect e k w c (aluStep e k w s)))

/-- The READY context whose turn it is (R382). -/
def nextReady (e : Nat) (s : State) : Option Nat :=
  let x := getEng e s
  ([1, 2, 3, 4].map fun i => (x.last + i) % 4).find? fun k =>
    let c := getCtx e k s
    decide (c.st = .ready) && seqMay c.routine s

/-- An engine issues one microword (R382, R384, R386). -/
def execSeqWord (engine : Nat) (s : State) : Res :=
  within (decide (engine < 8))
    (if fencedU 11 engine s then s
    else match nextReady engine s with
      | none => s
      | some k => seqIssue engine k s)

/-! ### Waits (R389) -/

/-- A wait ends: its condition is true, or its load data return. The ends of a tick and of a period are the row's own
instants. -/
def execWaitEnd (engine ctx : Nat) (s : State) : Res :=
  let c := getCtx engine ctx s
  let d := match c.load with
    | some (r, v) => { (c.setReg r v) with load := none }
    | none => c
  let ends := match d.wait with
    | none => true
    | some w => w.cond == 8 || w.cond == 9 || (seqCond d w.cond (some w.since) s != w.neg)
  let period := match d.wait with
    | some w => w.cond == 9
    | none => false
  within (decide (engine < 8) && decide (ctx < 4))
    (if c.st ≠ .waiting ∨ seqHeld s then s
    else if ends then
      setCtx engine ctx { d with st := .ready, pc := d.resume, wait := none,
                                 periodAt := if period then s.aon else d.periodAt } s
    else setCtx engine ctx d s)

/-- A wait outlasts WAIT_LIMIT: trap cause 2 (R389). Waits on PERIOD, WORK and STOP_REQ have no limit. -/
def execWaitTimeout (engine ctx : Nat) (s : State) : Res :=
  let c := getCtx engine ctx s
  let limited : Bool := match c.wait with
    | none => true
    | some w => !(w.cond == 9 || w.cond == 10 || w.cond == 12)
  within (decide (engine < 8) && decide (ctx < 4))
    (if c.st = .waiting ∧ !seqHeld s ∧ limited ∧ rdFld Reg.seqCtrl 0 16 16 s ≠ 0 then seqTrap engine ctx 2 0 s else s)

/-- The trigger of a routine falls (R395, Table 13.1): it starts, or the trigger is skipped and counted. In WIPE, routine
0 starts on every engine (R384). -/
def triggerRoutine (r : Nat) (s : State) : State :=
  let n := rtEntry r s
  if r = 0 then
    if s.sys.mode = .wipe then
      (List.range 8).foldl (fun s e =>
        if (getCtx e 0 s).st = .free then
          let (v, s) := takeFree s
          beginRun e 0 0 0 v false s
        else s) s
    else s
  else if !rtValid n ∨ !seqMode s.sys.mode then s
  else if !(rtTrigger n == 1 || rtTrigger n == 4 || (rtTrigger n == 2 && seqWork r s)) then s
  else match ctxOf r s with
    | some (e, _) => if rtTrigger n = 1 then modEng e (fun x => { x with skipped := sat 32 (x.skipped + 1) }) s else s
    | none => match freeCtx (rtEngines n) s with
      | none => s
      | some (e, k) =>
        let (v, s) := takeFree s
        beginRun e k r (rtPc n) v false s

/-- The row ROUTINE_TRIGGER. -/
def execRoutineTrigger (routine : Nat) (s : State) : Res := within (decide (routine < 64)) (triggerRoutine routine s)

/-! ### Block operations (R387) -/

/-- The host channel of a routine's transfers (R383). -/
def seqChannel (r : Nat) : Nat := if r = 3 then 1 else if r = 5 then 2 else 3
/-- A channel carries a transfer of the device's own. -/
def seqChanOk (r : Nat) (s : State) : Bool := chanServes (sergeChan (seqChannel r) s) s

/-- The table engine answers a request in the form of Table 7.10: whether it completed with OK. `host` is what the device
reads from a shadow area for SHADOW_CHECK. -/
def tableRequest (bs host : List Byte) (s : State) : Bool × State :=
  let c : Cmd := { opcode := byteAt bs 0, ops := fit 40 (bs.drop 8) }
  let h : HostAns := .data host
  let run := fun (x : State × CmdEnd) => match x with
    | (t, .done r) => (decide (r.status = 0), touch (cmdObjs c s) t)
    | (t, .later) => (true, t)
  match c.opcode with
  | 0x10 => run (emInsertCmd c s)
  | 0x11 => run (emDeleteCmd c s)
  | 0x12 => run (emLookupCmd c s)
  | 0x13 => run (emReadCmd c s)
  | 0x18 => run (lpmAddCmd c s)
  | 0x19 => run (lpmDeleteCmd c s)
  | 0x1A => run (lpmLookupCmd c s)
  | 0x1C => run (tcamWriteCmd c h s)
  | 0x1D => run (tcamReadCmd c s)
  | 0x20 => run (ecmpGroupWriteCmd c s)
  | 0x21 => run (memberWriteCmd c h s)
  | 0x22 => run (nexthopWriteCmd c h s)
  | 0x23 => run (ecmpReadCmd c s)
  | 0x24 => run (shadowCheckCmd c h s)
  | 0x25 => run (tableStatCmd c s)
  | 0x26 => run (classifyWriteCmd c h s)
  | 0x27 => run (endpointWriteCmd c s)
  | _ => (false, s)

/-- Fold a run of counters and give their new central values (R440). -/
def foldRun (kind first n : Nat) (fold : Bool) (s : State) : List Byte × State :=
  (List.range n).foldl (fun (a : List Byte × State) i =>
    let s := if fold then foldCtr kind (first + i) a.2 else meetValue kind (first + i) a.2
    (a.1 ++ le 8 (tget s.tel.ctrs (ctrKey kind (first + i))).value, s)) ([], s)

/-- `n` free bytes. -/
def freeBytes : Nat → State → List Byte × State
  | 0, s => ([], s)
  | n + 1, s =>
    let (v, s) := takeFree s
    let (bs, s) := freeBytes n s
    (byte v :: bs, s)

/-- What BLK_IN brings: the bytes, or an error. -/
def blockIn (r : Nat) (op : BlkOp) (host : List Byte) (e : Nat) (s : State) : Option (List Byte) × State :=
  match op.space with
  | 0 => if scratchHard e op.addr op.len s then (none, report 163 11 e [byte e] s)
         else let s := scratchFix e op.addr op.len s; (some (scratchRead e op.addr op.len s), s)
  | 3 =>
    let (bs, s) := foldRun (fld op.addr 32 4) (fld op.addr 0 32 / 8) (op.len / 8) (bitAt op.addr 36) s
    (some bs, s)
  | 4 | 5 =>
    let (st, bs, s) := bufRead (fld op.addr 32 32) (fld op.addr 0 32) op.len s
    (if st = 0 then some bs else none, s)
  | 6 =>
    let (st, bs, s) := burlapRead op.addr op.len s
    (if st = 0 then some bs else none, s)
  | 7 => if seqChanOk r s then (some (fit op.len host), s) else (none, s)
  | 8 => if chkHard r op.addr op.len s then (none, chkLost e r s) else (some (slice (chkRead r s) op.addr op.len), s)
  | _ =>
    let (bs, s) := freeBytes op.len s
    (some bs, s)

/-- What BLK_OUT does: whether it ended without error. -/
def blockOut (r : Nat) (op : BlkOp) (host : List Byte) (e k : Nat) (s : State) : Bool × State :=
  match op.space with
  | 0 => (true, scratchWrite e op.addr op.data s)
  | 2 =>
    let (ok, s) := if op.data.length < 8 then (false, s) else tableRequest op.data host s
    (true, modCtx e k (fun c => { c with tblDone := true, tblErr := !ok }) s)
  | 3 => (true, (chunks 8 512 op.data).zipIdx.foldl (fun s x =>
      seqStoreCtr (fld op.addr 32 4) (fld op.addr 0 32 / 8 + x.2) (leNat x.1) s) s)
  | 4 | 5 =>
    let (st, s) := bufWrite (fld op.addr 32 32) (fld op.addr 0 32) op.data s
    (decide (st = 0), s)
  | 6 => (true, burlapWrite op.addr op.data s)
  | 7 => if seqChanOk r s then (true, emit (.hostWrite op.addr op.data) s) else (false, s)
  | _ => (true, chkWrite r op.addr op.data s)

/-- The oldest block operation of a context ends (R387); data that routines 2 and 3 read from a shadow area are compared
(R211, R233), and its host errors record FC088. -/
def blockDone (e k : Nat) (res : BlockRes) (s : State) : State :=
  let c := getCtx e k s
  match c.blk with
  | [] => s
  | op :: rest =>
    let s := setCtx e k { c with blk := rest } s
    let close := fun (ok : Bool) (s : State) => modCtx e k (fun c => { c with dmaDone := c.blk.isEmpty, dmaErr := !ok }) s
    let shadow := (c.routine == 2 || c.routine == 3) && op.inward && op.space == 7
    match res with
    | .error =>
      let s := if op.space = 2 then modCtx e k (fun c => { c with tblDone := true, tblErr := true }) s else s
      close false (if shadow then report 88 14 0 (le 8 op.addr) s else s)
    | .ok host =>
      if op.inward then
        match blockIn c.routine op host e s with
        | (none, s) => close false s
        | (some bs, s) =>
          let s := scratchWrite e op.place bs s
          close true (if shadow then serveShadow c.routine op.addr bs s else s)
      else
        let (ok, s) := blockOut c.routine op host e k s
        close ok s

/-- The row BLOCK_OP_DONE. -/
def execBlockOpDone (engine ctx : Nat) (res : BlockRes) (s : State) : Res :=
  within (decide (engine < 8) && decide (ctx < 4)) (if (getCtx engine ctx s).st = .free then s else blockDone engine ctx res s)

/-! ### Store repair, limits (R394, R397, R398) -/

/-- A store block is re-read from the image copy, checked against its CRC and rewritten; the trapped contexts resume
(R394). -/
def execStoreRepair (block : Nat) (s : State) : Res :=
  let copy := secStore s.seq.section5
  let words := (List.range 64).map (64 * block + ·)
  let hurt := words.any fun a => upsetOf memStore a s == 2
  within (decide (block < 256))
    (if !hurt then s
    else if blockCrc copy block ≠ tget s.seq.crc block then report 162 14 block (le 2 block) s
    else
      let s := words.foldl (fun s a =>
        clearUpset memStore a { s with seq := { s.seq with store := tset s.seq.store a (tget copy a) } }) s
      allCtx.foldl (fun s p =>
        let c := getCtx p.1 p.2 s
        if c.st = .trapped ∧ c.repair ∧ c.pc / 64 = block then
          setCtx p.1 p.2 { c with st := .ready, repair := false, savedWait := none, savedLoad := none } s
        else s) s)

/-- A routine has not ended 10 ms after SEQ_STOP: its context is freed and the command completes with STOP_FORCED
(R398). -/
def execStopTimeout (routine : Nat) (s : State) : Res :=
  within (decide (routine < 64))
    (if stopReq routine s then match ctxOf routine s with
      | some (e, k) => endRun e k 2 0x82 s
      | none => s
    else s)

/-- An engine has issued no word for 10 ms with a READY context (FC166). -/
def execNoIssueTimeout (engine : Nat) (s : State) : Res :=
  within (decide (engine < 8))
    (if (nextReady engine s).isSome ∧ !fencedU 11 engine s then report 166 11 engine [byte engine] s else s)

/-! ### Commands (Table 13.10) -/

/-- SEQ_LOAD checks and loads a signed Serge section (R393); FC240, or FC242 for the rollback check (R532). -/
def seqLoadCmd (c : Cmd) (host : HostAns) (s : State) : State × CmdEnd :=
  if c.len = 0 then fail BAD_PARAM s
  else withHost c host s fun b =>
    if !secForm b then fail BAD_PARAM (report 240 0 0 [] s)
    else if !secSigned b s then fail 0x81 (report 240 0 0 [] s)
    else if !rollbackOk (byteAt b 1029) s then fail 0x81 (report 242 0 0 [] s)
    else if !secChecked b then fail BAD_PARAM (report 240 0 0 [] s)
    else okay (loadSection b s)

/-- The command SEQ_LOAD. -/
def execSeqLoad (ref : CmdRef) (host : HostAns) (s : State) : Res := .next (runCmd 0xA0 ref (fun c => seqLoadCmd c host) s)

/-- SEQ_ROUTINE_SET changes ENGINES, TRIGGER and PERIOD_US (R395). -/
def seqRoutineSetCmd (c : Cmd) (s : State) : State × CmdEnd :=
  let r := c.op 0 1
  if r > 63 ∨ c.op 2 1 > 4 ∨ c.len ≠ 0 then fail BAD_PARAM s
  else
    let n := setFld (setFld (setFld (rtEntry r s) 32 8 (c.op 1 1)) 40 8 (c.op 2 1)) 64 32 (c.op 4 4)
    okay { s with seq := { s.seq with table := tset s.seq.table r n } }

/-- The command SEQ_ROUTINE_SET. -/
def execSeqRoutineSet (ref : CmdRef) (s : State) : Res := .next (runCmd 0xA1 ref seqRoutineSetCmd s)

/-- SEQ_RUN triggers a command-only routine with an argument (R395). -/
def seqRunCmd (c : Cmd) (s : State) : State × CmdEnd :=
  let r := c.op 0 1
  let n := rtEntry r s
  if r > 63 ∨ r = 0 ∨ !rtValid n ∨ rtTrigger n ≠ 3 ∨ c.len ≠ 0 then fail BAD_PARAM s
  else if (ctxOf r s).isSome then fail NO_RESOURCE s
  else match freeCtx (rtEngines n) s with
    | none => fail NO_RESOURCE s
    | some (e, k) => okay (beginRun e k r (rtPc n) (c.op 8 8) true s)

/-- The command SEQ_RUN. -/
def execSeqRun (ref : CmdRef) (s : State) : Res := .next (runCmd 0xA2 ref seqRunCmd s)

/-- SEQ_STOP asks a routine to stop, and completes when it ends (R398). -/
def seqStopCmd (c : Cmd) (s : State) : State × CmdEnd :=
  let r := c.op 0 1
  if r > 63 ∨ c.len ≠ 0 then fail BAD_PARAM s
  else if (ctxOf r s).isNone then okay s
  else ({ s with seq := { s.seq with stops := s.seq.stops ++ [(r, c.ref)] } }, .later)

/-- The command SEQ_STOP. -/
def execSeqStop (ref : CmdRef) (s : State) : Res := .next (runCmd 0xA3 ref seqStopCmd s)

/-- SEQ_FRAME_READ copies a context's trap frame. -/
def seqFrameReadCmd (c : Cmd) (s : State) : State × CmdEnd :=
  let e := c.op 0 1
  let k := c.op 1 1
  if e > 7 ∨ k > 3 ∨ c.len ≠ 192 then fail BAD_PARAM s
  else if scratchHard e (frameAt k) 192 s then fail TARGET_ECC (report 163 11 e [byte e] s)
  else
    let s := scratchFix e (frameAt k) 192 s
    okayData (scratchRead e (frameAt k) 192 s) s

/-- The command SEQ_FRAME_READ. -/
def execSeqFrameRead (ref : CmdRef) (s : State) : Res := .next (runCmd 0xA4 ref seqFrameReadCmd s)

/-- SEQ_RESUME resumes or ends a TRAPPED context (R391); 0x80 NOT_TRAPPED. -/
def seqResumeCmd (c : Cmd) (s : State) : State × CmdEnd :=
  let e := c.op 0 1
  let k := c.op 1 1
  let how := c.op 2 1
  if e > 7 ∨ k > 3 ∨ how > 2 ∨ c.len ≠ 0 then fail BAD_PARAM s
  else if (getCtx e k s).st ≠ .trapped then fail 0x80 s
  else if how < 2 ∧ scratchHard e (frameAt k) 192 s then fail TARGET_ECC (report 163 11 e [byte e] s)
  else if how = 0 then okay (restoreFrame e k s)
  else if how = 1 then okay (resumePast e k s)
  else okay (endRun e k (b2n (stopReq (getCtx e k s).routine s)) 0 s)

/-- The command SEQ_RESUME. -/
def execSeqResume (ref : CmdRef) (s : State) : Res := .next (runCmd 0xA5 ref seqResumeCmd s)

/-- SEQ_STORE_READ copies store words; an uncorrectable word ends it with TARGET_ECC and FC160. -/
def seqStoreReadCmd (c : Cmd) (s : State) : State × CmdEnd :=
  let first := c.op 0 2
  let n := c.op 2 2
  if n < 1 ∨ first + n > 16384 ∨ c.len ≠ 16 * n then fail BAD_PARAM s
  else if (List.range n).any fun i => upsetOf memStore (first + i) s == 2 then fail TARGET_ECC (report 160 14 first (le 2 first) s)
  else
    let soft := (List.range n).filter fun i => upsetOf memStore (first + i) s == 1
    let s := soft.foldl (fun s i => report 161 14 (first + i) (le 2 (first + i)) (clearUpset memStore (first + i) s)) s
    okayData ((List.range n).flatMap fun i => le 16 (tget s.seq.store (first + i))) s

/-- The command SEQ_STORE_READ. -/
def execSeqStoreRead (ref : CmdRef) (s : State) : Res := .next (runCmd 0xA6 ref seqStoreReadCmd s)

end Sys2Proof.Machine
end

