-- ==== Sys2Proof/Machine/Boot.lean ====
section
/-! DEFINITION. Power-up, reset, wipe, boot, operating modes and the life cycle (19_modes_and_boot.md), the pins of
20_package_and_electrical.md that change them, and the test access port. -/
namespace Sys2Proof.Machine

/-! ### Geirov images (R531, R532) -/

def imgTotal (b : List Byte) : Nat := leAt b 8 4
def imgVersion (b : List Byte) : Nat := leAt b 12 4
def imgSecurity (b : List Byte) : Nat := byteAt b 16
def imgSlot (b : List Byte) : Nat := byteAt b 17

/-- OFFSET and LENGTH of the section of a type. -/
def imgEntry (b : List Byte) (ty : Nat) : Option (Nat × Nat) :=
  (((List.range 5).map fun i => slice b (256 + 16 * i) 16).find? fun e => byteAt e 0 == ty).map fun e => (leAt e 4 4, leAt e 8 4)

/-- A section's bytes. -/
def imgSection (b : List Byte) (ty : Nat) : List Byte :=
  match imgEntry b ty with
  | some (o, n) => slice b o n
  | none => []

/-- Lengths of the sections of types 1 to 4 (Table 19.7). -/
def sectionLen (ty : Nat) : Nat := if ty = 1 then 131072 else if ty = 2 then 4096 else if ty = 3 then 16384 else 2048

/-- Form of an image (Tables 19.6 and 19.7): header, directory, sections that do not meet, signature block. -/
def imageForm (b : List Byte) : Bool :=
  let n := imgTotal b
  let es := (List.range 5).filterMap fun i => imgEntry b (i + 1)
  decide (leAt b 0 4 = 0x56524547) && decide (leAt b 4 2 = 1) && decide (leAt b 6 2 = 5) &&
  decide (464 ≤ n ∧ n ≤ 4194304 ∧ n ≤ b.length) && decide (imgSecurity b ≤ 64) && decide (imgSlot b ≤ 3) &&
  decide (es.length = 5) &&
  (es.all fun e => decide (e.1 % 64 = 0) && decide (336 ≤ e.1) && decide (e.1 + e.2 ≤ n - 128)) &&
  ((List.range 5).all fun i => (List.range i).all fun j =>
    !overlap (es.getD i (0, 0)).1 (es.getD i (0, 0)).2 (es.getD j (0, 0)).1 (es.getD j (0, 0)).2) &&
  ((List.range 4).all fun i => decide ((es.getD i (0, 0)).2 = sectionLen (i + 1))) &&
  secForm (imgSection b 5) && allZero (slice b (n - 32) 32)

/-- The image's key and signature (R532). -/
def imageSigned (b : List Byte) (s : State) : Bool :=
  let n := imgTotal b
  let key := slice b 32 96
  keyOk (imgSlot b) key s && Config.ecdsaOk key (Config.sha384 (b.take (n - 128))) (slice b (n - 128) 96)

/-- A parse microword that the image check lets stand (R178). -/
def microwordOk (w : Nat) : Bool :=
  let ext := fun (lo : Nat) =>
    let len := fld w (lo + 8) 5
    decide (len ≤ 16) && decide (fld w (lo + 13) 7 + len ≤ 128)
  ext 160 && ext 180 && !(fld w 230 4 == 15 && bitAt w 234) &&
  !(bitAt w 245 && [9, 10, 11, 15].contains (fld w 241 4)) && !bitAt w 15 && decide (fld w 252 4 = 0)

/-- Width of an operation target (Table 8.2). -/
def targetWidth (t : Nat) : Nat := ([0, 10, 14, 18, 16, 7, 16, 24, 32, 3, 2, 8, 16, 20, 2, 0]).getD t 0

/-- An action profile that the image check lets stand (R242). -/
def actionOk (r : Nat) : Bool :=
  decide (fld r 3 5 = 0) && decide (fld r 104 24 = 0) && (List.range 6).all fun i =>
    let op := fld r (8 + 16 * i) 16
    let t := fld op 0 4
    decide (fld op 10 6 = 0) && decide (t ≠ 15) && (decide (t = 0) || decide (fld op 4 6 + targetWidth t ≤ 56))

/-- An edit operation word that the image check lets stand (Table 8.5, R532). -/
def editWordOk (w : Nat) : Bool :=
  let op := fld w 0 4
  decide (op < 10) && (!(op == 1 || op == 2) || decide (fld w 24 8 + fld w 16 8 ≤ 128))

/-- A layout record that the image check lets stand (R532, Table 19.8). -/
def layoutRecOk (r : Nat) : Bool :=
  let rng : Nat → Nat → List (Nat × Nat) := fun o n => (List.range n).map fun i => (fld r (8 * (o + 2 * i)) 8, fld r (8 * (o + 2 * i + 1)) 8)
  let sum : List (Nat × Nat) → Nat := fun l => l.foldl (fun a e => a + e.2) 0
  let inside := fun (l : List (Nat × Nat)) => l.all fun e => decide (e.1 + e.2 ≤ 128)
  let w := fld r 24 8
  let f := fld r 48 8
  decide (sum (rng 8 4) ≤ 22) && decide (sum (rng 16 4) ≤ 22) && decide (sum (rng 24 8) ≤ (if w = 2 then 40 else 20)) &&
  inside (rng 8 4) && inside (rng 16 4) && inside (rng 24 8) && decide (fld r 32 8 + 2 ≤ 128) &&
  (!bitAt r 2 || ((f == 4 || f == 6) && decide (fld r 40 8 + (if f = 6 then 16 else 4) ≤ 128))) &&
  (!bitAt r 3 || w == 1 || w == 2)

/-- Records of `k` bytes of a section, as numbers. -/
def sectionRecs (b : List Byte) (k n : Nat) : List Nat := (List.range n).map fun i => leAt b (k * i) k

/-- The checks on what the sections hold (R178, R242, R393, R532). -/
def imageContents (b : List Byte) : Bool :=
  (sectionRecs (imgSection b 1) 32 4096).all microwordOk && (sectionRecs (imgSection b 2) 16 256).all actionOk &&
  (sectionRecs (imgSection b 3) 4 4096).all editWordOk && allZero ((imgSection b 3).take 64) &&
  (sectionRecs (imgSection b 4) 64 32).all layoutRecOk && secChecked (imgSection b 5)

/-- The check of an image: none, or the class that its refusal records (R532). -/
def imageFault (b : List Byte) (s : State) : Option Nat :=
  if !imageForm b || !imageSigned b s then some 240
  else if !rollbackOk (imgSecurity b) s then some 242
  else if !imageContents b then some 240
  else none

/-- A list of records as a table. -/
def recTab (l : List Nat) : Tab Nat := ((List.range l.length).zip l).filter fun e => decide (e.2 ≠ 0)

/-- BOOT loads every store from an accepted image and the device enters STAGED (R175, R530, R532). -/
def loadImage (slot : Nat) (fromHost : Bool) (b : List Byte) (s : State) : State :=
  let s := loadSection (imgSection b 5) s
  railFollow s { s with
    pip := { s.pip with store := recTab (sectionRecs (imgSection b 1) 32 4096), profiles := recTab (sectionRecs (imgSection b 2) 16 256)
                        templates := recTab (sectionRecs (imgSection b 3) 4 4096)
                        layouts := recTab (sectionRecs (imgSection b 4) 64 32), loaded := true }
    upset := s.upset.filter fun e => !(e.1 % 64 == memParse || e.1 % 64 == memProfile || e.1 % 64 == memTemplate)
    sys := { s.sys with mode := .staged, imageSlot := slot, hostImage := fromHost, imageVersion := imgVersion b
                        secVersion := imgSecurity b, keySlot := imgSlot b, image := b.take (imgTotal b)
                        hostWait := false, bootBusy := false, bootErr := false } }

/-- BOOT_SRC (Table 19.5). -/
def bootSrc (s : State) : Nat := s.sys.straps % 4

/-- The flash slots in the order in which BOOT takes them, with what they hold (Table 19.5): slot B alone under BOOT_SRC 3, else
the higher IMAGE_VERSION first, and slot A where both are equal. -/
def bootOrder (slotA slotB : List Byte) (s : State) : List (Nat × List Byte) :=
  if bootSrc s = 3 then [(1, slotB)]
  else if imgVersion slotA < imgVersion slotB then [(1, slotB), (0, slotA)] else [(0, slotA), (1, slotB)]

/-- The first acceptable image of a list of slots is loaded; each one refused before it is recorded (R529, R532). -/
def bootFrom : List (Nat × List Byte) → State → State
  | [], s => s
  | (k, image) :: r, s => match imageFault image s with
    | none => loadImage k false image s
    | some c => bootFrom r (report c 0 0 (le 8 k) s)

/-- BOOT has read the flash: the device loads the stores from the first acceptable slot and enters STAGED (R529, R532). -/
def execBootImageAccepted (slotA slotB : List Byte) (s : State) : Res :=
  .next (if s.sys.mode ≠ .boot ∨ s.sys.hostWait ∨ s.sys.bootBusy ∨ bootSrc s = 1 then s
    else bootFrom (bootOrder slotA slotB s) s)

/-- No flash slot held an acceptable image: FC241, and the device waits for the host (R529). -/
def execNoAcceptableImage (s : State) : Res :=
  .next (if s.sys.mode = .boot ∧ !s.sys.hostWait ∧ bootSrc s ≠ 1 then
    report 241 0 0 [] { s with sys := { s.sys with hostWait := true } } else s)

/-- A write of SYS_HOST_BOOT_CTRL: LEN, and GO while the device waits for the host (R530, Table 19.15). -/
def writeHostBoot (v : Nat) (s : State) : State :=
  let s := wrRw Reg.sysHostBootCtrl 0 v s
  if bitAt v 24 ∧ s.sys.mode = .boot ∧ s.sys.hostWait ∧ !s.sys.bootBusy then
    { s with sys := { s.sys with bootBusy := true, bootErr := false } }
  else s

/-- The row HOST_BOOT_GO. -/
def execHostBootGo (value : Word) (s : State) : Res := .next (if s.sys.mode = .lockdown then s else fromWipe s (writeHostBoot value.toNat s))

/-- A fetched host image is checked (R530): the device enters STAGED, or sets ERR and waits on. -/
def execHostImageChecked (image : List Byte) (s : State) : Res :=
  let n := rdFld Reg.sysHostBootCtrl 0 0 23 s
  let b := image.take n
  .next (if s.sys.mode ≠ .boot ∨ !s.sys.bootBusy then s
    else match (if n > 4194304 then some 240 else imageFault b s) with
      | none => loadImage 0 true b s
      | some c => report c 0 0 [] { s with sys := { s.sys with bootBusy := false, bootErr := true } })

/-! ### Power, RESET_N and WIPE (Table 19.2, R525, R528, R548) -/

/-- VDD_AON becomes good: RESET, and the fuses load (Table 19.2). -/
def execVddAonGood (fuseError : Bool) (s : State) : Res :=
  .next (if s.sys.mode ≠ .off then s
    else
      let n := freshState s
      { n with sys := { n.sys with mode := .reset, fuseError := fuseError } })

/-- VDD_AON is lost: OFF (Table 19.2). THERMTRIP_N is no longer driven. -/
def execVddAonLost (s : State) : Res :=
  .next (if s.sys.mode = .off then s
    else
      let s := lanesStop s
      let n := freshState (if s.sys.thermtrip then emit (.thermtrip false) s else s)
      { n with sys := { n.sys with mode := .off }, pwr := { doms := (0, { st := .off }) :: heldDoms } })

/-- VDD_AON (0) or a VDD_CORE rail (1 to 4) falls to its reset level (Table 20.7). -/
def execRailResetLevel (rail : Nat) (s : State) : Res := within (decide (rail < 5)) (doReset 4 s)

/-- RESET_N is low for at least 1 µs (R525, R548). -/
def execResetNAssert (s : State) : Res := .next (doReset 1 { s with sys := { s.sys with resetN := true } })

/-- Every memory channel starts its initial training (R408). -/
def startTraining (s : State) : State :=
  (List.range 32).foldl (fun s ch => modMChan ch (fun c => { c with st := .training }) s) s

/-- RESET_N is high. With good rails and clocks the device samples its straps, powers its domains up and enters WIPE; a fuse
error takes it to LOCKDOWN with FC244 (Table 19.2, R33, R529, R548). -/
def execResetNRelease (straps : Nat) (good : Bool) (s : State) : Res :=
  let t := { s with sys := { s.sys with resetN := false } }
  .next (if s.sys.mode ≠ .reset then t
    else if s.sys.fuseError then enterLockdown (report 244 0 0 [] t)
    else if !good then t
    else startTraining (powerAll { t with sys := { t.sys with straps := straps % 16, mode := .wipe } }))

/-- Contexts of the wipe-assist routine end with WIPE. -/
def endWipeRuns (s : State) : State :=
  allCtx.foldl (fun s p => if (getCtx p.1 p.2 s).routine = 0 then setCtx p.1 p.2 {} s else s) s

/-- The read-back of WIPE: a granule that is not zero records FC178 and its channel is fenced (R416), a non-zero word of an on-die
memory records FC243 against the memory's owner (R528). -/
def wipeReadBack (f : WipeFound) (s : State) : State :=
  let s := (f.granules.filter fun g => decide (65536 * g < usable s)).foldl (fun s g =>
    let ch := chanOfAddr (65536 * g) s
    fenceNow 9 ch 0 (some 178) (report 178 9 ch (le 8 (65536 * g)) s)) s
  f.units.foldl (fun s u => report 243 u.1 u.2 (le 8 u.2) s) s

/-- The on-die and the LPDDR5X wipe have ended, which they do after training (R416, R528): BOOT, or DIAG in RETIRED. A grant
carried across a reset of kind 6 opens debug (R535). -/
def wipeComplete (f : WipeFound) (s : State) : State :=
  if s.sys.mode ≠ .wipe ∨ (List.range 32).any (fun ch => decide ((getMChan ch s).st = .training)) then s
  else
    let s := endWipeRuns (wipeReadBack f s)
    let s := { s with
      mem := { s.mem with burlap := [], lostGran := [] }
      upset := []
      seq := { s.seq with scratch := [] }
      sys := { s.sys with debug := s.sys.debug ||| s.sys.grantAcross, grantAcross := 0 } }
    railFollow s { s with sys := { s.sys with
        mode := if s.sys.lifecycle = .retired then .diag else .boot
        hostWait := decide (s.sys.lifecycle ≠ .retired) && bootSrc s == 1 } }

/-- The row WIPE_COMPLETE. -/
def execWipeComplete (found : WipeFound) (s : State) : Res :=
  within (found.units.all fun u => decide (u.1 < 15) && decide (u.2 < 65536)) (wipeComplete found s)

/-- A thermal sensor reaches 115 °C: THERMTRIP_N, FC227 and LOCKDOWN (R481, R557). -/
def execThermalTrip (sensor : Nat) (s : State) : Res :=
  within (decide (sensor < 32))
    (if s.sys.mode = .off then s
    else
      let s := if s.sys.thermtrip then s else emit (.thermtrip true) { s with sys := { s.sys with thermtrip := true } }
      enterLockdown (report 227 14 sensor (le 8 sensor) s))

/-! ### MODE_SET and DRAIN (R520, R521) -/

/-- Every queue is empty: no packet and no spill block. -/
def allQueuesEmpty (s : State) : Bool := s.buf.queues.all fun e => e.2.pkts.isEmpty && e.2.blocks.isEmpty

/-- DRAIN ends in STAGED, and MODE_SET completes. -/
def endDrainMode (cause : Nat) (s : State) : State :=
  let w := s.sys.modeWait
  let s := setMode .staged cause { s with sys := { s.sys with modeWait := none } }
  match w with
  | none => s
  | some (ref, _) => finishRef ref {} s

/-- Every queue is empty in DRAIN (R521). -/
def execDrainEnd (s : State) : Res := .next (if s.sys.mode = .drain ∧ allQueuesEmpty s then endDrainMode 0 s else s)

/-- DRAIN_LIMIT has passed since the entry to DRAIN: the queues that still hold packets are flushed (R521). -/
def execDrainLimit (s : State) : Res :=
  .next (if s.sys.mode = .drain then
    endDrainMode 3 ((s.buf.queues.map fun e => e.1).foldl (fun s q => flushQueue q 7 6 s) s) else s)

/-- Every port is DISABLED or SLEEP. -/
def portsIdle (s : State) : Bool := s.mac.ports.all fun e => decide (e.2.st = .disabled) || decide (e.2.st = .sleep)

/-- The life cycle allows DIAG (Table 19.9): in FIELD after an unlock with scope DIAG. -/
def diagAllowed (s : State) : Bool :=
  match s.sys.lifecycle with
  | .blank | .provisioned => true
  | .field => bitAt s.sys.debug 1
  | .retired => false

/-- MODE_SET (Tables 19.2 and 19.13): 0x80 BAD_TRANSITION, 0x81 JOBS_ACTIVE. -/
def modeSetCmd (c : Cmd) (s : State) : State × CmdEnd :=
  let m := c.op 0 1
  let cur := s.sys.mode
  if c.len ≠ 0 ∨ !(m == 4 || m == 5 || m == 7 || m == 8 || m == 11) then fail BAD_PARAM s
  else if m = cur.num ∨ (m = 5 ∧ cur = .degraded) then okay s
  else if m = 5 ∧ cur = .staged then okay (setMode (if anyFenced s then .degraded else .forward) 0 s)
  else if m = 7 ∧ (cur = .forward ∨ cur = .degraded) then
    if s.col.jobs.any fun e => e.2.st != .free then fail 0x81 s
    else
      let t := setMode .drain 0 s
      ({ t with sys := { t.sys with modeWait := some (c.ref, .staged) } }, .later)
  else if m = 8 ∧ cur = .staged ∧ portsIdle s then okay (dozeMem (allToZero (setMode .doze 0 s)))
  else if m = 4 ∧ cur = .doze then okay (undozeMem (setMode .staged 0 s))
  else if m = 11 ∧ cur = .staged ∧ diagAllowed s then okay (setMode .diag 0 s)
  else fail 0x80 s

/-- The row MODE_SET. -/
def execModeSet (ref : CmdRef) (s : State) : Res := .next (runCmd 0xB0 ref modeSetCmd s)

/-! ### Resets by command and the life cycle (R533, R534, R537) -/

/-- SYS_RESET resets the device and posts no completion. -/
def sysResetCmd (c : Cmd) (s : State) : State × CmdEnd :=
  if c.len ≠ 0 ∨ c.op 0 1 ≠ 0x5A then fail BAD_PARAM s else (doReset 3 s, .later)

/-- The row SYS_RESET. -/
def execSysReset (ref : CmdRef) (s : State) : Res := .next (runCmd 0xB1 ref sysResetCmd s)

def LC_FORBIDS : Nat := 0x82

def LifeCycle.code : LifeCycle → Nat
  | .blank => 0 | .provisioned => 1 | .field => 2 | .retired => 3

/-- LC_ADVANCE moves the life cycle one way and resets the device (R534). -/
def lcAdvanceCmd (c : Cmd) (host : HostAns) (s : State) : State × CmdEnd :=
  let t := c.op 0 1
  let k := c.op 1 1
  let fuse := fun (f : SysState → SysState) (s : State) => (doReset 5 { s with sys := f s.sys }, CmdEnd.later)
  if t < 1 ∨ t > 3 ∨ (t = 1 ∧ (k < 1 ∨ k > 3)) ∨ c.len ≠ (if t = 1 then 48 * k else 0) then fail BAD_PARAM s
  else if s.sys.mode ≠ .staged then fail LC_FORBIDS s
  else if t = 1 ∧ s.sys.lifecycle = .blank then
    withHost c host s fun b => fuse (fun y => { y with
      lifecycle := .provisioned, revoked := y.revoked ||| 1
      keyHash := (List.range k).foldl (fun h i => tset h (i + 1) (slice b (48 * i) 48)) y.keyHash }) s
  else if t = 2 ∧ s.sys.lifecycle = .provisioned ∧ 1 ≤ s.sys.keySlot then fuse (fun y => { y with lifecycle := .field }) s
  else if t = 3 ∧ s.sys.lifecycle ≠ .retired then fuse (fun y => { y with lifecycle := .retired }) s
  else fail LC_FORBIDS s

/-- The row LC_ADVANCE. -/
def execLcAdvance (ref : CmdRef) (host : HostAns) (s : State) : Res := .next (runCmd 0xB2 ref (fun c => lcAdvanceCmd c host) s)

/-- ROLLBACK_ADVANCE raises the rollback counter to the active image's SECURITY_VERSION (R533). -/
def rollbackAdvanceCmd (c : Cmd) (s : State) : State × CmdEnd :=
  let n := max s.sys.rollback s.sys.secVersion
  if c.len ≠ 0 then fail BAD_PARAM s else okayWith [byte n] { s with sys := { s.sys with rollback := n } }

/-- The row ROLLBACK_ADVANCE. -/
def execRollbackAdvance (ref : CmdRef) (s : State) : Res := .next (runCmd 0xB3 ref rollbackAdvanceCmd s)

/-- DEBUG_CHALLENGE writes a fresh nonce and the device ID (R535). -/
def debugChallengeCmd (c : Cmd) (s : State) : State × CmdEnd :=
  if c.len ≠ 64 ∨ c.op 0 1 > 3 then fail BAD_PARAM s
  else
    let (n, s) := (List.range 6).foldl (fun (a : List Byte × State) _ =>
      let (v, t) := takeFree a.2
      (a.1 ++ le 8 v, t)) ([], s)
    okayData (n ++ fit 16 Config.deviceId) { s with sys := { s.sys with nonce := some { bytes := n, scope := c.op 0 1 } } }

/-- The row DEBUG_CHALLENGE. -/
def execDebugChallenge (ref : CmdRef) (s : State) : Res := .next (runCmd 0xB4 ref debugChallengeCmd s)

/-- The response to a challenge verifies (R535). -/
def unlockOk (b nonce : List Byte) (slot scope : Nat) (s : State) : Bool :=
  let key := slice b 0 96
  keyOk slot key s && Config.ecdsaOk key (Config.sha384 (nonce ++ fit 16 Config.deviceId ++ [byte scope])) (slice b 96 96)

/-- DEBUG_UNLOCK (R535): 0x83 SIG_FAIL, 0x84 NONCE_STALE, 0x85 LOCKED_OUT. In FIELD a grant resets the device with kind 6,
after the completion. -/
def debugUnlockCmd (c : Cmd) (host : HostAns) (s : State) : State × CmdEnd :=
  let scope := c.op 0 1
  let slot := c.op 1 1
  if c.len ≠ 192 ∨ scope > 3 ∨ slot > 3 ∨ (slot = 0 ∧ s.sys.lifecycle ≠ .blank) then fail BAD_PARAM s
  else if s.sys.unlockFails ≥ 8 then fail 0x85 s
  else match s.sys.nonce with
    | none => fail 0x84 s
    | some n => withHost c host s fun b =>
      let s := { s with sys := { s.sys with nonce := none } }
      if !unlockOk b n.bytes slot scope s then
        fail 0x83 (post 0xB001 [byte scope, 0] (report 245 0 0 [byte scope, 0]
          { s with sys := { s.sys with unlockFails := s.sys.unlockFails + 1 } }))
      else
        let s := post 0xB001 [byte scope, 1] s
        if s.sys.lifecycle = .field then
          let s := finish c {} 192 0 s
          (doReset 6 { s with sys := { s.sys with grantAcross := scope } }, .later)
        else okay { s with sys := { s.sys with debug := s.sys.debug ||| scope } }

/-- The row DEBUG_UNLOCK. -/
def execDebugUnlock (ref : CmdRef) (host : HostAns) (s : State) : Res := .next (runCmd 0xB5 ref (fun c => debugUnlockCmd c host) s)

/-- A debug nonce expires 60 s after its issue (R535). -/
def execNonceExpiry (s : State) : Res := .next { s with sys := { s.sys with nonce := none } }

/-- FLASH_WRITE erases and programs a flash slot (R537): 0x86 ACTIVE_SLOT, 0x88 FLASH_ERR. -/
def flashWriteCmd (c : Cmd) (host : HostAns) (flashOk : Bool) (s : State) : State × CmdEnd :=
  let slot := c.op 0 1
  let off := c.op 4 4
  if slot > 1 ∨ off % 65536 ≠ 0 ∨ c.len % 65536 ≠ 0 ∨ off + c.len > 4194304 then fail BAD_PARAM s
  else if s.sys.image ≠ [] ∧ !s.sys.hostImage ∧ s.sys.imageSlot = slot then fail 0x86 s
  else withHost c host s fun b => if flashOk then okay (emit (.flash slot off b) s) else fail 0x88 s

/-- The row FLASH_WRITE. -/
def execFlashWrite (ref : CmdRef) (host : HostAns) (flashOk : Bool) (s : State) : Res :=
  .next (runCmd 0xB6 ref (fun c => flashWriteCmd c host flashOk) s)

/-- KEY_REVOKE revokes slot 1, 2 or 3 (R534): 0x87 LAST_KEY. -/
def keyRevokeCmd (c : Cmd) (s : State) : State × CmdEnd :=
  let k := c.op 0 1
  if c.len ≠ 0 ∨ k < 1 ∨ k > 3 then fail BAD_PARAM s
  else if !((List.range 4).any fun i => decide (i ≠ k) && slotAllowed i s) ∨ (s.sys.image ≠ [] ∧ s.sys.keySlot = k) then fail 0x87 s
  else okay { s with sys := { s.sys with revoked := s.sys.revoked ||| 2 ^ k } }

/-- The row KEY_REVOKE. -/
def execKeyRevoke (ref : CmdRef) (s : State) : Res := .next (runCmd 0xB7 ref keyRevokeCmd s)

/-! ### The test access port (R99, R534, R553) -/

/-- The life-cycle state opens private instructions (Table 19.9), LOCKDOWN closes them (R523). -/
def jtagOpen (s : State) : Bool :=
  decide (s.sys.mode ≠ .lockdown) && (match s.sys.lifecycle with
    | .blank | .retired => true
    | _ => bitAt s.sys.debug 0)

/-- A private instruction (Table 20.12). -/
def tapPrivate (code : Nat) : Bool := decide (0x80 ≤ code ∧ code ≤ 0xFE)

/-- What the TAP's instruction acts as now: the instructions that drive balls act only in RESET or DIAG, private ones only
where debug is open, and every other code as BYPASS. -/
def tapActs (s : State) : Nat :=
  let i := s.sys.tapIr
  if i = 0x01 ∨ i = 0x02 then i
  else if i = 0 ∨ (3 ≤ i ∧ i ≤ 6) then (if s.sys.mode = .reset ∨ s.sys.mode = .diag then i else 0xFF)
  else if tapPrivate i ∧ jtagOpen s then i
  else 0xFF

/-- Number of cells of the boundary register (R554). -/
def cellCount : Nat := 2107

/-- What a boundary cell belongs to (R554): a lane, a PCIe lane, or a ball of row 82 by its column. -/
inductive CellOf where
  | lane (n : Nat) (tx : Bool)
  | pcie (n : Nat) (tx : Bool)
  | ball (column : Nat)
deriving DecidableEq, Repr

/-- The cells in the order of the register (R554): the lanes and the PCIe lanes, transmitter before receiver, then balls 82-3 to
82-31 and 82-37 to 82-50. -/
def cellOf (k : Nat) : CellOf :=
  if k < 2048 then .lane (k / 2) (k % 2 == 0)
  else if k < 2064 then .pcie ((k - 2048) / 2) (k % 2 == 0)
  else if k < 2093 then .ball (k - 2061)
  else .ball (k - 2056)

/-- The columns of row 82 whose balls the device can drive (Tables 20.4 and 20.10): I3C, PMBus, AVSBus clock and data out, flash,
ALIVE_OUT, THERMTRIP_N, PPS_OUT0, PPS_OUT1 and TOD_OUT. -/
def ballDrives (c : Nat) : Bool :=
  decide (10 ≤ c ∧ c ≤ 13) || (decide (14 ≤ c ∧ c ≤ 25) && decide ((c - 14) % 3 ≠ 2)) || decide (26 ≤ c ∧ c ≤ 31) ||
    [37, 40, 42, 43, 46].contains c

/-- A cell can drive what it belongs to. -/
def cellDrives (k : Nat) : Bool :=
  match cellOf k with
  | .lane _ tx => tx
  | .pcie _ tx => tx
  | .ball c => ballDrives c

/-- A lane or PCIe lane, which the 1149.6 instructions act on (R99). -/
def cellAc (k : Nat) : Bool := decide (k < 2064)

/-- What the boundary register drives under the instruction in force (R99, R553): EXTEST and CLAMP every enabled cell that can
drive, EXTEST_PULSE and EXTEST_TRAIN too, HIGHZ none. -/
def drivenCells (s : State) : List (Nat × Bool) :=
  if tapActs s = 3 then []
  else (List.range cellCount).filterMap fun k =>
    let c := tget s.sys.boundaryLatch k
    if c.enable && cellDrives k then some (k, c.value) else none

/-- The instruction in force drives the balls (R553). -/
def tapDrives (s : State) : Bool := decide (tapActs s = 0 ∨ (3 ≤ tapActs s ∧ tapActs s ≤ 6))
def driveBalls (s : State) : State := if tapDrives s then emit (.boundary (tapActs s) (drivenCells s)) s else s

/-- The instruction in force selects the boundary register (Table 20.12). -/
def boundarySelected (s : State) : Bool := [0, 2, 5, 6].contains (tapActs s)

/-- The boundary register captures its balls: each cell its level, with its enable as it stands. -/
def captureCells (pins : List Bool) (s : State) : List ScanCell :=
  (List.range cellCount).map fun k => { value := pins.getD k false, enable := (tget s.sys.boundaryLatch k).enable }

/-- A register as a list, cell nearest TDO first, shifted once for each cell that enters at TDI: what leaves at TDO, in order,
and the register after it (R554). -/
def shiftCells (r tdi : List ScanCell) : List ScanCell × List ScanCell :=
  ((r ++ tdi).take tdi.length, (r ++ tdi).drop tdi.length)

/-- A table of the cells of a list. -/
def cellTab (r : List ScanCell) : Tab ScanCell :=
  ((List.range r.length).zip r).filter fun e => decide (e.2 ≠ {})

/-- IDCODE (R553). -/
def IDCODE : Nat := 0x12048DCB
/-- Bits of a number as cells without enable, bit 0 first. -/
def idCells : List ScanCell := (List.range 32).map fun i => { value := IDCODE.testBit i }

/-- A pass through the selected register (R553, R554): capture, shift, update. A register of a private instruction is Ommepor's,
of which the spec says nothing: nothing leaves. -/
def tapPass (x : TapScan) (s : State) : State :=
  if x.tdi = [] then s
  else if boundarySelected s then
    let r := shiftCells (captureCells x.pins s) x.tdi
    let t := emit (.tdo r.1) { s with sys := { s.sys with boundary := cellTab r.2, boundaryLatch := cellTab r.2 } }
    driveBalls t
  else if tapActs s = 1 then emit (.tdo (shiftCells idCells x.tdi).1) s
  else if tapPrivate (tapActs s) then s
  else emit (.tdo (shiftCells [{}] x.tdi).1) s

/-- An instruction is loaded into the TAP and a pass through its register follows (R553): a private one that is not allowed acts as
BYPASS and records FC246. -/
def execTapInstruction (code : Byte) (scan : TapScan) (s : State) : Res :=
  .next (if s.sys.mode = .off then s
    else tapPass scan (driveBalls (if tapPrivate code.toNat ∧ !jtagOpen s then
      report 246 0 0 (le 8 code.toNat) { s with sys := { s.sys with tapIr := 0xFF } }
    else { s with sys := { s.sys with tapIr := code.toNat } })))

end Sys2Proof.Machine
end

