-- ==== Sys2Proof/Machine/Collective.lean ====
section
/-! DEFINITION. The rows of the collective engine: received messages, timers, epochs, step changes, moves and commands
(11.4 to 11.12). -/
namespace Sys2Proof.Machine

/-- The message at the head of a cluster's queue is of this type: it is taken, checked again, and handled; a message that
now fails a check is discarded and counted (R328). CONTRIB, RESEND and RESULT_REQ read the staging of their slot. `ready` says whether the cluster can take it now. -/
def takeMsg (k typ : Nat) (ready : CPkt → State → Bool) (body : CPkt → State → State) (s : State) : State :=
  let c := getCluster k s
  match c.q with
  | [] => s
  | p :: rest =>
    if byteAt p.hdr 0 % 16 ≠ typ then s
    else
      let t := setCluster k { c with q := rest } s
      match recvCheck p s with
      | some n => countJob p.job n 1 t
      | none => if ready p s then body p (if typ = 1 ∨ typ = 3 ∨ typ = 4 then meetStaging p.job (beAt p.hdr 8 4) t else t) else s

def always (_ : CPkt) (_ : State) : Bool := true
def CPkt.arg (p : CPkt) : Nat := byteAt p.hdr 21 % 8
def CPkt.epoch (p : CPkt) : Nat := beAt p.hdr 24 4
def CPkt.strag (p : CPkt) : Bool := bitAt (byteAt p.hdr 1) 3

/-- A child's STRAGGLER state (R355): set by any flagged packet, cleared by the clearing STRAGGLER. -/
def markChild (j i : Nat) (on : Bool) (step : Nat) (s : State) : State :=
  let x := getJob j s
  if bitAt x.strag i = on then s
  else post 0x4001 ([byte j, byte (b2n on), byte step, 0] ++ le 2 i)
    (setJob j { x with strag := if on then x.strag ||| 2 ^ i else x.strag ^^^ 2 ^ i } s)
def flagChild (p : CPkt) (s : State) : State :=
  if p.strag then markChild p.job p.index true (byteAt p.hdr 3 % 8) s else s

/-! ### CONTRIB (R333) -/

/-- A slot of the cluster whose last bit is set waits in Burlap; it is served before a new slot opens (R347). -/
def restoreDue (k : Nat) (s : State) : Bool :=
  s.col.jobs.any fun e => e.2.cluster == k && e.2.runs && e.2.slots.any fun a => a.2.st == .spilled && a.2.bits == e.2.all

/-- The cluster can take a contribution now: it is not changing its step, and a slot that must open does not have to wait
for restores (R347, R351). -/
def contribReady (k : Nat) (p : CPkt) (s : State) : Bool :=
  (getCluster k s).changing.isNone && !((getSlot p.job p.chunk s).st == .free && restoreDue k s)

/-- A CONTRIB at a cluster (R333, R344, R346, R358). -/
def execContrib (cluster : Nat) (s : State) : Res :=
  within (decide (cluster < 4)) (takeMsg cluster 1 (contribReady cluster) (fun p s =>
    let s := flagChild p s
    let x := getJob p.job s
    if x.st = .moving then
      match logRoom x.log p s with
      | none => ovfDrop p.job s
      | some bs => setJob p.job { x with log := x.log ++ [p], blocks := x.blocks ++ bs } s
    else contribSlot p s) s)

/-- RESULT from the parent (Table 11.8). -/
def execResult (cluster : Nat) (s : State) : Res :=
  within (decide (cluster < 4)) (takeMsg cluster 2 always (fun p s =>
    let a := getSlot p.job p.chunk s
    if a.st = .emitted ∨ a.st = .recover then retain p.job p.chunk p.payload (bitAt (byteAt p.hdr 1) 2) s else s) s)

/-- RESEND (R343). -/
def execResend (cluster : Nat) (s : State) : Res :=
  within (decide (cluster < 4)) (takeMsg cluster 3 always (fun p s =>
    match (getSlot p.job p.chunk s).st with
    | .emitted | .retained => sendPartial p.job p.chunk true s
    | .free => s
    | _ => sendWait p.job p.chunk s) s)

/-- RESULT_REQ (R344). -/
def execResultReq (cluster : Nat) (s : State) : Res :=
  within (decide (cluster < 4)) (takeMsg cluster 4 always (fun p s =>
    let s := flagChild p s
    let a := getSlot p.job p.chunk s
    match a.st with
    | .retained => sendChild p.job p.index (resultMsg p.job p.chunk s) s
    | .opened | .spilled => if bitAt a.bits p.index then s else sendResends p.job p.chunk (2 ^ p.index) s
    | _ => s) s)

/-- WAIT (R342). -/
def execWait (cluster : Nat) (s : State) : Res :=
  within (decide (cluster < 4)) (takeMsg cluster 5 always (fun p s =>
    let s := flagChild p s
    let a := getSlot p.job p.chunk s
    if a.st = .opened ∨ a.st = .spilled then setSlot p.job p.chunk { a with waits := a.waits ||| 2 ^ p.index } s else s) s)

/-- PACE sets the sender's proposal at the root (R353). -/
def execPace (cluster : Nat) (s : State) : Res :=
  within (decide (cluster < 4)) (takeMsg cluster 6 always (fun p s =>
    let x := getJob p.job s
    if x.root ∧ p.index < x.f 26 2 then setJob p.job { x with props := tset x.props p.index (p.arg + 1) } s else s) s)

/-- PACE_SET schedules the change and is passed on; one that is pending or known changes nothing (R353, R354). -/
def execPaceSet (cluster : Nat) (s : State) : Res :=
  within (decide (cluster < 4)) (takeMsg cluster 7 always (fun p s =>
    let x := getJob p.job s
    let n : StepSet := { step := p.arg, epoch := p.epoch }
    if x.last = some n ∨ (x.pend.any fun q => q.step == n.step && q.epoch == n.epoch) ∨
        x.pend.getLast?.map StepSet.step = some n.step then s
    else announce p.job { n with late := epochReached (epochNow x s) p.epoch } s) s)

/-- STRAGGLER marks or clears a device child (R355). -/
def execStraggler (cluster : Nat) (s : State) : Res :=
  within (decide (cluster < 4)) (takeMsg cluster 8 always (fun p s =>
    let x := getJob p.job s
    match (List.range x.children).find? fun i => kidDevice (x.kid i) && kidMember (x.kid i) == p.index with
    | some i => markChild p.job i p.strag p.arg s
    | none => s) s)

/-- ABORT fails a running job (R345). -/
def execAbort (cluster : Nat) (s : State) : Res :=
  within (decide (cluster < 4)) (takeMsg cluster 9 always (fun p s => failJob p.job 2 s) s)

/-! ### Timers -/

/-- EV_COL_RETRY at most once per job in each 1 ms (Table 11.18). -/
def postRetry (j c child n : Nat) (s : State) : State :=
  let x := getJob j s
  let due := match x.retryAt with
    | none => true
    | some t => decide (s.aon ≥ t + aonMs)
  if due then
    post 0x4003 ([byte j, 0, 0, 0] ++ le 4 c ++ le 2 child ++ [byte n]) (setJob j { x with retryAt := some s.aon } s)
  else s

/-- The slot timer of an OPEN or SPILLED slot expires (R342). -/
def execSlotTimerExpiry (job chunk : Nat) (s : State) : Res :=
  let x := getJob job s
  let a := getSlot job chunk s
  let logged := x.log.foldl (fun m p => if p.chunk = chunk then m ||| 2 ^ p.index else m) 0
  let missing := (List.range x.children).filter fun i => !bitAt (a.bits ||| logged) i
  let silent := missing.filter fun i => !bitAt x.strag i && !bitAt a.waits i
  within (decide (job < 128))
    (if !x.runs ∨ (a.st ≠ .opened ∧ a.st ≠ .spilled) ∨ missing = [] then s
    else
      let s := sendResends job chunk (missing.foldl (fun m i => m + 2 ^ i) 0) s
      let s := setSlot job chunk { a with waits := 0, retries := if silent = [] then a.retries else a.retries + 1 } s
      if silent = [] then s
      else
        let s := modJob job (fun x => { x with retries := sat 32 (x.retries + 1) }) s
        let s := postRetry job chunk (silent.headD 0) (a.retries + 1) s
        if a.retries + 1 > x.maxRetries then failJob job 1 s else s)

/-- The timer of an EMITTED slot expires: RESULT_REQ (Table 11.8). -/
def execEmittedTimerExpiry (job chunk : Nat) (s : State) : Res :=
  within (decide (job < 128))
    (if (getJob job s).runs ∧ (getSlot job chunk s).st = .emitted then sendResultReq job chunk s else s)

/-! ### Epochs and steps -/

/-- At an epoch boundary (R350 to R354): lateness, pending changes, the root's acceptance, the cluster's step, PACE. -/
def execEpochBoundary (job : Nat) (s : State) : Res :=
  let x := getJob job s
  let n := epochNow x s
  within (decide (job < 128))
    (if !x.runs then s
    else
      let before := x.agreed
      let s := setJob job { x with lateMax := x.late, late := 0 } s
      let s := applyPend job n s
      let x := getJob job s
      let s := if !x.root then s
        else
          let m := minProposal x (jobCeil job s)
          let latest := match x.pend.getLast? with
            | some p => p.step
            | none => x.agreed
          if m ≠ latest then
            let e := (n + 2) % 2 ^ 32
            announce job { step := m, epoch := e } (post 0x4002 ([byte job, byte m, 0, 0] ++ le 4 e ++ [1]) s)
          else match x.last with
            | some p => sendDevices job { typ := 7, arg := p.step, epoch := p.epoch } s
            | none => s
      let (ready, s) := followGroup x.cluster s
      let s := if !ready ∧ x.agreed > before then report 135 14 job [byte job] (countJob job 15 1 s) else s
      let s := lookCluster x.cluster s
      let c := jobCeil job s
      let s := modJob job (fun x => { x with ceil := c }) s
      let g := groupStep x.cluster s
      if g < x.agreed then sendPace job (min g c) s else if c ≠ x.agreed then sendPace job c s else s)

/-- A cluster's step change completes (R351). -/
def execClusterStepChangeDone (cluster : Nat) (s : State) : Res :=
  let c := getCluster cluster s
  within (decide (cluster < 4))
    (match c.changing with
    | none => s
    | some t =>
      let s := railFollow s (setCluster cluster { c with step := t, stepAt := some s.aon, changing := none, due := false } s)
      let s := if c.due then (followGroup cluster s).2 else s
      lookCluster cluster s)

/-! ### Restores and moves -/

/-- The slot is the next to be restored in its cluster (R347): in the order of eviction, those whose last bit is set
first. -/
def nextRestore (j c : Nat) (s : State) : Bool :=
  let x := getJob j s
  let a := getSlot j c s
  let full := decide (a.bits = x.all)
  s.col.jobs.all fun e => e.2.cluster != x.cluster || !e.2.runs || e.2.slots.all fun b =>
    b.2.st != .spilled || decide (a.evicted ≤ b.2.evicted) || (full && b.2.bits != e.2.all)

/-- A SPILLED slot is read back (R347, R348). -/
def execSlotRestore (job chunk : Nat) (s : State) : Res :=
  let x := getJob job s
  let a := getSlot job chunk s
  let full := decide (a.bits = x.all)
  within (decide (job < 128))
    (if !x.runs ∨ a.st ≠ .spilled ∨ !nextRestore job chunk s ∨ (!full && decide (freePages x.cluster s < 768)) then s
    else
      let (room, s) := makeRoom x.cluster x.accPages (openSlots x.cluster s) s
      if !room then s
      else
      let lost := ovfLost a.blocks s
      let (ok, s) := ovfRead a.blocks s
      let s := clearUpset memStaging (2 ^ 32 * job + chunk) s
      if lost ∨ !ok then
        let s := report 134 14 job ([byte job, 0, 0, 0] ++ le 4 chunk) s
        sendResends job chunk x.all (setSlot job chunk { a with st := .opened, acc := [], bits := 0, blocks := [], log := [] } s)
      else
        let bits := a.log.foldl (fun m p => m ^^^ 2 ^ p.index) a.bits
        let s := setSlot job chunk { a with st := .opened, blocks := [], log := [], bits := bits } s
        let s := a.log.foldl (fun s p => takeContrib job chunk p s) s
        let s := setSlot job chunk { getSlot job chunk s with retries := a.retries } s
        completeSlot job chunk s)

/-- A move's copy completes: the job runs in its new cluster, and the contributions of its log are taken (R358). -/
def execJobMoveDone (job : Nat) (s : State) : Res :=
  let x := getJob job s
  let need := x.slots.foldl (fun n a => n + slotPages x a.2) 0
  within (decide (job < 128))
    (if x.st ≠ .moving then s
    else
      let (_, s) := makeRoom x.dest need (openSlots x.dest s) s
      let log := x.log
      let s := modJob job (fun y => { y with cluster := x.dest, log := [], blocks := [] }) s
      let s := post 0x4005 [byte job, byte x.cluster, byte x.dest, 1] (setJobSt job .running 0 s)
      takeLog job x.dest log s)

/-! ### Commands (R330, R357, R362) -/

def JOB_BUSY : Nat := 0x80
def PACE_CONFLICT : Nat := 0x81
def NO_CLUSTER : Nat := 0x82
def JOB_FAILED : Nat := 0x83

/-- A job record keeps Table 11.6 and R330. -/
def jobOk (x : Job) : Bool :=
  let r := x.record
  let s := if bitAt (x.f 7 1) 0 || decide (x.dt = 5) then dtWide x.dt else dtSize x.dt
  decide (x.f 4 1 ≤ 1) && decide (x.op ≤ 3) && decide (x.dt ≤ 5) && decide (x.f 7 1 < 4) &&
  decide (1 ≤ x.children) && decide (x.children ≤ 256) &&
  (if x.op = 3 then decide (x.elements = 0)
   else decide (16 ≤ x.elements) && decide (x.elements ≤ 4096) && decide (x.elements % 16 = 0) && decide (x.elements * s ≤ 8192)) &&
  decide (1 ≤ x.window) && decide (x.window ≤ 64) && decide (x.f 13 1 < 16) && decide (x.f 14 1 < 8) && decide (x.f 15 1 < 8) &&
  decide (x.f 18 1 ≤ 15) && decide (x.f 19 1 ≤ 16) &&
  decide (100 ≤ x.epochUs) && decide (x.epochUs ≤ 1000000) && decide (1000000 % x.epochUs = 0) &&
  decide (x.f 24 1 < 4) && decide (x.f 25 1 = 0) && decide (1 ≤ x.f 26 2) && decide (x.f 26 2 ≤ 4096) &&
  decide (x.member < x.f 26 2) && decide (x.f 30 2 = 0) && decide (x.f 64 4 < 2 ^ 18) && decide (x.f 68 4 < 2 ^ 18) &&
  allZero (slice r 100 28) &&
  (!x.root || (decide (x.member = 0) && allZero (slice r 32 16) && decide (x.f 64 4 = 0)))

/-- A child entry keeps Table 11.7 and R330. -/
def kidOk (x : Job) (k : List Byte) : Bool :=
  decide (leAt k 16 4 < 2 ^ 18) && bitAt (leAt k 20 1) 0 && decide (leAt k 20 1 < 4) && decide (leAt k 21 1 = 0) &&
  allZero (slice k 24 8) && (!kidDevice k || decide (kidMember k < x.f 26 2))

/-- A named cluster takes a job of a step, or the status that refuses it (R357). -/
def namedCluster (k step : Nat) (s : State) : Option Nat :=
  if fencedU 8 k s ∨ (getUnit 8 k s).draining.isSome then some ST_FENCED
  else if !domServes (clusterDom k) s then some DOMAIN_OFF
  else if (jobsOf k s).any fun j => (getJob j s).agreed != step then some PACE_CONFLICT
  else none

/-- COL_JOB_CREATE (R330, R357). The child index by which the parent knows this device is a free value. -/
def colJobCreateCmd (c : Cmd) (host : HostAns) (s : State) : State × CmdEnd :=
  let j := c.op 0 1
  let k := c.op 1 1
  if j > 127 ∨ (k > 3 ∧ k ≠ 255) ∨ c.len < 160 ∨ c.len > 8320 ∨ c.len % 32 ≠ 0 then fail BAD_PARAM s
  else if (getJob j s).st ≠ .free then fail JOB_BUSY s
  else withHost c host s fun bs =>
    let x : Job := { record := bs.take 128, kids := chunks 32 256 (bs.drop 128) }
    let step := x.f 15 1
    if c.len ≠ 128 + 32 * x.children ∨ !jobOk x ∨ !x.kids.all (kidOk x) then fail BAD_PARAM s
    else
      let place := if k = 255 then (match placeJob step s with | some d => (0, d) | none => (NO_CLUSTER, 0))
        else ((namedCluster k step s).getD 0, k)
      if place.1 ≠ 0 then fail place.1 s
      else
        let d := place.2
        let (v, s) := takeFree s
        let x := { x with cluster := d, agreed := step, childIx := v % 65536 }
        let ctrs := (List.range 16).foldl (fun t i => tset t (j * 16 + i) 0) s.col.ctrs
        let s := setJob j x { s with col := { s.col with ctrs := ctrs } }
        let s := modJob j (fun x => { x with ceil := step }) (setJobSt j .running 0 s)
        let s := lookCluster d (followGroup d s).2
        okayWith [byte d] (lookCeil j s)

/-- The command ColJobCreate. -/
def execColJobCreate (ref : CmdRef) (host : HostAns) (s : State) : Res := .next (runCmd 0x40 ref (fun c => colJobCreateCmd c host) s)

/-- COL_JOB_DESTROY (R362). -/
def colJobDestroyCmd (c : Cmd) (s : State) : State × CmdEnd :=
  let j := c.op 0 1
  if j > 127 ∨ c.op 1 1 > 1 ∨ c.len ≠ 0 then fail BAD_PARAM s
  else if (getJob j s).st = .free then fail JOB_BUSY s
  else
    let abort := decide (c.op 1 1 = 1)
    let s := if abort then sendAborts j 5 s else s
    let s := setJobSt j .free (if abort then 5 else 0) (freeSlots j s)
    let x := getJob j s
    okay (setJob j { fail := x.fail, changeTs := x.changeTs, changePh := x.changePh } s)

/-- The command ColJobDestroy. -/
def execColJobDestroy (ref : CmdRef) (s : State) : Res := .next (runCmd 0x41 ref colJobDestroyCmd s)

/-- The Linen entry of a job (R363, Table 11.16). -/
def jobEntry (j : Nat) (s : State) : List Byte :=
  let x := getJob j s
  let flags := b2n (x.st != .free && x.root) + 2 * b2n x.self + 4 * b2n x.ovf + 8 * b2n x.inexact
  let head := prefix75 x.st.num (if x.st = .free then 0 else fenceCode 8 x.cluster s)
    (if x.st = .free then 0 else unitLevel 8 x.cluster s) flags x.changeTs x.changePh
  let pend := x.pend.head?
  let drops := (List.range 9).foldl (fun a i => a + jobCtr j i s) 0
  fit 64 (head ++ le 4 (x.f 0 4) ++ [byte x.cluster, byte (x.op * 16 + x.dt),
    byte (x.agreed + 8 * (if x.st = .free then 0 else (getCluster x.cluster s).step)),
    byte (match pend with | some p => p.step + 8 | none => 0)] ++ le 4 (match pend with | some p => p.epoch | none => 0) ++
    le 4 x.base ++ le 2 x.slots.length ++ le 2 (x.slots.filter fun a => a.2.st == .spilled).length ++
    le 2 ((List.range 256).filter fun i => bitAt x.strag i).length ++ [byte x.fail, 0] ++ le 4 x.done ++ le 4 x.retries ++
    le 4 (sat 32 drops) ++ le 4 (sat 32 x.lateMax) ++ le 8 (x.energy % 2 ^ 64))

/-- Job counters (Table 11.17). -/
def jobCounters (j : Nat) (s : State) : List Byte := (List.range 16).flatMap fun i => le 4 (jobCtr j i s)

/-- COL_JOB_READ (R362). -/
def colJobReadCmd (c : Cmd) (s : State) : State × CmdEnd :=
  let first := c.op 0 1
  let n := c.op 1 1
  if first > 127 ∨ n < 1 ∨ first + n > 128 ∨ c.len ≠ 128 * n then fail BAD_PARAM s
  else okayData ((List.range n).flatMap fun i => jobEntry (first + i) s ++ jobCounters (first + i) s) s

/-- The command ColJobRead. -/
def execColJobRead (ref : CmdRef) (s : State) : Res := .next (runCmd 0x42 ref colJobReadCmd s)

/-- COL_JOB_MOVE (R358, R362). -/
def colJobMoveCmd (c : Cmd) (s : State) : State × CmdEnd :=
  let j := c.op 0 1
  let k := c.op 1 1
  let x := getJob j s
  if j > 127 ∨ k > 3 ∨ c.len ≠ 0 then fail BAD_PARAM s
  else if x.st = .free then fail JOB_BUSY s
  else if x.st = .failed then fail JOB_FAILED s
  else if k = x.cluster then fail BAD_PARAM s
  else match namedCluster k x.agreed s with
    | some st => fail st s
    | none => okay (startMove j k s)

/-- The command ColJobMove. -/
def execColJobMove (ref : CmdRef) (s : State) : Res := .next (runCmd 0x43 ref colJobMoveCmd s)

/-- COL_PACE_PROPOSE (R352, R362). -/
def colPaceProposeCmd (c : Cmd) (s : State) : State × CmdEnd :=
  let j := c.op 0 1
  let p := c.op 1 1
  let x := getJob j s
  if j > 127 ∨ (p > 7 ∧ p ≠ 255) ∨ c.len ≠ 0 then fail BAD_PARAM s
  else if x.st = .free then fail JOB_BUSY s
  else if x.st = .failed then fail JOB_FAILED s
  else okay (lookCeil j (setJob j { x with host := if p = 255 then none else some p } s))

/-- The command ColPacePropose. -/
def execColPacePropose (ref : CmdRef) (s : State) : Res := .next (runCmd 0x44 ref colPaceProposeCmd s)

/-! ### Registers (R364) -/

def colErr (bad : Bool) (s : State) : State := { s with col := { s.col with cfgErr := bad } }

/-- A write of COL_ENCAP, COL_OVF_BASE or COL_OVF_BLOCKS is ignored while the engine is enabled, as is a region of more
than 1,835,008 blocks. -/
def writeColCfg (r : RegDesc) (v : Nat) (s : State) : State :=
  if bitAt (rd Reg.colCtrl 0 s) 0 then s
  else if r.base = Reg.colOvfBlocks.base ∧ v % 2 ^ 21 > 1835008 then s
  else wrRw r 0 v s

/-- COL_CLUSTER_STAT (Table 11.22). -/
def clusterStat (k : Nat) (s : State) : Nat :=
  let c := getCluster k s
  c.step + 8 * b2n (fencedU 8 k s) + 16 * min 128 (jobsHeld k s) + 4096 * freePages k s + 2 ^ 24 * b2n c.changing.isSome

end Sys2Proof.Machine
end

