-- ==== Sys2Proof/Machine/Egress.lean ====
section
/-! DEFINITION. Egress stages 11 to 16 and the end of a frame's transmission (8.5 to 8.9, 15.3). -/
namespace Sys2Proof.Machine

/-! ### The frame under edit (R254 to R257) -/

/-- A frame on its way through stages 12 to 15: its bytes, its tag, how much it has grown, and where the IP headers that
were at slots 2 and 10 before stage 12 now lie. -/
structure Work where
  f : List Byte
  t : Tag
  grown : Int := 0
  ip2 : Nat := 255
  ip10 : Nat := 255

def Work.err (w : Work) (b : Nat) : Work := { w with t := w.t.setErr b }
def EDIT_SLOT : Nat := 8
def EDIT_RANGE : Nat := 9
def EDIT_ECC : Nat := 10
def PTP_TB : Nat := 11
def IOAM_SKIP : Nat := 12

/-- Where a position stands after `n` bytes are inserted at `x`; one beyond 254 is absent (R255). -/
def moveUp (x n pos : Nat) : Nat := if pos = 255 ∨ pos < x then pos else if pos + n > 254 then 255 else pos + n
/-- Where it stands after `n` bytes are removed at `x`; one among them is absent (R255). -/
def moveDown (x n pos : Nat) : Nat := if pos = 255 ∨ pos < x then pos else if pos < x + n then 255 else pos - n

def Work.shift (w : Work) (mv : Nat → Nat) : Work :=
  { w with t := { w.t with hdr := w.t.hdr.map mv }, ip2 := mv w.ip2, ip10 := mv w.ip10 }

/-- Whether `n` bytes at `x` lie within byte 255 and the frame (R256). -/
def Work.reach (w : Work) (x n : Nat) : Bool := decide (x + n ≤ 256) && decide (x + n ≤ w.f.length)

def Work.insert (w : Work) (x : Nat) (bs : List Byte) : Work :=
  if x > w.f.length ∨ x + bs.length > 256 ∨ w.grown + bs.length > 128 then w.err EDIT_RANGE
  else { (w.shift (moveUp x bs.length)) with f := w.f.take x ++ bs ++ w.f.drop x, grown := w.grown + bs.length }

def Work.delete (w : Work) (x n : Nat) : Work :=
  if !w.reach x n then w.err EDIT_RANGE
  else { (w.shift (moveDown x n)) with f := w.f.take x ++ w.f.drop (x + n), grown := w.grown - n }

def Work.write (w : Work) (x : Nat) (bs : List Byte) : Work :=
  if w.reach x bs.length then { w with f := splice w.f x bs } else w.err EDIT_RANGE

/-- Length of the frame without FCS; `base` is that of the frame before stage 12. -/
def Work.length (w : Work) (base : Nat) : Nat := ((base : Int) + w.grown).toNat

/-- Rewrite the length of the IP header at `o` and of a UDP header that directly follows it, as far as they lie in the frame. -/
def Work.setLens (w : Work) (o base : Nat) : Work :=
  match ipAt w.f o with
  | none => w
  | some (six, hl, proto) =>
    let n := w.length base - o
    let f := if six then splice w.f (o + 4) (be 2 (n - 40)) else splice w.f (o + 2) (be 2 n)
    { w with f := if proto = 17 ∧ o + hl + 6 ≤ f.length then splice f (o + hl + 4) (be 2 (n - hl)) else f }

/-- FIX_LEN (Table 8.5), which reaches to the last length field that it rewrites (R256). -/
def Work.fixLen (w : Work) (o base : Nat) : Work :=
  match ipAt w.f o with
  | none => w.err EDIT_RANGE
  | some (six, hl, proto) =>
    let last := if proto = 17 then hl + 6 else if six then 6 else 4
    if w.reach o last then w.setLens o base else w.err EDIT_RANGE

/-- One operation word (Table 8.5). What DEC_HOP makes of 0 is not stated: `free`. -/
def editOp (op record base free : Nat) (w : Work) : Work :=
  let x := w.t.slot (fld op 4 4)
  let ofs := fld op 8 8
  let len := fld op 16 8
  let y := w.t.slot (len % 16)
  let data := le len (fld record (8 * fld op 24 8) (8 * len))
  let k := fld op 0 4
  if k = 5 then
    let v := ofs + (if bitAt len 4 then 0 else y)
    if !bitAt len 4 ∧ y = 255 then w.err EDIT_SLOT
    else if v > 254 then w.err EDIT_RANGE
    else { w with t := w.t.setSlot (fld op 4 4) v }
  else if x = 255 ∨ ((k = 4 ∨ k = 9) ∧ y = 255) then w.err EDIT_SLOT
  else match k with
    | 1 => w.write (x + ofs) data
    | 2 => w.insert (x + ofs) data
    | 3 => w.delete (x + ofs) len
    | 4 => if y < x + ofs then w.err EDIT_RANGE else w.delete (x + ofs) (y - (x + ofs))
    | 6 => match ipAt w.f x with
      | none => w.err EDIT_RANGE
      | some _ =>
        let o := ttlPlace w.f x
        w.write o [byte (if byteAt w.f o = 0 then free else byteAt w.f o - 1)]
    | 7 => w.fixLen x base
    | 8 => w.write (x + ofs) (be 2 (0xC000 ||| w.t.hash % 2 ^ 14))
    | 9 => match ipAt w.f x, ipAt w.f y with
      | some _, some _ => if !w.reach x 2 ∨ !w.reach y 2 then w.err EDIT_RANGE else { w with f := setTos w.f x (tosAt w.f x / 4 * 4 + tosAt w.f y % 4) }
      | _, _ => w.err EDIT_RANGE
    | _ => w

/-- The words of a template up to the first END (R254). -/
def editWords (record base : Nat) : Nat → List Nat → Work → Work
  | _, [], w => w
  | free, op :: r, w => if fld op 0 4 = 0 then w else editWords record base (free / 256) r (editOp op record base free w)

/-- Stage 12. -/
def stage12 (p : Pkt) (pipe base : Nat) (w : Work) (s : State) : Work × State :=
  let tpl := fld p.tag.edit 16 8
  let ix := fld p.tag.edit 0 15
  if tpl = 0 then (w, s)
  else if upsetOf memEdit ix s = 2 then (w.err EDIT_ECC, meetSecded memEdit 70 ix s)
  else if upsetOf memTemplate (pipe * 256 + tpl) s = 2 then (w.err EDIT_ECC, report 68 4 pipe (le 8 tpl) s)
  else
    let s := meetSecded memEdit 70 ix s
    let s := if upsetOf memTemplate (pipe * 256 + tpl) s = 1 then
        report 69 14 tpl (le 8 tpl) (clearUpset memTemplate (pipe * 256 + tpl) s)
      else s
    let words := (List.range 16).map fun i => tget s.pip.templates (tpl * 16 + i)
    let (free, s) := if words.any fun op => fld op 0 4 == 6 then takeFreeBits 2 s else (0, s)
    (editWords (tget s.pip.edits ix) base free words w, s)

/-! ### Stage 13 (R258, R260) -/

/-- The ECN profile that a packet's port names for it (Table 8.7); none where it names profile 0. -/
def ecnProfile (p : Pkt) (s : State) : Option Nat :=
  let r := egressRec p.port s
  let l := levelOf p.port (p.tag.qidx) s
  let n := if p.tag.flag 12 ∧ fld r 32 4 ≠ 0 then fld r 32 4 else fld r (4 * l) 4
  if n = 0 then none else some (tget s.pip.ecn n)

/-- Whether stage 13 marks (R258); `v` is the fresh random value. -/
def marks (prof d v : Nat) : Bool :=
  let lo := fld prof 0 32
  let hi := fld prof 32 32
  decide (d ≥ hi) || (decide (lo ≤ d) && decide (v % 256 * (hi - lo) < fld prof 64 8 * (d - lo)))

def stage13 (p : Pkt) (base : Nat) (w : Work) (s : State) : Work × State :=
  let r := egressRec p.port s
  let o := w.t.slot 2
  if p.trimmed then
    let w := { w with t := w.t.setTel 3 }
    match ipAt w.f o with
    | none => (w, s)
    | some _ =>
      let w := if bitAt r 62 then { w with f := setTos w.f o (fld r 56 6 * 4 + tosAt w.f o % 4) } else w
      (w.setLens o base, s)
  else
    match ipAt w.f o, ecnProfile p s with
    | some _, some prof =>
      let e := tosAt w.f o % 4
      if e ≠ 1 ∧ e ≠ 2 then (w, s)
      else
        let (v, s) := takeFree s
        if marks prof p.tag.qdelay v then ({ w with f := setTos w.f o (tosAt w.f o ||| 3), t := w.t.setTel 4 }, s) else (w, s)
    | _, _ => (w, s)

/-! ### Stage 14 (R261) -/

/-- The key of Table 8.9. -/
def aclKey (p : Pkt) (w : Work) : List Byte :=
  let t := w.t
  let o := t.slot 2
  let ip := ipAt w.f o
  let l4 := t.slot 3
  let port := fun (k : Nat) => if l4 = 255 ∨ l4 + k + 2 > w.f.length then 0 else beAt w.f (l4 + k) 2
  let fl := b2n (bitAt t.tel 3) + 2 * b2n (bitAt t.tel 4) + 4 * b2n (bitAt t.tel 5) + 8 * b2n (bitAt t.tel 6) +
    16 * b2n (t.flag 10) + 32 * b2n (t.flag 11)
  le 2 p.port ++ [byte t.qidx, byte t.cls, byte t.kind, byte (if ip.isSome then tosAt w.f o else 0),
    byte (match ip with | some x => x.2.2 | none => 0), byte fl] ++ le 4 t.metadata ++ le 2 (port 0) ++ le 2 (port 2) ++ le 4 t.hash

/-- Entries met on the way that are lost or corrected (R266), and the winning one. -/
def aclLookup (key : Nat) (s : State) : Option Nat × State :=
  let s := s.pip.eacl.foldl (fun s e => meetSecded memEacl 73 e.1 s) s
  ((s.pip.eacl.find? fun e => recValid e.2 && recMatch e.2 key && upsetOf memEacl e.1 s != 2).map fun e => e.2, s)

/-- Stage 14: whether the packet is permitted. -/
def stage14 (p : Pkt) (pipe : Nat) (w : Work) (s : State) : Bool × State :=
  match aclLookup (leNat (aclKey p w)) s with
  | (none, s) => (true, s)
  | (some r, s) =>
    let d := fld r 392 56
    (!bitAt d 0, if bitAt d 1 then countFlex (panelOfPipe pipe) (fld d 2 20) (countLen p s) s else s)

/-! ### Stage 15 (R262 to R264) -/

/-- E − RX_TS in ns as the 34-bit stamps give it: negative where the time base was stepped back between them. -/
def sinceRx (t : Tag) (e : Nat) : Int := toS 34 ((e % 2 ^ 34 + 2 ^ 34 - (t.rxPh % 4 * 2 ^ 32 + t.rxTs)) % 2 ^ 34)
/-- The wrap phases of E and RX_TS differ by at most 1. -/
def phaseNear (t : Tag) (e : Nat) : Bool :=
  let d := (e / 2 ^ 32 + 4 - t.rxPh % 4) % 4
  decide (d ≤ 1) || decide (d = 3)

/-- Add ns to the correctionField of the PTP header at `o`. -/
def Work.correct (w : Work) (o : Nat) (ns : Int) : Work :=
  { w with f := splice w.f (o + 8) (be 8 (ofS 64 (toS 64 (beAt w.f (o + 8) 8) + ns * 65536))) }

/-- Time correction of a PTP event message (R262, R426). -/
def ptpCorrect (p : Pkt) (e : Nat) (w : Work) (s : State) : Work :=
  let r := egressRec p.port s
  let mode := fld r 80 8
  let adj := toS 32 (fld r 96 32)
  let o := w.t.slot 13
  let fenced := decide ((tget s.tim.tb (tbSource (pktTb s) s).1).state = .fenced)
  if !w.t.flag 13 ∨ o = 255 ∨ mode = 0 ∨ o + (if mode = 1 then 16 else 44) > w.f.length then w
  else if fenced then w.err PTP_TB
  else if mode = 1 then
    if w.t.tb ≠ pktTb s ∨ !phaseNear w.t e then w.err PTP_TB else w.correct o (sinceRx w.t e + adj)
  else if byteAt w.f o % 16 = 0 then
    { w with f := splice w.f (o + 34) (be 6 (e / 1000000000) ++ be 4 (e % 1000000000)) }.correct o adj
  else w

/-- Bytes whose value nothing fixes. -/
def freeRoom : Nat → State → List Byte × State
  | 0, s => ([], s)
  | n + 1, s =>
    let (v, s) := takeFree s
    let (r, s) := freeRoom n s
    (le 8 v ++ r, s)

/-- Trace-type bits set, of 24; bit 0 is the most significant. -/
def traceBits (ty : Nat) : List Nat := (List.range 24).filter fun b => bitAt ty (23 - b)

/-- Insert a Hop-by-Hop Options header with one trace option (R263), and answer the option's place. The data room of other nodes
holds what nothing fixes. -/
def ioamInsert (w : Work) (s : State) : Option Nat × Work × State :=
  let o := w.t.slot 2
  if !bitAt w.t.tel 1 then (none, w, s)
  else
    let cfg := rd Reg.ioamInsert 0 s
    let ty := fld cfg 16 8 * 65536
    let nl := (traceBits ty).length
    let room := nl * fld cfg 24 4
    let body := 14 + 4 * room
    let pad := (8 - body % 8) % 8
    let total := body + pad
    match ipAt w.f o with
    | some (true, _, nh) =>
      if nh = 0 ∨ w.grown + total > 128 then (none, w.err IOAM_SKIP, s)
      else
        let (data, s) := freeRoom ((4 * room + 7) / 8) s
        let hbh := [byte nh, byte (total / 8 - 1), 0x31, byte (10 + 4 * room), 0, 0] ++ be 2 (fld cfg 0 16) ++
          be 2 (nl * 2048 + room) ++ be 3 ty ++ [0] ++ data.take (4 * room) ++
          (if pad = 0 then [] else if pad = 1 then [0] else [1, byte (pad - 2)] ++ zeros (pad - 2))
        let f := splice (splice w.f (o + 4) (be 2 (beAt w.f (o + 4) 2 + total))) (o + 6) [0]
        let w := { (w.shift (moveUp (o + 40) total)) with f := f.take (o + 40) ++ hbh ++ f.drop (o + 40), grown := w.grown + total }
        (some (o + 42), { w with t := w.t.setSlot 14 (min (o + 42) 255) }, s)
    | _ => (none, w.err IOAM_SKIP, s)

/-- The field of one trace-type bit (R264, at its length of RFC 9197). -/
def traceField (p : Pkt) (e : Nat) (w : Work) (s : State) (b : Nat) : List Byte :=
  let o := w.t.slot 2
  let d := sinceRx w.t e
  match b with
  | 0 => [byte (if (ipAt w.f o).isSome then byteAt w.f (ttlPlace w.f o) else 0)] ++ be 3 (rdFld Reg.ioamNode 0 0 24 s)
  | 1 => be 2 w.t.inPort ++ be 2 p.port
  | 2 => be 4 (e / 1000000000)
  | 3 => be 4 (e % 1000000000)
  | 4 => be 4 (if 0 ≤ d ∧ d < 2 ^ 31 then d.toNat else 2 ^ 31 + (d % 2 ^ 31).toNat)
  | 6 => be 4 p.depth
  | 8 | 9 | 10 => List.replicate 8 255
  | 22 | 23 => []
  | _ => List.replicate 4 255

/-- Serve the Pre-allocated Trace Option whose first byte is at `o` (R264): that at slot 14, or the one just inserted; its trace
header lies four bytes on. -/
def ioamUpdate (o : Nat) (p : Pkt) (e : Nat) (w : Work) (s : State) : Work :=
  let h := o + 4
  let ns := beAt w.f h 2
  let word := beAt w.f (h + 2) 2
  let nl := word / 2048
  let left := word % 128
  if h + 8 > w.f.length ∨ byteAt w.f (o + 3) ≠ 0 ∨ (ns ≠ 0 ∧ ns ≠ rdFld Reg.ioamInsert 0 0 16 s) then w
  else if left ≥ nl then
    let data := (traceBits (beAt w.f (h + 4) 3)).flatMap (traceField p e w s)
    let data := (data ++ List.replicate (4 * nl) 255).take (4 * nl)
    let x := h + 8 + 4 * (left - nl)
    if x + 4 * nl > w.f.length then w
    else { w with f := splice (splice w.f x data) (h + 2) (be 2 (word - nl)) }
  else { w with f := splice w.f (h + 2) (be 2 (word ||| 1024)) }

/-! ### Checksums (R257) -/

/-- The IPv4 header checksum computed afresh. -/
def ip4Fix (f : List Byte) (o hl : Nat) : List Byte :=
  let g := splice f (o + 10) [0, 0]
  splice g (o + 10) (be 2 (65535 - fold16 (sum16 (slice g o hl))))

/-- A UDP header behind an IP header of protocol `proto` that ends at `x`, past extension headers with a length of their own
(Hop-by-Hop, Routing, Destination Options) and a Fragment header. -/
def udpPast (f : List Byte) : Nat → Nat → Nat → Option Nat
  | 0, _, _ => none
  | n + 1, x, proto =>
    if proto = 17 then (if x + 8 ≤ f.length then some x else none)
    else if x + 8 > f.length then none
    else if proto = 0 ∨ proto = 43 ∨ proto = 60 then udpPast f n (x + 8 * (byteAt f (x + 1) + 1)) (byteAt f x)
    else if proto = 44 then udpPast f n (x + 8) (byteAt f x)
    else none

/-- The UDP header of the IP header at `o`. -/
def udpAt (f : List Byte) (o : Nat) : Option Nat :=
  match ipAt f o with
  | none => none
  | some (six, hl, proto) => if six then udpPast f 8 (o + hl) proto else if proto = 17 then udpPast f 1 (o + hl) proto else none

/-- Sum that the checksum of a UDP header at `u` covers, without the checksum field: the addresses of the IP header at `o`, the
UDP length and the bytes to the frame's end. -/
def udpCover (f : List Byte) (o u : Nat) : Nat :=
  let addrs := if byteAt f o / 16 = 6 then slice f (o + 8) 32 else slice f (o + 12) 8
  fold16 (sum16 addrs + 17 + beAt f (u + 4) 2 + sum16 ((splice f (u + 6) [0, 0]).drop u))

/-- A UDP checksum as it is written: 0 is sent as all ones. -/
def udpForm (n : Nat) : Nat := if n = 0 then 65535 else n

/-- Mend the checksums of one IP header after the edits: `old` is the frame before stage 12 with this header at `o0`, if
it was there. A UDP checksum that is not zero is adjusted by what its cover has changed; one with no counterpart before the edits
is computed. -/
def mendIp (old : List Byte) (o0 o : Nat) (f : List Byte) : List Byte :=
  match ipAt f o with
  | none => f
  | some (six, hl, _) =>
    let was := if o0 = 255 then none else ipAt old o0
    let same := decide (was = ipAt f o) && (slice old o0 hl == slice f o hl)
    let f := if six ∨ same then f else ip4Fix f o hl
    match udpAt f o with
    | none => f
    | some u =>
      let c := beAt f (u + 6) 2
      if c = 0 then f
      else match (if o0 = 255 then none else udpAt old o0) with
        | some u0 =>
          let n := 65535 - fold16 (65535 - c + udpCover f o u + (65535 - udpCover old o0 u0))
          if udpCover f o u = udpCover old o0 u0 then f else splice f (u + 6) (be 2 (udpForm n))
        | none => splice f (u + 6) (be 2 (udpForm (65535 - udpCover f o u)))

/-- The IP headers at slots 2 and 10 after the edits, each with the header it was before stage 12. -/
def mendAll (old : List Byte) (t0 : Tag) (w : Work) : List Byte :=
  let from0 := fun (o : Nat) => if o = w.ip2 then t0.slot 2 else if o = w.ip10 then t0.slot 10 else 255
  let at' := fun (o : Nat) (f : List Byte) => if o = 255 then f else mendIp old (from0 o) o f
  if w.t.slot 10 = w.t.slot 2 then at' (w.t.slot 2) w.f else at' (w.t.slot 2) (at' (w.t.slot 10) w.f)

/-! ### The walk -/

/-- The egress time of an injected PTP event frame is captured and posted (R430). While the event finds no room in its ring's
backlog the capture waits in its panel, which holds 256; one that finds no room there is discarded and counted (FC196). -/
def captureTx (p : Pkt) (e : Nat) (w : Work) (s : State) : State :=
  let o := w.t.slot 13
  if !w.t.flag 13 ∨ !w.t.flag 10 then s
  else
    let panel := p.port / 256
    let pay := le 2 p.port ++ (if o = 255 then zeros 4 else [byte (byteAt w.f o % 16), byte (byteAt w.f (o + 4))] ++
      le 2 (beAt w.f (o + 30) 2)) ++ [byte (pktTb s), 0] ++ le 6 (e / 1000000000) ++ zeros 2 ++ le 4 (e % 1000000000)
    let s := drainCaptures s
    if s.tim.captures = [] ∧ postRoom 0x7005 s then post 0x7005 pay s
    else if (s.tim.captures.filter fun c => c.1 == panel).length < 256 then
      { s with tim := { s.tim with captures := s.tim.captures ++ [(panel, pay)] } }
    else report 196 14 panel [byte panel] { s with tim := { s.tim with captureLost := sat 32 (s.tim.captureLost + 1) } }

/-- The port no longer sends this packet. -/
def sendOver (i : Nat) (p : Pkt) (s : State) : State :=
  if (getPort p.port s).sending = some i then modPort p.port (fun y => { y with sending := none }) s else s

/-- Stages 11 to 16 with egress time E (R23, R262 to R265). -/
def egress (i e : Nat) (s : State) : State :=
  let p := getPkt i s
  let pipe := pipeOfPort p.port s
  let base := if p.ended then p.frame.length else p.len - 4
  let p := { p with first := if p.first = [] then p.frame.take 128 else p.first, egressNs := e,
                    ioam := if p.tag.slot 14 = 255 then [] else slice p.frame (p.tag.slot 14) 128 }
  let w : Work := { f := p.frame, t := p.tag, ip2 := p.tag.slot 2, ip10 := p.tag.slot 10 }
  let (w, s) := stage12 p pipe base w s
  let (w, s) := stage13 p base w s
  let (ok, s) := stage14 p pipe w s
  let done := fun (w : Work) => { p with tag := w.t, frame := w.f, len := ((p.len : Int) + w.grown).toNat }
  if !ok then discard i 14 pipe (sendOver i p (setPkt i (done w) s))
  else
    let w := ptpCorrect p e w s
    let (placed, w, s) := ioamInsert w s
    let w := match placed, w.t.slot 14 with
      | some o, _ => ioamUpdate o p e w s
      | none, 255 => w
      | none, o => ioamUpdate o p e w s
    let w := { w with f := mendAll p.frame p.tag w }
    if fld w.t.err 8 5 &&& rdFld Reg.egressCfg 0 0 5 s ≠ 0 then discard i 15 pipe (sendOver i p (setPkt i (done w) s))
    else
      let s := gauze (done w) pipe (if p.trimmed then 11 else 0) e true s
      setPkt i { done w with stage := .leaving } (captureTx p e w s)

/-- A dequeued packet passes stages 11 to 16 (R23). -/
def execEgressStages (pkt : Nat) (txTotalNs : Nat) (s : State) : Res :=
  .next (if atStage pkt .egress s then egress pkt txTotalNs (readCells pkt (checkTag pkt (pipeOfPort (getPkt pkt s).port s) s)) else s)

/-- The frame on the wire: padded to 60 bytes, its FCS computed afresh, inverted where it is stomped (R109, R110). -/
def wireFrame (f : List Byte) (stomp : Bool) : List Byte :=
  let g := f ++ zeros (60 - f.length)
  g ++ le 4 (if stomp then crcFcs g ^^^ 0xFFFFFFFF else crcFcs g)

/-- A frame leaves its port, if the MAC stream of the port runs (R150), and its reference ends (R252). -/
def execTransmitEnd (pkt : Nat) (s : State) : Res :=
  let p := getPkt pkt s
  let b := wireFrame p.frame p.stomp
  .next (if !atStage pkt .leaving s ∨ !p.ended then s
    else
      let s := if macRuns p.port s then
          let s := countPort p.port 3 b.length (countPort p.port 2 1 (emit (.frame p.port b p.stomp) s))
          if p.stomp then countPort p.port 19 1 s else s
        else s
      endPkt pkt (sendOver pkt p s))

end Sys2Proof.Machine
end

