-- ==== Sys2Proof/Machine/Idle.lean ====
section
/-! DEFINITION. What passes while no command waits: one CLK_AON cycle of 4 ns (log entry 2). -/
namespace Sys2Proof.Machine

/-- PAUSED_NS of the classes that a port's partner pauses (Table 4.8). -/
def countPaused (ns : Nat) (s : State) : State :=
  s.mac.ports.foldl (fun s e =>
    (List.range 8).foldl (fun s c => if tget e.2.pause c ≠ 0 then countPort e.1 (44 + c) ns s else s) s) s

/-- One cycle of CLK_AON, in every mode but OFF: AON_CYCLE counts, the time bases advance by 4 ns of their sources and paused
classes count their time. -/
def aonCycle (s : State) : State :=
  if s.sys.mode = .off then s
  else countPaused 4 (advanceTime 4 { s with aon := (s.aon + 1) % 2 ^ 64 })

end Sys2Proof.Machine
end

