-- ==== Sys2Proof/Machine/Pools.lean ====
section
/-! DEFINITION. The buffer pool commands and steps (12.3 to 12.7). -/
namespace Sys2Proof.Machine

/-- EMPTY (R380). -/
def POOL_EMPTY : Nat := 0x80

/-- The answer of a request goes to its requester: POOL_ALLOC completes, or the context has POOL_DONE. -/
def poolAnswer (a : PoolWho × Option Nat) (s : State) : State :=
  match a with
  | (.cmd ref, some h) =>
    finishRef ref { payload := le 4 h ++ le 8 (handleAddr h s) ++ [byte (handlePool h)] } s
  | (.cmd ref, none) => finishRef ref { status := POOL_EMPTY } s
  | (.serge e k, r) => seqPoolAnswer e k r s

/-- In a CLK_POOL cycle, a pool answers the request at its queue's head (R372, R373). -/
def execPoolGrant (pool : Nat) (s : State) : Res :=
  let (a, t) := poolCycle pool s
  within (decide (pool < 8)) (match a with
    | some a => poolAnswer a t
    | none => t)

/-- The test of a freed tainted buffer ends (R378): both patterns have been written over it; the buffer is free, or
withdrawn with FC148 and EV_POOL_WITHDRAWN. -/
def execBufferTestDone (handle : Nat) (ok : Bool) (s : State) : Res :=
  let (v, t) := takeFree s
  let t := (bufWrite handle 0 (List.replicate (poolSize (handlePool handle)) (byte v)) t).2
  .next (if !(getPBuf handle s).testing then s
    else if ok then setPBuf handle {} t
    else
      let t := setPBuf handle { withdrawn := true } t
      let t := modPool (handlePool handle) (fun p => { p with withdrawn := sat 32 (p.withdrawn + 1) }) t
      post 0x5002 (le 4 handle) (report 148 14 handle (le 4 handle) t))

/-- POOL_ALLOC requests a buffer on port 0 (R370, R371). -/
def poolAllocCmd (c : Cmd) (s : State) : State × CmdEnd :=
  let size := c.op 0 4
  let owner := c.op 6 2
  if !poolOn s then fail ST_MODE s
  else if size < 1 ∨ size > 4194304 ∨ c.op 4 1 > 1 ∨ c.op 5 1 > 1 ∨ c.len ≠ 0 then fail BAD_PARAM s
  else if !hostOwner owner then fail BAD_OWNER s
  else match poolFor size (c.op 4 1) s with
    | none => fail POOL_EMPTY s
    | some k => (poolRequest k 0 { port := 0, spill := bitAt (c.op 5 1) 0, owner := owner, who := .cmd c.ref } s, .later)

/-- The command POOL_ALLOC. -/
def execPoolAlloc (ref : CmdRef) (s : State) : Res := .next (runCmd 0x50 ref poolAllocCmd s)

/-- POOL_FREE (R375, R376). -/
def poolFreeCmd (c : Cmd) (s : State) : State × CmdEnd :=
  let h := c.op 0 4
  let owner := c.op 4 2
  if !poolOn s then fail ST_MODE s
  else if !handleOk h s ∨ c.len ≠ 0 then fail BAD_PARAM s
  else if !hostOwner owner then fail BAD_OWNER s
  else
    let (st, s) := poolFreeBy h owner s
    fail st s

/-- The command POOL_FREE. -/
def execPoolFree (ref : CmdRef) (s : State) : Res := .next (runCmd 0x51 ref poolFreeCmd s)

/-- POOL_TRANSFER (R369, R376). -/
def poolTransferCmd (c : Cmd) (s : State) : State × CmdEnd :=
  let h := c.op 0 4
  let owner := c.op 4 2
  let new := c.op 6 2
  if !poolOn s then fail ST_MODE s
  else if !handleOk h s ∨ c.len ≠ 0 then fail BAD_PARAM s
  else if !hostOwner owner ∨ !ownerOk new then fail BAD_OWNER s
  else
    let (st, s) := poolGive h owner new s
    fail st s

/-- The command POOL_TRANSFER. -/
def execPoolTransfer (ref : CmdRef) (s : State) : Res := .next (runCmd 0x52 ref poolTransferCmd s)

/-- Bytes 256 to 1,023 of the Linen buffer area (Table 12.7). -/
def linenPools (s : State) : List Byte :=
  let m := s.pool.last
  fit 768 ((List.range 8).flatMap (fun k =>
      let p := getPool k s
      let free := if poolOn s then poolFreeCount k s else 0
      le 4 (poolCount k s) ++ le 4 free ++ le 4 (p.low.getD free) ++ le 4 p.grants ++ le 4 p.empties ++ le 4 p.spillUps ++
        le 4 p.withdrawn ++ le 4 p.misuse) ++
    le 4 (mOwned 0 s) ++ le 4 (mOwned 1 s) ++ le 4 m.handle ++ le 2 m.owner ++ le 2 m.offender ++ le 4 m.ts ++ [byte m.ph])

/-- POOL_STATE (R380). -/
def poolStateCmd (c : Cmd) (s : State) : State × CmdEnd := if c.len ≠ 768 then fail BAD_PARAM s else okayData (linenPools s) s

/-- The command POOL_STATE. -/
def execPoolState (ref : CmdRef) (s : State) : Res := .next (runCmd 0x53 ref poolStateCmd s)

/-- POOL_OWNER_FREE_ALL frees every buffer of a host owner and counts them (R377). -/
def poolOwnerFreeAllCmd (c : Cmd) (s : State) : State × CmdEnd :=
  let owner := c.op 0 2
  if c.len ≠ 0 then fail BAD_PARAM s
  else if !hostOwner owner then fail BAD_OWNER s
  else
    let l := ownedBy owner s
    okayWith (le 4 l.length) (l.foldl (fun s h => poolRelease h s) s)

/-- The command POOL_OWNER_FREE_ALL. -/
def execPoolOwnerFreeAll (ref : CmdRef) (s : State) : Res := .next (runCmd 0x54 ref poolOwnerFreeAllCmd s)

/-- POOL_COPY moves data between host memory and an owned buffer (R369, R378, R380). Where the host refuses a read, the bytes
that had arrived before are in the buffer. -/
def poolCopyCmd (c : Cmd) (host : HostAns) (s : State) : State × CmdEnd :=
  let h := c.op 0 4
  let off := c.op 4 4
  let owner := c.op 8 2
  if !poolOn s then fail ST_MODE s
  else if !handleOk h s ∨ c.op 10 1 > 1 ∨ off + c.len > poolSize (handlePool h) then fail BAD_PARAM s
  else if !hostOwner owner then fail BAD_OWNER s
  else if poolRight h owner s ≠ 0 then fail (poolRight h owner s) s
  else if handleM h ∧ !halfServes (halfOf (handleAddr h s) s) s then fail DOMAIN_OFF s
  else if c.len = 0 then okay s
  else if c.op 10 1 = 0 then
    match host with
    | .error _ got => withHost c host (bufWrite h off (got.take c.len) s).2 fun _ => okay s
    | .data _ => withHost c host s fun bs =>
      let (st, s) := bufWrite h off bs s
      fail st s
  else
    let (st, bs, s) := bufRead h off c.len s
    if st = 0 then okayData bs s else fail st s

/-- The memory half that a POOL_COPY's buffer lies in. -/
def poolCopyDoms (c : Cmd) (s : State) : List Nat :=
  let h := c.op 0 4
  if handleM h then [27 + halfOf (handleAddr h s) s] else []

/-- The command POOL_COPY. -/
def execPoolCopy (ref : CmdRef) (host : HostAns) (s : State) : Res :=
  .next (runCmdIn poolCopyDoms 0x55 ref (fun c => poolCopyCmd c host) s)

/-! ### Registers (R381) -/

def poolErr (bad : Bool) (s : State) : State := { s with pool := { s.pool with cfgErr := bad } }

/-- Why a write of ENABLE = 1 is refused (R381): the S-pools or a count break their limits, or the M-pool region
overlaps another region or leaves usable Burlap. -/
def poolCfgBad (s : State) : Bool :=
  let base := rd Reg.poolMBase 0 s
  let n := mBytes s
  decide (sBytes s > 33554432) || ((List.range 8).any fun k => decide (poolCount k s > poolMax k)) ||
  (decide (n ≠ 0) && (decide (base + n > usable s) || overlap base n (rd Reg.bufSpillBase 0 s) (65536 * rd Reg.bufSpillBlocks 0 s) ||
    overlap base n (rd Reg.colOvfBase 0 s) (65536 * rd Reg.colOvfBlocks 0 s)))

/-- No buffer is allocated. -/
def noneOwned (s : State) : Bool := s.pool.bufs.all fun e => decide (e.2.owner = 0)

/-- POOL_CTRL.ENABLE is checked and starts or stops the manager (R381). -/
def poolCtrlWrite (v : Nat) (s : State) : State :=
  if bitAt v 0 then
    if poolOn s then poolErr false s
    else if poolCfgBad s then poolErr true s
    else (List.range 8).foldl (fun s k => poolLow k s) (poolErr false (wrRw Reg.poolCtrl 0 v s))
  else if poolOn s ∧ !noneOwned s then poolErr true s
  else poolErr false (wrRw Reg.poolCtrl 0 v s)

/-- The row POOL_CTRL_ENABLE. -/
def execPoolCtrlEnable (value : Word) (s : State) : Res := .next (whenOpen s (poolCtrlWrite value.toNat s))

/-- A write of POOL_S_COUNT, POOL_M_BASE or POOL_M_COUNT is ignored while ENABLE is 1 (R381). -/
def writePoolCfg (r : RegDesc) (n v : Nat) (s : State) : State :=
  if poolOn s then poolErr true s else poolErr false (wrRw r n v s)

/-- POOL_FREE_STAT (Table 12.13). -/
def poolFreeStat (k : Nat) (s : State) : Nat :=
  (if poolOn s then poolFreeCount k s else 0) + (if (getPool k s).emptySeen then 2 ^ 31 else 0)

end Sys2Proof.Machine
end

