-- ==== Sys2Proof/Machine/Linen.lean ====
section
/-! DEFINITION. The Linen record (2.8, Tables 2.17 to 2.20) and the start of a queued SUMMARY (R73, R74). -/
namespace Sys2Proof.Machine

/-- The fence map (Table 2.19). -/
def linenFences (s : State) : List Byte :=
  fit 256 (le 16 (fenceMap 1 128 s) ++ le 2 (fenceMap 3 16 s) ++ le 2 (fenceMap 4 16 s) ++ le 4 (fenceMap 9 32 s) ++
    le 32 (fenceMap 5 256 s) ++ le 32 (fenceMap 7 256 s) ++ le 8 (fenceMap 10 64 s) ++
    [byte (fenceMap 8 4 s), byte (fenceMap 11 8 s), byte (fenceMap 12 4 s)])

/-- The header (Table 2.18), captured with record number `n`. The pass over the areas takes no CLK_AON cycle of its own, so the
window opens and closes at the snapshot instant. -/
def linenHeader (n : Nat) (s : State) : List Byte :=
  let t := timeOf 0 s
  let ts := t % 2 ^ 32
  let ph := t / 2 ^ 32 % 4
  fit 256 (le 4 0x4E454E4C ++ le 2 1 ++ le 2 0x00B0 ++ le 4 n ++ le 4 ts ++ le 8 (t / 1000000000 % 2 ^ 48) ++ le 4 ts ++ le 4 ts ++
    [byte (ph + 4 * ph + 16 * ph), byte s.sys.mode.num, byte s.sys.lifecycle.code, byte s.sys.resetKind] ++ le 4 s.sys.imageVersion ++
    le 4 (linkStat s) ++ le 4 s.hif.inflight.length ++ le 4 s.hif.eventsLost ++ le 4 s.hif.routeDiscards ++ le 4 s.hif.perstDiscards)

/-- A ring's entry (Table 2.20). -/
def linenRing (n : Nat) (s : State) : List Byte :=
  let r := getRing n s
  let back := ringStat n s / 2 ^ 19 % 2
  le 4 (rd Reg.hifRingCfg n s) ++ le 4 (devPosWord n s + 2 ^ 19 * back) ++ le 4 r.host ++
    le 2 (s.hif.inflight.filter fun c => c.ring == n).length ++ [byte (backlogCount r.backlog), byte r.lost]

/-- A DMA channel's entry (Table 2.20). -/
def linenChan (ch : Nat) (s : State) : List Byte :=
  let c := getChan ch s
  le 4 (rd Reg.hifDmaCfg ch s) ++ [byte (dmaState ch s), byte c.lastStatus] ++ le 2 (chanFlight ch s) ++ le 4 c.lastSeq ++ le 4 c.lateErrors

/-- The entry of a command in flight (Table 2.20). -/
def linenCmd (c : Cmd) : List Byte := [byte c.ring, if c.stage = .waiting then 2 else 1] ++ le 2 c.tag

/-- A port's entry with its prefix (R147, R567). -/
def linenPortAt (p : Nat) (s : State) : List Byte :=
  let x := getPort p s
  let own := fenceCode 2 p s
  let fence := if own = 0 ∧ portFenced p s then 1 else own
  linenPort p (prefix75 x.st.num fence (unitLevel 2 p s) (portFlags p s % 32) x.changeTs x.changePh) s

def LgClk.num : LgClk → Nat
  | .off => 0 | .locking => 1 | .running => 2 | .relock => 3

/-- A lane group's entry with its prefix (R104). -/
def linenGroupAt (g : Nat) (s : State) : List Byte :=
  let x := getGroup g s
  linenGroup g (prefix75 x.clk.num (fenceCode 3 g s) (unitLevel 3 g s) 0 x.changeTs x.changePh) s

/-- A time base's entry with its prefix (R436). -/
def linenTbAt (n : Nat) (s : State) : List Byte :=
  let x := getTb n s
  let v := tbStat n s
  let flags := fld v 2 3 + 8 * b2n (bitAt (rd Reg.timTbCfg n s) 1)
  linenTb n (prefix75 x.state.num (fenceCode 12 n s) (unitLevel 12 n s) flags x.changeTs x.changePh) s

/-- A Serge engine's entry with its prefix (R399). -/
def linenSergeAt (e : Nat) (s : State) : List Byte :=
  let x := getEng e s
  linenSerge e (prefix75 (engState e s) (fenceCode 11 e s) (unitLevel 11 e s) 0 x.changeTs x.changePh) s

/-- Offsets 0x0000 to 0xFFEF of the record (Table 2.17). -/
def linenBody (n : Nat) (s : State) : List Byte :=
  fit 65520 (linenHeader n s ++ faultArea s ++ linenFences s ++
    ((List.range 256).flatMap fun k => linenRing k s) ++ ((List.range 64).flatMap fun k => linenChan k s) ++
    fit 4096 (s.hif.inflight.flatMap linenCmd) ++ ((List.range 1024).flatMap fun p => linenPortAt p s) ++
    ((List.range 16).flatMap fun g => linenGroupAt g s) ++ ((List.range 128).flatMap fun j => jobEntry j s) ++
    linenBuffer s ++ linenPools s ++ powerArea s ++ ((List.range 4).flatMap fun n => linenTbAt n s) ++ tableArea s ++
    ((List.range 8).flatMap fun e => linenSergeAt e s))

/-- The first queued SUMMARY starts (R73, R74): the record is captured and written on DC00, and its flush read sent. -/
def startSummary (s : State) : State :=
  match s.hif.sumWait with
  | [] => s
  | j :: rest =>
    let n := (s.hif.sumCount + 1) % 2 ^ 32
    let body := linenBody n s
    let s := { s with hif := { s.hif with sumRun := some j, sumWait := rest, sumRecord := body, sumCount := n } }
    let s := match j.cmd with
      | none => s
      | some ref => setChan 0 { getChan 0 s with lastSeq := ref.seq } s
    emit (.flushRead (j.addr + 0xFFEF)) (writeHost j.addr body s)

/-- A queued SUMMARY starts once the one before it has ended (R73). -/
def execSummaryQueueStart (s : State) : Res := .next (whenOpen s (if s.hif.sumRun.isSome then s else startSummary s))

end Sys2Proof.Machine
end

