-- ==== Sys2Proof/Machine/Parse.lean ====
section
/-! DEFINITION. Frames as they arrive, parse threads and parse microwords (4.2, 6.2 to 6.5). -/
namespace Sys2Proof.Machine

/-! ### Frames received whole (R109, R111, R568) -/

/-- A MAC control frame is consumed (R568): PAUSE and PFC act as R127 states, any other opcode has no effect. -/
def macControl (p : Nat) (frame : List Byte) (s : State) : State :=
  let op := beAt frame 14 2
  let s := if op = 0x0001 ∨ op = 0x0101 then
      (if op = 0x0001 then pauseReceive p (beAt frame 16 2) s
       else pfcReceive p (beAt frame 16 2) ((List.range 8).map fun c => beAt frame (18 + 2 * c) 2) s)
    else s
  countGood p frame.length (frame.take 6) s

/-- The tag of a received packet as it enters stage 1 (R174, R426). -/
def rxTag (p : Nat) (s : State) : Tag :=
  let z := stampOf (pktTb s) s
  { inPort := p, pipeIn := pipeOfPort p s, rxTs := z.1, rxPh := z.2, tb := pktTb s }

/-- A frame finds the input of a pipe full whose panel runs below step 7: it is discarded and counted (R462). Entries older than
1 ms are let go. -/
def throttleDrop (pipe : Nat) (s : State) : State :=
  { s with pwr := { s.pwr with throttled := (pipe, s.aon) :: s.pwr.throttled.filter fun e => decide (s.aon - e.2 < 250000) } }

/-- A frame is received whole by a port's MAC (R109, R111, R568): counted, and discarded or passed to its pipe. Pipes
take frames in FORWARD, DEGRADED and DRAIN only (Table 19.1). `inputFull`: the input of the pipe is full; its capacity and drain are
timing (R462). -/
def execFrameReceive (port : Nat) (frame : List Byte) (codewords : List Nat) (inputFull : Bool) (s : State) : Res :=
  within (decide (port < 1024))
    (if !frameTaken port s then s
    else match macCheck port frame codewords s with
      | some c => countPort port c 1 s
      | none =>
        if beAt frame 12 2 = 0x8808 then macControl port frame s
        else
          let s := countGood port frame.length (frame.take 6) s
          if !s.sys.mode.forwards then s
          else if inputFull ∧ domStep (panelDom (pipeOfPort port s / 4)) s < 7 then throttleDrop (pipeOfPort port s) s
          else (newPkt { tag := rxTag port s, pipe := pipeOfPort port s, frame := frame.take (frame.length - 4),
                         rxTotal := timeOf (pktTb s) s } s).2)

/-! ### Parse threads (R172 to R174) -/

/-- Parse threads of a pipe in use. -/
def threadsBusy (pipe : Nat) (s : State) : Nat :=
  (s.pip.pkts.filter fun e => decide (e.2.stage = .parsing) && e.2.pipe == pipe).length

/-- First word of a packet's parse (R174). -/
def firstWord (p : Pkt) (s : State) : Nat := if p.tag.flag 10 then rdFld Reg.parseCfg 0 8 12 s else 0

/-- A packet takes a thread. -/
def startParse (i : Nat) (s : State) : State :=
  let p := getPkt i s
  let s := setPkt i { p with stage := .parsing, pc := firstWord p s, cursor := 0, steps := 0, key := zeros 128, hashIn := [] } s
  let s := countPipe p.pipe 0 1 s
  { s with pip := { s.pip with peak := tmod s.pip.peak p.pipe fun k => max k (min 192 (threadsBusy p.pipe s)) } }

/-- A parse thread is assigned to a packet once its first 64 bytes, or the whole frame, are there (R172). -/
def execParseThreadAssign (src : ThreadSrc) (s : State) : Res :=
  match src with
  | .waiting i =>
    .next (if atStage i .input s ∧ threadsBusy (getPkt i s).pipe s < 192 then startParse i s else s)
  | .arriving port first =>
    within (decide (port < 1024))
      (if !frameTaken port s ∨ !s.sys.mode.forwards ∨ first.length < 64 ∨ beAt first 12 2 = 0x8808 ∨
          threadsBusy (pipeOfPort port s) s ≥ 192 then s
      else
        let (i, s) := newPkt { tag := rxTag port s, pipe := pipeOfPort port s, frame := first, ended := false,
                               rxTotal := timeOf (pktTb s) s } s
        startParse i (setArriving i { live := true, port := port, bytes := first } s))

/-! ### Microwords (Table 6.2, R177) -/

/-- Bytes of the frame that are available to parse (R181). -/
def Pkt.avail (p : Pkt) : Nat := if p.ended then p.frame.length else p.frame.length - 4

/-- Bytes that a word needs from the cursor (R181). -/
def wordExtent (w : Nat) : Nat :=
  let sel := if fld w 12 2 = 1 then fld w 24 8 + 2 else 0
  let e0 := if fld w 168 5 ≠ 0 then fld w 160 8 + fld w 168 5 else 0
  let e1 := if fld w 188 5 ≠ 0 then fld w 180 8 + fld w 188 5 else 0
  let ln := if bitAt w 200 then fld w 209 8 + 1 else 0
  max (fld w 16 8) (max sel (max e0 (max e1 ln)))

/-- Extract `i` of a word (R177 step 2): into the key buffer, and to the hash input, which holds 64 bytes (R185). -/
def doExtract (w src len dst hashBit : Nat) (p : Pkt) : Pkt :=
  let n := fld w len 5
  if n = 0 then p
  else
    let b := slice p.frame (p.cursor + fld w src 8) n
    let p := { p with key := splice p.key (fld w dst 7) b }
    if bitAt w hashBit then
      { p with hashIn := (p.hashIn ++ b).take 64, hashCut := p.hashCut || decide ((p.hashIn ++ b).length > 64) }
    else p

/-- The next word of a MATCH (R177 step 4). -/
def matchNext (w v : Nat) : Nat :=
  let m := v &&& fld w 32 16
  if bitAt w 237 ∧ m = fld w 48 16 then fld w 64 12
  else if bitAt w 238 ∧ m = fld w 76 16 then fld w 92 12
  else if bitAt w 239 ∧ m = fld w 104 16 then fld w 120 12
  else if bitAt w 240 ∧ m = fld w 132 16 then fld w 148 12
  else fld w 0 12

/-- Steps 1 to 5 of a word (R177). -/
def runWord (w : Nat) (p : Pkt) : Pkt :=
  let c := p.cursor
  let p := if bitAt w 234 then { p with tag := p.tag.setSlot (fld w 230 4) c } else p
  let p := doExtract w 180 188 193 236 (doExtract w 160 168 173 235 p)
  let t := if bitAt w 245 then p.tag.setFlag (fld w 241 4) else p.tag
  let t := if bitAt w 246 then { t with kind := fld w 247 5 } else t
  let v := byteAt p.frame (c + fld w 24 8) * 256 + byteAt p.frame (c + fld w 24 8 + 1)
  let next := if fld w 12 2 = 1 then matchNext w v else fld w 0 12
  let adv := if bitAt w 200 then
      ((byteAt p.frame (c + fld w 209 8) &&& fld w 217 8) / 2 ^ fld w 225 3) * 2 ^ fld w 228 2 + fld w 201 8
    else fld w 201 8
  { p with tag := t, pc := next, cursor := c + adv, steps := p.steps + 1 }

/-- FLOW_HASH (R185). -/
def flowHash (seed : Nat) (bs : List Byte) : Nat := bs.foldl (crcByte 0x82F63B78) seed

/-- A parse ends and its tag is formed (R179, R183, R185, R189): slot 15, PAYLOAD_CAP, HASH_TRUNC, FLOW_HASH. -/
def endParse (i : Nat) (err : Option Nat) (p : Pkt) (s : State) : State :=
  let t := p.tag.setSlot 15 (min p.cursor 254)
  let t := if p.cursor > 254 then t.setFlag 15 else t
  let t := if p.hashCut then t.setFlag 9 else t
  let t := if p.hashGiven then t else { t with hash := flowHash (rd Reg.parseSeed 0 s) p.hashIn }
  let t := match err with
    | none => t
    | some e => t.setErr e
  setPkt i { p with tag := t, stage := .parsed } s

/-- A parse microword issues once its bytes are available (R177, R181 to R183). The checks of R183 come in its order; a
word that must wait does not issue. -/
def execParseWord (pkt : Nat) (s : State) : Res :=
  let p := getPkt pkt s
  .next (if !atStage pkt .parsing s then s
    else if p.steps ≥ rdFld Reg.parseCfg 0 0 8 s then endParse pkt (some 2) p s
    else
      let u := upsetOf memParse (p.pipe * 4096 + p.pc) s
      if u = 2 then endParse pkt (some 4) p (report 64 4 p.pipe (le 8 p.pc) s)
      else
        let s := if u = 1 then report 65 4 p.pipe (le 8 p.pc) (clearUpset memParse (p.pipe * 4096 + p.pc) s) else s
        let w := tget s.pip.store p.pc
        let need := p.cursor + wordExtent w
        if need > 256 ∨ (bitAt w 234 ∧ p.cursor ≥ 255) then endParse pkt (some 1) p s
        else if need > p.avail then
          if !p.ended then s
          else endParse pkt (if bitAt w 14 then none else some 0) p s
        else
          let q := runWord w p
          if fld w 12 2 = 2 then endParse pkt none q s
          else if fld w 12 2 = 3 then endParse pkt (some 3) q s
          else setPkt pkt q s)

/-- PARSE_READ copies parse store words as corrected, and a word with an uncorrectable error as it stands (R194). -/
def parseReadCmd (c : Cmd) (s : State) : State × CmdEnd :=
  let pipe := c.op 0 1
  let first := c.op 2 2
  let n := c.op 4 2
  if pipe > 15 ∨ n < 1 ∨ n > 4096 ∨ first + n > 4096 ∨ c.len ≠ 32 * n then fail BAD_PARAM s
  else if (getUnit 4 pipe s).state = .fenced then fail ST_FENCED s
  else
    let words := (List.range n).map (first + ·)
    let bad := words.filter fun a => upsetOf memParse (pipe * 4096 + a) s == 2
    let s := bad.foldl (fun s a => report 64 4 pipe (le 8 a) s) s
    let soft := words.filter fun a => upsetOf memParse (pipe * 4096 + a) s == 1
    let s := soft.foldl (fun s a => report 65 4 pipe (le 8 a) (clearUpset memParse (pipe * 4096 + a) s)) s
    let data := words.flatMap fun a => le 32 (tget s.pip.store a ^^^ flipsOf memParse (pipe * 4096 + a) s)
    (s, .done { status := if bad = [] then 0 else TARGET_ECC, data := data })

/-- The command ParseRead. -/
def execParseRead (ref : CmdRef) (s : State) : Res := .next (runCmd 0xA8 ref parseReadCmd s)

/-- PIPE_PARSE_STAT (Table 6.14). -/
def parseStat (n : Nat) (s : State) : Nat := tget s.pip.peak n + 256 * b2n s.pip.loaded
/-- A read of PIPE_PARSE_STAT starts PEAK_THREADS again from the threads that are busy now (Table 6.14). -/
def clearPeak (n : Nat) (s : State) : State :=
  { s with pip := { s.pip with peak := tset s.pip.peak n (min 192 (threadsBusy n s)) } }

/-- A write of PIPE_PARSE_CFG: MAX_STEPS 0 is ignored (Table 6.11). -/
def writeParseCfg (v : Nat) (s : State) : State :=
  wrRw Reg.parseCfg 0 (if fld v 0 8 = 0 then setFld v 0 8 (rdFld Reg.parseCfg 0 0 8 s) else v) s

end Sys2Proof.Machine
end

