-- ==== Sys2Proof/Machine/Sched.lean ====
section
/-! DEFINITION. Dequeue decisions, ticks and wheels, sampling and the scheduling commands (chapter 10). -/
namespace Sys2Proof.Machine

/-- A port that can take a frame selects a queue and sends its head packet (R300 to R305): the shapers are charged, the
delay is recorded, the queue's counters rise. -/
def dequeue (p q i : Nat) (ets : Bool) (s : State) : State :=
  let x := getPkt i s
  let tick := tget s.sch.ticks (p / 256)
  let delay := sat 32 (refNs s - x.admNs)
  let s := stepTags p q x.len ets s
  let s := setShaper (20480 + p) ((getShaper (20480 + p) s).charge x.len tick) (setShaper q ((getShaper q s).charge x.len tick) s)
  let s := if sampleOn s then { s with sch := { s.sch with win := tmod s.sch.win q fun w => w.delay delay } } else s
  let depth := queueDepth q s
  let s := countQueue q 3 x.len (countQueue q 2 1 (leaveQueue i q s))
  let s := setPkt i { x with stage := .egress, depth := depth, tag := { x.tag with qdelay := delay } } s
  modPort p (fun y => { y with sending := some i }) s

/-- A dequeue decision of a port (R300). -/
def execDequeueDecision (port : Nat) (s : State) : Res :=
  within (decide (port < 1024))
    (if (getPort port s).sending.isSome ∨ portWidth port s = 0 ∨ !s.sys.mode.forwards then s
    else
      let s := lookPort port (flushPort port s)
      match selectQueue port s with
      | none => s
      | some (q, ets) => match (getQ q s).pkts with
        | [] => s
        | i :: _ => lookPort port (dequeue port q i ets s))

/-! ### Ticks and wheels (R307 to R309) -/

/-- A shaper's state is read: with an uncorrectable error its bucket restarts full and unparked (FC114), a correctable one is
mended (FC113). -/
def meetShaper (k : Nat) (s : State) : State :=
  match upsetOf memShaper k s with
  | 1 => tmFault 113 (shaperPanel k) k (clearUpset memShaper k s)
  | 2 =>
    let x := getShaper k s
    tmFault 114 (shaperPanel k) k (clearUpset memShaper k (setShaper k { x with tokens := x.burst * 65536, due := none, far := false } s))
  | _ => s

/-- The state of a panel's shapers is read. -/
def meetShapers (panel : Nat) (s : State) : State :=
  ((upsetItems memShaper s).filter fun e => decide (shaperPanel e.1 = panel)).foldl (fun s e => meetShaper e.1 s) s

/-- Every 64 ns, every shaper of a panel refills and takes the writes that wait (R307, R310). -/
def execShaperTick (panel : Nat) (s : State) : Res :=
  within (decide (panel < 4))
    (let s := meetShapers panel s
    let now := tget s.sch.ticks panel + 1
    { s with sch := { s.sch with
        ticks := tset s.sch.ticks panel now
        shapers := tmap s.sch.shapers fun k x => if shaperPanel k = panel then x.tick now else x } })

/-- A slot of a panel's wheel comes due: its entries leave the wheel, and their queues and ports wake (R308). -/
def execWheelSlotDue (panel : Nat) (s : State) : Res :=
  within (decide (panel < 4))
    (let now := tget s.sch.ticks panel
    let wake := fun (k : Nat) (x : Shaper) => match x.due with
      | none => x
      | some d => if shaperPanel k = panel ∧ d ≤ now ∧ !x.far then { x with due := none } else x
    { s with sch := { s.sch with shapers := tmap s.sch.shapers wake } })

/-- A slot of the overflow wheel comes due: its entries move to the main wheel at their exact ticks (R309). An entry beyond the
wheel's span keeps the tick that each computation in the farthest slot gives again, since only a write changes it. -/
def execOverflowSlotDue (panel : Nat) (s : State) : Res :=
  within (decide (panel < 4))
    (let now := tget s.sch.ticks panel
    let move := fun (k : Nat) (x : Shaper) => match x.due with
      | none => x
      | some d => if shaperPanel k = panel ∧ x.far ∧ d / 4096 ≤ now / 4096 then { x with far := false } else x
    { s with sch := { s.sch with shapers := tmap s.sch.shapers move } })

/-! ### Sampling (R314, R315) -/

/-- Every queue's depth is sampled (R314). -/
def execDepthSample (s : State) : Res :=
  .next (if !sampleOn s then s
    else
      let d : Tab Nat := s.buf.queues.foldl (fun t e => tset t e.1 (queueDepth e.1 s)) []
      { s with sch := { s.sch with depth := d, taken := s.sch.taken + 1
                                   win := d.foldl (fun t e => tmod t e.1 fun w => w.depth e.2) s.sch.win } })

/-- A 100 µs window closes (R315). -/
def execSampleWindowClose (s : State) : Res := .next (if sampleOn s then closeWindow false s else s)

/-! ### Commands (Table 10.7) -/

/-- A port scheduling record obeys Table 10.1 and R305. -/
def schRecOk (r : Nat) : Bool :=
  let mask := etsMask r
  let levels := (List.range 8).filter fun l => bitAt mask l
  (List.range 16).all (fun i => decide (ucWeight r i ≠ 0)) && (List.range 4).all (fun m => decide (mcWeight r m ≠ 0)) &&
  decide (fld r 168 24 = 0) &&
  (decide (mask = 0) || (levels.all (fun l => decide (1 ≤ etsWeight r l) && decide (etsWeight r l ≤ 100)) &&
    decide ((levels.map fun l => etsWeight r l).foldl (· + ·) 0 = 100)))

/-- SCH_PORT_WRITE writes or reads port scheduling records (R305, R318). -/
def schPortWriteCmd (c : Cmd) (host : HostAns) (s : State) : State × CmdEnd :=
  let first := c.op 0 2
  let n := c.op 2 2
  if n < 1 ∨ n > 1024 ∨ first + n > 1024 ∨ c.len ≠ 32 * n ∨ !flagOk c 4 then fail BAD_PARAM s
  else if readFlag c 4 then okayData ((List.range n).flatMap fun k => le 32 (schRec (first + k) s)) s
  else withHost c host s fun bs =>
    let recs := (List.range n).map fun k => leAt bs (32 * k) 32
    if !recs.all schRecOk then fail BAD_PARAM s
    else okay { s with sch := { s.sch with recs := recs.zipIdx.foldl (fun t r => tsetD t (first + r.2) r.1 resetSchRec) s.sch.recs } }

/-- The command SchPortWrite. -/
def execSchPortWrite (ref : CmdRef) (host : HostAns) (s : State) : Res := .next (runCmd 0x38 ref (fun c => schPortWriteCmd c host) s)

/-- A shaper record obeys Table 10.2; the bucket size of a shaper that is off is free to be 0, as at reset. -/
def shaperOk (r : Nat) : Bool :=
  let o := toS 8 (fld r 64 8)
  decide (fld r 0 32 ≤ 1600000000) && decide (fld r 32 32 ≤ 16777216) && (decide (fld r 32 32 ≥ 64) || decide (fld r 0 64 = 0)) &&
  decide (-64 ≤ o) && decide (o ≤ 63) && decide (fld r 72 8 < 2) && decide (fld r 80 16 = 0)

/-- A shaper's record as a read returns it: the values last written, live TOKENS. -/
def shaperBytes (x : Shaper) : List Byte :=
  let (r, b, o) := x.next.getD (x.rate, x.burst, x.ovh)
  le 4 r ++ le 4 b ++ le 1 (ofS 8 o) ++ [byte (b2n x.clear), 0, 0] ++ le 4 (ofS 32 (x.tokens / 65536))

/-- SCH_SHAPER_WRITE writes or reads shaper records; a write waits for the next tick (R310). -/
def schShaperWriteCmd (c : Cmd) (host : HostAns) (s : State) : State × CmdEnd :=
  let first := c.op 0 4
  let n := c.op 4 4
  if n < 1 ∨ n > 4096 ∨ first + n > 21504 ∨ c.len ≠ 16 * n ∨ !flagOk c 8 then fail BAD_PARAM s
  else if readFlag c 8 then okayData ((List.range n).flatMap fun k => shaperBytes (getShaper (first + k) s)) s
  else withHost c host s fun bs =>
    let recs := (List.range n).map fun k => leAt bs (16 * k) 16
    if !recs.all shaperOk then fail BAD_PARAM s
    else okay (recs.zipIdx.foldl (fun s r =>
      let x := getShaper (first + r.2) s
      setShaper (first + r.2) { x with next := some (fld r.1 0 32, fld r.1 32 32, toS 8 (fld r.1 64 8)), clear := x.clear || bitAt r.1 72 } s) s)

/-- The command SchShaperWrite. -/
def execSchShaperWrite (ref : CmdRef) (host : HostAns) (s : State) : Res := .next (runCmd 0x39 ref (fun c => schShaperWriteCmd c host) s)

/-- A meter record obeys Table 10.4 and R313; the buckets of a meter that is off are free to be 0, as at reset. -/
def meterOk (r : Nat) : Bool :=
  let mode := fld r 0 8
  let o := toS 8 (fld r 24 8)
  let size := fun v => decide (v ≤ 16777216) && (decide (v ≥ 1) || decide (mode = 0))
  decide (mode ≤ 2) && decide (fld r 11 5 = 0) && (!bitAt r 9 || decide (mode = 2)) && decide (fld r 16 8 ≤ 2) &&
  decide (-64 ≤ o) && decide (o ≤ 63) && decide (fld r 32 32 ≤ 1600000000) && decide (fld r 64 32 ≤ 1600000000) &&
  (decide (mode ≠ 1) || decide (fld r 32 32 ≤ fld r 64 32)) && size (fld r 96 32) && size (fld r 128 32) && decide (fld r 224 32 = 0)

/-- A meter written (R313): full buckets, or with KEEP_STATE the present tokens cut to the new sizes. -/
def writeMeter (k r : Nat) (s : State) : State :=
  let now := refNs s
  let m := (tget s.tbl.meters k).refill now
  let cbs := fld r 96 32 * 65536
  let pbs := fld r 128 32 * 65536
  let m' : Meter := { cfg := r % 2 ^ 160, tc := if bitAt r 10 then min m.tc cbs else cbs, tp := if bitAt r 10 then min m.tp pbs else pbs, last := now }
  clearUpset memMeter k { s with tbl := { s.tbl with meters := tset s.tbl.meters k m' } }

/-- A meter's record with live TC and TP. -/
def meterBytes (k : Nat) (s : State) : List Byte :=
  let m := (tget s.tbl.meters k).refill (refNs s)
  le 20 m.cfg ++ le 4 (m.tc / 65536) ++ le 4 (m.tp / 65536) ++ zeros 4

/-- SCH_METER_WRITE writes or reads meter records (R313). -/
def schMeterWriteCmd (c : Cmd) (host : HostAns) (s : State) : State × CmdEnd :=
  let first := c.op 0 4
  let n := c.op 4 4
  if n < 1 ∨ n > 4096 ∨ first + n > 65536 ∨ c.len ≠ 32 * n ∨ !flagOk c 8 then fail BAD_PARAM s
  else if readFlag c 8 then okayData ((List.range n).flatMap fun k => meterBytes (first + k) s) s
  else withHost c host s fun bs =>
    let recs := (List.range n).map fun k => leAt bs (32 * k) 32
    if !recs.all meterOk then fail BAD_PARAM s
    else okay (recs.zipIdx.foldl (fun s r => writeMeter (first + r.2) r.1 s) s)

/-- The command SchMeterWrite. -/
def execSchMeterWrite (ref : CmdRef) (host : HostAns) (s : State) : Res := .next (runCmd 0x3A ref (fun c => schMeterWriteCmd c host) s)

/-- A queue sample record (Table 10.5). -/
def sampleRecord (q : Nat) (s : State) : List Byte :=
  match s.sch.last with
  | none => fit 48 (le 2 q ++ [2])
  | some w =>
    let x := tget w.qs q
    let mean := fun a n => if n = 0 then 0 else a / n
    fit 48 (le 2 q ++ [byte (b2n (w.suspect || w.bad.contains q)), byte (min 255 w.samples)] ++ le 4 s.sch.seq ++ le 4 w.endTs ++ [byte (w.endPh + 4 * w.tb)] ++ zeros 3 ++
      le 4 (if x.cnt = w.samples then x.least else 0) ++ le 4 x.most ++ le 4 (mean x.sum w.samples) ++ le 4 x.dleast ++ le 4 x.dmost ++
      le 4 (mean x.dsum x.pkts) ++ le 4 (sat 32 x.pkts))

/-- SCH_SAMPLE_READ copies queue sample records (R316). -/
def schSampleReadCmd (c : Cmd) (s : State) : State × CmdEnd :=
  let first := c.op 0 2
  let n := c.op 2 2
  if n < 1 ∨ n > 4096 ∨ first + n > 20480 ∨ c.len ≠ 48 * n then fail BAD_PARAM s
  else okayData ((List.range n).flatMap fun k => sampleRecord (first + k) s) s

/-- The command SchSampleRead. -/
def execSchSampleRead (ref : CmdRef) (s : State) : Res := .next (runCmd 0x3B ref schSampleReadCmd s)

/-- SCH_TM_STAT (Table 10.9). -/
def tmStat (panel : Nat) (s : State) : Nat :=
  let on := s.sch.shapers.filter fun e => decide (shaperPanel e.1 = panel) && e.2.due.isSome
  (on.filter fun e => !e.2.far).length + 65536 * (on.filter fun e => e.2.far).length

end Sys2Proof.Machine
end

