-- ==== Sys2Proof/Machine/Slotted.lean ====
section
/-! DEFINITION. The commands and events of the slotted layer (05_slotted_layer.md). -/
namespace Sys2Proof.Machine

/-- SLT_CTRL.ENABLE: the slotted layer runs. -/
def sltOn (s : State) : Bool := bitAt (rd Reg.sltCtrl 0 s) 0

/-! ### Enable and disable (R151, R170) -/

/-- A port is a PHY of a PHY_SPEED in a mode of Table 5.1. -/
def isPhy (p speed : Nat) (s : State) : Bool :=
  let r := rateOf (macroOf p) s
  let g := portGbps p s
  decide (p < 1024) && decide (1 ≤ r ∧ r ≤ 3) &&
    (if speed = 1 then decide (g = 100) else if speed = 2 then decide (g = 200) else if speed = 3 then decide (g = 400) else false)

/-- The slot range of a group (R149): a multiple of 20, its end at or below 2,559, clear of every other enabled
group's. -/
def rangeOk (g base slots : Nat) (s : State) : Bool :=
  decide (base % 20 = 0) && decide (base + slots ≤ 2560) &&
  (List.range 32).all fun h => decide (h = g) || !grpOn h s ||
    decide (slotBase h s + grpSlots h s ≤ base) || decide (base + slots ≤ slotBase h s)

/-- Whether a write of SLT_GROUP_CFG that sets ENABLE is accepted (R170); GROUP_NUM 0 is invalid (Table 5.12). -/
def groupCfgOk (g v : Nat) (s : State) : Bool :=
  let x := getGrp g s
  let speed := fld v 22 2
  sltOn s && !x.members.isEmpty && decide (fld v 0 20 ≠ 0) && x.members.all (fun m => isPhy m.1 speed s) &&
    rangeOk g (slotBase g s) (20 * (x.members.length * phyInsts speed)) s

/-- A write of SLT_GROUP_CFG (R169, R170). -/
def writeGroupCfg (g v : Nat) (s : State) : State :=
  let x := getGrp g s
  if bitAt v 20 then
    if x.st ≠ .disabled ∨ x.held then s
    else if groupCfgOk g v s then
      let s := modGrp g (fun x => { x with cfgErr := false }) (wrRw Reg.sltGroupCfg g v s)
      grpTryAlign g (sendOverhead g (grpTo g .down 0 s))
    else modGrp g (fun x => { x with cfgErr := true }) s
  else if x.st = .disabled then modGrp g (fun x => { x with held := false }) (wrRw Reg.sltGroupCfg g v s)
  else grpTo g .disabled 0 (wrFld Reg.sltGroupCfg g 20 1 0 s)

/-- A write of SLT_GROUP_BASE, ignored while the group is enabled (R170). -/
def writeGroupBase (g v : Nat) (s : State) : State := if grpOn g s then s else wrRw Reg.sltGroupBase g v s

/-- Setting SLT_GROUP_CFG.ENABLE is checked and takes a group to DOWN (R170). -/
def execGroupEnable (group : Nat) (value : Word) (s : State) : Res :=
  within (decide (group < 32)) (whenOpen s (if bitAt value.toNat 20 then writeGroupCfg group value.toNat s else s))

/-- Clearing SLT_GROUP_CFG.ENABLE takes a group to DISABLED (R151). -/
def execGroupDisable (group : Nat) (value : Word) (s : State) : Res :=
  within (decide (group < 32)) (whenOpen s (if bitAt value.toNat 20 then s else writeGroupCfg group value.toNat s))

/-! ### Alignment (5.3) -/

/-- P, the overhead period in blocks. -/
def overheadPeriod : Nat := 163688

def getInst (g i : Nat) (s : State) : Inst := tget (getGrp g s).insts i
def setInst (g i : Nat) (x : Inst) (s : State) : State := modGrp g (fun y => { y with insts := tset y.insts i x }) s

/-- An instance of an enabled group: what it receives is looked at. It searches for frame lock while its group is ALIGNING or UP
(Table 5.2); frame lock, once found, is watched in DOWN too (R155). -/
def instLive (g i : Nat) (s : State) : Bool := grpOn g s && decide (i < grpInsts g s)
def instSearches (g i : Nat) (s : State) : Bool :=
  decide ((getGrp g s).st = .aligning ∨ (getGrp g s).st = .up) && decide (i < grpInsts g s) && !(getInst g i s).frameLock

/-- A frame-start pattern at a block while the search runs (R153, R154): confirm the candidate that expects it, hold
it as a new candidate, or ignore it. The answer says whether it was ignored. -/
def Inst.sight (x : Inst) (block : Nat) : Inst × Bool :=
  let cs := x.cands.filter fun c => decide (block ≤ c.block + overheadPeriod)
  match cs.find? fun c => decide (c.block + overheadPeriod = block) with
  | some c =>
    if c.confirms = 1 then ({ frameLock := true, pos := block }, false)
    else ({ x with cands := cs.map fun d => if d = c then { block := block, confirms := 1 } else d }, false)
  | none =>
    if cs.length < 4 then ({ x with cands := cs ++ [{ block := block }] }, false) else ({ x with cands := cs }, true)

/-- A frame-start pattern is seen, and a candidate is held, confirmed or ignored (R153, R154). -/
def execFrameStartPattern (group inst block : Nat) (s : State) : Res :=
  within (decide (group < 32))
    (if !instSearches group inst s then s
    else
      let r := (getInst group inst s).sight block
      let s := setInst group inst r.1 s
      if r.2 then modGrp group (fun x => { x with ignored := sat 32 (x.ignored + 1) }) s else s)

/-- Lock is lost: counted, and an UP group goes to ALIGNING (Table 5.2, R165). -/
def instLost (g : Nat) (s : State) : State :=
  let s := modGrp g (fun x => { x with sec := { x.sec with lockLosses := x.sec.lockLosses + 1 } }) s
  if (getGrp g s).st = .up then grpTo g .aligning 2 s else s

/-- An expected overhead position passes (R153, R155): a candidate is confirmed or discarded; in frame lock, the third
miss in succession loses frame lock and with it multiframe lock. -/
def execOverheadPosition (group inst block : Nat) (pattern : Bool) (s : State) : Res :=
  let x := getInst group inst s
  within (decide (group < 32))
    (if !instLive group inst s then s
    else if !x.frameLock then
      if !instSearches group inst s then s
      else if pattern then (if x.cands.any (fun c => decide (c.block + overheadPeriod = block)) then setInst group inst (x.sight block).1 s else s)
      else setInst group inst { x with cands := x.cands.filter fun c => decide (c.block + overheadPeriod ≠ block) } s
    else if block ≠ x.pos + overheadPeriod then s
    else if pattern then setInst group inst { x with pos := block, misses := 0 } s
    else if x.misses + 1 < 3 then setInst group inst { x with pos := block, misses := x.misses + 1 } s
    else instLost group (setInst group inst {} s))

/-- A misplaced or missing OMF transition in multiframe lock; the second in succession loses it (R156). -/
def omfMiss (g i : Nat) (x : Inst) (s : State) : State :=
  if x.omfBad = 0 then setInst g i { x with omfBad := 1 } s
  else instLost g (setInst g i { x with mfLock := false, omfBad := 0, omfPos := none } s)

/-- The OMF bit of the overhead frame at an instance's present position (R156). Two transitions 16 frames apart declare
multiframe lock; a transition elsewhere while it hunts is the first of a new pair. In lock, a transition elsewhere and a place
16 frames on without one are bad. -/
def execMultiframeLock (group inst : Nat) (omf : Bool) (s : State) : Res :=
  let x := getInst group inst s
  let y := { x with omf := some omf }
  let turned := decide (x.omf = some (!omf))
  let due := match x.omfPos with
    | none => false
    | some p => decide (x.pos = p + 16 * overheadPeriod)
  within (decide (group < 32))
    (if !instLive group inst s ∨ !x.frameLock then s
    else if x.mfLock then
      if due then
        (if turned then setInst group inst { y with omfBad := 0, omfPos := some x.pos } s
        else omfMiss group inst { y with omfPos := some x.pos } s)
      else if turned then omfMiss group inst y s
      else setInst group inst y s
    else if !turned then setInst group inst y s
    else if due then grpTryUp group (setInst group inst { y with mfLock := true, omfBad := 0, omfPos := some x.pos } s)
    else setInst group inst { y with omfPos := some x.pos } s)

/-! ### Overhead (R159, R163) -/

/-- CA: the requested calendar once it passes the check of CAL_MISMATCH, else the calendar in use (R163). -/
def answerCa (g : Nat) (s : State) : State :=
  let x := getGrp g s
  let ca := if calOk g x.rxCr s then x.rxCr else x.rxCal
  if ca = x.txCa then s else sendOverhead g (setGrp g { x with txCa := ca } s)

/-- The alarms that a received overhead sets (Table 5.4), and their effect on the group. -/
def labelAlarms (g : Nat) (s : State) : State :=
  let s := showAlarms g s
  if (getGrp g s).st ≠ .up then s
  else if anyInst g (fun n => n.badNum || n.badMap || n.badPhy) s then grpTo g .aligning 3 s
  else if anyInst g (fun n => decide (n.skewNs > 10000)) s then grpTo g .aligning 4 s
  else s

/-- A received overhead frame is checked against the payload labels, and its calendars, CR and CA are taken (R155,
R158 to R160, R163). -/
def execOverheadFrame (group inst : Nat) (oh : Overhead) (s : State) : Res :=
  let n := phyInsts (grpSpeed group s)
  within (decide (group < 32))
    (if !instLive group inst s ∨ !(getInst group inst s).frameLock then s
    else if !oh.crcOk then
      setAlarm group 6 0xFF true (modGrp group (fun x => { x with sec := { x.sec with crc := x.sec.crc + 1 } }) s)
    else
      let x := getGrp group s
      let phy := (x.members.getD (inst / n) (0, 0)).2
      let y := { getInst group inst s with
        ohSeen := true, calA := oh.calA, calB := oh.calB, rpf := oh.rpf, skewNs := oh.skewNs
        badNum := decide (oh.groupNum ≠ rdFld Reg.sltGroupCfg group 0 20 s), badMap := decide (oh.phyMap ≠ phyMapOf x)
        badPhy := decide (oh.phyNum ≠ phy) || decide (oh.instNum ≠ inst % n) }
      let s := modGrp group (fun x => { x with
        maxSkew := max x.maxSkew oh.skewNs, rxC := oh.c % 2, rxCr := oh.cr % 2, rxCa := oh.ca % 2
        rxCal := if x.st = .up then x.rxCal else oh.c % 2 }) (setInst group inst y s)
      sendAll (answerCa group (applyCal group (grpTryUp group (labelAlarms group s)))))

/-- Add to both current bins (R164, R165). -/
def countBins (f : PmBin → PmBin) (s : State) : State :=
  let g := fun b => if b.running then f b else b
  { s with slt := { s.slt with bin15 := g s.slt.bin15, binDay := g s.slt.binDay } }

/-- A calendar switch happened: counted and posted (R163, R165). -/
def switched (g dir cal : Nat) (s : State) : State :=
  post 0x9023 [byte g, byte dir, byte cal]
    (countBins (fun b => { b with groups := tmod b.groups g fun x => { x with switches := sat 32 (x.switches + 1) } }) s)

/-- At a multiframe start, the transmit C is set to the standby calendar once the handshake allows it (R163). -/
def execCalendarSwitch (group : Nat) (s : State) : Res :=
  let x := getGrp group s
  let t := timeOf (tsBase s) s
  within (decide (group < 32))
    (match x.switching with
    | none => s
    | some ref =>
      if bitAt (rd Reg.sltGroupCfg group s) 21 && decide (x.rxCa ≠ x.txCr) then s
      else
        let cal := 1 - x.txCal
        let s := sendOverhead group (setGrp group { x with txCal := cal, txCr := cal, switching := none } s)
        let s := applyCals (switched group 0 cal s)
        finishRef ref { payload := le 8 (t / 1000000000) ++ le 4 (t % 1000000000) } s)

/-- 10 ms pass without a matching CA: the switch is abandoned with FC052 (R163). -/
def execCalSwitchTimeout (group : Nat) (s : State) : Res :=
  let x := getGrp group s
  within (decide (group < 32))
    (if x.switching.isSome ∧ bitAt (rd Reg.sltGroupCfg group s) 21 ∧ x.rxCa ≠ x.txCr then
      endSwitch group 0x82 (report 52 13 group [byte group] s)
    else s)

/-- At the boundary for a received C change, the receive client map changes (R163). -/
def execRxCalendarSwitch (group : Nat) (s : State) : Res :=
  let x := getGrp group s
  within (decide (group < 32))
    (if x.st = .up ∧ x.rxC ≠ x.rxCal then
      answerCa group (applyCals (switched group 1 x.rxC (setGrp group { x with rxCal := x.rxC } s)))
    else s)

/-! ### Performance (R164, R165) -/

/-- Seconds of a run that lie in a bin, and the errored ones among them. -/
def inBin (run : List Bool) (b : PmBin) : Nat × Nat :=
  let r := run.take b.seconds
  (r.length, (r.filter (·)).length)

/-- One group's second in one bin (Table 5.6); `run` includes this second where it belongs to the run. -/
def gbinSecond (x : Group) (es ses : Bool) (run : List Bool) (b : PmBin) (y : GBin) : GBin :=
  let c := inBin run b
  let y := { y with
    crc := sat 32 (y.crc + x.sec.crc), lockLosses := sat 32 (y.lockLosses + x.sec.lockLosses)
    mismatch := sat 32 (y.mismatch + b2n (x.sec.calMis || bitAt x.alarms 3)) }
  if x.unavail then
    if run.length ≥ 10 then { y with uas := y.uas + 1 - c.1, es := sat 32 (y.es + c.2) } else { y with uas := sat 32 (y.uas + 1) }
  else if run.length ≥ 10 then
    { y with es := y.es + b2n es - c.2, ses := y.ses + b2n ses - c.1, uas := sat 32 (y.uas + c.1) }
  else { y with es := sat 32 (y.es + b2n es), ses := sat 32 (y.ses + b2n ses) }

/-- A second of the PM time base ends for one group that was enabled at some instant of it (R165). Alarm CRC ends with a second
without a CRC error. -/
def groupSecond (g : Nat) (s : State) : State :=
  let x := getGrp g s
  if x.st = .disabled ∧ !x.sec.seen then (if x.sec.crc = 0 then setAlarm g 6 0xFF false s else s)
  else
    let es := decide (x.sec.crc > 0 ∨ x.sec.lockLosses > 0 ∨ x.alarms ≠ 0) || x.sec.alarm
    let ses := x.sec.notUp || decide (x.st ≠ .up) || decide (x.sec.crc ≥ 8)
    let run := if ses = x.unavail then [] else es :: x.run
    let s := countBins (fun b => { b with groups := tmod b.groups g (gbinSecond x es ses run b) }) s
    let ends := decide (run.length ≥ 10)
    let s := setGrp g { x with sec := {}, unavail := if ends then !x.unavail else x.unavail, run := if ends then [] else run } s
    if x.sec.crc = 0 then setAlarm g 6 0xFF false s else s

/-- A second of the PM time base ends for one client. -/
def clientSecond (k : Nat) (n : PmClient) (s : State) : State :=
  let c := getClient k s
  if c.kind = 0 then s
  else
    let down := c.secDown || !c.up
    let s := countBins (fun b => { b with clients := tmod b.clients k fun y => { y with
      blockErrors := sat 32 (y.blockErrors + n.blockErrors), inserted := sat 32 (y.inserted + n.inserted)
      deleted := sat 32 (y.deleted + n.deleted), down := sat 32 (y.down + b2n down)
      lf := sat 32 (y.lf + b2n (n.lf || (down && decide (c.kind = 2)))) } }) s
    setClient k { c with secDown := false } s

/-- A second of the PM time base ends and is classed per group and client (R165); while the base does not run, the
bins carry TIME_SUSPECT (R166). -/
def execPmSecond (counts : PmCounts) (s : State) : Res :=
  .next (if !sltOn s then s else
    let s := if tbRuns (pmTb s) s then s else pmSuspect s
    let s := countBins (fun b => { b with seconds := sat 32 (b.seconds + 1) }) s
    let s := (List.range 32).foldl (fun s g => groupSecond g s) s
    (List.range 256).foldl (fun s k => clientSecond k ((counts.find? fun n => n.client == k).getD {}) s) s)

/-- A 15-minute or day boundary closes the current bin and opens a new one (R164, R166). -/
def execPmBinBoundary (day : Bool) (s : State) : Res :=
  let len := if day then 86400 else 900
  let t := timeOf (pmTb s) s / 1000000000
  let start := t / len * len
  let cur := if day then s.slt.binDay else s.slt.bin15
  .next (if !tbRuns (pmTb s) s then s
    else if cur.running then closeBin day true start s
    else
      let b := { cur with running := true, start := start }
      if day then { s with slt := { s.slt with binDay := b } } else { s with slt := { s.slt with bin15 := b } })

/-! ### Commands (Table 5.8) -/

def SLOT_BUSY : Nat := 0x80
def CM_INCONSISTENT : Nat := 0x81

/-- Some element stands twice in a list. -/
def hasDup : List Nat → Bool
  | [] => false
  | x :: xs => xs.contains x || hasDup xs

/-- SLOT_GROUP_MEMBERS sets the member ports of a disabled group; a port belongs to at most one group (Table 5.1). -/
def slotGroupMembersCmd (c : Cmd) (host : HostAns) (s : State) : State × CmdEnd :=
  let g := c.op 0 1
  let n := c.op 1 1
  if g > 31 ∨ n < 1 ∨ n > 16 ∨ c.len ≠ 4 * n then fail BAD_PARAM s
  else if grpOn g s then fail SLOT_BUSY s
  else withHost c host s fun bs =>
    let ms := (List.range n).map fun i => (leAt bs (4 * i) 2, byteAt bs (4 * i + 2))
    let others := (s.slt.groups.filter fun e => decide (e.1 ≠ g)).flatMap fun e => e.2.members.map Prod.fst
    if ms.any (fun m => decide (m.1 ≥ 1024 ∨ m.2 < 1 ∨ m.2 > 254) || others.contains m.1) || hasDup (ms.map Prod.fst) ||
        hasDup (ms.map Prod.snd) then fail BAD_PARAM s
    else okay (modGrp g (fun x => { x with members := ms }) s)

/-- The command SlotGroupMembers. -/
def execSlotGroupMembers (ref : CmdRef) (host : HostAns) (s : State) : Res := .next (runCmd 0x98 ref (fun c => slotGroupMembersCmd c host) s)

/-- A client that the active page of an enabled group names. -/
def clientInUse (k : Nat) (s : State) : Bool :=
  (List.range 32).any fun g => grpOn g s && (pageRange g (getGrp g s).txCal s).any fun e =>
    (cmKind e == 1 || cmKind e == 2) && cmClient e == k

/-- SLOT_CLIENT_SET defines or frees a client (R157). -/
def slotClientSetCmd (c : Cmd) (s : State) : State × CmdEnd :=
  let k := c.op 0 1
  let g := c.op 1 1
  let kind := c.op 2 1
  let wire := c.op 4 2
  let port := c.op 6 2
  let rest := (s.slt.clients.filter fun e => decide (e.1 ≠ k) && decide (e.2.kind ≠ 0) && decide (e.2.group = g))
  if g > 31 ∨ kind > 2 ∨ c.len ≠ 0 then fail BAD_PARAM s
  else if kind ≠ 0 ∧ (wire = 0 ∨ wire = 0xFFFF ∨ (rest.any fun e => e.2.wire == wire) = true) then fail BAD_PARAM s
  else if kind = 1 ∧ (((getGrp g s).members.all fun m => m.1 != port) = true ∨
      (s.slt.clients.any fun e => e.1 != k && e.2.kind == 1 && e.2.port == port) = true) then fail BAD_PARAM s
  else if (getGrp g s).switching.isSome ∨ clientInUse k s then fail SLOT_BUSY s
  else
    let s := clientTo k false s
    let s := setClient k (if kind = 0 then {} else { kind := kind, group := g, wire := wire, port := if kind = 1 then port else 0 }) s
    okay (applyCals s)

/-- The command SlotClientSet. -/
def execSlotClientSet (ref : CmdRef) (s : State) : Res := .next (runCmd 0x99 ref slotClientSetCmd s)

/-- An entry of Table 5.5 keeps the rules of its KIND. -/
def cmEntryOk (e : Nat) : Bool :=
  (cmKind e != 0 || cmWire e == 0) && (cmKind e != 3 || cmWire e == 0xFFFF)

/-- SLOT_CM_WRITE writes connection-memory entries to the standby page (R158, R161). -/
def slotCmWriteCmd (c : Cmd) (host : HostAns) (s : State) : State × CmdEnd :=
  let g := c.op 0 1
  let first := c.op 2 2
  let n := c.op 4 2
  if g > 31 ∨ n < 1 ∨ n > 320 ∨ c.len ≠ 4 * n ∨ first + n > grpSlots g s ∨ slotBase g s + first + n > 2560 then fail BAD_PARAM s
  else if (getGrp g s).switching.isSome then fail SLOT_BUSY s
  else withHost c host s fun bs =>
    let es := (List.range n).map fun i => leAt bs (4 * i) 4
    if !es.all cmEntryOk then fail BAD_PARAM s
    else
      let at0 := (1 - (getGrp g s).txCal) * 2560 + slotBase g s + first
      let s := (List.range n).foldl (fun s i => clearUpset memCm (at0 + i) s) s
      okay (sendOverhead g { s with slt := { s.slt with
        cm := (List.range n).foldl (fun m i => tset m (at0 + i) (es.getD i 0 % 2 ^ 26)) s.slt.cm } })

/-- The command SlotCmWrite. -/
def execSlotCmWrite (ref : CmdRef) (host : HostAns) (s : State) : Res := .next (runCmd 0x9A ref (fun c => slotCmWriteCmd c host) s)

/-- The first slot of a page range that is inconsistent (R162). -/
def firstBadSlot (g : Nat) (es : List Nat) (s : State) : Option Nat :=
  (List.range es.length).find? fun i =>
    let e := es.getD i 0
    let c := getClient (cmClient e) s
    let clash := (es.take i).any fun f => cmWire f == cmWire e && (cmKind f != cmKind e || cmClient f != cmClient e)
    let wrong := (cmKind e == 1 && !(c.kind == 1 && c.group == g && c.wire == cmWire e)) || (cmKind e == 2 && c.kind != 2)
    clash || wrong

/-- SLOT_CAL_SWITCH checks the standby range and starts a calendar switch (R162, R163). -/
def slotCalSwitchCmd (c : Cmd) (s : State) : State × CmdEnd :=
  let g := c.op 0 1
  let x := getGrp g s
  if g > 31 ∨ c.len ≠ 0 ∨ x.st ≠ .up then fail BAD_PARAM s
  else if x.switching.isSome then fail SLOT_BUSY s
  else match firstBadSlot g (pageRange g (1 - x.txCal) s) s with
    | some i => (s, .done { status := CM_INCONSISTENT, payload := le 2 i })
    | none =>
      let x := { x with switching := some c.ref, txCr := if bitAt (rd Reg.sltGroupCfg g s) 21 then 1 - x.txCal else x.txCr }
      (sendOverhead g (setGrp g x s), .later)

/-- The command SlotCalSwitch. -/
def execSlotCalSwitch (ref : CmdRef) (s : State) : Res := .next (runCmd 0x9B ref slotCalSwitchCmd s)

/-- The bytes of SLOT_PM_READ (Table 5.7). -/
def pmBytes (bin : Nat) (b : Option PmBin) (lost : Bool) : List Byte :=
  match b with
  | none => fit 10304 [byte bin, 4]
  | some b =>
    fit 64 ([byte bin, byte (b.flags + 4 * b2n lost), 0, 0] ++ le 4 b.seq ++ le 8 (b.start % 2 ^ 48) ++ le 4 b.seconds) ++
    ((List.range 32).flatMap fun g =>
      let x := tget b.groups g
      fit 64 (le 4 x.crc ++ le 4 x.lockLosses ++ le 4 x.es ++ le 4 x.ses ++ le 4 x.uas ++ le 4 x.mismatch ++ le 4 x.switches ++
        [byte (b2n x.enabled)])) ++
    ((List.range 256).flatMap fun k =>
      let x := tget b.clients k
      fit 32 (le 2 x.wire ++ [byte x.group, byte x.kind] ++ le 4 x.blockErrors ++ le 4 x.lf ++ le 4 x.inserted ++ le 4 x.deleted ++
        le 4 x.down))

/-- SLOT_PM_READ copies a performance bin, resolved when the command starts (R167). A bin with a parity error is flagged as not
filled, FC053 (Table 5.10). -/
def slotPmReadCmd (c : Cmd) (s : State) : State × CmdEnd :=
  let bin := c.op 0 1
  if bin > 34 ∨ c.len ≠ 10304 then fail BAD_PARAM s
  else
    let b := if bin = 0 then some (freezeBin s.slt.bin15 s) else if bin ≤ 32 then s.slt.prev15[bin - 1]?
      else if bin = 33 then some (freezeBin s.slt.binDay s) else s.slt.prevDay[0]?
    let lost := match b with
      | none => false
      | some b => binLost (decide (bin ≥ 33)) b s
    okayData (pmBytes bin b lost) (if lost then report 53 14 bin [byte bin] s else s)

/-- The command SlotPmRead. -/
def execSlotPmRead (ref : CmdRef) (s : State) : Res := .next (runCmd 0x9C ref slotPmReadCmd s)

/-- LOCKED: bit n, every instance of member n in multiframe lock (Table 5.14). -/
def lockedMap (g : Nat) (s : State) : Nat :=
  let k := phyInsts (grpSpeed g s)
  ofBits ((List.range (getGrp g s).members.length).map fun n =>
    decide (0 < k) && (List.range k).all fun i => (getInst g (k * n + i) s).mfLock)

/-- SLT_GROUP_STAT (Table 5.14). -/
def grpStat (g : Nat) (s : State) : Nat :=
  let x := getGrp g s
  x.st.num + 8 * x.txCal + 16 * x.rxCal + 32 * b2n x.switching.isSome + 64 * b2n x.cfgErr + 256 * x.alarms + 65536 * lockedMap g s

/-- The bytes of SLOT_GROUP_READ (R168). -/
def groupBytes (g : Nat) (s : State) : List Byte :=
  let x := getGrp g s
  let a := rxCalendar g 0 s
  let b := rxCalendar g 1 s
  let used := rxCalendar g x.rxCal s
  fit 64 (prefix75 x.st.num 0 (unitLevel 13 g s) 0 x.changeTs x.changePh ++ [byte x.alarms, 0] ++ le 2 (lockedMap g s) ++
    le 4 x.maxSkew ++ [byte x.txCal, byte x.rxCal, 0, 0] ++ le 4 x.ignored) ++
  (List.range (grpSlots g s)).flatMap fun i =>
    let local_ := ((grpClients g s).find? fun e => e.2.wire == used.getD i 0).map Prod.fst
    le 2 (a.getD i 0) ++ le 2 (b.getD i 0) ++ [byte (local_.getD 0xFF), 0, 0, 0]

/-- SLOT_GROUP_READ writes a group's header and per-slot state (R168). -/
def slotGroupReadCmd (c : Cmd) (s : State) : State × CmdEnd :=
  let g := c.op 0 1
  if g > 31 ∨ c.len ≠ 64 + 8 * grpSlots g s then fail BAD_PARAM s
  else okayData (groupBytes g s) s

/-- The command SlotGroupRead. -/
def execSlotGroupRead (ref : CmdRef) (s : State) : Res := .next (runCmd 0x9D ref slotGroupReadCmd s)

end Sys2Proof.Machine
end

