-- ==== Sys2Proof/Machine/Telemetry.lean ====
section
/-! DEFINITION. The telemetry unit (16_telemetry.md): dump sets and snapshots, the dump record, the Gauze ring and the
telemetry commands. -/
namespace Sys2Proof.Machine

def getSet (k : Nat) (s : State) : DumpSet := tget s.tel.sets k
def setSet (k : Nat) (d : DumpSet) (s : State) : State := { s with tel := { s.tel with sets := tset s.tel.sets k d } }

/-- First counter number and number of counters of a range of items. -/
def ctrFirst (kind first : Nat) : Nat := first * ctrPer kind
def ctrCount (kind items : Nat) : Nat := items * ctrPer kind
def DumpSet.n (d : DumpSet) : Nat := ctrCount d.kind d.items
/-- The counters of a set, in counter-number order. -/
def DumpSet.nums (d : DumpSet) : List Nat := (List.range d.n).map (ctrFirst d.kind d.first + ·)
/-- WRAP_EV and INEXACT_EV. -/
def DumpSet.wrapEv (d : DumpSet) : Bool := bitAt d.flags 2
def DumpSet.inexactEv (d : DumpSet) : Bool := bitAt d.flags 3

/-- Dumps and the sampler run (TEL_CTRL.ENABLE, R457). -/
def telRuns (s : State) : Bool := bitAt (rd Reg.telCtrl 0 s) 0 && !s.tel.stopped

/-- Bytes of the flag area of N counters (R451). -/
def flagLen (n : Nat) : Nat := 64 * ((n + 255) / 256)
/-- SLOT_BYTES (R451). -/
def slotBytes (n : Nat) : Nat := 128 + 8 * n + flagLen n

/-- A port counter of a lane number that starts no port reads 0 (R437). -/
def ctrExists (kind num : Nat) (s : State) : Bool := decide (kind ≠ 0) || decide (portWidth (num / 54) s ≠ 0)

/-- The two flag bits of a counter. -/
def Ctr.bits (c : Ctr) : List Bool := [c.wrap, c.inexact]

/-- A flag area: 2 bits per counter, filled with zeros (Table 16.3). -/
def flagArea (bits : List Bool) (n : Nat) : List Byte := le (flagLen n) (ofBits bits)

/-- A counter as a record or CTR_READ shows its flags: a counter that does not exist has none. -/
def shownCtr (kind num : Nat) (s : State) : Ctr := if ctrExists kind num s then tget s.tel.ctrs (ctrKey kind num) else {}

/-! ### Snapshots and dumps (R445 to R451) -/

/-- Take a snapshot of a set at `at_` ns of its base: every counter of the set switches its bank, the central reader folds
the old banks, and the dump waits to be written (R445, R446). -/
def snapshot (k at_ flags periods : Nat) (s : State) : State :=
  let d := getSet k s
  let old := b2n d.bankB
  let dump : Dump := { seq := d.seq, flags := flags, slot := d.seq % d.slots, at_ := at_, periods := periods }
  let s := setSet k { d with bankB := !d.bankB, dump := some dump, seq := (d.seq + 1) % 2 ^ 32 } s
  d.nums.foldl (fun s num => foldBank d.kind num old s) s

/-- The latest snapshot instant of a set: a multiple of PERIOD_MS × 10^6 of its base (R445); while the base does not run,
instants are timed on CLK_TEL and the time is the base's last value (R448). -/
def instantOf (d : DumpSet) (s : State) : Nat :=
  let now := timeOf d.tb s
  if tbRuns d.tb s then now / (d.period * 1000000) * (d.period * 1000000) else now

/-- A snapshot instant of a set comes: the banks switch, or the snapshot is skipped because the previous dump is still
unwritten (R445, R447, R448). -/
def execSnapshotInstant (set : Nat) (s : State) : Res :=
  let d := getSet set s
  within (decide (set < 16))
    (if !d.enabled || !telRuns s then s
    else if d.dump.isSome then report 211 14 set [byte set] (setSet set { d with skipped := sat 32 (d.skipped + 1) } s)
    else
      let sus := d.suspect || !tbRuns d.tb s
      snapshot set (instantOf d s) (b2n (d.skipped ≠ 0) + 2 * b2n sus) (1 + d.skipped)
        (setSet set { d with skipped := 0, suspect := false } s))

/-- The header of a dump record (Table 16.4). -/
def dumpHeader (k : Nat) (d : DumpSet) (u : Dump) (wraps inexact : Nat) : List Byte :=
  fit 64 (le 4 0x44554D50 ++ [byte k, byte d.kind, byte u.flags, byte (d.tb + 4 * (u.at_ / 2 ^ 32 % 4))] ++ le 4 u.seq ++
    le 4 d.first ++ le 4 d.items ++ le 4 d.n ++ le 6 (u.at_ / 1000000000) ++ zeros 2 ++ le 4 u.at_ ++ le 4 u.periods ++
    le 4 wraps ++ le 4 inexact)

/-- VALUES and the flags of a set's counters, as the dump reads them. -/
def dumpArea (d : DumpSet) (s : State) : List Byte × List Ctr :=
  let cs := d.nums.map fun num => shownCtr d.kind num s
  (cs.flatMap fun c => le 8 c.value, cs)

/-- Header, VALUES and FLAGS of a dump record. -/
def dumpBody (k : Nat) (d : DumpSet) (u : Dump) (s : State) : List Byte × List Byte × List Byte :=
  let (vals, cs) := dumpArea d s
  (dumpHeader k d u (cs.filter fun c => c.wrap).length (cs.filter fun c => c.inexact).length, vals,
    flagArea (cs.flatMap Ctr.bits) d.n)

/-- The trailer of a dump record (Table 16.3). -/
def dumpTrailer (seq : Nat) (body : List Byte) : List Byte := fit 64 (le 4 seq ++ le 4 (crc32c body))

/-- The dump has read one counter: WRAP is posted and cleared, INEXACT is posted once (R441, R442). -/
def dumpedCtr (k : Nat) (d : DumpSet) (num : Nat) (s : State) : State :=
  let key := ctrKey d.kind num
  let c := tget s.tel.ctrs key
  let pay := [byte d.kind, byte k, 0, 0] ++ le 4 num
  let s := { s with tel := { s.tel with ctrs := tset s.tel.ctrs key { c with wrap := false } } }
  let s := if c.wrap && d.wrapEv then post 0x6001 pay s else s
  if c.inexact && d.inexactEv then post 0x6002 pay s else s

/-- Clear one counter (R450): values with both accumulators, WRAP, INEXACT. -/
def clearCtr (kind what num : Nat) (s : State) : State :=
  let key := ctrKey kind num
  let s := if bitAt what 0 then freshCtr kind num s else s
  let c := tget s.tel.ctrs key
  let c := if bitAt what 0 then { c with value := 0, acc := tmap c.acc fun _ a => { a with n := 0 } } else c
  let c := if bitAt what 1 then { c with wrap := false } else c
  let c := if bitAt what 2 then { c with inexact := false, acc := tmap c.acc fun _ a => { a with inexact := false } } else c
  { s with tel := { s.tel with ctrs := tset s.tel.ctrs key c } }

/-- The counters of a range of items. -/
def rangeNums (kind first items : Nat) : List Nat := (List.range (ctrCount kind items)).map (ctrFirst kind first + ·)

/-- A clear that waited for a set's dump takes its part of the range; its command ends with its last part (R450). -/
def lateClear (d : DumpSet) (w : ClearWait) (s : State) : State :=
  let nums := (rangeNums w.kind w.first w.items).filter fun num => d.holds w.kind num
  let s := nums.foldl (fun s num => clearCtr w.kind w.what num s) s
  if s.tel.sets.any fun e => e.2.clears.any fun x => decide (x.cmd = w.cmd) then s else finishRef w.cmd {} s

/-- Put operands of CTR_SET_WRITE in force: a set that becomes enabled counts DUMP_SEQ from 0. -/
def applySet (k : Nat) (ops : List Byte) (s : State) : State :=
  let d := getSet k s
  let on := bitAt (leAt ops 2 1) 1
  setSet k { d with ops := ops, enabled := on, next := none, seq := if on && !d.enabled then 0 else d.seq
                    skipped := if on then d.skipped else 0, suspect := on && d.suspect } s

/-- EV_CTR_DUMP goes to the set's own event ring; it is discarded and counted as R562 says where that is not an enabled
event ring. -/
def postDump (ring : Nat) (payload : List Byte) (s : State) : State :=
  if evRingOn ring s then asyncToRing ring (mkAsync 0x6000 payload s) s
  else { s with hif := { s.hif with routeDiscards := sat 32 (s.hif.routeDiscards + 1) } }

/-- A dump is written: header, values and flags, DC02's flush read, the trailer and EV_CTR_DUMP; or a host write failed, and
the slot is not whole (R451). Then waiting clears and a waiting CTR_SET_WRITE take effect (R450). -/
def execDumpComplete (set : Nat) (err : Option Byte) (s : State) : Res :=
  let d := getSet set s
  within (decide (set < 16))
    (match d.dump with
    | none => s
    | some u =>
      if !telRuns s || !chanServes (sergeChan 2 s) s then s else
      let base := d.area + u.slot * slotBytes d.n
      let s := d.nums.foldl (fun s num => meetValue d.kind num s) s
      let (h, v, f) := dumpBody set d u s
      let s := d.nums.foldl (fun s num => dumpedCtr set d num s) s
      let pay := fun (st : Byte) => [byte set, st, byte u.flags, 0] ++ le 4 u.seq ++ le 2 u.slot
      let s := match err with
        | some st => postDump d.evRing (pay st) (report 214 14 set (pay st) s)
        | none =>
          let s := emit (.hostWrite (base + 64 + 8 * d.n) f) (emit (.hostWrite (base + 64) v) (emit (.hostWrite base h) s))
          let s := emit (.flushRead (base + 64 + 8 * d.n + flagLen d.n - 1)) s
          let s := emit (.hostWrite (base + slotBytes d.n - 64) (dumpTrailer u.seq (h ++ v ++ f))) s
          postDump d.evRing (pay 0) s
      let waits := d.clears
      let s := setSet set { getSet set s with dump := none, clears := [] } s
      let s := waits.foldl (fun s w => lateClear d w s) s
      match d.next with
      | some ops => applySet set ops s
      | none => s)

/-! ### The Gauze ring (R455, R456, R459) -/

/-- Records of the Gauze ring. -/
def gzSize (s : State) : Nat := 2 ^ rdFld Reg.telGauzeCfg 0 1 5 s
def gzChan (s : State) : Nat := rdFld Reg.telGauzeCfg 0 6 6 s

/-- A staged record is written to the ring, or is lost because the ring is full or its channel HALTED (R455, R456). -/
def execGauzeRecordWrite (s : State) : Res :=
  .next (match s.tel.gzStage with
  | [] => s
  | r :: rest =>
    let ch := gzChan s
    if !gauzeOn s || !chanOn ch s then s else
    let size := gzSize s
    let occ := (s.tel.gzProd + 2 * size - s.tel.gzCons) % (2 * size)
    let t := { s with tel := { s.tel with gzStage := rest } }
    if occ ≥ size ∨ (getChan ch s).halted ∨ fencedU 10 ch s then gauzeLose t
    else
      let r := splice r 134 [byte (byteAt r 134 + phaseOf size s.tel.gzProd)]
      let r := splice (splice r 192 (le 4 s.tel.gzSeq)) 196 (le 4 s.tel.gzLost)
      let a := rd Reg.telGauzeBase 0 s + 256 * (s.tel.gzProd % size)
      emit (.hostWrite a r) { t with tel := { t.tel with
        gzProd := (s.tel.gzProd + 1) % (2 * size), gzSeq := (s.tel.gzSeq + 1) % 2 ^ 32, gzLost := 0 } })

/-- A write of TEL_GAUZE_CFG (R459): other fields are ignored while ENABLE is 1; ENABLE = 1 may be refused with CFG_ERR;
enabling resets the positions and counts. -/
def writeGauzeCfg (v : Nat) (s : State) : State :=
  let old := rd Reg.telGauzeCfg 0 s
  let ok := { s with tel := { s.tel with cfgErr := false } }
  if bitAt old 0 then (if bitAt v 0 then ok else wr Reg.telGauzeCfg 0 (setFld old 0 1 0) ok)
  else if !bitAt v 0 then wrRw Reg.telGauzeCfg 0 v ok
  else
    let log := fld v 1 5
    let ch := fld v 6 6
    if log < 10 ∨ log > 16 ∨ ch < 4 ∨ !chanOn ch s ∨ rd Reg.telGauzeBase 0 s = 0 then
      wrRw Reg.telGauzeCfg 0 (setFld v 0 1 0) { s with tel := { s.tel with cfgErr := true } }
    else
      wrRw Reg.telGauzeCfg 0 v { ok with tel := { ok.tel with gzProd := 0, gzCons := 0, gzSeq := 0, gzLost := 0, gzStage := [] } }

/-- Setting TEL_GAUZE_CFG.ENABLE resets the Gauze ring's positions (R455). -/
def execGauzeEnable (value : Word) (s : State) : Res :=
  .next (whenOpen s (writeGauzeCfg value.toNat s))

/-- A write of TEL_CTRL: 0 and then 1 starts dumps and the sampler again after a fence (R457). -/
def writeTelCtrl (v : Nat) (s : State) : State :=
  let rises := bitAt v 0 && !bitAt (rd Reg.telCtrl 0 s) 0
  let s := wrRw Reg.telCtrl 0 v s
  { s with tel := { s.tel with cfgErr := false, stopped := s.tel.stopped && !rises } }

/-- A write of TEL_GAUZE_BASE is ignored while the ring is enabled (R459). -/
def writeGauzeBase (v : Nat) (s : State) : State :=
  if bitAt (rd Reg.telGauzeCfg 0 s) 0 then s else wrRw Reg.telGauzeBase 0 v s

/-- TEL_GAUZE_STAT: index and generation of the next record. -/
def gauzeStat (s : State) : Nat := s.tel.gzProd % gzSize s + 65536 * (s.tel.gzProd / gzSize s % 2)

/-! ### Commands (R458, Table 16.8) -/

/-- A range of items within a kind. -/
def itemsOk (kind first items : Nat) : Bool :=
  decide (kind < 4) && decide (1 ≤ items) && decide (first + items ≤ ctrItems kind)

/-- The operands that would be in force: a waiting CTR_SET_WRITE, else those of the set; none while disabled. -/
def DumpSet.claim (d : DumpSet) : Option DumpSet :=
  match d.next with
  | some o => if bitAt (leAt o 2 1) 1 then some { ops := o, enabled := true } else none
  | none => if d.enabled then some d else none

/-- Two sets share a counter. -/
def DumpSet.meets (a b : DumpSet) : Bool :=
  decide (a.kind = b.kind) && decide (a.first < b.first + b.items) && decide (b.first < a.first + a.items)

/-- CTR_SET_WRITE sets or reads a dump set (R444, R450); 0x81 OVERLAP. -/
def ctrSetWriteCmd (c : Cmd) (s : State) : State × CmdEnd :=
  let k := c.op 0 1
  let fl := c.op 2 1
  let d := getSet k s
  if k > 15 ∨ c.len ≠ 0 then fail BAD_PARAM s
  else if bitAt fl 0 then okayWith (fit 40 d.ops) s
  else
    let new : DumpSet := { ops := fit 40 c.ops, enabled := true }
    let on := bitAt fl 1
    if fl ≥ 16 ∨ c.op 3 1 > 3 ∨ !itemsOk new.kind new.first new.items ∨ new.period < 1 ∨ new.period > 3600000 ∨ new.slots < 1 ∨
        new.slots > 256 ∨ !evRingOn new.evRing s ∨ new.area % 64 ≠ 0 then fail BAD_PARAM s
    else if on && s.tel.sets.any (fun e => decide (e.1 ≠ k) && (match e.2.claim with | some x => x.meets new | none => false) ||
        decide (e.1 ≠ k) && e.2.enabled && e.2.meets new) then fail 0x81 s
    else if d.enabled ∧ d.dump.isSome then okay (setSet k { d with next := some new.ops } s)
    else okay (applySet k new.ops s)

/-- The command CtrSetWrite. -/
def execCtrSetWrite (ref : CmdRef) (s : State) : Res := .next (runCmd 0x60 ref ctrSetWriteCmd s)

/-- CTR_READ: each counter's central value plus its unfolded accumulators, then the flags (R443). -/
def ctrReadCmd (c : Cmd) (s : State) : State × CmdEnd :=
  let kind := c.op 0 1
  let first := c.op 4 4
  let items := c.op 8 4
  let n := ctrCount kind items
  if !itemsOk kind first items ∨ c.len ≠ 8 * n + flagLen n then fail BAD_PARAM s
  else
    let nums := rangeNums kind first items
    let s := nums.foldl (fun s num => meetCtr kind num s) s
    okayData ((nums.flatMap fun num => le 8 (if ctrExists kind num s then ctrValue kind num s else 0)) ++
      flagArea (nums.flatMap fun num => (shownCtr kind num s).bits) n) s

/-- The command CtrRead. -/
def execCtrRead (ref : CmdRef) (s : State) : Res := .next (runCmd 0x61 ref ctrReadCmd s)

/-- CTR_CLEAR clears counters; those of a set whose dump is in progress wait until the dump has read them (R450). -/
def ctrClearCmd (c : Cmd) (s : State) : State × CmdEnd :=
  let kind := c.op 0 1
  let what := c.op 1 1
  let first := c.op 4 4
  let items := c.op 8 4
  if !itemsOk kind first items ∨ what ≥ 8 ∨ c.len ≠ 0 then fail BAD_PARAM s
  else
    let nums := rangeNums kind first items
    let busy := fun (e : Nat × DumpSet) => e.2.dump.isSome && nums.any fun num => e.2.holds kind num
    let free := nums.filter fun num => !s.tel.sets.any fun e => e.2.dump.isSome && e.2.holds kind num
    let w : ClearWait := { cmd := c.ref, kind := kind, what := what, first := first, items := items }
    let t := free.foldl (fun s num => clearCtr kind what num s) s
    if s.tel.sets.any busy then
      ({ t with tel := { t.tel with sets := tmap t.tel.sets fun k d => if busy (k, d) then { d with clears := d.clears ++ [w] } else d } },
        .later)
    else okay t

/-- The command CtrClear. -/
def execCtrClear (ref : CmdRef) (s : State) : Res := .next (runCmd 0x62 ref ctrClearCmd s)

/-- CTR_DUMP_NOW takes a snapshot of an enabled set and dumps it, ON_DEMAND (R449); 0x80 DUMP_BUSY. -/
def ctrDumpNowCmd (c : Cmd) (s : State) : State × CmdEnd :=
  let k := c.op 0 1
  let d := getSet k s
  if k > 15 ∨ !d.enabled ∨ c.len ≠ 0 then fail BAD_PARAM s
  else if d.dump.isSome then fail 0x80 s
  else okay (snapshot k (timeOf d.tb s) (4 + 2 * b2n (d.suspect || !tbRuns d.tb s)) 0 s)

/-- The command CtrDumpNow. -/
def execCtrDumpNow (ref : CmdRef) (s : State) : Res := .next (runCmd 0x63 ref ctrDumpNowCmd s)

/-- GAUZE_RELEASE gives the Gauze ring's consumer position under the rules of R41 (R455). -/
def gauzeReleaseCmd (c : Cmd) (s : State) : State × CmdEnd :=
  let size := gzSize s
  let new := c.op 0 2 + size * (c.op 2 1 % 2)
  if c.len ≠ 0 ∨ !bitAt (rd Reg.telGauzeCfg 0 s) 0 ∨ c.op 2 1 > 1 ∨ c.op 0 2 ≥ size ∨ !atOrBeyond size new s.tel.gzCons ∨
      (s.tel.gzProd + 2 * size - new) % (2 * size) > size then fail BAD_PARAM s
  else okay { s with tel := { s.tel with gzCons := new } }

/-- The command GauzeRelease. -/
def execGauzeRelease (ref : CmdRef) (s : State) : Res := .next (runCmd 0x64 ref gauzeReleaseCmd s)

/-- IOAM_SINK writes or reads the map of sink ports (R458). -/
def ioamSinkCmd (c : Cmd) (host : HostAns) (s : State) : State × CmdEnd :=
  if c.len ≠ 128 ∨ !flagOk c 0 then fail BAD_PARAM s
  else if readFlag c 0 then okayData (le 128 (ofBits ((List.range 1024).map fun p => tget s.tel.sink p))) s
  else withHost c host s fun bs =>
    let v := leNat bs
    okay { s with tel := { s.tel with sink := (List.range 1024).foldl (fun t p => tset t p (bitAt v p)) s.tel.sink } }

/-- The command IoamSink. -/
def execIoamSink (ref : CmdRef) (host : HostAns) (s : State) : Res := .next (runCmd 0x65 ref (fun c => ioamSinkCmd c host) s)

end Sys2Proof.Machine
end

