-- ==== Sys2Proof/Machine/Registers.lean ====
section
/-! DEFINITION. The register file of BAR0 as software reaches it: what a write and a read of each register do (R8 to R10),
the windows a mode serves (R523, R524), BAR2 reads (R40) and the BMC's byte map (R514). -/
namespace Sys2Proof.Machine

/-- A register with what its writes and reads do beside R10's plain rule. -/
structure BarReg where
  desc : RegDesc
  /-- a write of the whole register's value -/
  write : Nat → Nat → State → State := fun n v s => wrRw desc n v s
  /-- the register's current value -/
  read : Nat → State → Nat := fun n s => rd desc n s
  /-- what a read clears (RC) -/
  clear : Nat → State → State := fun _ s => s
  /-- writes to it are taken; a write that is not leaves no low word held (R9) -/
  takes : Nat → State → Bool := fun _ _ => true

/-! ### Writes with rules of their own -/

/-- BUF_CTRL: a write of SPILL_EN = 1 is refused while the spill region reaches beyond the usable Burlap space or overlaps another
region (R280), or STAGE is below 4,096 (Table 9.13). -/
def writeBufCtrl (v : Nat) (s : State) : State :=
  let base := rd Reg.bufSpillBase 0 s
  let n := 65536 * rd Reg.bufSpillBlocks 0 s
  let bad := bitAt v 0 && (decide (rd Reg.bufStage 0 s < 4096) || (decide (n ≠ 0) && decide (usable s < base + n)) ||
    overlap base n (rd Reg.poolMBase 0 s) (mBytes s) ||
    overlap base n (rd Reg.colOvfBase 0 s) (65536 * rd Reg.colOvfBlocks 0 s))
  if bad then bufErr true s else bufErr false (wrRw Reg.bufCtrl 0 v s)

/-- COL_CTRL: a write of ENABLE = 1 is refused while the overflow region overlaps the spill region or the M-pool region, or an
enabled encapsulation has a value of 0 (R364). -/
def writeColCtrl (v : Nat) (s : State) : State :=
  let base := rd Reg.colOvfBase 0 s
  let n := 65536 * rd Reg.colOvfBlocks 0 s
  let bad := bitAt v 0 && (overlap base n (rd Reg.bufSpillBase 0 s) (65536 * rd Reg.bufSpillBlocks 0 s) ||
    overlap base n (rd Reg.poolMBase 0 s) (mBytes s) ||
    (bitAt v 1 && decide (rdFld Reg.colEncap 0 0 16 s = 0)) || (bitAt v 2 && decide (rdFld Reg.colEncap 0 16 16 s = 0)))
  if bad then colErr true s else colErr false (wrRw Reg.colCtrl 0 v s)

/-- SYS_DRAIN: 0 is ignored (Table 19.15). -/
def writeSysDrain (v : Nat) (s : State) : State := if fld v 0 16 = 0 then s else wrRw Reg.sysDrain 0 v s

/-- MSI-X table: a vector that is unmasked while its pending bit is set is raised (R36, as PCI Express lays it down). -/
def writeMsix (n v : Nat) (s : State) : State :=
  let t := wrRw Reg.msixTable n v s
  let p := rd Reg.msixPba (n / 128) s
  if n % 4 = 3 ∧ !bitAt v 0 ∧ bitAt p (n / 4 % 32) then
    emit (.msix (n / 4)) (wr Reg.msixPba (n / 128) (p ^^^ 2 ^ (n / 4 % 32)) t)
  else t

/-- A register of a port block: writes to a lane that starts no port are ignored (R146). -/
def portReg (d : RegDesc) (w : Nat → Nat → State → State) : BarReg :=
  { desc := d, write := fun p v s => if portWidth p s = 0 then s else w p v s, takes := fun p s => decide (portWidth p s ≠ 0) }

/-- A port register with the plain rule; it takes effect at the next evaluation of its field (R146). -/
def plainPort (d : RegDesc) : BarReg := portReg d fun p v s => setPortErr p false (wrRw d p v s)

/-- A watermark register of a port's class (R126). -/
def levelReg (d : RegDesc) : BarReg :=
  { desc := d, write := fun n v s => if portWidth (n / 8) s = 0 then s else writeWatermark d (n / 8) (n % 8) v s }

/-- A register of the cell partition (Table 9.1). -/
def partReg (d : RegDesc) : BarReg := { desc := d, write := fun n v s => writePart d n v s }

/-- A read-only register, computed when it is read. -/
def roReg (d : RegDesc) (f : Nat → State → Nat) : BarReg := { desc := d, read := f }

/-! ### The windows -/

/-- SYS (Table 19.15). -/
def sysStatusWord (s : State) : Nat :=
  s.sys.mode.num + 16 * s.sys.lifecycle.code + 64 * s.sys.imageSlot + 128 * b2n s.sys.hostImage + 256 * s.sys.debug + 1024 * b2n s.sys.hostWait
def sysImageInfoWord (s : State) : Nat :=
  s.sys.secVersion % 128 + 256 * (s.sys.rollback % 128) + 65536 * (s.sys.keySlot % 4) + 2 ^ 20 * (s.sys.revoked % 16)
def sysResetWord (s : State) : Nat := s.sys.resetKind + 256 * sat 8 s.sys.perstCount + 65536 * sat 16 s.sys.resets
def sysRegs : List BarReg :=
  [ roReg Reg.sysStatus fun _ s => sysStatusWord s,
    roReg Reg.sysStraps fun _ s => s.sys.straps % 16,
    roReg Reg.sysImage fun _ s => s.sys.imageVersion % 2 ^ 32,
    roReg Reg.sysImageInfo fun _ s => sysImageInfoWord s,
    { desc := Reg.sysResetStat, read := fun _ s => sysResetWord s,
      clear := fun _ s => { s with sys := { s.sys with perstCount := 0 } } },
    { desc := Reg.sysDrain, write := fun _ v s => writeSysDrain v s },
    { desc := Reg.sysHostBootAddr },
    { desc := Reg.sysHostBootCtrl, write := fun _ v s => writeHostBoot v s,
      read := fun _ s => rd Reg.sysHostBootCtrl 0 s + 2 ^ 25 * b2n s.sys.bootBusy + 2 ^ 26 * b2n s.sys.bootErr },
    roReg Reg.sysDeviceId fun n _ => leAt Config.deviceId (4 * n) 4,
    roReg Reg.sysPriorFirst fun n s => leAt s.sys.priorFirst (4 * n) 4 ]

/-- HIF (Tables 2.2 to 2.9, R36). -/
def hifRegs : List BarReg :=
  [ { desc := Reg.hifCtrl },
    roReg Reg.hifLinkStat fun _ s => linkStat s,
    { desc := Reg.hifSummaryAddr },
    { desc := Reg.hifSummaryCtrl, write := fun _ v s => if bitAt v 0 then summaryGo s else s,
      read := fun _ s => 2 * b2n (sumBusy s) + 4 * b2n s.hif.sumErr },
    { desc := Reg.hifEventRoute },
    { desc := Reg.hifRingBase, write := writeRingBase },
    { desc := Reg.hifRingCfg, write := writeRingCfg },
    roReg Reg.hifRingStat ringStat,
    { desc := Reg.hifDmaCfg },
    roReg Reg.hifDmaStat dmaStat,
    { desc := Reg.hifDmaCtrl, write := fun n v s => if bitAt v 0 then restartChan n s else s },
    { desc := Reg.msixTable, write := writeMsix },
    { desc := Reg.msixPba } ]

/-- LAN (Tables 3.12 to 3.17). -/
def lanRegs : List BarReg :=
  [ { desc := Reg.lanMacroCfg, write := writeMacroCfg },
    roReg Reg.lanMacroStat macroStat,
    { desc := Reg.lanLaneCfg, write := writeLaneCfg },
    roReg Reg.lanLaneStat laneStat,
    { desc := Reg.lanLaneTxffe, write := writeTxffe },
    { desc := Reg.lanLaneRx, write := writeLaneRx } ]

/-- MAC (Tables 4.9 to 4.19). -/
def macRegs : List BarReg :=
  [ { desc := Reg.macMacroMode, write := writeMacroMode,
      read := fun m s => rd Reg.macMacroMode m s + 2 ^ 31 * b2n (tget s.mac.modeErr m) },
    portReg Reg.macPortCfg writePortCfg,
    roReg Reg.macPortStat portStat,
    portReg Reg.macPfcCfg fun p v s => evalFc p (setPortErr p false (wrRw Reg.macPfcCfg p v s)),
    portReg Reg.macPfcRefresh writePfcRefresh,
    portReg Reg.macPfcWd writePfcWd,
    plainPort Reg.macFecDegrade,
    portReg Reg.macGateCfg writeGateCfg,
    plainPort Reg.macMcLevel,
    plainPort Reg.macPortSa,
    levelReg Reg.macPfcXoff,
    levelReg Reg.macPfcXon ]

/-- SLT (Tables 5.11 to 5.14). -/
def sltRegs : List BarReg :=
  [ { desc := Reg.sltCtrl },
    { desc := Reg.sltGroupCfg, write := writeGroupCfg },
    { desc := Reg.sltGroupBase, write := writeGroupBase },
    roReg Reg.sltGroupStat grpStat ]

/-- PIPE (Tables 6.11 to 6.15, 8.12 to 8.14). -/
def pipeRegs : List BarReg :=
  [ { desc := Reg.parseCfg, write := fun _ v s => writeParseCfg v s },
    { desc := Reg.parseSeed },
    { desc := Reg.parseErr },
    { desc := Reg.parseStat, read := parseStat, clear := clearPeak },
    { desc := Reg.puntRing },
    { desc := Reg.egressCfg },
    { desc := Reg.ioamNode },
    { desc := Reg.ioamInsert } ]

/-- TBL (Tables 7.12 to 7.13b). -/
def tblRegs : List BarReg :=
  [ { desc := Reg.tblCtrl, write := fun _ v s => writeTblCtrl v s,
      read := fun _ s => rd Reg.tblCtrl 0 s + 8 * b2n s.tbl.cfgErr },
    { desc := Reg.tblSeed0, write := fun _ v s => writeSeed Reg.tblSeed0 v s },
    { desc := Reg.tblSeed1, write := fun _ v s => writeSeed Reg.tblSeed1 v s },
    { desc := Reg.tblLearn, write := fun _ v s => writeLearnCfg v s },
    { desc := Reg.tblShadowCfg, write := fun _ v s => writeShadowCfg v s },
    { desc := Reg.tblAr, write := fun _ v s => writeArCfg v s },
    { desc := Reg.tblTcamMode, write := fun _ v s => writeTcamMode v s },
    { desc := Reg.tblShadowBase },
    { desc := Reg.tblShadowLen, write := writeShadowLen },
    { desc := Reg.tblType, write := writeTypeCfg } ]

/-- BUF (Tables 9.11 to 9.14) and SCH (Tables 10.8 and 10.9). -/
def bufRegs : List BarReg :=
  [ { desc := Reg.bufCtrl, write := fun _ v s => writeBufCtrl v s,
      read := fun _ s => rd Reg.bufCtrl 0 s + 2 ^ 31 * b2n s.buf.cfgErr },
    { desc := Reg.bufMcFloor, write := fun _ v s => bufErr false (wrRw Reg.bufMcFloor 0 v s) },
    partReg Reg.bufPoolSize, partReg Reg.bufPoolReserve, partReg Reg.bufHeadroom, partReg Reg.bufStage,
    { desc := Reg.bufSpillBase, write := fun _ v s => writeRegion Reg.bufSpillBase v s },
    { desc := Reg.bufSpillBlocks, write := fun _ v s => writeRegion Reg.bufSpillBlocks v s },
    { desc := Reg.bufSpillShare, write := fun _ v s => bufErr false (wrRw Reg.bufSpillShare 0 v s) },
    { desc := Reg.schCtrl },
    roReg Reg.schTmStat tmStat ]

/-- COL (Tables 11.19 to 11.22), POOL (Tables 12.9 to 12.13) and SEQ (Tables 13.12 and 13.13). -/
def colRegs : List BarReg :=
  [ { desc := Reg.colCtrl, write := fun _ v s => writeColCtrl v s,
      read := fun _ s => rd Reg.colCtrl 0 s + 2 ^ 31 * b2n s.col.cfgErr },
    { desc := Reg.colEncap, write := fun _ v s => writeColCfg Reg.colEncap v s },
    { desc := Reg.colOvfBase, write := fun _ v s => writeColCfg Reg.colOvfBase v s },
    { desc := Reg.colOvfBlocks, write := fun _ v s => writeColCfg Reg.colOvfBlocks v s },
    roReg Reg.colClusterStat clusterStat,
    { desc := Reg.poolCtrl, write := fun _ v s => poolCtrlWrite v s,
      read := fun _ s => rd Reg.poolCtrl 0 s + 2 ^ 31 * b2n s.pool.cfgErr },
    { desc := Reg.poolSCount, write := fun n v s => writePoolCfg Reg.poolSCount n v s },
    { desc := Reg.poolMBase, write := fun n v s => writePoolCfg Reg.poolMBase n v s },
    { desc := Reg.poolMCount, write := fun n v s => writePoolCfg Reg.poolMCount n v s },
    { desc := Reg.poolFreeStat, read := poolFreeStat,
      write := fun k v s => if bitAt v 31 then modPool k (fun p => { p with emptySeen := false }) s else s },
    { desc := Reg.seqCtrl },
    { desc := Reg.seqEngineStat, read := seqEngineStat, clear := fun e s => modEng e (fun x => { x with trapsRc := 0 }) s } ]

/-- MEM (Tables 14.4 to 14.7), TIM (Table 15.9) and TEL (Table 16.10). -/
def memRegs : List BarReg :=
  [ { desc := Reg.memCtrl, write := fun _ v s => writeMemCtrl v s },
    roReg Reg.memCfg fun _ s => memCfg s,
    roReg Reg.memUsable fun _ s => s.mem.usableMib,
    { desc := Reg.memChanStat, read := memChanStat,
      clear := fun k s => setMChan k { getMChan k s with ce := 0, linkCe := 0 } s },
    { desc := Reg.timCtrl, write := fun _ v s => tbWatch (writeTimCtrl v) s,
      read := fun _ s => rd Reg.timCtrl 0 s + 2 ^ 31 * b2n s.tim.cfgErr },
    { desc := Reg.timTbCfg, write := writeTb },
    { desc := Reg.timTbStat, read := tbStat,
      write := fun n v s => if bitAt v 3 then setTb n { getTb n s with freqJump := false } s else s },
    { desc := Reg.timPpsOut, write := writePpsOut },
    { desc := Reg.timPpsOfs, write := writePpsOfs },
    { desc := Reg.timTodCfg },
    { desc := Reg.timEventCfg },
    { desc := Reg.telCtrl, write := fun _ v s => writeTelCtrl v s,
      read := fun _ s => rd Reg.telCtrl 0 s + 2 ^ 31 * b2n s.tel.cfgErr },
    { desc := Reg.telGauzeBase, write := fun _ v s => writeGauzeBase v s },
    { desc := Reg.telGauzeCfg, write := fun _ v s => writeGauzeCfg v s },
    { desc := Reg.telGauzeRate },
    { desc := Reg.telGauzeDropMask },
    roReg Reg.telGauzeStat fun _ s => gauzeStat s ]

/-- FLT (Table 18.12) and PWR (Table 17.9). -/
def fltRegs : List BarReg :=
  [ { desc := Reg.fltCtrl, read := fun _ s => rd Reg.fltCtrl 0 s + 2 ^ 31 * b2n s.flt.cfgErr },
    roReg Reg.fltStat fun _ s => fltStat s,
    roReg Reg.fltLive fltLive,
    roReg Reg.fltUnack fltUnack,
    roReg Reg.fltFirst fun n s => leAt (firstBytes s) (4 * n) 4,
    { desc := Reg.fltClassCfg, write := writeClassCfg },
    { desc := Reg.pwrCtrl, write := fun _ v s => writePwrCtrl v s,
      read := fun _ s => rd Reg.pwrCtrl 0 s + 2 ^ 31 * b2n s.pwr.cfgErr },
    { desc := Reg.pwrLimit, write := fun _ v s => writePwrLimit v s },
    { desc := Reg.pwrPolicy, write := fun _ v s => writePwrPolicy v s },
    { desc := Reg.pwrTherm, write := fun _ v s => writePwrTherm v s },
    { desc := Reg.pwrDroop, write := fun _ v s => writePwrDroop v s },
    roReg Reg.pwrStat fun _ s => pwrStat s,
    { desc := Reg.pwrVr, write := writePwrVr },
    roReg Reg.pwrVf fun n _ => pwrVf (n / 8) (n % 8) ]

/-- The registers of the window an address lies in (Table 0.2). -/
def windowRegs (a : Nat) : List BarReg :=
  if a < 0x0400000 then sysRegs else if a < 0x0800000 then hifRegs else if a < 0x0C00000 then lanRegs
  else if a < 0x1000000 then macRegs else if a < 0x1400000 then sltRegs else if a < 0x1800000 then pipeRegs
  else if a < 0x1C00000 then tblRegs else if a < 0x2400000 then bufRegs else if a < 0x3000000 then colRegs
  else if a < 0x3C00000 then memRegs else if a < 0x4000000 then fltRegs else []

/-- The register, element and word at an aligned address. -/
def findReg (a : Nat) : Option (BarReg × Nat × Nat) := (windowRegs a).findSome? fun r => (r.desc.find a).map fun x => (r, x.1, x.2)

/-! ### Access -/

/-- The SYS, FLT and PWR windows (R523, R524). -/
def earlyWindow (a : Nat) : Bool := decide (a < 0x0400000) || decide (0x3C00000 ≤ a ∧ a < 0x4000000)

/-- Whether BAR0 serves a read of an address (R523, R524). -/
def readServed (a : Nat) (s : State) : Bool := if earlyWindow a then decide (2 ≤ s.sys.mode.num) else s.sys.mode.engine

/-- Whether BAR0 takes a write to an address: in LOCKDOWN it takes none (R523). -/
def writeServed (a : Nat) (s : State) : Bool := readServed a s && decide (s.sys.mode ≠ .lockdown)

/-- The current word of a register (R9). -/
def regWord (r : BarReg) (n w : Nat) (s : State) : Word := BitVec.ofNat 32 (r.read n s / 2 ^ (32 * w))

/-- A write of the word at an aligned address (R8 to R10). -/
def barWrite (a : Nat) (v : Word) (s : State) : State :=
  match findReg a with
  | none => s
  | some (r, n, w) =>
    if !r.desc.wide then r.write n v.toNat s
    else if w = 0 then (if r.takes n s then { s with hold := tset s.hold a (some v) } else s)
    else
      let low := match tget s.hold (a - 4) with
        | some l => l.toNat
        | none => (regWord r n 0 s).toNat
      r.write n (low + 2 ^ 32 * v.toNat) { s with hold := tset s.hold (a - 4) none }

/-- What a read of the word at an aligned address returns, and what it leaves (R9, R10). -/
def barRead (a : Nat) (s : State) : Word × State :=
  match findReg a with
  | none => (0, s)
  | some (r, n, w) =>
    if !r.desc.wide then (regWord r n 0 s, r.clear n s)
    else if w = 0 then (regWord r n 0 s, { s with latch := tset s.latch a (some (regWord r n 1 s)) })
    else match tget s.latch (a - 4) with
      | some h => (h, { s with latch := tset s.latch (a - 4) none })
      | none => (regWord r n 1 s, s)

/-- The BMC's byte map (R514, Table 18.7). -/
def bmcMap (s : State) : List Byte :=
  let m := s.sys.mode
  let first := s.flt.first.bind fun q => recOf q s
  let still := decide (m = .off ∨ m = .reset ∨ m = .hold ∨ m = .lockdown)
  let flags := b2n !still + 2 * b2n s.sys.thermtrip + 4 * b2n s.pwr.alert + 8 * b2n s.pwr.isOver + 16 * b2n (m = .degraded)
  let temps := (List.range 32).map fun n => (getSensor n s).temp
  let top := temps.foldl max (temps.headD 0)
  fit 65 ([0x20, 0xB0, byte m.num, byte s.sys.lifecycle.code, byte (maxUnack s), byte (match first with | some r => r.cls | none => 0),
    byte (match first with | some r => r.level | none => 0), byte flags] ++ le 2 (fencedCount s) ++ le 2 (ofS 16 top) ++
    le 2 (sat 16 (pNow s / 1000)) ++ le 2 (s.flt.nextSeq % 65536) ++ le 2 (fenceMap 3 16 s) ++ le 2 (fenceMap 4 16 s) ++ [byte (fenceMap 8 4 s)])

/-- An address as the read and write rows give it: BAR0 below 64 MiB; then the 1 MiB of BAR2 (R36); then the BMC's byte map
(log entry 10). -/
def bar2Base : Nat := 0x4000000
def bmcBase : Nat := 0x4100000

/-- A read of the aligned word that contains an address (R8, R40, R514), with its answer sent. -/
def readAt (addr : Nat) (s : State) : State :=
  let a := addr - addr % 4
  if bmcBase ≤ a then
    if s.sys.mode = .off then s else emit (.readData addr (BitVec.ofNat 32 (leAt (bmcMap s) (a - bmcBase) 4))) s
  else if bar2Base ≤ a then
    let off := a - bar2Base
    emit (.readData addr (if off % 4096 = 0 ∧ s.sys.mode.engine then BitVec.ofNat 32 (devPosWord (off / 4096) s) else 0)) s
  else if readServed a s then
    let (v, t) := barRead a s
    emit (.readData addr v) t
  else emit (.readData addr 0) s

/-- A write of `size` bytes: only an aligned 32-bit write of a window that the mode serves has an effect (R8, R523, R524); in
BAR2 only a doorbell (R40). -/
def writeAt (addr size : Nat) (v : Word) (s : State) : State :=
  if size ≠ 4 ∨ addr % 4 ≠ 0 ∨ bmcBase ≤ addr then s
  else if bar2Base ≤ addr then
    if (addr - bar2Base) % 4096 = 0 then ringDoorbell ((addr - bar2Base) / 4096) v.toNat s else s
  else if writeServed addr s then barWrite addr v s
  else s

/-- The row REGISTER_WRITE. -/
def execRegisterWrite (addr size : Nat) (value : Word) (s : State) : Res := .next (writeAt addr size value s)

/-- The row REGISTER_READ_CLEAR: the field's value goes out, and then the field is 0 (R10). -/
def execRegisterReadClear (addr : Nat) (s : State) : Res := .next (readAt addr s)

/-- The row LOW_WORD_READ: the low word goes out and the high word is latched (R9). -/
def execLowWordRead (addr : Nat) (s : State) : Res := .next (readAt (addr - addr % 4) s)

end Sys2Proof.Machine
end

