-- ==== Sys2Proof/Machine/Dispatch.lean ====
section
/-! DEFINITION. The dispatch: one arm per command, each one call of its meaning. -/
namespace Sys2Proof.Machine

/-- The effect of a command on everything but the queue. -/
def exec (i : Instr) (s : State) : Host.Outcome State Fault Refusal :=
  match i with
  | .registerWrite addr size value => Sys2Proof.Machine.execRegisterWrite addr size value s
  | .registerReadClear addr => Sys2Proof.Machine.execRegisterReadClear addr s
  | .lowWordRead addr => Sys2Proof.Machine.execLowWordRead addr s
  | .ringEnable ring value => Sys2Proof.Machine.execRingEnable ring value s
  | .ringDisable ring value => Sys2Proof.Machine.execRingDisable ring value s
  | .doorbell ring value => Sys2Proof.Machine.execDoorbell ring value s
  | .arm ring value => Sys2Proof.Machine.execArm ring value s
  | .restart ch => Sys2Proof.Machine.execRestart ch s
  | .summaryGo => Sys2Proof.Machine.execSummaryGo s
  | .commandFetch desc => Sys2Proof.Machine.execCommandFetch desc s
  | .descriptorFetchError status => Sys2Proof.Machine.execDescriptorFetchError status s
  | .nop ref => Sys2Proof.Machine.execNop ref s
  | .summary ref => Sys2Proof.Machine.execSummary ref s
  | .summaryQueueStart => Sys2Proof.Machine.execSummaryQueueStart s
  | .ringQuiesce ref => Sys2Proof.Machine.execRingQuiesce ref s
  | .ringResume ref => Sys2Proof.Machine.execRingResume ref s
  | .channelRestart ref => Sys2Proof.Machine.execChannelRestart ref s
  | .channelShare ref => Sys2Proof.Machine.execChannelShare ref s
  | .eventTest ref => Sys2Proof.Machine.execEventTest ref s
  | .eventWrite ring => Sys2Proof.Machine.execEventWrite ring s
  | .burstStart ch dir => Sys2Proof.Machine.execBurstStart ch dir s
  | .descriptorComplete ch => Sys2Proof.Machine.execDescriptorComplete ch s
  | .flushReadReturn ch of answered err => Sys2Proof.Machine.execFlushReadReturn ch of answered err s
  | .lateError ch desc status => Sys2Proof.Machine.execLateError ch desc status s
  | .powerDeferLimit domain => Sys2Proof.Machine.execPowerDeferLimit domain s
  | .injectDescriptorFetch ring desc => Sys2Proof.Machine.execInjectDescriptorFetch ring desc s
  | .injectBufferReadDone ring buffers => Sys2Proof.Machine.execInjectBufferReadDone ring buffers s
  | .hostReadError ring what status => Sys2Proof.Machine.execHostReadError ring what status s
  | .puntBufferWrite ring descs => Sys2Proof.Machine.execPuntBufferWrite ring descs s
  | .hostLinkChange gen width flit => Sys2Proof.Machine.execHostLinkChange gen width flit s
  | .hostLinkDown => Sys2Proof.Machine.execHostLinkDown s
  | .perstNAssert => Sys2Proof.Machine.execPerstNAssert s
  | .perstNRelease => Sys2Proof.Machine.execPerstNRelease s
  | .macroEnable m value => Sys2Proof.Machine.execMacroEnable m value s
  | .macroDisable m value => Sys2Proof.Machine.execMacroDisable m value s
  | .macroRateChange m value => Sys2Proof.Machine.execMacroRateChange m value s
  | .txDisable lane value => Sys2Proof.Machine.execTxDisable lane value s
  | .pllLock m => Sys2Proof.Machine.execPllLock m s
  | .calibrationDone lane inRange signal => Sys2Proof.Machine.execCalibrationDone lane inRange signal s
  | .negotiationComplete lane partner => Sys2Proof.Machine.execNegotiationComplete lane partner s
  | .anTimeout lane => Sys2Proof.Machine.execAnTimeout lane s
  | .trainRetry lane => Sys2Proof.Machine.execTrainRetry lane s
  | .tapRequest lane tap up => Sys2Proof.Machine.execTapRequest lane tap up s
  | .receiversReady lane m => Sys2Proof.Machine.execReceiversReady lane m s
  | .trainTimeout lane atLimit => Sys2Proof.Machine.execTrainTimeout lane atLimit s
  | .adaptationConverged lane m => Sys2Proof.Machine.execAdaptationConverged lane m s
  | .adaptTimeout lane => Sys2Proof.Machine.execAdaptTimeout lane s
  | .laneLoss lane cdr => Sys2Proof.Machine.execLaneLoss lane cdr s
  | .wakeDeclared port => Sys2Proof.Machine.execWakeDeclared port s
  | .wakeSnrOk lane m => Sys2Proof.Machine.execWakeSnrOk lane m s
  | .wakeTimeout lane partnerTrained => Sys2Proof.Machine.execWakeTimeout lane partnerTrained s
  | .backgroundCtleStep lane up rx => Sys2Proof.Machine.execBackgroundCtleStep lane up rx s
  | .laneRetrain ref => Sys2Proof.Machine.execLaneRetrain ref s
  | .laneTest ref => Sys2Proof.Machine.execLaneTest ref s
  | .laneEye ref => Sys2Proof.Machine.execLaneEye ref s
  | .laneEyeDone lane counts => Sys2Proof.Machine.execLaneEyeDone lane counts s
  | .laneRead ref => Sys2Proof.Machine.execLaneRead ref s
  | .layoutChange m value => Sys2Proof.Machine.execLayoutChange m value s
  | .portAdmin ref => Sys2Proof.Machine.execPortAdmin ref s
  | .portGateList ref host => Sys2Proof.Machine.execPortGateList ref host s
  | .portRead ref => Sys2Proof.Machine.execPortRead ref s
  | .portWdRestore ref => Sys2Proof.Machine.execPortWdRestore ref s
  | .blockLock port ev => Sys2Proof.Machine.execBlockLock port ev s
  | .lockLoss port ev => Sys2Proof.Machine.execLockLoss port ev s
  | .hiBer port invalid => Sys2Proof.Machine.execHiBer port invalid s
  | .upDebounce port => Sys2Proof.Machine.execUpDebounce port s
  | .remoteFault port seq => Sys2Proof.Machine.execRemoteFault port seq s
  | .fecWindow port codewords => Sys2Proof.Machine.execFecWindow port codewords s
  | .frameReceive port frame codewords inputFull => Sys2Proof.Machine.execFrameReceive port frame codewords inputFull s
  | .pfcFrameReceive port enable times fcsOk => Sys2Proof.Machine.execPfcFrameReceive port enable times fcsOk s
  | .pauseFrameReceive port time fcsOk => Sys2Proof.Machine.execPauseFrameReceive port time fcsOk s
  | .pauseTimerExpiry port cls => Sys2Proof.Machine.execPauseTimerExpiry port cls s
  | .pfcFrameSend port => Sys2Proof.Machine.execPfcFrameSend port s
  | .pfcRefresh port cls => Sys2Proof.Machine.execPfcRefresh port cls s
  | .pfcWatchdog port cls => Sys2Proof.Machine.execPfcWatchdog port cls s
  | .watchdogRestore port cls => Sys2Proof.Machine.execWatchdogRestore port cls s
  | .gateTransition port => Sys2Proof.Machine.execGateTransition port s
  | .gateListSwitch port => Sys2Proof.Machine.execGateListSwitch port s
  | .sleepEntry port => Sys2Proof.Machine.execSleepEntry port s
  | .wakePatternEnd port => Sys2Proof.Machine.execWakePatternEnd port s
  | .frameEnd pkt rest codewords => Sys2Proof.Machine.execFrameEnd pkt rest codewords s
  | .groupEnable group value => Sys2Proof.Machine.execGroupEnable group value s
  | .groupDisable group value => Sys2Proof.Machine.execGroupDisable group value s
  | .frameStartPattern group inst block => Sys2Proof.Machine.execFrameStartPattern group inst block s
  | .overheadPosition group inst block pattern => Sys2Proof.Machine.execOverheadPosition group inst block pattern s
  | .multiframeLock group inst omf => Sys2Proof.Machine.execMultiframeLock group inst omf s
  | .overheadFrame group inst oh => Sys2Proof.Machine.execOverheadFrame group inst oh s
  | .calendarSwitch group => Sys2Proof.Machine.execCalendarSwitch group s
  | .calSwitchTimeout group => Sys2Proof.Machine.execCalSwitchTimeout group s
  | .rxCalendarSwitch group => Sys2Proof.Machine.execRxCalendarSwitch group s
  | .pmSecond counts => Sys2Proof.Machine.execPmSecond counts s
  | .pmBinBoundary day => Sys2Proof.Machine.execPmBinBoundary day s
  | .slotGroupMembers ref host => Sys2Proof.Machine.execSlotGroupMembers ref host s
  | .slotClientSet ref => Sys2Proof.Machine.execSlotClientSet ref s
  | .slotCmWrite ref host => Sys2Proof.Machine.execSlotCmWrite ref host s
  | .slotCalSwitch ref => Sys2Proof.Machine.execSlotCalSwitch ref s
  | .slotPmRead ref => Sys2Proof.Machine.execSlotPmRead ref s
  | .slotGroupRead ref => Sys2Proof.Machine.execSlotGroupRead ref s
  | .parseThreadAssign src => Sys2Proof.Machine.execParseThreadAssign src s
  | .parseWord pkt => Sys2Proof.Machine.execParseWord pkt s
  | .ingressStages pkt => Sys2Proof.Machine.execIngressStages pkt s
  | .admission pkt => Sys2Proof.Machine.execAdmission pkt s
  | .remainingCells pkt more => Sys2Proof.Machine.execRemainingCells pkt more s
  | .replication panel pkt => Sys2Proof.Machine.execReplication panel pkt s
  | .dequeueDecision port => Sys2Proof.Machine.execDequeueDecision port s
  | .egressStages pkt txTotalNs => Sys2Proof.Machine.execEgressStages pkt txTotalNs s
  | .transmitEnd pkt => Sys2Proof.Machine.execTransmitEnd pkt s
  | .queueFlush port => Sys2Proof.Machine.execQueueFlush port s
  | .emInsert ref => Sys2Proof.Machine.execEmInsert ref s
  | .emDelete ref => Sys2Proof.Machine.execEmDelete ref s
  | .emLookup ref => Sys2Proof.Machine.execEmLookup ref s
  | .emRead ref => Sys2Proof.Machine.execEmRead ref s
  | .lpmAdd ref => Sys2Proof.Machine.execLpmAdd ref s
  | .lpmDelete ref => Sys2Proof.Machine.execLpmDelete ref s
  | .lpmLookup ref => Sys2Proof.Machine.execLpmLookup ref s
  | .tcamWrite ref host => Sys2Proof.Machine.execTcamWrite ref host s
  | .tcamRead ref => Sys2Proof.Machine.execTcamRead ref s
  | .ecmpGroupWrite ref => Sys2Proof.Machine.execEcmpGroupWrite ref s
  | .memberWrite ref host => Sys2Proof.Machine.execMemberWrite ref host s
  | .nexthopWrite ref host => Sys2Proof.Machine.execNexthopWrite ref host s
  | .ecmpRead ref => Sys2Proof.Machine.execEcmpRead ref s
  | .shadowCheck ref host => Sys2Proof.Machine.execShadowCheck ref host s
  | .tableStat ref => Sys2Proof.Machine.execTableStat ref s
  | .classifyWrite ref host => Sys2Proof.Machine.execClassifyWrite ref host s
  | .endpointWrite ref => Sys2Proof.Machine.execEndpointWrite ref s
  | .learnHoldoffExpiry typ key => Sys2Proof.Machine.execLearnHoldoffExpiry typ key s
  | .learnRateWindow => Sys2Proof.Machine.execLearnRateWindow s
  | .nextHopDown port => Sys2Proof.Machine.execNextHopDown port s
  | .nextHopUp port => Sys2Proof.Machine.execNextHopUp port s
  | .editWrite ref host => Sys2Proof.Machine.execEditWrite ref host s
  | .mcastWrite ref host => Sys2Proof.Machine.execMcastWrite ref host s
  | .mirrorWrite ref => Sys2Proof.Machine.execMirrorWrite ref s
  | .egressWrite ref host => Sys2Proof.Machine.execEgressWrite ref host s
  | .parseRead ref => Sys2Proof.Machine.execParseRead ref s
  | .spillAssemblyTimeout queue => Sys2Proof.Machine.execSpillAssemblyTimeout queue s
  | .readbackStart queue => Sys2Proof.Machine.execReadbackStart queue s
  | .blockReadDone queue ok => Sys2Proof.Machine.execBlockReadDone queue ok s
  | .bufProfileWrite ref host => Sys2Proof.Machine.execBufProfileWrite ref host s
  | .bufQueueMap ref host => Sys2Proof.Machine.execBufQueueMap ref host s
  | .bufPortWrite ref host => Sys2Proof.Machine.execBufPortWrite ref host s
  | .bufQueueRead ref => Sys2Proof.Machine.execBufQueueRead ref s
  | .shaperTick panel => Sys2Proof.Machine.execShaperTick panel s
  | .wheelSlotDue panel => Sys2Proof.Machine.execWheelSlotDue panel s
  | .overflowSlotDue panel => Sys2Proof.Machine.execOverflowSlotDue panel s
  | .depthSample => Sys2Proof.Machine.execDepthSample s
  | .sampleWindowClose => Sys2Proof.Machine.execSampleWindowClose s
  | .schPortWrite ref host => Sys2Proof.Machine.execSchPortWrite ref host s
  | .schShaperWrite ref host => Sys2Proof.Machine.execSchShaperWrite ref host s
  | .schMeterWrite ref host => Sys2Proof.Machine.execSchMeterWrite ref host s
  | .schSampleRead ref => Sys2Proof.Machine.execSchSampleRead ref s
  | .contrib cluster => Sys2Proof.Machine.execContrib cluster s
  | .result cluster => Sys2Proof.Machine.execResult cluster s
  | .resend cluster => Sys2Proof.Machine.execResend cluster s
  | .resultReq cluster => Sys2Proof.Machine.execResultReq cluster s
  | .wait cluster => Sys2Proof.Machine.execWait cluster s
  | .pace cluster => Sys2Proof.Machine.execPace cluster s
  | .paceSet cluster => Sys2Proof.Machine.execPaceSet cluster s
  | .straggler cluster => Sys2Proof.Machine.execStraggler cluster s
  | .abort cluster => Sys2Proof.Machine.execAbort cluster s
  | .slotTimerExpiry job chunk => Sys2Proof.Machine.execSlotTimerExpiry job chunk s
  | .emittedTimerExpiry job chunk => Sys2Proof.Machine.execEmittedTimerExpiry job chunk s
  | .epochBoundary job => Sys2Proof.Machine.execEpochBoundary job s
  | .slotRestore job chunk => Sys2Proof.Machine.execSlotRestore job chunk s
  | .clusterStepChangeDone cluster => Sys2Proof.Machine.execClusterStepChangeDone cluster s
  | .jobMoveDone job => Sys2Proof.Machine.execJobMoveDone job s
  | .colJobCreate ref host => Sys2Proof.Machine.execColJobCreate ref host s
  | .colJobDestroy ref => Sys2Proof.Machine.execColJobDestroy ref s
  | .colJobRead ref => Sys2Proof.Machine.execColJobRead ref s
  | .colJobMove ref => Sys2Proof.Machine.execColJobMove ref s
  | .colPacePropose ref => Sys2Proof.Machine.execColPacePropose ref s
  | .poolGrant pool => Sys2Proof.Machine.execPoolGrant pool s
  | .poolCtrlEnable value => Sys2Proof.Machine.execPoolCtrlEnable value s
  | .bufferTestDone handle ok => Sys2Proof.Machine.execBufferTestDone handle ok s
  | .poolAlloc ref => Sys2Proof.Machine.execPoolAlloc ref s
  | .poolFree ref => Sys2Proof.Machine.execPoolFree ref s
  | .poolTransfer ref => Sys2Proof.Machine.execPoolTransfer ref s
  | .poolState ref => Sys2Proof.Machine.execPoolState ref s
  | .poolOwnerFreeAll ref => Sys2Proof.Machine.execPoolOwnerFreeAll ref s
  | .poolCopy ref host => Sys2Proof.Machine.execPoolCopy ref host s
  | .seqWord engine => Sys2Proof.Machine.execSeqWord engine s
  | .waitEnd engine ctx => Sys2Proof.Machine.execWaitEnd engine ctx s
  | .waitTimeout engine ctx => Sys2Proof.Machine.execWaitTimeout engine ctx s
  | .routineTrigger routine => Sys2Proof.Machine.execRoutineTrigger routine s
  | .blockOpDone engine ctx res => Sys2Proof.Machine.execBlockOpDone engine ctx res s
  | .storeRepair block => Sys2Proof.Machine.execStoreRepair block s
  | .stopTimeout routine => Sys2Proof.Machine.execStopTimeout routine s
  | .noIssueTimeout engine => Sys2Proof.Machine.execNoIssueTimeout engine s
  | .seqLoad ref host => Sys2Proof.Machine.execSeqLoad ref host s
  | .seqRoutineSet ref => Sys2Proof.Machine.execSeqRoutineSet ref s
  | .seqRun ref => Sys2Proof.Machine.execSeqRun ref s
  | .seqStop ref => Sys2Proof.Machine.execSeqStop ref s
  | .seqFrameRead ref => Sys2Proof.Machine.execSeqFrameRead ref s
  | .seqResume ref => Sys2Proof.Machine.execSeqResume ref s
  | .seqStoreRead ref => Sys2Proof.Machine.execSeqStoreRead ref s
  | .periodicRetrain ch => Sys2Proof.Machine.execPeriodicRetrain ch s
  | .retrainRetry ch => Sys2Proof.Machine.execRetrainRetry ch s
  | .refresh ch bank busy => Sys2Proof.Machine.execRefresh ch bank busy s
  | .selfRefreshEntry ch => Sys2Proof.Machine.execSelfRefreshEntry ch s
  | .scrubRead ch row link => Sys2Proof.Machine.execScrubRead ch row link s
  | .halfReady half => Sys2Proof.Machine.execHalfReady half s
  | .tbEnable tb value => Sys2Proof.Machine.execTbEnable tb value s
  | .tbDisable tb value => Sys2Proof.Machine.execTbDisable tb value s
  | .slewDisable tb value => Sys2Proof.Machine.execSlewDisable tb value s
  | .slewComplete tb => Sys2Proof.Machine.execSlewComplete tb s
  | .clk10Loss ratio => Sys2Proof.Machine.execClk10Loss ratio s
  | .holdoverExit tb => Sys2Proof.Machine.execHoldoverExit tb s
  | .secondBoundary tb => Sys2Proof.Machine.execSecondBoundary tb s
  | .ppsInEdge falling => Sys2Proof.Machine.execPpsInEdge falling s
  | .ppsInMissing => Sys2Proof.Machine.execPpsInMissing s
  | .tsEventEdge pin falling => Sys2Proof.Machine.execTsEventEdge pin falling s
  | .todMessage msg => Sys2Proof.Machine.execTodMessage msg s
  | .timeRead ref => Sys2Proof.Machine.execTimeRead ref s
  | .timeSet ref => Sys2Proof.Machine.execTimeSet ref s
  | .timeAdjust ref => Sys2Proof.Machine.execTimeAdjust ref s
  | .timeTrim ref => Sys2Proof.Machine.execTimeTrim ref s
  | .pairSwitch ref => Sys2Proof.Machine.execPairSwitch ref s
  | .snapshotInstant set => Sys2Proof.Machine.execSnapshotInstant set s
  | .dumpComplete set err => Sys2Proof.Machine.execDumpComplete set err s
  | .gauzeRecordWrite => Sys2Proof.Machine.execGauzeRecordWrite s
  | .gauzeEnable value => Sys2Proof.Machine.execGauzeEnable value s
  | .ctrSetWrite ref => Sys2Proof.Machine.execCtrSetWrite ref s
  | .ctrRead ref => Sys2Proof.Machine.execCtrRead ref s
  | .ctrClear ref => Sys2Proof.Machine.execCtrClear ref s
  | .ctrDumpNow ref => Sys2Proof.Machine.execCtrDumpNow ref s
  | .gauzeRelease ref => Sys2Proof.Machine.execGauzeRelease ref s
  | .ioamSink ref host => Sys2Proof.Machine.execIoamSink ref host s
  | .powerSample m => Sys2Proof.Machine.execPowerSample m s
  | .pmbusRead answers => Sys2Proof.Machine.execPmbusRead answers s
  | .throttleRaise => Sys2Proof.Machine.execThrottleRaise s
  | .railReached cr mv => Sys2Proof.Machine.execRailReached cr mv s
  | .droopTrip det code => Sys2Proof.Machine.execDroopTrip det code s
  | .droopReturn domain => Sys2Proof.Machine.execDroopReturn domain s
  | .droopRecalibration det => Sys2Proof.Machine.execDroopRecalibration det s
  | .vrAlert ball status => Sys2Proof.Machine.execVrAlert ball status s
  | .vrAlertClear => Sys2Proof.Machine.execVrAlertClear s
  | .sensorRead temps => Sys2Proof.Machine.execSensorRead temps s
  | .thermalRecovery die => Sys2Proof.Machine.execThermalRecovery die s
  | .thermalTrip sensor => Sys2Proof.Machine.execThermalTrip sensor s
  | .domainPowerDownDone domain => Sys2Proof.Machine.execDomainPowerDownDone domain s
  | .pwrDomain ref => Sys2Proof.Machine.execPwrDomain ref s
  | .pwrLimitSet ref => Sys2Proof.Machine.execPwrLimitSet ref s
  | .pwrRead ref => Sys2Proof.Machine.execPwrRead ref s
  | .pwrPmbus ref ans => Sys2Proof.Machine.execPwrPmbus ref ans s
  | .recordFormation incoming => Sys2Proof.Machine.execRecordFormation incoming s
  | .conditionClear cls kind unit => Sys2Proof.Machine.execConditionClear cls kind unit s
  | .fenceComplete kind unit => Sys2Proof.Machine.execFenceComplete kind unit s
  | .testEnd kind unit found => Sys2Proof.Machine.execTestEnd kind unit found s
  | .aliveToggle => Sys2Proof.Machine.execAliveToggle s
  | .clockMonitorWindow clock found => Sys2Proof.Machine.execClockMonitorWindow clock found s
  | .resetReq value within1ms => Sys2Proof.Machine.execResetReq value within1ms s
  | .faultAck ref => Sys2Proof.Machine.execFaultAck ref s
  | .faultRead ref => Sys2Proof.Machine.execFaultRead ref s
  | .faultClassSet ref => Sys2Proof.Machine.execFaultClassSet ref s
  | .unitFence ref => Sys2Proof.Machine.execUnitFence ref s
  | .unitTest ref => Sys2Proof.Machine.execUnitTest ref s
  | .unitReturn ref => Sys2Proof.Machine.execUnitReturn ref s
  | .firstClear ref => Sys2Proof.Machine.execFirstClear ref s
  | .diagTest ref passed => Sys2Proof.Machine.execDiagTest ref passed s
  | .vddAonGood fuseError => Sys2Proof.Machine.execVddAonGood fuseError s
  | .vddAonLost => Sys2Proof.Machine.execVddAonLost s
  | .railResetLevel rail => Sys2Proof.Machine.execRailResetLevel rail s
  | .resetNAssert => Sys2Proof.Machine.execResetNAssert s
  | .resetNRelease straps good => Sys2Proof.Machine.execResetNRelease straps good s
  | .wipeComplete found => Sys2Proof.Machine.execWipeComplete found s
  | .bootImageAccepted slotA slotB => Sys2Proof.Machine.execBootImageAccepted slotA slotB s
  | .hostBootGo value => Sys2Proof.Machine.execHostBootGo value s
  | .hostImageChecked image => Sys2Proof.Machine.execHostImageChecked image s
  | .drainEnd => Sys2Proof.Machine.execDrainEnd s
  | .drainLimit => Sys2Proof.Machine.execDrainLimit s
  | .nonceExpiry => Sys2Proof.Machine.execNonceExpiry s
  | .modeSet ref => Sys2Proof.Machine.execModeSet ref s
  | .sysReset ref => Sys2Proof.Machine.execSysReset ref s
  | .lcAdvance ref host => Sys2Proof.Machine.execLcAdvance ref host s
  | .rollbackAdvance ref => Sys2Proof.Machine.execRollbackAdvance ref s
  | .debugChallenge ref => Sys2Proof.Machine.execDebugChallenge ref s
  | .debugUnlock ref host => Sys2Proof.Machine.execDebugUnlock ref host s
  | .flashWrite ref host flashOk => Sys2Proof.Machine.execFlashWrite ref host flashOk s
  | .keyRevoke ref => Sys2Proof.Machine.execKeyRevoke ref s
  | .tapInstruction code scan => Sys2Proof.Machine.execTapInstruction code scan s
  | .signalDetect lane => Sys2Proof.Machine.execSignalDetect lane s
  | .channelTrainingDone ch t => Sys2Proof.Machine.execChannelTrainingDone ch t s
  | .noAcceptableImage => Sys2Proof.Machine.execNoAcceptableImage s
  | .laneGroupClockLock group ok => Sys2Proof.Machine.execLaneGroupClockLock group ok s

end Sys2Proof.Machine
end

