-- ==== Sys2Proof/WellFormed.lean ====
section
/-! DEFINITION. Which commands can be given: every unit a command names by number is one the spec gives the block. -/
namespace Sys2Proof

/-- Units of a kind of Table 18.3. -/
def unitCount (kind : Nat) : Nat := ([0, 128, 1024, 16, 16, 256, 16, 256, 4, 32, 64, 8, 4]).getD kind 0

/-- The operands of a command name units within the ranges of chapters 1 to 20. A reference to a command in flight names no
unit: where no such command is in flight, the row changes nothing. -/
def wellFormed : Instr → Bool
  | .registerWrite _ _ _ => true
  | .registerReadClear _ => true
  | .lowWordRead _ => true
  | .ringEnable ring _ => decide (ring < 256)
  | .ringDisable ring _ => decide (ring < 256)
  | .doorbell ring _ => decide (ring < 256)
  | .arm ring _ => decide (ring < 256)
  | .restart ch => decide (ch < 64)
  | .summaryGo => true
  | .commandFetch _ => true
  | .descriptorFetchError _ => true
  | .nop _ => true
  | .summary _ => true
  | .summaryQueueStart => true
  | .ringQuiesce _ => true
  | .ringResume _ => true
  | .channelRestart _ => true
  | .channelShare _ => true
  | .eventTest _ => true
  | .eventWrite ring => decide (ring < 256)
  | .burstStart ch _ => decide (ch < 64)
  | .descriptorComplete ch => decide (ch < 64)
  | .flushReadReturn ch _ _ _ => decide (ch < 4)
  | .lateError ch desc _ => decide (ch < 64) && decide (desc.ring < 256)
  | .powerDeferLimit domain => decide (domain < 31)
  | .injectDescriptorFetch ring _ => decide (ring < 256)
  | .injectBufferReadDone ring _ => decide (ring < 256)
  | .hostReadError ring _ _ => decide (ring < 256)
  | .puntBufferWrite ring _ => decide (ring < 256)
  | .hostLinkChange _ _ _ => true
  | .hostLinkDown => true
  | .perstNAssert => true
  | .perstNRelease => true
  | .macroEnable m _ => decide (m < 128)
  | .macroDisable m _ => decide (m < 128)
  | .macroRateChange m _ => decide (m < 128)
  | .txDisable lane _ => decide (lane < 1024)
  | .pllLock m => decide (m < 128)
  | .calibrationDone lane _ _ => decide (lane < 1024)
  | .negotiationComplete lane _ => decide (lane < 1024)
  | .anTimeout lane => decide (lane < 1024)
  | .trainRetry lane => decide (lane < 1024)
  | .tapRequest lane tap _ => decide (lane < 1024) && decide (tap < 6)
  | .receiversReady lane _ => decide (lane < 1024)
  | .trainTimeout lane _ => decide (lane < 1024)
  | .adaptationConverged lane _ => decide (lane < 1024)
  | .adaptTimeout lane => decide (lane < 1024)
  | .laneLoss lane _ => decide (lane < 1024)
  | .wakeDeclared port => decide (port < 1024)
  | .wakeSnrOk lane _ => decide (lane < 1024)
  | .wakeTimeout lane _ => decide (lane < 1024)
  | .backgroundCtleStep lane _ _ => decide (lane < 1024)
  | .laneRetrain _ => true
  | .laneTest _ => true
  | .laneEye _ => true
  | .laneEyeDone lane _ => decide (lane < 1024)
  | .laneRead _ => true
  | .layoutChange m _ => decide (m < 128)
  | .portAdmin _ => true
  | .portGateList _ _ => true
  | .portRead _ => true
  | .portWdRestore _ => true
  | .blockLock port _ => decide (port < 1024)
  | .lockLoss port _ => decide (port < 1024)
  | .hiBer port _ => decide (port < 1024)
  | .upDebounce port => decide (port < 1024)
  | .remoteFault port _ => decide (port < 1024)
  | .fecWindow port _ => decide (port < 1024)
  | .frameReceive port _ _ _ => decide (port < 1024)
  | .pfcFrameReceive port _ _ _ => decide (port < 1024)
  | .pauseFrameReceive port _ _ => decide (port < 1024)
  | .pauseTimerExpiry port cls => decide (port < 1024) && decide (cls < 8)
  | .pfcFrameSend port => decide (port < 1024)
  | .pfcRefresh port cls => decide (port < 1024) && decide (cls < 8)
  | .pfcWatchdog port cls => decide (port < 1024) && decide (cls < 8)
  | .watchdogRestore port cls => decide (port < 1024) && decide (cls < 8)
  | .gateTransition port => decide (port < 1024)
  | .gateListSwitch port => decide (port < 1024)
  | .sleepEntry port => decide (port < 1024)
  | .wakePatternEnd port => decide (port < 1024)
  | .frameEnd _ _ _ => true
  | .groupEnable group _ => decide (group < 32)
  | .groupDisable group _ => decide (group < 32)
  | .frameStartPattern group _ _ => decide (group < 32)
  | .overheadPosition group _ _ _ => decide (group < 32)
  | .multiframeLock group _ _ => decide (group < 32)
  | .overheadFrame group _ _ => decide (group < 32)
  | .calendarSwitch group => decide (group < 32)
  | .calSwitchTimeout group => decide (group < 32)
  | .rxCalendarSwitch group => decide (group < 32)
  | .pmSecond _ => true
  | .pmBinBoundary _ => true
  | .slotGroupMembers _ _ => true
  | .slotClientSet _ => true
  | .slotCmWrite _ _ => true
  | .slotCalSwitch _ => true
  | .slotPmRead _ => true
  | .slotGroupRead _ => true
  | .parseThreadAssign (.waiting _) => true
  | .parseThreadAssign (.arriving port _) => decide (port < 1024)
  | .parseWord _ => true
  | .ingressStages _ => true
  | .admission _ => true
  | .remainingCells _ _ => true
  | .replication panel _ => decide (panel < 4)
  | .dequeueDecision port => decide (port < 1024)
  | .egressStages _ _ => true
  | .transmitEnd _ => true
  | .queueFlush port => decide (port < 1024)
  | .emInsert _ => true
  | .emDelete _ => true
  | .emLookup _ => true
  | .emRead _ => true
  | .lpmAdd _ => true
  | .lpmDelete _ => true
  | .lpmLookup _ => true
  | .tcamWrite _ _ => true
  | .tcamRead _ => true
  | .ecmpGroupWrite _ => true
  | .memberWrite _ _ => true
  | .nexthopWrite _ _ => true
  | .ecmpRead _ => true
  | .shadowCheck _ _ => true
  | .tableStat _ => true
  | .classifyWrite _ _ => true
  | .endpointWrite _ => true
  | .learnHoldoffExpiry _ _ => true
  | .learnRateWindow => true
  | .nextHopDown port => decide (port < 1024)
  | .nextHopUp port => decide (port < 1024)
  | .editWrite _ _ => true
  | .mcastWrite _ _ => true
  | .mirrorWrite _ => true
  | .egressWrite _ _ => true
  | .parseRead _ => true
  | .spillAssemblyTimeout queue => decide (queue < 20480)
  | .readbackStart queue => decide (queue < 20480)
  | .blockReadDone queue _ => decide (queue < 20480)
  | .bufProfileWrite _ _ => true
  | .bufQueueMap _ _ => true
  | .bufPortWrite _ _ => true
  | .bufQueueRead _ => true
  | .shaperTick panel => decide (panel < 4)
  | .wheelSlotDue panel => decide (panel < 4)
  | .overflowSlotDue panel => decide (panel < 4)
  | .depthSample => true
  | .sampleWindowClose => true
  | .schPortWrite _ _ => true
  | .schShaperWrite _ _ => true
  | .schMeterWrite _ _ => true
  | .schSampleRead _ => true
  | .contrib cluster => decide (cluster < 4)
  | .result cluster => decide (cluster < 4)
  | .resend cluster => decide (cluster < 4)
  | .resultReq cluster => decide (cluster < 4)
  | .wait cluster => decide (cluster < 4)
  | .pace cluster => decide (cluster < 4)
  | .paceSet cluster => decide (cluster < 4)
  | .straggler cluster => decide (cluster < 4)
  | .abort cluster => decide (cluster < 4)
  | .slotTimerExpiry job _ => decide (job < 128)
  | .emittedTimerExpiry job _ => decide (job < 128)
  | .epochBoundary job => decide (job < 128)
  | .slotRestore job _ => decide (job < 128)
  | .clusterStepChangeDone cluster => decide (cluster < 4)
  | .jobMoveDone job => decide (job < 128)
  | .colJobCreate _ _ => true
  | .colJobDestroy _ => true
  | .colJobRead _ => true
  | .colJobMove _ => true
  | .colPacePropose _ => true
  | .poolGrant pool => decide (pool < 8)
  | .poolCtrlEnable _ => true
  | .bufferTestDone _ _ => true
  | .poolAlloc _ => true
  | .poolFree _ => true
  | .poolTransfer _ => true
  | .poolState _ => true
  | .poolOwnerFreeAll _ => true
  | .poolCopy _ _ => true
  | .seqWord engine => decide (engine < 8)
  | .waitEnd engine ctx => decide (engine < 8) && decide (ctx < 4)
  | .waitTimeout engine ctx => decide (engine < 8) && decide (ctx < 4)
  | .routineTrigger routine => decide (routine < 64)
  | .blockOpDone engine ctx _ => decide (engine < 8) && decide (ctx < 4)
  | .storeRepair block => decide (block < 256)
  | .stopTimeout routine => decide (routine < 64)
  | .noIssueTimeout engine => decide (engine < 8)
  | .seqLoad _ _ => true
  | .seqRoutineSet _ => true
  | .seqRun _ => true
  | .seqStop _ => true
  | .seqFrameRead _ => true
  | .seqResume _ => true
  | .seqStoreRead _ => true
  | .periodicRetrain ch => decide (ch < 32)
  | .retrainRetry ch => decide (ch < 32)
  | .refresh ch _ _ => decide (ch < 32)
  | .selfRefreshEntry ch => decide (ch < 32)
  | .scrubRead ch _ _ => decide (ch < 32)
  | .halfReady half => decide (half < 2)
  | .tbEnable tb _ => decide (tb < 4)
  | .tbDisable tb _ => decide (tb < 4)
  | .slewDisable tb _ => decide (tb < 4)
  | .slewComplete tb => decide (tb < 4)
  | .clk10Loss _ => true
  | .holdoverExit tb => decide (tb < 4)
  | .secondBoundary tb => decide (tb < 4)
  | .ppsInEdge _ => true
  | .ppsInMissing => true
  | .tsEventEdge pin _ => decide (pin < 4)
  | .todMessage _ => true
  | .timeRead _ => true
  | .timeSet _ => true
  | .timeAdjust _ => true
  | .timeTrim _ => true
  | .pairSwitch _ => true
  | .snapshotInstant set => decide (set < 16)
  | .dumpComplete set _ => decide (set < 16)
  | .gauzeRecordWrite => true
  | .gauzeEnable _ => true
  | .ctrSetWrite _ => true
  | .ctrRead _ => true
  | .ctrClear _ => true
  | .ctrDumpNow _ => true
  | .gauzeRelease _ => true
  | .ioamSink _ _ => true
  | .powerSample _ => true
  | .pmbusRead _ => true
  | .throttleRaise => true
  | .railReached cr _ => decide (cr < 4)
  | .droopTrip det code => decide (det < 64) && decide (code < 256)
  | .droopReturn domain => decide (domain < 31)
  | .droopRecalibration det => decide (det < 64)
  | .vrAlert ball _ => decide (ball < 2)
  | .vrAlertClear => true
  | .sensorRead _ => true
  | .thermalRecovery die => decide (die < 2)
  | .thermalTrip sensor => decide (sensor < 32)
  | .domainPowerDownDone domain => decide (domain < 31)
  | .pwrDomain _ => true
  | .pwrLimitSet _ => true
  | .pwrRead _ => true
  | .pwrPmbus _ _ => true
  | .recordFormation incoming => incoming.all fun r => decide (r.cls < 256) && decide (r.kind < 15) && decide (r.unit < 65536)
  | .conditionClear cls _ _ => decide (cls < 256)
  | .fenceComplete kind unit => decide (unit < unitCount kind)
  | .testEnd kind unit _ => decide (unit < unitCount kind)
  | .aliveToggle => true
  | .clockMonitorWindow clock _ => decide (clock < 51)
  | .resetReq _ _ => true
  | .faultAck _ => true
  | .faultRead _ => true
  | .faultClassSet _ => true
  | .unitFence _ => true
  | .unitTest _ => true
  | .unitReturn _ => true
  | .firstClear _ => true
  | .diagTest _ _ => true
  | .vddAonGood _ => true
  | .vddAonLost => true
  | .railResetLevel rail => decide (rail < 5)
  | .resetNAssert => true
  | .resetNRelease _ _ => true
  | .wipeComplete found => found.units.all fun u => decide (u.1 < 15) && decide (u.2 < 65536)
  | .bootImageAccepted _ _ => true
  | .hostBootGo _ => true
  | .hostImageChecked _ => true
  | .drainEnd => true
  | .drainLimit => true
  | .nonceExpiry => true
  | .modeSet _ => true
  | .sysReset _ => true
  | .lcAdvance _ _ => true
  | .rollbackAdvance _ => true
  | .debugChallenge _ => true
  | .debugUnlock _ _ => true
  | .flashWrite _ _ _ => true
  | .keyRevoke _ => true
  | .tapInstruction _ _ => true
  | .signalDetect lane => decide (lane < 1024)
  | .channelTrainingDone ch _ => decide (ch < 32)
  | .noAcceptableImage => true
  | .laneGroupClockLock group _ => decide (group < 16)

end Sys2Proof
end

