-- ==== Sys2Proof/Safety.lean ====
section
/-! DEFINITION. What a safe run of the block is: every command that waits can be given, so no step stops; the facts about the
state that every step keeps; and what it takes for a command in flight to start. -/
namespace Sys2Proof.Machine

/-- Every command that waits names units the block has. -/
def queueOk (s : State) : Bool := s.pending.all wellFormed

/-- A step that neither faults nor refuses. -/
def goesOn (s : State) : Prop := ∃ t, step s = .next t

/-- The Burlap memory is in canonical form. -/
def burlapOk (s : State) : Bool := Memory.wf s.mem.burlap

/-- DC00, on which the Linen record moves, is in service (R508). -/
def dc00Ok (s : State) : Bool := decide ((getUnit 10 0 s).state = .inService)

/-- A command in flight that starts now and passes its start checks (R48, R57, R561): the engine serves commands, the command
has the opcode, has not started, nothing of its ring holds it back, its channel takes a descriptor, checks 4 and 5 find
nothing, and the power domains of the data that it moves are on (R70). -/
def ready (op : Nat) (c : Cmd) (s : State) : Bool :=
  decide (findCmd c.ref s = some c) && s.sys.mode.engine && decide (c.opcode = op) && decide (c.stage = .fetched) &&
    startable c s && chanReady c s && decide (startCheck c s = none) && (decide (c.len = 0) || !domsDown (cmdDoms c s) s)

/-- The state in which the owner of a command that has started acts. -/
def started (c : Cmd) (s : State) : State := modCmd c.ref (fun d => { d with stage := .running }) s

end Sys2Proof.Machine
end

