-- ==== Sys2Proof/Certificates/Slice0/Obligations.lean ====
section
/-! DEFINITION. The statements for the provers. -/

open Sys2Proof Sys2Proof.Machine

/-- For every command c, queue q and state s, step of s with c in front of q is exec of c on s with the queue q. (00_scope.md,
95_what_each_step_holds.md) -/
def Obligations.StepRunsFront : Prop :=
  ∀ (c : Instr) (q : List Instr) (s : State), step { s with pending := c :: q } = exec c { s with pending := q }

/-- With no command waiting a step answers a next state (the model's choice, log entry 2): nothing changes in OFF; elsewhere
AON_CYCLE grows by 1 modulo 2^64, and in either case the registers, the host interface, the units' fence states, the memory, the
mode and what was sent out stay. (01_architecture.md, 18_faults.md) -/
def Obligations.IdleStep : Prop :=
  ∀ s : State, s.pending = [] →
    (s.sys.mode = .off → step s = .next s) ∧
    (s.sys.mode ≠ .off → ∃ t, step s = .next t ∧ t.aon = (s.aon + 1) % 2 ^ 64 ∧ t.regs = s.regs ∧ t.hif = s.hif ∧
      t.flt.units = s.flt.units ∧ t.mem = s.mem ∧ t.sys = s.sys ∧ t.out = s.out ∧ t.pending = [])

/-- While the engine serves commands, a write of HIF_RING_CFG with ENABLE = 1 to a ring that is not enabled, and that R37 does not
refuse, answers a next state whose register holds the written fields and whose positions, QUIESCED, arming and fetch count are
reset; a refused one (LOG2_SIZE above 10, base 0, no enabled event ring, DC00 to DC03 without PRIV) answers one that sets CFG_ERR
and leaves ENABLE 0; a write to an enabled ring with ENABLE = 1 changes nothing, and with ENABLE = 0 it clears that bit only, a
punt ring losing its waiting packets. The model's own choices in these rows: log entry 22. (02_control_model.md) -/
def Obligations.RingConfiguration : Prop :=
  ∀ (n : Nat) (v : Word) (s : State), n < 256 → s.sys.mode.engine = true →
    let x := v.toNat
    let refused := 10 < x % 16 ∨ rd Reg.hifRingBase n s = 0 ∨ (fld x 4 2 ≠ 1 ∧ evRingOn (fld x 8 8) s = false) ∨
      (fld x 16 6 < 4 ∧ bitAt x 6 = false)
    (bitAt x 7 = true → ringOn n s = false → ¬refused →
      exec (.ringEnable n v) s = .next (setRing n { getRing n s with
        prod := 0, cons := 0, host := 0, cfgErr := false, quiesced := false, armed := none, fetched := 0, injDescs := [],
        injStage := .idle, puntDone := 0, puntBufs := 0, puntWait := [] } (wrRw Reg.hifRingCfg n x s))) ∧
    (bitAt x 7 = true → ringOn n s = false → refused →
      exec (.ringEnable n v) s =
        .next (setRing n { getRing n s with cfgErr := true } (wrRw Reg.hifRingCfg n (setFld x 7 1 0) s))) ∧
    (bitAt x 7 = true → ringOn n s = true → exec (.ringEnable n v) s = .next s) ∧
    (bitAt x 7 = false → ringOn n s = true → ringKind n s ≠ 3 →
      exec (.ringDisable n v) s = .next (wr Reg.hifRingCfg n (setFld (rd Reg.hifRingCfg n s) 7 1 0) s)) ∧
    (bitAt x 7 = false → ringOn n s = true → ringKind n s = 3 →
      exec (.ringDisable n v) s = .next (dropPunts n (wr Reg.hifRingCfg n (setFld (rd Reg.hifRingCfg n s) 7 1 0) s))) ∧
    (bitAt x 7 = false → ringOn n s = false → exec (.ringDisable n v) s = .next (wrRw Reg.hifRingCfg n x s))

/-- While the engine serves commands: DOORBELL of an enabled ring whose position R41 accepts makes the producer position INDEX + S
× GEN on a command, inject or punt ring, and on an event ring, with ARM = 0, the consumer position; ARM (a doorbell with ARM = 1)
of an event ring moves the consumer position and arms the vector there where the ring holds no unconsumed event, or raises it at
once where it does. A raised vector that is not masked goes out; a masked one sets its pending bit. A doorbell to a ring that is
not enabled posts EV_DOORBELL_BAD with cause 1 and one out of range with cause 0, and neither changes anything else. The model's
own choices in these rows: log entries 14 and 18. (02_control_model.md) -/
def Obligations.Doorbells : Prop :=
  ∀ (n : Nat) (v : Word) (s : State), n < 256 → s.sys.mode.engine = true →
    let x := v.toNat
    let size := ringSize n s
    let new := x % 65536 + size * fld x 16 1
    let r := getRing n s
    let dev := if ringKind n s = 1 then r.prod else r.cons
    let old := if ringKind n s = 1 then r.cons else r.prod
    let occ := if ringKind n s = 1 then (dev + 2 * size - new) % (2 * size) else (new + 2 * size - dev) % (2 * size)
    let ok := x % 65536 < size ∧ (new + 2 * size - old) % (2 * size) ≤ size ∧ occ ≤ size
    (ringOn n s = true → ok → ringKind n s ≠ 1 →
      exec (.doorbell n v) s = .next (setRing n { r with host := x, prod := new } s)) ∧
    (ringOn n s = true → ok → ringKind n s = 1 → bitAt x 17 = false →
      exec (.doorbell n v) s = .next (setRing n { r with host := x, cons := new } s)) ∧
    (ringOn n s = true → ok → ringKind n s = 1 → bitAt x 17 = true → r.prod = new →
      ∃ t, exec (.arm n v) s = .next t ∧ getRing n t = { r with host := x, cons := new, armed := some new } ∧ t.out = s.out) ∧
    (ringOn n s = true → ok → ringKind n s = 1 → bitAt x 17 = true → r.prod ≠ new → vectorMasked n s = false →
      ∃ t, exec (.arm n v) s = .next t ∧ getRing n t = { r with host := x, cons := new, armed := none } ∧
        t.out = .msix n :: s.out) ∧
    (ringOn n s = true → ok → ringKind n s = 1 → bitAt x 17 = true → r.prod ≠ new → vectorMasked n s = true →
      ∃ t, exec (.arm n v) s = .next t ∧ getRing n t = { r with host := x, cons := new, armed := none } ∧
        t.out = s.out ∧ t.regs = (wr Reg.msixPba (n / 32) (rd Reg.msixPba (n / 32) s ||| 2 ^ (n % 32)) s).regs) ∧
    (ringOn n s = false → exec (.doorbell n v) s = .next (post 4 ([byte n, 1, 0, 0] ++ le 4 x) s)) ∧
    (ringOn n s = true → ¬ok → exec (.doorbell n v) s = .next (post 4 ([byte n, 0, 0, 0] ++ le 4 x) s))

/-- When the engine may fetch (mayFetch: its mode, HIF_CTRL.ENABLE, fewer than 1,024 commands in flight) and n is the first ring
with work at or after the round-robin place (turnRing), COMMAND_FETCH answers a next state: the entry is taken (takeEntry), the
next turn starts behind the ring, and the command decoded from the entry is in flight last; a start check that finds a status ends
it with that status and no byte moved, checks 1 to 3 at once, checks 4 and 5 where the command may start. DESCRIPTOR_FETCH_ERROR
(the host refuses the read) takes the entry too, puts nothing in flight, and posts one EV_CMD_ERROR with the host's status, tag 0,
the entry's number and the ring to the event ring of the ring's set-up. Taking an entry of a command ring moves its consumer
position on by one modulo 2S and its count of entries by one, changes nothing else of the ring, no other ring, no command in
flight and no byte sent out. The model's own choices in these rows: log entries 12, 18 and 19. (02_control_model.md) -/
def Obligations.CommandFetch : Prop :=
  ∀ (desc : List Byte) (st : Byte) (n : Nat) (s : State), mayFetch s = true → turnRing s = some n →
    let c := decodeCmd n (getRing n s).fetched (fit 64 desc) s
    let u := takeEntry n s
    let t := { u with hif := { u.hif with rrNext := (n + 1) % 256, inflight := u.hif.inflight ++ [c] } }
    (∀ k, fetchCheck c (fit 64 desc) s = some k → exec (.commandFetch desc) s = .next (finish c { status := k } 0 0 t)) ∧
    (fetchCheck c (fit 64 desc) s = none → startable c t = false → exec (.commandFetch desc) s = .next t) ∧
    (fetchCheck c (fit 64 desc) s = none → startable c t = true → startCheck c t = none →
      exec (.commandFetch desc) s = .next t) ∧
    (∀ k, fetchCheck c (fit 64 desc) s = none → startable c t = true → startCheck c t = some k →
      exec (.commandFetch desc) s = .next (finish c { status := k } 0 0 t)) ∧
    exec (.descriptorFetchError st) s = .next (postCompletion (ringEv n s) { ring := n, seq := 2 ^ 32 + (getRing n s).fetched }
      { code := 2, status := st.toNat, ts := (stamp s).1, ph := (stamp s).2, src := n, seq := (getRing n s).fetched }
      { u with hif := { u.hif with rrNext := (n + 1) % 256 } }) ∧
    getRing n u = { getRing n s with cons := ((getRing n s).cons + 1) % (2 * ringSize n s),
                                     fetched := ((getRing n s).fetched + 1) % 2 ^ 32 } ∧
    (∀ m, m ≠ n → getRing m u = getRing m s) ∧ u.hif.inflight = s.hif.inflight ∧ u.out = s.out

/-- A command in flight that may start and passes its start checks completes with OK: NOP changes nothing else; RING_QUIESCE and
RING_RESUME of an enabled command, inject or punt ring set and clear QUIESCED; CHANNEL_RESTART of a channel number below 64 takes
the channel out of HALTED and so does a write of HIF_DMA_CTRL.RESTART; CHANNEL_SHARE writes SHARE; EVENT_TEST returns its
operands. The others complete with BAD_PARAM on any other ring or channel. (02_control_model.md) -/
def Obligations.ControlOpcodes : Prop :=
  ∀ (c : Cmd) (s : State),
    let u := started c s
    let n := c.op 0 1
    (ready 0 c s = true → exec (.nop c.ref) s = .next (finish c {} 0 0 u)) ∧
    (ready 2 c s = true → ringOn n s = true → ringKind n s ≠ 1 →
      exec (.ringQuiesce c.ref) s = .next (finish c {} 0 0 (setRing n { getRing n s with quiesced := true } u))) ∧
    (ready 3 c s = true → ringOn n s = true → ringKind n s ≠ 1 →
      exec (.ringResume c.ref) s = .next (finish c {} 0 0 (setRing n { getRing n s with quiesced := false } u))) ∧
    (ready 2 c s = true → (ringOn n s = false ∨ ringKind n s = 1) →
      exec (.ringQuiesce c.ref) s = .next (finish c { status := 2 } 0 0 u)) ∧
    (ready 3 c s = true → (ringOn n s = false ∨ ringKind n s = 1) →
      exec (.ringResume c.ref) s = .next (finish c { status := 2 } 0 0 u)) ∧
    (ready 4 c s = true → n < 64 →
      exec (.channelRestart c.ref) s = .next (finish c {} 0 0 (setChan n { getChan n s with halted := false } u))) ∧
    (ready 4 c s = true → 64 ≤ n → exec (.channelRestart c.ref) s = .next (finish c { status := 2 } 0 0 u)) ∧
    (ready 5 c s = true → n < 64 →
      exec (.channelShare c.ref) s = .next (finish c {} 0 0 (wrFld Reg.hifDmaCfg n 0 8 (c.op 1 1) u))) ∧
    (ready 5 c s = true → 64 ≤ n → exec (.channelShare c.ref) s = .next (finish c { status := 2 } 0 0 u)) ∧
    (ready 6 c s = true → exec (.eventTest c.ref) s = .next (finish c { payload := c.ops } 0 0 u)) ∧
    (∀ ch, ch < 64 → s.sys.mode.engine = true →
      exec (.restart ch) s = .next (setChan ch { getChan ch s with halted := false } s))

/-- A ready SUMMARY with a 64-byte aligned address and length 65,536 that finds fewer than five SUMMARYs joins the queue, another
address or length completes with BAD_PARAM, and a full queue with NO_RESOURCE. SUMMARY_GO queues one to HIF_SUMMARY_ADDR, sets ERR
where the queue is full, and is ignored while one started by register runs or waits. SUMMARY_QUEUE_START: while none runs, the
first of the queue starts: its record of 65,520 bytes goes out to its address, then the flush read of the record's last byte, and
the record number grows by one modulo 2^32; while one runs, none starts. The model's own choices in these rows: log entries 15 and
20. (02_control_model.md) -/
def Obligations.SummaryQueue : Prop :=
  ∀ (c : Cmd) (s : State),
    let u := started c s
    let count := (if s.hif.sumRun.isSome then 1 else 0) + s.hif.sumWait.length
    (ready 1 c s = true → c.addr % 64 = 0 → c.len = 65536 → count < 5 →
      exec (.summary c.ref) s =
        .next { u with hif := { u.hif with sumWait := u.hif.sumWait ++ [{ cmd := some c.ref, addr := c.addr }] } }) ∧
    (ready 1 c s = true → (c.addr % 64 ≠ 0 ∨ c.len ≠ 65536) →
      exec (.summary c.ref) s = .next (finish c { status := 2 } 0 0 u)) ∧
    (ready 1 c s = true → c.addr % 64 = 0 → c.len = 65536 → 5 ≤ count →
      exec (.summary c.ref) s = .next (finish c { status := 4 } 0 0 u)) ∧
    (s.sys.mode.engine = true → sumBusy s = true → exec .summaryGo s = .next s) ∧
    (s.sys.mode.engine = true → sumBusy s = false → count < 5 →
      exec .summaryGo s = .next { s with hif := { s.hif with
        sumErr := false, sumWait := s.hif.sumWait ++ [{ cmd := none, addr := rd Reg.hifSummaryAddr 0 s }] } }) ∧
    (s.sys.mode.engine = true → sumBusy s = false → 5 ≤ count →
      exec .summaryGo s = .next { s with hif := { s.hif with sumErr := true } }) ∧
    (s.sys.mode.engine = true → s.hif.sumRun.isSome = true → exec .summaryQueueStart s = .next s) ∧
    (∀ j rest, s.sys.mode.engine = true → s.hif.sumRun = none → s.hif.sumWait = j :: rest →
      ∃ t, exec .summaryQueueStart s = .next t ∧ t.hif.sumRun = some j ∧ t.hif.sumWait = rest ∧
        t.hif.sumCount = (s.hif.sumCount + 1) % 2 ^ 32 ∧ t.hif.sumRecord.length = 65520 ∧
        t.out = .flushRead (j.addr + 65519) :: (writeHost j.addr t.hif.sumRecord s).out)

/-- While the engine serves commands and the ring has room, EVENT_WRITE answers a next state: the oldest waiting completion is
written and its command leaves the commands in flight; with no completion waiting, the oldest event of the backlog is written, a
count of discarded events as EV_EVENT_LOST in its place, after which transmit captures that wait may follow (drainCaptures, which
changes nothing where none waits); with nothing waiting nothing changes. The model's own choices in these rows: log entries 17, 19
and 26. (02_control_model.md) -/
def Obligations.WaitingEvents : Prop :=
  ∀ (n : Nat) (s : State), n < 256 → s.sys.mode.engine = true → ringRoom n s = true →
    let r := getRing n s
    (∀ ref e rest, r.comps = (ref, e) :: rest →
      exec (.eventWrite n) s = .next (retire ref (writeEvent n e (setRing n { r with comps := rest } s)))) ∧
    (∀ e rest, r.comps = [] → r.backlog = .ev e :: rest →
      exec (.eventWrite n) s = .next (drainCaptures (writeEvent n e (setRing n { r with backlog := rest } s)))) ∧
    (∀ k rest, r.comps = [] → r.backlog = .lost k :: rest → exec (.eventWrite n) s =
      .next (drainCaptures (writeEvent n (mkAsync 5 (le 4 k) s) (setRing n { r with backlog := rest } s)))) ∧
    (r.comps = [] → r.backlog = [] → exec (.eventWrite n) s = .next s) ∧
    (∀ u : State, u.tim.captures = [] → drainCaptures u = u)

/-- For a ring whose position lies in its range, writing an event sends 64 bytes to the ring's base plus 64 times the index, whose
PHASE bit (bit 0 of byte 5) is 1 in generation 0 and 0 in generation 1, moves the producer position on by one modulo 2S, leaves
every other ring, the commands in flight and the channels, and outside the host interface changes only the registers (a pending
bit) and the output. A ring that is not armed raises nothing; an armed vector whose position is reached disarms, and goes out
after the write where it is not masked. The model's own choices in these rows: log entry 14. (02_control_model.md) -/
def Obligations.EventRecord : Prop :=
  ∀ (n : Nat) (e : Event) (s : State), (getRing n s).prod < 2 * ringSize n s →
    let r := getRing n s
    let t := writeEvent n e s
    ∃ bytes : List Byte, bytes.length = 64 ∧ byteAt bytes 5 % 2 = (if r.prod < ringSize n s then 1 else 0) ∧
      (getRing n t).prod = (r.prod + 1) % (2 * ringSize n s) ∧
      (∀ m, m ≠ n → getRing m t = getRing m s) ∧ t.hif.inflight = s.hif.inflight ∧ t.hif.chans = s.hif.chans ∧
      t = { s with hif := t.hif, out := t.out, regs := t.regs } ∧
      (r.armed = none → t.regs = s.regs ∧
        t.out = .hostWrite (rd Reg.hifRingBase n s + 64 * (r.prod % ringSize n s)) bytes :: s.out) ∧
      (∀ a, r.armed = some a → (r.prod + 2 * ringSize n s - a) % (2 * ringSize n s) ≤ ringSize n s →
        (getRing n t).armed = none ∧ (vectorMasked n s = false →
          t.out = .msix n :: .hostWrite (rd Reg.hifRingBase n s + 64 * (r.prod % ringSize n s)) bytes :: s.out))

/-- While the engine serves commands, BURST_START of the channel whose turn it is in a direction (nextChan) issues, of its next
descriptor, min(4,096 − address mod 4,096, bytes not issued) bytes and moves the turn on: from the host, the bytes asked for
before have arrived and count down and the next are asked for; to the host, they are written and count down, and DC00 to DC03 send
the flush read of the last byte after the last of them. A channel with SHARE = 0 is always due. DESCRIPTOR_COMPLETE ends the first
descriptor that awaits nothing (xferWhole) with the error of an answer, if there was one, and the bytes answered well.
FLUSH_READ_RETURN ends the command's descriptor that has written its bytes, with the host's error where there is one and at most
the bytes answered; the SUMMARY that runs, on DC00; and a punt buffer that waits is written back. A descriptor that ends leaves
its channel, gives it its status, and completes its command. LATE_ERROR of a standard channel that no longer holds the descriptor
halts it, counts, and posts EV_DMA_LATE_ERROR to the event ring, or reports FC000 where that is not an enabled event ring; on DC00
to DC03 the descriptor keeps the error. POWER_DEFER_LIMIT of a domain that waits ends its transfers: where one descriptor of the
block touches the domain, it ends with DOMAIN_OFF and its counts. The model's own choices in these rows: log entries 12, 15, 19,
20, 21, 24, 77 and 79. (02_control_model.md) -/
def Obligations.Descriptors : Prop :=
  (∀ (ch : Nat) (x : Xfer) (s : State), ch < 64 → s.sys.mode.engine = true →
     let c := getChan ch s
     let n := min (4096 - (x.addr + x.done + x.asked) % 4096) (x.left - x.asked)
     (nextChan .fromHost s = some ch → nextXfer ch .fromHost s = some x →
       exec (.burstStart ch .fromHost) s = .next (readHost (x.addr + x.done + x.asked) n (setChan ch { c with
         xfers := modFirst (isNext .fromHost) (fun _ => { x with left := x.left - x.asked, done := x.done + x.asked, asked := n }) c.xfers,
         lastFromHost := some s.aon } { s with hif := turnPast .fromHost ch s.hif }))) ∧
     (nextChan .toHost s = some ch → nextXfer ch .toHost s = some x →
       let w := writeHost (x.addr + x.done) (x.data.take n) (setChan ch { c with
         xfers := modFirst (isNext .toHost) (fun _ => { x with left := x.left - n, done := x.done + n, data := x.data.drop n }) c.xfers,
         lastToHost := some s.aon } { s with hif := turnPast .toHost ch s.hif })
       exec (.burstStart ch .toHost) s =
         .next (if ch < 4 ∧ x.left - n = 0 then emit (.flushRead (x.addr + x.done + n - 1)) w else w)) ∧
     (rdFld Reg.hifDmaCfg ch 0 8 s = 0 → burstDue ch c.lastFromHost s = true)) ∧
  (∀ (ch : Nat) (x : Xfer) (s : State), s.sys.mode.engine = true →
     let good := x.done + x.asked - x.badBytes
     (ch < 64 → (getChan ch s).xfers.find? (xferWhole ch) = some x →
       exec (.descriptorComplete ch) s = .next (endWhole ch (xferWhole ch) x x.bad good 0 s)) ∧
     (∀ ref k, ch < 4 → (getChan ch s).xfers.find? (fun y => xferOf ref y && decide (y.dir = .toHost) && decide (y.left = 0)) = some x →
       let p := fun (y : Xfer) => xferOf ref y && decide (y.dir = .toHost) && decide (y.left = 0)
       exec (.flushReadReturn ch (.command ref) k none) s = .next (endWhole ch p x x.bad good 0 s) ∧
       ∀ e, exec (.flushReadReturn ch (.command ref) k (some e)) s = .next (endWhole ch p x e.toNat (min k good) 0 s)) ∧
     (∀ j k, s.hif.sumRun = some j → exec (.flushReadReturn 0 .summary k none) s = .next (endSummary j 0 s) ∧
       ∀ e, exec (.flushReadReturn 0 .summary k (some e)) s = .next (endSummary j e.toNat s)) ∧
     (∀ n b k, ch < 4 → n < 256 → ringCh n s = ch → (getRing n s).puntWait = [b] →
       exec (.flushReadReturn ch (.punt n b.seq) k none) s =
         .next (writeBackAt n b.desc b.status b.len b.sop b.eop b.trunc (b.ts, b.ph) (setRing n { getRing n s with puntWait := [] } s))) ∧
     (∀ p st done c, findCmd x.cmd s = some c → cmdObjs c s = [] →
       let k := if st = 0 then x.res.status else st
       endWhole ch p x st done 0 s = finish c { x.res with status := k } done 0
         (setChan ch { getChan ch s with xfers := dropFirst p (getChan ch s).xfers, lastStatus := k } s)) ∧
     (∀ (d : DescRef) (st : Byte), 4 ≤ ch → ch < 64 → d.ring < 256 → d.packet = false →
       (getChan ch s).xfers.any (xferOf { ring := d.ring, seq := d.seq }) = false →
       let t := setChan ch { getChan ch s with halted := true, lateErrors := min ((getChan ch s).lateErrors + 1) (2 ^ 32 - 1) } s
       (evRingOn d.evRing s = false → exec (.lateError ch d st) s = .next (report 0 10 ch [byte ch] t)) ∧
       (evRingOn d.evRing s = true → exec (.lateError ch d st) s =
         .next (postCompletion d.evRing { ring := d.ring, seq := 2 ^ 32 + d.seq }
           { code := 3, tag := d.tag, status := st.toNat, late := true, ts := (stamp t).1, ph := (stamp t).2, src := d.ring, ch := ch,
             seq := d.seq } t))) ∧
     (∀ (d : DescRef) (st : Byte), ch < 4 → d.ring < 256 → d.packet = false →
       exec (.lateError ch d st) s = .next (setChan ch { getChan ch s with
         xfers := modFirst (xferOf { ring := d.ring, seq := d.seq }) (fun y => { y with bad := st.toNat, badBytes := y.badBytes + 64 })
           (getChan ch s).xfers } s)) ∧
     (∀ d, d < 31 → (getDom d s).st = .deferred →
       exec (.powerDeferLimit d) s = .next (if d = 6 then stopPunts (stopDomain d s) else stopDomain d s)) ∧
     (∀ d c, ch < 64 → s.hif.chans = [(ch, { getChan ch s with xfers := [x] })] → x.domains.contains d = true →
       findCmd x.cmd s = some c →
       stopDomain d s = finish c { x.res with status := 7 } (x.done - x.badBytes) x.left
         (setChan ch { getChan ch s with xfers := [], lastStatus := 7 }
           (setDom d { getDom d s with cut := (getDom d s).cut + 1 } s))))

/-- For an inject ring with work, INJECT_DESCRIPTOR_FETCH takes the entry: one with SOP and 32 bytes or more that starts a packet
opens it, and one with EOP makes it whole where it has 46 bytes or more; one with SOP and fewer than 32 bytes is written back with
BAD_PARAM and the packet counted as discarded; inside an open packet one without SOP extends it while one with SOP discards the
open packet with BAD_PARAM first; while the buffers of a packet are being read, nothing is fetched. INJECT_BUFFER_READ_DONE writes
the descriptors back with the packet's status (injectStatus): at 0 the packet enters, else it is counted as discarded.
HOST_READ_ERROR of a buffer discards the packet with the host's status; of a punt ring's descriptor it takes the entry and writes
it back with ERR and that status. PUNT_BUFFER_WRITE: where the cells of the waiting packets read without error, a buffer long
enough for the head packet, not begun, takes its tag and frame whole, and the packet leaves the ring. The model's own choices in
these rows: log entries 15, 18, 21 and 79. (02_control_model.md, 06_parse_and_tag.md) -/
def Obligations.PacketRings : Prop :=
  ∀ (n : Nat) (b : List Byte) (bs : List (Nat × List Byte)) (st : Byte) (s : State), n < 256 →
    let r := getRing n s
    let d := decodeDesc r.cons (fit 32 b)
    let e := takeEntry n s
    let data := (r.injDescs.zipIdx.map fun x => fit x.1.len (bs.getD x.2 (0, [])).2).flatMap id
    (s.sys.mode.engine = true → hasWork 2 n s = true → (r.injStage = .idle ∨ r.injStage = .skipping) → d.sop = true →
      32 ≤ d.len → d.eop = false →
      ∃ t, exec (.injectDescriptorFetch n b) s = .next t ∧ (getRing n t).injDescs = [d] ∧ (getRing n t).injStage = .opened ∧
        (getRing n t).cons = (getRing n e).cons ∧ t.out = e.out) ∧
    (s.sys.mode.engine = true → hasWork 2 n s = true → (r.injStage = .idle ∨ r.injStage = .skipping) → d.sop = true →
      46 ≤ d.len → d.eop = true →
      ∃ t, exec (.injectDescriptorFetch n b) s = .next t ∧ (getRing n t).injDescs = [d] ∧ (getRing n t).injStage = .reading ∧
        t.out = e.out) ∧
    (s.sys.mode.engine = true → hasWork 2 n s = true → r.injStage = .idle → d.sop = true → d.len < 32 → d.eop = true →
      ∃ t, exec (.injectDescriptorFetch n b) s = .next t ∧ (getRing n t).injDescs = [] ∧ (getRing n t).injStage = .idle ∧
        (getRing n t).discarded = r.discarded + 1 ∧ t.out = (writeBack n d 2 d.len true true false e).out) ∧
    (s.sys.mode.engine = true → hasWork 2 n s = true → r.injStage = .opened → d.sop = false →
      exec (.injectDescriptorFetch n b) s = .next (growInject n d e)) ∧
    (s.sys.mode.engine = true → hasWork 2 n s = true → r.injStage = .opened → d.sop = true →
      exec (.injectDescriptorFetch n b) s = .next (beginInject n d (dropInject n 2 e))) ∧
    (r.injStage = .reading → exec (.injectDescriptorFetch n b) s = .next s) ∧
    (r.injStage = .reading →
      let w := r.injDescs.foldl (fun s d => countBursts (ringCh n s) .fromHost d.len s) s
      (injectStatus (data.take 32) s = 0 → exec (.injectBufferReadDone n bs) s =
        .next (injectPkt (data.take 32) (data.drop 32) ((bs.map Prod.fst).getD 0 0) (closeInject n 0 (bs.map Prod.fst) w))) ∧
      (injectStatus (data.take 32) s ≠ 0 → exec (.injectBufferReadDone n bs) s =
        .next (countDropped n (closeInject n (injectStatus (data.take 32) s) (bs.map Prod.fst) w)))) ∧
    (r.injStage = .reading → exec (.hostReadError n .data st) s = .next (dropInject n st.toNat s)) ∧
    (s.sys.mode.engine = true → hasWork 2 n s = false → hasWork 3 n s = true →
      exec (.hostReadError n .descriptor st) s = .next (writeBackRefused n r.cons st.toNat e)) ∧
    (∀ i, s.sys.mode.engine = true → hasWork 3 n s = true → dropSpoilt n s = s → r.punts = [i] → (getPkt i s).ended = true →
      r.puntDone = 0 → r.puntBufs = 0 → (puntStream (getPkt i s)).length ≤ d.len → 0 < d.len → domsDown [6] s = false →
      4 ≤ ringCh n s →
      ∃ t u, exec (.puntBufferWrite n [b]) s = .next t ∧ t = endPkt i u ∧ (getRing n u).punts = [] ∧
        u.out = .hostWrite (rd Reg.hifRingBase n s + 32 * (r.cons % ringSize n s))
          (le 8 d.addr ++ le 4 (puntStream (getPkt i s)).length ++
            le 2 (phaseOf (ringSize n s) r.cons + 2 + 4 + 16 * (stamp s).2) ++ [0, 0] ++ le 8 d.cookie ++ le 4 (stamp s).1 ++ zeros 4) ::
          (writeHost d.addr (puntStream (getPkt i s)) s).out)

/-- With PERST_N released and a mode beyond RESET, a link that was down and comes up at an allowed rate and width is shown in
HIF_LINK_STAT and posts EV_LINK_CHANGE; HOST_LINK_DOWN of a link that is up shows it down and reports FC006. The assertion of a
PERST_N that is released, with the device not OFF, leaves the mode, counts one more assertion (saturating at 255), and leaves no
ring enabled, the link down and no SUMMARY; what stays in flight is marked to end without an event. Its release clears the pin.
The model's own choices in these rows: log entries 22 and 23. (02_control_model.md, 18_faults.md, 19_modes_and_boot.md) -/
def Obligations.HostLink : Prop :=
  ∀ (gen width : Nat) (s : State),
    (s.hif.linkUp = false → s.sys.perstN = false → s.sys.mode ≠ .off → s.sys.mode ≠ .reset → (gen = 4 ∨ gen = 5 ∨ gen = 6) →
      (width = 1 ∨ width = 2 ∨ width = 4 ∨ width = 8) → s.hif.gen = 0 → s.hif.width = 0 → s.hif.flit = false →
      let t := { s with hif := { s.hif with gen := gen, width := width, flit := gen == 6, linkUp := true } }
      exec (.hostLinkChange gen width (gen == 6)) s = .next (post 6 (le 4 (gen + 16 * width + 256 * b2n (gen == 6))) t)) ∧
    (s.hif.linkUp = true → exec .hostLinkDown s =
      .next (report 6 14 0 [] { s with hif := { s.hif with gen := 0, width := 0, flit := false, linkUp := false } })) ∧
    (s.sys.perstN = false → s.sys.mode ≠ .off →
      ∃ t, exec .perstNAssert s = .next t ∧ t.sys = { s.sys with perstN := true, perstCount := min (s.sys.perstCount + 1) 255 } ∧
        t.hif.rings = [] ∧ t.hif.linkUp = false ∧ t.hif.sumRun = none ∧ t.hif.sumWait = [] ∧
        (∀ n, n < 256 → ringOn n t = false) ∧ (∀ c ∈ t.hif.inflight, c.orphan = true)) ∧
    exec .perstNRelease s = .next { s with sys := { s.sys with perstN := false } }

/-- For an aligned address of the low word of a 64-bit register, in a mode that serves its window: LOW_WORD_READ returns the low
word and latches the current high word in place of any value latched before; a read of the high word returns the latched value and
empties the latch, or the current high word with an empty latch. For a register that takes writes now: a write of the low word
changes only the hold, in place of any word held before, so that no read of the register shows it; a write of the high word makes
both take effect and empties the hold, or takes effect alone with the low word's current value. Every reset (RESET_N, a rail at
its reset level, and the resets of each kind that commands make) empties every latch and every hold. (R9) -/
def Obligations.WideRegisters : Prop :=
  (∀ (a : Nat) (r : BarReg) (n : Nat) (v : Word) (s : State), a < 0x4000000 → a % 4 = 0 → r.desc.wide = true →
    findReg a = some (r, n, 0) → findReg (a + 4) = some (r, n, 1) → readServed a s = true → readServed (a + 4) s = true →
    let low := BitVec.ofNat 32 (r.read n s)
    let high := BitVec.ofNat 32 (r.read n s / 2 ^ 32)
    exec (.lowWordRead a) s = .next (emit (.readData a low) { s with latch := tset s.latch a (some high) }) ∧
    tget (tset s.latch a (some high)) a = some high ∧
    (∀ h, tget s.latch a = some h →
      exec (.registerReadClear (a + 4)) s = .next (emit (.readData (a + 4) h) { s with latch := tset s.latch a none }) ∧
      tget (tset s.latch a none) a = none) ∧
    (tget s.latch a = none → exec (.registerReadClear (a + 4)) s = .next (emit (.readData (a + 4) high) s)) ∧
    (s.sys.mode ≠ .lockdown → r.takes n s = true →
      exec (.registerWrite a 4 v) s = .next { s with hold := tset s.hold a (some v) } ∧
      tget (tset s.hold a (some v)) a = some v ∧
      r.read n { s with hold := tset s.hold a (some v) } = r.read n s) ∧
    (s.sys.mode ≠ .lockdown →
      tget (tset s.hold a none) a = none ∧
      (∀ l, tget s.hold a = some l →
        exec (.registerWrite (a + 4) 4 v) s = .next (r.write n (l.toNat + 2 ^ 32 * v.toNat) { s with hold := tset s.hold a none })) ∧
      (tget s.hold a = none →
        exec (.registerWrite (a + 4) 4 v) s =
          .next (r.write n (low.toNat + 2 ^ 32 * v.toNat) { s with hold := tset s.hold a none })))) ∧
  (State.reset.latch = [] ∧ State.reset.hold = []) ∧
  (∀ s : State, s.sys.mode ≠ .off → s.sys.mode ≠ .lockdown →
    (∃ t, exec .resetNAssert s = .next t ∧ t.latch = [] ∧ t.hold = []) ∧
    (∀ rail, rail < 5 → ∃ t, exec (.railResetLevel rail) s = .next t ∧ t.latch = [] ∧ t.hold = []) ∧
    (∀ kind, (doReset kind s).latch = [] ∧ (doReset kind s).hold = []))

/-- A BAR0 or BAR2 write that is not a naturally aligned 32-bit write, and a write to the BMC's read-only map, changes nothing; a
read at any address of an aligned word of BAR0 sends that word's value and has that word's effect; an aligned write to a 32-bit
register in a served window has that register's effect, an aligned write or read of no register none. A doorbell page of BAR2
takes an aligned write as a doorbell and, from STAGED on, is read as the device's position. Before STAGED and in LOCKDOWN, a write
to a window other than SYS, FLT and PWR changes nothing and a read of it sends 0; before WIPE that holds of every window; in
LOCKDOWN a write to any window changes nothing. From STAGED on, outside LOCKDOWN, every address is served, and from WIPE on the
SYS, FLT and PWR windows are read as their registers say. The model's own choices in these rows: log entries 10, 68 and 73.
(00_scope.md, 02_control_model.md, 18_faults.md, 19_modes_and_boot.md) -/
def Obligations.ServedWindows : Prop :=
  (∀ (a size : Nat) (v : Word) (s : State),
     ((size ≠ 4 ∨ a % 4 ≠ 0 ∨ bmcBase ≤ a) → exec (.registerWrite a size v) s = .next s) ∧
     (∀ r n k, a < 0x4000000 → a % 4 = 0 → k < 4 → findReg a = some (r, n, 0) → r.desc.wide = false → readServed a s = true →
       exec (.registerReadClear (a + k)) s = .next (emit (.readData (a + k) (BitVec.ofNat 32 (r.read n s))) (r.clear n s))) ∧
     (∀ r n, a < 0x4000000 → a % 4 = 0 → findReg a = some (r, n, 0) → r.desc.wide = false → writeServed a s = true →
       exec (.registerWrite a 4 v) s = .next (r.write n v.toNat s)) ∧
     (a < 0x4000000 → a % 4 = 0 → findReg a = none → readServed a s = true →
       exec (.registerWrite a 4 v) s = .next s ∧ exec (.registerReadClear a) s = .next (emit (.readData a 0) s)) ∧
     (∀ n, n < 256 → exec (.registerWrite (bar2Base + 4096 * n) 4 v) s = .next (ringDoorbell n v.toNat s)) ∧
     (∀ n, n < 256 → s.sys.mode.engine = true → exec (.registerReadClear (bar2Base + 4096 * n)) s =
       .next (emit (.readData (bar2Base + 4096 * n) (BitVec.ofNat 32 (devPosWord n s))) s))) ∧
  (∀ (a : Nat) (v : Word) (s : State), a < 0x4000000 →
     let early := a < 0x0400000 ∨ 0x3C00000 ≤ a
     ((s.sys.mode.num < 4 ∨ s.sys.mode = .lockdown) → ¬early →
       exec (.registerWrite a 4 v) s = .next s ∧ exec (.registerReadClear a) s = .next (emit (.readData a 0) s)) ∧
     (s.sys.mode.num < 2 →
       exec (.registerWrite a 4 v) s = .next s ∧ exec (.registerReadClear a) s = .next (emit (.readData a 0) s)) ∧
     (s.sys.mode = .lockdown → exec (.registerWrite a 4 v) s = .next s) ∧
     (4 ≤ s.sys.mode.num → s.sys.mode ≠ .lockdown → a % 4 = 0 →
       exec (.registerWrite a 4 v) s = .next (barWrite a v s) ∧
       exec (.registerReadClear a) s = .next (emit (.readData a (barRead a s).1) (barRead a s).2)) ∧
     (2 ≤ s.sys.mode.num → early → a % 4 = 0 →
       exec (.registerReadClear a) s = .next (emit (.readData a (barRead a s).1) (barRead a s).2) ∧
       (s.sys.mode ≠ .lockdown → exec (.registerWrite a 4 v) s = .next (barWrite a v s))))

/-- While the engine serves commands, a write of LAN_MACRO_CFG that macroCfgBad refuses (a reserved rate, precoding below 100
Gb/s, a rate that breaks the layout, an enable in an unpowered group) only sets CFG_ERR; any other clears CFG_ERR and sets the
register's fields. MACRO_ENABLE with the rate and the group's highest rate unchanged changes nothing else; MACRO_DISABLE of an
enabled macro then takes it OFF (macroOff). MACRO_RATE_CHANGE takes the macro's ports down and its lanes to CAL, uncalibrated,
with the PLL not locked, or takes the macro OFF where the rate is 0 or ENABLE is cleared, and CLK_LG follows the group's highest
rate. TX_DISABLE writes LAN_LANE_CFG, a TRAIN_MODE of 3 keeping the old one and setting CFG_ERR: a bit that rises squelches the
transmitter, one that falls lets it follow its lane (settleTx), one that stays changes nothing else. The model's own choices in
these rows: log entry 27. (01_architecture.md, 03_lanes.md) -/
def Obligations.MacroConfiguration : Prop :=
  ∀ (m : Nat) (v : Word) (s : State), m < 128 → s.sys.mode.engine = true →
    let x := v.toNat
    let u := setMacro m { getMacro m s with cfgErr := false } (wrRw Reg.lanMacroCfg m x s)
    let bad := setMacro m { getMacro m s with cfgErr := true } s
    let same := fld (rd Reg.lanMacroCfg m s) 0 3 = x % 8 ∧ groupRate (m / 8) u = groupRate (m / 8) s
    (bitAt x 4 = true → macroCfgBad m x s = false → same → exec (.macroEnable m v) s = .next u) ∧
    (bitAt x 4 = true → macroCfgBad m x s = true → exec (.macroEnable m v) s = .next bad) ∧
    (bitAt x 4 = false → macroOn m s = true → macroCfgBad m x s = false → same →
      exec (.macroDisable m v) s = .next (macroOff m u)) ∧
    (bitAt x 4 = false → macroCfgBad m x s = true → exec (.macroDisable m v) s = .next bad) ∧
    (x % 8 ≠ rateOf m s → macroCfgBad m x s = true → exec (.macroRateChange m v) s = .next bad) ∧
    (x % 8 ≠ rateOf m s → macroCfgBad m x s = false → ∃ t, exec (.macroRateChange m v) s = .next t ∧
      t = (let d := retrainMacro m (downMacro m u)
           let e := (List.range 8).foldl (fun a i => modLane (8 * m + i) (fun l => { l with calDone := false }) a) d
           let off := x % 8 = 0 ∨ (macroOn m s = true ∧ bitAt x 4 = false)
           groupRelock (m / 8) (groupRate (m / 8) s) (groupRate (m / 8) u)
             (if off then macroOff m (downMacro m u) else setMacro m { getMacro m e with pllLock := false } e))) ∧
    (∀ n, n < 1024 →
      let old := rd Reg.lanLaneCfg n s
      let y := if fld x 4 2 = 3 then setFld x 4 2 (fld old 4 2) else x
      let w := modLane n (fun l => { l with cfgErr := decide (fld x 4 2 = 3) }) (wrRw Reg.lanLaneCfg n y s)
      (bitAt y 7 = true → bitAt old 7 = false → exec (.txDisable n v) s = .next (setSquelch n true w)) ∧
      (bitAt y 7 = false → bitAt old 7 = true → exec (.txDisable n v) s = .next (settleTx n w)) ∧
      (bitAt y 7 = bitAt old 7 → exec (.txDisable n v) s = .next w))

/-- PLL_LOCK of an enabled macro with a rate in a powered group, not locked and in service, notes the lock with its rate and
temperature and takes its OFF lanes to CAL; CALIBRATION_DONE in range ends calibration, notes the temperature and starts the lane
(laneStart), out of range it reports FC017; SIGNAL_DETECT of a calibrated lane notes the signal and starts it; TRAIN_RETRY ends a
wait and starts it; NEGOTIATION_COMPLETE takes a lane in AN to TRAIN where the partner advertises 200GBASE-CR1 or KR1, else counts
a failure with reason 0 that the port's other lanes follow (failOthers); AN_TIMEOUT is a failure with reason 1. A calibrated lane
with signal and no wait of a macro in service starts: at rate code 1 to AN, TRAIN or ADAPT as TRAIN_MODE says, at any other to
ADAPT, with the REACH that the macro has now; no other lane changes when started. LANE_GROUP_CLOCK_LOCK of a clock that locks
notes that it runs, or reports FC019. The model's own choices in these rows: log entry 27. (01_architecture.md, 03_lanes.md) -/
def Obligations.LaneStartUp : Prop :=
  ∀ (n m : Nat) (s : State), n < 1024 → m < 128 →
    let l := getLane n s
    let reach := bitAt (rd Reg.lanMacroCfg (n / 8) s) 3
    let pam := decide (rateOf (n / 8) s ≠ 4)
    let failed := fun (k : Nat) => failOthers n (countFail n k (laneToCal n s))
    (macroOn m s = true → rateOf m s ≠ 0 → groupPowered (m / 8) s = true → (getMacro m s).pllLock = false → macroFenced m s = false →
      exec (.pllLock m) s = .next ((List.range 8).foldl
        (fun a i => if (getLane (8 * m + i) a).st = .off then laneToCal (8 * m + i) a else a)
        (setMacro m { getMacro m s with pllLock := true, calTemp := groupTemp (m / 8) s, calRate := rateOf m s } s))) ∧
    (l.st = .cal → l.calDone = false → (getMacro (n / 8) s).pllLock = true → ∀ signal,
      exec (.calibrationDone n true signal) s =
        .next (laneStart n (setLane n { l with calDone := true, signal := signal, adcTemp := groupTemp (n / 64) s } s)) ∧
      exec (.calibrationDone n false signal) s = .next (report 17 1 (n / 8) (le 8 n) s)) ∧
    (l.st = .cal → l.calDone = true → exec (.signalDetect n) s = .next (laneStart n (setLane n { l with signal := true } s))) ∧
    (l.retryWait = true → exec (.trainRetry n) s = .next (laneStart n (setLane n { l with retryWait := false } s))) ∧
    (l.st = .an → l.retryWait = false → ∀ partner : List AnAbility,
      ((.cr1 ∈ partner ∨ .kr1 ∈ partner) → exec (.negotiationComplete n partner) s = .next (setLane n { l with st := .train } s)) ∧
      (.cr1 ∉ partner → .kr1 ∉ partner → exec (.negotiationComplete n partner) s = .next (failOthers n (countFail n 0 s))) ∧
      exec (.anTimeout n) s = .next (failed 1)) ∧
    (l.st = .cal → l.calDone = true → l.signal = true → l.retryWait = false → macroFenced (n / 8) s = false →
      let adapt := setLane n { l with st := .adapt, reach := reach, preTx := bitAt l.cfgUse 2 && pam, preRx := bitAt l.cfgUse 3 && pam } s
      (rateOf (n / 8) s = 1 → fld l.cfgUse 4 2 = 0 → laneStart n s = setLane n { l with st := .an, reach := reach } s) ∧
      (rateOf (n / 8) s = 1 → fld l.cfgUse 4 2 = 1 → laneStart n s = setLane n { l with st := .train, reach := reach } s) ∧
      (rateOf (n / 8) s = 1 → 2 ≤ fld l.cfgUse 4 2 → laneStart n s = adapt) ∧
      (rateOf (n / 8) s ≠ 1 → laneStart n s = adapt)) ∧
    ((l.st ≠ .cal ∨ l.calDone = false ∨ l.signal = false ∨ l.retryWait = true ∨ macroFenced (n / 8) s = true) → laneStart n s = s) ∧
    (∀ g, g < 16 → ((getGroup g s).clk = .relock ∨ (getGroup g s).clk = .locking) →
      exec (.laneGroupClockLock g true) s =
        .next (setGroup g { clk := .running, clkAt := some s.aon, changeTs := (stamp s).1, changePh := (stamp s).2 } s) ∧
      exec (.laneGroupClockLock g false) s = .next (report 19 3 g (le 8 g) s))

/-- In TRAIN, TAP_REQUEST that keeps R82 moves the tap by one and is answered 1, another is answered 2 and moves nothing;
RECEIVERS_READY with SNR of SNR_MIN or more takes the lane to DATA with the agreed precoding, which NRZ never has, with less it
fails the lane with reason 2; TRAIN_TIMEOUT fails it with reason 1, or 3 where the partner stood at limit. In ADAPT,
ADAPTATION_CONVERGED with enough SNR takes it to DATA, with less it notes the SNR, and ADAPT_TIMEOUT fails it with reason 1 before
any SNR and 2 after. A lane that RECEIVERS_READY takes to DATA has signal and CDR lock, no failures counted, one more training,
the SNR measured and both precoders at 0. BACKGROUND_CTLE_STEP of a lane in DATA takes the loops where they stand, records the
ADC's temperature and, with BG_CTLE, moves the CTLE by at most one code within 0 to 31. Decoding a precoded symbol value with the
same state gives the value. The model's own choices in these rows: log entry 27. (03_lanes.md) -/
def Obligations.LaneTraining : Prop :=
  (∀ (n tap : Nat) (mm : RxMeasure) (s : State), n < 1024 → tap < 6 →
    let l := getLane n s
    let pam := decide (rateOf (n / 8) s ≠ 4)
    let moved := fun (d : Int) => setFld l.taps (8 * tap) 8 (ofS 8 (toS 8 (fld l.taps (8 * tap) 8) + d))
    (l.st = .train →
      (tapsOk (moved 1) = true → exec (.tapRequest n tap true) s =
        .next (emit (.tapAnswer n tap 1) (setLane n { l with taps := moved 1 } s))) ∧
      (tapsOk (moved (-1)) = true → exec (.tapRequest n tap false) s =
        .next (emit (.tapAnswer n tap 1) (setLane n { l with taps := moved (-1) } s))) ∧
      (tapsOk (moved 1) = false → exec (.tapRequest n tap true) s = .next (emit (.tapAnswer n tap 2) s)) ∧
      (tapsOk (moved (-1)) = false → exec (.tapRequest n tap false) s = .next (emit (.tapAnswer n tap 2) s)) ∧
      (fld l.rxUse 16 16 ≤ mm.snr →
        ∃ t, exec (.receiversReady n mm) s = .next t ∧
          t = laneToData n mm true (setLane n { l with preTx := mm.precodeTx && pam, preRx := mm.precodeRx && pam } s) ∧
          (getLane n t).st = .data ∧ (getLane n t).failures = 0 ∧ (getLane n t).snr = mm.snr % 2 ^ 16 ∧
          (getLane n t).signal = true ∧ (getLane n t).cdrLock = true ∧ (getLane n t).txPrev = 0 ∧ (getLane n t).rxPrev = 0 ∧
          (getLane n t).trainCount = (l.trainCount + 1) % 2 ^ 32) ∧
      (mm.snr < fld l.rxUse 16 16 → exec (.receiversReady n mm) s = .next (trainFail n 2 s)) ∧
      exec (.trainTimeout n false) s = .next (trainFail n 1 s) ∧
      exec (.trainTimeout n true) s = .next (trainFail n 3 s)) ∧
    (l.st = .adapt →
      (fld l.rxUse 16 16 ≤ mm.snr →
        ∃ t, exec (.adaptationConverged n mm) s = .next t ∧ t = laneToData n mm true s ∧ (getLane n t).st = .data) ∧
      (mm.snr < fld l.rxUse 16 16 →
        exec (.adaptationConverged n mm) s = .next (setLane n { l with snr := mm.snr % 2 ^ 16 } s)) ∧
      exec (.adaptTimeout n) s = .next (trainFail n (if l.snr = 0 then 1 else 2) s)) ∧
    (l.st = .data → ∀ rx : RxLoops,
      let moved := fun (c : Nat) => setLane n { (l.loops rx).ctleTo c with adcTemp := groupTemp (n / 64) s } s
      (∀ up, bitAt l.cfgUse 6 = false → exec (.backgroundCtleStep n up rx) s = .next (moved l.ctle)) ∧
      (bitAt l.cfgUse 6 = true →
        exec (.backgroundCtleStep n none rx) s = .next (moved l.ctle) ∧
        exec (.backgroundCtleStep n (some true) rx) s = .next (moved (min 31 (l.ctle + 1))) ∧
        exec (.backgroundCtleStep n (some false) rx) s = .next (moved (l.ctle - 1))))) ∧
  (∀ prev g : Nat, g < 4 → decode prev (precode prev g) = g)

/-- LANE_LOSS of a lane in DATA counts the loss, takes the lane to CAL, posts EV_LANE_DOWN and tells its port; WAKE_DECLARED of a
sleeping port takes it to WAKING, sends its wake pattern and wakes each lane, and the port goes cold where a lane has gone to CAL.
A sleeping lane with a warm state of its macro's rate, taken within 10 °C and read without error, goes to WAKE with it; one with a
parity error reports FC021, forgets it and goes to CAL with reason 3. WAKE_SNR_OK with enough SNR takes a waking lane to DATA
without a new conditions record; WAKE_TIMEOUT with a training partner takes it cold to CAL with reason 2 and tells its port. The
model's own choices in these rows: log entry 27. (03_lanes.md, 04_ports.md) -/
def Obligations.LaneLossAndWake : Prop :=
  ∀ (n p : Nat) (cdr : Bool) (mm : RxMeasure) (s : State), n < 1024 → p < 1024 →
    let l := getLane n s
    let cold := fun (a : State) => laneToCal n (modLane n (fun l => { l with coldWake := true, warm := none }) a)
    (l.st = .data → exec (.laneLoss n cdr) s =
      .next (portLaneLost n (post 0x9001 (le 2 n ++ [byte (b2n cdr)])
        (modLane n (fun l => { l with signal := cdr && l.signal, cdrLock := false, losCount := (l.losCount + 1) % 2 ^ 32 })
          (laneToCal n s))))) ∧
    ((getPort p s).st = .sleep → ∃ t, exec (.wakeDeclared p) s = .next t ∧
      t = (let a := portEnter p .waking (modPort p (fun x => { x with wakeTrig := 0, waving := true, aligned := false, pcs := [] }) s)
           let b := emit (.wakePattern p) (setSquelch p false a)
           let c := (portLanes p b).foldl (fun a k => laneWake k a) b
           if (portLanes p c).any (fun k => decide ((getLane k c).st = .cal)) then portCold p c else c)) ∧
    (∀ wm, l.st = .sleep → l.warm = some wm → upsetOf memWarm n s = 0 → wm.rate = rateOf (n / 8) s →
      (groupTemp (n / 64) s - wm.temp).natAbs ≤ 10 →
      laneWake n s = setLane n { l.ctleTo wm.ctle with
        st := .wake, ffe := wm.ffe, dfe := wm.dfe, freq := wm.freq, taps := wm.taps, preTx := wm.preTx, preRx := wm.preRx,
        coldWake := false } s) ∧
    (∀ wm, l.st = .sleep → l.warm = some wm → upsetOf memWarm n s ≠ 0 →
      laneWake n s = post 0x9003 (le 2 n ++ [3]) (cold (report 21 14 n (le 2 n ++ [3]) s))) ∧
    (l.st = .wake → fld l.rxUse 16 16 ≤ mm.snr → exec (.wakeSnrOk n mm) s = .next (laneToData n mm false s)) ∧
    (l.st = .wake → exec (.wakeTimeout n true) s = .next (portLaneLost n (post 0x9003 (le 2 n ++ [2]) (cold s))))

/-- A ready lane command on lanes of one group, none fenced: LANE_RETRAIN with none in TEST returns each lane in AN, TRAIN, ADAPT
or DATA to CAL and completes with OK; LANE_TEST with mode 0 takes lanes in TEST to CAL, clearing their counters with CHECK[2], and
completes with OK; with mode 1 to 4 it completes with OK, and a single lane that was not in DATA is then in TEST with that mode,
pattern and check. LANE_EYE of a lane in DATA or TEST with no scan starts one, which LANE_EYE_DONE ends: with the counts, with
LANE_RESTARTED where the lane left, or with DOMAIN_OFF where the lane group's power-down waits. LANE_READ moves k records of 64
bytes. LANE_RETRAIN of lanes outside one group completes with BAD_PARAM. The model's own choices in these rows: log entries 27, 79
and 80. (03_lanes.md) -/
def Obligations.LaneCommands : Prop :=
  ∀ (c : Cmd) (counts : List Nat) (s : State),
    let u := started c s
    let first := c.op 0 2
    let k := c.op 2 2
    let ls := (List.range k).map (first + ·)
    let named := 1 ≤ k ∧ k ≤ 64 ∧ first + k ≤ 1024 ∧ first / 64 = (first + k - 1) / 64
    let free := ∀ n ∈ ls, macroFenced (n / 8) s = false
    let runs := (∀ n ∈ ls, testAllowed n s = true) ∧ c.op 5 1 ≤ 7 ∧ c.op 6 1 ≤ 7 ∧
      ((c.op 5 1 = 5 ∨ c.op 5 1 = 6) → ∀ n ∈ ls, rateOf (n / 8) s ≠ 4)
    (ready 0x90 c s = true → named → c.len = 0 → free → (∀ n ∈ ls, (getLane n s).st ≠ .test) →
      exec (.laneRetrain c.ref) s = .next (finish c {} 0 0 (ls.foldl (fun a n =>
        if (getLane n a).st = .an ∨ (getLane n a).st = .train ∨ (getLane n a).st = .adapt ∨ (getLane n a).st = .data
        then leaveData n 2 (laneToCal n) a else a) u))) ∧
    (ready 0x90 c s = true → ¬named → exec (.laneRetrain c.ref) s = .next (conclude c { status := 2 } (cmdDoms c s) u)) ∧
    (ready 0x91 c s = true → named → c.len = 0 → free → c.op 4 1 = 0 → runs →
      exec (.laneTest c.ref) s = .next (finish c {} 0 0 (ls.foldl (fun a n =>
        modLane n (fun l => if bitAt (c.op 6 1) 2 then { l with testBits := 0, testErrors := 0 } else l)
          (if (getLane n a).st = .test then laneToCal n a else a)) u))) ∧
    (ready 0x91 c s = true → named → c.len = 0 → free → 1 ≤ c.op 4 1 → c.op 4 1 ≤ 4 → runs →
      ∃ t, exec (.laneTest c.ref) s = .next (finish c {} 0 0 t) ∧
        (k = 1 → (getLane first s).st ≠ .data → (getLane first t).st = .test ∧ (getLane first t).testMode = c.op 4 1 ∧
          (getLane first t).pattern = c.op 5 1 ∧ (getLane first t).check = c.op 6 1)) ∧
    (ready 0x92 c s = true → first < 1024 → c.op 4 1 ≤ 3 → (rateOf (first / 8) s = 4 → c.op 4 1 = 1) → 10 ≤ c.op 5 1 → c.op 5 1 ≤ 40 →
      c.len = (if c.op 4 1 = 3 then 49152 else 16384) → macroFenced (first / 8) s = false →
      ((getLane first s).st = .data ∨ (getLane first s).st = .test) → (getLane first s).eye = none →
      exec (.laneEye c.ref) s = .next (modLane first (fun l => { l with
        eye := some c.ref, eyeBroken := false, eyeSel := c.op 4 1, eyeDwell := c.op 5 1, ctleMoved := false }) u)) ∧
    (∀ n, n < 1024 → (getLane n s).eye = some c.ref → findCmd c.ref s = some c →
      let l := getLane n s
      let w := setLane n { l with eye := none, eyeBroken := false } s
      (l.eyeBroken = true → exec (.laneEyeDone n counts) s = .next (finish c { status := 0x81 } 0 0 w)) ∧
      (l.eyeBroken = false → domsDown (cmdDoms c s) s = true → exec (.laneEyeDone n counts) s = .next (finish c { status := 7 } 0 0 w)) ∧
      (l.eyeBroken = false → domsDown (cmdDoms c s) s = false → exec (.laneEyeDone n counts) s =
        .next (conclude c { data := eyeBlocks l.eyeDwell (if l.eyeSel = 3 then 3 else 1) counts } (cmdDoms c s) w))) ∧
    (ready 0x93 c s = true → 1 ≤ k → first + k ≤ 1024 → c.len = 64 * k → free →
      let v := ls.foldl (fun a n => observeTest n a) u
      exec (.laneRead c.ref) s = .next (conclude c { data := ls.flatMap fun n => laneRecord n v } (cmdDoms c s) v))

/-- In a mode in which the engine serves commands, LAYOUT_CHANGE of macro m with a layout that its rate does not allow only sets
the error bit; with an allowed layout it clears the bit, relays each of the eight lanes, writes the register, lets complete ports
link and settles the transmitters. A ready PORT_ADMIN of a lane that starts a port completes with OK: action 0 disables the port;
action 1 enables a DISABLED port that is not fenced on an enabled macro and leaves any port that is not DISABLED as it is; action
2 begins sleep entry of an UP port; action 3 wakes a port in SLEEP or in sleep entry. It completes with FENCED for action 1 of a
fenced DISABLED port, with PORT_STATE for action 2 of a port that is not UP, and with NO_PORT for a lane that starts no port. A
ready PORT_READ of k records completes with the 64-byte records of k lanes as its data. The model's own choices in these rows: log
entries 27 and 28. (04_ports.md) -/
def Obligations.PortLayout : Prop :=
  ∀ (m : Nat) (v : Word) (c : Cmd) (s : State),
    let new := v.toNat % 256
    let u := started c s
    let p := c.op 0 2
    (m < 128 → s.sys.mode.engine = true → layoutOk (rateOf m s) new = false →
      exec (.layoutChange m v) s = .next { s with mac := { s.mac with modeErr := tset s.mac.modeErr m true } }) ∧
    (m < 128 → s.sys.mode.engine = true → layoutOk (rateOf m s) new = true → 
      let a := { s with mac := { s.mac with modeErr := tset s.mac.modeErr m false } }
      let b := (List.range 8).foldl (fun x i => relayLane (starts m s) new (8 * m + i) x) a
      let d := wrRw Reg.macMacroMode m v.toNat b
      let e := (macroPorts m d).foldl (fun x p => tryLinking p x) d
      exec (.layoutChange m v) s = .next ((List.range 8).foldl (fun x i => settleTx (8 * m + i) x) e)) ∧
    (ready 0x94 c s = true → p < 1024 → c.len = 0 → portWidth p s ≠ 0 →
      (c.op 2 1 = 0 → exec (.portAdmin c.ref) s = .next (finish c {} 0 0 (portDisable p 0 u))) ∧
      (c.op 2 1 = 1 → (getPort p s).st = .disabled → portFenced p s = false → macroOn (p / 8) s = true →
        exec (.portAdmin c.ref) s = .next (finish c {} 0 0 (portEnable p u))) ∧
      (c.op 2 1 = 1 → (getPort p s).st ≠ .disabled → exec (.portAdmin c.ref) s = .next (finish c {} 0 0 u)) ∧
      (c.op 2 1 = 1 → (getPort p s).st = .disabled → portFenced p s = true →
        exec (.portAdmin c.ref) s = .next (finish c { status := 6 } 0 0 u)) ∧
      (c.op 2 1 = 2 → (getPort p s).st = .up → (getPort p s).sleeping = false →
        exec (.portAdmin c.ref) s =
          .next (finish c {} 0 0 (modPort p (fun x => { x with sleeping := true }) (emit (.linkSignal p false) u)))) ∧
      (c.op 2 1 = 2 → (getPort p s).st ≠ .up → exec (.portAdmin c.ref) s = .next (finish c { status := 0x80 } 0 0 u)) ∧
      (c.op 2 1 = 3 → (getPort p s).st = .sleep ∨ ((getPort p s).st = .up ∧ (getPort p s).sleeping = true) →
        exec (.portAdmin c.ref) s = .next (finish c {} 0 0 (wakePort p 1 u)))) ∧
    (ready 0x94 c s = true → p < 1024 → c.len = 0 → portWidth p s = 0 → c.op 2 1 < 4 →
      exec (.portAdmin c.ref) s = .next (finish c { status := 0x81 } 0 0 u)) ∧
    (ready 0x96 c s = true → 1 ≤ c.op 2 2 → p + c.op 2 2 ≤ 1024 → c.len = 64 * c.op 2 2 →
      exec (.portRead c.ref) s =
        .next (conclude c { data := (List.range (c.op 2 2)).flatMap fun i => portRecord (p + i) u } (cmdDoms c s) u))

/-- A ready PORT_GATE_LIST of 1 to 256 entries, each of 64 ns to the cycle, with a cycle of 1 µs to 1 s and a base of less than a
second's nanoseconds, of a lane that starts a port, completes with the standby list loaded and switching at T: T is BASE or later,
at least 1 µs on, a whole number of cycles from BASE, and less than one cycle past the earliest such time where it is past BASE.
GATE_LIST_SWITCH of a port with a switch pending makes the standby list active, ends the pending switch and toggles the page;
entry 0 begins where the gates are enabled, and no entry runs otherwise. GATE_TRANSITION of an enabled gate on a running base,
with no gate failure, a non-empty list and no upset in it, takes entry 0 where no entry runs, else the next entry that begins in
the cycle, else entry 0, and opens that entry's gates. The model's own choices in these rows: log entry 29. (04_ports.md) -/
def Obligations.PortGates : Prop :=
  ∀ (c : Cmd) (bs : List Byte) (p : Nat) (s : State),
    let u := started c s
    let q := c.op 0 2
    let k := c.op 2 2
    let cycle := c.op 4 4
    let base := c.op 16 6 * 1000000000 + c.op 8 4
    let es := gateEntries k (fit c.len bs)
    (ready 0x95 c s = true → q < 1024 → 1 ≤ k → k ≤ 256 → c.len = 8 * k → 1000 ≤ cycle → cycle ≤ 1000000000 → c.op 8 4 ≤ 999999999 →
      portWidth q s ≠ 0 → (∀ e ∈ es, 64 ≤ e.2 ∧ e.2 ≤ cycle) →
      ∃ t payload, exec (.portGateList c.ref (.data bs)) s =
          .next (conclude c { payload := payload } (cmdDoms c s)
            (modPort q (fun x => { x with
              standby := { entries := es, cycle := cycle, baseSec := c.op 16 6, baseNs := c.op 8 4 }, switchAt := some t }) u)) ∧
        base ≤ t ∧ timeOf (rdFld Reg.macGateCfg q 1 2 s) s + 1000 ≤ t ∧ (t - base) % cycle = 0 ∧
        (base < t → t < timeOf (rdFld Reg.macGateCfg q 1 2 s) s + 1000 + cycle)) ∧
    (∀ t, p < 1024 → (getPort p s).switchAt = some t →
      ∃ v, exec (.gateListSwitch p) s = .next v ∧ (getPort p v).active = (getPort p s).standby ∧
        (getPort p v).switchAt = none ∧ (getPort p v).page = !(getPort p s).page ∧
        (getPort p v).gateIx = (if bitAt (rd Reg.macGateCfg p s) 0 then some 0 else none)) ∧
    (p < 1024 → portWidth p s ≠ 0 → bitAt (rd Reg.macGateCfg p s) 0 = true → tbRuns (fld (rd Reg.macGateCfg p s) 1 2) s = true →
      (getPort p s).gateFail = false → (getPort p s).active.entries ≠ [] → upsetOf memGate p s = 0 →
      ∃ v i, exec (.gateTransition p) s = .next v ∧ (getPort p v).gateIx = some i ∧
        i = (match (getPort p s).gateIx with | none => 0 | some j => nextEntry (getPort p s).active j) ∧
        (getPort p v).gates = ((getPort p s).active.entries.getD i (0, 0)).1)

/-- For port p: BLOCK_LOCK with alignment of a LINKING or WAKING port with FEC records FC198 where the calibration failed, and
with a skew of at most 64 ns makes the port aligned, beyond 64 ns it records FC034 and cause 9 instead; with sync headers for a
hunting PCS lane of an NRZ port it feeds them to the lane. UP_DEBOUNCE takes an aligned LINKING port with no received fault and no
HI_BER to UP. LOCK_LOSS of AM lock of an UP port counts in counter 23, ends the alignment, settles the fault it sends and takes
the port DOWN with cause 2, then to LINKING where its lanes serve; with sync headers for a locked PCS lane of an NRZ port it feeds
them. HI_BER of an NRZ port with 97 or more invalid headers sets HI_BER and takes an UP port DOWN with cause 3; with fewer it
clears it. REMOTE_FAULT: a Remote Fault takes an UP port DOWN with cause 4, a Local Fault sets LOCAL_FAULT and settles the fault
sent, a clear sequence clears both and settles it. FEC_WINDOW of a port with FEC that is not degraded, with fewer symbol errors
than its threshold: the sum is kept, at most 2^32 − 1, and the corrected codewords, the codewords of more than 15 symbol errors
and the corrected symbols count in the counters 20, 21 and 22. The model's own choices in these rows: log entry 28. (04_ports.md)
-/
def Obligations.LinkState : Prop :=
  ∀ (p count : Nat) (s : State), p < 1024 →
    let x := getPort p s
    (∀ skew calOk, x.st = .linking ∨ x.st = .waking → isNrz p s = false →
      let a := if calOk then s else report 198 2 p (le 8 p) s
      (skew ≤ 64 → exec (.blockLock p (.aligned skew calOk)) s =
        .next (tryWaked p (settleFault p (modPort p (fun x => { x with aligned := true }) a)))) ∧
      (64 < skew → exec (.blockLock p (.aligned skew calOk)) s = .next (report 34 2 p (le 8 p) (setPort p { x with downCause := 9 } s)))) ∧
    (∀ k hs, isNrz p s = true → k < pcsLanes p s → (tget x.pcs k).locked = false →
      exec (.blockLock p (.headers k hs)) s = .next (feedHeaders p k hs s)) ∧
    (x.st = .linking → x.aligned = true → x.localRx = false → x.remoteRx = false → x.hiBer = false →
      exec (.upDebounce p) s = .next (portUp p s)) ∧
    (x.st = .up → exec (.lockLoss p .amLock) s =
        .next (tryLinking p (portDown p 2 (settleFault p (modPort p (fun x => { x with aligned := false }) (countPort p 23 1 s)))))) ∧
    (∀ k hs, pcsRuns p s = true → isNrz p s = true → k < pcsLanes p s → (tget x.pcs k).locked = true →
      exec (.lockLoss p (.headers k hs)) s = .next (feedHeaders p k hs s)) ∧
    (isNrz p s = true → portWidth p s ≠ 0 →
      (97 ≤ count → x.st = .up → exec (.hiBer p count) s = .next (tryLinking p (portDown p 3 (setPort p { x with hiBer := true } s)))) ∧
      (97 ≤ count → x.st ≠ .up → exec (.hiBer p count) s = .next (setPort p { x with hiBer := true } s)) ∧
      (count < 97 → exec (.hiBer p count) s = .next (setPort p { x with hiBer := false } s))) ∧
    (x.st = .up → exec (.remoteFault p .remoteFault) s =
      .next (tryLinking p (portDown p 4 (modPort p (fun x => { x with remoteRx := true }) s)))) ∧
    exec (.remoteFault p .clear) s = .next (settleFault p (modPort p (fun x => { x with localRx := false, remoteRx := false }) s)) ∧
    exec (.remoteFault p .localFault) s = .next (settleFault p (modPort p (fun x => { x with localRx := true }) s)) ∧
    (∀ codewords : List Nat, isNrz p s = false → portWidth p s ≠ 0 → x.fecDegrade = false →
      let sum := codewords.foldl (· + ·) 0
      let good := codewords.filter fun e => decide (0 < e) && decide (e ≤ 15)
      sum < 16 * fld (rd Reg.macFecDegrade p s) 0 16 →
      exec (.fecWindow p codewords) s = .next (countPort p 22 (good.foldl (· + ·) 0) (countPort p 20 good.length
        (countPort p 21 (codewords.filter fun e => decide (15 < e)).length (setPort p { x with fecSymbols := min sum (2 ^ 32 - 1) } s)))))

/-- A port that portDown takes DOWN from UP is DOWN with its cause, not aligned, has no class paused and no XOFF asserted or
pending, its queues are to be flushed, and it keeps its FC_MODE and MAX_FRAME; portDown leaves the whole state as it is for a port
that is DISABLED or DOWN already, and every other port as it is for a port that was LINKING. (04_ports.md) -/
def Obligations.PortUpDown : Prop :=
  ∀ (p cause : Nat) (s : State),
    let y := getPort p (portDown p cause s)
    ((getPort p s).st = .up → y.st = .down ∧ y.downCause = cause ∧ y.aligned = false ∧ y.pause = [] ∧ y.xoff = 0 ∧
      y.sendOn = 0 ∧ y.sendOff = 0 ∧ y.flush = true ∧ y.fcMode = (getPort p s).fcMode ∧ y.maxFrame = (getPort p s).maxFrame) ∧
    (((getPort p s).st = .disabled ∨ (getPort p s).st = .down) → portDown p cause s = s) ∧
    (∀ k, k ≠ p → (getPort p s).st = .linking → getPort k (portDown p cause s) = getPort k s)

/-- For port p and class k: on a port that takes frames, PFC_FRAME_RECEIVE and PAUSE_FRAME_RECEIVE with a bad FCS only count in
counter 15, and with a good FCS count as a good frame of 64 bytes and load the timers of their classes. PAUSE_TIMER_EXPIRY sets
the class's timer to 0. PFC_FRAME_SEND of a port that may transmit, has no frame in progress and has a PAUSE or PFC frame waiting,
in FC_MODE 1 or 2, sends that frame, counts it (counter 26, or the counter of each class it names), counts the frame and its 64
bytes, and nothing stays pending. PFC_REFRESH of an UP port with the class in XOFF asks for its XOFF again. PFC_WATCHDOG of a
paused class with a watchdog time set and not already held flags the class, reports FC035 and posts the event; with action 1 or 2
it ends the pause, with action 2 it also discards and counts what the class's queues hold. WATCHDOG_RESTORE of a held class ends
the hold and posts the event. A ready PORT_WD_RESTORE of a lane that starts a port completes with OK and restores each class of
its map. The model's own choices in these rows: log entries 28 and 30. (04_ports.md) -/
def Obligations.FlowControl : Prop :=
  ∀ (p k time : Nat) (en : Byte) (times : List Nat) (c : Cmd) (s : State), p < 1024 → k < 8 →
    let x := getPort p s
    let sent := fun (t : State) => (.next (modPort p (fun x => { x with sendOn := 0, sendOff := 0 }) (countPort p 3 64 (countPort p 2 1 t))) : Res)
    (frameTaken p s = true →
      exec (.pfcFrameReceive p en times false) s = .next (countPort p 15 1 s) ∧
      exec (.pauseFrameReceive p time false) s = .next (countPort p 15 1 s) ∧
      exec (.pfcFrameReceive p en times true) s = .next (pfcReceive p en.toNat times (countGood p 64 ctrlDst s)) ∧
      exec (.pauseFrameReceive p time true) s = .next (pauseReceive p time (countGood p 64 ctrlDst s))) ∧
    exec (.pauseTimerExpiry p k) s = .next (modPort p (fun x => { x with pause := tset x.pause k 0 }) s) ∧
    (mayTransmit p s = true → x.sending = none → x.sendOn ≠ 0 ∨ x.sendOff ≠ 0 →
      (x.fcMode = 1 → exec (.pfcFrameSend p) s = sent (countPort p 26 1 (emit (.macControl p (fcFrame p s)) s))) ∧
      (x.fcMode = 2 → exec (.pfcFrameSend p) s = sent ((List.range 8).foldl
        (fun a j => if bitAt (x.sendOn ||| x.sendOff) j then countPort p (36 + j) 1 a else a) (emit (.macControl p (fcFrame p s)) s)))) ∧
    (x.st = .up → bitAt x.xoff k = true →
      exec (.pfcRefresh p k) s = .next (modPort p (fun x => { x with sendOn := setFld x.sendOn k 1 1 }) s)) ∧
    (fld (rd Reg.macPfcWd p s) 0 16 ≠ 0 → tget x.pause k ≠ 0 → bitAt x.wd k = false →
      let t := post 0x9013 (le 2 p ++ [byte k, 1]) (report 35 2 p (le 2 p ++ [byte k, 1])
        (modPort p (fun x => { x with wd := setFld x.wd k 1 1 }) s))
      let z := modPort p (fun x => { x with pause := tset x.pause k 0 }) t
      (fld (rd Reg.macPfcWd p s) 16 2 = 0 → exec (.pfcWatchdog p k) s = .next t) ∧
      (fld (rd Reg.macPfcWd p s) 16 2 = 1 → exec (.pfcWatchdog p k) s = .next z) ∧
      (fld (rd Reg.macPfcWd p s) 16 2 = 2 → exec (.pfcWatchdog p k) s = .next ((heldQueues p k z).foldl (fun a q =>
        modQ q (fun y => { y with blocks := [], readPos := y.appended, spilling := false, began := false, runPeak := 0 })
          (countPort p 52 (getQ q a).pkts.length ((getQ q a).pkts.foldl (fun b i => dropQueued i q 17 b) a))) z))) ∧
    (bitAt x.wd k = true → exec (.watchdogRestore p k) s =
      .next (post 0x9013 (le 2 p ++ [byte k, 0]) (modPort p (fun x => { x with wd := setFld x.wd k 1 0 }) s))) ∧
    (ready 0x97 c s = true → c.op 0 2 < 1024 → c.len = 0 → portWidth (c.op 0 2) s ≠ 0 →
      exec (.portWdRestore c.ref) s = .next (finish c {} 0 0 ((List.range 8).foldl
        (fun a j => if bitAt (c.op 2 1) j then wdRestore (c.op 0 2) j a else a) (started c s))))

/-- FRAME_RECEIVE on a port that takes frames: a frame that the MAC's checks refuse only counts in the counter of its error; a
good MAC control frame is consumed; any other good frame, in a mode that forwards, counts as good and, where the input of its pipe
is not full or the pipe's panel runs at step 7, becomes a packet of the pipe that serves the port, without its FCS, with the port
in its tag; where the input is full below step 7 it is discarded and counted against the pipe's throttle. FRAME_END of an arriving
frame: a good frame is counted by its length and destination, a bad one in the counter of its error, and every packet that holds
the frame takes its whole bytes, cut at MAX_FRAME where the error is the length. SLEEP_ENTRY of an UP port with sleep asked and no
frame in progress enters SLEEP. WAKE_PATTERN_END of a port that sends the wake pattern ends it and releases the transmitters of
its lanes. The model's own choices in these rows: log entries 27, 28, 35, 46 and 62. (04_ports.md, 06_parse_and_tag.md,
17_power.md) -/
def Obligations.FramesAndSleep : Prop :=
  ∀ (p i : Nat) (f rest : List Byte) (cw : List Nat) (full : Bool) (s : State), p < 1024 →
    (frameTaken p s = true →
      (∀ k, macCheck p f cw s = some k → exec (.frameReceive p f cw full) s = .next (countPort p k 1 s)) ∧
      (macCheck p f cw s = none → beAt f 12 2 = 0x8808 → exec (.frameReceive p f cw full) s = .next (macControl p f s)) ∧
      (macCheck p f cw s = none → beAt f 12 2 ≠ 0x8808 → s.sys.mode.forwards = true →
        (full = false ∨ 7 ≤ domStep (panelDom (pipeOfPort p s / 4)) s →
          ∃ t, exec (.frameReceive p f cw full) s = .next t ∧ t.pip.nextId = s.pip.nextId + 1 ∧
            (getPkt s.pip.nextId t).frame = f.take (f.length - 4) ∧
            (getPkt s.pip.nextId t).tag.inPort = p ∧ (getPkt s.pip.nextId t).pipe = pipeOfPort p s) ∧
        (full = true → domStep (panelDom (pipeOfPort p s / 4)) s < 7 →
          exec (.frameReceive p f cw full) s = .next (throttleDrop (pipeOfPort p s) (countGood p f.length (f.take 6) s))))) ∧
    ((tget s.pip.arriving i).live = true →
      let a := tget s.pip.arriving i
      let all := a.bytes ++ rest
      let v := setArriving i {} s
      (macCheck a.port all cw s = none → exec (.frameEnd i rest cw) s =
        .next ((holdersOf i v).foldl (fun t j => frameRest all none j t) (countGood a.port all.length (all.take 6) v))) ∧
      (∀ k, macCheck a.port all cw s = some k → exec (.frameEnd i rest cw) s =
        .next ((holdersOf i v).foldl (fun t j => frameRest (if k = 17 then all.take (getPort a.port s).maxFrame else all) (some k) j t)
          (countPort a.port k 1 v)))) ∧
    ((getPort p s).st = .up → (getPort p s).sleeping = true → (getPort p s).sending = none →
      exec (.sleepEntry p) s = .next (enterSleep p s)) ∧
    ((getPort p s).waving = true → exec (.wakePatternEnd p) s =
      .next ((portLanes p s).foldl (fun a n => setSquelch n false a) (modPort p (fun x => { x with waving := false }) s)))

/-- In a mode in which the engine serves commands, GROUP_ENABLE with ENABLE set and GROUP_DISABLE with it clear write
SLT_GROUP_CFG by its rules. For instance i of group g: FRAME_START_PATTERN while the instance searches holds or confirms a
candidate, or ignores the pattern and counts it as ignored. OVERHEAD_POSITION of an instance in frame lock, at the block where the
overhead is expected: with the pattern the misses return to 0; without it the misses rise, and the third in a row loses the
instance's locks. MULTIFRAME_LOCK of an instance in frame lock takes each OMF bit: without multiframe lock, a transition 16
overhead periods after the noted one locks the multiframe and any other transition is noted as the first of a pair; in lock, a
transition where it is due keeps the lock, and a bit that brings no transition where none is due is only noted. OVERHEAD_FRAME of
an instance in frame lock: with a bad CRC it is counted and raises alarm CRC; with a good one its labels, alarms and calendars are
taken. The model's own choices in these rows: log entry 31. (05_slotted_layer.md) -/
def Obligations.SlotAlignment : Prop :=
  ∀ (g i block : Nat) (v : Word) (omf : Bool) (oh : Overhead) (s : State), g < 32 →
    let x := getInst g i s
    let y := { x with omf := some omf }
    let n := phyInsts (grpSpeed g s)
    (s.sys.mode.engine = true → bitAt v.toNat 20 = true → exec (.groupEnable g v) s = .next (writeGroupCfg g v.toNat s)) ∧
    (s.sys.mode.engine = true → bitAt v.toNat 20 = false → exec (.groupDisable g v) s = .next (writeGroupCfg g v.toNat s)) ∧
    (instSearches g i s = true →
      ((x.sight block).2 = false → exec (.frameStartPattern g i block) s = .next (setInst g i (x.sight block).1 s)) ∧
      ((x.sight block).2 = true → exec (.frameStartPattern g i block) s =
        .next (modGrp g (fun x => { x with ignored := min (x.ignored + 1) (2 ^ 32 - 1) }) (setInst g i (x.sight block).1 s)))) ∧
    (instLive g i s = true → x.frameLock = true →
      (block = x.pos + overheadPeriod →
        exec (.overheadPosition g i block true) s = .next (setInst g i { x with pos := block, misses := 0 } s) ∧
        (x.misses < 2 → exec (.overheadPosition g i block false) s =
          .next (setInst g i { x with pos := block, misses := x.misses + 1 } s)) ∧
        (2 ≤ x.misses → exec (.overheadPosition g i block false) s = .next (instLost g (setInst g i {} s)))) ∧
      (x.omf ≠ some (!omf) → (x.mfLock = false ∨ x.omfPos = none) → exec (.multiframeLock g i omf) s = .next (setInst g i y s)) ∧
      (x.omf = some (!omf) → x.mfLock = false → (∀ p, x.omfPos = some p → x.pos ≠ p + 16 * overheadPeriod) →
        exec (.multiframeLock g i omf) s = .next (setInst g i { y with omfPos := some x.pos } s)) ∧
      (∀ p, x.omf = some (!omf) → x.omfPos = some p → x.pos = p + 16 * overheadPeriod →
        (x.mfLock = false → exec (.multiframeLock g i omf) s =
          .next (grpTryUp g (setInst g i { y with mfLock := true, omfBad := 0, omfPos := some x.pos } s))) ∧
        (x.mfLock = true → exec (.multiframeLock g i omf) s = .next (setInst g i { y with omfBad := 0, omfPos := some x.pos } s))) ∧
      (oh.crcOk = false → exec (.overheadFrame g i oh) s =
        .next (setAlarm g 6 0xFF true (modGrp g (fun x => { x with sec := { x.sec with crc := x.sec.crc + 1 } }) s))) ∧
      (oh.crcOk = true → exec (.overheadFrame g i oh) s =
        .next (sendAll (answerCa g (applyCal g (grpTryUp g (labelAlarms g (modGrp g (fun z => { z with
            maxSkew := max z.maxSkew oh.skewNs, rxC := oh.c % 2, rxCr := oh.cr % 2, rxCa := oh.ca % 2,
            rxCal := if z.st = .up then z.rxCal else oh.c % 2 })
          (setInst g i { x with
            ohSeen := true, calA := oh.calA, calB := oh.calB, rpf := oh.rpf, skewNs := oh.skewNs,
            badNum := decide (oh.groupNum ≠ rdFld Reg.sltGroupCfg g 0 20 s), badMap := decide (oh.phyMap ≠ phyMapOf (getGrp g s)),
            badPhy := decide (oh.phyNum ≠ ((getGrp g s).members.getD (i / n) (0, 0)).2) || decide (oh.instNum ≠ i % n) } s)))))))))

/-- CALENDAR_SWITCH of a group whose SLOT_CAL_SWITCH is in progress and that negotiates nothing, or whose far end has answered,
takes the other transmit calendar, sends its overhead, counts and posts the switch, applies the calendars and completes the
command with the time; without that answer it changes nothing, and CAL_SWITCH_TIMEOUT then records FC052 and ends the command with
status 0x82. With no switch in progress both change nothing. RX_CALENDAR_SWITCH of an UP group whose received C differs takes that
calendar, counts and posts the switch, applies the calendars and answers. (05_slotted_layer.md) -/
def Obligations.CalendarSwitch : Prop :=
  ∀ (g : Nat) (ref : CmdRef) (s : State), g < 32 →
    let x := getGrp g s
    let neg := bitAt (rd Reg.sltGroupCfg g s) 21
    let t := timeOf (tsBase s) s
    (x.switching = some ref → (neg = false ∨ x.rxCa = x.txCr) →
      exec (.calendarSwitch g) s = .next (finishRef ref { payload := le 8 (t / 1000000000) ++ le 4 (t % 1000000000) }
        (applyCals (switched g 0 (1 - x.txCal) (sendOverhead g (setGrp g { x with
          txCal := 1 - x.txCal, txCr := 1 - x.txCal, switching := none } s)))))) ∧
    (x.switching = some ref → neg = true → x.rxCa ≠ x.txCr →
      exec (.calendarSwitch g) s = .next s ∧
      exec (.calSwitchTimeout g) s = .next (endSwitch g 0x82 (report 52 13 g [byte g] s))) ∧
    (x.switching = none → exec (.calendarSwitch g) s = .next s ∧ exec (.calSwitchTimeout g) s = .next s) ∧
    (x.st = .up → x.rxC ≠ x.rxCal → exec (.rxCalendarSwitch g) s =
      .next (answerCa g (applyCals (switched g 1 x.rxC (setGrp g { x with rxCal := x.rxC } s)))))

/-- A ready SLOT_GROUP_MEMBERS of a disabled group with 1 to 16 members, each a port once and a PHY number 1 to 254 once and in no
other group, completes with OK and stores them. A ready SLOT_CLIENT_SET completes with OK for a client that no enabled calendar
names, in a group with no switch in progress: kind 0 frees the client, kind 1 or 2 with a wire number that no other client of the
group has, and for kind 1 a member port that carries no other client, defines it. A ready SLOT_CM_WRITE of entries in range that
keep their rules, with no switch in progress, completes with OK, writes the standby calendar, ends the upsets of the entries it
writes and sends the overhead. A ready SLOT_CAL_SWITCH of an UP group with no switch in progress starts the switch where the
standby calendar is consistent, and otherwise completes with status 0x81 and the first bad slot. A ready SLOT_PM_READ completes
with the record of its bin as data, and with FC053 where the bin is lost. A ready SLOT_GROUP_READ completes with the group's
record. With SLT_CTRL.ENABLE on a running base, PM_SECOND completes and adds a second to a running 15-minute bin. PM_BIN_BOUNDARY
on a running base closes the bin that runs, and starts the first one where none does. The model's own choices in these rows: log
entry 31. (05_slotted_layer.md) -/
def Obligations.SlotCommands : Prop :=
  ∀ (c : Cmd) (bs : List Byte) (counts : PmCounts) (s : State),
    let u := started c s
    let g := c.op 0 1
    let n := c.op 1 1
    let ms := (List.range n).map fun i => (leAt (fit c.len bs) (4 * i) 2, byteAt (fit c.len bs) (4 * i + 2))
    let others := (s.slt.groups.filter fun e => decide (e.1 ≠ g)).flatMap fun e => e.2.members.map Prod.fst
    (ready 0x98 c s = true → g < 32 → 1 ≤ n → n ≤ 16 → c.len = 4 * n → grpOn g s = false →
      (∀ m ∈ ms, m.1 < 1024 ∧ 1 ≤ m.2 ∧ m.2 ≤ 254 ∧ others.contains m.1 = false) → hasDup (ms.map Prod.fst) = false →
      hasDup (ms.map Prod.snd) = false →
      exec (.slotGroupMembers c.ref (.data bs)) s = .next (conclude c {} (cmdDoms c s) (modGrp g (fun x => { x with members := ms }) u))) ∧
    (ready 0x99 c s = true → n < 32 → c.len = 0 → (getGrp n s).switching = none → clientInUse g s = false →
      (c.op 2 1 = 0 → exec (.slotClientSet c.ref) s = .next (finish c {} 0 0 (applyCals (setClient g {} (clientTo g false u))))) ∧
      (c.op 2 1 = 1 ∨ c.op 2 1 = 2 → c.op 4 2 ≠ 0 → c.op 4 2 ≠ 0xFFFF →
        ((s.slt.clients.filter fun e => decide (e.1 ≠ g) && decide (e.2.kind ≠ 0) && decide (e.2.group = n)).all
          fun e => e.2.wire != c.op 4 2) = true →
        (c.op 2 1 = 1 → ((getGrp n s).members.any fun m => m.1 == c.op 6 2) = true ∧
          (s.slt.clients.all fun e => e.1 == g || e.2.kind != 1 || e.2.port != c.op 6 2) = true) →
        exec (.slotClientSet c.ref) s = .next (finish c {} 0 0 (applyCals (setClient g
          { kind := c.op 2 1, group := n, wire := c.op 4 2, port := if c.op 2 1 = 1 then c.op 6 2 else 0 } (clientTo g false u)))))) ∧
    (let first := c.op 2 2
     let k := c.op 4 2
     let es := (List.range k).map fun i => leAt (fit c.len bs) (4 * i) 4
     let at0 := (1 - (getGrp g s).txCal) * 2560 + slotBase g s + first
     let t := (List.range k).foldl (fun t i => clearUpset memCm (at0 + i) t) u
     ready 0x9A c s = true → g < 32 → 1 ≤ k → k ≤ 320 → c.len = 4 * k → first + k ≤ grpSlots g s →
      slotBase g s + first + k ≤ 2560 → (getGrp g s).switching = none → es.all cmEntryOk = true →
      exec (.slotCmWrite c.ref (.data bs)) s = .next (conclude c {} (cmdDoms c s) (sendOverhead g { t with slt := { t.slt with
        cm := (List.range k).foldl (fun m i => tset m (at0 + i) (es.getD i 0 % 2 ^ 26)) t.slt.cm } }))) ∧
    (let x := getGrp g s
     ready 0x9B c s = true → g < 32 → c.len = 0 → x.st = .up → x.switching = none →
      (firstBadSlot g (pageRange g (1 - x.txCal) s) s = none →
        exec (.slotCalSwitch c.ref) s = .next (sendOverhead g (setGrp g { x with
          switching := some c.ref, txCr := if bitAt (rd Reg.sltGroupCfg g s) 21 then 1 - x.txCal else x.txCr } u))) ∧
      (∀ i, firstBadSlot g (pageRange g (1 - x.txCal) s) s = some i →
        exec (.slotCalSwitch c.ref) s = .next (finish c { status := 0x81, payload := le 2 i } 0 0 u))) ∧
    (let b := if g = 0 then some (freezeBin s.slt.bin15 s) else if g ≤ 32 then s.slt.prev15[g - 1]?
       else if g = 33 then some (freezeBin s.slt.binDay s) else s.slt.prevDay[0]?
     ready 0x9C c s = true → g ≤ 34 → c.len = 10304 →
      (∀ d, b = some d → binLost (decide (33 ≤ g)) d s = true → exec (.slotPmRead c.ref) s =
        .next (conclude c { data := pmBytes g b true } (cmdDoms c s) (report 53 14 g [byte g] u))) ∧
      ((∀ d, b = some d → binLost (decide (33 ≤ g)) d s = false) → exec (.slotPmRead c.ref) s =
        .next (conclude c { data := pmBytes g b false } (cmdDoms c s) u))) ∧
    (ready 0x9D c s = true → g < 32 → c.len = 64 + 8 * grpSlots g s →
      exec (.slotGroupRead c.ref) s = .next (conclude c { data := groupBytes g u } (cmdDoms c s) u)) ∧
    (sltOn s = true → tbRuns (pmTb s) s = true → ∃ t, exec (.pmSecond counts) s = .next t ∧
      (s.slt.bin15.running = true → t.slt.bin15.seconds = min (s.slt.bin15.seconds + 1) (2 ^ 32 - 1))) ∧
    (tbRuns (pmTb s) s = true →
      (s.slt.bin15.running = true → exec (.pmBinBoundary false) s =
        .next (closeBin false true (timeOf (pmTb s) s / 1000000000 / 900 * 900) s)) ∧
      (s.slt.binDay.running = true → exec (.pmBinBoundary true) s =
        .next (closeBin true true (timeOf (pmTb s) s / 1000000000 / 86400 * 86400) s)) ∧
      (s.slt.bin15.running = false → exec (.pmBinBoundary false) s = .next { s with slt := { s.slt with
        bin15 := { s.slt.bin15 with running := true, start := timeOf (pmTb s) s / 1000000000 / 900 * 900 } } }) ∧
      (s.slt.binDay.running = false → exec (.pmBinBoundary true) s = .next { s with slt := { s.slt with
        binDay := { s.slt.binDay with running := true, start := timeOf (pmTb s) s / 1000000000 / 86400 * 86400 } } }))

/-- PARSE_THREAD_ASSIGN of a packet that waits whole, with fewer than 192 threads of its pipe busy, starts its parse; of the first
64 bytes or more of a frame that is no MAC control frame, arriving at a port that takes frames in a mode that forwards, it makes a
packet of them, notes the arriving frame and starts its parse. PARSE_WORD of a parsing packet: at PARSE_CFG's step limit the parse
ends with error 2; a word struck by an uncorrectable upset ends it with error 4 and FC064; otherwise a correctable upset is mended
with FC065, and then a word that reaches past byte 256, or whose cursor finds no slot value, ends it with error 1; a word whose
bytes are not all there waits until the frame has ended and then ends it, with error 0 unless the word allows a short frame; any
other word runs, and ends the parse, ends it with error 3, or goes on. INGRESS_STAGES of a parsed packet checks its tag and key
and walks stages 2 to 9. A ready PARSE_READ of 1 to 4,096 words of a pipe that is not fenced completes with 32 bytes a word, as
corrected; uncorrectable words are recorded and give status TARGET_ECC. (01_architecture.md, 06_parse_and_tag.md) -/
def Obligations.ParseThreads : Prop :=
  ∀ (i port : Nat) (first : List Byte) (c : Cmd) (s : State),
    let p := getPkt i s
    let w := tget s.pip.store p.pc
    let need := p.cursor + wordExtent w
    let struck := upsetOf memParse (p.pipe * 4096 + p.pc) s
    (atStage i .input s = true → threadsBusy p.pipe s < 192 → exec (.parseThreadAssign (.waiting i)) s = .next (startParse i s)) ∧
    (port < 1024 → frameTaken port s = true → s.sys.mode.forwards = true → 64 ≤ first.length → beAt first 12 2 ≠ 0x8808 →
      threadsBusy (pipeOfPort port s) s < 192 →
      exec (.parseThreadAssign (.arriving port first)) s = .next (startParse s.pip.nextId (setArriving s.pip.nextId
        { live := true, port := port, bytes := first } (newPkt
        { tag := rxTag port s, pipe := pipeOfPort port s, frame := first, ended := false, rxTotal := timeOf (pktTb s) s } s).2))) ∧
    (atStage i .parsing s = true →
      (rdFld Reg.parseCfg 0 0 8 s ≤ p.steps → exec (.parseWord i) s = .next (endParse i (some 2) p s)) ∧
      (p.steps < rdFld Reg.parseCfg 0 0 8 s → struck = 2 →
        exec (.parseWord i) s = .next (endParse i (some 4) p (report 64 4 p.pipe (le 8 p.pc) s))) ∧
      (p.steps < rdFld Reg.parseCfg 0 0 8 s → struck ≠ 2 →
        let t := if struck = 1 then report 65 4 p.pipe (le 8 p.pc) (clearUpset memParse (p.pipe * 4096 + p.pc) s) else s
        (256 < need ∨ (bitAt w 234 = true ∧ 255 ≤ p.cursor) → exec (.parseWord i) s = .next (endParse i (some 1) p t)) ∧
        (need ≤ 256 → (bitAt w 234 = false ∨ p.cursor < 255) → p.avail < need →
          (p.ended = false → exec (.parseWord i) s = .next t) ∧
          (p.ended = true → exec (.parseWord i) s = .next (endParse i (if bitAt w 14 then none else some 0) p t))) ∧
        (need ≤ 256 → (bitAt w 234 = false ∨ p.cursor < 255) → need ≤ p.avail →
          (fld w 12 2 = 2 → exec (.parseWord i) s = .next (endParse i none (runWord w p) t)) ∧
          (fld w 12 2 = 3 → exec (.parseWord i) s = .next (endParse i (some 3) (runWord w p) t)) ∧
          (fld w 12 2 < 2 → exec (.parseWord i) s = .next (setPkt i (runWord w p) t))))) ∧
    (atStage i .parsed s = true → exec (.ingressStages i) s = .next (ingress i (checkKey i p.pipe (checkTag i p.pipe s)))) ∧
    (let pipe := c.op 0 1
     let words := (List.range (c.op 4 2)).map (c.op 2 2 + ·)
     let bad := words.filter fun a => upsetOf memParse (pipe * 4096 + a) s == 2
     let soft := words.filter fun a => upsetOf memParse (pipe * 4096 + a) s == 1
     let u := bad.foldl (fun t a => report 64 4 pipe (le 8 a) t) (started c s)
     let v := soft.foldl (fun t a => report 65 4 pipe (le 8 a) (clearUpset memParse (pipe * 4096 + a) t)) u
     ready 0xA8 c s = true → pipe < 16 → 1 ≤ c.op 4 2 → c.op 4 2 ≤ 4096 → c.op 2 2 + c.op 4 2 ≤ 4096 → c.len = 32 * c.op 4 2 →
      (getUnit 4 pipe s).state ≠ .fenced →
      exec (.parseRead c.ref) s = .next (conclude c {
        status := if bad = [] then 0 else TARGET_ECC,
        data := words.flatMap fun a => le 32 (tget v.pip.store a ^^^ flipsOf memParse (pipe * 4096 + a) v) } (cmdDoms c s) v))

/-- ADMISSION of a packet ready for it checks its tag and decides where it goes. REMAINING_CELLS of an arriving frame adds the
bytes to it and to the packets that hold it; of a frame that does not arrive it changes nothing. REPLICATION by one of the four
panels that has not walked the packet's group makes that panel's replicas, and the fourth panel ends the packet. DEQUEUE_DECISION
of an idle port that starts one, in a mode that forwards, flushes and looks; with a queue chosen whose head is k it takes k and
looks again. EGRESS_STAGES of a dequeued packet checks its tag, reads its cells and edits it. TRANSMIT_END of a packet that leaves
and whose frame has ended ends its reference; where the port's MAC stream runs the frame goes out with its FCS, counted in
counters 2 and 3, and a stomped one in 19 too. QUEUE_FLUSH of a port flushes its queues where they are to be flushed. The model's
own choices in these rows: log entries 34, 36, 48 and 64. (08_actions_and_egress.md, 09_buffer_and_spill.md, 10_scheduling.md) -/
def Obligations.PacketsLeave : Prop :=
  ∀ (i port panel total : Nat) (more : List Byte) (s : State),
    let p := getPkt i s
    let a := tget s.pip.arriving i
    (atStage i .ready s = true → exec (.admission i) s = .next (admitPkt i (checkTag i p.pipe s))) ∧
    (a.live = true → exec (.remainingCells i more) s =
      .next (frameGrows i (a.bytes ++ more) (setArriving i { a with bytes := a.bytes ++ more } s))) ∧
    (a.live = false → exec (.remainingCells i more) s = .next s) ∧
    (panel < 4 → atStage i .walking s = true → p.walked.contains panel = false →
      (p.walked.length ≠ 3 → exec (.replication panel i) s =
        .next (modPkt i (fun x => { x with walked := panel :: p.walked }) (walkGroup panel i s))) ∧
      (p.walked.length = 3 → exec (.replication panel i) s = .next (endPkt i (walkGroup panel i s)))) ∧
    (port < 1024 → (getPort port s).sending = none → portWidth port s ≠ 0 → s.sys.mode.forwards = true →
      let v := lookPort port (flushPort port s)
      (selectQueue port v = none → exec (.dequeueDecision port) s = .next v) ∧
      (∀ q ets k rest, selectQueue port v = some (q, ets) → (getQ q v).pkts = k :: rest →
        exec (.dequeueDecision port) s = .next (lookPort port (dequeue port q k ets v)))) ∧
    (atStage i .egress s = true → exec (.egressStages i total) s =
      .next (egress i total (readCells i (checkTag i (pipeOfPort p.port s) s)))) ∧
    (atStage i .leaving s = true → p.ended = true →
      let b := wireFrame p.frame p.stomp
      let t := countPort p.port 3 b.length (countPort p.port 2 1 (emit (.frame p.port b p.stomp) s))
      (macRuns p.port s = false → exec (.transmitEnd i) s = .next (endPkt i (sendOver i p s))) ∧
      (macRuns p.port s = true → p.stomp = false → exec (.transmitEnd i) s = .next (endPkt i (sendOver i p t))) ∧
      (macRuns p.port s = true → p.stomp = true →
        exec (.transmitEnd i) s = .next (endPkt i (sendOver i p (countPort p.port 19 1 t))))) ∧
    (port < 1024 → exec (.queueFlush port) s = .next (flushPort port s))

/-- SPILL_ASSEMBLY_TIMEOUT of a queue whose last block is partial, not being read and not lost writes that block out and settles
the run. READBACK_START passes the run's lost blocks; with no block left it closes the run; out of turn it does nothing more; in
turn it begins to read the first block where it may, and else takes what the run has assembled. BLOCK_READ_DONE of a block that is
being read scans its bursts, loses its units where it could not be read, and moves the read position past what was written. Ready
BUF_PROFILE_WRITE, BUF_QUEUE_MAP and BUF_PORT_WRITE complete with OK: with the read flag the records are their data, and without
it valid records that put no spilling profile on a queue that never spills are stored. A ready BUF_QUEUE_READ completes with 32
bytes a queue as its data and restarts each queue's peak from the blocks it holds. The model's own choices in these rows: log
entries 32, 33, 57 and 74. (09_buffer_and_spill.md) -/
def Obligations.SpillAndBufferCommands : Prop :=
  ∀ (q : Nat) (c : Cmd) (bs : List Byte) (h : HostAns) (s : State),
    let u := started c s
    (q < 20480 → ∀ b, (getQ q s).blocks.getLast? = some b → b.w < b.n → b.reading = false → b.lost = false →
      exec (.spillAssemblyTimeout q) s =
        .next (settle q (setQ q { getQ q s with blocks := (getQ q s).blocks.dropLast ++ [{ b with w := b.n }] } s))) ∧
    (let v := passLost q (getQ q s).blocks.length s
     let w := if readReady q v then { v with buf := { v.buf with readLast := q } } else v
     q < 20480 →
      ((getQ q v).blocks = [] → exec (.readbackStart q) s = .next (closeRun q v)) ∧
      (∀ b r, (getQ q v).blocks = b :: r →
        (readTurn q v = false → exec (.readbackStart q) s = .next v) ∧
        (readTurn q v = true → mayRead q b w = true → exec (.readbackStart q) s =
          .next (settle q (chanUsed (blockChan b.id w) (setQ q { getQ q v with blocks := { b with reading := true } :: r, began := true } w)))) ∧
        (readTurn q v = true → mayRead q b w = false → exec (.readbackStart q) s = .next (takeAssembly q w)))) ∧
    (∀ ok b r, q < 20480 → (getQ q s).blocks = b :: r → b.reading = true →
      let addr := blockAddr b.id s + 256 * (b.start - b.base)
      let hard := (burstsOf addr (256 * b.w)).any fun x => upsetOf memBurst x s == 2
      let v := burlapScan addr (256 * b.w) s
      let t := if ok = true ∧ hard = false ∧ b.lost = false then v
        else loseUnits q { b with n := b.w } (if ok = true ∨ hard = true then v else report 178 9 (blockChan b.id v) (le 8 addr) v)
      (b.n = b.w → exec (.blockReadDone q ok) s =
        .next (closeRun q (runStep q (modQ q (fun x => { x with blocks := r, readPos := b.start + b.w }) t)))) ∧
      (b.n ≠ b.w → exec (.blockReadDone q ok) s = .next (closeRun q (runStep q (modQ q (fun x => { x with
        blocks := { b with start := b.start + b.w, n := b.n - b.w, w := 0, reading := false } :: r, readPos := b.start + b.w }) t))))) ∧
    (ready 0x30 c s = true → 1 ≤ c.op 1 1 → c.op 0 1 + c.op 1 1 ≤ 64 → c.len = 16 * c.op 1 1 → flagOk c 2 = true →
      let recs := (List.range (c.op 1 1)).map fun k => leAt (fit c.len bs) (16 * k) 16
      (readFlag c 2 = true → exec (.bufProfileWrite c.ref h) s = .next (conclude c
        { data := (List.range (c.op 1 1)).flatMap fun k => le 16 (tget s.buf.profiles (c.op 0 1 + k)) } (cmdDoms c s) u)) ∧
      (readFlag c 2 = false → recs.all profileOk = true →
        (recs.zipIdx.any fun r => prSpill r.1 && (List.range 20480).any fun k => tget s.buf.map k == c.op 0 1 + r.2 && neverSpills k s) = false →
        exec (.bufProfileWrite c.ref (.data bs)) s = .next (conclude c {} (cmdDoms c s) { u with buf := { u.buf with
          profiles := recs.zipIdx.foldl (fun t r => tset t (c.op 0 1 + r.2) r.1) u.buf.profiles } }))) ∧
    (ready 0x31 c s = true → 1 ≤ c.op 2 2 → c.op 0 2 + c.op 2 2 ≤ 20480 → c.len = c.op 2 2 → flagOk c 4 = true →
      let bytes := fit c.len bs
      (readFlag c 4 = true → exec (.bufQueueMap c.ref h) s = .next (conclude c
        { data := (List.range (c.op 2 2)).map fun k => byte (tget s.buf.map (c.op 0 2 + k)) } (cmdDoms c s) u)) ∧
      (readFlag c 4 = false → (bytes.all fun b => decide (b.toNat ≤ 63)) = true →
        (bytes.zipIdx.any fun b => prSpill (tget s.buf.profiles b.1.toNat) && neverSpills (c.op 0 2 + b.2) s) = false →
        exec (.bufQueueMap c.ref (.data bs)) s = .next (conclude c {} (cmdDoms c s) { u with buf := { u.buf with
          map := bytes.zipIdx.foldl (fun t b => tset t (c.op 0 2 + b.2) b.1.toNat) u.buf.map } }))) ∧
    (ready 0x32 c s = true → 1 ≤ c.op 2 2 → c.op 0 2 + c.op 2 2 ≤ 1024 → c.len = 16 * c.op 2 2 → flagOk c 4 = true →
      (readFlag c 4 = true → exec (.bufPortWrite c.ref h) s = .next (conclude c
        { data := (List.range (8 * c.op 2 2)).flatMap fun k => le 2 (tget s.buf.limit (8 * c.op 0 2 + k)) } (cmdDoms c s) u)) ∧
      (readFlag c 4 = false → exec (.bufPortWrite c.ref (.data bs)) s = .next (conclude c {} (cmdDoms c s) { u with buf := { u.buf with
        limit := (List.range (8 * c.op 2 2)).foldl (fun t k => tset t (8 * c.op 0 2 + k) (leAt (fit c.len bs) (2 * k) 2)) u.buf.limit } }))) ∧
    (ready 0x33 c s = true → 1 ≤ c.op 2 2 → c.op 2 2 ≤ 4096 → c.op 0 2 + c.op 2 2 ≤ 20480 → c.len = 32 * c.op 2 2 →
      exec (.bufQueueRead c.ref) s =
        .next (conclude c { data := ((List.range (c.op 2 2)).map (c.op 0 2 + ·)).flatMap fun q => queueRecord q u } (cmdDoms c s)
          (((List.range (c.op 2 2)).map (c.op 0 2 + ·)).foldl (fun s q => modQ q (fun x => { x with peak := x.blocks.length }) s) u)))

/-- SHAPER_TICK of one of the four panels meets the upsets of its shapers, adds one to the panel's tick and ticks those shapers.
WHEEL_SLOT_DUE takes every shaper of the panel that is due off the wheel; OVERFLOW_SLOT_DUE brings those of the present overflow
slot, or an earlier one, onto the wheel. With sampling on, DEPTH_SAMPLE counts one sample and SAMPLE_WINDOW_CLOSE closes the
window. Ready SCH_PORT_WRITE, SCH_SHAPER_WRITE and SCH_METER_WRITE complete with OK: with the read flag the records are their
data, and without it valid records are stored, a shaper's to take effect at the next tick. A ready SCH_SAMPLE_READ completes with
48 bytes a queue as its data. The model's own choices in these rows: log entry 37. (10_scheduling.md) -/
def Obligations.SchedulerRows : Prop :=
  ∀ (pn : Nat) (c : Cmd) (bs : List Byte) (h : HostAns) (s : State),
    let u := started c s
    (pn < 4 →
      let v := meetShapers pn s
      let now := tget v.sch.ticks pn + 1
      exec (.shaperTick pn) s = .next { v with sch := { v.sch with
        ticks := tset v.sch.ticks pn now,
        shapers := tmap v.sch.shapers fun k x => if shaperPanel k = pn then x.tick now else x } }) ∧
    (pn < 4 → exec (.wheelSlotDue pn) s = .next { s with sch := { s.sch with shapers := tmap s.sch.shapers fun k x =>
      match x.due with
      | none => x
      | some d => if shaperPanel k = pn ∧ d ≤ tget s.sch.ticks pn ∧ !x.far then { x with due := none } else x } }) ∧
    (pn < 4 → exec (.overflowSlotDue pn) s = .next { s with sch := { s.sch with shapers := tmap s.sch.shapers fun k x =>
      match x.due with
      | none => x
      | some d => if shaperPanel k = pn ∧ x.far ∧ d / 4096 ≤ tget s.sch.ticks pn / 4096 then { x with far := false } else x } }) ∧
    (sampleOn s = true → ∃ t, exec .depthSample s = .next t ∧ t.sch.taken = s.sch.taken + 1 ∧
      t = { s with sch := { s.sch with depth := t.sch.depth, taken := t.sch.taken, win := t.sch.win } }) ∧
    (sampleOn s = true → exec .sampleWindowClose s = .next (closeWindow false s)) ∧
    (let recs := (List.range (c.op 2 2)).map fun k => leAt (fit c.len bs) (32 * k) 32
     ready 0x38 c s = true → 1 ≤ c.op 2 2 → c.op 0 2 + c.op 2 2 ≤ 1024 → c.len = 32 * c.op 2 2 → flagOk c 4 = true →
      (readFlag c 4 = true → exec (.schPortWrite c.ref h) s = .next (conclude c
        { data := (List.range (c.op 2 2)).flatMap fun k => le 32 (schRec (c.op 0 2 + k) u) } (cmdDoms c s) u)) ∧
      (readFlag c 4 = false → recs.all schRecOk = true →
        exec (.schPortWrite c.ref (.data bs)) s = .next (conclude c {} (cmdDoms c s) { u with sch := { u.sch with
          recs := recs.zipIdx.foldl (fun t r => tsetD t (c.op 0 2 + r.2) r.1 resetSchRec) u.sch.recs } }))) ∧
    (let recs := (List.range (c.op 4 4)).map fun k => leAt (fit c.len bs) (16 * k) 16
     ready 0x39 c s = true → 1 ≤ c.op 4 4 → c.op 4 4 ≤ 4096 → c.op 0 4 + c.op 4 4 ≤ 21504 → c.len = 16 * c.op 4 4 →
      flagOk c 8 = true →
      (readFlag c 8 = true → exec (.schShaperWrite c.ref h) s = .next (conclude c
        { data := (List.range (c.op 4 4)).flatMap fun k => shaperBytes (getShaper (c.op 0 4 + k) u) } (cmdDoms c s) u)) ∧
      (readFlag c 8 = false → recs.all shaperOk = true →
        exec (.schShaperWrite c.ref (.data bs)) s = .next (conclude c {} (cmdDoms c s) (recs.zipIdx.foldl (fun s r =>
          setShaper (c.op 0 4 + r.2) { getShaper (c.op 0 4 + r.2) s with
            next := some (fld r.1 0 32, fld r.1 32 32, toS 8 (fld r.1 64 8)),
            clear := (getShaper (c.op 0 4 + r.2) s).clear || bitAt r.1 72 } s) u)))) ∧
    (let recs := (List.range (c.op 4 4)).map fun k => leAt (fit c.len bs) (32 * k) 32
     ready 0x3A c s = true → 1 ≤ c.op 4 4 → c.op 4 4 ≤ 4096 → c.op 0 4 + c.op 4 4 ≤ 65536 → c.len = 32 * c.op 4 4 →
      flagOk c 8 = true →
      (readFlag c 8 = true → exec (.schMeterWrite c.ref h) s = .next (conclude c
        { data := (List.range (c.op 4 4)).flatMap fun k => meterBytes (c.op 0 4 + k) u } (cmdDoms c s) u)) ∧
      (readFlag c 8 = false → recs.all meterOk = true →
        exec (.schMeterWrite c.ref (.data bs)) s =
          .next (conclude c {} (cmdDoms c s) (recs.zipIdx.foldl (fun s r => writeMeter (c.op 0 4 + r.2) r.1 s) u)))) ∧
    (ready 0x3B c s = true → 1 ≤ c.op 2 2 → c.op 2 2 ≤ 4096 → c.op 0 2 + c.op 2 2 ≤ 20480 → c.len = 48 * c.op 2 2 →
      exec (.schSampleRead c.ref) s =
        .next (conclude c { data := (List.range (c.op 2 2)).flatMap fun k => sampleRecord (c.op 0 2 + k) u } (cmdDoms c s) u))

/-- A ready EM command of a defined type, with the state after its probed slots met their upsets, and with the named object held
from the sweep: EM_INSERT of a key without bytes beyond its type's length that is absent completes with OK where a place is found
and answers where and with how many moves, and else with TABLE_FULL and counts the failure; of a key that is present it completes
with EXISTS where MODE is 0, and where MODE is 1 with OK, the entry replaced in place with its HIT and PENDING_AGE kept. EM_DELETE
of a key that is present completes with OK and clears its slot where MODE is 0 or the entry is pending, with NOT_PENDING
otherwise, and with NOT_FOUND for an absent key. EM_LOOKUP completes with OK and the entry, or with NOT_FOUND. EM_READ of banks in
service completes with the banks' bytes as its data. The model's own choices in these rows: log entries 46 and 64. (07_tables.md)
-/
def Obligations.ExactMatchCommands : Prop :=
  ∀ (c : Cmd) (s : State),
    let u := started c s
    let e := emOfBytes (slice c.ops 0 32)
    let v := emMeet e.key e.typ u
    let key := slice c.ops 0 22
    let typ := c.op 22 1
    let w := emMeet key typ u
    let held := fun (r : CmdRes) (t : State) => (.next (conclude c r (cmdDoms c s) (touch (cmdObjs c u) t)) : Res)
    (ready 0x10 c s = true → e.typ ≤ 63 → bitAt (byteAt (slice c.ops 0 32) 23) 0 = true → byteAt (slice c.ops 0 32) 23 ≤ 15 → c.len = 0 →
      typeDefined e.typ s = true → allZero (e.key.drop (keyBytes e.typ s)) = true → c.op 32 1 ≤ 1 →
      (emFind e.key e.typ v = none →
        (∀ i m t, emPlace e v = some (i, m, t) → exec (.emInsert c.ref) s =
          held { payload := [byte (emBank i), 0] ++ le 2 (emBucket i) ++ [byte (emSlot i), byte m] } t) ∧
        (emPlace e v = none → exec (.emInsert c.ref) s =
          held { status := TABLE_FULL } { v with tbl := { v.tbl with insertFails := sat 32 (v.tbl.insertFails + 1) } })) ∧
      (∀ i, emFind e.key e.typ v = some i →
        (c.op 32 1 = 0 → exec (.emInsert c.ref) s = held { status := EXISTS } v) ∧
        (c.op 32 1 = 1 → exec (.emInsert c.ref) s =
          held { payload := [byte (emBank i), 0] ++ le 2 (emBucket i) ++ [byte (emSlot i), 0] }
            (setEm i { e with hit := (getEm i v).hit, pendingAge := (getEm i v).pendingAge } v)))) ∧
    (ready 0x11 c s = true → typ ≤ 63 → c.op 23 1 ≤ 1 → c.len = 0 → typeDefined typ s = true →
      (∀ i, emFind key typ w = some i →
        (c.op 23 1 = 0 ∨ (getEm i w).pendingAge = true → exec (.emDelete c.ref) s = held {} (setEm i {} w)) ∧
        (c.op 23 1 = 1 → (getEm i w).pendingAge = false → exec (.emDelete c.ref) s = held { status := NOT_PENDING } w)) ∧
      (emFind key typ w = none → exec (.emDelete c.ref) s = held { status := NOT_FOUND } w)) ∧
    (ready 0x12 c s = true → typ ≤ 63 → c.len = 0 → typeDefined typ s = true →
      (∀ i, emFind key typ w = some i → exec (.emLookup c.ref) s =
        held { payload := (getEm i w).bytes ++ [byte (emBank i), 0] ++ le 2 (emBucket i) ++ [byte (emSlot i)] } w) ∧
      (emFind key typ w = none → exec (.emLookup c.ref) s = held { status := NOT_FOUND } w)) ∧
    (let b := c.op 0 2
     let n := c.op 2 2
     ready 0x13 c s = true → b ≤ 255 → 1 ≤ n → b + n ≤ 256 → c.len = 524288 * n → (∀ k, k < n → fencedU 5 (b + k) s = false) →
      exec (.emRead c.ref) s = .next (conclude c { data := (List.range n).flatMap fun k => bankBytes (b + k) u } (cmdDoms c s) u))

/-- With the named objects held from the sweep: a ready LPM_ADD of a valid prefix and result completes with OK and stores it where
the units suffice, and else with TABLE_FULL and counts the failure. LPM_DELETE of a stored prefix completes with OK and removes
it, of another with NOT_FOUND. LPM_LOOKUP completes with the longest match, or with DEST_KIND 7 and a free DEST where that prefix
is lost in both copies, or with NOT_FOUND. A ready TCAM_WRITE of valid records for entries in service completes with OK and stores
them in ascending order, the two halves of a 320-bit entry 1,024 indices apart; TCAM_READ completes with the records as its data.
The model's own choices in these rows: log entries 46 and 64. (07_tables.md) -/
def Obligations.PrefixAndTcamCommands : Prop :=
  ∀ (c : Cmd) (bs : List Byte) (s : State),
    let u := started c s
    let key := prefixKey c.ops
    let r : LpmRes := { dk := c.op 20 1, dest := c.op 24 4 }
    let old := if tget s.tbl.lpm key = {} then 0 else lpmUnits key
    let six := byteAt c.ops 2 == 6
    let i := c.op 0 4
    let w := tcamOperand c s
    let held := fun (r : CmdRes) (t : State) => (.next (conclude c r (cmdDoms c s) (touch (cmdObjs c u) t)) : Res)
    (ready 0x18 c s = true → prefixOk c.ops true = true → lpmDestOk (c.op 20 1) (c.op 24 4) = true → c.op 21 3 = 0 → c.len = 0 →
      (lpmUsed s - old + lpmUnits key ≤ 2097152 → exec (.lpmAdd c.ref) s =
        held {} (clearUpset memLpm key { u with tbl := { u.tbl with lpm := tset u.tbl.lpm key r } })) ∧
      (2097152 < lpmUsed s - old + lpmUnits key → exec (.lpmAdd c.ref) s =
        held { status := TABLE_FULL } { u with tbl := { u.tbl with insertFails := sat 32 (u.tbl.insertFails + 1) } })) ∧
    (ready 0x19 c s = true → prefixOk c.ops true = true → c.len = 0 →
      (tget s.tbl.lpm key ≠ {} → exec (.lpmDelete c.ref) s =
        held {} (clearUpset memLpm key { u with tbl := { u.tbl with lpm := tset u.tbl.lpm key {} } })) ∧
      (tget s.tbl.lpm key = {} → exec (.lpmDelete c.ref) s = held { status := NOT_FOUND } u)) ∧
    (ready 0x1A c s = true → prefixOk c.ops false = true → c.len = 0 →
      (∀ len x, lpmLookup (c.op 0 2) six (prefixAddr c.ops) s = some (len, x) →
        let k := lpmKey (c.op 0 2) six len (maskAddr six len (prefixAddr c.ops))
        let t := meetItem memLpm 1 k u
        (upsetOf memLpm k s ≠ 2 → exec (.lpmLookup c.ref) s = held { payload := [byte x.dk, byte len, 0, 0] ++ le 4 x.dest } t) ∧
        (upsetOf memLpm k s = 2 → exec (.lpmLookup c.ref) s =
          held { payload := [7, byte len, 0, 0] ++ le 4 (takeFree t).1 } (takeFree t).2)) ∧
      (lpmLookup (c.op 0 2) six (prefixAddr c.ops) s = none → exec (.lpmLookup c.ref) s = held { status := NOT_FOUND } u)) ∧
    (let recs := chunks 64 ((fit c.len bs).length / 64) (fit c.len bs)
     ready 0x1C c s = true → w ≠ 0 → tcamOut i w s = false → recs.all tcamRecOk = true →
      exec (.tcamWrite c.ref (.data bs)) s = held {} (recs.zipIdx.foldl
        (fun s r => setTcam (if w = 320 then i + r.2 / 2 + 1024 * (r.2 % 2) else i + r.2) r.1 s) u)) ∧
    (ready 0x1D c s = true → w ≠ 0 → tcamOut i w s = false →
      exec (.tcamRead c.ref) s = held {
        data := (List.range (c.op 4 2)).flatMap fun k => le 64 (tcamRec (i + k) u) ++ (if w = 320 then le 64 (tcamRec (i + k + 1024) u) else []) } u)

/-- Where a lookup answers a length and a result, that prefix of the address is stored with that result and no longer one is;
where it answers none, no prefix of the address of any length is stored. (07_tables.md) -/
def Obligations.LongestPrefix : Prop :=
  ∀ (vrf addr : Nat) (six : Bool) (s : State),
    let bits := if six then 128 else 32
    let stored := fun (l : Nat) => tget s.tbl.lpm (lpmKey vrf six l (if l = 0 then 0 else maskAddr six l addr))
    (∀ len r, lpmLookup vrf six addr s = some (len, r) →
      len ≤ bits ∧ stored len = r ∧ r ≠ {} ∧ ∀ l, len < l → l ≤ bits → stored l = {}) ∧
    (lpmLookup vrf six addr s = none → ∀ l, l ≤ bits → stored l = {})

/-- Each ready write command below completes with OK and stores its valid records in range: ECMP_GROUP_WRITE, MEMBER_WRITE and
NEXTHOP_WRITE, with their objects held from the sweep and the groups looked at again; CLASSIFY_WRITE of a port record and of a
profile; ENDPOINT_WRITE; EDIT_WRITE; MCAST_WRITE of groups and of entries; MIRROR_WRITE; EGRESS_WRITE of port records, ECN
profiles and ACL entries. With the read flag, EDIT_WRITE, MCAST_WRITE and EGRESS_WRITE complete with the records as their data, or
with TARGET_ECC where an item that can be met has an uncorrectable upset; ECMP_READ does so too. MIRROR_WRITE with the read flag
of a session whose record is not lost completes with it as payload. SHADOW_CHECK completes with OK: where the host refuses the
read it reports FC088 and answers 0, and else it compares record by record, answers how many it mended and looks at the groups
again. TABLE_STAT completes with the table area. LEARN_HOLDOFF_EXPIRY takes the key's filter entries out and nothing else;
LEARN_RATE_WINDOW starts a new window; NEXT_HOP_DOWN of a port whose link is down marks it, NEXT_HOP_UP of one whose link is up
unmarks it and looks at the groups again; either, against the link's state, changes nothing. The model's own choices in these
rows: log entries 46, 48 and 64. (07_tables.md, 08_actions_and_egress.md) -/
def Obligations.ForwardingRecords : Prop :=
  (∀ (c : Cmd) (bs : List Byte) (h : HostAns) (st : Byte) (s : State),
     let u := started c s
     let k := c.op 0 1
     let first := c.op 4 4
     let n := c.op 8 4
     let recs := fun (size m : Nat) => (chunks size m (fit c.len bs)).map leNat
     let ends := fun (r : CmdRes) (t : State) => (.next (conclude c r (cmdDoms c s) t) : Res)
     let held := fun (r : CmdRes) (t : State) => (.next (conclude c r (cmdDoms c s) (touch (cmdObjs c u) t)) : Res)
     let items := (List.range n).map (first + ·)
     let readOut := fun (mem fc size : Nat) (is : List Nat) (rec : Nat → Nat) => ends (if is.any fun i => upsetOf mem i s == 2 then { status := TARGET_ECC } else { data := is.flatMap fun i => le size (rec i) }) (is.foldl (fun t i => meetSecded mem fc i t) u)
     (ready 0x20 c s = true → c.op 0 2 ≤ 16383 → groupOk (c.op 8 16) = true → c.len = 0 →
       exec (.ecmpGroupWrite c.ref) s = held {} (setEcmp (c.op 0 2) (c.op 8 16) u)) ∧
     (let m := c.op 4 4
      ready 0x21 c s = true → 1 ≤ m → m ≤ 4096 → c.op 0 4 + m ≤ 1048576 → c.len = 4 * m → (recs 4 m).all memberOk = true →
       exec (.memberWrite c.ref (.data bs)) s = held {}
         (groupsLive ((recs 4 m).zipIdx.foldl (fun s r => setMember (c.op 0 4 + r.2) r.1 s) u))) ∧
     (let m := c.op 4 4
      ready 0x22 c s = true → 1 ≤ m → m ≤ 4096 → c.op 0 4 + m ≤ 262144 → c.len = 16 * m → (recs 16 m).all hopOk = true →
       exec (.nexthopWrite c.ref (.data bs)) s = held {}
         (groupsLive ((recs 16 m).zipIdx.foldl (fun s r => setHop (c.op 0 4 + r.2) r.1 s) u))) ∧
     (ready 0x23 c s = true → 3 ≤ k → k ≤ 5 → 1 ≤ n → n ≤ 4096 → first + n ≤ shadowMax k → c.len = shadowSize k * n →
       exec (.ecmpRead c.ref) s = held
         (if items.any fun i => upsetOf (kindMem k) i s == 2 then { status := TARGET_ECC }
          else { data := items.flatMap fun i => le (shadowSize k) (tblRec k i u) })
         (items.foldl (fun t i => meetItem (kindMem k) k i t) u)) ∧
     (ready 0x24 c s = true → k ≤ 5 → 1 ≤ n → first + n ≤ (areaOf k s).2 → c.len = 0 →
       exec (.shadowCheck c.ref (.error st bs)) s = ends { payload := le 4 0 } (report 88 14 0 [byte k] u) ∧
       (let r := (chunks (shadowSize k) n (fit (shadowSize k * n) bs)).zipIdx.foldl (fun (a : Nat × State) x =>
          (a.1 + b2n (shadowRecord true k (first + x.2) x.1 a.2).1, (shadowRecord true k (first + x.2) x.1 a.2).2)) (0, u)
        exec (.shadowCheck c.ref (.data bs)) s = ends { payload := le 4 r.1 } (groupsLive r.2))) ∧
     (ready 0x25 c s = true → c.len = 1024 → exec (.tableStat c.ref) s = ends { data := tableArea u } u) ∧
     (ready 0x26 c s = true → k = 0 → c.op 2 2 ≤ 1023 → portRecOk (c.op 8 8) = true → c.len = 0 →
       exec (.classifyWrite c.ref h) s = ends {} { u with tbl := { u.tbl with ports := tset u.tbl.ports (c.op 2 2) (c.op 8 8) } }) ∧
     (ready 0x26 c s = true → k = 1 → c.op 2 2 ≤ 15 → c.len = 72 → ((fit c.len bs).all fun b => decide (b.toNat < 32)) = true →
       exec (.classifyWrite c.ref (.data bs)) s = ends {}
         { u with tbl := { u.tbl with profiles := tset u.tbl.profiles (c.op 2 2) (leNat (fit c.len bs)) } }) ∧
     (ready 0x27 c s = true → c.op 1 1 ≤ 3 → c.op 2 2 ≤ 4095 → c.len = 0 →
       exec (.endpointWrite c.ref) s = ends {} { u with tbl := { u.tbl with endpoints := tset u.tbl.endpoints k (c.op 0 20) } }) ∧
     (let m := c.op 4 2
      ready 0xAC c s = true → 1 ≤ m → m ≤ 256 → c.op 0 4 + m ≤ 32768 → flagOk c 6 = true → c.len = 128 * m →
       (readFlag c 6 = true → exec (.editWrite c.ref h) s =
         readOut memEdit 70 128 ((List.range m).map (c.op 0 4 + ·)) (tget s.pip.edits)) ∧
       (readFlag c 6 = false → exec (.editWrite c.ref (.data bs)) s = ends {} ((recs 128 m).zipIdx.foldl (fun s r =>
         clearUpset memEdit (c.op 0 4 + r.2) { s with pip := { s.pip with edits := tset s.pip.edits (c.op 0 4 + r.2) r.1 } }) u))) ∧
     (ready 0xAD c s = true → flagOk c 1 = true → 1 ≤ n → n ≤ 4096 → c.len = 8 * n →
       (k = 0 → first + n ≤ 65536 →
         (readFlag c 1 = true → exec (.mcastWrite c.ref h) s = readOut memGroup 71 8 items (tget s.pip.groups)) ∧
         (readFlag c 1 = false → (recs 8 n).all mcGroupOk = true →
           exec (.mcastWrite c.ref (.data bs)) s = ends {} ((recs 8 n).zipIdx.foldl (fun s r =>
             clearUpset memGroup (first + r.2) { s with pip := { s.pip with groups := tset s.pip.groups (first + r.2) r.1 } }) u))) ∧
       (k = 1 → first + n ≤ 524288 →
         (readFlag c 1 = true → exec (.mcastWrite c.ref h) s = readOut memEntry 71 8 items (tget s.pip.entries)) ∧
         (readFlag c 1 = false → (recs 8 n).all mcEntryOk = true →
           exec (.mcastWrite c.ref (.data bs)) s = ends {} ((recs 8 n).zipIdx.foldl (fun s r =>
             clearUpset memEntry (first + r.2) { s with pip := { s.pip with entries := tset s.pip.entries (first + r.2) r.1 } }) u)))) ∧
     (ready 0xAE c s = true → k ≠ 0 → flagOk c 1 = true → c.len = 0 →
       (readFlag c 1 = true → upsetOf memMirror k s ≠ 2 →
         exec (.mirrorWrite c.ref) s = ends { payload := le 16 (tget s.pip.mirrors k) } (meetSecded memMirror 72 k u)) ∧
       (readFlag c 1 = false → mirrorOk (c.op 8 16) = true →
         exec (.mirrorWrite c.ref) s = ends {}
           (clearUpset memMirror k { u with pip := { u.pip with mirrors := tset u.pip.mirrors k (c.op 8 16) } }))) ∧
     (ready 0xAF c s = true → flagOk c 1 = true → 1 ≤ n →
       (k = 0 → first + n ≤ 1024 → c.len = 32 * n →
         (readFlag c 1 = true → exec (.egressWrite c.ref h) s = ends { data := items.flatMap fun i => le 32 (tget s.pip.egress i) } u) ∧
         (readFlag c 1 = false → (recs 32 n).all egressOk = true →
           exec (.egressWrite c.ref (.data bs)) s = ends {} ((recs 32 n).zipIdx.foldl (fun s r =>
             { s with pip := { s.pip with egress := tset s.pip.egress (first + r.2) r.1 } }) u))) ∧
       (k = 1 → first ≠ 0 → first + n ≤ 16 → c.len = 16 * n →
         (readFlag c 1 = true → exec (.egressWrite c.ref h) s = ends { data := items.flatMap fun i => le 16 (tget s.pip.ecn i) } u) ∧
         (readFlag c 1 = false → (recs 16 n).all ecnOk = true →
           exec (.egressWrite c.ref (.data bs)) s = ends {} ((recs 16 n).zipIdx.foldl (fun s r =>
             { s with pip := { s.pip with ecn := tset s.pip.ecn (first + r.2) r.1 } }) u))) ∧
       (k = 2 → first + n ≤ 2048 → c.len = 64 * n →
         (readFlag c 1 = true → exec (.egressWrite c.ref h) s = readOut memEacl 73 64 items (tget s.pip.eacl)) ∧
         (readFlag c 1 = false → (recs 64 n).all eaclOk = true →
           exec (.egressWrite c.ref (.data bs)) s = ends {} ((recs 64 n).zipIdx.foldl (fun s r =>
             clearUpset memEacl (first + r.2) { s with pip := { s.pip with eacl := tset s.pip.eacl (first + r.2) r.1 } }) u))))) ∧
  (∀ (typ key port : Nat) (s : State),
     (∃ t, exec (.learnHoldoffExpiry typ key) s = .next t ∧ t = { s with tbl := { s.tbl with filter := t.tbl.filter } } ∧
       ∀ l, l ∈ t.tbl.filter ↔ l ∈ s.tbl.filter ∧ ¬(l.typ = typ ∧ leNat l.key = key)) ∧
     exec .learnRateWindow s = .next { s with tbl := { s.tbl with window := 0 } } ∧
     (port < 1024 → linkUp port s = false →
       exec (.nextHopDown port) s = .next { s with tbl := { s.tbl with up := tset s.tbl.up port false } } ∧
       exec (.nextHopUp port) s = .next s) ∧
     (port < 1024 → linkUp port s = true →
       exec (.nextHopUp port) s = .next (groupsLive { s with tbl := { s.tbl with up := tset s.tbl.up port true } }) ∧
       exec (.nextHopDown port) s = .next s))

/-- Let p be the message at the head of a cluster's queue and u the state without it; a CONTRIB, RESEND or RESULT_REQ first meets
the upsets of its slot's staging, and a CONTRIB, RESULT_REQ or WAIT with the straggler flag marks its child. Each of the nine
rows, where p is of its type and fails a check, takes p and counts it for its job; where p is of another type, the row changes
nothing. Where p passes: CONTRIB, which waits where the cluster cannot take it, enters its slot, or joins the log of a job that is
moving, or is dropped where the log finds no room. RESULT for a slot that has emitted or recovers is retained, for another it has
no effect. RESEND of an emitted or retained slot sends its partial again, of a free slot does nothing, of another sends WAIT.
RESULT_REQ of a retained slot sends the child the result, of an open or spilled slot that lacks the child's contribution asks for
it, and else does nothing. WAIT of an open or spilled slot notes the child's bit, of another does nothing. PACE at the root from a
group member notes its proposal, any other does nothing. PACE_SET already known or pending has no effect, another is announced.
STRAGGLER of a device child marks or clears it, of any other member does nothing. ABORT fails the job with cause 2. The model's
own choices in these rows: log entries 41, 42, 43, 44 and 45. (11_collectives.md) -/
def Obligations.CollectiveMessages : Prop :=
  ∀ (k : Nat) (p : CPkt) (rest : List CPkt) (s : State), k < 4 → (getCluster k s).q = p :: rest →
    let typ := byteAt p.hdr 0 % 16
    let u := setCluster k { getCluster k s with q := rest } s
    let m := if typ = 1 ∨ typ = 3 ∨ typ = 4 then meetStaging p.job p.chunk u else u
    let f := flagChild p m
    let x := getJob p.job u
    let y := getJob p.job f
    let a := getSlot p.job p.chunk m
    let b := getSlot p.job p.chunk f
    let drop := fun (n : Nat) => countJob p.job n 1 u
    (∀ n, recvCheck p s = some n →
      (typ = 1 → exec (.contrib k) s = .next (drop n)) ∧ (typ = 2 → exec (.result k) s = .next (drop n)) ∧
      (typ = 3 → exec (.resend k) s = .next (drop n)) ∧ (typ = 4 → exec (.resultReq k) s = .next (drop n)) ∧
      (typ = 5 → exec (.wait k) s = .next (drop n)) ∧ (typ = 6 → exec (.pace k) s = .next (drop n)) ∧
      (typ = 7 → exec (.paceSet k) s = .next (drop n)) ∧ (typ = 8 → exec (.straggler k) s = .next (drop n)) ∧
      (typ = 9 → exec (.abort k) s = .next (drop n))) ∧
    ((typ ≠ 1 → exec (.contrib k) s = .next s) ∧ (typ ≠ 2 → exec (.result k) s = .next s) ∧
      (typ ≠ 3 → exec (.resend k) s = .next s) ∧ (typ ≠ 4 → exec (.resultReq k) s = .next s) ∧
      (typ ≠ 5 → exec (.wait k) s = .next s) ∧ (typ ≠ 6 → exec (.pace k) s = .next s) ∧
      (typ ≠ 7 → exec (.paceSet k) s = .next s) ∧ (typ ≠ 8 → exec (.straggler k) s = .next s) ∧
      (typ ≠ 9 → exec (.abort k) s = .next s)) ∧
    (recvCheck p s = none →
      (typ = 1 → contribReady k p s = false → exec (.contrib k) s = .next s) ∧
      (typ = 1 → contribReady k p s = true →
        (y.st ≠ .moving → exec (.contrib k) s = .next (contribSlot p f)) ∧
        (∀ bs, y.st = .moving → logRoom y.log p f = some bs →
          exec (.contrib k) s = .next (setJob p.job { y with log := y.log ++ [p], blocks := y.blocks ++ bs } f)) ∧
        (y.st = .moving → logRoom y.log p f = none → exec (.contrib k) s = .next (ovfDrop p.job f))) ∧
      (typ = 2 → (a.st = .emitted ∨ a.st = .recover) →
        exec (.result k) s = .next (retain p.job p.chunk p.payload (bitAt (byteAt p.hdr 1) 2) u)) ∧
      (typ = 2 → a.st ≠ .emitted → a.st ≠ .recover → exec (.result k) s = .next u) ∧
      (typ = 3 → (a.st = .emitted ∨ a.st = .retained) → exec (.resend k) s = .next (sendPartial p.job p.chunk true m)) ∧
      (typ = 3 → a.st = .free → exec (.resend k) s = .next m) ∧
      (typ = 3 → a.st ≠ .emitted → a.st ≠ .retained → a.st ≠ .free → exec (.resend k) s = .next (sendWait p.job p.chunk m)) ∧
      (typ = 4 → b.st = .retained → exec (.resultReq k) s = .next (sendChild p.job p.index (resultMsg p.job p.chunk f) f)) ∧
      (typ = 4 → (b.st = .opened ∨ b.st = .spilled) → bitAt b.bits p.index = false →
        exec (.resultReq k) s = .next (sendResends p.job p.chunk (2 ^ p.index) f)) ∧
      (typ = 4 → b.st ≠ .retained → ((b.st = .opened ∨ b.st = .spilled) → bitAt b.bits p.index = true) →
        exec (.resultReq k) s = .next f) ∧
      (typ = 5 → (b.st = .opened ∨ b.st = .spilled) → exec (.wait k) s =
        .next (setSlot p.job p.chunk { b with waits := b.waits ||| 2 ^ p.index } f)) ∧
      (typ = 5 → b.st ≠ .opened → b.st ≠ .spilled → exec (.wait k) s = .next f) ∧
      (typ = 6 → x.root = true → p.index < x.f 26 2 → exec (.pace k) s =
        .next (setJob p.job { x with props := tset x.props p.index (p.arg + 1) } u)) ∧
      (typ = 6 → (x.root = false ∨ x.f 26 2 ≤ p.index) → exec (.pace k) s = .next u) ∧
      (typ = 7 → (x.last = some { step := p.arg, epoch := p.epoch } ∨
          (x.pend.any fun q => q.step == p.arg && q.epoch == p.epoch) = true ∨ x.pend.getLast?.map StepSet.step = some p.arg) →
        exec (.paceSet k) s = .next u) ∧
      (typ = 7 → x.last ≠ some { step := p.arg, epoch := p.epoch } →
        (x.pend.any fun q => q.step == p.arg && q.epoch == p.epoch) = false →
        x.pend.getLast?.map StepSet.step ≠ some p.arg → exec (.paceSet k) s =
        .next (announce p.job { step := p.arg, epoch := p.epoch, late := epochReached (epochNow x u) p.epoch } u)) ∧
      (typ = 8 → ∀ i, ((List.range x.children).find? fun i => kidDevice (x.kid i) && kidMember (x.kid i) == p.index) = some i →
        exec (.straggler k) s = .next (markChild p.job i p.strag p.arg u)) ∧
      (typ = 8 → ((List.range x.children).find? fun i => kidDevice (x.kid i) && kidMember (x.kid i) == p.index) = none →
        exec (.straggler k) s = .next u) ∧
      (typ = 9 → exec (.abort k) s = .next (failJob p.job 2 u)))

/-- SLOT_TIMER_EXPIRY of an open or spilled slot of a running job with children missing asks every missing child again; where one
of them neither straggles nor waits, it also counts the retry, posts it and fails the job with cause 1 past its limit.
EMITTED_TIMER_EXPIRY of an emitted slot of a running job asks for its result. EPOCH_BOUNDARY of a running job moves the late count
into LATE_MAX, and of another changes nothing. SLOT_RESTORE of a spilled slot whose turn it is: where staging finds no room it
waits; where its blocks are lost or cannot be read, FC134 is reported, the slot starts again and every child is asked; otherwise
the slot opens with its log taken in. JOB_MOVE_DONE of a moving job sets it running in its destination, takes in its log and posts
the event. CLUSTER_STEP_CHANGE_DONE gives the cluster its step, and changes nothing where no change is in progress. The model's
own choices in these rows: log entries 42, 43, 44, 45 and 58. (11_collectives.md) -/
def Obligations.CollectiveTimers : Prop :=
  ∀ (j c : Nat) (s : State), j < 128 →
    let x := getJob j s
    let a := getSlot j c s
    let logged := x.log.foldl (fun m p => if p.chunk = c then m ||| 2 ^ p.index else m) 0
    let missing := (List.range x.children).filter fun i => !bitAt (a.bits ||| logged) i
    let silent := missing.filter fun i => !bitAt x.strag i && !bitAt a.waits i
    let asked := sendResends j c (missing.foldl (fun m i => m + 2 ^ i) 0) s
    let retried := fun (i : Nat) => postRetry j c i (a.retries + 1) (modJob j (fun x => { x with retries := sat 32 (x.retries + 1) }) (setSlot j c { a with waits := 0, retries := a.retries + 1 } asked))
    (x.runs = true → (a.st = .opened ∨ a.st = .spilled) → missing ≠ [] →
      (silent = [] → exec (.slotTimerExpiry j c) s = .next (setSlot j c { a with waits := 0, retries := a.retries } asked)) ∧
      (∀ i r, silent = i :: r →
        (a.retries + 1 ≤ x.maxRetries → exec (.slotTimerExpiry j c) s = .next (retried i)) ∧
        (x.maxRetries < a.retries + 1 → exec (.slotTimerExpiry j c) s = .next (failJob j 1 (retried i))))) ∧
    (x.runs = true → a.st = .emitted → exec (.emittedTimerExpiry j c) s = .next (sendResultReq j c s)) ∧
    (x.runs = true → ∃ t, exec (.epochBoundary j) s = .next t ∧ (getJob j t).lateMax = x.late) ∧
    (x.runs = false → exec (.epochBoundary j) s = .next s) ∧
    (x.runs = true → a.st = .spilled → nextRestore j c s = true → (a.bits = x.all ∨ 768 ≤ freePages x.cluster s) →
      let r := makeRoom x.cluster x.accPages (openSlots x.cluster s) s
      let w := clearUpset memStaging (2 ^ 32 * j + c) (ovfRead a.blocks r.2).2
      let y := setSlot j c { a with st := .opened, blocks := [], log := [], bits := a.log.foldl (fun m p => m ^^^ 2 ^ p.index) a.bits } w
      let z := a.log.foldl (fun t p => takeContrib j c p t) y
      (r.1 = false → exec (.slotRestore j c) s = .next r.2) ∧
      (r.1 = true → (ovfLost a.blocks r.2 = true ∨ (ovfRead a.blocks r.2).1 = false) → exec (.slotRestore j c) s =
        .next (sendResends j c x.all (setSlot j c { a with st := .opened, acc := [], bits := 0, blocks := [], log := [] }
          (report 134 14 j ([byte j, 0, 0, 0] ++ le 4 c) w)))) ∧
      (r.1 = true → ovfLost a.blocks r.2 = false → (ovfRead a.blocks r.2).1 = true → exec (.slotRestore j c) s =
        .next (completeSlot j c (setSlot j c { getSlot j c z with retries := a.retries } z)))) ∧
    (x.st = .moving →
      let v := (makeRoom x.dest (x.slots.foldl (fun n a => n + slotPages x a.2) 0) (openSlots x.dest s) s).2
      let w := post 0x4005 [byte j, byte x.cluster, byte x.dest, 1]
        (setJobSt j .running 0 (modJob j (fun y => { y with cluster := x.dest, log := [], blocks := [] }) v))
      let t := x.log.foldl (fun t p => if windowOf (getJob j t) p.chunk = 0 then contribSlot p t else t) w
      exec (.jobMoveDone j) s = .next (lookCluster x.dest (followGroup x.dest t).2)) ∧
    (∀ k t, k < 4 → (getCluster k s).changing = some t →
      let v := railFollow s (setCluster k { getCluster k s with step := t, stepAt := some s.aon, changing := none, due := false } s)
      ((getCluster k s).due = false → exec (.clusterStepChangeDone k) s = .next (lookCluster k v)) ∧
      ((getCluster k s).due = true → exec (.clusterStepChangeDone k) s = .next (lookCluster k (followGroup k v).2))) ∧
    (∀ k, k < 4 → (getCluster k s).changing = none → exec (.clusterStepChangeDone k) s = .next s)

/-- A ready COL_JOB_CREATE with a valid record for a free job completes with OK where the named cluster can take it, or where it
names none and one can: it takes a free value for the child index, zeroes the counters, sets the job running with the record's
step as the agreed one and answers its cluster; with the status of the cluster that cannot take it otherwise. A ready
COL_JOB_DESTROY of a job completes with OK and frees it and its slots, with ABORT too; of a free job with JOB_BUSY. A ready
COL_JOB_READ completes with 128 bytes a job as its data. A ready COL_JOB_MOVE of a job that has not failed to another cluster that
can take it completes with OK and starts the move; otherwise with that cluster's status, with JOB_BUSY for a free job and
JOB_FAILED for a failed one. A ready COL_PACE_PROPOSE completes with OK and notes the host's proposal or clears it, with JOB_BUSY
for a free job and JOB_FAILED for a failed one. The model's own choices in these rows: log entries 38, 43, 44 and 79.
(11_collectives.md) -/
def Obligations.CollectiveCommands : Prop :=
  ∀ (c : Cmd) (bs : List Byte) (s : State),
    let u := started c s
    let j := c.op 0 1
    let k := c.op 1 1
    let x := getJob j s
    let d := fit c.len bs
    let n : Job := { record := d.take 128, kids := chunks 32 256 (d.drop 128) }
    let step := n.f 15 1
    let ends := fun (r : CmdRes) (t : State) => (.next (conclude c r (cmdDoms c s) t) : Res)
    (ready 0x40 c s = true → j ≤ 127 → 160 ≤ c.len → c.len ≤ 8320 → c.len % 32 = 0 → x.st = .free →
      c.len = 128 + 32 * n.children → jobOk n = true → n.kids.all (kidOk n) = true →
      (∀ e, ((k ≤ 3 ∧ namedCluster k step s = none ∧ e = k) ∨ (k = 255 ∧ placeJob step s = some e)) →
        let v := (takeFree u).2
        exec (.colJobCreate c.ref (.data bs)) s = ends { payload := [byte e] } (lookCeil j (lookCluster e (followGroup e
          (modJob j (fun x => { x with ceil := step }) (setJobSt j .running 0
            (setJob j { n with cluster := e, agreed := step, childIx := (takeFree u).1 % 65536 } { v with
              col := { v.col with ctrs := (List.range 16).foldl (fun t i => tset t (j * 16 + i) 0) v.col.ctrs } })))).2))) ∧
      (∀ st, k ≤ 3 → namedCluster k step s = some st → exec (.colJobCreate c.ref (.data bs)) s = ends { status := st } u) ∧
      (k = 255 → placeJob step s = none → exec (.colJobCreate c.ref (.data bs)) s = ends { status := NO_CLUSTER } u)) ∧
    (ready 0x41 c s = true → j ≤ 127 → k ≤ 1 → c.len = 0 →
      (x.st ≠ .free → ∃ t, exec (.colJobDestroy c.ref) s = ends {} t ∧
        (getJob j t).st = .free ∧ (getJob j t).slots = [] ∧ (getJob j t).record = []) ∧
      (x.st = .free → exec (.colJobDestroy c.ref) s = ends { status := JOB_BUSY } u)) ∧
    (ready 0x42 c s = true → j ≤ 127 → 1 ≤ k → j + k ≤ 128 → c.len = 128 * k → exec (.colJobRead c.ref) s =
      ends { data := (List.range k).flatMap fun i => jobEntry (j + i) u ++ jobCounters (j + i) u } u) ∧
    (ready 0x43 c s = true → j ≤ 127 → k ≤ 3 → c.len = 0 →
      (x.st ≠ .free → x.st ≠ .failed → k ≠ x.cluster →
        (namedCluster k x.agreed s = none → exec (.colJobMove c.ref) s = ends {} (startMove j k u)) ∧
        (∀ st, namedCluster k x.agreed s = some st → exec (.colJobMove c.ref) s = ends { status := st } u)) ∧
      (x.st = .free → exec (.colJobMove c.ref) s = ends { status := JOB_BUSY } u) ∧
      (x.st = .failed → exec (.colJobMove c.ref) s = ends { status := JOB_FAILED } u)) ∧
    (ready 0x44 c s = true → j ≤ 127 → (k ≤ 7 ∨ k = 255) → c.len = 0 →
      (x.st ≠ .free → x.st ≠ .failed →
        exec (.colPacePropose c.ref) s = ends {} (lookCeil j (setJob j { x with host := if k = 255 then none else some k } u))) ∧
      (x.st = .free → exec (.colPacePropose c.ref) s = ends { status := JOB_BUSY } u) ∧
      (x.st = .failed → exec (.colPacePropose c.ref) s = ends { status := JOB_FAILED } u))

/-- POOL_GRANT of a pool runs its cycle and answers the request that the cycle grants, if any. BUFFER_TEST_DONE of a buffer under
test overwrites it with a free value and then frees it, or withdraws it with FC148, the count and the event; of another it changes
nothing. With the pools on: a ready POOL_ALLOC of 1 byte to 4 MiB by a host owner that some pool can serve joins that pool's queue
and waits, and completes with POOL_EMPTY where none can; a ready POOL_FREE or POOL_TRANSFER of a valid handle by a host owner
completes with the status that freeing or handing on answers, which is OK for a buffer that the owner holds; a ready POOL_COPY by
the owner, in range and with its memory half serving, completes with OK for no bytes, and else writes the host's bytes into the
buffer or reads them out, with the status of that access. A ready POOL_STATE completes with 768 bytes; a ready POOL_OWNER_FREE_ALL
of a host owner completes with OK, frees every buffer of the owner and answers their number. In a mode in which the engine serves
commands, POOL_CTRL_ENABLE with ENABLE set enables pools that are off and well set up, and else only sets the error. The model's
own choices in these rows: log entries 12, 51 and 79. (12_buffer_pools.md) -/
def Obligations.PoolRows : Prop :=
  ∀ (pool h : Nat) (v : Word) (c : Cmd) (bs : List Byte) (ans : HostAns) (s : State),
    let u := started c s
    let hd := c.op 0 4
    let owner := c.op 4 2
    let w := (bufWrite h 0 (List.replicate (poolSize (handlePool h)) (byte (takeFree s).1)) (takeFree s).2).2
    let ends := fun (r : CmdRes) (t : State) => (.next (conclude c r (cmdDoms c s) t) : Res)
    (pool < 8 → (poolCycle pool s).1 = none → exec (.poolGrant pool) s = .next (poolCycle pool s).2) ∧
    (pool < 8 → ∀ a, (poolCycle pool s).1 = some a → exec (.poolGrant pool) s = .next (poolAnswer a (poolCycle pool s).2)) ∧
    ((getPBuf h s).testing = true →
      exec (.bufferTestDone h true) s = .next (setPBuf h {} w) ∧
      exec (.bufferTestDone h false) s = .next (post 0x5002 (le 4 h) (report 148 14 h (le 4 h)
        (modPool (handlePool h) (fun p => { p with withdrawn := sat 32 (p.withdrawn + 1) }) (setPBuf h { withdrawn := true } w))))) ∧
    (∀ ok, (getPBuf h s).testing = false → exec (.bufferTestDone h ok) s = .next s) ∧
    (ready 0x50 c s = true → poolOn s = true → 1 ≤ hd → hd ≤ 4194304 → c.op 4 1 ≤ 1 → c.op 5 1 ≤ 1 → c.len = 0 →
      hostOwner (c.op 6 2) = true →
      (∀ k, poolFor hd (c.op 4 1) s = some k → exec (.poolAlloc c.ref) s =
        .next (poolRequest k 0 { port := 0, spill := bitAt (c.op 5 1) 0, owner := c.op 6 2, who := .cmd c.ref } u)) ∧
      (poolFor hd (c.op 4 1) s = none → exec (.poolAlloc c.ref) s = ends { status := 0x80 } u)) ∧
    (ready 0x51 c s = true → poolOn s = true → handleOk hd s = true → c.len = 0 → hostOwner owner = true →
      exec (.poolFree c.ref) s = ends { status := (poolFreeBy hd owner u).1 } (poolFreeBy hd owner u).2) ∧
    (ready 0x52 c s = true → poolOn s = true → handleOk hd s = true → c.len = 0 → hostOwner owner = true → ownerOk (c.op 6 2) = true →
      exec (.poolTransfer c.ref) s = ends { status := (poolGive hd owner (c.op 6 2) u).1 } (poolGive hd owner (c.op 6 2) u).2) ∧
    (poolRight hd owner s = 0 → (poolFreeBy hd owner s).1 = 0 ∧ (poolGive hd owner (c.op 6 2) s).1 = 0) ∧
    (ready 0x53 c s = true → c.len = 768 → exec (.poolState c.ref) s = ends { data := linenPools u } u) ∧
    (ready 0x54 c s = true → c.len = 0 → hostOwner (c.op 0 2) = true → exec (.poolOwnerFreeAll c.ref) s =
      ends { payload := le 4 (ownedBy (c.op 0 2) s).length } ((ownedBy (c.op 0 2) s).foldl (fun s h => poolRelease h s) u)) ∧
    (ready 0x55 c s = true → poolOn s = true → handleOk hd s = true → c.op 10 1 ≤ 1 → c.op 4 4 + c.len ≤ poolSize (handlePool hd) →
      hostOwner (c.op 8 2) = true → poolRight hd (c.op 8 2) s = 0 → (handleM hd = true → halfServes (halfOf (handleAddr hd s) s) s = true) →
      (c.len = 0 → exec (.poolCopy c.ref ans) s = .next (finish c {} 0 0 u)) ∧
      (c.len ≠ 0 → domsDown (poolCopyDoms c s) s = false →
        (c.op 10 1 = 0 → exec (.poolCopy c.ref (.data bs)) s =
          .next (conclude c { status := (bufWrite hd (c.op 4 4) (fit c.len bs) u).1 } (poolCopyDoms c s) (bufWrite hd (c.op 4 4) (fit c.len bs) u).2)) ∧
        (c.op 10 1 = 1 → (bufRead hd (c.op 4 4) c.len u).1 = 0 → exec (.poolCopy c.ref ans) s =
          .next (conclude c { data := (bufRead hd (c.op 4 4) c.len u).2.1 } (poolCopyDoms c s) (bufRead hd (c.op 4 4) c.len u).2.2)) ∧
        (c.op 10 1 = 1 → (bufRead hd (c.op 4 4) c.len u).1 ≠ 0 → exec (.poolCopy c.ref ans) s =
          .next (conclude c { status := (bufRead hd (c.op 4 4) c.len u).1 } (poolCopyDoms c s) (bufRead hd (c.op 4 4) c.len u).2.2)))) ∧
    (s.sys.mode.engine = true → bitAt v.toNat 0 = true →
      (poolOn s = true → exec (.poolCtrlEnable v) s = .next (poolErr false s)) ∧
      (poolOn s = false → poolCfgBad s = true → exec (.poolCtrlEnable v) s = .next (poolErr true s)) ∧
      (poolOn s = false → poolCfgBad s = false → exec (.poolCtrlEnable v) s =
        .next ((List.range 8).foldl (fun s k => poolLow k s) (poolErr false (wrRw Reg.poolCtrl 0 v.toNat s)))))

/-- SEQ_WORD of an engine in service with a ready context whose turn it is issues its word; of a fenced engine, or with none
ready, it changes nothing. WAIT_END of a context that waits, outside HOLD and LOCKDOWN, takes the data of its load; where it waits
for no condition, for a tick or a period, or its condition holds, the context is ready at the word after, and else it waits on.
WAIT_TIMEOUT of a context that waits under a limit, outside HOLD and LOCKDOWN, traps it with cause 2. ROUTINE_TRIGGER triggers its
routine. BLOCK_OP_DONE of a context that runs ends its oldest operation, of a free one it changes nothing. STORE_REPAIR of a block
with an uncorrectable word reports FC162 where its copy fails the block's CRC, and else writes the copy's words; of another block
it changes nothing. STOP_TIMEOUT ends a routine asked to stop that still runs with status 0x82. NO_ISSUE_TIMEOUT of an engine in
service with a ready context reports FC166, of another it changes nothing. The model's own choices in these rows: log entries 52,
53 and 54. (13_sequencer.md) -/
def Obligations.SergeRuns : Prop :=
  ∀ (e k r block : Nat) (res : BlockRes) (s : State), e < 8 → k < 4 → r < 64 → block < 256 →
    let c := getCtx e k s
    let d := (c.load.map fun l => { (c.setReg l.1 l.2) with load := none }).getD c
    (fencedU 11 e s = false → ∀ i, nextReady e s = some i → exec (.seqWord e) s = .next (seqIssue e i s)) ∧
    (fencedU 11 e s = false → nextReady e s = none → exec (.seqWord e) s = .next s) ∧
    (fencedU 11 e s = true → exec (.seqWord e) s = .next s) ∧
    (c.st = .waiting → seqHeld s = false →
      (c.wait = none → exec (.waitEnd e k) s = .next (setCtx e k { d with st := .ready, pc := d.resume, wait := none } s)) ∧
      (∀ w, c.wait = some w → w.cond = 9 → exec (.waitEnd e k) s =
        .next (setCtx e k { d with st := .ready, pc := d.resume, wait := none, periodAt := s.aon } s)) ∧
      (∀ w, c.wait = some w → w.cond ≠ 9 → (w.cond = 8 ∨ seqCond d w.cond (some w.since) s ≠ w.neg) → exec (.waitEnd e k) s =
        .next (setCtx e k { d with st := .ready, pc := d.resume, wait := none } s)) ∧
      (∀ w, c.wait = some w → w.cond ≠ 8 → w.cond ≠ 9 → seqCond d w.cond (some w.since) s = w.neg →
        exec (.waitEnd e k) s = .next (setCtx e k d s))) ∧
    (c.st = .waiting → seqHeld s = false → rdFld Reg.seqCtrl 0 16 16 s ≠ 0 → (∀ w, c.wait = some w → w.cond ≠ 9 ∧ w.cond ≠ 10 ∧ w.cond ≠ 12) →
      exec (.waitTimeout e k) s = .next (seqTrap e k 2 0 s)) ∧
    exec (.routineTrigger r) s = .next (triggerRoutine r s) ∧
    (c.st ≠ .free → exec (.blockOpDone e k res) s = .next (blockDone e k res s)) ∧
    (c.st = .free → exec (.blockOpDone e k res) s = .next s) ∧
    (let hurt := ((List.range 64).map (64 * block + ·)).any fun a => upsetOf memStore a s == 2
     (hurt = false → exec (.storeRepair block) s = .next s) ∧
     (hurt = true → blockCrc (secStore s.seq.section5) block ≠ tget s.seq.crc block →
       exec (.storeRepair block) s = .next (report 162 14 block (le 2 block) s)) ∧
     (hurt = true → blockCrc (secStore s.seq.section5) block = tget s.seq.crc block → ∃ t, exec (.storeRepair block) s = .next t ∧
       (∀ i, i < 64 → tget t.seq.store (64 * block + i) = tget (secStore s.seq.section5) (64 * block + i)))) ∧
    (stopReq r s = true → ∀ i j, ctxOf r s = some (i, j) → exec (.stopTimeout r) s = .next (endRun i j 2 0x82 s)) ∧
    ((nextReady e s).isSome = true → fencedU 11 e s = false →
      exec (.noIssueTimeout e) s = .next (report 166 11 e [byte e] s)) ∧
    (nextReady e s = none → exec (.noIssueTimeout e) s = .next s)

/-- A ready SEQ_LOAD of a section of good form, signature, version and checks completes with OK and loads it; one that is not of
the form completes with BAD_PARAM and FC240. A SEQ_LOAD whose turn it is in a mode other than STAGED and DIAG completes with MODE.
A ready SEQ_ROUTINE_SET completes with OK and writes the entry's fields. A ready SEQ_RUN of a valid host-run routine that does not
run, with a free context, completes with OK and begins it. A ready SEQ_STOP of a routine that does not run completes with OK, and
of one that runs waits for its end. A ready SEQ_FRAME_READ of a frame without an uncorrectable error completes with its 192 bytes
as corrected, with one with TARGET_ECC and FC163. A ready SEQ_RESUME of a trapped context whose frame can be read completes with
OK and restores it, resumes past the word, or ends the run; of a context that is not trapped with status 0x80. A ready
SEQ_STORE_READ of words without an uncorrectable error completes with the words as its data, the correctable ones mended with
FC161, with one with TARGET_ECC and FC160. The model's own choices in these rows: log entries 52, 54, 55, 64 and 71.
(13_sequencer.md) -/
def Obligations.SergeCommands : Prop :=
  ∀ (c : Cmd) (bs : List Byte) (ans : HostAns) (s : State),
    let u := started c s
    let a := c.op 0 1
    let k := c.op 1 1
    let d := fit c.len bs
    let ends := fun (r : CmdRes) (t : State) => (.next (conclude c r (cmdDoms c s) t) : Res)
    (ready 0xA0 c s = true → c.len ≠ 0 →
      (secForm d = true → secSigned d u = true → rollbackOk (byteAt d 1029) u = true → secChecked d = true →
        exec (.seqLoad c.ref (.data bs)) s = ends {} (loadSection d u)) ∧
      (secForm d = false → exec (.seqLoad c.ref (.data bs)) s = ends { status := 2 } (report 240 0 0 [] u))) ∧
    (findCmd c.ref s = some c → s.sys.mode.engine = true → c.opcode = 0xA0 → c.stage = .fetched → startable c s = true →
      s.sys.mode ≠ .staged → s.sys.mode ≠ .diag → exec (.seqLoad c.ref ans) s = .next (finish c { status := 5 } 0 0 s)) ∧
    (ready 0xA1 c s = true → a ≤ 63 → c.op 2 1 ≤ 4 → c.len = 0 →
      let n := setFld (setFld (setFld (rtEntry a s) 32 8 k) 40 8 (c.op 2 1)) 64 32 (c.op 4 4)
      exec (.seqRoutineSet c.ref) s = ends {} { u with seq := { u.seq with table := tset u.seq.table a n } }) ∧
    (ready 0xA2 c s = true → 1 ≤ a → a ≤ 63 → rtValid (rtEntry a s) = true → rtTrigger (rtEntry a s) = 3 → c.len = 0 →
      ctxOf a s = none → ∀ e i, freeCtx (rtEngines (rtEntry a s)) s = some (e, i) →
      exec (.seqRun c.ref) s = ends {} (beginRun e i a (rtPc (rtEntry a s)) (c.op 8 8) true u)) ∧
    (ready 0xA3 c s = true → a ≤ 63 → c.len = 0 →
      (ctxOf a s = none → exec (.seqStop c.ref) s = ends {} u) ∧
      ((ctxOf a s).isSome = true → exec (.seqStop c.ref) s =
        .next { u with seq := { u.seq with stops := u.seq.stops ++ [(a, c.ref)] } })) ∧
    (ready 0xA4 c s = true → a ≤ 7 → k ≤ 3 → c.len = 192 →
      let v := scratchFix a (frameAt k) 192 u
      (scratchHard a (frameAt k) 192 s = false → exec (.seqFrameRead c.ref) s = ends { data := scratchRead a (frameAt k) 192 v } v) ∧
      (scratchHard a (frameAt k) 192 s = true →
        exec (.seqFrameRead c.ref) s = ends { status := TARGET_ECC } (report 163 11 a [byte a] u))) ∧
    (ready 0xA5 c s = true → a ≤ 7 → k ≤ 3 → c.len = 0 → (getCtx a k s).st = .trapped →
      (c.op 2 1 = 0 → scratchHard a (frameAt k) 192 s = false → exec (.seqResume c.ref) s = ends {} (restoreFrame a k u)) ∧
      (c.op 2 1 = 1 → scratchHard a (frameAt k) 192 s = false → exec (.seqResume c.ref) s = ends {} (resumePast a k u)) ∧
      (c.op 2 1 = 2 → exec (.seqResume c.ref) s = ends {} (endRun a k (b2n (stopReq (getCtx a k s).routine s)) 0 u))) ∧
    (ready 0xA5 c s = true → a ≤ 7 → k ≤ 3 → c.len = 0 → c.op 2 1 ≤ 2 → (getCtx a k s).st ≠ .trapped →
      exec (.seqResume c.ref) s = ends { status := 0x80 } u) ∧
    (let first := c.op 0 2
     let n := c.op 2 2
     let soft := (List.range n).filter fun i => upsetOf memStore (first + i) s == 1
     let v := soft.foldl (fun t i => report 161 14 (first + i) (le 2 (first + i)) (clearUpset memStore (first + i) t)) u
     ready 0xA6 c s = true → 1 ≤ n → first + n ≤ 16384 → c.len = 16 * n →
      (((List.range n).any fun i => upsetOf memStore (first + i) s == 2) = false → exec (.seqStoreRead c.ref) s =
        ends { data := (List.range n).flatMap fun i => le 16 (tget v.seq.store (first + i)) } v) ∧
      (((List.range n).any fun i => upsetOf memStore (first + i) s == 2) = true → exec (.seqStoreRead c.ref) s =
        ends { status := TARGET_ECC } (report 160 14 first (le 2 first) u)))

/-- CHANNEL_TRAINING_DONE of a training channel outside WIPE makes it ready with its half's temperature, the time and the rate,
and reports FC176 where the training failed; in WIPE a channel that does not answer is absent, and the memory is settled; the end
of a retrain ends it, or on failure keeps the settings, reports FC177 and leaves a retry due; of a channel that does neither it
changes nothing. PERIODIC_RETRAIN of a channel that may retrain and whose retrain is due starts one, RETRAIN_RETRY one whose retry
is due; else they change nothing. REFRESH of a ready channel postpones a busy bank up to eight times, then issues one and leaves
the postponed ones, and of an idle bank issues them all. SELF_REFRESH_ENTRY takes an idle ready channel to self-refresh where
MEM_CTRL asks for it, and else changes nothing. SCRUB_READ, with scrubbing on, of a row without an upset while no channel is in
self-refresh changes nothing on a clean link; of any row it handles the 28 bursts, then counts the errors that the link corrected,
or reports FC178 for one it lost. HALF_READY of a half that powers up and no longer trains starts it with zeroed memory, and else
changes nothing. The model's own choices in these rows: log entry 57. (14_memory_interface.md) -/
def Obligations.MemoryInterface : Prop :=
  ∀ (ch bank row half n : Nat) (t : TrainRes) (s : State), ch < 32 →
    let c := getMChan ch s
    let up : MChan := { c with st := .ready, trained := t.ok, temp := chanTemp ch s / 16, trainedAt := s.aon, rate := t.rate }
    let wiped : MChan := { up with density := some t.density, width := t.width }
    let scrubbed := (List.range 28).foldl (fun s i => burlapScan (rowAddr ch row i s) 64 s) s
    let scrubs := bitAt (rd Reg.memCtrl 0 s) 1 && chanUp ch s && decide (row < memRows s)
    let x := getDom (27 + half) s
    let trains := (List.range 16).any fun i => decide ((getMChan (16 * half + i) s).st = .training)
    let kept := s.upset.filter fun e => !(e.1 % 64 == memBurst && halfOf (64 * (e.1 / 64)) s == half)
    let zeroed : MemState := { s.mem with serving := setFld s.mem.serving half 1 1, burlap := mzero s.mem.burlap (half * (usable s / 2)) (usable s / 2), rate := commonRate { s with upset := kept } }
    let risen := setDom (27 + half) { x with st := .on, up := none } { s with upset := kept, mem := zeroed }
    (c.st = .training → s.sys.mode ≠ .wipe →
      (t.ok = true → exec (.channelTrainingDone ch t) s = .next (setMChan ch up s)) ∧
      (t.ok = false → exec (.channelTrainingDone ch t) s = .next (report 176 9 ch [byte ch] (setMChan ch up s)))) ∧
    (c.st = .training → s.sys.mode = .wipe →
      (t.answered = false → exec (.channelTrainingDone ch t) s = .next (settleMem (setMChan ch { c with st := .absent, density := none } s))) ∧
      (t.answered = true → t.ok = true → exec (.channelTrainingDone ch t) s = .next (settleMem (setMChan ch wiped s))) ∧
      (t.answered = true → t.ok = false → exec (.channelTrainingDone ch t) s = .next (settleMem (report 176 9 ch [byte ch] (setMChan ch wiped s))))) ∧
    (c.st ≠ .training → c.retraining = true →
      (t.ok = true → exec (.channelTrainingDone ch t) s =
        .next (setMChan ch { c with retraining := false, retry := false, temp := chanTemp ch s / 16, trainedAt := s.aon } s)) ∧
      (t.ok = false → exec (.channelTrainingDone ch t) s =
        .next (report 177 9 ch [byte ch] (setMChan ch { c with retraining := false, retry := true } s)))) ∧
    (c.st ≠ .training → c.retraining = false → exec (.channelTrainingDone ch t) s = .next s) ∧
    (mayRetrain ch s = true → retrainDue ch s = true → exec (.periodicRetrain ch) s =
      .next (setMChan ch { c with retraining := true, retry := false, st := .ready } s)) ∧
    ((mayRetrain ch s = false ∨ retrainDue ch s = false) → exec (.periodicRetrain ch) s = .next s) ∧
    (mayRetrain ch s = true → c.retry = true → exec (.retrainRetry ch) s =
      .next (setMChan ch { c with retraining := true, retry := false, st := .ready } s)) ∧
    ((mayRetrain ch s = false ∨ c.retry = false) → exec (.retrainRetry ch) s = .next s) ∧
    (chanUp ch s = true → c.st = .ready →
      (tget c.late bank < 8 → exec (.refresh ch bank true) s =
        .next (setMChan ch { c with late := tset c.late bank (tget c.late bank + 1) } s)) ∧
      (8 ≤ tget c.late bank → exec (.refresh ch bank true) s =
        .next (setMChan ch { c with refreshes := tset c.refreshes bank (tget c.refreshes bank + 1) } s)) ∧
      exec (.refresh ch bank false) s = .next (setMChan ch { c with
        late := tset c.late bank 0, refreshes := tset c.refreshes bank (tget c.refreshes bank + (tget c.late bank + 1)) } s)) ∧
    ((chanUp ch s = false ∨ c.st ≠ .ready) → ∀ b, exec (.refresh ch bank b) s = .next s) ∧
    (autoSr s = true → c.st = .ready → c.retraining = false → chanUp ch s = true →
      exec (.selfRefreshEntry ch) s = .next (setMChan ch { c with st := .selfRefresh } s)) ∧
    ((autoSr s = false ∨ c.st ≠ .ready ∨ c.retraining = true ∨ chanUp ch s = false) →
      exec (.selfRefreshEntry ch) s = .next s) ∧
    (scrubs = true →
      ((∀ k, k < 32 → (getMChan k s).st ≠ .selfRefresh) →
        ((List.range 28).all fun i => (burstsOf (rowAddr ch row i s) 64).all fun b => upsetOf memBurst b s == 0) = true →
        exec (.scrubRead ch row .clean) s = .next s) ∧
      exec (.scrubRead ch row .clean) s = .next scrubbed ∧
      exec (.scrubRead ch row (.corrected n)) s = .next (linkSeen ch n scrubbed) ∧
      exec (.scrubRead ch row .lost) s = .next (report 178 9 ch (le 8 (rowAddr ch row 0 s)) scrubbed)) ∧
    (scrubs = false → ∀ l, exec (.scrubRead ch row l) s = .next s) ∧
    (half < 2 → x.st = .poweringUp → trains = false →
      (x.up = none → exec (.halfReady half) s = .next risen) ∧
      (∀ r, x.up = some r → exec (.halfReady half) s = .next (finishRef r {} risen))) ∧
    (half < 2 → (x.st ≠ .poweringUp ∨ trains = true) → exec (.halfReady half) s = .next s)

/-- While the engine serves commands, TB_ENABLE, TB_DISABLE and SLEW_DISABLE write TIM_TB_CFG by its rules; TB_ENABLE of a stopped
base makes it RUNNING from the time and TRIM it holds, and TB_DISABLE of a running one STOPPED at its time. SLEW_COMPLETE of a
running base with a slew pending applies the rest of its slew and posts its end, and of one without changes nothing. CLK10_LOSS
with no running base on CLK10_IN changes nothing, and with one takes it to HOLDOVER with the ratio. HOLDOVER_EXIT takes a base in
holdover to RUNNING and changes no other. SECOND_BOUNDARY of a running base pulses the outputs that follow it, and sends the time
of day after the first if asked, and of another nothing. A selected PPS_IN_EDGE is stamped and posted, one not selected ignored. A
selected TS_EVENT_EDGE is stamped and posted, within 1 µs of the selected edge before it only counted, and one not selected
ignored. PPS_IN_MISSING reports FC194 and posts where the pin is watched, and else changes nothing. TOD_MESSAGE with a good CRC
posts, another reports FC197. The model's own choices in these rows: log entries 25 and 26. (15_time.md) -/
def Obligations.TimeRows : Prop :=
  ∀ (n pin : Nat) (v : Word) (fall : Bool) (ratio : Nat) (msg : List Byte) (s : State), n < 4 → pin < 4 →
    let t := getTb n s
    let asks := fun k => bitAt (rd Reg.timPpsOut k s) 0 && decide (rdFld Reg.timPpsOut k 1 2 s = n)
    let first := if asks 0 then pulse 0 s else s
    let told := emit (.tod (rdFld Reg.timTodCfg 0 1 15 s) (todBytes n s)) first
    let tod := bitAt (rd Reg.timTodCfg 0 s) 0
    let k := fld (pinCfg 4 s) 2 2
    let pay := [byte k, byte (getTb k s).state.num, 3]
    let near : State := { s with tim := { s.tim with edgeAt := tset s.tim.edgeAt pin (some s.aon) } }
    (s.sys.mode.engine = true → bitAt v.toNat 0 = true → exec (.tbEnable n v) s = .next (writeTb n v.toNat s)) ∧
    (s.sys.mode.engine = true → bitAt v.toNat 0 = true → t.state = .stopped → ∃ u, exec (.tbEnable n v) s = .next u ∧
      (getTb n u).state = .running ∧ (getTb n u).total = t.total ∧ (getTb n u).trim = t.trim) ∧
    (s.sys.mode.engine = true → bitAt v.toNat 0 = false → exec (.tbDisable n v) s = .next (writeTb n v.toNat s)) ∧
    (s.sys.mode.engine = true → bitAt v.toNat 0 = false → t.state = .running → ∃ u, exec (.tbDisable n v) s = .next u ∧
      (getTb n u).state = .stopped ∧ (getTb n u).total = t.total) ∧
    (s.sys.mode.engine = true → bitAt v.toNat 2 = false → exec (.slewDisable n v) s = .next (writeTb n v.toNat s)) ∧
    (t.pending ≠ 0 → t.state = .running → exec (.slewComplete n) s =
      .next (slewDone n 0 (setTb n { t.setFine ((t.fine : Int) + t.pending) with pending := 0, slewEnd := false } s))) ∧
    (t.pending = 0 → t.slewEnd = false → exec (.slewComplete n) s = .next s) ∧
    ((∀ k, k < 4 → (getTb k s).state ≠ .running ∨ bitAt (rd Reg.timTbCfg k s) 1 = false) → exec (.clk10Loss ratio) s = .next s) ∧
    (t.state = .running → bitAt (rd Reg.timTbCfg n s) 1 = true → ∃ u, exec (.clk10Loss ratio) s = .next u ∧
      (getTb n u).state = .holdover ∧ (getTb n u).ratio = ratio) ∧
    (t.state = .holdover → ∃ u, exec (.holdoverExit n) s = .next u ∧
      ((getTb n u).state = .running)) ∧
    (t.state ≠ .holdover → exec (.holdoverExit n) s = .next s) ∧
    (tbRuns n s = false → exec (.secondBoundary n) s = .next s) ∧
    (tbRuns n s = true → asks 1 = false → (asks 0 = false ∨ tod = false) → exec (.secondBoundary n) s = .next first) ∧
    (tbRuns n s = true → asks 1 = false → asks 0 = true → tod = true → exec (.secondBoundary n) s = .next told) ∧
    (tbRuns n s = true → asks 1 = true → (asks 0 = false ∨ tod = false) → exec (.secondBoundary n) s = .next (pulse 1 first)) ∧
    (edgeSelected 4 fall s = true → exec (.ppsInEdge fall) s = .next (postEdge 4 k fall s)) ∧
    (edgeSelected 4 fall s = false → exec (.ppsInEdge fall) s = .next s) ∧
    (bitAt (rd Reg.timEventCfg 0 s) 20 = true → exec .ppsInMissing s = .next (post 0x7002 pay (report 194 12 k pay s))) ∧
    (bitAt (rd Reg.timEventCfg 0 s) 20 = false → exec .ppsInMissing s = .next s) ∧
    (edgeSelected pin fall s = true →
      (edgeNear pin s = false → exec (.tsEventEdge pin fall) s = .next (postEdge pin (fld (pinCfg pin s) 2 2) fall near)) ∧
      (edgeNear pin s = true → exec (.tsEventEdge pin fall) s =
        .next { near with tim := { near.tim with missed := tset s.tim.missed pin (min (tget s.tim.missed pin + 1) (2 ^ 32 - 1)) } })) ∧
    (edgeSelected pin fall s = false → exec (.tsEventEdge pin fall) s = .next s) ∧
    (msg.length = 16 → beAt msg 14 2 = crc16 (msg.take 14) → exec (.todMessage msg) s = .next (post 0x7006 msg s)) ∧
    ((msg.length ≠ 16 ∨ beAt msg 14 2 ≠ crc16 (msg.take 14)) → exec (.todMessage msg) s = .next (report 197 0 0 [] s))

/-- A ready TIME_READ of 64 bytes moves 16 bytes a base with the states and the wrap phases in its payload. Of a base in service:
TIME_SET without slewing to a time in range steps it and answers the step; while slewing is enabled it answers 0x80; ns of 10^9 or
more is BAD_PARAM; TIME_ADJUST without slewing steps it where the result fits, and else answers 0x81 with the base unchanged; with
slewing it adds to what is pending where the sum is not 0 and within 10 s, and beyond 10 s answers 0x81; TIME_TRIM sets the trim
and keeps the state. PAIR_SWITCH to a running member of a pair switches to it where the other was active, and else changes
nothing. The model's own choices in these rows: log entry 26. (15_time.md) -/
def Obligations.TimeCommands : Prop :=
  ∀ (c : Cmd) (s : State),
    let u := started c s
    let n := c.op 0 1
    let t := getTb n s
    let ok := n ≤ 3 ∧ c.len = 0 ∧ t.state ≠ .fenced
    let d := toS 64 (c.op 8 8)
    let states := (List.range 4).map fun k => byte (getTb k u).state.num
    let phases := (List.range 4).flatMap fun k => [bitAt (stampOf k u).2 0, bitAt (stampOf k u).2 1]
    (ready 0x70 c s = true → c.len = 64 → exec (.timeRead c.ref) s =
      .next (conclude c { payload := states ++ [byte (ofBits phases)], data := (List.range 4).flatMap fun k => timeReadBytes k u } (cmdDoms c s) u)) ∧
    (ready 0x71 c s = true → ok → c.op 16 4 < 1000000000 →
      (slewEn n s = true → exec (.timeSet c.ref) s = .next (conclude c { status := 0x80 } (cmdDoms c s) u)) ∧
      (slewEn n s = false → c.op 8 8 < 2 ^ 48 →
        let e := (c.op 8 8 * 1000000000 + c.op 16 4 : Int) - t.total
        exec (.timeSet c.ref) s = .next (finish c { payload := sle8 e } 0 0 (stepAll n e u)))) ∧
    (ready 0x71 c s = true → ok → 1000000000 ≤ c.op 16 4 → exec (.timeSet c.ref) s = .next (conclude c { status := 2 } (cmdDoms c s) u)) ∧
    (ready 0x72 c s = true → ok → slewEn n s = false →
      (stepFits n d s = true → exec (.timeAdjust c.ref) s = .next (finish c {} 0 0 (stepAll n d u))) ∧
      (stepFits n d s = false → exec (.timeAdjust c.ref) s = .next (conclude c { status := 0x81 } (cmdDoms c s) u))) ∧
    (ready 0x72 c s = true → ok → slewEn n s = true →
      let p := t.pending + d * (2 ^ 48 : Int)
      (10000000000 * 2 ^ 48 < p.natAbs → exec (.timeAdjust c.ref) s = .next (conclude c { status := 0x81 } (cmdDoms c s) u)) ∧
      (p.natAbs ≤ 10000000000 * 2 ^ 48 → p ≠ 0 → exec (.timeAdjust c.ref) s =
        .next (finish c {} 0 0 (setTb n { t with pending := p, slewEnd := false } u)))) ∧
    (ready 0x73 c s = true → ok → ∃ v, exec (.timeTrim c.ref) s = .next (finish c {} 0 0 v) ∧
      ((getTb n v).trim = toS 32 (c.op 4 4) ∧ (getTb n v).state = t.state)) ∧
    (ready 0x74 c s = true → n ≤ 1 → c.op 1 1 ≤ 1 → c.len = 0 → paired n s = true → (getTb (2 * n + c.op 1 1) s).state = .running →
      (pairOdd n s = decide (c.op 1 1 = 1) → exec (.pairSwitch c.ref) s = .next (finish c {} 0 0 u)) ∧
      (pairOdd n s ≠ decide (c.op 1 1 = 1) →
        exec (.pairSwitch c.ref) s = .next (finish c {} 0 0 (switchPair n (decide (c.op 1 1 = 1)) u))))

/-- While telemetry runs: SNAPSHOT_INSTANT of an enabled set with no dump in progress takes a snapshot, with one it counts a
skipped record and reports FC211; DUMP_COMPLETE of a set with a dump in progress whose channel serves meets the upsets of its
counters, reads them, writes header, values, flags and trailer and posts the event, or reports FC214 and posts the event with the
host's error, and then ends the dump, takes the clears that waited and puts a waiting set write in force. SNAPSHOT_INSTANT of a
set that is not enabled and DUMP_COMPLETE of one with no dump change nothing, nor does either while telemetry is stopped. A Gauze
record that waits, with a free entry and its channel serving, is written at its entry with its sequence number, its phase and the
count of lost records, which restarts; without a free entry, or with the channel halted or fenced, it is lost; GAUZE_RECORD_WRITE
with none waiting, or with the ring or its channel off, changes nothing. GAUZE_ENABLE while the engine serves commands clears
ENABLE of an enabled ring and changes nothing else of its configuration, sets the other fields of one that stays off, enables one
that is well set up with its positions at 0, and else leaves it off with CFG_ERR. The model's own choices in these rows: log
entries 18, 63 and 78. (16_telemetry.md) -/
def Obligations.SnapshotsAndDumps : Prop :=
  ∀ (k : Nat) (v : Word) (err : Option Byte) (s : State), k < 16 →
    let d := getSet k s
    let met := d.nums.foldl (fun s num => meetValue d.kind num s) s
    let read := d.nums.foldl (fun s num => dumpedCtr k d num s) met
    let parts := fun (x : Dump) => dumpBody k d x met
    let slotAt := fun (x : Dump) => d.area + x.slot * slotBytes d.n
    let pay := fun (x : Dump) (st : Byte) => [byte k, st, byte x.flags, 0] ++ le 4 x.seq ++ le 2 x.slot
    let body := fun (x : Dump) => emit (.hostWrite (slotAt x + 64 + 8 * d.n) (parts x).2.2) (emit (.hostWrite (slotAt x + 64) (parts x).2.1) (emit (.hostWrite (slotAt x) (parts x).1) read))
    let flushed := fun (x : Dump) => emit (.flushRead (slotAt x + 64 + 8 * d.n + flagLen d.n - 1)) (body x)
    let trailer := fun (x : Dump) => dumpTrailer x.seq ((parts x).1 ++ (parts x).2.1 ++ (parts x).2.2)
    let good := fun (x : Dump) => postDump d.evRing (pay x 0) (emit (.hostWrite (slotAt x + slotBytes d.n - 64) (trailer x)) (flushed x))
    let failed := fun (x : Dump) (st : Byte) => postDump d.evRing (pay x st) (report 214 14 k (pay x st) read)
    let closed := fun (t : State) => d.clears.foldl (fun s w => lateClear d w s) (setSet k { getSet k t with dump := none, clears := [] } t)
    let size := gzSize s
    let occ := (s.tel.gzProd + 2 * size - s.tel.gzCons) % (2 * size)
    let a := rd Reg.telGauzeBase 0 s + 256 * (s.tel.gzProd % size)
    let phased := fun (r : List Byte) => splice r 134 [byte (byteAt r 134 + phaseOf size s.tel.gzProd)]
    let entry := fun (r : List Byte) => splice (splice (phased r) 192 (le 4 s.tel.gzSeq)) 196 (le 4 s.tel.gzLost)
    let ok : State := { s with tel := { s.tel with cfgErr := false } }
    let old := rd Reg.telGauzeCfg 0 s
    let w := v.toNat
    let ch := fld w 6 6
    let sound := decide (10 ≤ fld w 1 5) && decide (fld w 1 5 ≤ 16) && decide (4 ≤ ch) && chanOn ch s && decide (rd Reg.telGauzeBase 0 s ≠ 0)
    (d.enabled = true → telRuns s = true → ∀ x, d.dump = some x → exec (.snapshotInstant k) s =
      .next (report 211 14 k [byte k] (setSet k { d with skipped := min (d.skipped + 1) (2 ^ 32 - 1) } s))) ∧
    (d.enabled = true → telRuns s = true → d.dump = none → exec (.snapshotInstant k) s =
      .next (snapshot k (instantOf d s) (b2n (d.skipped ≠ 0) + 2 * b2n (d.suspect || !tbRuns d.tb s)) (1 + d.skipped)
        (setSet k { d with skipped := 0, suspect := false } s))) ∧
    ((d.enabled = false ∨ telRuns s = false) → exec (.snapshotInstant k) s = .next s) ∧
    ((d.dump = none ∨ telRuns s = false) → exec (.dumpComplete k err) s = .next s) ∧
    (∀ x, d.dump = some x → telRuns s = true → chanServes (sergeChan 2 s) s = true →
      (d.next = none → exec (.dumpComplete k none) s = .next (closed (good x))) ∧
      (∀ st, d.next = none → exec (.dumpComplete k (some st)) s = .next (closed (failed x st))) ∧
      (∀ o, d.next = some o → exec (.dumpComplete k none) s = .next (applySet k o (closed (good x)))) ∧
      (∀ o st, d.next = some o → exec (.dumpComplete k (some st)) s = .next (applySet k o (closed (failed x st))))) ∧
    (∀ r rest, s.tel.gzStage = r :: rest → gauzeOn s = true → chanOn (gzChan s) s = true →
      ((size ≤ occ ∨ (getChan (gzChan s) s).halted = true ∨ fencedU 10 (gzChan s) s = true) → exec .gauzeRecordWrite s =
        .next (gauzeLose { s with tel := { s.tel with gzStage := rest } })) ∧
      (occ < size → (getChan (gzChan s) s).halted = false → fencedU 10 (gzChan s) s = false →
        exec .gauzeRecordWrite s = .next (emit (.hostWrite a (entry r)) { s with tel := { s.tel with
          gzStage := rest, gzProd := (s.tel.gzProd + 1) % (2 * size), gzSeq := (s.tel.gzSeq + 1) % 2 ^ 32, gzLost := 0 } }))) ∧
    ((s.tel.gzStage = [] ∨ gauzeOn s = false ∨ chanOn (gzChan s) s = false) → exec .gauzeRecordWrite s = .next s) ∧
    (s.sys.mode.engine = true →
      (bitAt old 0 = true → bitAt w 0 = false → exec (.gauzeEnable v) s = .next (wr Reg.telGauzeCfg 0 (setFld old 0 1 0) ok)) ∧
      (bitAt old 0 = true → bitAt w 0 = true → exec (.gauzeEnable v) s = .next ok) ∧
      (bitAt old 0 = false → bitAt w 0 = false → exec (.gauzeEnable v) s = .next (wrRw Reg.telGauzeCfg 0 w ok)) ∧
      (bitAt old 0 = false → bitAt w 0 = true → sound = true → exec (.gauzeEnable v) s = .next (wrRw Reg.telGauzeCfg 0 w
        { s with tel := { s.tel with cfgErr := false, gzProd := 0, gzCons := 0, gzSeq := 0, gzLost := 0, gzStage := [] } })) ∧
      (bitAt old 0 = false → bitAt w 0 = true → sound = false → exec (.gauzeEnable v) s =
        .next (wrRw Reg.telGauzeCfg 0 (setFld w 0 1 0) { s with tel := { s.tel with cfgErr := true } })))

/-- A ready CTR_SET_WRITE with the read flag answers the set's operands, and with valid ones, which if it enables the set share no
counter with another set's, takes them, at once or, while a dump of it is in progress, after it; CTR_READ meets the upsets of its
counters and moves their values and flags; CTR_CLEAR clears those of its counters that no dump in progress holds, completes where
that is all of them, and else waits for the dumps; CTR_DUMP_NOW of an enabled set takes a snapshot, and with a dump in progress
answers 0x80; GAUZE_RELEASE of a valid position moves the ring's consumer; IOAM_SINK with the write flag sets the ports' bits, and
with the read flag moves them. The model's own choices in these rows: log entry 63. (16_telemetry.md) -/
def Obligations.TelemetryCommands : Prop :=
  ∀ (c : Cmd) (bs : List Byte) (ans : HostAns) (s : State),
    let u := started c s
    let k := c.op 0 1
    let d := getSet k s
    let nw : DumpSet := { ops := fit 40 c.ops, enabled := true }
    let first := c.op 4 4
    let items := c.op 8 4
    let fl := c.op 2 1
    let ends := fun (r : CmdRes) (t : State) => (.next (conclude c r (cmdDoms c s) t) : Res)
    let clash := s.tel.sets.any fun e => decide (e.1 ≠ k) && (match e.2.claim with | some x => x.meets nw | none => false) || decide (e.1 ≠ k) && e.2.enabled && e.2.meets nw
    let met := (rangeNums k first items).foldl (fun s num => meetCtr k num s) u
    let values := (rangeNums k first items).flatMap fun num => le 8 (if ctrExists k num met then ctrValue k num met else 0)
    let flags := flagArea ((rangeNums k first items).flatMap fun num => (shownCtr k num met).bits) (ctrCount k items)
    let held := fun num => s.tel.sets.any fun e => e.2.dump.isSome && e.2.holds k num
    let cleared := ((rangeNums k first items).filter fun num => !held num).foldl (fun s num => clearCtr k (c.op 1 1) num s) u
    let wait : ClearWait := { cmd := c.ref, kind := k, what := c.op 1 1, first := first, items := items }
    let busy := fun (d : DumpSet) => d.dump.isSome && (rangeNums k first items).any fun num => d.holds k num
    let size := gzSize s
    let pos := c.op 0 2 + size * c.op 2 1
    (ready 0x60 c s = true → k ≤ 15 → c.len = 0 → bitAt fl 0 = true → exec (.ctrSetWrite c.ref) s = ends { payload := fit 40 d.ops } u) ∧
    (ready 0x60 c s = true → k ≤ 15 → c.len = 0 → fl < 16 → bitAt fl 0 = false → c.op 3 1 ≤ 3 →
      itemsOk nw.kind nw.first nw.items = true → 1 ≤ nw.period → nw.period ≤ 3600000 → 1 ≤ nw.slots → nw.slots ≤ 256 →
      evRingOn nw.evRing s = true → nw.area % 64 = 0 → (bitAt fl 1 = false ∨ clash = false) →
      (d.enabled = true → d.dump ≠ none → exec (.ctrSetWrite c.ref) s = ends {} (setSet k { d with next := some nw.ops } u)) ∧
      ((d.enabled = false ∨ d.dump = none) → exec (.ctrSetWrite c.ref) s = ends {} (applySet k nw.ops u))) ∧
    (ready 0x61 c s = true → itemsOk k first items = true → c.len = 8 * ctrCount k items + flagLen (ctrCount k items) →
      exec (.ctrRead c.ref) s = ends { data := values ++ flags } met) ∧
    (ready 0x62 c s = true → itemsOk k first items = true → c.op 1 1 < 8 → c.len = 0 →
      ((s.tel.sets.any fun e => busy e.2) = false → exec (.ctrClear c.ref) s = ends {} cleared) ∧
      ((s.tel.sets.any fun e => busy e.2) = true → exec (.ctrClear c.ref) s = .next { cleared with tel := { cleared.tel with
        sets := tmap cleared.tel.sets fun _ d => if busy d then { d with clears := d.clears ++ [wait] } else d } })) ∧
    (ready 0x63 c s = true → k ≤ 15 → d.enabled = true → c.len = 0 →
      (d.dump = none → exec (.ctrDumpNow c.ref) s =
        ends {} (snapshot k (timeOf d.tb s) (4 + 2 * b2n (d.suspect || !tbRuns d.tb s)) 0 u)) ∧
      (d.dump ≠ none → exec (.ctrDumpNow c.ref) s = ends { status := 0x80 } u)) ∧
    (ready 0x64 c s = true → c.len = 0 → bitAt (rd Reg.telGauzeCfg 0 s) 0 = true → c.op 2 1 ≤ 1 → c.op 0 2 < size →
      atOrBeyond size pos s.tel.gzCons = true → (s.tel.gzProd + 2 * size - pos) % (2 * size) ≤ size →
      exec (.gauzeRelease c.ref) s = ends {} { u with tel := { u.tel with gzCons := pos } }) ∧
    (ready 0x65 c s = true → c.len = 128 → flagOk c 0 = true →
      (readFlag c 0 = false → exec (.ioamSink c.ref (.data bs)) s = ends {} { u with tel := { u.tel with
        sink := (List.range 1024).foldl (fun t p => tset t p (bitAt (leNat (fit c.len bs)) p)) u.tel.sink } }) ∧
      (readFlag c 0 = true → exec (.ioamSink c.ref ans) s =
        ends { data := le 128 (ofBits ((List.range 1024).map fun p => tget s.tel.sink p)) } u))

/-- A write of PWR_VR[k] while PWR_CTRL.LIMIT_EN is 1 sets CFG_ERR and changes nothing else; while it is 0 it is taken. A write of
PWR_CTRL with LIMIT_EN = 1 while some entry k of 0 to 3 is not enabled or its RAIL is not k sets CFG_ERR and changes nothing else;
with the four entries enabled with RAIL 0 to 3 in order it is taken. (R488 (17_power.md)) -/
def Obligations.RegulatorWrites : Prop :=
  ∀ (k : Nat) (v : Word) (s : State), s.sys.mode.engine = true →
    let err := { s with pwr := { s.pwr with cfgErr := true } }
    (k < 16 → limitEn s = true → exec (.registerWrite (0x3E00100 + 4 * k) 4 v) s = .next err) ∧
    (k < 16 → limitEn s = false → exec (.registerWrite (0x3E00100 + 4 * k) 4 v) s =
      .next { wrRw Reg.pwrVr k v.toNat s with pwr := { s.pwr with cfgErr := false } }) ∧
    (k < 4 → bitAt v.toNat 0 = true → (vrOn k s = false ∨ vrRail k s ≠ k) →
      exec (.registerWrite 0x3E00000 4 v) s = .next err) ∧
    (bitAt v.toNat 0 = true → (∀ j, j < 4 → vrOn j s = true ∧ vrRail j s = j) → exec (.registerWrite 0x3E00000 4 v) s =
      .next { wrRw Reg.pwrCtrl 0 v.toNat s with pwr := { s.pwr with cfgErr := false } })

/-- From WIPE on, POWER_SAMPLE puts the energy of the interval, by which the regulators' last answers count, in front of the
history, keeps 1 s of it, and finds the device over its limits exactly where P_NOW or the 1 s mean exceeds them. PMBUS_READ takes
the answers of the enabled entries 4 to 15 and of no other. VR_ALERT holds the alert until VR_ALERT_CLEAR. SENSOR_READ holds each
good reading and the highest one, and marks a sensor without one as failed. THERMAL_RECOVERY of a lowered die that is cool lets
its clusters' ceilings and its domains rise, and of another changes nothing. THROTTLE_RAISE below 95 % of both limits with no
alert raises the table array and the buffer, or once they are at their top the panels, but none that temperature still holds; else
it changes nothing. RAIL_REACHED takes a pending step of each forwarding domain that its voltage serves, and with no raise pending
changes nothing. Before WIPE POWER_SAMPLE, PMBUS_READ, THROTTLE_RAISE and SENSOR_READ change nothing. A regulator that answers is
held at its answer; the second miss in a row records FC228 and posts EV_PWR_VR. The model's own choices in these rows: log entries
59 and 61. (17_power.md) -/
def Obligations.PowerMeasured : Prop :=
  ∀ (m : PowerMeasure) (answers : List VrAnswer) (temps : List (Option Int)) (k : Nat) (a : VrAnswer) (s : State),
    let may := fun (l : List Nat) => l.filter fun d => !heldThermal d s
    let below := decide (pNow s * 100 < 95 * 1000 * peakW s) && decide (pNow s * 100 < 95 * 1000 * sustainedW s) && !s.pwr.alert
    let top := (may fabric).all fun d => atTop d s
    let ks := [2 * k, 2 * k + 1]
    let ds := fabric ++ [2 * k + 1, 2 * k + 2]
    let cut := ks.foldl (fun s k => { s with pwr := { s.pwr with thermCut := tmod s.pwr.thermCut k fun c => c - 1 } }) s
    let risen := ds.foldl (fun s d => raiseStep d s) cut
    let done := ds.all (fun d => atTop d risen) && ks.all fun k => decide (tget risen.pwr.thermCut k = 0)
    let free : State := { risen with pwr := { risen.pwr with cooled := tset risen.pwr.cooled k false } }
    (2 ≤ s.sys.mode.num →
      (∃ t, exec (.powerSample m) s = .next t ∧
        (let u := (List.range 4).foldl (fun s k => if vrOn k s then takeVr k (m.vr.getD k {}) s else s) s
         t.pwr.hist = (devMicro u / 50 :: s.pwr.hist).take 50000) ∧
        t.pwr.isOver = (decide (1000 * peakW s < pNow t) || decide (1000 * sustainedW s < pSustained t)) ∧
        t.mem = s.mem ∧ t.tbl = s.tbl ∧ t.buf = s.buf) ∧
      (∃ t, exec (.pmbusRead answers) s = .next t ∧ (∀ i, i < 16 → (i < 4 ∨ vrOn i s = false) → getVr i t = getVr i s) ∧
        t.pwr.doms = s.pwr.doms ∧ t.pwr.hist = s.pwr.hist) ∧
      (4 ≤ k → k < 16 → vrOn k s = true → (answers.getD k {}).answered = true →
        ∃ t, exec (.pmbusRead answers) s = .next t ∧
          getVr k t = { mv := (answers.getD k {}).mv, ma := (answers.getD k {}).ma, misses := 0 }) ∧
      (k < 2 → ∃ t, exec (.vrAlert k answers) s = .next t ∧ t.pwr.alert = true ∧
        (∃ u, exec .vrAlertClear t = .next u ∧ u.pwr.alert = false)) ∧
      (∀ n v, n < 32 → temps[n]? = some (some v) → -640 ≤ v → v ≤ 2400 →
        ∃ t, exec (.sensorRead temps) s = .next t ∧ (getSensor n t).temp = v ∧ (getSensor n t).max = some (max ((getSensor n s).max.getD v) v) ∧
          (getSensor n t).failed = false) ∧
      (∀ n, n < 32 → temps[n]? = some none →
        ∃ t, exec (.sensorRead temps) s = .next t ∧ (getSensor n t).temp = (getSensor n s).temp ∧ (getSensor n t).failed = true) ∧
      (k < 2 → cooledDie k s = true → dieCool k s = true →
        (done = true → exec (.thermalRecovery k) s = .next (ceilingsMoved (throttleEnded free))) ∧
        (done = false → exec (.thermalRecovery k) s = .next (ceilingsMoved (throttleEnded risen)))) ∧
      (k < 2 → (cooledDie k s = false ∨ dieCool k s = false) → exec (.thermalRecovery k) s = .next s) ∧
      (below = true → top = true → exec .throttleRaise s = .next (throttleEnded ((may panels).foldl (fun s d => raiseStep d s) s))) ∧
      (below = true → top = false → exec .throttleRaise s = .next (throttleEnded ((may fabric).foldl (fun s d => raiseStep d s) s))) ∧
      (below = false → exec .throttleRaise s = .next s) ∧
      (∀ d p c mv, k < 4 → d ≤ 6 → d ∈ railDoms k → stepClass d = some c → (getDom d s).raise = some p → stepMv c p s ≤ mv →
        ∃ t, exec (.railReached k mv) s = .next t ∧ (getDom d t).raise = none ∧ (getDom d t).below = 7 - p) ∧
      (k < 4 → (∀ d, (getDom d s).raise = none) → (∀ c, (getCluster c s).raise = none) →
        ∀ mv, exec (.railReached k mv) s = .next s)) ∧
    (s.sys.mode.num < 2 → exec (.powerSample m) s = .next s ∧ exec (.pmbusRead answers) s = .next s ∧
      exec .throttleRaise s = .next s ∧ exec (.sensorRead temps) s = .next s) ∧
    (a.answered = false → (getVr k s).misses = 1 → takeVr k a s =
      post 0x7805 [byte k, 0, 0, 0] (report 228 14 k [byte k]
        { s with pwr := { s.pwr with vrs := tset s.pwr.vrs k { getVr k s with misses := 2 } } }))

/-- The first DROOP_TRIP of a domain whose detector reads low enough begins its dip, a later one lowers the dip's lowest code, and
one that does not trip changes nothing; DROOP_RETURN ends the dip with FC224, EV_PWR_DROOP and the time since its first trip, and
changes nothing where no dip is in progress. DROOP_RECALIBRATION of a detector whose domain has a step change pending changes
nothing; of another it records the calibration's power, temperature and time. DOMAIN_POWER_DOWN_DONE of a power-down that waits
cuts the power once no started descriptor uses the domain, and until then changes nothing. A ready PWR_DOMAIN that powers down a
domain that is off is OK, one that is not on, that others rely on or whose condition fails answers 0x80, one that started
descriptors use is deferred, and any other is carried out; a power-up of a domain that is on is OK, of one whose power-down waits
cancels it with 0x82 and is OK, of one that is off while a domain that it requires does not serve answers 0x80, and else starts a
memory half, which ends with HALF_READY, or powers the domain; a host ceiling is set or withdrawn. PWR_LIMIT_SET writes PWR_LIMIT,
in range, and out of range sets CFG_ERR and changes no limit; PWR_READ moves the power area of 1,024 bytes; PWR_PMBUS answers what
the regulator answers, writes to it, or answers 0x81. The model's own choices in these rows: log entries 57, 59, 60, 61 and 79.
(17_power.md) -/
def Obligations.PowerCommands : Prop :=
  ∀ (det code d : Nat) (c : Cmd) (ans : VrAnswer) (s : State), det < 64 → code < 256 → d < 31 →
    let u := started c s
    let x := getDom (detDom det) s
    let changing := decide (7 ≤ detDom det) && decide (detDom det ≤ 10) && (getCluster (detDom det - 7) s).changing.isSome
    let die := if detDom det = 3 ∨ detDom det = 4 ∨ detDom det = 9 ∨ detDom det = 10 then 1 else 0
    let temp := if detDom det = 29 then sensorTemp 28 s else if detDom det = 30 then sensorTemp 29 s else dieTemp die s
    let pay := fun (p : Dip) => [byte d, byte p.first, byte p.code, 0] ++ le 4 (4 * (s.aon - p.since))
    let e := c.op 0 1
    let y := getDom e s
    let ends := fun (r : CmdRes) (t : State) => (.next (conclude c r (cmdDoms c s) t) : Res)
    let n := c.op 3 1
    let pk := fld (c.op 0 4) 0 11
    let w := fld (c.op 0 4) 11 9
    let l := fld (c.op 0 4) 20 11
    let sound := decide (100 ≤ pk) && decide (pk ≤ 1000) && decide (100 ≤ l) && decide (l ≤ 900) && decide (l ≤ pk) && decide (5 ≤ w) && decide (w ≤ 500)
    let on := setDom e { y with st := .on } u
    (trips det code s = true →
      (x.dip = none → exec (.droopTrip det code) s =
        .next (setDom (detDom det) { x with dip := some { first := det, code := code, since := s.aon } } s)) ∧
      (∀ p, x.dip = some p → exec (.droopTrip det code) s =
        .next (setDom (detDom det) { x with dip := some { p with code := min p.code code } } s))) ∧
    (trips det code s = false → exec (.droopTrip det code) s = .next s) ∧
    ((getDom d s).dip = none → exec (.droopReturn d) s = .next s) ∧
    (∀ p, (getDom d s).dip = some p →
      exec (.droopReturn d) s = .next (post 0x7800 (pay p) (report 224 14 d (pay p) (setDom d { getDom d s with dip := none } s)))) ∧
    ((x.raise.isSome = true ∨ changing = true) → exec (.droopRecalibration det) s = .next s) ∧
    (x.raise = none → changing = false → exec (.droopRecalibration det) s =
      .next { s with pwr := { s.pwr with droopCal := tset s.pwr.droopCal det { nj := x.nj, temp := temp, at_ := s.aon } } }) ∧
    (((getDom d s).st = .deferred ∨ (getDom d s).st = .poweringDown) → touchesDom d s = false →
      exec (.domainPowerDownDone d) s = .next (cutPower d s)) ∧
    ((touchesDom d s = true ∨ ((getDom d s).st ≠ .deferred ∧ (getDom d s).st ≠ .poweringDown)) → exec (.domainPowerDownDone d) s = .next s) ∧
    (ready 0x78 c s = true → e < 31 → c.len = 0 →
      (c.op 1 1 = 0 →
        (y.st = .off → exec (.pwrDomain c.ref) s = ends {} u) ∧
        (y.st ≠ .off → (y.st ≠ .on ∨ relying e s ≠ [] ∨ mayPowerDown e u = false) → exec (.pwrDomain c.ref) s = ends { status := 0x80 } u) ∧
        (y.st = .on → relying e s = [] → mayPowerDown e u = true → touchesDom e s = true → exec (.pwrDomain c.ref) s =
          .next (setDom e { y with st := .deferred, down := some c.ref, cut := 0 } u)) ∧
        (y.st = .on → relying e s = [] → mayPowerDown e u = true → touchesDom e s = false → exec (.pwrDomain c.ref) s =
          ends {} (cutPower e (setDom e { y with st := .poweringDown, cut := 0 } u)))) ∧
      (c.op 1 1 = 1 →
        (y.st = .on → exec (.pwrDomain c.ref) s = ends {} u) ∧
        (∀ r, (y.st = .deferred ∨ y.st = .poweringDown) → y.down = some r → exec (.pwrDomain c.ref) s =
          ends {} (finishRef r { status := 0x82 } (setDom e { y with st := .on, down := none } u))) ∧
        (y.st = .off → (requires e).any (fun e => !domServes e s) = true → exec (.pwrDomain c.ref) s = ends { status := 0x80 } u) ∧
        (y.st = .off → (requires e).any (fun e => !domServes e s) = false → (e = 27 ∨ e = 28) → exec (.pwrDomain c.ref) s =
          .next (trainHalf (e - 27) (setDom e { y with st := .poweringUp, up := some c.ref } u))) ∧
        (y.st = .off → (requires e).any (fun e => !domServes e s) = false → 11 ≤ e → e ≤ 26 → exec (.pwrDomain c.ref) s =
          ends {} (railFollow u (groupPowerUp (e - 11) on))) ∧
        (y.st = .off → (requires e).any (fun e => !domServes e s) = false → (e < 11 ∨ 28 < e) → exec (.pwrDomain c.ref) s =
          ends {} (railFollow u on))) ∧
      (c.op 1 1 = 2 → 1 ≤ e → e ≤ 10 →
        (c.op 2 1 ≤ 7 → exec (.pwrDomain c.ref) s = ends {} (ceilingsMoved (holdTops (setDom e { y with host := some (c.op 2 1) } u)))) ∧
        (c.op 2 1 = 0xFF → exec (.pwrDomain c.ref) s = ends {} (ceilingsMoved (holdTops (setDom e { y with host := none } u)))))) ∧
    (ready 0x79 c s = true → c.len = 0 →
      (sound = true → exec (.pwrLimitSet c.ref) s = ends {} { wrRw Reg.pwrLimit 0 (c.op 0 4) u with pwr := { s.pwr with cfgErr := false } }) ∧
      (sound = false → exec (.pwrLimitSet c.ref) s = ends {} { u with pwr := { s.pwr with cfgErr := true } })) ∧
    (ready 0x7A c s = true → c.len = 1024 →
      (powerArea u).length = 1024 ∧ exec (.pwrRead c.ref) s = ends { data := powerArea u } u) ∧
    (ready 0x7B c s = true → e < 16 → c.op 2 1 < 2 → (n = 1 ∨ n = 2) → c.len = 0 →
      (ans.answered = false → exec (.pwrPmbus c.ref ans) s = ends { status := 0x81 } u) ∧
      (ans.answered = true → c.op 2 1 = 1 → exec (.pwrPmbus c.ref ans) s = ends {} (emit (.vr e (c.op 1 1) (c.op 4 n)) u)) ∧
      (ans.answered = true → c.op 2 1 = 0 → c.op 1 1 = 0x8B → exec (.pwrPmbus c.ref ans) s = ends { payload := fit 2 (le n ans.mv) } u) ∧
      (ans.answered = true → c.op 2 1 = 0 → c.op 1 1 = 0x8C → exec (.pwrPmbus c.ref ans) s = ends { payload := fit 2 (le n ans.ma) } u) ∧
      (ans.answered = true → c.op 2 1 = 0 → c.op 1 1 ≠ 0x8B → c.op 1 1 ≠ 0x8C →
        exec (.pwrPmbus c.ref ans) s = ends { payload := fit 2 (le n ans.status) } u))

/-- In a RECORD_FORMATION, a record that FLT_FIRST holds stays there whatever is formed; an empty FLT_FIRST takes the first record
formed, and stays empty where none is formed. FIRST_CLEAR empties it, and it is empty after a reset. (R499 (18_faults.md)) -/
def Obligations.FirstFault : Prop :=
  (∀ (l : List Report) (s : State), (∀ r ∈ l, r.cls < 256 ∧ r.kind < 15 ∧ r.unit < 65536) →
    ∃ t, exec (.recordFormation l) s = .next t ∧
      (∀ q, s.flt.first = some q → t.flt.first = some q) ∧
      (s.flt.first = none → (t.flt.first = none ∧ t.flt.nextSeq = s.flt.nextSeq) ∨ t.flt.first = some s.flt.nextSeq)) ∧
  (∀ (c : Cmd) (s : State), ready 0x86 c s = true → c.len = 0 →
    let u := started c s
    exec (.firstClear c.ref) s = .next (finish c {} 0 0 { u with flt := { s.flt with first := none } })) ∧
  State.reset.flt.first = none ∧
  (∀ (k : Nat) (s : State), s.sys.mode ≠ .off → s.sys.mode ≠ .lockdown → (doReset k s).flt.first = none)

/-- With empty intake queues, no record to merge into and no acknowledgement of its class in this cycle, RECORD_FORMATION of one
report forms one record with the next SEQ, at the front of the history; below FENCE, and up to HALT where no unit is fenced, the
records behind it stay as they are, and it holds the report's class, unit and detail and the level of R496, raised to HALT for a
unit that the device must keep; at HALT the device enters HOLD, at LOCK it enters LOCKDOWN, at FENCE the units that the report
stands for are out of service; at NOTE and CORRECTED the mode stays, and every unit stays where the report names none under test.
CONDITION_CLEAR ends what is live. ALIVE_TOGGLE makes an edge where the mode allows it and every queue was served, and else
changes nothing. CLOCK_MONITOR_WINDOW reports FC248 of a clock that is looked at and stands still, or is off its expected
frequency in a window in which it does not change and does not return from a stretch, and else changes nothing. RESET_REQ takes
0xA5, then 0x5A within 1 ms, as a reset, and any other value disarms it; LOCKDOWN ignores it. The model's own choices in these
rows: log entries 65, 66 and 67. (01_architecture.md, 18_faults.md) -/
def Obligations.FaultRecords : Prop :=
  ∀ (rep : Report) (clock : Nat) (found : ClockFound) (v : Byte) (s : State), rep.cls < 256 → rep.kind < 15 → rep.unit < 65536 →
    (s.sys.mode ≠ .off → s.flt.intake = [] → s.flt.blockLost = [] → tryMerge rep s.aon s = none →
      (∀ r ∈ s.flt.recs, r.aon ≠ s.aon) → (∀ a, tget s.flt.ackAt rep.cls = some a → a.1 ≠ s.aon) →
      let entry := rdFld Reg.fltClassCfg rep.cls 0 3 s
      let l := levelOfRec entry (rdFld Reg.fltClassCfg rep.cls 3 3 s) (prevLevel rep.cls s)
      let goal := goalOf rep.cls rep.kind rep.unit s
      ∃ t, exec (.recordFormation [rep]) s = .next t ∧ t.flt.nextSeq = (s.flt.nextSeq + 1) % 2 ^ 32 ∧
        t.flt.hist = (s.flt.nextSeq :: s.flt.hist).take 32 ∧
        ((l < 3 ∨ l < 5 ∧ (goal = .none ∨ goal = .kept)) → ∃ r, t.flt.recs = r :: s.flt.recs ∧ r.cls = rep.cls ∧ r.kind = rep.kind ∧
          r.unit = rep.unit ∧ r.detail = fit 24 rep.detail ∧ r.condition = rep.condition ∧ r.seq = s.flt.nextSeq ∧ r.aon = s.aon ∧
          r.level = (if 3 ≤ l ∧ goal = .kept then 4 else l) ∧ r.raised = decide (3 ≤ l ∧ goal = .kept) ∧
          r.escalated = decide (entry < l) ∧ r.acked = false ∧ r.count = 1) ∧
        (l < 3 → t.sys.mode = s.sys.mode ∧
          ((∀ u ∈ reportSet rep.cls rep.kind rep.unit, (getUnit u.1 u.2 s).state ≠ .testing) → t.flt.units = s.flt.units)) ∧
        ((l = 4 ∨ l = 3 ∧ goal = .kept) → s.sys.mode ≠ .reset → s.sys.mode ≠ .lockdown → t.sys.mode = .hold) ∧
        (l = 5 → t.sys.mode = .lockdown) ∧
        (∀ us, 3 ≤ l → goal = .units us → ∀ u ∈ us, (getUnit u.1 u.2 t).state ≠ .inService)) ∧
    exec (.conditionClear rep.cls rep.kind rep.unit) s = .next (clearCondition rep.cls rep.kind rep.unit s) ∧
    (∀ r ∈ (clearCondition rep.cls rep.kind rep.unit s).flt.recs,
      r.cls = rep.cls → r.kind = rep.kind → r.unit = rep.unit → r.condition = true → r.cleared = true) ∧
    (aliveMode s.sys.mode = true → s.flt.served = true → exec .aliveToggle s =
      .next (emit (.alive (!s.flt.alive)) { s with flt := { s.flt with alive := !s.flt.alive, served := false } })) ∧
    ((aliveMode s.sys.mode = false ∨ s.flt.served = false) → exec .aliveToggle s = .next s) ∧
    (clock < 51 → clockUnseen clock s = true → exec (.clockMonitorWindow clock found) s = .next s) ∧
    (clock < 51 → clockUnseen clock s = false →
      (found.hz = 0 → exec (.clockMonitorWindow clock found) s = .next (report 248 (clockUnit clock).1 (clockUnit clock).2 (le 8 clock) s)) ∧
      (clockOff clock found.hz s = true → found.returning = false → clockChanging clock s = false → exec (.clockMonitorWindow clock found) s =
        .next (report 248 (clockUnit clock).1 (clockUnit clock).2 (le 8 clock) s)) ∧
      (found.hz ≠ 0 → (clockOff clock found.hz s = false ∨ found.returning = true ∨ clockChanging clock s = true) →
        exec (.clockMonitorWindow clock found) s = .next s)) ∧
    (s.sys.mode ≠ .off → s.sys.mode ≠ .lockdown →
      exec (.resetReq 0xA5 true) s = .next { s with flt := { s.flt with resetArmed := true } } ∧
      (s.flt.resetArmed = true → exec (.resetReq 0x5A true) s = .next (doReset 2 s)) ∧
      (v ≠ 0xA5 → (v ≠ 0x5A ∨ s.flt.resetArmed = false) →
        exec (.resetReq v true) s = .next { s with flt := { s.flt with resetArmed := false } }) ∧
      exec (.resetReq 0x5A false) s = .next { s with flt := { s.flt with resetArmed := false } }) ∧
    (s.sys.mode = .lockdown → exec (.resetReq v true) s = .next { s with flt := { s.flt with resetArmed := false } })

/-- A ready FAULT_ACK acknowledges every record of the classes it names, and reports of them in this cycle; FAULT_READ moves what
it names; FAULT_CLASS_SET reads a class's setting, answers 0x84 for a fixed class, sets CFG_ERR for a setting that R497 ignores,
and takes another. UNIT_FENCE of a unit out of service is OK, of one that the device keeps or that does not exist or whose twin
drains answers 0x83, with FORCE fences the unit at once, and without it of one that drains waits, and of another fences it.
FENCE_COMPLETE of a drained unit that the device need not keep fences it, of one that it keeps ends the drain with 0x83, and while
it is not drained changes nothing. UNIT_TEST of a fenced unit starts its test, of one in service or under test answers 0x80 or
0x85; TEST_END ends a test by what it found, the command completing, and of a unit not under test changes nothing. UNIT_RETURN
takes a fenced unit that passed to service, and answers 0x81 for one that did not. DIAG_TEST that passes is OK, and else answers
0x82 with FC252; one whose turn it is outside DIAG completes with MODE. The model's own choices in these rows: log entries 27, 65
and 66. (18_faults.md) -/
def Obligations.FaultCommands : Prop :=
  ∀ (kind ix : Nat) (found : TestFound) (ok : Bool) (c : Cmd) (s : State),
    let u := started c s
    let w := c.op 0 1
    let k := c.op 2 2
    let x := getUnit w k s
    let y := getUnit kind ix s
    let passed := testPassed kind found && !y.faulted
    let ends := fun (r : CmdRes) (t : State) => (.next (conclude c r (cmdDoms c s) t) : Res)
    let kept := !unitExists w k s || unitKept w k s || twinDrains w k s
    let probing : State := { s with tbl := { s.tbl with noProbe := tset s.tbl.noProbe ix false } }
    (ready 0x80 c s = true → c.len = 0 → exec (.faultAck c.ref) s = ends {} { u with flt := { s.flt with
      recs := s.flt.recs.map (fun r => if bitAt (c.op 0 32) r.cls then { r with acked := true } else r), ackAt := noteAck (c.op 0 32) s } }) ∧
    (ready 0x81 c s = true →
      (w = 0 → c.len = 64 → exec (.faultRead c.ref) s = ends { data := firstBytes s } u) ∧
      (w = 1 → c.len = 1024 → exec (.faultRead c.ref) s = ends { data := histBytes s } u) ∧
      (w = 2 → c.len = 16384 → exec (.faultRead c.ref) s = ends { data := latestBytes s } u) ∧
      (w = 3 → c.len = 1280 → exec (.faultRead c.ref) s = ends { data := faultArea s } u)) ∧
    (ready 0x82 c s = true → c.len = 0 →
      (c.op 4 1 = 1 → exec (.faultClassSet c.ref) s = ends { payload := le 4 (rd Reg.fltClassCfg w s) } u) ∧
      (c.op 4 1 = 0 → Reg.clsFixed w = true → exec (.faultClassSet c.ref) s = ends { status := 0x84 } u) ∧
      (c.op 4 1 = 0 → Reg.clsFixed w = false → classCfgOk (c.op 1 1) (c.op 2 1) = false → exec (.faultClassSet c.ref) s =
        ends { status := BAD_PARAM } { u with flt := { s.flt with cfgErr := true } }) ∧
      (c.op 4 1 = 0 → Reg.clsFixed w = false → classCfgOk (c.op 1 1) (c.op 2 1) = true → exec (.faultClassSet c.ref) s =
        ends {} (fltErr false (wrRw Reg.fltClassCfg w (c.op 1 1 + 8 * c.op 2 1 + 256 * c.op 3 1) u)))) ∧
    (ready 0x83 c s = true → k < kindCount w → c.len = 0 → c.op 4 1 ≤ 1 →
      (x.state ≠ .inService → exec (.unitFence c.ref) s = ends {} u) ∧
      (x.state = .inService → kept = true → exec (.unitFence c.ref) s = ends { status := 0x83 } u) ∧
      (x.state = .inService → kept = false →
        (c.op 4 1 = 1 → exec (.unitFence c.ref) s = ends {} (fenceNow w k 2 none u)) ∧
        (c.op 4 1 = 0 → drainKind w = true → x.draining = none → exec (.unitFence c.ref) s =
          .next (startDrain w k (setUnit w k { x with draining := some c.ref } u))) ∧
        (c.op 4 1 = 0 → drainKind w = true → x.draining.isSome = true → exec (.unitFence c.ref) s =
          .next (setUnit w k { x with also := x.also ++ [c.ref] } u)) ∧
        (c.op 4 1 = 0 → drainKind w = false → exec (.unitFence c.ref) s = ends {} (fenceNow w k 1 none u)))) ∧
    ((w = 0 ∨ w = 13 ∨ w = 14) → ready 0x83 c s = true → c.len = 0 → c.op 4 1 ≤ 1 →
      exec (.unitFence c.ref) s = ends { status := 0x83 } u) ∧
    (ix < kindCount kind →
      ((y.draining = none ∨ drained kind ix s = false) → exec (.fenceComplete kind ix) s = .next s) ∧
      (y.draining ≠ none → drained kind ix s = true → unitKept kind ix s = false →
        exec (.fenceComplete kind ix) s = .next (toFenced kind ix 1 (drainedEffect kind ix) s)) ∧
      (y.draining ≠ none → drained kind ix s = true → unitKept kind ix s = true → kind = 5 →
        exec (.fenceComplete kind ix) s = .next (endDrain y 0x83 (setUnit kind ix {} probing))) ∧
      (y.draining ≠ none → drained kind ix s = true → unitKept kind ix s = true → kind ≠ 5 →
        exec (.fenceComplete kind ix) s = .next (endDrain y 0x83 (setUnit kind ix {} s))) ∧
      (y.state ≠ .testing → exec (.testEnd kind ix found) s = .next s) ∧
      (∀ r, y.state = .testing → y.testCmd = some r →
        (passed = true → exec (.testEnd kind ix found) s =
          .next (finishRef r {} (afterTest kind ix (postUnit kind ix 1 3 (setUnit kind ix { state := .fenced, passed := true } s))))) ∧
        (passed = false → exec (.testEnd kind ix found) s =
          .next (finishRef r { status := 0x82 } (afterTest kind ix (postUnit kind ix 1 4 (setUnit kind ix { state := .fenced } s))))))) ∧
    (ready 0x84 c s = true → k < kindCount w → c.len = 0 →
      (x.state = .fenced → exec (.unitTest c.ref) s =
        .next (setUnit w k { x with state := .testing, testCmd := some c.ref, faulted := false } u)) ∧
      (x.state = .inService → exec (.unitTest c.ref) s = ends { status := 0x80 } u) ∧
      (x.state = .testing → exec (.unitTest c.ref) s = ends { status := 0x85 } u)) ∧
    (ready 0x85 c s = true → k < kindCount w → c.len = 0 →
      (x.state = .fenced → x.passed = true → exec (.unitReturn c.ref) s =
        ends {} (followFence (returnEffect w k (postUnit w k 0 5 (setUnit w k {} u))))) ∧
      (x.state = .fenced → x.passed = false → exec (.unitReturn c.ref) s = ends { status := 0x81 } u) ∧
      (x.state = .inService → exec (.unitReturn c.ref) s = ends { status := 0x80 } u) ∧
      (x.state = .testing → exec (.unitReturn c.ref) s = ends { status := 0x85 } u)) ∧
    (ready 0x87 c s = true → c.len = 0 → w < 4 →
      exec (.diagTest c.ref true) s = ends {} u ∧
      exec (.diagTest c.ref false) s = ends { status := 0x82 } (report 252 14 w (le 8 w) u)) ∧
    (findCmd c.ref s = some c → s.sys.mode.engine = true → c.opcode = 0x87 → c.stage = .fetched → startable c s = true →
      s.sys.mode ≠ .diag → exec (.diagTest c.ref ok) s = .next (finish c { status := 5 } 0 0 s))

/-- VDD_AON_GOOD in OFF enters RESET, and changes nothing in another mode; VDD_AON_LOST enters OFF, and changes nothing there.
RAIL_RESET_LEVEL, RESET_N_ASSERT and a ready SYS_RESET reset the device with kinds 4, 1 and 3, except in OFF and LOCKDOWN. A reset
leaves the mode RESET, the kind, one more RESETS, the copy of FLT_FIRST in SYS_PRIOR_FIRST, the fuses, every register, unit, ring,
job, pool and table as after power-on, and only the always-on domain powered. RESET_N_RELEASE with good rails and clocks samples
the straps, powers the domains up, starts the memory training and enters WIPE; with a fuse error it enters LOCKDOWN, and else only
releases the pin. WIPE_COMPLETE with no memory channel in training records what its read-back found, with FC178 and a fenced
channel for a granule of Burlap and FC243 for an on-die memory, and then zeroes the memories and enters BOOT, or DIAG where the
life cycle is RETIRED, and else changes nothing. THERMAL_TRIP drives THERMTRIP_N and enters LOCKDOWN, but in OFF changes nothing.
The model's own choices in these rows: log entries 7, 58 and 69. (19_modes_and_boot.md, 20_package_and_electrical.md) -/
def Obligations.ResetAndPower : Prop :=
  ∀ (k rail straps n : Nat) (good : Bool) (found : WipeFound) (c : Cmd) (s : State),
    (s.sys.mode = .off → ∀ e, ∃ t, exec (.vddAonGood e) s = .next t ∧ t.sys.mode = .reset ∧ t.sys.fuseError = e) ∧
    (s.sys.mode ≠ .off → exec (.vddAonGood good) s = .next s) ∧
    (s.sys.mode ≠ .off →
      ∃ t, exec .vddAonLost s = .next t ∧ t.sys.mode = .off ∧ t.sys.lifecycle = s.sys.lifecycle ∧ t.sys.rollback = s.sys.rollback ∧
        t.sys.revoked = s.sys.revoked ∧ t.sys.keyHash = s.sys.keyHash ∧ t.sys.resets = 0) ∧
    (s.sys.mode = .off → exec .vddAonLost s = .next s) ∧
    (rail < 5 → exec (.railResetLevel rail) s = .next (doReset 4 s)) ∧
    exec .resetNAssert s = .next (doReset 1 { s with sys := { s.sys with resetN := true } }) ∧
    (ready 0xB1 c s = true → c.len = 0 → c.op 0 1 = 0x5A → exec (.sysReset c.ref) s = .next (doReset 3 (started c s))) ∧
    ((s.sys.mode = .off ∨ s.sys.mode = .lockdown) → doReset k s = s) ∧
    (s.sys.mode ≠ .off → s.sys.mode ≠ .lockdown →
      let t := doReset k s
      t.sys.mode = .reset ∧ t.sys.resetKind = k ∧ t.sys.resets = min (s.sys.resets + 1) 65535 ∧ t.sys.priorFirst = firstBytes s ∧
      t.sys.lifecycle = s.sys.lifecycle ∧ t.sys.rollback = s.sys.rollback ∧ t.sys.revoked = s.sys.revoked ∧
      t.sys.keyHash = s.sys.keyHash ∧ t.sys.debug = 0 ∧ t.sys.nonce = none ∧ t.sys.image = [] ∧
      t.regs = [] ∧ t.hif = {} ∧ t.lan = {} ∧ t.mac = {} ∧ t.slt = {} ∧ t.pip = {} ∧ t.tbl = {} ∧ t.buf = {} ∧ t.sch = {} ∧
      t.col = {} ∧ t.pool = {} ∧ t.seq = {} ∧ t.mem = {} ∧ t.tim = {} ∧ t.tel = {} ∧ t.pwr = { doms := heldDoms } ∧ t.flt = {}) ∧
    (s.sys.mode = .reset → s.sys.fuseError = false → ∃ t, exec (.resetNRelease straps true) s = .next t ∧ t.sys.mode = .wipe ∧
      t.sys.straps = straps % 16 ∧ (n < 32 → (getMChan n t).st = .training) ∧ (1 ≤ n → n ≤ 30 → (getDom n t).st = .on)) ∧
    (s.sys.mode = .reset → s.sys.fuseError = true → ∃ t, exec (.resetNRelease straps good) s = .next t ∧ t.sys.mode = .lockdown) ∧
    (s.sys.mode = .reset → s.sys.fuseError = false →
      exec (.resetNRelease straps false) s = .next { s with sys := { s.sys with resetN := false } }) ∧
    (s.sys.mode ≠ .reset → exec (.resetNRelease straps good) s = .next { s with sys := { s.sys with resetN := false } }) ∧
    (s.sys.mode = .wipe → (found.units.all fun u => decide (u.1 < 15) && decide (u.2 < 65536)) = true → (∀ ch, ch < 32 → (getMChan ch s).st ≠ .training) → ∃ t, exec (.wipeComplete found) s = .next t ∧
      t.sys.mode = (if s.sys.lifecycle = .retired then .diag else .boot) ∧ t.mem.burlap = [] ∧ t.seq.scratch = [] ∧ t.upset = [] ∧ t.flt = (endWipeRuns (wipeReadBack found s)).flt) ∧
    ((found.units.all fun u => decide (u.1 < 15) && decide (u.2 < 65536)) = true → (s.sys.mode ≠ .wipe ∨ ((List.range 32).any fun ch => decide ((getMChan ch s).st = .training)) = true) → exec (.wipeComplete found) s = .next s) ∧
    (n < 32 → s.sys.mode ≠ .off → ∃ t, exec (.thermalTrip n) s = .next t ∧ t.sys.mode = .lockdown ∧ t.sys.thermtrip = true) ∧
    (n < 32 → s.sys.mode = .off → exec (.thermalTrip n) s = .next s)

/-- In BOOT, unless BOOT_SRC is 1, the flash slot of the higher IMAGE_VERSION, slot A where both are equal, or slot B alone where
BOOT_SRC is 3, loads its stores if its image is accepted, and the device enters STAGED; a refused image records its class, the
other slot is then taken the same way, and where both are refused the device stays. With no acceptable image, FC241 is recorded
and the device waits for the host. GO of a waiting device makes it busy, and its image, checked, loads or is refused with ERR. In
another mode these rows, but for HOST_BOOT_GO, change nothing. MODE_SET acts by Table 19.2: the present mode is OK with no change,
and so is 5 in DEGRADED; from STAGED, 5 enters FORWARD or DEGRADED, 8 DOZE with idle ports, 11 DIAG where the life cycle allows
it; 4 enters STAGED from DOZE; 7 in FORWARD or DEGRADED with no job enters DRAIN and waits, and answers 0x81 with one; 7 in STAGED
answers 0x80. DRAIN_END with every queue empty enters STAGED and changes nothing where it is not in DRAIN or a queue holds
packets; DRAIN_LIMIT in DRAIN enters STAGED, and in another mode changes nothing. The model's own choices in these rows: log
entries 69 and 70. (19_modes_and_boot.md) -/
def Obligations.BootAndModes : Prop :=
  ∀ (slotA slotB image : List Byte) (v : Word) (c : Cmd) (s : State),
    let x : Nat × List Byte := if bootSrc s = 3 ∨ imgVersion slotA < imgVersion slotB then (1, slotB) else (0, slotA)
    let y : Nat × List Byte := if imgVersion slotA < imgVersion slotB then (0, slotA) else (1, slotB)
    let u := started c s
    let m := c.op 0 1
    let n := rdFld Reg.sysHostBootCtrl 0 0 23 s
    let ends := fun (r : CmdRes) (t : State) => (.next (conclude c r (cmdDoms c s) t) : Res)
    (s.sys.mode = .boot → s.sys.hostWait = false → s.sys.bootBusy = false → bootSrc s ≠ 1 →
      (imageFault x.2 s = none → exec (.bootImageAccepted slotA slotB) s = .next (loadImage x.1 false x.2 s) ∧
        (loadImage x.1 false x.2 s).sys.mode = .staged ∧ (loadImage x.1 false x.2 s).sys.imageSlot = x.1 ∧
        (loadImage x.1 false x.2 s).sys.secVersion = imgSecurity x.2) ∧
      (∀ f, imageFault x.2 s = some f → bootSrc s = 3 → exec (.bootImageAccepted slotA slotB) s = .next (report f 0 0 (le 8 x.1) s)) ∧
      (∀ f, imageFault x.2 s = some f → bootSrc s ≠ 3 →
        let t := report f 0 0 (le 8 x.1) s
        (imageFault y.2 t = none → exec (.bootImageAccepted slotA slotB) s = .next (loadImage y.1 false y.2 t)) ∧
        (∀ g, imageFault y.2 t = some g → exec (.bootImageAccepted slotA slotB) s = .next (report g 0 0 (le 8 y.1) t))) ∧
      exec .noAcceptableImage s = .next (report 241 0 0 [] { s with sys := { s.sys with hostWait := true } })) ∧
    (s.sys.mode ≠ .boot → exec (.bootImageAccepted slotA slotB) s = .next s ∧ exec .noAcceptableImage s = .next s ∧
      exec (.hostImageChecked image) s = .next s) ∧
    (s.sys.mode = .boot → s.sys.hostWait = true → s.sys.bootBusy = false → bitAt v.toNat 24 = true →
      ∃ t, exec (.hostBootGo v) s = .next t ∧ t.sys = { s.sys with bootBusy := true, bootErr := false }) ∧
    (s.sys.mode = .boot → s.sys.bootBusy = true → n ≤ 4194304 →
      (imageFault (image.take n) s = none → exec (.hostImageChecked image) s = .next (loadImage 0 true (image.take n) s)) ∧
      (∀ f, imageFault (image.take n) s = some f → exec (.hostImageChecked image) s =
        .next (report f 0 0 [] { s with sys := { s.sys with bootBusy := false, bootErr := true } }))) ∧
    (ready 0xB0 c s = true → c.len = 0 → (m = 4 ∨ m = 5 ∨ m = 7 ∨ m = 8 ∨ m = 11) →
      (m = s.sys.mode.num → exec (.modeSet c.ref) s = ends {} u) ∧
      (m = 5 → s.sys.mode = .staged → exec (.modeSet c.ref) s =
        ends {} (setMode (if anyFenced u then .degraded else .forward) 0 u)) ∧
      (m = 5 → s.sys.mode = .degraded → exec (.modeSet c.ref) s = ends {} u) ∧
      (m = 7 → (s.sys.mode = .forward ∨ s.sys.mode = .degraded) → (s.col.jobs.any fun e => e.2.st != .free) = false →
        ∃ t, exec (.modeSet c.ref) s = .next t ∧ t.sys.mode = .drain ∧ t.sys.modeWait = some (c.ref, .staged)) ∧
      (m = 7 → (s.sys.mode = .forward ∨ s.sys.mode = .degraded) → (s.col.jobs.any fun e => e.2.st != .free) = true →
        exec (.modeSet c.ref) s = ends { status := 0x81 } u) ∧
      (m = 8 → s.sys.mode = .staged → portsIdle s = true → exec (.modeSet c.ref) s =
        ends {} (dozeMem (allToZero (setMode .doze 0 u)))) ∧
      (m = 4 → s.sys.mode = .doze → exec (.modeSet c.ref) s = ends {} (undozeMem (setMode .staged 0 u))) ∧
      (m = 11 → s.sys.mode = .staged → diagAllowed s = true → exec (.modeSet c.ref) s = ends {} (setMode .diag 0 u)) ∧
      (m = 7 → s.sys.mode = .staged → exec (.modeSet c.ref) s = ends { status := 0x80 } u)) ∧
    (s.sys.mode = .drain → allQueuesEmpty s = true → exec .drainEnd s = .next (endDrainMode 0 s) ∧ (endDrainMode 0 s).sys.mode = .staged) ∧
    ((s.sys.mode ≠ .drain ∨ allQueuesEmpty s = false) → exec .drainEnd s = .next s) ∧
    (s.sys.mode ≠ .drain → exec .drainLimit s = .next s) ∧
    (s.sys.mode = .drain → ∃ t, exec .drainLimit s = .next t ∧ t.sys.mode = .staged ∧ t.sys.modeWait = none)

/-- A ready LC_ADVANCE in STAGED takes BLANK to PROVISIONED with the host's key hashes and slot 0 revoked, PROVISIONED with an
image of slot 1 to 3 to FIELD, and any other state to RETIRED, each with a reset of kind 5; where the state is not PROVISIONED, 2
answers 0x82, and outside STAGED 3 does. ROLLBACK_ADVANCE raises the counter to the image's SECURITY_VERSION and answers it.
DEBUG_CHALLENGE moves a nonce and the device ID and holds the nonce with its scope; NONCE_EXPIRY drops it. DEBUG_UNLOCK without a
nonce answers 0x84, after 8 failures 0x85; with a response that does not verify it answers 0x83, counts the failure, reports FC245
and voids the nonce; with one that verifies it grants the scope, in FIELD by a reset of kind 6. FLASH_WRITE programs a slot that
is not the active one, answers 0x88 where the flash fails and 0x86 for the active one, KEY_REVOKE revokes a slot that is not the
last, and answers 0x87 for the active image's. TAP_INSTRUCTION selects the instruction, or BYPASS with FC246 for a private one
that is closed, drives the balls that the instruction drives, and, where bits are shifted, passes through the selected register:
SAMPLE captures the balls, shifts the boundary register out and takes the new one; IDCODE and BYPASS shift out their registers; in
OFF it changes nothing. The model's own choices in these rows: log entries 4, 6, 69, 70, 71 and 72. (19_modes_and_boot.md,
20_package_and_electrical.md) -/
def Obligations.LifeCycleCommands : Prop :=
  ∀ (c : Cmd) (bs : List Byte) (ans : HostAns) (ok : Bool) (code : Byte) (scan : TapScan) (s : State),
    let u := started c s
    let k := c.op 0 1
    let b := fit c.len bs
    let lc := exec (.lcAdvance c.ref (.data bs)) s
    let run := exec (.debugUnlock c.ref (.data bs)) s
    let top := max s.sys.rollback s.sys.secVersion
    let voided : State := { u with sys := { s.sys with nonce := none } }
    let failed : State := { u with sys := { s.sys with nonce := none, unlockFails := s.sys.unlockFails + 1 } }
    let at1 := if tapPrivate code.toNat ∧ !jtagOpen s then report 246 0 0 (le 8 code.toNat) { s with sys := { s.sys with tapIr := 0xFF } } else { s with sys := { s.sys with tapIr := code.toNat } }
    let ir := fun (i : Nat) => ({ s with sys := { s.sys with tapIr := i } } : State)
    let scanned := shiftCells (captureCells scan.pins s) scan.tdi
    let sampled : State := { s with sys := { s.sys with tapIr := 2, boundary := cellTab scanned.2, boundaryLatch := cellTab scanned.2 } }
    let ends := fun (r : CmdRes) (t : State) => (.next (conclude c r (cmdDoms c s) t) : Res)
    (ready 0xB2 c s = true → s.sys.mode = .staged →
      (k = 1 → 1 ≤ c.op 1 1 → c.op 1 1 ≤ 3 → c.len = 48 * c.op 1 1 → s.sys.lifecycle = .blank → ∃ t, lc = .next t ∧
        t.sys.mode = .reset ∧ t.sys.resetKind = 5 ∧ t.sys.lifecycle = .provisioned ∧ bitAt t.sys.revoked 0 = true ∧
        (∀ i, i < c.op 1 1 → tget t.sys.keyHash (i + 1) = slice b (48 * i) 48)) ∧
      (k = 2 → c.len = 0 → s.sys.lifecycle = .provisioned → 1 ≤ s.sys.keySlot → ∃ t, lc = .next t ∧
        t.sys.mode = .reset ∧ t.sys.resetKind = 5 ∧ t.sys.lifecycle = .field) ∧
      (k = 3 → c.len = 0 → s.sys.lifecycle ≠ .retired → ∃ t, lc = .next t ∧
        t.sys.mode = .reset ∧ t.sys.resetKind = 5 ∧ t.sys.lifecycle = .retired) ∧
      (k = 2 → c.len = 0 → s.sys.lifecycle ≠ .provisioned → lc = ends { status := 0x82 } u)) ∧
    (ready 0xB2 c s = true → s.sys.mode ≠ .staged → k = 3 → c.len = 0 → lc = ends { status := 0x82 } u) ∧
    (ready 0xB3 c s = true → c.len = 0 →
      exec (.rollbackAdvance c.ref) s = ends { payload := [byte top] } { u with sys := { s.sys with rollback := top } }) ∧
    (ready 0xB4 c s = true → k < 4 → c.len = 64 → ∃ n : List Byte, n.length = 48 ∧
      exec (.debugChallenge c.ref) s = ends { data := n ++ fit 16 Config.deviceId }
        { u with sys := { s.sys with nonce := some { bytes := n, scope := k } }, freeIx := s.freeIx + 6 }) ∧
    exec .nonceExpiry s = .next { s with sys := { s.sys with nonce := none } } ∧
    (ready 0xB5 c s = true → c.len = 192 → k < 4 → 1 ≤ c.op 1 1 → c.op 1 1 < 4 →
      (8 ≤ s.sys.unlockFails → run = ends { status := 0x85 } u) ∧
      (s.sys.unlockFails < 8 → s.sys.nonce = none → run = ends { status := 0x84 } u) ∧
      (∀ n, s.sys.unlockFails < 8 → s.sys.nonce = some n →
        (unlockOk b n.bytes (c.op 1 1) k voided = false →
          run = ends { status := 0x83 } (post 0xB001 [byte k, 0] (report 245 0 0 [byte k, 0] failed))) ∧
        (unlockOk b n.bytes (c.op 1 1) k voided = true → s.sys.lifecycle ≠ .field → ∃ t, run = .next t ∧
          t.sys.debug = s.sys.debug ||| k ∧ t.sys.nonce = none) ∧
        (unlockOk b n.bytes (c.op 1 1) k voided = true → s.sys.lifecycle = .field → s.sys.mode ≠ .off → s.sys.mode ≠ .lockdown →
          ∃ t, run = .next t ∧ t.sys.mode = .reset ∧ t.sys.resetKind = 6 ∧ t.sys.grantAcross = k))) ∧
    (ready 0xB6 c s = true → k < 2 → c.op 4 4 % 65536 = 0 → c.len % 65536 = 0 → c.op 4 4 + c.len ≤ 4194304 →
      ((s.sys.image = [] ∨ s.sys.hostImage = true ∨ s.sys.imageSlot ≠ k) →
        exec (.flashWrite c.ref (.data bs) true) s = ends {} (emit (.flash k (c.op 4 4) b) u) ∧
        exec (.flashWrite c.ref (.data bs) false) s = ends { status := 0x88 } u) ∧
      (s.sys.image ≠ [] → s.sys.hostImage = false → s.sys.imageSlot = k →
        exec (.flashWrite c.ref ans ok) s = ends { status := 0x86 } u)) ∧
    (ready 0xB7 c s = true → 1 ≤ k → k ≤ 3 → c.len = 0 →
      ((s.sys.image = [] ∨ s.sys.keySlot ≠ k) → (∃ i, i < 4 ∧ i ≠ k ∧ slotAllowed i s = true) → exec (.keyRevoke c.ref) s =
        ends {} { u with sys := { s.sys with revoked := s.sys.revoked ||| 2 ^ k } }) ∧
      (s.sys.image ≠ [] → s.sys.keySlot = k → exec (.keyRevoke c.ref) s = ends { status := 0x87 } u)) ∧
    (s.sys.mode = .off → exec (.tapInstruction code scan) s = .next s) ∧
    (s.sys.mode ≠ .off →
      exec (.tapInstruction code scan) s = .next (tapPass scan (driveBalls at1)) ∧
      (scan.tdi = [] → exec (.tapInstruction code scan) s = .next (driveBalls at1)) ∧
      (scan.tdi ≠ [] → exec (.tapInstruction 2 scan) s = .next (emit (.tdo scanned.1) sampled)) ∧
      (scan.tdi ≠ [] → exec (.tapInstruction 1 scan) s = .next (emit (.tdo (shiftCells idCells scan.tdi).1) (ir 1))) ∧
      (scan.tdi ≠ [] → exec (.tapInstruction 0xFF scan) s = .next (emit (.tdo (shiftCells [{}] scan.tdi).1) (ir 0xFF))))

/-- At State.reset the device is in RESET after a power-on, with no reset counted and no record kept; no command waits, no fault
has been recorded, every unit is in service, no ring is enabled, every lane is OFF, every port DISABLED and every job free; the
Burlap memory is in canonical form and DC00 in service; the always-on domain is on, and domains 1 to 30 are off.
(02_control_model.md, 18_faults.md, 19_modes_and_boot.md) -/
def Obligations.ResetState : Prop :=
  State.reset.pending = [] ∧ State.reset.sys.mode = .reset ∧ State.reset.sys.resetKind = 0 ∧ State.reset.sys.resets = 0 ∧
  State.reset.sys.priorFirst = [] ∧ State.reset.sys.perstCount = 0 ∧ State.reset.sys.debug = 0 ∧ State.reset.sys.hostWait = false ∧
  State.reset.flt.first = none ∧ State.reset.flt.nextSeq = 0 ∧ State.reset.flt.recs = [] ∧
  (∀ k i, fencedU k i State.reset = false) ∧ (∀ n, ringOn n State.reset = false) ∧
  (∀ n, (getLane n State.reset).st = .off) ∧ (∀ p, (getPort p State.reset).st = .disabled) ∧
  (∀ j, (getJob j State.reset).st = .free) ∧ burlapOk State.reset = true ∧
  trising State.reset.flt.units = true ∧ dc00Ok State.reset = true ∧
  ((List.range 31).map fun d => (getDom d State.reset).st) = .on :: List.replicate 30 .off

/-- exec of a well-formed command answers a next state whatever the state; of an ill-formed one it answers the fault noSuchUnit.
No command is refused. (00_scope.md, 95_what_each_step_holds.md) -/
def Obligations.EveryCommandAnswers : Prop :=
  ∀ (c : Instr) (s : State),
    (wellFormed c = true → ∃ t, exec c s = .next t) ∧ (wellFormed c = false → exec c s = .fault .noSuchUnit)

/-- Whatever command a step runs, in whatever state: the mode stays, or it changes by a transition of Table 19.2. OFF is left only
for RESET, RESET only for WIPE, LOCKDOWN and OFF, WIPE and BOOT only as the boot sequence says, HOLD and DIAG only for RESET, OFF,
LOCKDOWN and (from DIAG) HOLD; LOCKDOWN is left only for OFF, and only by a loss of VDD_AON. The model's own choices in these
rows: log entry 7. (18_faults.md, 19_modes_and_boot.md) -/
def Obligations.ModeTransitions : Prop :=
  ∀ (s t : State), step s = .next t →
    let m := s.sys.mode
    let n := t.sys.mode
    (n = m ∨ n = .off ∨ (n = .reset ∧ m ≠ .lockdown) ∨ (n = .lockdown ∧ m ≠ .off) ∨
      (n = .hold ∧ m ≠ .off ∧ m ≠ .reset ∧ m ≠ .lockdown) ∨
      (m, n) ∈ ([(.reset, .wipe), (.wipe, .boot), (.wipe, .diag), (.boot, .staged), (.staged, .forward), (.staged, .degraded),
        (.forward, .degraded), (.degraded, .forward), (.forward, .drain), (.degraded, .drain), (.drain, .staged), (.staged, .doze),
        (.doze, .staged), (.staged, .diag)] : List (Mode × Mode))) ∧
    (m = .lockdown → n = .lockdown ∨ (n = .off ∧ s.pending.head? = some .vddAonLost)) ∧
    (m = .off → n = .off ∨ (n = .reset ∧ ∃ e, s.pending.head? = some (.vddAonGood e))) ∧
    (n = .off → m = .off ∨ s.pending.head? = some .vddAonLost)

/-- Whatever command a step runs: if the Burlap memory and the table of fenced units are in canonical form they stay so, and DC00,
if in service then, is not fenced; the life cycle never goes back, the rollback counter never falls and no revocation is undone;
and a step takes exactly the front command out of the queue. (That DC00 and the fuses are in this state to begin with is
ResetState; the fuses may be any.) (14_memory_interface.md, 18_faults.md, 19_modes_and_boot.md, 95_what_each_step_holds.md) -/
def Obligations.StepInvariant : Prop :=
  ∀ (lc rb rv : Nat) (s t : State),
    let inv := fun (u : State) => burlapOk u = true ∧ trising u.flt.units = true ∧ dc00Ok u = true ∧ lc ≤ u.sys.lifecycle.code ∧ rb ≤ u.sys.rollback ∧
      u.sys.revoked &&& rv = rv
    inv s → step s = .next t → inv t ∧ t.pending = s.pending.tail
end

