-- ==== Sys2Proof/Laws/Frame.lean ====
section
/-! SUPPORT. Frames: `Fr M s t` says which parts of the state differ between `s` and `t` at most, by the bits of the mask `M`. The
lemmas of Laws/Frame… say it of every function of the machine, once; `Fr.trans` and `Fr.mono` put them together. -/
namespace Sys2Proof.Machine

/-- The parts of the state that are the same in `t` as in `s`: all but those whose bit of the mask is set. -/
structure Fr (M : Nat) (s t : State) : Prop where
  pending : M.testBit 0 = true ∨ t.pending = s.pending
  regs : M.testBit 1 = true ∨ t.regs = s.regs
  latch : M.testBit 2 = true ∨ t.latch = s.latch
  hold : M.testBit 3 = true ∨ t.hold = s.hold
  aon : M.testBit 4 = true ∨ t.aon = s.aon
  out : M.testBit 5 = true ∨ t.out = s.out
  freeIx : M.testBit 6 = true ∨ t.freeIx = s.freeIx
  hif : M.testBit 7 = true ∨ t.hif = s.hif
  tim : M.testBit 8 = true ∨ t.tim = s.tim
  flt : M.testBit 9 = true ∨ t.flt = s.flt
  sys : M.testBit 10 = true ∨ t.sys = s.sys
  lan : M.testBit 11 = true ∨ t.lan = s.lan
  mac : M.testBit 12 = true ∨ t.mac = s.mac
  tel : M.testBit 13 = true ∨ t.tel = s.tel
  pwr : M.testBit 14 = true ∨ t.pwr = s.pwr
  slt : M.testBit 15 = true ∨ t.slt = s.slt
  pip : M.testBit 16 = true ∨ t.pip = s.pip
  tbl : M.testBit 17 = true ∨ t.tbl = s.tbl
  buf : M.testBit 18 = true ∨ t.buf = s.buf
  sch : M.testBit 19 = true ∨ t.sch = s.sch
  mem : M.testBit 20 = true ∨ t.mem = s.mem
  col : M.testBit 21 = true ∨ t.col = s.col
  pool : M.testBit 22 = true ∨ t.pool = s.pool
  seq : M.testBit 23 = true ∨ t.seq = s.seq
  upset : M.testBit 24 = true ∨ t.upset = s.upset
  units : M.testBit 25 = true ∨ t.flt.units = s.flt.units
  first : M.testBit 29 = true ∨ (t.flt.first, t.flt.nextSeq, t.flt.hist) = (s.flt.first, s.flt.nextSeq, s.flt.hist)
  mode : M.testBit 26 = true ∨ t.sys.mode = s.sys.mode
  fuses : M.testBit 27 = true ∨ (t.sys.lifecycle, t.sys.rollback, t.sys.revoked, t.sys.keyHash) = (s.sys.lifecycle, s.sys.rollback, s.sys.revoked, s.sys.keyHash)
  burlap : M.testBit 28 = true ∨ t.mem.burlap = s.mem.burlap

theorem Fr.refl (M : Nat) (s : State) : Fr M s s := by constructor <;> exact .inr rfl

theorem Fr.trans {M : Nat} {s t u : State} (a : Fr M s t) (b : Fr M t u) : Fr M s u :=
  ⟨go a.pending b.pending, go a.regs b.regs, go a.latch b.latch, go a.hold b.hold, go a.aon b.aon, go a.out b.out,
    go a.freeIx b.freeIx, go a.hif b.hif, go a.tim b.tim, go a.flt b.flt, go a.sys b.sys, go a.lan b.lan, go a.mac b.mac,
    go a.tel b.tel, go a.pwr b.pwr, go a.slt b.slt, go a.pip b.pip, go a.tbl b.tbl, go a.buf b.buf, go a.sch b.sch,
    go a.mem b.mem, go a.col b.col, go a.pool b.pool, go a.seq b.seq, go a.upset b.upset, go a.units b.units,
    go a.first b.first, go a.mode b.mode, go a.fuses b.fuses, go a.burlap b.burlap⟩
where
  go {α : Type} {p : Prop} {x y z : α} : p ∨ y = x → p ∨ z = y → p ∨ z = x
    | .inl h, _ => .inl h
    | .inr _, .inl h => .inl h
    | .inr h, .inr k => .inr (k.trans h)

theorem Fr.mono {K M : Nat} {s t : State} (h : K ||| M = M) (a : Fr K s t) : Fr M s t :=
  ⟨go 0 a.pending, go 1 a.regs, go 2 a.latch, go 3 a.hold, go 4 a.aon, go 5 a.out, go 6 a.freeIx, go 7 a.hif,
    go 8 a.tim, go 9 a.flt, go 10 a.sys, go 11 a.lan, go 12 a.mac, go 13 a.tel, go 14 a.pwr, go 15 a.slt, go 16 a.pip,
    go 17 a.tbl, go 18 a.buf, go 19 a.sch, go 20 a.mem, go 21 a.col, go 22 a.pool, go 23 a.seq, go 24 a.upset,
    go 25 a.units, go 29 a.first, go 26 a.mode, go 27 a.fuses, go 28 a.burlap⟩
where
  go {p : Prop} (i : Nat) (x : K.testBit i = true ∨ p) : M.testBit i = true ∨ p :=
    x.imp (fun hk => by rw [← h, Nat.testBit_or, hk, Bool.true_or]) id

/-- A function's own frame after what was done before it. -/
theorem Fr.step {K M : Nat} {s t u : State} (b : Fr K t u) (h : K ||| M = M) (a : Fr M s t) : Fr M s u := a.trans (b.mono h)

theorem Fr.sub {K L M : Nat} (h : K ||| L = L) (k : L ||| M = M) : K ||| M = M := by
  rw [← k, ← Nat.or_assoc, h]

theorem Fr.cut {M : Nat} {s t : State} {P : Prop} (h : Fr M s t) (k : Fr M s t → P) : P := k h

theorem Fr.ite {M : Nat} {s a b : State} {c : Prop} [Decidable c] (ha : Fr M s a) (hb : Fr M s b) : Fr M s (if c then a else b) := by
  split
  · exact ha
  · exact hb

theorem Fr.ite1 {M : Nat} {s : State} {β : Type} {a b : State × β} {c : Prop} [Decidable c] (ha : Fr M s a.1) (hb : Fr M s b.1) :
    Fr M s (if c then a else b).1 := by
  split
  · exact ha
  · exact hb

theorem Fr.ite2 {M : Nat} {s : State} {β : Type} {a b : β × State} {c : Prop} [Decidable c] (ha : Fr M s a.2) (hb : Fr M s b.2) :
    Fr M s (if c then a else b).2 := by
  split
  · exact ha
  · exact hb

theorem Fr.ite3 {M : Nat} {s : State} {β γ : Type} {a b : β × γ × State} {c : Prop} [Decidable c] (ha : Fr M s a.2.2)
    (hb : Fr M s b.2.2) : Fr M s (if c then a else b).2.2 := by
  split
  · exact ha
  · exact hb

theorem Fr.of_eq {M : Nat} {s t : State} {β : Type} {x : β} {p : β × State} (e : p = (x, t)) (h : Fr M s p.2) : Fr M s t := by
  rw [e] at h
  exact h

theorem Fr.of_eq3 {M : Nat} {s t : State} {β γ : Type} {x : β} {y : γ} {p : β × γ × State} (e : p = (x, y, t)) (h : Fr M s p.2.2) :
    Fr M s t := by
  rw [e] at h
  exact h

theorem Fr.foldl {M : Nat} {s t : State} {α : Type} {f : State → α → State} {l : List α} (ht : Fr M s t)
    (hf : ∀ u x, Fr M s u → Fr M s (f u x)) : Fr M s (l.foldl f t) := by
  induction l generalizing t with
  | nil => exact ht
  | cons x r ih => exact ih (hf t x ht)

theorem Fr.foldl2 {M : Nat} {s : State} {α β : Type} {f : β × State → α → β × State} {l : List α} {a : β × State} (ha : Fr M s a.2)
    (hf : ∀ u x, Fr M s u.2 → Fr M s (f u x).2) : Fr M s (l.foldl f a).2 := by
  induction l generalizing a with
  | nil => exact ha
  | cons x r ih => exact ih (hf a x ha)

theorem Fr.foldl3 {M : Nat} {s : State} {α β γ : Type} {f : β × γ × State → α → β × γ × State} {l : List α} {a : β × γ × State}
    (ha : Fr M s a.2.2) (hf : ∀ u x, Fr M s u.2.2 → Fr M s (f u x).2.2) : Fr M s (l.foldl f a).2.2 := by
  induction l generalizing a with
  | nil => exact ha
  | cons x r ih => exact ih (hf a x ha)

/-- A record update: the parts given anew are in the mask or are the old ones. -/
theorem Fr.upd {M : Nat} {s t : State} {x_regs : Tab Word} {x_latch : Tab (Option Word)} {x_hold : Tab (Option Word)} {x_aon : Nat} {x_out : List Out}
    {x_freeIx : Nat} {x_hif : HifState} {x_tim : TimState} {x_flt : FltState} {x_sys : SysState} {x_lan : LanState}
    {x_mac : MacState} {x_tel : TelState} {x_pwr : PwrState} {x_slt : SltState} {x_pip : PipState} {x_tbl : TblState}
    {x_buf : BufState} {x_sch : SchState} {x_mem : MemState} {x_col : ColState} {x_pool : PoolState} {x_seq : SeqState}
    {x_upset : Tab Nat} (h : Fr M s t)
    (h_regs : M.testBit 1 = true ∨ x_regs = t.regs)
    (h_latch : M.testBit 2 = true ∨ x_latch = t.latch)
    (h_hold : M.testBit 3 = true ∨ x_hold = t.hold)
    (h_aon : M.testBit 4 = true ∨ x_aon = t.aon)
    (h_out : M.testBit 5 = true ∨ x_out = t.out)
    (h_freeIx : M.testBit 6 = true ∨ x_freeIx = t.freeIx)
    (h_hif : M.testBit 7 = true ∨ x_hif = t.hif)
    (h_tim : M.testBit 8 = true ∨ x_tim = t.tim)
    (h_flt : M.testBit 9 = true ∨ x_flt = t.flt)
    (h_sys : M.testBit 10 = true ∨ x_sys = t.sys)
    (h_lan : M.testBit 11 = true ∨ x_lan = t.lan)
    (h_mac : M.testBit 12 = true ∨ x_mac = t.mac)
    (h_tel : M.testBit 13 = true ∨ x_tel = t.tel)
    (h_pwr : M.testBit 14 = true ∨ x_pwr = t.pwr)
    (h_slt : M.testBit 15 = true ∨ x_slt = t.slt)
    (h_pip : M.testBit 16 = true ∨ x_pip = t.pip)
    (h_tbl : M.testBit 17 = true ∨ x_tbl = t.tbl)
    (h_buf : M.testBit 18 = true ∨ x_buf = t.buf)
    (h_sch : M.testBit 19 = true ∨ x_sch = t.sch)
    (h_mem : M.testBit 20 = true ∨ x_mem = t.mem)
    (h_col : M.testBit 21 = true ∨ x_col = t.col)
    (h_pool : M.testBit 22 = true ∨ x_pool = t.pool)
    (h_seq : M.testBit 23 = true ∨ x_seq = t.seq)
    (h_upset : M.testBit 24 = true ∨ x_upset = t.upset)
    (h_units : M.testBit 25 = true ∨ x_flt.units = t.flt.units)
    (h_first : M.testBit 29 = true ∨ (x_flt.first, x_flt.nextSeq, x_flt.hist) = (t.flt.first, t.flt.nextSeq, t.flt.hist))
    (h_mode : M.testBit 26 = true ∨ x_sys.mode = t.sys.mode)
    (h_fuses : M.testBit 27 = true ∨ (x_sys.lifecycle, x_sys.rollback, x_sys.revoked, x_sys.keyHash) = (t.sys.lifecycle, t.sys.rollback, t.sys.revoked, t.sys.keyHash))
    (h_burlap : M.testBit 28 = true ∨ x_mem.burlap = t.mem.burlap) : Fr M s ⟨t.pending, x_regs, x_latch, x_hold, x_aon, x_out, x_freeIx, x_hif, x_tim, x_flt, x_sys, x_lan, x_mac, x_tel, x_pwr, x_slt,
    x_pip, x_tbl, x_buf, x_sch, x_mem, x_col, x_pool, x_seq, x_upset⟩ :=
  h.trans ⟨.inr rfl, h_regs, h_latch, h_hold, h_aon, h_out, h_freeIx, h_hif, h_tim, h_flt, h_sys, h_lan, h_mac, h_tel, h_pwr, h_slt,
    h_pip, h_tbl, h_buf, h_sch, h_mem, h_col, h_pool, h_seq, h_upset, h_units, h_first, h_mode, h_fuses, h_burlap⟩

/-- The result of a row. -/
structure FrR (M : Nat) (s : State) (r : Res) : Prop where
  out : ∀ t, r = .next t → Fr M s t

theorem FrR.next {M : Nat} {s t : State} (h : Fr M s t) : FrR M s (.next t) := ⟨fun _ e => by cases e; exact h⟩
theorem FrR.fault {M : Nat} {s : State} {f : Fault} : FrR M s (.fault f) := ⟨fun _ e => by cases e⟩
theorem FrR.within {M : Nat} {s t : State} {b : Bool} (h : Fr M s t) : FrR M s (within b t) := by
  unfold Machine.within
  split
  · exact .next h
  · exact .fault

end Sys2Proof.Machine
end

