-- ==== Sys2Proof/Laws/FrameOps.lean ====
section
/-! SUPPORT. What each function of Machine/Ops.lean changes at most, as a mask (Laws/Frame.lean). -/
set_option linter.unusedVariables false
set_option linter.unusedTactic false
set_option linter.unreachableTactic false
namespace Sys2Proof.Machine

theorem fr_within (ok : Bool) (s : State) : FrR 0 s (within ok s) := by
  unfold within
  repeat' (first
    | exact Or.inl rfl
    | exact Or.inr rfl
    | with_reducible refine FrR.within ?_
    | with_reducible refine FrR.next ?_
    | with_reducible exact FrR.fault
    | with_reducible refine Fr.ite ?_ ?_
    | split
    | (clear_value *; split)
    | with_reducible assumption
    | with_reducible exact Fr.refl _ _
    | with_reducible refine Fr.upd ‹_› ?_ ?_ ?_ ?_ ?_ ?_ ?_ ?_ ?_ ?_ ?_ ?_ ?_ ?_ ?_ ?_ ?_ ?_ ?_ ?_ ?_ ?_ ?_ ?_ ?_ ?_ ?_ ?_ ?_
    | with_reducible refine Fr.upd (Fr.refl _ _) ?_ ?_ ?_ ?_ ?_ ?_ ?_ ?_ ?_ ?_ ?_ ?_ ?_ ?_ ?_ ?_ ?_ ?_ ?_ ?_ ?_ ?_ ?_ ?_ ?_ ?_ ?_ ?_ ?_)

theorem fr_wrWord (r : RegDesc) (n w : Nat) (v : Word) (s : State) : Fr 2 s (wrWord r n w v s) := by
  unfold wrWord
  repeat' (first
    | exact Or.inl rfl
    | exact Or.inr rfl
    | lift_lets
    | (intro u_; refine Fr.cut (M := 2) (s := s) (t := u_) ?_ fun hu_ => ?_; (on_goal 2 => clear_value u_); (on_goal 1 => subst u_))
    | intro v_
    | with_reducible refine Fr.ite ?_ ?_
    | with_reducible assumption
    | with_reducible exact Fr.refl _ _
    | with_reducible refine Fr.upd ‹_› ?_ ?_ ?_ ?_ ?_ ?_ ?_ ?_ ?_ ?_ ?_ ?_ ?_ ?_ ?_ ?_ ?_ ?_ ?_ ?_ ?_ ?_ ?_ ?_ ?_ ?_ ?_ ?_ ?_
    | with_reducible refine Fr.upd (Fr.refl _ _) ?_ ?_ ?_ ?_ ?_ ?_ ?_ ?_ ?_ ?_ ?_ ?_ ?_ ?_ ?_ ?_ ?_ ?_ ?_ ?_ ?_ ?_ ?_ ?_ ?_ ?_ ?_ ?_ ?_)

theorem fr_wr (r : RegDesc) (n v : Nat) (s : State) : Fr 2 s (wr r n v s) := by
  unfold wr
  repeat' (first
    | exact Or.inl rfl
    | exact Or.inr rfl
    | lift_lets
    | (intro u_; refine Fr.cut (M := 2) (s := s) (t := u_) ?_ fun hu_ => ?_; (on_goal 2 => clear_value u_); (on_goal 1 => subst u_))
    | intro v_
    | with_reducible refine Fr.ite ?_ ?_
    | ((with_reducible apply Fr.step); (on_goal 1 => first | with_reducible apply fr_wrWord); (on_goal 1 => exact rfl))
    | split
    | with_reducible assumption
    | with_reducible exact Fr.refl _ _)

theorem fr_wrRw (r : RegDesc) (n v : Nat) (s : State) : Fr 2 s (wrRw r n v s) := by
  unfold wrRw
  repeat' (first
    | exact Or.inl rfl
    | exact Or.inr rfl
    | with_reducible refine Fr.ite ?_ ?_
    | ((with_reducible apply Fr.step); (on_goal 1 => first | with_reducible apply fr_wr); (on_goal 1 => exact rfl))
    | with_reducible assumption
    | with_reducible exact Fr.refl _ _)

theorem fr_wrFld (r : RegDesc) (n lo w v : Nat) (s : State) : Fr 2 s (wrFld r n lo w v s) := by
  unfold wrFld
  repeat' (first
    | exact Or.inl rfl
    | exact Or.inr rfl
    | with_reducible refine Fr.ite ?_ ?_
    | ((with_reducible apply Fr.step); (on_goal 1 => first | with_reducible apply fr_wr); (on_goal 1 => exact rfl))
    | with_reducible assumption
    | with_reducible exact Fr.refl _ _)

theorem fr_emit (o : Out) (s : State) : Fr 32 s (emit o s) := by
  unfold emit
  repeat' (first
    | exact Or.inl rfl
    | exact Or.inr rfl
    | lift_lets
    | (intro u_; refine Fr.cut (M := 32) (s := s) (t := u_) ?_ fun hu_ => ?_; (on_goal 2 => clear_value u_); (on_goal 1 => subst u_))
    | intro v_
    | with_reducible refine Fr.ite ?_ ?_
    | with_reducible assumption
    | with_reducible exact Fr.refl _ _
    | with_reducible refine Fr.upd ‹_› ?_ ?_ ?_ ?_ ?_ ?_ ?_ ?_ ?_ ?_ ?_ ?_ ?_ ?_ ?_ ?_ ?_ ?_ ?_ ?_ ?_ ?_ ?_ ?_ ?_ ?_ ?_ ?_ ?_
    | with_reducible refine Fr.upd (Fr.refl _ _) ?_ ?_ ?_ ?_ ?_ ?_ ?_ ?_ ?_ ?_ ?_ ?_ ?_ ?_ ?_ ?_ ?_ ?_ ?_ ?_ ?_ ?_ ?_ ?_ ?_ ?_ ?_ ?_ ?_)

theorem fr_takeFree (s : State) : Fr 64 s (takeFree s).2 := by
  unfold takeFree
  repeat' (first
    | exact Or.inl rfl
    | exact Or.inr rfl
    | lift_lets
    | (intro u_; refine Fr.cut (M := 64) (s := s) (t := u_) ?_ fun hu_ => ?_; (on_goal 2 => clear_value u_); (on_goal 1 => subst u_))
    | intro v_
    | with_reducible refine Fr.ite ?_ ?_
    | with_reducible refine Fr.ite2 ?_ ?_
    | with_reducible assumption
    | with_reducible exact Fr.refl _ _
    | with_reducible refine Fr.upd ‹_› ?_ ?_ ?_ ?_ ?_ ?_ ?_ ?_ ?_ ?_ ?_ ?_ ?_ ?_ ?_ ?_ ?_ ?_ ?_ ?_ ?_ ?_ ?_ ?_ ?_ ?_ ?_ ?_ ?_
    | with_reducible refine Fr.upd (Fr.refl _ _) ?_ ?_ ?_ ?_ ?_ ?_ ?_ ?_ ?_ ?_ ?_ ?_ ?_ ?_ ?_ ?_ ?_ ?_ ?_ ?_ ?_ ?_ ?_ ?_ ?_ ?_ ?_ ?_ ?_)

theorem fr_setRing (n : Nat) (r : Ring) (s : State) : Fr 128 s (setRing n r s) := by
  unfold setRing
  repeat' (first
    | exact Or.inl rfl
    | exact Or.inr rfl
    | lift_lets
    | (intro u_; refine Fr.cut (M := 128) (s := s) (t := u_) ?_ fun hu_ => ?_; (on_goal 2 => clear_value u_); (on_goal 1 => subst u_))
    | intro v_
    | with_reducible refine Fr.ite ?_ ?_
    | with_reducible assumption
    | with_reducible exact Fr.refl _ _
    | with_reducible refine Fr.upd ‹_› ?_ ?_ ?_ ?_ ?_ ?_ ?_ ?_ ?_ ?_ ?_ ?_ ?_ ?_ ?_ ?_ ?_ ?_ ?_ ?_ ?_ ?_ ?_ ?_ ?_ ?_ ?_ ?_ ?_
    | with_reducible refine Fr.upd (Fr.refl _ _) ?_ ?_ ?_ ?_ ?_ ?_ ?_ ?_ ?_ ?_ ?_ ?_ ?_ ?_ ?_ ?_ ?_ ?_ ?_ ?_ ?_ ?_ ?_ ?_ ?_ ?_ ?_ ?_ ?_)

theorem fr_raiseVector (n : Nat) (s : State) : Fr 34 s (raiseVector n s) := by
  unfold raiseVector
  repeat' (first
    | exact Or.inl rfl
    | exact Or.inr rfl
    | with_reducible refine Fr.ite ?_ ?_
    | ((with_reducible apply Fr.step); (on_goal 1 => first | with_reducible apply fr_wr | with_reducible apply fr_emit); (on_goal 1 => exact rfl))
    | split
    | with_reducible assumption
    | with_reducible exact Fr.refl _ _)

theorem fr_writeEvent (n : Nat) (e : Event) (s : State) : Fr 162 s (writeEvent n e s) := by
  unfold writeEvent
  repeat' (first
    | exact Or.inl rfl
    | exact Or.inr rfl
    | lift_lets
    | (intro u_; refine Fr.cut (M := 162) (s := s) (t := u_) ?_ fun hu_ => ?_; (on_goal 2 => clear_value u_); (on_goal 1 => subst u_))
    | intro v_
    | with_reducible refine Fr.ite ?_ ?_
    | ((with_reducible apply Fr.step); (on_goal 1 => first | with_reducible apply fr_emit | with_reducible apply fr_setRing | with_reducible apply fr_raiseVector); (on_goal 1 => exact rfl))
    | split
    | (clear_value *; split)
    | with_reducible assumption
    | with_reducible exact Fr.refl _ _
    | with_reducible refine Fr.upd ‹_› ?_ ?_ ?_ ?_ ?_ ?_ ?_ ?_ ?_ ?_ ?_ ?_ ?_ ?_ ?_ ?_ ?_ ?_ ?_ ?_ ?_ ?_ ?_ ?_ ?_ ?_ ?_ ?_ ?_
    | with_reducible refine Fr.upd (Fr.refl _ _) ?_ ?_ ?_ ?_ ?_ ?_ ?_ ?_ ?_ ?_ ?_ ?_ ?_ ?_ ?_ ?_ ?_ ?_ ?_ ?_ ?_ ?_ ?_ ?_ ?_ ?_ ?_ ?_ ?_)

theorem fr_asyncToRing (n : Nat) (e : Event) (s : State) : Fr 162 s (asyncToRing n e s) := by
  unfold asyncToRing
  repeat' (first
    | exact Or.inl rfl
    | exact Or.inr rfl
    | lift_lets
    | (intro u_; refine Fr.cut (M := 162) (s := s) (t := u_) ?_ fun hu_ => ?_; (on_goal 2 => clear_value u_); (on_goal 1 => subst u_))
    | intro v_
    | with_reducible refine Fr.ite ?_ ?_
    | ((with_reducible apply Fr.step); (on_goal 1 => first | with_reducible apply fr_setRing | with_reducible apply fr_writeEvent); (on_goal 1 => exact rfl))
    | split
    | with_reducible assumption
    | with_reducible exact Fr.refl _ _
    | with_reducible refine Fr.upd ‹_› ?_ ?_ ?_ ?_ ?_ ?_ ?_ ?_ ?_ ?_ ?_ ?_ ?_ ?_ ?_ ?_ ?_ ?_ ?_ ?_ ?_ ?_ ?_ ?_ ?_ ?_ ?_ ?_ ?_
    | with_reducible refine Fr.upd (Fr.refl _ _) ?_ ?_ ?_ ?_ ?_ ?_ ?_ ?_ ?_ ?_ ?_ ?_ ?_ ?_ ?_ ?_ ?_ ?_ ?_ ?_ ?_ ?_ ?_ ?_ ?_ ?_ ?_ ?_ ?_)

theorem fr_post (code : Nat) (payload : List Byte) (s : State) : Fr 162 s (post code payload s) := by
  unfold post
  repeat' (first
    | exact Or.inl rfl
    | exact Or.inr rfl
    | lift_lets
    | (intro u_; refine Fr.cut (M := 162) (s := s) (t := u_) ?_ fun hu_ => ?_; (on_goal 2 => clear_value u_); (on_goal 1 => subst u_))
    | intro v_
    | with_reducible refine Fr.ite ?_ ?_
    | ((with_reducible apply Fr.step); (on_goal 1 => first | with_reducible apply fr_asyncToRing); (on_goal 1 => exact rfl))
    | split
    | with_reducible assumption
    | with_reducible exact Fr.refl _ _
    | with_reducible refine Fr.upd ‹_› ?_ ?_ ?_ ?_ ?_ ?_ ?_ ?_ ?_ ?_ ?_ ?_ ?_ ?_ ?_ ?_ ?_ ?_ ?_ ?_ ?_ ?_ ?_ ?_ ?_ ?_ ?_ ?_ ?_
    | with_reducible refine Fr.upd (Fr.refl _ _) ?_ ?_ ?_ ?_ ?_ ?_ ?_ ?_ ?_ ?_ ?_ ?_ ?_ ?_ ?_ ?_ ?_ ?_ ?_ ?_ ?_ ?_ ?_ ?_ ?_ ?_ ?_ ?_ ?_)

theorem fr_postCaptures  (n_ : List (Nat × List Byte)) (s : State) : Fr 418 s (postCaptures n_ s) := by
  induction n_ generalizing s with
  | nil =>
    unfold postCaptures
    repeat' (first
      | exact Or.inl rfl
      | exact Or.inr rfl
      | lift_lets
      | (intro u_; refine Fr.cut (M := 418) (s := s) (t := u_) ?_ fun hu_ => ?_; (on_goal 2 => clear_value u_); (on_goal 1 => subst u_))
      | intro v_
      | with_reducible refine Fr.ite ?_ ?_
      | ((with_reducible apply Fr.step); (on_goal 1 => first | with_reducible apply ih | with_reducible exact Fr.of_eq (by assumption) (ih _) | with_reducible apply fr_post); (on_goal 1 => exact rfl))
      | split
      | with_reducible assumption
      | with_reducible exact Fr.refl _ _
      | with_reducible refine Fr.upd ‹_› ?_ ?_ ?_ ?_ ?_ ?_ ?_ ?_ ?_ ?_ ?_ ?_ ?_ ?_ ?_ ?_ ?_ ?_ ?_ ?_ ?_ ?_ ?_ ?_ ?_ ?_ ?_ ?_ ?_
      | with_reducible refine Fr.upd (Fr.refl _ _) ?_ ?_ ?_ ?_ ?_ ?_ ?_ ?_ ?_ ?_ ?_ ?_ ?_ ?_ ?_ ?_ ?_ ?_ ?_ ?_ ?_ ?_ ?_ ?_ ?_ ?_ ?_ ?_ ?_)
  | cons x_ n_ ih =>
    unfold postCaptures
    repeat' (first
      | exact Or.inl rfl
      | exact Or.inr rfl
      | lift_lets
      | (intro u_; refine Fr.cut (M := 418) (s := s) (t := u_) ?_ fun hu_ => ?_; (on_goal 2 => clear_value u_); (on_goal 1 => subst u_))
      | intro v_
      | with_reducible refine Fr.ite ?_ ?_
      | ((with_reducible apply Fr.step); (on_goal 1 => first | with_reducible apply ih | with_reducible exact Fr.of_eq (by assumption) (ih _) | with_reducible apply fr_post); (on_goal 1 => exact rfl))
      | split
      | with_reducible assumption
      | with_reducible exact Fr.refl _ _
      | with_reducible refine Fr.upd ‹_› ?_ ?_ ?_ ?_ ?_ ?_ ?_ ?_ ?_ ?_ ?_ ?_ ?_ ?_ ?_ ?_ ?_ ?_ ?_ ?_ ?_ ?_ ?_ ?_ ?_ ?_ ?_ ?_ ?_
      | with_reducible refine Fr.upd (Fr.refl _ _) ?_ ?_ ?_ ?_ ?_ ?_ ?_ ?_ ?_ ?_ ?_ ?_ ?_ ?_ ?_ ?_ ?_ ?_ ?_ ?_ ?_ ?_ ?_ ?_ ?_ ?_ ?_ ?_ ?_)

theorem fr_drainCaptures (s : State) : Fr 418 s (drainCaptures s) := by
  unfold drainCaptures
  repeat' (first
    | exact Or.inl rfl
    | exact Or.inr rfl
    | with_reducible refine Fr.ite ?_ ?_
    | ((with_reducible apply Fr.step); (on_goal 1 => first | with_reducible apply fr_postCaptures); (on_goal 1 => exact rfl))
    | split
    | with_reducible assumption
    | with_reducible exact Fr.refl _ _)

theorem fr_tryMerge (rep : Report) (now : Nat) (s t : State) (h : tryMerge rep now s = some t) : Fr 512 s t := by
  unfold tryMerge at h
  dsimp only at h
  split at h
  · cases h
  · cases h; constructor <;> first | exact .inl rfl | exact .inr rfl

theorem fr_setUnit (kind ix : Nat) (u : FUnit) (s : State) : Fr 33554944 s (setUnit kind ix u s) := by
  unfold setUnit
  repeat' (first
    | exact Or.inl rfl
    | exact Or.inr rfl
    | lift_lets
    | (intro u_; refine Fr.cut (M := 33554944) (s := s) (t := u_) ?_ fun hu_ => ?_; (on_goal 2 => clear_value u_); (on_goal 1 => subst u_))
    | intro v_
    | with_reducible refine Fr.ite ?_ ?_
    | with_reducible assumption
    | with_reducible exact Fr.refl _ _
    | with_reducible refine Fr.upd ‹_› ?_ ?_ ?_ ?_ ?_ ?_ ?_ ?_ ?_ ?_ ?_ ?_ ?_ ?_ ?_ ?_ ?_ ?_ ?_ ?_ ?_ ?_ ?_ ?_ ?_ ?_ ?_ ?_ ?_
    | with_reducible refine Fr.upd (Fr.refl _ _) ?_ ?_ ?_ ?_ ?_ ?_ ?_ ?_ ?_ ?_ ?_ ?_ ?_ ?_ ?_ ?_ ?_ ?_ ?_ ?_ ?_ ?_ ?_ ?_ ?_ ?_ ?_ ?_ ?_)

theorem fr_markTest (rep : Report) (s : State) : Fr 33554944 s (markTest rep s) := by
  unfold markTest
  repeat' (first
    | exact Or.inl rfl
    | exact Or.inr rfl
    | lift_lets
    | (intro u_; refine Fr.cut (M := 33554944) (s := s) (t := u_) ?_ fun hu_ => ?_; (on_goal 2 => clear_value u_); (on_goal 1 => subst u_))
    | intro v_
    | with_reducible refine Fr.ite ?_ ?_
    | with_reducible refine Fr.foldl ?_ (fun _ _ _ => ?_)
    | ((with_reducible apply Fr.step); (on_goal 1 => first | with_reducible apply fr_setUnit); (on_goal 1 => exact rfl))
    | split
    | with_reducible assumption
    | with_reducible exact Fr.refl _ _
    | with_reducible refine Fr.upd ‹_› ?_ ?_ ?_ ?_ ?_ ?_ ?_ ?_ ?_ ?_ ?_ ?_ ?_ ?_ ?_ ?_ ?_ ?_ ?_ ?_ ?_ ?_ ?_ ?_ ?_ ?_ ?_ ?_ ?_
    | with_reducible refine Fr.upd (Fr.refl _ _) ?_ ?_ ?_ ?_ ?_ ?_ ?_ ?_ ?_ ?_ ?_ ?_ ?_ ?_ ?_ ?_ ?_ ?_ ?_ ?_ ?_ ?_ ?_ ?_ ?_ ?_ ?_ ?_ ?_)

theorem fr_enqueue (rep : Report) (s : State) : Fr 33554944 s (enqueue rep s) := by
  unfold enqueue
  repeat' (first
    | exact Or.inl rfl
    | exact Or.inr rfl
    | lift_lets
    | (intro u_; refine Fr.cut (M := 33554944) (s := s) (t := u_) ?_ fun hu_ => ?_; (on_goal 2 => clear_value u_); (on_goal 1 => subst u_))
    | intro v_
    | with_reducible refine Fr.ite ?_ ?_
    | ((with_reducible apply Fr.step); (on_goal 1 => first | ((with_reducible apply fr_tryMerge); assumption) | with_reducible apply fr_markTest); (on_goal 1 => exact rfl))
    | split
    | (clear_value *; split)
    | with_reducible assumption
    | with_reducible exact Fr.refl _ _
    | with_reducible refine Fr.upd ‹_› ?_ ?_ ?_ ?_ ?_ ?_ ?_ ?_ ?_ ?_ ?_ ?_ ?_ ?_ ?_ ?_ ?_ ?_ ?_ ?_ ?_ ?_ ?_ ?_ ?_ ?_ ?_ ?_ ?_
    | with_reducible refine Fr.upd (Fr.refl _ _) ?_ ?_ ?_ ?_ ?_ ?_ ?_ ?_ ?_ ?_ ?_ ?_ ?_ ?_ ?_ ?_ ?_ ?_ ?_ ?_ ?_ ?_ ?_ ?_ ?_ ?_ ?_ ?_ ?_)

theorem fr_report (cls kind unit : Nat) (detail : List Byte) (s : State) : Fr 33554944 s (report cls kind unit detail s) := by
  unfold report
  repeat' (first
    | exact Or.inl rfl
    | exact Or.inr rfl
    | with_reducible refine Fr.ite ?_ ?_
    | ((with_reducible apply Fr.step); (on_goal 1 => first | with_reducible apply fr_enqueue); (on_goal 1 => exact rfl))
    | with_reducible assumption
    | with_reducible exact Fr.refl _ _)

theorem fr_reportCond (cls kind unit : Nat) (detail : List Byte) (s : State) : Fr 33554944 s (reportCond cls kind unit detail s) := by
  unfold reportCond
  repeat' (first
    | exact Or.inl rfl
    | exact Or.inr rfl
    | with_reducible refine Fr.ite ?_ ?_
    | ((with_reducible apply Fr.step); (on_goal 1 => first | with_reducible apply fr_enqueue); (on_goal 1 => exact rfl))
    | with_reducible assumption
    | with_reducible exact Fr.refl _ _)

theorem fr_whenOpen {M : Nat} {s₀ s t : State} (hs : Fr M s₀ s) (ht : Fr M s₀ t) : Fr M s₀ (whenOpen s t) := Fr.ite ht hs

theorem fr_fromWipe {M : Nat} {s₀ s t : State} (hs : Fr M s₀ s) (ht : Fr M s₀ t) : Fr M s₀ (fromWipe s t) := Fr.ite ht hs

theorem fr_setMode (m : Mode) (cause : Nat) (s : State) : Fr 67110050 s (setMode m cause s) := by
  unfold setMode
  repeat' (first
    | exact Or.inl rfl
    | exact Or.inr rfl
    | lift_lets
    | (intro u_; refine Fr.cut (M := 67110050) (s := s) (t := u_) ?_ fun hu_ => ?_; (on_goal 2 => clear_value u_); (on_goal 1 => subst u_))
    | intro v_
    | with_reducible refine Fr.ite ?_ ?_
    | ((with_reducible apply Fr.step); (on_goal 1 => first | with_reducible apply fr_post); (on_goal 1 => exact rfl))
    | split
    | with_reducible assumption
    | with_reducible exact Fr.refl _ _
    | with_reducible refine Fr.upd ‹_› ?_ ?_ ?_ ?_ ?_ ?_ ?_ ?_ ?_ ?_ ?_ ?_ ?_ ?_ ?_ ?_ ?_ ?_ ?_ ?_ ?_ ?_ ?_ ?_ ?_ ?_ ?_ ?_ ?_
    | with_reducible refine Fr.upd (Fr.refl _ _) ?_ ?_ ?_ ?_ ?_ ?_ ?_ ?_ ?_ ?_ ?_ ?_ ?_ ?_ ?_ ?_ ?_ ?_ ?_ ?_ ?_ ?_ ?_ ?_ ?_ ?_ ?_ ?_ ?_)

theorem fr_retire (ref : CmdRef) (s : State) : Fr 128 s (retire ref s) := by
  unfold retire
  repeat' (first
    | exact Or.inl rfl
    | exact Or.inr rfl
    | lift_lets
    | (intro u_; refine Fr.cut (M := 128) (s := s) (t := u_) ?_ fun hu_ => ?_; (on_goal 2 => clear_value u_); (on_goal 1 => subst u_))
    | intro v_
    | with_reducible refine Fr.ite ?_ ?_
    | split
    | with_reducible assumption
    | with_reducible exact Fr.refl _ _
    | with_reducible refine Fr.upd ‹_› ?_ ?_ ?_ ?_ ?_ ?_ ?_ ?_ ?_ ?_ ?_ ?_ ?_ ?_ ?_ ?_ ?_ ?_ ?_ ?_ ?_ ?_ ?_ ?_ ?_ ?_ ?_ ?_ ?_
    | with_reducible refine Fr.upd (Fr.refl _ _) ?_ ?_ ?_ ?_ ?_ ?_ ?_ ?_ ?_ ?_ ?_ ?_ ?_ ?_ ?_ ?_ ?_ ?_ ?_ ?_ ?_ ?_ ?_ ?_ ?_ ?_ ?_ ?_ ?_)

theorem fr_modCmd (ref : CmdRef) (f : Cmd → Cmd) (s : State) : Fr 128 s (modCmd ref f s) := by
  unfold modCmd
  repeat' (first
    | exact Or.inl rfl
    | exact Or.inr rfl
    | lift_lets
    | (intro u_; refine Fr.cut (M := 128) (s := s) (t := u_) ?_ fun hu_ => ?_; (on_goal 2 => clear_value u_); (on_goal 1 => subst u_))
    | intro v_
    | with_reducible refine Fr.ite ?_ ?_
    | split
    | with_reducible assumption
    | with_reducible exact Fr.refl _ _
    | with_reducible refine Fr.upd ‹_› ?_ ?_ ?_ ?_ ?_ ?_ ?_ ?_ ?_ ?_ ?_ ?_ ?_ ?_ ?_ ?_ ?_ ?_ ?_ ?_ ?_ ?_ ?_ ?_ ?_ ?_ ?_ ?_ ?_
    | with_reducible refine Fr.upd (Fr.refl _ _) ?_ ?_ ?_ ?_ ?_ ?_ ?_ ?_ ?_ ?_ ?_ ?_ ?_ ?_ ?_ ?_ ?_ ?_ ?_ ?_ ?_ ?_ ?_ ?_ ?_ ?_ ?_ ?_ ?_)

theorem fr_completeTo (c : Cmd) (e : Event) (s : State) : Fr 162 s (completeTo c e s) := by
  unfold completeTo
  repeat' (first
    | exact Or.inl rfl
    | exact Or.inr rfl
    | lift_lets
    | (intro u_; refine Fr.cut (M := 162) (s := s) (t := u_) ?_ fun hu_ => ?_; (on_goal 2 => clear_value u_); (on_goal 1 => subst u_))
    | intro v_
    | with_reducible refine Fr.ite ?_ ?_
    | ((with_reducible apply Fr.step); (on_goal 1 => first | with_reducible apply fr_setRing | with_reducible apply fr_writeEvent | with_reducible apply fr_retire | with_reducible apply fr_modCmd); (on_goal 1 => exact rfl))
    | split
    | with_reducible assumption
    | with_reducible exact Fr.refl _ _
    | with_reducible refine Fr.upd ‹_› ?_ ?_ ?_ ?_ ?_ ?_ ?_ ?_ ?_ ?_ ?_ ?_ ?_ ?_ ?_ ?_ ?_ ?_ ?_ ?_ ?_ ?_ ?_ ?_ ?_ ?_ ?_ ?_ ?_
    | with_reducible refine Fr.upd (Fr.refl _ _) ?_ ?_ ?_ ?_ ?_ ?_ ?_ ?_ ?_ ?_ ?_ ?_ ?_ ?_ ?_ ?_ ?_ ?_ ?_ ?_ ?_ ?_ ?_ ?_ ?_ ?_ ?_ ?_ ?_)

theorem fr_finish (c : Cmd) (r : CmdRes) (done left : Nat) (s : State) : Fr 162 s (finish c r done left s) := by
  unfold finish
  repeat' (first
    | exact Or.inl rfl
    | exact Or.inr rfl
    | lift_lets
    | (intro u_; refine Fr.cut (M := 162) (s := s) (t := u_) ?_ fun hu_ => ?_; (on_goal 2 => clear_value u_); (on_goal 1 => subst u_))
    | intro v_
    | with_reducible refine Fr.ite ?_ ?_
    | ((with_reducible apply Fr.step); (on_goal 1 => first | with_reducible apply fr_retire | with_reducible apply fr_completeTo); (on_goal 1 => exact rfl))
    | split
    | with_reducible assumption
    | with_reducible exact Fr.refl _ _
    | with_reducible refine Fr.upd ‹_› ?_ ?_ ?_ ?_ ?_ ?_ ?_ ?_ ?_ ?_ ?_ ?_ ?_ ?_ ?_ ?_ ?_ ?_ ?_ ?_ ?_ ?_ ?_ ?_ ?_ ?_ ?_ ?_ ?_
    | with_reducible refine Fr.upd (Fr.refl _ _) ?_ ?_ ?_ ?_ ?_ ?_ ?_ ?_ ?_ ?_ ?_ ?_ ?_ ?_ ?_ ?_ ?_ ?_ ?_ ?_ ?_ ?_ ?_ ?_ ?_ ?_ ?_ ?_ ?_)

theorem fr_finishRef (ref : CmdRef) (r : CmdRes) (s : State) : Fr 162 s (finishRef ref r s) := by
  unfold finishRef
  repeat' (first
    | exact Or.inl rfl
    | exact Or.inr rfl
    | lift_lets
    | (intro u_; refine Fr.cut (M := 162) (s := s) (t := u_) ?_ fun hu_ => ?_; (on_goal 2 => clear_value u_); (on_goal 1 => subst u_))
    | intro v_
    | with_reducible refine Fr.ite ?_ ?_
    | ((with_reducible apply Fr.step); (on_goal 1 => first | with_reducible apply fr_finish); (on_goal 1 => exact rfl))
    | split
    | (clear_value *; split)
    | with_reducible assumption
    | with_reducible exact Fr.refl _ _
    | with_reducible refine Fr.upd ‹_› ?_ ?_ ?_ ?_ ?_ ?_ ?_ ?_ ?_ ?_ ?_ ?_ ?_ ?_ ?_ ?_ ?_ ?_ ?_ ?_ ?_ ?_ ?_ ?_ ?_ ?_ ?_ ?_ ?_
    | with_reducible refine Fr.upd (Fr.refl _ _) ?_ ?_ ?_ ?_ ?_ ?_ ?_ ?_ ?_ ?_ ?_ ?_ ?_ ?_ ?_ ?_ ?_ ?_ ?_ ?_ ?_ ?_ ?_ ?_ ?_ ?_ ?_ ?_ ?_)

theorem fr_setChan (ch : Nat) (c : Chan) (s : State) : Fr 128 s (setChan ch c s) := by
  unfold setChan
  repeat' (first
    | exact Or.inl rfl
    | exact Or.inr rfl
    | lift_lets
    | (intro u_; refine Fr.cut (M := 128) (s := s) (t := u_) ?_ fun hu_ => ?_; (on_goal 2 => clear_value u_); (on_goal 1 => subst u_))
    | intro v_
    | with_reducible refine Fr.ite ?_ ?_
    | with_reducible assumption
    | with_reducible exact Fr.refl _ _
    | with_reducible refine Fr.upd ‹_› ?_ ?_ ?_ ?_ ?_ ?_ ?_ ?_ ?_ ?_ ?_ ?_ ?_ ?_ ?_ ?_ ?_ ?_ ?_ ?_ ?_ ?_ ?_ ?_ ?_ ?_ ?_ ?_ ?_
    | with_reducible refine Fr.upd (Fr.refl _ _) ?_ ?_ ?_ ?_ ?_ ?_ ?_ ?_ ?_ ?_ ?_ ?_ ?_ ?_ ?_ ?_ ?_ ?_ ?_ ?_ ?_ ?_ ?_ ?_ ?_ ?_ ?_ ?_ ?_)

theorem fr_startXfer (x : Xfer) (ch : Nat) (s : State) : Fr 128 s (startXfer x ch s) := by
  unfold startXfer
  repeat' (first
    | exact Or.inl rfl
    | exact Or.inr rfl
    | lift_lets
    | (intro u_; refine Fr.cut (M := 128) (s := s) (t := u_) ?_ fun hu_ => ?_; (on_goal 2 => clear_value u_); (on_goal 1 => subst u_))
    | intro v_
    | with_reducible refine Fr.ite ?_ ?_
    | ((with_reducible apply Fr.step); (on_goal 1 => first | with_reducible apply fr_setChan); (on_goal 1 => exact rfl))
    | with_reducible assumption
    | with_reducible exact Fr.refl _ _
    | with_reducible refine Fr.upd ‹_› ?_ ?_ ?_ ?_ ?_ ?_ ?_ ?_ ?_ ?_ ?_ ?_ ?_ ?_ ?_ ?_ ?_ ?_ ?_ ?_ ?_ ?_ ?_ ?_ ?_ ?_ ?_ ?_ ?_
    | with_reducible refine Fr.upd (Fr.refl _ _) ?_ ?_ ?_ ?_ ?_ ?_ ?_ ?_ ?_ ?_ ?_ ?_ ?_ ?_ ?_ ?_ ?_ ?_ ?_ ?_ ?_ ?_ ?_ ?_ ?_ ?_ ?_ ?_ ?_)

theorem fr_conclude (c : Cmd) (r : CmdRes) (domains : List Nat) (s : State) : Fr 162 s (conclude c r domains s) := by
  unfold conclude
  repeat' (first
    | exact Or.inl rfl
    | exact Or.inr rfl
    | with_reducible refine Fr.ite ?_ ?_
    | ((with_reducible apply Fr.step); (on_goal 1 => first | with_reducible apply fr_finish | with_reducible apply fr_startXfer); (on_goal 1 => exact rfl))
    | split
    | with_reducible assumption
    | with_reducible exact Fr.refl _ _)

theorem fr_runCmdIn {M : Nat} {s₀ s : State} {ds : Cmd → State → List Nat} {op : Nat} {ref : CmdRef} {body : Cmd → State → State × CmdEnd}
    (hk : 162 ||| M = M) (hb : ∀ c u, Fr M s₀ u → Fr M s₀ (body c u).1) (h : Fr M s₀ s) : Fr M s₀ (runCmdIn ds op ref body s) := by
  unfold runCmdIn
  split
  · exact h
  · rename_i c _
    refine Fr.ite ?_ h
    split
    · exact Fr.step (fr_finish _ _ _ _ _) (Fr.sub rfl hk) h
    · have m := Fr.step (fr_modCmd ref (fun d => { d with stage := .running }) s) (Fr.sub rfl hk) h
      have n := fun r => Fr.step (fr_finish c r 0 0 _) (Fr.sub rfl hk) m
      have k := hb c _ m
      dsimp only
      split
      · rename_i e; rw [e] at k; exact Fr.ite (n _) k
      · rename_i e; rw [e] at k; exact Fr.ite (n _) (Fr.step (fr_conclude _ _ _ _) (Fr.sub rfl hk) k)

theorem fr_runCmd {M : Nat} {s : State} {op : Nat} {ref : CmdRef} {body : Cmd → State → State × CmdEnd}
    (hk : 162 ||| M = M) (hb : ∀ c u, Fr M s u → Fr M s (body c u).1) : Fr M s (runCmd op ref body s) :=
  fr_runCmdIn hk hb (Fr.refl _ _)

theorem fr_fail (st : Nat) (s : State) : Fr 0 s (fail st s).1 := by
  unfold fail
  repeat' (first
    | exact Or.inl rfl
    | exact Or.inr rfl
    | with_reducible refine Fr.ite ?_ ?_
    | with_reducible refine Fr.ite1 ?_ ?_
    | with_reducible assumption
    | with_reducible exact Fr.refl _ _)

theorem fr_okay (s : State) : Fr 0 s (okay s).1 := by
  unfold okay
  repeat' (first
    | exact Or.inl rfl
    | exact Or.inr rfl
    | with_reducible refine Fr.ite ?_ ?_
    | with_reducible refine Fr.ite1 ?_ ?_
    | with_reducible assumption
    | with_reducible exact Fr.refl _ _)

theorem fr_okayWith (payload : List Byte) (s : State) : Fr 0 s (okayWith payload s).1 := by
  unfold okayWith
  repeat' (first
    | exact Or.inl rfl
    | exact Or.inr rfl
    | with_reducible refine Fr.ite ?_ ?_
    | with_reducible refine Fr.ite1 ?_ ?_
    | with_reducible assumption
    | with_reducible exact Fr.refl _ _)

theorem fr_okayData (data : List Byte) (s : State) : Fr 0 s (okayData data s).1 := by
  unfold okayData
  repeat' (first
    | exact Or.inl rfl
    | exact Or.inr rfl
    | with_reducible refine Fr.ite ?_ ?_
    | with_reducible refine Fr.ite1 ?_ ?_
    | with_reducible assumption
    | with_reducible exact Fr.refl _ _)

theorem fr_withHost {M : Nat} {s₀ s : State} {c : Cmd} {a : HostAns} {k : List Byte → State × CmdEnd} (hk : ∀ b, Fr M s₀ (k b).1)
    (h : Fr M s₀ s) : Fr M s₀ (withHost c a s k).1 := by
  unfold withHost
  split
  · exact h
  · exact hk _

theorem fr_clearUpset (mem ix : Nat) (s : State) : Fr 16777216 s (clearUpset mem ix s) := by
  unfold clearUpset
  repeat' (first
    | exact Or.inl rfl
    | exact Or.inr rfl
    | lift_lets
    | (intro u_; refine Fr.cut (M := 16777216) (s := s) (t := u_) ?_ fun hu_ => ?_; (on_goal 2 => clear_value u_); (on_goal 1 => subst u_))
    | intro v_
    | with_reducible refine Fr.ite ?_ ?_
    | with_reducible assumption
    | with_reducible exact Fr.refl _ _
    | with_reducible refine Fr.upd ‹_› ?_ ?_ ?_ ?_ ?_ ?_ ?_ ?_ ?_ ?_ ?_ ?_ ?_ ?_ ?_ ?_ ?_ ?_ ?_ ?_ ?_ ?_ ?_ ?_ ?_ ?_ ?_ ?_ ?_
    | with_reducible refine Fr.upd (Fr.refl _ _) ?_ ?_ ?_ ?_ ?_ ?_ ?_ ?_ ?_ ?_ ?_ ?_ ?_ ?_ ?_ ?_ ?_ ?_ ?_ ?_ ?_ ?_ ?_ ?_ ?_ ?_ ?_ ?_ ?_)

end Sys2Proof.Machine
end

