-- ==== Sys2Proof/Laws/FrameCount.lean ====
section
/-! SUPPORT. What each function of Machine/Count.lean changes at most, as a mask (Laws/Frame.lean). -/
set_option linter.unusedVariables false
set_option linter.unusedTactic false
set_option linter.unreachableTactic false
namespace Sys2Proof.Machine

theorem fr_markSuspect (n : Nat) (s : State) : Fr 8192 s (markSuspect n s) := by
  unfold markSuspect
  repeat' (first
    | exact Or.inl rfl
    | exact Or.inr rfl
    | lift_lets
    | (intro u_; refine Fr.cut (M := 8192) (s := s) (t := u_) ?_ fun hu_ => ?_; (on_goal 2 => clear_value u_); (on_goal 1 => subst u_))
    | intro v_
    | with_reducible refine Fr.ite ?_ ?_
    | split
    | with_reducible assumption
    | with_reducible exact Fr.refl _ _
    | with_reducible refine Fr.upd ‹_› ?_ ?_ ?_ ?_ ?_ ?_ ?_ ?_ ?_ ?_ ?_ ?_ ?_ ?_ ?_ ?_ ?_ ?_ ?_ ?_ ?_ ?_ ?_ ?_ ?_ ?_ ?_ ?_ ?_
    | with_reducible refine Fr.upd (Fr.refl _ _) ?_ ?_ ?_ ?_ ?_ ?_ ?_ ?_ ?_ ?_ ?_ ?_ ?_ ?_ ?_ ?_ ?_ ?_ ?_ ?_ ?_ ?_ ?_ ?_ ?_ ?_ ?_ ?_ ?_)

theorem fr_countIn (panel kind num n : Nat) (s : State) : Fr 33563136 s (countIn panel kind num n s) := by
  unfold countIn
  repeat' (first
    | exact Or.inl rfl
    | exact Or.inr rfl
    | lift_lets
    | (intro u_; refine Fr.cut (M := 33563136) (s := s) (t := u_) ?_ fun hu_ => ?_; (on_goal 2 => clear_value u_); (on_goal 1 => subst u_))
    | intro v_
    | with_reducible refine Fr.ite ?_ ?_
    | ((with_reducible apply Fr.step); (on_goal 1 => first | with_reducible apply fr_report); (on_goal 1 => exact rfl))
    | split
    | with_reducible assumption
    | with_reducible exact Fr.refl _ _
    | with_reducible refine Fr.upd ‹_› ?_ ?_ ?_ ?_ ?_ ?_ ?_ ?_ ?_ ?_ ?_ ?_ ?_ ?_ ?_ ?_ ?_ ?_ ?_ ?_ ?_ ?_ ?_ ?_ ?_ ?_ ?_ ?_ ?_
    | with_reducible refine Fr.upd (Fr.refl _ _) ?_ ?_ ?_ ?_ ?_ ?_ ?_ ?_ ?_ ?_ ?_ ?_ ?_ ?_ ?_ ?_ ?_ ?_ ?_ ?_ ?_ ?_ ?_ ?_ ?_ ?_ ?_ ?_ ?_)

theorem fr_count (kind item ix n : Nat) (s : State) : Fr 33563136 s (count kind item ix n s) := by
  unfold count
  repeat' (first
    | exact Or.inl rfl
    | exact Or.inr rfl
    | with_reducible refine Fr.ite ?_ ?_
    | ((with_reducible apply Fr.step); (on_goal 1 => first | with_reducible apply fr_countIn); (on_goal 1 => exact rfl))
    | with_reducible assumption
    | with_reducible exact Fr.refl _ _)

theorem fr_countPort (p ix n : Nat) (s : State) : Fr 33563136 s (countPort p ix n s) := by
  unfold countPort
  repeat' (first
    | exact Or.inl rfl
    | exact Or.inr rfl
    | with_reducible refine Fr.ite ?_ ?_
    | ((with_reducible apply Fr.step); (on_goal 1 => first | with_reducible apply fr_count); (on_goal 1 => exact rfl))
    | with_reducible assumption
    | with_reducible exact Fr.refl _ _)

theorem fr_countQueue (q ix n : Nat) (s : State) : Fr 33563136 s (countQueue q ix n s) := by
  unfold countQueue
  repeat' (first
    | exact Or.inl rfl
    | exact Or.inr rfl
    | with_reducible refine Fr.ite ?_ ?_
    | ((with_reducible apply Fr.step); (on_goal 1 => first | with_reducible apply fr_count); (on_goal 1 => exact rfl))
    | with_reducible assumption
    | with_reducible exact Fr.refl _ _)

theorem fr_countPipe (p ix n : Nat) (s : State) : Fr 33563136 s (countPipe p ix n s) := by
  unfold countPipe
  repeat' (first
    | exact Or.inl rfl
    | exact Or.inr rfl
    | with_reducible refine Fr.ite ?_ ?_
    | ((with_reducible apply Fr.step); (on_goal 1 => first | with_reducible apply fr_count); (on_goal 1 => exact rfl))
    | with_reducible assumption
    | with_reducible exact Fr.refl _ _)

theorem fr_countFlex (panel id bytes : Nat) (s : State) : Fr 33563136 s (countFlex panel id bytes s) := by
  unfold countFlex
  repeat' (first
    | exact Or.inl rfl
    | exact Or.inr rfl
    | with_reducible refine Fr.ite ?_ ?_
    | ((with_reducible apply Fr.step); (on_goal 1 => first | with_reducible apply fr_countIn); (on_goal 1 => exact rfl))
    | with_reducible assumption
    | with_reducible exact Fr.refl _ _)

theorem fr_foldAcc (kind num ix : Nat) (s : State) : Fr 8354 s (foldAcc kind num ix s) := by
  unfold foldAcc
  repeat' (first
    | exact Or.inl rfl
    | exact Or.inr rfl
    | lift_lets
    | (intro u_; refine Fr.cut (M := 8354) (s := s) (t := u_) ?_ fun hu_ => ?_; (on_goal 2 => clear_value u_); (on_goal 1 => subst u_))
    | intro v_
    | with_reducible refine Fr.ite ?_ ?_
    | ((with_reducible apply Fr.step); (on_goal 1 => first | with_reducible apply fr_post); (on_goal 1 => exact rfl))
    | split
    | (clear_value *; split)
    | with_reducible assumption
    | with_reducible exact Fr.refl _ _
    | with_reducible refine Fr.upd ‹_› ?_ ?_ ?_ ?_ ?_ ?_ ?_ ?_ ?_ ?_ ?_ ?_ ?_ ?_ ?_ ?_ ?_ ?_ ?_ ?_ ?_ ?_ ?_ ?_ ?_ ?_ ?_ ?_ ?_
    | with_reducible refine Fr.upd (Fr.refl _ _) ?_ ?_ ?_ ?_ ?_ ?_ ?_ ?_ ?_ ?_ ?_ ?_ ?_ ?_ ?_ ?_ ?_ ?_ ?_ ?_ ?_ ?_ ?_ ?_ ?_ ?_ ?_ ?_ ?_)

theorem fr_markInexact (kind num : Nat) (s : State) : Fr 8354 s (markInexact kind num s) := by
  unfold markInexact
  repeat' (first
    | exact Or.inl rfl
    | exact Or.inr rfl
    | lift_lets
    | (intro u_; refine Fr.cut (M := 8354) (s := s) (t := u_) ?_ fun hu_ => ?_; (on_goal 2 => clear_value u_); (on_goal 1 => subst u_))
    | intro v_
    | with_reducible refine Fr.ite ?_ ?_
    | ((with_reducible apply Fr.step); (on_goal 1 => first | with_reducible apply fr_post); (on_goal 1 => exact rfl))
    | split
    | with_reducible assumption
    | with_reducible exact Fr.refl _ _
    | with_reducible refine Fr.upd ‹_› ?_ ?_ ?_ ?_ ?_ ?_ ?_ ?_ ?_ ?_ ?_ ?_ ?_ ?_ ?_ ?_ ?_ ?_ ?_ ?_ ?_ ?_ ?_ ?_ ?_ ?_ ?_ ?_ ?_
    | with_reducible refine Fr.upd (Fr.refl _ _) ?_ ?_ ?_ ?_ ?_ ?_ ?_ ?_ ?_ ?_ ?_ ?_ ?_ ?_ ?_ ?_ ?_ ?_ ?_ ?_ ?_ ?_ ?_ ?_ ?_ ?_ ?_ ?_ ?_)

theorem fr_meetValue (kind num : Nat) (s : State) : Fr 50340514 s (meetValue kind num s) := by
  unfold meetValue
  repeat' (first
    | exact Or.inl rfl
    | exact Or.inr rfl
    | lift_lets
    | (intro u_; refine Fr.cut (M := 50340514) (s := s) (t := u_) ?_ fun hu_ => ?_; (on_goal 2 => clear_value u_); (on_goal 1 => subst u_))
    | intro v_
    | with_reducible refine Fr.ite ?_ ?_
    | ((with_reducible apply Fr.step); (on_goal 1 => first | with_reducible apply fr_report | with_reducible apply fr_clearUpset | with_reducible apply fr_markInexact); (on_goal 1 => exact rfl))
    | split
    | (clear_value *; split)
    | with_reducible assumption
    | with_reducible exact Fr.refl _ _
    | with_reducible refine Fr.upd ‹_› ?_ ?_ ?_ ?_ ?_ ?_ ?_ ?_ ?_ ?_ ?_ ?_ ?_ ?_ ?_ ?_ ?_ ?_ ?_ ?_ ?_ ?_ ?_ ?_ ?_ ?_ ?_ ?_ ?_
    | with_reducible refine Fr.upd (Fr.refl _ _) ?_ ?_ ?_ ?_ ?_ ?_ ?_ ?_ ?_ ?_ ?_ ?_ ?_ ?_ ?_ ?_ ?_ ?_ ?_ ?_ ?_ ?_ ?_ ?_ ?_ ?_ ?_ ?_ ?_)

theorem fr_meetAcc (kind num ix : Nat) (s : State) : Fr 50340514 s (meetAcc kind num ix s) := by
  unfold meetAcc
  repeat' (first
    | exact Or.inl rfl
    | exact Or.inr rfl
    | lift_lets
    | (intro u_; refine Fr.cut (M := 50340514) (s := s) (t := u_) ?_ fun hu_ => ?_; (on_goal 2 => clear_value u_); (on_goal 1 => subst u_))
    | intro v_
    | with_reducible refine Fr.ite ?_ ?_
    | ((with_reducible apply Fr.step); (on_goal 1 => first | with_reducible apply fr_report | with_reducible apply fr_clearUpset | with_reducible apply fr_markInexact); (on_goal 1 => exact rfl))
    | split
    | (clear_value *; split)
    | with_reducible assumption
    | with_reducible exact Fr.refl _ _
    | with_reducible refine Fr.upd ‹_› ?_ ?_ ?_ ?_ ?_ ?_ ?_ ?_ ?_ ?_ ?_ ?_ ?_ ?_ ?_ ?_ ?_ ?_ ?_ ?_ ?_ ?_ ?_ ?_ ?_ ?_ ?_ ?_ ?_
    | with_reducible refine Fr.upd (Fr.refl _ _) ?_ ?_ ?_ ?_ ?_ ?_ ?_ ?_ ?_ ?_ ?_ ?_ ?_ ?_ ?_ ?_ ?_ ?_ ?_ ?_ ?_ ?_ ?_ ?_ ?_ ?_ ?_ ?_ ?_)

theorem fr_meetCtr (kind num : Nat) (s : State) : Fr 50340514 s (meetCtr kind num s) := by
  unfold meetCtr
  repeat' (first
    | exact Or.inl rfl
    | exact Or.inr rfl
    | with_reducible refine Fr.ite ?_ ?_
    | with_reducible refine Fr.foldl ?_ (fun _ _ _ => ?_)
    | ((with_reducible apply Fr.step); (on_goal 1 => first | with_reducible apply fr_meetValue | with_reducible apply fr_meetAcc); (on_goal 1 => exact rfl))
    | split
    | with_reducible assumption
    | with_reducible exact Fr.refl _ _)

theorem fr_freshCtr (kind num : Nat) (s : State) : Fr 16777216 s (freshCtr kind num s) := by
  unfold freshCtr
  repeat' (first
    | exact Or.inl rfl
    | exact Or.inr rfl
    | with_reducible refine Fr.ite ?_ ?_
    | with_reducible refine Fr.foldl ?_ (fun _ _ _ => ?_)
    | ((with_reducible apply Fr.step); (on_goal 1 => first | with_reducible apply fr_clearUpset); (on_goal 1 => exact rfl))
    | split
    | with_reducible assumption
    | with_reducible exact Fr.refl _ _)

theorem fr_foldBank (kind num bank : Nat) (s : State) : Fr 50340514 s (foldBank kind num bank s) := by
  unfold foldBank
  repeat' (first
    | exact Or.inl rfl
    | exact Or.inr rfl
    | with_reducible refine Fr.ite ?_ ?_
    | with_reducible refine Fr.foldl ?_ (fun _ _ _ => ?_)
    | ((with_reducible apply Fr.step); (on_goal 1 => first | with_reducible apply fr_foldAcc | with_reducible apply fr_meetValue | with_reducible apply fr_meetAcc); (on_goal 1 => exact rfl))
    | split
    | with_reducible assumption
    | with_reducible exact Fr.refl _ _)

theorem fr_foldCtr (kind num : Nat) (s : State) : Fr 50340514 s (foldCtr kind num s) := by
  unfold foldCtr
  repeat' (first
    | exact Or.inl rfl
    | exact Or.inr rfl
    | lift_lets
    | (intro u_; refine Fr.cut (M := 50340514) (s := s) (t := u_) ?_ fun hu_ => ?_; (on_goal 2 => clear_value u_); (on_goal 1 => subst u_))
    | intro v_
    | with_reducible refine Fr.ite ?_ ?_
    | ((with_reducible apply Fr.step); (on_goal 1 => first | with_reducible apply fr_foldBank); (on_goal 1 => exact rfl))
    | split
    | (clear_value *; split)
    | with_reducible assumption
    | with_reducible exact Fr.refl _ _
    | with_reducible refine Fr.upd ‹_› ?_ ?_ ?_ ?_ ?_ ?_ ?_ ?_ ?_ ?_ ?_ ?_ ?_ ?_ ?_ ?_ ?_ ?_ ?_ ?_ ?_ ?_ ?_ ?_ ?_ ?_ ?_ ?_ ?_
    | with_reducible refine Fr.upd (Fr.refl _ _) ?_ ?_ ?_ ?_ ?_ ?_ ?_ ?_ ?_ ?_ ?_ ?_ ?_ ?_ ?_ ?_ ?_ ?_ ?_ ?_ ?_ ?_ ?_ ?_ ?_ ?_ ?_ ?_ ?_)

end Sys2Proof.Machine
end

