-- ==== Sys2Proof/Laws/FrameSlotOps.lean ====
section
/-! SUPPORT. What each function of Machine/SlotOps.lean changes at most, as a mask (Laws/Frame.lean). -/
set_option linter.unusedVariables false
set_option linter.unusedTactic false
set_option linter.unreachableTactic false
namespace Sys2Proof.Machine

theorem fr_setGrp (g : Nat) (x : Group) (s : State) : Fr 32768 s (setGrp g x s) := by
  unfold setGrp
  repeat' (first
    | exact Or.inl rfl
    | exact Or.inr rfl
    | lift_lets
    | (intro u_; refine Fr.cut (M := 32768) (s := s) (t := u_) ?_ fun hu_ => ?_; (on_goal 2 => clear_value u_); (on_goal 1 => subst u_))
    | intro v_
    | with_reducible refine Fr.ite ?_ ?_
    | with_reducible assumption
    | with_reducible exact Fr.refl _ _
    | with_reducible refine Fr.upd ‹_› ?_ ?_ ?_ ?_ ?_ ?_ ?_ ?_ ?_ ?_ ?_ ?_ ?_ ?_ ?_ ?_ ?_ ?_ ?_ ?_ ?_ ?_ ?_ ?_ ?_ ?_ ?_ ?_ ?_
    | with_reducible refine Fr.upd (Fr.refl _ _) ?_ ?_ ?_ ?_ ?_ ?_ ?_ ?_ ?_ ?_ ?_ ?_ ?_ ?_ ?_ ?_ ?_ ?_ ?_ ?_ ?_ ?_ ?_ ?_ ?_ ?_ ?_ ?_ ?_)

theorem fr_modGrp (g : Nat) (f : Group → Group) (s : State) : Fr 32768 s (modGrp g f s) := by
  unfold modGrp
  repeat' (first
    | exact Or.inl rfl
    | exact Or.inr rfl
    | with_reducible refine Fr.ite ?_ ?_
    | ((with_reducible apply Fr.step); (on_goal 1 => first | with_reducible apply fr_setGrp); (on_goal 1 => exact rfl))
    | with_reducible assumption
    | with_reducible exact Fr.refl _ _)

theorem fr_setClient (k : Nat) (x : SClient) (s : State) : Fr 32768 s (setClient k x s) := by
  unfold setClient
  repeat' (first
    | exact Or.inl rfl
    | exact Or.inr rfl
    | lift_lets
    | (intro u_; refine Fr.cut (M := 32768) (s := s) (t := u_) ?_ fun hu_ => ?_; (on_goal 2 => clear_value u_); (on_goal 1 => subst u_))
    | intro v_
    | with_reducible refine Fr.ite ?_ ?_
    | with_reducible assumption
    | with_reducible exact Fr.refl _ _
    | with_reducible refine Fr.upd ‹_› ?_ ?_ ?_ ?_ ?_ ?_ ?_ ?_ ?_ ?_ ?_ ?_ ?_ ?_ ?_ ?_ ?_ ?_ ?_ ?_ ?_ ?_ ?_ ?_ ?_ ?_ ?_ ?_ ?_
    | with_reducible refine Fr.upd (Fr.refl _ _) ?_ ?_ ?_ ?_ ?_ ?_ ?_ ?_ ?_ ?_ ?_ ?_ ?_ ?_ ?_ ?_ ?_ ?_ ?_ ?_ ?_ ?_ ?_ ?_ ?_ ?_ ?_ ?_ ?_)

theorem fr_clientTo (k : Nat) (up : Bool) (s : State) : Fr 32800 s (clientTo k up s) := by
  unfold clientTo
  repeat' (first
    | exact Or.inl rfl
    | exact Or.inr rfl
    | lift_lets
    | (intro u_; refine Fr.cut (M := 32800) (s := s) (t := u_) ?_ fun hu_ => ?_; (on_goal 2 => clear_value u_); (on_goal 1 => subst u_))
    | intro v_
    | with_reducible refine Fr.ite ?_ ?_
    | ((with_reducible apply Fr.step); (on_goal 1 => first | with_reducible apply fr_emit | with_reducible apply fr_setClient); (on_goal 1 => exact rfl))
    | split
    | with_reducible assumption
    | with_reducible exact Fr.refl _ _
    | with_reducible refine Fr.upd ‹_› ?_ ?_ ?_ ?_ ?_ ?_ ?_ ?_ ?_ ?_ ?_ ?_ ?_ ?_ ?_ ?_ ?_ ?_ ?_ ?_ ?_ ?_ ?_ ?_ ?_ ?_ ?_ ?_ ?_
    | with_reducible refine Fr.upd (Fr.refl _ _) ?_ ?_ ?_ ?_ ?_ ?_ ?_ ?_ ?_ ?_ ?_ ?_ ?_ ?_ ?_ ?_ ?_ ?_ ?_ ?_ ?_ ?_ ?_ ?_ ?_ ?_ ?_ ?_ ?_)

theorem fr_setAlarm (g bit client : Nat) (on : Bool) (s : State) : Fr 32930 s (setAlarm g bit client on s) := by
  unfold setAlarm
  repeat' (first
    | exact Or.inl rfl
    | exact Or.inr rfl
    | lift_lets
    | (intro u_; refine Fr.cut (M := 32930) (s := s) (t := u_) ?_ fun hu_ => ?_; (on_goal 2 => clear_value u_); (on_goal 1 => subst u_))
    | intro v_
    | with_reducible refine Fr.ite ?_ ?_
    | ((with_reducible apply Fr.step); (on_goal 1 => first | with_reducible apply fr_post | with_reducible apply fr_setGrp); (on_goal 1 => exact rfl))
    | split
    | with_reducible assumption
    | with_reducible exact Fr.refl _ _
    | with_reducible refine Fr.upd ‹_› ?_ ?_ ?_ ?_ ?_ ?_ ?_ ?_ ?_ ?_ ?_ ?_ ?_ ?_ ?_ ?_ ?_ ?_ ?_ ?_ ?_ ?_ ?_ ?_ ?_ ?_ ?_ ?_ ?_
    | with_reducible refine Fr.upd (Fr.refl _ _) ?_ ?_ ?_ ?_ ?_ ?_ ?_ ?_ ?_ ?_ ?_ ?_ ?_ ?_ ?_ ?_ ?_ ?_ ?_ ?_ ?_ ?_ ?_ ?_ ?_ ?_ ?_ ?_ ?_)

theorem fr_readPage (g : Nat) (s : State) : Fr 50332160 s (readPage g s) := by
  unfold readPage
  repeat' (first
    | exact Or.inl rfl
    | exact Or.inr rfl
    | lift_lets
    | (intro u_; refine Fr.cut (M := 50332160) (s := s) (t := u_) ?_ fun hu_ => ?_; (on_goal 2 => clear_value u_); (on_goal 1 => subst u_))
    | intro v_
    | with_reducible refine Fr.ite ?_ ?_
    | with_reducible refine Fr.foldl ?_ (fun _ _ _ => ?_)
    | ((with_reducible apply Fr.step); (on_goal 1 => first | with_reducible apply fr_report | with_reducible apply fr_clearUpset); (on_goal 1 => exact rfl))
    | split
    | with_reducible assumption
    | with_reducible exact Fr.refl _ _)

theorem fr_sendOverhead (g : Nat) (s : State) : Fr 50364960 s (sendOverhead g s) := by
  unfold sendOverhead
  repeat' (first
    | exact Or.inl rfl
    | exact Or.inr rfl
    | lift_lets
    | (intro u_; refine Fr.cut (M := 50364960) (s := s) (t := u_) ?_ fun hu_ => ?_; (on_goal 2 => clear_value u_); (on_goal 1 => subst u_))
    | intro v_
    | with_reducible refine Fr.ite ?_ ?_
    | ((with_reducible apply Fr.step); (on_goal 1 => first | with_reducible apply fr_emit | with_reducible apply fr_modGrp | with_reducible apply fr_readPage); (on_goal 1 => exact rfl))
    | split
    | with_reducible assumption
    | with_reducible exact Fr.refl _ _
    | with_reducible refine Fr.upd ‹_› ?_ ?_ ?_ ?_ ?_ ?_ ?_ ?_ ?_ ?_ ?_ ?_ ?_ ?_ ?_ ?_ ?_ ?_ ?_ ?_ ?_ ?_ ?_ ?_ ?_ ?_ ?_ ?_ ?_
    | with_reducible refine Fr.upd (Fr.refl _ _) ?_ ?_ ?_ ?_ ?_ ?_ ?_ ?_ ?_ ?_ ?_ ?_ ?_ ?_ ?_ ?_ ?_ ?_ ?_ ?_ ?_ ?_ ?_ ?_ ?_ ?_ ?_ ?_ ?_)

theorem fr_sendAll (s : State) : Fr 50364960 s (sendAll s) := by
  unfold sendAll
  repeat' (first
    | exact Or.inl rfl
    | exact Or.inr rfl
    | with_reducible refine Fr.ite ?_ ?_
    | with_reducible refine Fr.foldl ?_ (fun _ _ _ => ?_)
    | ((with_reducible apply Fr.step); (on_goal 1 => first | with_reducible apply fr_sendOverhead); (on_goal 1 => exact rfl))
    | split
    | with_reducible assumption
    | with_reducible exact Fr.refl _ _)

theorem fr_applyCal (g : Nat) (s : State) : Fr 32930 s (applyCal g s) := by
  unfold applyCal
  repeat' (first
    | exact Or.inl rfl
    | exact Or.inr rfl
    | lift_lets
    | (intro u_; refine Fr.cut (M := 32930) (s := s) (t := u_) ?_ fun hu_ => ?_; (on_goal 2 => clear_value u_); (on_goal 1 => subst u_))
    | intro v_
    | with_reducible refine Fr.ite ?_ ?_
    | with_reducible refine Fr.foldl ?_ (fun _ _ _ => ?_)
    | ((with_reducible apply Fr.step); (on_goal 1 => first | with_reducible apply fr_clientTo | with_reducible apply fr_setAlarm); (on_goal 1 => exact rfl))
    | split
    | with_reducible assumption
    | with_reducible exact Fr.refl _ _)

theorem fr_applyCals (s : State) : Fr 50365090 s (applyCals s) := by
  unfold applyCals
  repeat' (first
    | exact Or.inl rfl
    | exact Or.inr rfl
    | with_reducible refine Fr.ite ?_ ?_
    | with_reducible refine Fr.foldl ?_ (fun _ _ _ => ?_)
    | ((with_reducible apply Fr.step); (on_goal 1 => first | with_reducible apply fr_sendAll | with_reducible apply fr_applyCal); (on_goal 1 => exact rfl))
    | split
    | with_reducible assumption
    | with_reducible exact Fr.refl _ _)

theorem fr_endSwitch (g status : Nat) (s : State) : Fr 50365090 s (endSwitch g status s) := by
  unfold endSwitch
  repeat' (first
    | exact Or.inl rfl
    | exact Or.inr rfl
    | lift_lets
    | (intro u_; refine Fr.cut (M := 50365090) (s := s) (t := u_) ?_ fun hu_ => ?_; (on_goal 2 => clear_value u_); (on_goal 1 => subst u_))
    | intro v_
    | with_reducible refine Fr.ite ?_ ?_
    | ((with_reducible apply Fr.step); (on_goal 1 => first | with_reducible apply fr_finishRef | with_reducible apply fr_setGrp | with_reducible apply fr_sendOverhead); (on_goal 1 => exact rfl))
    | split
    | (clear_value *; split)
    | with_reducible assumption
    | with_reducible exact Fr.refl _ _
    | with_reducible refine Fr.upd ‹_› ?_ ?_ ?_ ?_ ?_ ?_ ?_ ?_ ?_ ?_ ?_ ?_ ?_ ?_ ?_ ?_ ?_ ?_ ?_ ?_ ?_ ?_ ?_ ?_ ?_ ?_ ?_ ?_ ?_
    | with_reducible refine Fr.upd (Fr.refl _ _) ?_ ?_ ?_ ?_ ?_ ?_ ?_ ?_ ?_ ?_ ?_ ?_ ?_ ?_ ?_ ?_ ?_ ?_ ?_ ?_ ?_ ?_ ?_ ?_ ?_ ?_ ?_ ?_ ?_)

theorem fr_showAlarms (g : Nat) (s : State) : Fr 33587874 s (showAlarms g s) := by
  unfold showAlarms
  repeat' (first
    | exact Or.inl rfl
    | exact Or.inr rfl
    | lift_lets
    | (intro u_; refine Fr.cut (M := 33587874) (s := s) (t := u_) ?_ fun hu_ => ?_; (on_goal 2 => clear_value u_); (on_goal 1 => subst u_))
    | intro v_
    | with_reducible refine Fr.ite ?_ ?_
    | ((with_reducible apply Fr.step); (on_goal 1 => first | with_reducible apply fr_report | with_reducible apply fr_setAlarm); (on_goal 1 => exact rfl))
    | split
    | with_reducible assumption
    | with_reducible exact Fr.refl _ _)

theorem fr_clearSearch (g : Nat) (s : State) : Fr 33587874 s (clearSearch g s) := by
  unfold clearSearch
  repeat' (first
    | exact Or.inl rfl
    | exact Or.inr rfl
    | lift_lets
    | (intro u_; refine Fr.cut (M := 33587874) (s := s) (t := u_) ?_ fun hu_ => ?_; (on_goal 2 => clear_value u_); (on_goal 1 => subst u_))
    | intro v_
    | with_reducible refine Fr.ite ?_ ?_
    | ((with_reducible apply Fr.step); (on_goal 1 => first | with_reducible apply fr_modGrp | with_reducible apply fr_applyCal | with_reducible apply fr_showAlarms); (on_goal 1 => exact rfl))
    | split
    | with_reducible assumption
    | with_reducible exact Fr.refl _ _
    | with_reducible refine Fr.upd ‹_› ?_ ?_ ?_ ?_ ?_ ?_ ?_ ?_ ?_ ?_ ?_ ?_ ?_ ?_ ?_ ?_ ?_ ?_ ?_ ?_ ?_ ?_ ?_ ?_ ?_ ?_ ?_ ?_ ?_
    | with_reducible refine Fr.upd (Fr.refl _ _) ?_ ?_ ?_ ?_ ?_ ?_ ?_ ?_ ?_ ?_ ?_ ?_ ?_ ?_ ?_ ?_ ?_ ?_ ?_ ?_ ?_ ?_ ?_ ?_ ?_ ?_ ?_ ?_ ?_)

theorem fr_grpTo (g : Nat) (st : GrpSt) (cause : Nat) (s : State) : Fr 50365090 s (grpTo g st cause s) := by
  unfold grpTo
  repeat' (first
    | exact Or.inl rfl
    | exact Or.inr rfl
    | lift_lets
    | (intro u_; refine Fr.cut (M := 50365090) (s := s) (t := u_) ?_ fun hu_ => ?_; (on_goal 2 => clear_value u_); (on_goal 1 => subst u_))
    | intro v_
    | with_reducible refine Fr.ite ?_ ?_
    | with_reducible refine Fr.foldl ?_ (fun _ _ _ => ?_)
    | ((with_reducible apply Fr.step); (on_goal 1 => first | with_reducible apply fr_emit | with_reducible apply fr_post | with_reducible apply fr_setGrp | with_reducible apply fr_modGrp | with_reducible apply fr_clientTo | with_reducible apply fr_sendAll | with_reducible apply fr_applyCal | with_reducible apply fr_endSwitch | with_reducible apply fr_clearSearch); (on_goal 1 => exact rfl))
    | split
    | with_reducible assumption
    | with_reducible exact Fr.refl _ _
    | with_reducible refine Fr.upd ‹_› ?_ ?_ ?_ ?_ ?_ ?_ ?_ ?_ ?_ ?_ ?_ ?_ ?_ ?_ ?_ ?_ ?_ ?_ ?_ ?_ ?_ ?_ ?_ ?_ ?_ ?_ ?_ ?_ ?_
    | with_reducible refine Fr.upd (Fr.refl _ _) ?_ ?_ ?_ ?_ ?_ ?_ ?_ ?_ ?_ ?_ ?_ ?_ ?_ ?_ ?_ ?_ ?_ ?_ ?_ ?_ ?_ ?_ ?_ ?_ ?_ ?_ ?_ ?_ ?_)

theorem fr_grpTryUp (g : Nat) (s : State) : Fr 50365090 s (grpTryUp g s) := by
  unfold grpTryUp
  repeat' (first
    | exact Or.inl rfl
    | exact Or.inr rfl
    | with_reducible refine Fr.ite ?_ ?_
    | ((with_reducible apply Fr.step); (on_goal 1 => first | with_reducible apply fr_grpTo); (on_goal 1 => exact rfl))
    | split
    | with_reducible assumption
    | with_reducible exact Fr.refl _ _)

theorem fr_grpTryAlign (g : Nat) (s : State) : Fr 50365090 s (grpTryAlign g s) := by
  unfold grpTryAlign
  repeat' (first
    | exact Or.inl rfl
    | exact Or.inr rfl
    | with_reducible refine Fr.ite ?_ ?_
    | ((with_reducible apply Fr.step); (on_goal 1 => first | with_reducible apply fr_clearSearch | with_reducible apply fr_grpTo); (on_goal 1 => exact rfl))
    | split
    | with_reducible assumption
    | with_reducible exact Fr.refl _ _)

theorem fr_slotPortDown (p : Nat) (s : State) : Fr 50365090 s (slotPortDown p s) := by
  unfold slotPortDown
  repeat' (first
    | exact Or.inl rfl
    | exact Or.inr rfl
    | lift_lets
    | (intro u_; refine Fr.cut (M := 50365090) (s := s) (t := u_) ?_ fun hu_ => ?_; (on_goal 2 => clear_value u_); (on_goal 1 => subst u_))
    | intro v_
    | with_reducible refine Fr.ite ?_ ?_
    | ((with_reducible apply Fr.step); (on_goal 1 => first | with_reducible apply fr_grpTo); (on_goal 1 => exact rfl))
    | split
    | (clear_value *; split)
    | with_reducible assumption
    | with_reducible exact Fr.refl _ _
    | with_reducible refine Fr.upd ‹_› ?_ ?_ ?_ ?_ ?_ ?_ ?_ ?_ ?_ ?_ ?_ ?_ ?_ ?_ ?_ ?_ ?_ ?_ ?_ ?_ ?_ ?_ ?_ ?_ ?_ ?_ ?_ ?_ ?_
    | with_reducible refine Fr.upd (Fr.refl _ _) ?_ ?_ ?_ ?_ ?_ ?_ ?_ ?_ ?_ ?_ ?_ ?_ ?_ ?_ ?_ ?_ ?_ ?_ ?_ ?_ ?_ ?_ ?_ ?_ ?_ ?_ ?_ ?_ ?_)

theorem fr_slotPortUp (p : Nat) (s : State) : Fr 50365090 s (slotPortUp p s) := by
  unfold slotPortUp
  repeat' (first
    | exact Or.inl rfl
    | exact Or.inr rfl
    | lift_lets
    | (intro u_; refine Fr.cut (M := 50365090) (s := s) (t := u_) ?_ fun hu_ => ?_; (on_goal 2 => clear_value u_); (on_goal 1 => subst u_))
    | intro v_
    | with_reducible refine Fr.ite ?_ ?_
    | ((with_reducible apply Fr.step); (on_goal 1 => first | with_reducible apply fr_grpTryAlign); (on_goal 1 => exact rfl))
    | split
    | (clear_value *; split)
    | with_reducible assumption
    | with_reducible exact Fr.refl _ _
    | with_reducible refine Fr.upd ‹_› ?_ ?_ ?_ ?_ ?_ ?_ ?_ ?_ ?_ ?_ ?_ ?_ ?_ ?_ ?_ ?_ ?_ ?_ ?_ ?_ ?_ ?_ ?_ ?_ ?_ ?_ ?_ ?_ ?_
    | with_reducible refine Fr.upd (Fr.refl _ _) ?_ ?_ ?_ ?_ ?_ ?_ ?_ ?_ ?_ ?_ ?_ ?_ ?_ ?_ ?_ ?_ ?_ ?_ ?_ ?_ ?_ ?_ ?_ ?_ ?_ ?_ ?_ ?_ ?_)

theorem fr_closeBin (day opens : Bool) (start : Nat) (s : State) : Fr 8421538 s (closeBin day opens start s) := by
  unfold closeBin
  repeat' (first
    | exact Or.inl rfl
    | exact Or.inr rfl
    | lift_lets
    | (intro u_; refine Fr.cut (M := 8421538) (s := s) (t := u_) ?_ fun hu_ => ?_; (on_goal 2 => clear_value u_); (on_goal 1 => subst u_))
    | intro v_
    | with_reducible refine Fr.ite ?_ ?_
    | ((with_reducible apply Fr.step); (on_goal 1 => first | with_reducible apply fr_post); (on_goal 1 => exact rfl))
    | split
    | with_reducible assumption
    | with_reducible exact Fr.refl _ _
    | with_reducible refine Fr.upd ‹_› ?_ ?_ ?_ ?_ ?_ ?_ ?_ ?_ ?_ ?_ ?_ ?_ ?_ ?_ ?_ ?_ ?_ ?_ ?_ ?_ ?_ ?_ ?_ ?_ ?_ ?_ ?_ ?_ ?_
    | with_reducible refine Fr.upd (Fr.refl _ _) ?_ ?_ ?_ ?_ ?_ ?_ ?_ ?_ ?_ ?_ ?_ ?_ ?_ ?_ ?_ ?_ ?_ ?_ ?_ ?_ ?_ ?_ ?_ ?_ ?_ ?_ ?_ ?_ ?_)

theorem fr_pmStep (day : Bool) (a b : Nat) (s : State) : Fr 8421538 s (pmStep day a b s) := by
  unfold pmStep
  repeat' (first
    | exact Or.inl rfl
    | exact Or.inr rfl
    | lift_lets
    | (intro u_; refine Fr.cut (M := 8421538) (s := s) (t := u_) ?_ fun hu_ => ?_; (on_goal 2 => clear_value u_); (on_goal 1 => subst u_))
    | intro v_
    | with_reducible refine Fr.ite ?_ ?_
    | ((with_reducible apply Fr.step); (on_goal 1 => first | with_reducible apply fr_closeBin); (on_goal 1 => exact rfl))
    | split
    | with_reducible assumption
    | with_reducible exact Fr.refl _ _
    | with_reducible refine Fr.upd ‹_› ?_ ?_ ?_ ?_ ?_ ?_ ?_ ?_ ?_ ?_ ?_ ?_ ?_ ?_ ?_ ?_ ?_ ?_ ?_ ?_ ?_ ?_ ?_ ?_ ?_ ?_ ?_ ?_ ?_
    | with_reducible refine Fr.upd (Fr.refl _ _) ?_ ?_ ?_ ?_ ?_ ?_ ?_ ?_ ?_ ?_ ?_ ?_ ?_ ?_ ?_ ?_ ?_ ?_ ?_ ?_ ?_ ?_ ?_ ?_ ?_ ?_ ?_ ?_ ?_)

theorem fr_pmSuspect (s : State) : Fr 32768 s (pmSuspect s) := by
  unfold pmSuspect
  repeat' (first
    | exact Or.inl rfl
    | exact Or.inr rfl
    | lift_lets
    | (intro u_; refine Fr.cut (M := 32768) (s := s) (t := u_) ?_ fun hu_ => ?_; (on_goal 2 => clear_value u_); (on_goal 1 => subst u_))
    | intro v_
    | with_reducible refine Fr.ite ?_ ?_
    | split
    | with_reducible assumption
    | with_reducible exact Fr.refl _ _
    | with_reducible refine Fr.upd ‹_› ?_ ?_ ?_ ?_ ?_ ?_ ?_ ?_ ?_ ?_ ?_ ?_ ?_ ?_ ?_ ?_ ?_ ?_ ?_ ?_ ?_ ?_ ?_ ?_ ?_ ?_ ?_ ?_ ?_
    | with_reducible refine Fr.upd (Fr.refl _ _) ?_ ?_ ?_ ?_ ?_ ?_ ?_ ?_ ?_ ?_ ?_ ?_ ?_ ?_ ?_ ?_ ?_ ?_ ?_ ?_ ?_ ?_ ?_ ?_ ?_ ?_ ?_ ?_ ?_
    | (constructor <;> first | exact Or.inl rfl | exact Or.inr rfl))

end Sys2Proof.Machine
end

