-- ==== Sys2Proof/Laws/FramePortOps.lean ====
section
/-! SUPPORT. What each function of Machine/PortOps.lean changes at most, as a mask (Laws/Frame.lean). -/
set_option linter.unusedVariables false
set_option linter.unusedTactic false
set_option linter.unreachableTactic false
namespace Sys2Proof.Machine

theorem fr_setLane (n : Nat) (l : Lane) (s : State) : Fr 2048 s (setLane n l s) := by
  unfold setLane
  repeat' (first
    | exact Or.inl rfl
    | exact Or.inr rfl
    | lift_lets
    | (intro u_; refine Fr.cut (M := 2048) (s := s) (t := u_) ?_ fun hu_ => ?_; (on_goal 2 => clear_value u_); (on_goal 1 => subst u_))
    | intro v_
    | with_reducible refine Fr.ite ?_ ?_
    | with_reducible assumption
    | with_reducible exact Fr.refl _ _
    | with_reducible refine Fr.upd ‹_› ?_ ?_ ?_ ?_ ?_ ?_ ?_ ?_ ?_ ?_ ?_ ?_ ?_ ?_ ?_ ?_ ?_ ?_ ?_ ?_ ?_ ?_ ?_ ?_ ?_ ?_ ?_ ?_ ?_
    | with_reducible refine Fr.upd (Fr.refl _ _) ?_ ?_ ?_ ?_ ?_ ?_ ?_ ?_ ?_ ?_ ?_ ?_ ?_ ?_ ?_ ?_ ?_ ?_ ?_ ?_ ?_ ?_ ?_ ?_ ?_ ?_ ?_ ?_ ?_)

theorem fr_modLane (n : Nat) (f : Lane → Lane) (s : State) : Fr 2048 s (modLane n f s) := by
  unfold modLane
  repeat' (first
    | exact Or.inl rfl
    | exact Or.inr rfl
    | with_reducible refine Fr.ite ?_ ?_
    | ((with_reducible apply Fr.step); (on_goal 1 => first | with_reducible apply fr_setLane); (on_goal 1 => exact rfl))
    | with_reducible assumption
    | with_reducible exact Fr.refl _ _)

theorem fr_setMacro (m : Nat) (x : LMacro) (s : State) : Fr 2048 s (setMacro m x s) := by
  unfold setMacro
  repeat' (first
    | exact Or.inl rfl
    | exact Or.inr rfl
    | lift_lets
    | (intro u_; refine Fr.cut (M := 2048) (s := s) (t := u_) ?_ fun hu_ => ?_; (on_goal 2 => clear_value u_); (on_goal 1 => subst u_))
    | intro v_
    | with_reducible refine Fr.ite ?_ ?_
    | with_reducible assumption
    | with_reducible exact Fr.refl _ _
    | with_reducible refine Fr.upd ‹_› ?_ ?_ ?_ ?_ ?_ ?_ ?_ ?_ ?_ ?_ ?_ ?_ ?_ ?_ ?_ ?_ ?_ ?_ ?_ ?_ ?_ ?_ ?_ ?_ ?_ ?_ ?_ ?_ ?_
    | with_reducible refine Fr.upd (Fr.refl _ _) ?_ ?_ ?_ ?_ ?_ ?_ ?_ ?_ ?_ ?_ ?_ ?_ ?_ ?_ ?_ ?_ ?_ ?_ ?_ ?_ ?_ ?_ ?_ ?_ ?_ ?_ ?_ ?_ ?_)

theorem fr_setGroup (g : Nat) (x : LGroup) (s : State) : Fr 2048 s (setGroup g x s) := by
  unfold setGroup
  repeat' (first
    | exact Or.inl rfl
    | exact Or.inr rfl
    | lift_lets
    | (intro u_; refine Fr.cut (M := 2048) (s := s) (t := u_) ?_ fun hu_ => ?_; (on_goal 2 => clear_value u_); (on_goal 1 => subst u_))
    | intro v_
    | with_reducible refine Fr.ite ?_ ?_
    | with_reducible assumption
    | with_reducible exact Fr.refl _ _
    | with_reducible refine Fr.upd ‹_› ?_ ?_ ?_ ?_ ?_ ?_ ?_ ?_ ?_ ?_ ?_ ?_ ?_ ?_ ?_ ?_ ?_ ?_ ?_ ?_ ?_ ?_ ?_ ?_ ?_ ?_ ?_ ?_ ?_
    | with_reducible refine Fr.upd (Fr.refl _ _) ?_ ?_ ?_ ?_ ?_ ?_ ?_ ?_ ?_ ?_ ?_ ?_ ?_ ?_ ?_ ?_ ?_ ?_ ?_ ?_ ?_ ?_ ?_ ?_ ?_ ?_ ?_ ?_ ?_)

theorem fr_setPort (p : Nat) (x : Port) (s : State) : Fr 4096 s (setPort p x s) := by
  unfold setPort
  repeat' (first
    | exact Or.inl rfl
    | exact Or.inr rfl
    | lift_lets
    | (intro u_; refine Fr.cut (M := 4096) (s := s) (t := u_) ?_ fun hu_ => ?_; (on_goal 2 => clear_value u_); (on_goal 1 => subst u_))
    | intro v_
    | with_reducible refine Fr.ite ?_ ?_
    | with_reducible assumption
    | with_reducible exact Fr.refl _ _
    | with_reducible refine Fr.upd ‹_› ?_ ?_ ?_ ?_ ?_ ?_ ?_ ?_ ?_ ?_ ?_ ?_ ?_ ?_ ?_ ?_ ?_ ?_ ?_ ?_ ?_ ?_ ?_ ?_ ?_ ?_ ?_ ?_ ?_
    | with_reducible refine Fr.upd (Fr.refl _ _) ?_ ?_ ?_ ?_ ?_ ?_ ?_ ?_ ?_ ?_ ?_ ?_ ?_ ?_ ?_ ?_ ?_ ?_ ?_ ?_ ?_ ?_ ?_ ?_ ?_ ?_ ?_ ?_ ?_)

theorem fr_modPort (p : Nat) (f : Port → Port) (s : State) : Fr 4096 s (modPort p f s) := by
  unfold modPort
  repeat' (first
    | exact Or.inl rfl
    | exact Or.inr rfl
    | with_reducible refine Fr.ite ?_ ?_
    | ((with_reducible apply Fr.step); (on_goal 1 => first | with_reducible apply fr_setPort); (on_goal 1 => exact rfl))
    | with_reducible assumption
    | with_reducible exact Fr.refl _ _)

theorem fr_setSquelch (n : Nat) (on : Bool) (s : State) : Fr 2080 s (setSquelch n on s) := by
  unfold setSquelch
  repeat' (first
    | exact Or.inl rfl
    | exact Or.inr rfl
    | lift_lets
    | (intro u_; refine Fr.cut (M := 2080) (s := s) (t := u_) ?_ fun hu_ => ?_; (on_goal 2 => clear_value u_); (on_goal 1 => subst u_))
    | intro v_
    | with_reducible refine Fr.ite ?_ ?_
    | ((with_reducible apply Fr.step); (on_goal 1 => first | with_reducible apply fr_emit | with_reducible apply fr_setLane); (on_goal 1 => exact rfl))
    | split
    | with_reducible assumption
    | with_reducible exact Fr.refl _ _
    | with_reducible refine Fr.upd ‹_› ?_ ?_ ?_ ?_ ?_ ?_ ?_ ?_ ?_ ?_ ?_ ?_ ?_ ?_ ?_ ?_ ?_ ?_ ?_ ?_ ?_ ?_ ?_ ?_ ?_ ?_ ?_ ?_ ?_
    | with_reducible refine Fr.upd (Fr.refl _ _) ?_ ?_ ?_ ?_ ?_ ?_ ?_ ?_ ?_ ?_ ?_ ?_ ?_ ?_ ?_ ?_ ?_ ?_ ?_ ?_ ?_ ?_ ?_ ?_ ?_ ?_ ?_ ?_ ?_)

theorem fr_settleTx (n : Nat) (s : State) : Fr 2080 s (settleTx n s) := by
  unfold settleTx
  repeat' (first
    | exact Or.inl rfl
    | exact Or.inr rfl
    | with_reducible refine Fr.ite ?_ ?_
    | ((with_reducible apply Fr.step); (on_goal 1 => first | with_reducible apply fr_setSquelch); (on_goal 1 => exact rfl))
    | with_reducible assumption
    | with_reducible exact Fr.refl _ _)

theorem fr_unwake (p : Nat) (held : Nat → Bool) (s : State) : Fr 524288 s (unwake p held s) := by
  unfold unwake
  repeat' (first
    | exact Or.inl rfl
    | exact Or.inr rfl
    | lift_lets
    | (intro u_; refine Fr.cut (M := 524288) (s := s) (t := u_) ?_ fun hu_ => ?_; (on_goal 2 => clear_value u_); (on_goal 1 => subst u_))
    | intro v_
    | with_reducible refine Fr.ite ?_ ?_
    | with_reducible refine Fr.foldl ?_ (fun _ _ _ => ?_)
    | split
    | with_reducible assumption
    | with_reducible exact Fr.refl _ _
    | with_reducible refine Fr.upd ‹_› ?_ ?_ ?_ ?_ ?_ ?_ ?_ ?_ ?_ ?_ ?_ ?_ ?_ ?_ ?_ ?_ ?_ ?_ ?_ ?_ ?_ ?_ ?_ ?_ ?_ ?_ ?_ ?_ ?_
    | with_reducible refine Fr.upd (Fr.refl _ _) ?_ ?_ ?_ ?_ ?_ ?_ ?_ ?_ ?_ ?_ ?_ ?_ ?_ ?_ ?_ ?_ ?_ ?_ ?_ ?_ ?_ ?_ ?_ ?_ ?_ ?_ ?_ ?_ ?_
    | (constructor <;> first | exact Or.inl rfl | exact Or.inr rfl))

theorem fr_settleFault (p : Nat) (s : State) : Fr 4128 s (settleFault p s) := by
  unfold settleFault
  repeat' (first
    | exact Or.inl rfl
    | exact Or.inr rfl
    | lift_lets
    | (intro u_; refine Fr.cut (M := 4128) (s := s) (t := u_) ?_ fun hu_ => ?_; (on_goal 2 => clear_value u_); (on_goal 1 => subst u_))
    | intro v_
    | with_reducible refine Fr.ite ?_ ?_
    | ((with_reducible apply Fr.step); (on_goal 1 => first | with_reducible apply fr_emit | with_reducible apply fr_setPort); (on_goal 1 => exact rfl))
    | split
    | with_reducible assumption
    | with_reducible exact Fr.refl _ _
    | with_reducible refine Fr.upd ‹_› ?_ ?_ ?_ ?_ ?_ ?_ ?_ ?_ ?_ ?_ ?_ ?_ ?_ ?_ ?_ ?_ ?_ ?_ ?_ ?_ ?_ ?_ ?_ ?_ ?_ ?_ ?_ ?_ ?_
    | with_reducible refine Fr.upd (Fr.refl _ _) ?_ ?_ ?_ ?_ ?_ ?_ ?_ ?_ ?_ ?_ ?_ ?_ ?_ ?_ ?_ ?_ ?_ ?_ ?_ ?_ ?_ ?_ ?_ ?_ ?_ ?_ ?_ ?_ ?_)

theorem fr_portEnter (p : Nat) (st : PortSt) (s : State) : Fr 528416 s (portEnter p st s) := by
  unfold portEnter
  repeat' (first
    | exact Or.inl rfl
    | exact Or.inr rfl
    | lift_lets
    | (intro u_; refine Fr.cut (M := 528416) (s := s) (t := u_) ?_ fun hu_ => ?_; (on_goal 2 => clear_value u_); (on_goal 1 => subst u_))
    | intro v_
    | with_reducible refine Fr.ite ?_ ?_
    | ((with_reducible apply Fr.step); (on_goal 1 => first | with_reducible apply fr_modPort | with_reducible apply fr_unwake | with_reducible apply fr_settleFault); (on_goal 1 => exact rfl))
    | split
    | with_reducible assumption
    | with_reducible exact Fr.refl _ _
    | with_reducible refine Fr.upd ‹_› ?_ ?_ ?_ ?_ ?_ ?_ ?_ ?_ ?_ ?_ ?_ ?_ ?_ ?_ ?_ ?_ ?_ ?_ ?_ ?_ ?_ ?_ ?_ ?_ ?_ ?_ ?_ ?_ ?_
    | with_reducible refine Fr.upd (Fr.refl _ _) ?_ ?_ ?_ ?_ ?_ ?_ ?_ ?_ ?_ ?_ ?_ ?_ ?_ ?_ ?_ ?_ ?_ ?_ ?_ ?_ ?_ ?_ ?_ ?_ ?_ ?_ ?_ ?_ ?_)

theorem fr_leaveUp (p : Nat) (s : State) : Fr 33567264 s (leaveUp p s) := by
  unfold leaveUp
  repeat' (first
    | exact Or.inl rfl
    | exact Or.inr rfl
    | lift_lets
    | (intro u_; refine Fr.cut (M := 33567264) (s := s) (t := u_) ?_ fun hu_ => ?_; (on_goal 2 => clear_value u_); (on_goal 1 => subst u_))
    | intro v_
    | with_reducible refine Fr.ite ?_ ?_
    | ((with_reducible apply Fr.step); (on_goal 1 => first | with_reducible apply fr_emit | with_reducible apply fr_countPort | with_reducible apply fr_modPort); (on_goal 1 => exact rfl))
    | split
    | with_reducible assumption
    | with_reducible exact Fr.refl _ _
    | with_reducible refine Fr.upd ‹_› ?_ ?_ ?_ ?_ ?_ ?_ ?_ ?_ ?_ ?_ ?_ ?_ ?_ ?_ ?_ ?_ ?_ ?_ ?_ ?_ ?_ ?_ ?_ ?_ ?_ ?_ ?_ ?_ ?_
    | with_reducible refine Fr.upd (Fr.refl _ _) ?_ ?_ ?_ ?_ ?_ ?_ ?_ ?_ ?_ ?_ ?_ ?_ ?_ ?_ ?_ ?_ ?_ ?_ ?_ ?_ ?_ ?_ ?_ ?_ ?_ ?_ ?_ ?_ ?_)

theorem fr_portDown (p cause : Nat) (s : State) : Fr 50901666 s (portDown p cause s) := by
  unfold portDown
  repeat' (first
    | exact Or.inl rfl
    | exact Or.inr rfl
    | lift_lets
    | (intro u_; refine Fr.cut (M := 50901666) (s := s) (t := u_) ?_ fun hu_ => ?_; (on_goal 2 => clear_value u_); (on_goal 1 => subst u_))
    | intro v_
    | with_reducible refine Fr.ite ?_ ?_
    | ((with_reducible apply Fr.step); (on_goal 1 => first | with_reducible apply fr_post | with_reducible apply fr_slotPortDown | with_reducible apply fr_modPort | with_reducible apply fr_portEnter | with_reducible apply fr_leaveUp); (on_goal 1 => exact rfl))
    | split
    | with_reducible assumption
    | with_reducible exact Fr.refl _ _
    | with_reducible refine Fr.upd ‹_› ?_ ?_ ?_ ?_ ?_ ?_ ?_ ?_ ?_ ?_ ?_ ?_ ?_ ?_ ?_ ?_ ?_ ?_ ?_ ?_ ?_ ?_ ?_ ?_ ?_ ?_ ?_ ?_ ?_
    | with_reducible refine Fr.upd (Fr.refl _ _) ?_ ?_ ?_ ?_ ?_ ?_ ?_ ?_ ?_ ?_ ?_ ?_ ?_ ?_ ?_ ?_ ?_ ?_ ?_ ?_ ?_ ?_ ?_ ?_ ?_ ?_ ?_ ?_ ?_)

theorem fr_tryLinking (p : Nat) (s : State) : Fr 528416 s (tryLinking p s) := by
  unfold tryLinking
  repeat' (first
    | exact Or.inl rfl
    | exact Or.inr rfl
    | lift_lets
    | (intro u_; refine Fr.cut (M := 528416) (s := s) (t := u_) ?_ fun hu_ => ?_; (on_goal 2 => clear_value u_); (on_goal 1 => subst u_))
    | intro v_
    | with_reducible refine Fr.ite ?_ ?_
    | ((with_reducible apply Fr.step); (on_goal 1 => first | with_reducible apply fr_modPort | with_reducible apply fr_portEnter); (on_goal 1 => exact rfl))
    | split
    | with_reducible assumption
    | with_reducible exact Fr.refl _ _
    | with_reducible refine Fr.upd ‹_› ?_ ?_ ?_ ?_ ?_ ?_ ?_ ?_ ?_ ?_ ?_ ?_ ?_ ?_ ?_ ?_ ?_ ?_ ?_ ?_ ?_ ?_ ?_ ?_ ?_ ?_ ?_ ?_ ?_
    | with_reducible refine Fr.upd (Fr.refl _ _) ?_ ?_ ?_ ?_ ?_ ?_ ?_ ?_ ?_ ?_ ?_ ?_ ?_ ?_ ?_ ?_ ?_ ?_ ?_ ?_ ?_ ?_ ?_ ?_ ?_ ?_ ?_ ?_ ?_)

theorem fr_portDisable (p cause : Nat) (s : State) : Fr 50903714 s (portDisable p cause s) := by
  unfold portDisable
  repeat' (first
    | exact Or.inl rfl
    | exact Or.inr rfl
    | lift_lets
    | (intro u_; refine Fr.cut (M := 50903714) (s := s) (t := u_) ?_ fun hu_ => ?_; (on_goal 2 => clear_value u_); (on_goal 1 => subst u_))
    | intro v_
    | with_reducible refine Fr.ite ?_ ?_
    | with_reducible refine Fr.foldl ?_ (fun _ _ _ => ?_)
    | ((with_reducible apply Fr.step); (on_goal 1 => first | with_reducible apply fr_post | with_reducible apply fr_slotPortDown | with_reducible apply fr_setPort | with_reducible apply fr_modPort | with_reducible apply fr_setSquelch | with_reducible apply fr_portEnter | with_reducible apply fr_leaveUp); (on_goal 1 => exact rfl))
    | split
    | with_reducible assumption
    | with_reducible exact Fr.refl _ _
    | with_reducible refine Fr.upd ‹_› ?_ ?_ ?_ ?_ ?_ ?_ ?_ ?_ ?_ ?_ ?_ ?_ ?_ ?_ ?_ ?_ ?_ ?_ ?_ ?_ ?_ ?_ ?_ ?_ ?_ ?_ ?_ ?_ ?_
    | with_reducible refine Fr.upd (Fr.refl _ _) ?_ ?_ ?_ ?_ ?_ ?_ ?_ ?_ ?_ ?_ ?_ ?_ ?_ ?_ ?_ ?_ ?_ ?_ ?_ ?_ ?_ ?_ ?_ ?_ ?_ ?_ ?_ ?_ ?_)

theorem fr_evalClass (p c : Nat) (s : State) : Fr 4096 s (evalClass p c s) := by
  unfold evalClass
  repeat' (first
    | exact Or.inl rfl
    | exact Or.inr rfl
    | lift_lets
    | (intro u_; refine Fr.cut (M := 4096) (s := s) (t := u_) ?_ fun hu_ => ?_; (on_goal 2 => clear_value u_); (on_goal 1 => subst u_))
    | intro v_
    | with_reducible refine Fr.ite ?_ ?_
    | ((with_reducible apply Fr.step); (on_goal 1 => first | with_reducible apply fr_setPort); (on_goal 1 => exact rfl))
    | split
    | with_reducible assumption
    | with_reducible exact Fr.refl _ _
    | with_reducible refine Fr.upd ‹_› ?_ ?_ ?_ ?_ ?_ ?_ ?_ ?_ ?_ ?_ ?_ ?_ ?_ ?_ ?_ ?_ ?_ ?_ ?_ ?_ ?_ ?_ ?_ ?_ ?_ ?_ ?_ ?_ ?_
    | with_reducible refine Fr.upd (Fr.refl _ _) ?_ ?_ ?_ ?_ ?_ ?_ ?_ ?_ ?_ ?_ ?_ ?_ ?_ ?_ ?_ ?_ ?_ ?_ ?_ ?_ ?_ ?_ ?_ ?_ ?_ ?_ ?_ ?_ ?_)

theorem fr_evalFc (p : Nat) (s : State) : Fr 4096 s (evalFc p s) := by
  unfold evalFc
  repeat' (first
    | exact Or.inl rfl
    | exact Or.inr rfl
    | with_reducible refine Fr.ite ?_ ?_
    | with_reducible refine Fr.foldl ?_ (fun _ _ _ => ?_)
    | ((with_reducible apply Fr.step); (on_goal 1 => first | with_reducible apply fr_evalClass); (on_goal 1 => exact rfl))
    | split
    | with_reducible assumption
    | with_reducible exact Fr.refl _ _)

theorem fr_addOcc (p c : Nat) (d : Int) (s : State) : Fr 4096 s (addOcc p c d s) := by
  unfold addOcc
  repeat' (first
    | exact Or.inl rfl
    | exact Or.inr rfl
    | lift_lets
    | (intro u_; refine Fr.cut (M := 4096) (s := s) (t := u_) ?_ fun hu_ => ?_; (on_goal 2 => clear_value u_); (on_goal 1 => subst u_))
    | intro v_
    | with_reducible refine Fr.ite ?_ ?_
    | ((with_reducible apply Fr.step); (on_goal 1 => first | with_reducible apply fr_modPort | with_reducible apply fr_evalFc); (on_goal 1 => exact rfl))
    | split
    | with_reducible assumption
    | with_reducible exact Fr.refl _ _
    | with_reducible refine Fr.upd ‹_› ?_ ?_ ?_ ?_ ?_ ?_ ?_ ?_ ?_ ?_ ?_ ?_ ?_ ?_ ?_ ?_ ?_ ?_ ?_ ?_ ?_ ?_ ?_ ?_ ?_ ?_ ?_ ?_ ?_
    | with_reducible refine Fr.upd (Fr.refl _ _) ?_ ?_ ?_ ?_ ?_ ?_ ?_ ?_ ?_ ?_ ?_ ?_ ?_ ?_ ?_ ?_ ?_ ?_ ?_ ?_ ?_ ?_ ?_ ?_ ?_ ?_ ?_ ?_ ?_)

theorem fr_portUp (p : Nat) (s : State) : Fr 50893474 s (portUp p s) := by
  unfold portUp
  repeat' (first
    | exact Or.inl rfl
    | exact Or.inr rfl
    | lift_lets
    | (intro u_; refine Fr.cut (M := 50893474) (s := s) (t := u_) ?_ fun hu_ => ?_; (on_goal 2 => clear_value u_); (on_goal 1 => subst u_))
    | intro v_
    | with_reducible refine Fr.ite ?_ ?_
    | ((with_reducible apply Fr.step); (on_goal 1 => first | with_reducible apply fr_emit | with_reducible apply fr_post | with_reducible apply fr_slotPortUp | with_reducible apply fr_modPort | with_reducible apply fr_portEnter | with_reducible apply fr_evalFc); (on_goal 1 => exact rfl))
    | split
    | with_reducible assumption
    | with_reducible exact Fr.refl _ _
    | with_reducible refine Fr.upd ‹_› ?_ ?_ ?_ ?_ ?_ ?_ ?_ ?_ ?_ ?_ ?_ ?_ ?_ ?_ ?_ ?_ ?_ ?_ ?_ ?_ ?_ ?_ ?_ ?_ ?_ ?_ ?_ ?_ ?_
    | with_reducible refine Fr.upd (Fr.refl _ _) ?_ ?_ ?_ ?_ ?_ ?_ ?_ ?_ ?_ ?_ ?_ ?_ ?_ ?_ ?_ ?_ ?_ ?_ ?_ ?_ ?_ ?_ ?_ ?_ ?_ ?_ ?_ ?_ ?_)

theorem fr_tryWaked (p : Nat) (s : State) : Fr 50893474 s (tryWaked p s) := by
  unfold tryWaked
  repeat' (first
    | exact Or.inl rfl
    | exact Or.inr rfl
    | lift_lets
    | (intro u_; refine Fr.cut (M := 50893474) (s := s) (t := u_) ?_ fun hu_ => ?_; (on_goal 2 => clear_value u_); (on_goal 1 => subst u_))
    | intro v_
    | with_reducible refine Fr.ite ?_ ?_
    | ((with_reducible apply Fr.step); (on_goal 1 => first | with_reducible apply fr_post | with_reducible apply fr_portUp); (on_goal 1 => exact rfl))
    | split
    | with_reducible assumption
    | with_reducible exact Fr.refl _ _)

theorem fr_portCold (p : Nat) (s : State) : Fr 50903714 s (portCold p s) := by
  unfold portCold
  repeat' (first
    | exact Or.inl rfl
    | exact Or.inr rfl
    | lift_lets
    | (intro u_; refine Fr.cut (M := 50903714) (s := s) (t := u_) ?_ fun hu_ => ?_; (on_goal 2 => clear_value u_); (on_goal 1 => subst u_))
    | intro v_
    | with_reducible refine Fr.ite ?_ ?_
    | with_reducible refine Fr.foldl ?_ (fun _ _ _ => ?_)
    | ((with_reducible apply Fr.step); (on_goal 1 => first | with_reducible apply fr_post | with_reducible apply fr_settleTx | with_reducible apply fr_portDown | with_reducible apply fr_tryLinking); (on_goal 1 => exact rfl))
    | split
    | with_reducible assumption
    | with_reducible exact Fr.refl _ _)

theorem fr_observeTest (n : Nat) (s : State) : Fr 2112 s (observeTest n s) := by
  unfold observeTest
  repeat' (first
    | exact Or.inl rfl
    | exact Or.inr rfl
    | lift_lets
    | (intro u_; refine Fr.cut (M := 2112) (s := s) (t := u_) ?_ fun hu_ => ?_; (on_goal 2 => clear_value u_); (on_goal 1 => subst u_))
    | intro v_
    | with_reducible refine Fr.ite ?_ ?_
    | ((with_reducible apply Fr.step); (on_goal 1 => first | with_reducible apply fr_takeFree | with_reducible exact Fr.of_eq (by assumption) (fr_takeFree _) | with_reducible apply fr_setLane); (on_goal 1 => exact rfl))
    | split
    | with_reducible assumption
    | with_reducible exact Fr.refl _ _
    | with_reducible refine Fr.upd ‹_› ?_ ?_ ?_ ?_ ?_ ?_ ?_ ?_ ?_ ?_ ?_ ?_ ?_ ?_ ?_ ?_ ?_ ?_ ?_ ?_ ?_ ?_ ?_ ?_ ?_ ?_ ?_ ?_ ?_
    | with_reducible refine Fr.upd (Fr.refl _ _) ?_ ?_ ?_ ?_ ?_ ?_ ?_ ?_ ?_ ?_ ?_ ?_ ?_ ?_ ?_ ?_ ?_ ?_ ?_ ?_ ?_ ?_ ?_ ?_ ?_ ?_ ?_ ?_ ?_)

theorem fr_laneToCal (n : Nat) (s : State) : Fr 2144 s (laneToCal n s) := by
  unfold laneToCal
  repeat' (first
    | exact Or.inl rfl
    | exact Or.inr rfl
    | lift_lets
    | (intro u_; refine Fr.cut (M := 2144) (s := s) (t := u_) ?_ fun hu_ => ?_; (on_goal 2 => clear_value u_); (on_goal 1 => subst u_))
    | intro v_
    | with_reducible refine Fr.ite ?_ ?_
    | ((with_reducible apply Fr.step); (on_goal 1 => first | with_reducible apply fr_emit | with_reducible apply fr_setLane | with_reducible apply fr_setSquelch | with_reducible apply fr_observeTest); (on_goal 1 => exact rfl))
    | split
    | with_reducible assumption
    | with_reducible exact Fr.refl _ _
    | with_reducible refine Fr.upd ‹_› ?_ ?_ ?_ ?_ ?_ ?_ ?_ ?_ ?_ ?_ ?_ ?_ ?_ ?_ ?_ ?_ ?_ ?_ ?_ ?_ ?_ ?_ ?_ ?_ ?_ ?_ ?_ ?_ ?_
    | with_reducible refine Fr.upd (Fr.refl _ _) ?_ ?_ ?_ ?_ ?_ ?_ ?_ ?_ ?_ ?_ ?_ ?_ ?_ ?_ ?_ ?_ ?_ ?_ ?_ ?_ ?_ ?_ ?_ ?_ ?_ ?_ ?_ ?_ ?_)

theorem fr_portLaneLost (lane : Nat) (s : State) : Fr 50903714 s (portLaneLost lane s) := by
  unfold portLaneLost
  repeat' (first
    | exact Or.inl rfl
    | exact Or.inr rfl
    | lift_lets
    | (intro u_; refine Fr.cut (M := 50903714) (s := s) (t := u_) ?_ fun hu_ => ?_; (on_goal 2 => clear_value u_); (on_goal 1 => subst u_))
    | intro v_
    | with_reducible refine Fr.ite ?_ ?_
    | ((with_reducible apply Fr.step); (on_goal 1 => first | with_reducible apply fr_portDown | with_reducible apply fr_portCold); (on_goal 1 => exact rfl))
    | split
    | (clear_value *; split)
    | with_reducible assumption
    | with_reducible exact Fr.refl _ _
    | with_reducible refine Fr.upd ‹_› ?_ ?_ ?_ ?_ ?_ ?_ ?_ ?_ ?_ ?_ ?_ ?_ ?_ ?_ ?_ ?_ ?_ ?_ ?_ ?_ ?_ ?_ ?_ ?_ ?_ ?_ ?_ ?_ ?_
    | with_reducible refine Fr.upd (Fr.refl _ _) ?_ ?_ ?_ ?_ ?_ ?_ ?_ ?_ ?_ ?_ ?_ ?_ ?_ ?_ ?_ ?_ ?_ ?_ ?_ ?_ ?_ ?_ ?_ ?_ ?_ ?_ ?_ ?_ ?_)

theorem fr_leaveData {M : Nat} {s₀ s : State} {n cause : Nat} {f : State → State} (hk : 50903714 ||| M = M)
    (hf : ∀ u, Fr M s₀ u → Fr M s₀ (f u)) (h : Fr M s₀ s) : Fr M s₀ (leaveData n cause f s) :=
  Fr.ite (Fr.step (fr_portLaneLost _ _) (Fr.sub rfl hk) (Fr.step (fr_post _ _ _) (Fr.sub rfl hk) (hf _ h))) (hf _ h)

theorem fr_laneToOff (n : Nat) (s : State) : Fr 2144 s (laneToOff n s) := by
  unfold laneToOff
  repeat' (first
    | exact Or.inl rfl
    | exact Or.inr rfl
    | lift_lets
    | (intro u_; refine Fr.cut (M := 2144) (s := s) (t := u_) ?_ fun hu_ => ?_; (on_goal 2 => clear_value u_); (on_goal 1 => subst u_))
    | intro v_
    | with_reducible refine Fr.ite ?_ ?_
    | ((with_reducible apply Fr.step); (on_goal 1 => first | with_reducible apply fr_setLane | with_reducible apply fr_setSquelch | with_reducible apply fr_observeTest); (on_goal 1 => exact rfl))
    | split
    | with_reducible assumption
    | with_reducible exact Fr.refl _ _
    | with_reducible refine Fr.upd ‹_› ?_ ?_ ?_ ?_ ?_ ?_ ?_ ?_ ?_ ?_ ?_ ?_ ?_ ?_ ?_ ?_ ?_ ?_ ?_ ?_ ?_ ?_ ?_ ?_ ?_ ?_ ?_ ?_ ?_
    | with_reducible refine Fr.upd (Fr.refl _ _) ?_ ?_ ?_ ?_ ?_ ?_ ?_ ?_ ?_ ?_ ?_ ?_ ?_ ?_ ?_ ?_ ?_ ?_ ?_ ?_ ?_ ?_ ?_ ?_ ?_ ?_ ?_ ?_ ?_)

theorem fr_laneToData (n : Nat) (m : RxMeasure) (record : Bool) (s : State) : Fr 50895522 s (laneToData n m record s) := by
  unfold laneToData
  repeat' (first
    | exact Or.inl rfl
    | exact Or.inr rfl
    | lift_lets
    | (intro u_; refine Fr.cut (M := 50895522) (s := s) (t := u_) ?_ fun hu_ => ?_; (on_goal 2 => clear_value u_); (on_goal 1 => subst u_))
    | intro v_
    | with_reducible refine Fr.ite ?_ ?_
    | ((with_reducible apply Fr.step); (on_goal 1 => first | with_reducible apply fr_post | with_reducible apply fr_setLane | with_reducible apply fr_tryLinking | with_reducible apply fr_tryWaked); (on_goal 1 => exact rfl))
    | split
    | (clear_value *; split)
    | with_reducible assumption
    | with_reducible exact Fr.refl _ _
    | with_reducible refine Fr.upd ‹_› ?_ ?_ ?_ ?_ ?_ ?_ ?_ ?_ ?_ ?_ ?_ ?_ ?_ ?_ ?_ ?_ ?_ ?_ ?_ ?_ ?_ ?_ ?_ ?_ ?_ ?_ ?_ ?_ ?_
    | with_reducible refine Fr.upd (Fr.refl _ _) ?_ ?_ ?_ ?_ ?_ ?_ ?_ ?_ ?_ ?_ ?_ ?_ ?_ ?_ ?_ ?_ ?_ ?_ ?_ ?_ ?_ ?_ ?_ ?_ ?_ ?_ ?_ ?_ ?_)

theorem fr_countFail (n reason : Nat) (s : State) : Fr 33557154 s (countFail n reason s) := by
  unfold countFail
  repeat' (first
    | exact Or.inl rfl
    | exact Or.inr rfl
    | lift_lets
    | (intro u_; refine Fr.cut (M := 33557154) (s := s) (t := u_) ?_ fun hu_ => ?_; (on_goal 2 => clear_value u_); (on_goal 1 => subst u_))
    | intro v_
    | with_reducible refine Fr.ite ?_ ?_
    | ((with_reducible apply Fr.step); (on_goal 1 => first | with_reducible apply fr_post | with_reducible apply fr_report | with_reducible apply fr_setLane); (on_goal 1 => exact rfl))
    | split
    | with_reducible assumption
    | with_reducible exact Fr.refl _ _
    | with_reducible refine Fr.upd ‹_› ?_ ?_ ?_ ?_ ?_ ?_ ?_ ?_ ?_ ?_ ?_ ?_ ?_ ?_ ?_ ?_ ?_ ?_ ?_ ?_ ?_ ?_ ?_ ?_ ?_ ?_ ?_ ?_ ?_
    | with_reducible refine Fr.upd (Fr.refl _ _) ?_ ?_ ?_ ?_ ?_ ?_ ?_ ?_ ?_ ?_ ?_ ?_ ?_ ?_ ?_ ?_ ?_ ?_ ?_ ?_ ?_ ?_ ?_ ?_ ?_ ?_ ?_ ?_ ?_)

theorem fr_failOthers (n : Nat) (s : State) : Fr 50903778 s (failOthers n s) := by
  unfold failOthers
  repeat' (first
    | exact Or.inl rfl
    | exact Or.inr rfl
    | lift_lets
    | (intro u_; refine Fr.cut (M := 50903778) (s := s) (t := u_) ?_ fun hu_ => ?_; (on_goal 2 => clear_value u_); (on_goal 1 => subst u_))
    | intro v_
    | with_reducible refine Fr.ite ?_ ?_
    | with_reducible refine Fr.foldl ?_ (fun _ _ _ => ?_)
    | with_reducible apply fr_leaveData
    | ((with_reducible apply Fr.step); (on_goal 1 => first | with_reducible apply fr_modLane | with_reducible apply fr_laneToCal); (on_goal 1 => exact rfl))
    | exact rfl
    | intro v_
    | split
    | (clear_value *; split)
    | with_reducible assumption
    | with_reducible exact Fr.refl _ _
    | with_reducible refine Fr.upd ‹_› ?_ ?_ ?_ ?_ ?_ ?_ ?_ ?_ ?_ ?_ ?_ ?_ ?_ ?_ ?_ ?_ ?_ ?_ ?_ ?_ ?_ ?_ ?_ ?_ ?_ ?_ ?_ ?_ ?_
    | with_reducible refine Fr.upd (Fr.refl _ _) ?_ ?_ ?_ ?_ ?_ ?_ ?_ ?_ ?_ ?_ ?_ ?_ ?_ ?_ ?_ ?_ ?_ ?_ ?_ ?_ ?_ ?_ ?_ ?_ ?_ ?_ ?_ ?_ ?_)

theorem fr_trainFail (n reason : Nat) (s : State) : Fr 50903778 s (trainFail n reason s) := by
  unfold trainFail
  repeat' (first
    | exact Or.inl rfl
    | exact Or.inr rfl
    | with_reducible refine Fr.ite ?_ ?_
    | ((with_reducible apply Fr.step); (on_goal 1 => first | with_reducible apply fr_laneToCal | with_reducible apply fr_countFail | with_reducible apply fr_failOthers); (on_goal 1 => exact rfl))
    | with_reducible assumption
    | with_reducible exact Fr.refl _ _)

theorem fr_laneStart (n : Nat) (s : State) : Fr 2048 s (laneStart n s) := by
  unfold laneStart
  repeat' (first
    | exact Or.inl rfl
    | exact Or.inr rfl
    | lift_lets
    | (intro u_; refine Fr.cut (M := 2048) (s := s) (t := u_) ?_ fun hu_ => ?_; (on_goal 2 => clear_value u_); (on_goal 1 => subst u_))
    | intro v_
    | with_reducible refine Fr.ite ?_ ?_
    | ((with_reducible apply Fr.step); (on_goal 1 => first | with_reducible apply fr_setLane); (on_goal 1 => exact rfl))
    | split
    | with_reducible assumption
    | with_reducible exact Fr.refl _ _
    | with_reducible refine Fr.upd ‹_› ?_ ?_ ?_ ?_ ?_ ?_ ?_ ?_ ?_ ?_ ?_ ?_ ?_ ?_ ?_ ?_ ?_ ?_ ?_ ?_ ?_ ?_ ?_ ?_ ?_ ?_ ?_ ?_ ?_
    | with_reducible refine Fr.upd (Fr.refl _ _) ?_ ?_ ?_ ?_ ?_ ?_ ?_ ?_ ?_ ?_ ?_ ?_ ?_ ?_ ?_ ?_ ?_ ?_ ?_ ?_ ?_ ?_ ?_ ?_ ?_ ?_ ?_ ?_ ?_)

theorem fr_laneWake (n : Nat) (s : State) : Fr 33557218 s (laneWake n s) := by
  unfold laneWake
  repeat' (first
    | exact Or.inl rfl
    | exact Or.inr rfl
    | lift_lets
    | (intro u_; refine Fr.cut (M := 33557218) (s := s) (t := u_) ?_ fun hu_ => ?_; (on_goal 2 => clear_value u_); (on_goal 1 => subst u_))
    | intro v_
    | with_reducible refine Fr.ite ?_ ?_
    | ((with_reducible apply Fr.step); (on_goal 1 => first | with_reducible apply fr_post | with_reducible apply fr_report | with_reducible apply fr_setLane | with_reducible apply fr_modLane | with_reducible apply fr_laneToCal); (on_goal 1 => exact rfl))
    | split
    | (clear_value *; split)
    | with_reducible assumption
    | with_reducible exact Fr.refl _ _
    | with_reducible refine Fr.upd ‹_› ?_ ?_ ?_ ?_ ?_ ?_ ?_ ?_ ?_ ?_ ?_ ?_ ?_ ?_ ?_ ?_ ?_ ?_ ?_ ?_ ?_ ?_ ?_ ?_ ?_ ?_ ?_ ?_ ?_
    | with_reducible refine Fr.upd (Fr.refl _ _) ?_ ?_ ?_ ?_ ?_ ?_ ?_ ?_ ?_ ?_ ?_ ?_ ?_ ?_ ?_ ?_ ?_ ?_ ?_ ?_ ?_ ?_ ?_ ?_ ?_ ?_ ?_ ?_ ?_)

theorem fr_wakePort (p trig : Nat) (s : State) : Fr 50903778 s (wakePort p trig s) := by
  unfold wakePort
  repeat' (first
    | exact Or.inl rfl
    | exact Or.inr rfl
    | lift_lets
    | (intro u_; refine Fr.cut (M := 50903778) (s := s) (t := u_) ?_ fun hu_ => ?_; (on_goal 2 => clear_value u_); (on_goal 1 => subst u_))
    | intro v_
    | with_reducible refine Fr.ite ?_ ?_
    | with_reducible refine Fr.foldl ?_ (fun _ _ _ => ?_)
    | ((with_reducible apply Fr.step); (on_goal 1 => first | with_reducible apply fr_emit | with_reducible apply fr_modPort | with_reducible apply fr_setSquelch | with_reducible apply fr_portEnter | with_reducible apply fr_portCold | with_reducible apply fr_laneWake); (on_goal 1 => exact rfl))
    | split
    | with_reducible assumption
    | with_reducible exact Fr.refl _ _
    | with_reducible refine Fr.upd ‹_› ?_ ?_ ?_ ?_ ?_ ?_ ?_ ?_ ?_ ?_ ?_ ?_ ?_ ?_ ?_ ?_ ?_ ?_ ?_ ?_ ?_ ?_ ?_ ?_ ?_ ?_ ?_ ?_ ?_
    | with_reducible refine Fr.upd (Fr.refl _ _) ?_ ?_ ?_ ?_ ?_ ?_ ?_ ?_ ?_ ?_ ?_ ?_ ?_ ?_ ?_ ?_ ?_ ?_ ?_ ?_ ?_ ?_ ?_ ?_ ?_ ?_ ?_ ?_ ?_)

theorem fr_enterSleep (p : Nat) (s : State) : Fr 50903778 s (enterSleep p s) := by
  unfold enterSleep
  repeat' (first
    | exact Or.inl rfl
    | exact Or.inr rfl
    | lift_lets
    | (intro u_; refine Fr.cut (M := 50903778) (s := s) (t := u_) ?_ fun hu_ => ?_; (on_goal 2 => clear_value u_); (on_goal 1 => subst u_))
    | intro v_
    | with_reducible refine Fr.ite ?_ ?_
    | with_reducible refine Fr.foldl ?_ (fun _ _ _ => ?_)
    | ((with_reducible apply Fr.step); (on_goal 1 => first | with_reducible apply fr_post | with_reducible apply fr_clearUpset | with_reducible apply fr_countPort | with_reducible apply fr_slotPortDown | with_reducible apply fr_setLane | with_reducible apply fr_modPort | with_reducible apply fr_setSquelch | with_reducible apply fr_portEnter | with_reducible apply fr_wakePort); (on_goal 1 => exact rfl))
    | split
    | (clear_value *; split)
    | with_reducible assumption
    | with_reducible exact Fr.refl _ _
    | with_reducible refine Fr.upd ‹_› ?_ ?_ ?_ ?_ ?_ ?_ ?_ ?_ ?_ ?_ ?_ ?_ ?_ ?_ ?_ ?_ ?_ ?_ ?_ ?_ ?_ ?_ ?_ ?_ ?_ ?_ ?_ ?_ ?_
    | with_reducible refine Fr.upd (Fr.refl _ _) ?_ ?_ ?_ ?_ ?_ ?_ ?_ ?_ ?_ ?_ ?_ ?_ ?_ ?_ ?_ ?_ ?_ ?_ ?_ ?_ ?_ ?_ ?_ ?_ ?_ ?_ ?_ ?_ ?_)

theorem fr_gateFails (p : Nat) (parity : Bool) (s : State) : Fr 33559202 s (gateFails p parity s) := by
  unfold gateFails
  repeat' (first
    | exact Or.inl rfl
    | exact Or.inr rfl
    | lift_lets
    | (intro u_; refine Fr.cut (M := 33559202) (s := s) (t := u_) ?_ fun hu_ => ?_; (on_goal 2 => clear_value u_); (on_goal 1 => subst u_))
    | intro v_
    | with_reducible refine Fr.ite ?_ ?_
    | ((with_reducible apply Fr.step); (on_goal 1 => first | with_reducible apply fr_post | with_reducible apply fr_report | with_reducible apply fr_modPort); (on_goal 1 => exact rfl))
    | split
    | with_reducible assumption
    | with_reducible exact Fr.refl _ _
    | with_reducible refine Fr.upd ‹_› ?_ ?_ ?_ ?_ ?_ ?_ ?_ ?_ ?_ ?_ ?_ ?_ ?_ ?_ ?_ ?_ ?_ ?_ ?_ ?_ ?_ ?_ ?_ ?_ ?_ ?_ ?_ ?_ ?_
    | with_reducible refine Fr.upd (Fr.refl _ _) ?_ ?_ ?_ ?_ ?_ ?_ ?_ ?_ ?_ ?_ ?_ ?_ ?_ ?_ ?_ ?_ ?_ ?_ ?_ ?_ ?_ ?_ ?_ ?_ ?_ ?_ ?_ ?_ ?_)

theorem fr_gateTake (p i : Nat) (s : State) : Fr 34083490 s (gateTake p i s) := by
  unfold gateTake
  repeat' (first
    | exact Or.inl rfl
    | exact Or.inr rfl
    | lift_lets
    | (intro u_; refine Fr.cut (M := 34083490) (s := s) (t := u_) ?_ fun hu_ => ?_; (on_goal 2 => clear_value u_); (on_goal 1 => subst u_))
    | intro v_
    | with_reducible refine Fr.ite ?_ ?_
    | ((with_reducible apply Fr.step); (on_goal 1 => first | with_reducible apply fr_setPort | with_reducible apply fr_unwake | with_reducible apply fr_gateFails); (on_goal 1 => exact rfl))
    | split
    | with_reducible assumption
    | with_reducible exact Fr.refl _ _
    | with_reducible refine Fr.upd ‹_› ?_ ?_ ?_ ?_ ?_ ?_ ?_ ?_ ?_ ?_ ?_ ?_ ?_ ?_ ?_ ?_ ?_ ?_ ?_ ?_ ?_ ?_ ?_ ?_ ?_ ?_ ?_ ?_ ?_
    | with_reducible refine Fr.upd (Fr.refl _ _) ?_ ?_ ?_ ?_ ?_ ?_ ?_ ?_ ?_ ?_ ?_ ?_ ?_ ?_ ?_ ?_ ?_ ?_ ?_ ?_ ?_ ?_ ?_ ?_ ?_ ?_ ?_ ?_ ?_)

theorem fr_gatePlace (p : Nat) (s : State) : Fr 34083490 s (gatePlace p s) := by
  unfold gatePlace
  repeat' (first
    | exact Or.inl rfl
    | exact Or.inr rfl
    | lift_lets
    | (intro u_; refine Fr.cut (M := 34083490) (s := s) (t := u_) ?_ fun hu_ => ?_; (on_goal 2 => clear_value u_); (on_goal 1 => subst u_))
    | intro v_
    | with_reducible refine Fr.ite ?_ ?_
    | ((with_reducible apply Fr.step); (on_goal 1 => first | with_reducible apply fr_setPort | with_reducible apply fr_gateTake); (on_goal 1 => exact rfl))
    | split
    | with_reducible assumption
    | with_reducible exact Fr.refl _ _
    | with_reducible refine Fr.upd ‹_› ?_ ?_ ?_ ?_ ?_ ?_ ?_ ?_ ?_ ?_ ?_ ?_ ?_ ?_ ?_ ?_ ?_ ?_ ?_ ?_ ?_ ?_ ?_ ?_ ?_ ?_ ?_ ?_ ?_
    | with_reducible refine Fr.upd (Fr.refl _ _) ?_ ?_ ?_ ?_ ?_ ?_ ?_ ?_ ?_ ?_ ?_ ?_ ?_ ?_ ?_ ?_ ?_ ?_ ?_ ?_ ?_ ?_ ?_ ?_ ?_ ?_ ?_ ?_ ?_)

theorem fr_gateTb (p : Nat) (s : State) : Fr 33559202 s (gateTb p s) := by
  unfold gateTb
  repeat' (first
    | exact Or.inl rfl
    | exact Or.inr rfl
    | lift_lets
    | (intro u_; refine Fr.cut (M := 33559202) (s := s) (t := u_) ?_ fun hu_ => ?_; (on_goal 2 => clear_value u_); (on_goal 1 => subst u_))
    | intro v_
    | with_reducible refine Fr.ite ?_ ?_
    | ((with_reducible apply Fr.step); (on_goal 1 => first | with_reducible apply fr_post | with_reducible apply fr_modPort | with_reducible apply fr_gateFails); (on_goal 1 => exact rfl))
    | split
    | with_reducible assumption
    | with_reducible exact Fr.refl _ _
    | with_reducible refine Fr.upd ‹_› ?_ ?_ ?_ ?_ ?_ ?_ ?_ ?_ ?_ ?_ ?_ ?_ ?_ ?_ ?_ ?_ ?_ ?_ ?_ ?_ ?_ ?_ ?_ ?_ ?_ ?_ ?_ ?_ ?_
    | with_reducible refine Fr.upd (Fr.refl _ _) ?_ ?_ ?_ ?_ ?_ ?_ ?_ ?_ ?_ ?_ ?_ ?_ ?_ ?_ ?_ ?_ ?_ ?_ ?_ ?_ ?_ ?_ ?_ ?_ ?_ ?_ ?_ ?_ ?_)

theorem fr_gatesFollowTb (s : State) : Fr 33559202 s (gatesFollowTb s) := by
  unfold gatesFollowTb
  repeat' (first
    | exact Or.inl rfl
    | exact Or.inr rfl
    | with_reducible refine Fr.ite ?_ ?_
    | with_reducible refine Fr.foldl ?_ (fun _ _ _ => ?_)
    | ((with_reducible apply Fr.step); (on_goal 1 => first | with_reducible apply fr_gateTb); (on_goal 1 => exact rfl))
    | split
    | with_reducible assumption
    | with_reducible exact Fr.refl _ _)

theorem fr_gatesStepped (n : Nat) (s : State) : Fr 4096 s (gatesStepped n s) := by
  unfold gatesStepped
  repeat' (first
    | exact Or.inl rfl
    | exact Or.inr rfl
    | lift_lets
    | (intro u_; refine Fr.cut (M := 4096) (s := s) (t := u_) ?_ fun hu_ => ?_; (on_goal 2 => clear_value u_); (on_goal 1 => subst u_))
    | intro v_
    | with_reducible refine Fr.ite ?_ ?_
    | split
    | with_reducible assumption
    | with_reducible exact Fr.refl _ _
    | with_reducible refine Fr.upd ‹_› ?_ ?_ ?_ ?_ ?_ ?_ ?_ ?_ ?_ ?_ ?_ ?_ ?_ ?_ ?_ ?_ ?_ ?_ ?_ ?_ ?_ ?_ ?_ ?_ ?_ ?_ ?_ ?_ ?_
    | with_reducible refine Fr.upd (Fr.refl _ _) ?_ ?_ ?_ ?_ ?_ ?_ ?_ ?_ ?_ ?_ ?_ ?_ ?_ ?_ ?_ ?_ ?_ ?_ ?_ ?_ ?_ ?_ ?_ ?_ ?_ ?_ ?_ ?_ ?_)

end Sys2Proof.Machine
end

