-- ==== Sys2Proof/Laws/FramePktOps.lean ====
section
/-! SUPPORT. What each function of Machine/PktOps.lean changes at most, as a mask (Laws/Frame.lean). -/
set_option linter.unusedVariables false
set_option linter.unusedTactic false
set_option linter.unreachableTactic false
namespace Sys2Proof.Machine

theorem fr_setPkt (i : Nat) (p : Pkt) (s : State) : Fr 65536 s (setPkt i p s) := by
  unfold setPkt
  repeat' (first
    | exact Or.inl rfl
    | exact Or.inr rfl
    | lift_lets
    | (intro u_; refine Fr.cut (M := 65536) (s := s) (t := u_) ?_ fun hu_ => ?_; (on_goal 2 => clear_value u_); (on_goal 1 => subst u_))
    | intro v_
    | with_reducible refine Fr.ite ?_ ?_
    | with_reducible assumption
    | with_reducible exact Fr.refl _ _
    | with_reducible refine Fr.upd ‹_› ?_ ?_ ?_ ?_ ?_ ?_ ?_ ?_ ?_ ?_ ?_ ?_ ?_ ?_ ?_ ?_ ?_ ?_ ?_ ?_ ?_ ?_ ?_ ?_ ?_ ?_ ?_ ?_ ?_
    | with_reducible refine Fr.upd (Fr.refl _ _) ?_ ?_ ?_ ?_ ?_ ?_ ?_ ?_ ?_ ?_ ?_ ?_ ?_ ?_ ?_ ?_ ?_ ?_ ?_ ?_ ?_ ?_ ?_ ?_ ?_ ?_ ?_ ?_ ?_)

theorem fr_setArriving (i : Nat) (a : Arrival) (s : State) : Fr 65536 s (setArriving i a s) := by
  unfold setArriving
  repeat' (first
    | exact Or.inl rfl
    | exact Or.inr rfl
    | lift_lets
    | (intro u_; refine Fr.cut (M := 65536) (s := s) (t := u_) ?_ fun hu_ => ?_; (on_goal 2 => clear_value u_); (on_goal 1 => subst u_))
    | intro v_
    | with_reducible refine Fr.ite ?_ ?_
    | with_reducible assumption
    | with_reducible exact Fr.refl _ _
    | with_reducible refine Fr.upd ‹_› ?_ ?_ ?_ ?_ ?_ ?_ ?_ ?_ ?_ ?_ ?_ ?_ ?_ ?_ ?_ ?_ ?_ ?_ ?_ ?_ ?_ ?_ ?_ ?_ ?_ ?_ ?_ ?_ ?_
    | with_reducible refine Fr.upd (Fr.refl _ _) ?_ ?_ ?_ ?_ ?_ ?_ ?_ ?_ ?_ ?_ ?_ ?_ ?_ ?_ ?_ ?_ ?_ ?_ ?_ ?_ ?_ ?_ ?_ ?_ ?_ ?_ ?_ ?_ ?_)

theorem fr_modPkt (i : Nat) (f : Pkt → Pkt) (s : State) : Fr 65536 s (modPkt i f s) := by
  unfold modPkt
  repeat' (first
    | exact Or.inl rfl
    | exact Or.inr rfl
    | with_reducible refine Fr.ite ?_ ?_
    | ((with_reducible apply Fr.step); (on_goal 1 => first | with_reducible apply fr_setPkt); (on_goal 1 => exact rfl))
    | with_reducible assumption
    | with_reducible exact Fr.refl _ _)

theorem fr_dropPkt (i : Nat) (s : State) : Fr 65536 s (dropPkt i s) := by
  unfold dropPkt
  repeat' (first
    | exact Or.inl rfl
    | exact Or.inr rfl
    | lift_lets
    | (intro u_; refine Fr.cut (M := 65536) (s := s) (t := u_) ?_ fun hu_ => ?_; (on_goal 2 => clear_value u_); (on_goal 1 => subst u_))
    | intro v_
    | with_reducible refine Fr.ite ?_ ?_
    | with_reducible assumption
    | with_reducible exact Fr.refl _ _
    | with_reducible refine Fr.upd ‹_› ?_ ?_ ?_ ?_ ?_ ?_ ?_ ?_ ?_ ?_ ?_ ?_ ?_ ?_ ?_ ?_ ?_ ?_ ?_ ?_ ?_ ?_ ?_ ?_ ?_ ?_ ?_ ?_ ?_
    | with_reducible refine Fr.upd (Fr.refl _ _) ?_ ?_ ?_ ?_ ?_ ?_ ?_ ?_ ?_ ?_ ?_ ?_ ?_ ?_ ?_ ?_ ?_ ?_ ?_ ?_ ?_ ?_ ?_ ?_ ?_ ?_ ?_ ?_ ?_)

theorem fr_newPkt (p : Pkt) (s : State) : Fr 65536 s (newPkt p s).2 := by
  unfold newPkt
  repeat' (first
    | exact Or.inl rfl
    | exact Or.inr rfl
    | lift_lets
    | (intro u_; refine Fr.cut (M := 65536) (s := s) (t := u_) ?_ fun hu_ => ?_; (on_goal 2 => clear_value u_); (on_goal 1 => subst u_))
    | intro v_
    | with_reducible refine Fr.ite ?_ ?_
    | with_reducible refine Fr.ite2 ?_ ?_
    | with_reducible assumption
    | with_reducible exact Fr.refl _ _
    | with_reducible refine Fr.upd ‹_› ?_ ?_ ?_ ?_ ?_ ?_ ?_ ?_ ?_ ?_ ?_ ?_ ?_ ?_ ?_ ?_ ?_ ?_ ?_ ?_ ?_ ?_ ?_ ?_ ?_ ?_ ?_ ?_ ?_
    | with_reducible refine Fr.upd (Fr.refl _ _) ?_ ?_ ?_ ?_ ?_ ?_ ?_ ?_ ?_ ?_ ?_ ?_ ?_ ?_ ?_ ?_ ?_ ?_ ?_ ?_ ?_ ?_ ?_ ?_ ?_ ?_ ?_ ?_ ?_)

theorem fr_setQ (q : Nat) (x : Queue) (s : State) : Fr 262144 s (setQ q x s) := by
  unfold setQ
  repeat' (first
    | exact Or.inl rfl
    | exact Or.inr rfl
    | lift_lets
    | (intro u_; refine Fr.cut (M := 262144) (s := s) (t := u_) ?_ fun hu_ => ?_; (on_goal 2 => clear_value u_); (on_goal 1 => subst u_))
    | intro v_
    | with_reducible refine Fr.ite ?_ ?_
    | with_reducible assumption
    | with_reducible exact Fr.refl _ _
    | with_reducible refine Fr.upd ‹_› ?_ ?_ ?_ ?_ ?_ ?_ ?_ ?_ ?_ ?_ ?_ ?_ ?_ ?_ ?_ ?_ ?_ ?_ ?_ ?_ ?_ ?_ ?_ ?_ ?_ ?_ ?_ ?_ ?_
    | with_reducible refine Fr.upd (Fr.refl _ _) ?_ ?_ ?_ ?_ ?_ ?_ ?_ ?_ ?_ ?_ ?_ ?_ ?_ ?_ ?_ ?_ ?_ ?_ ?_ ?_ ?_ ?_ ?_ ?_ ?_ ?_ ?_ ?_ ?_)

theorem fr_modQ (q : Nat) (f : Queue → Queue) (s : State) : Fr 262144 s (modQ q f s) := by
  unfold modQ
  repeat' (first
    | exact Or.inl rfl
    | exact Or.inr rfl
    | with_reducible refine Fr.ite ?_ ?_
    | ((with_reducible apply Fr.step); (on_goal 1 => first | with_reducible apply fr_setQ); (on_goal 1 => exact rfl))
    | with_reducible assumption
    | with_reducible exact Fr.refl _ _)

theorem fr_setCells (i : Nat) (x : Cells) (s : State) : Fr 262144 s (setCells i x s) := by
  unfold setCells
  repeat' (first
    | exact Or.inl rfl
    | exact Or.inr rfl
    | lift_lets
    | (intro u_; refine Fr.cut (M := 262144) (s := s) (t := u_) ?_ fun hu_ => ?_; (on_goal 2 => clear_value u_); (on_goal 1 => subst u_))
    | intro v_
    | with_reducible refine Fr.ite ?_ ?_
    | with_reducible assumption
    | with_reducible exact Fr.refl _ _
    | with_reducible refine Fr.upd ‹_› ?_ ?_ ?_ ?_ ?_ ?_ ?_ ?_ ?_ ?_ ?_ ?_ ?_ ?_ ?_ ?_ ?_ ?_ ?_ ?_ ?_ ?_ ?_ ?_ ?_ ?_ ?_ ?_ ?_
    | with_reducible refine Fr.upd (Fr.refl _ _) ?_ ?_ ?_ ?_ ?_ ?_ ?_ ?_ ?_ ?_ ?_ ?_ ?_ ?_ ?_ ?_ ?_ ?_ ?_ ?_ ?_ ?_ ?_ ?_ ?_ ?_ ?_ ?_ ?_)

theorem fr_meetSecded (mem cls i : Nat) (s : State) : Fr 50332160 s (meetSecded mem cls i s) := by
  unfold meetSecded
  repeat' (first
    | exact Or.inl rfl
    | exact Or.inr rfl
    | lift_lets
    | (intro u_; refine Fr.cut (M := 50332160) (s := s) (t := u_) ?_ fun hu_ => ?_; (on_goal 2 => clear_value u_); (on_goal 1 => subst u_))
    | intro v_
    | with_reducible refine Fr.ite ?_ ?_
    | ((with_reducible apply Fr.step); (on_goal 1 => first | with_reducible apply fr_report | with_reducible apply fr_clearUpset); (on_goal 1 => exact rfl))
    | split
    | (clear_value *; split)
    | with_reducible assumption
    | with_reducible exact Fr.refl _ _
    | with_reducible refine Fr.upd ‹_› ?_ ?_ ?_ ?_ ?_ ?_ ?_ ?_ ?_ ?_ ?_ ?_ ?_ ?_ ?_ ?_ ?_ ?_ ?_ ?_ ?_ ?_ ?_ ?_ ?_ ?_ ?_ ?_ ?_
    | with_reducible refine Fr.upd (Fr.refl _ _) ?_ ?_ ?_ ?_ ?_ ?_ ?_ ?_ ?_ ?_ ?_ ?_ ?_ ?_ ?_ ?_ ?_ ?_ ?_ ?_ ?_ ?_ ?_ ?_ ?_ ?_ ?_ ?_ ?_)

theorem fr_gauzeLose (s : State) : Fr 33563298 s (gauzeLose s) := by
  unfold gauzeLose
  repeat' (first
    | exact Or.inl rfl
    | exact Or.inr rfl
    | lift_lets
    | (intro u_; refine Fr.cut (M := 33563298) (s := s) (t := u_) ?_ fun hu_ => ?_; (on_goal 2 => clear_value u_); (on_goal 1 => subst u_))
    | intro v_
    | with_reducible refine Fr.ite ?_ ?_
    | ((with_reducible apply Fr.step); (on_goal 1 => first | with_reducible apply fr_post | with_reducible apply fr_report); (on_goal 1 => exact rfl))
    | split
    | (clear_value *; split)
    | with_reducible assumption
    | with_reducible exact Fr.refl _ _
    | with_reducible refine Fr.upd ‹_› ?_ ?_ ?_ ?_ ?_ ?_ ?_ ?_ ?_ ?_ ?_ ?_ ?_ ?_ ?_ ?_ ?_ ?_ ?_ ?_ ?_ ?_ ?_ ?_ ?_ ?_ ?_ ?_ ?_
    | with_reducible refine Fr.upd (Fr.refl _ _) ?_ ?_ ?_ ?_ ?_ ?_ ?_ ?_ ?_ ?_ ?_ ?_ ?_ ?_ ?_ ?_ ?_ ?_ ?_ ?_ ?_ ?_ ?_ ?_ ?_ ?_ ?_ ?_ ?_)

theorem fr_gauzeSource (pipe src : Nat) (s : State) : Fr 8256 s (gauzeSource pipe src s).2.2 := by
  unfold gauzeSource
  have ht := fr_takeFree s
  rcases h : takeFree s with ⟨v, t⟩
  rw [h] at ht
  dsimp only at ht ⊢
  refine Fr.ite3 (Fr.refl _ _) (Fr.ite3 ?_ ?_)
  · refine Fr.upd (Fr.refl _ _) ?_ ?_ ?_ ?_ ?_ ?_ ?_ ?_ ?_ ?_ ?_ ?_ ?_ ?_ ?_ ?_ ?_ ?_ ?_ ?_ ?_ ?_ ?_ ?_ ?_ ?_ ?_ ?_ ?_ <;> first | exact .inl rfl | exact .inr rfl
  · refine Fr.upd (ht.mono rfl) ?_ ?_ ?_ ?_ ?_ ?_ ?_ ?_ ?_ ?_ ?_ ?_ ?_ ?_ ?_ ?_ ?_ ?_ ?_ ?_ ?_ ?_ ?_ ?_ ?_ ?_ ?_ ?_ ?_ <;> first | exact .inl rfl | exact .inr rfl

theorem fr_gauze (p : Pkt) (pipe reason now : Nat) (fwd : Bool) (s : State) : Fr 33563362 s (gauze p pipe reason now fwd s) := by
  unfold gauze
  refine Fr.ite (Fr.refl _ _) ?_
  extract_lets e0 e1 e2 step
  have hs : ∀ (l : List (Nat × Bool)) (a : Nat × Option Nat × State), Fr 33563362 s a.2.2 → Fr 33563362 s (l.foldl step a).2.2 := by
    intro l
    induction l with
    | nil => exact fun a h => h
    | cons x r ih =>
      intro a h
      refine ih _ ?_
      refine Fr.ite3 ?_ h
      have hg := fr_gauzeSource pipe x.1 a.2.2
      rcases hE : gauzeSource pipe x.1 a.2.2 with ⟨took, gap, t⟩
      rw [hE] at hg
      exact Fr.ite3 (h.trans (hg.mono rfl)) (h.trans (hg.mono rfl))
  have h := hs [(0, e0), (1, e1), (2, e2)] (0, none, s) (Fr.refl _ _)
  rcases hE : [(0, e0), (1, e1), (2, e2)].foldl step (0, none, s) with ⟨srcs, gap, t⟩
  rw [hE] at h
  dsimp only at h ⊢
  refine Fr.ite h (Fr.ite (Fr.step (fr_gauzeLose _) rfl h) ?_)
  refine Fr.upd h ?_ ?_ ?_ ?_ ?_ ?_ ?_ ?_ ?_ ?_ ?_ ?_ ?_ ?_ ?_ ?_ ?_ ?_ ?_ ?_ ?_ ?_ ?_ ?_ ?_ ?_ ?_ ?_ ?_ <;> first | exact .inl rfl | exact .inr rfl

theorem fr_occDown (c : Cells) (n : Nat) (s : State) : Fr 4096 s (occDown c n s) := by
  unfold occDown
  repeat' (first
    | exact Or.inl rfl
    | exact Or.inr rfl
    | with_reducible refine Fr.ite ?_ ?_
    | ((with_reducible apply Fr.step); (on_goal 1 => first | with_reducible apply fr_addOcc); (on_goal 1 => exact rfl))
    | split
    | with_reducible assumption
    | with_reducible exact Fr.refl _ _)

theorem fr_shrinkCells (id : Nat) (c : Cells) (s : State) : Fr 266240 s (shrinkCells id c s) := by
  unfold shrinkCells
  repeat' (first
    | exact Or.inl rfl
    | exact Or.inr rfl
    | lift_lets
    | (intro u_; refine Fr.cut (M := 266240) (s := s) (t := u_) ?_ fun hu_ => ?_; (on_goal 2 => clear_value u_); (on_goal 1 => subst u_))
    | intro v_
    | with_reducible refine Fr.ite ?_ ?_
    | with_reducible refine Fr.foldl ?_ (fun _ _ _ => ?_)
    | ((with_reducible apply Fr.step); (on_goal 1 => first | with_reducible apply fr_setCells | with_reducible apply fr_occDown); (on_goal 1 => exact rfl))
    | with_reducible assumption
    | with_reducible exact Fr.refl _ _
    | with_reducible refine Fr.upd ‹_› ?_ ?_ ?_ ?_ ?_ ?_ ?_ ?_ ?_ ?_ ?_ ?_ ?_ ?_ ?_ ?_ ?_ ?_ ?_ ?_ ?_ ?_ ?_ ?_ ?_ ?_ ?_ ?_ ?_
    | with_reducible refine Fr.upd (Fr.refl _ _) ?_ ?_ ?_ ?_ ?_ ?_ ?_ ?_ ?_ ?_ ?_ ?_ ?_ ?_ ?_ ?_ ?_ ?_ ?_ ?_ ?_ ?_ ?_ ?_ ?_ ?_ ?_ ?_ ?_)

theorem fr_release (id : Nat) (part : Option Nat) (s : State) : Fr 266240 s (release id part s) := by
  unfold release
  repeat' (first
    | exact Or.inl rfl
    | exact Or.inr rfl
    | lift_lets
    | (intro u_; refine Fr.cut (M := 266240) (s := s) (t := u_) ?_ fun hu_ => ?_; (on_goal 2 => clear_value u_); (on_goal 1 => subst u_))
    | intro v_
    | with_reducible refine Fr.ite ?_ ?_
    | ((with_reducible apply Fr.step); (on_goal 1 => first | with_reducible apply fr_setCells | with_reducible apply fr_occDown | with_reducible apply fr_shrinkCells); (on_goal 1 => exact rfl))
    | split
    | (clear_value *; split)
    | with_reducible assumption
    | with_reducible exact Fr.refl _ _
    | with_reducible refine Fr.upd ‹_› ?_ ?_ ?_ ?_ ?_ ?_ ?_ ?_ ?_ ?_ ?_ ?_ ?_ ?_ ?_ ?_ ?_ ?_ ?_ ?_ ?_ ?_ ?_ ?_ ?_ ?_ ?_ ?_ ?_
    | with_reducible refine Fr.upd (Fr.refl _ _) ?_ ?_ ?_ ?_ ?_ ?_ ?_ ?_ ?_ ?_ ?_ ?_ ?_ ?_ ?_ ?_ ?_ ?_ ?_ ?_ ?_ ?_ ?_ ?_ ?_ ?_ ?_ ?_ ?_)

theorem fr_checkTag (i pipe : Nat) (s : State) : Fr 50397696 s (checkTag i pipe s) := by
  unfold checkTag
  repeat' (first
    | exact Or.inl rfl
    | exact Or.inr rfl
    | lift_lets
    | (intro u_; refine Fr.cut (M := 50397696) (s := s) (t := u_) ?_ fun hu_ => ?_; (on_goal 2 => clear_value u_); (on_goal 1 => subst u_))
    | intro v_
    | with_reducible refine Fr.ite ?_ ?_
    | ((with_reducible apply Fr.step); (on_goal 1 => first | with_reducible apply fr_report | with_reducible apply fr_clearUpset | with_reducible apply fr_modPkt); (on_goal 1 => exact rfl))
    | split
    | with_reducible assumption
    | with_reducible exact Fr.refl _ _
    | with_reducible refine Fr.upd ‹_› ?_ ?_ ?_ ?_ ?_ ?_ ?_ ?_ ?_ ?_ ?_ ?_ ?_ ?_ ?_ ?_ ?_ ?_ ?_ ?_ ?_ ?_ ?_ ?_ ?_ ?_ ?_ ?_ ?_
    | with_reducible refine Fr.upd (Fr.refl _ _) ?_ ?_ ?_ ?_ ?_ ?_ ?_ ?_ ?_ ?_ ?_ ?_ ?_ ?_ ?_ ?_ ?_ ?_ ?_ ?_ ?_ ?_ ?_ ?_ ?_ ?_ ?_ ?_ ?_)

theorem fr_checkKey (i pipe : Nat) (s : State) : Fr 50397696 s (checkKey i pipe s) := by
  unfold checkKey
  repeat' (first
    | exact Or.inl rfl
    | exact Or.inr rfl
    | lift_lets
    | (intro u_; refine Fr.cut (M := 50397696) (s := s) (t := u_) ?_ fun hu_ => ?_; (on_goal 2 => clear_value u_); (on_goal 1 => subst u_))
    | intro v_
    | with_reducible refine Fr.ite ?_ ?_
    | ((with_reducible apply Fr.step); (on_goal 1 => first | with_reducible apply fr_report | with_reducible apply fr_clearUpset | with_reducible apply fr_modPkt); (on_goal 1 => exact rfl))
    | split
    | with_reducible assumption
    | with_reducible exact Fr.refl _ _
    | with_reducible refine Fr.upd ‹_› ?_ ?_ ?_ ?_ ?_ ?_ ?_ ?_ ?_ ?_ ?_ ?_ ?_ ?_ ?_ ?_ ?_ ?_ ?_ ?_ ?_ ?_ ?_ ?_ ?_ ?_ ?_ ?_ ?_
    | with_reducible refine Fr.upd (Fr.refl _ _) ?_ ?_ ?_ ?_ ?_ ?_ ?_ ?_ ?_ ?_ ?_ ?_ ?_ ?_ ?_ ?_ ?_ ?_ ?_ ?_ ?_ ?_ ?_ ?_ ?_ ?_ ?_ ?_ ?_)

theorem fr_endPkt (i : Nat) (s : State) : Fr 331776 s (endPkt i s) := by
  unfold endPkt
  repeat' (first
    | exact Or.inl rfl
    | exact Or.inr rfl
    | lift_lets
    | (intro u_; refine Fr.cut (M := 331776) (s := s) (t := u_) ?_ fun hu_ => ?_; (on_goal 2 => clear_value u_); (on_goal 1 => subst u_))
    | intro v_
    | with_reducible refine Fr.ite ?_ ?_
    | ((with_reducible apply Fr.step); (on_goal 1 => first | with_reducible apply fr_dropPkt | with_reducible apply fr_release); (on_goal 1 => exact rfl))
    | split
    | (clear_value *; split)
    | with_reducible assumption
    | with_reducible exact Fr.refl _ _
    | with_reducible refine Fr.upd ‹_› ?_ ?_ ?_ ?_ ?_ ?_ ?_ ?_ ?_ ?_ ?_ ?_ ?_ ?_ ?_ ?_ ?_ ?_ ?_ ?_ ?_ ?_ ?_ ?_ ?_ ?_ ?_ ?_ ?_
    | with_reducible refine Fr.upd (Fr.refl _ _) ?_ ?_ ?_ ?_ ?_ ?_ ?_ ?_ ?_ ?_ ?_ ?_ ?_ ?_ ?_ ?_ ?_ ?_ ?_ ?_ ?_ ?_ ?_ ?_ ?_ ?_ ?_ ?_ ?_)

theorem fr_discard (i reason pipe : Nat) (s : State) : Fr 33895138 s (discard i reason pipe s) := by
  unfold discard
  repeat' (first
    | exact Or.inl rfl
    | exact Or.inr rfl
    | lift_lets
    | (intro u_; refine Fr.cut (M := 33895138) (s := s) (t := u_) ?_ fun hu_ => ?_; (on_goal 2 => clear_value u_); (on_goal 1 => subst u_))
    | intro v_
    | with_reducible refine Fr.ite ?_ ?_
    | ((with_reducible apply Fr.step); (on_goal 1 => first | with_reducible apply fr_countPipe | with_reducible apply fr_gauze | with_reducible apply fr_endPkt); (on_goal 1 => exact rfl))
    | split
    | with_reducible assumption
    | with_reducible exact Fr.refl _ _)

end Sys2Proof.Machine
end

