-- ==== Sys2Proof/Laws/FrameActions.lean ====
section
/-! SUPPORT. What each function of Machine/Actions.lean changes at most, as a mask (Laws/Frame.lean). -/
set_option linter.unusedVariables false
set_option linter.unusedTactic false
set_option linter.unreachableTactic false
namespace Sys2Proof.Machine

theorem fr_editWriteCmd (c : Cmd) (host : HostAns) (s : State) : Fr 50397696 s (editWriteCmd c host s).1 := by
  unfold editWriteCmd
  repeat' (first
    | exact Or.inl rfl
    | exact Or.inr rfl
    | lift_lets
    | (intro u_; refine Fr.cut (M := 50397696) (s := s) (t := u_) ?_ fun hu_ => ?_; (on_goal 2 => clear_value u_); (on_goal 1 => subst u_))
    | intro v_
    | with_reducible refine Fr.ite ?_ ?_
    | with_reducible refine Fr.ite1 ?_ ?_
    | with_reducible apply fr_readItems
    | with_reducible apply fr_writeRecords
    | ((with_reducible apply Fr.step); (on_goal 1 => first | with_reducible apply fr_fail | with_reducible apply fr_clearUpset | with_reducible apply fr_meetSecded); (on_goal 1 => exact rfl))
    | exact rfl
    | intro v_
    | split
    | with_reducible assumption
    | with_reducible exact Fr.refl _ _
    | with_reducible refine Fr.upd ‹_› ?_ ?_ ?_ ?_ ?_ ?_ ?_ ?_ ?_ ?_ ?_ ?_ ?_ ?_ ?_ ?_ ?_ ?_ ?_ ?_ ?_ ?_ ?_ ?_ ?_ ?_ ?_ ?_ ?_
    | with_reducible refine Fr.upd (Fr.refl _ _) ?_ ?_ ?_ ?_ ?_ ?_ ?_ ?_ ?_ ?_ ?_ ?_ ?_ ?_ ?_ ?_ ?_ ?_ ?_ ?_ ?_ ?_ ?_ ?_ ?_ ?_ ?_ ?_ ?_)

theorem fr_execEditWrite (ref : CmdRef) (host : HostAns) (s : State) : FrR 50397858 s (execEditWrite ref host s) := by
  unfold execEditWrite
  exact FrR.next (fr_runCmd rfl fun c u hu => Fr.step (fr_editWriteCmd _ _ _) rfl hu)

theorem fr_mcastWriteCmd (c : Cmd) (host : HostAns) (s : State) : Fr 51446272 s (mcastWriteCmd c host s).1 := by
  unfold mcastWriteCmd
  repeat' (first
    | exact Or.inl rfl
    | exact Or.inr rfl
    | lift_lets
    | (intro u_; refine Fr.cut (M := 51446272) (s := s) (t := u_) ?_ fun hu_ => ?_; (on_goal 2 => clear_value u_); (on_goal 1 => subst u_))
    | intro v_
    | with_reducible refine Fr.ite ?_ ?_
    | with_reducible refine Fr.ite1 ?_ ?_
    | with_reducible apply fr_readItems
    | with_reducible apply fr_writeRecords
    | ((with_reducible apply Fr.step); (on_goal 1 => first | with_reducible apply fr_fail | with_reducible apply fr_clearUpset | with_reducible apply fr_meetSecded); (on_goal 1 => exact rfl))
    | exact rfl
    | intro v_
    | split
    | with_reducible assumption
    | with_reducible exact Fr.refl _ _
    | with_reducible refine Fr.upd ‹_› ?_ ?_ ?_ ?_ ?_ ?_ ?_ ?_ ?_ ?_ ?_ ?_ ?_ ?_ ?_ ?_ ?_ ?_ ?_ ?_ ?_ ?_ ?_ ?_ ?_ ?_ ?_ ?_ ?_
    | with_reducible refine Fr.upd (Fr.refl _ _) ?_ ?_ ?_ ?_ ?_ ?_ ?_ ?_ ?_ ?_ ?_ ?_ ?_ ?_ ?_ ?_ ?_ ?_ ?_ ?_ ?_ ?_ ?_ ?_ ?_ ?_ ?_ ?_ ?_)

theorem fr_execMcastWrite (ref : CmdRef) (host : HostAns) (s : State) : FrR 51446434 s (execMcastWrite ref host s) := by
  unfold execMcastWrite
  exact FrR.next (fr_runCmd rfl fun c u hu => Fr.step (fr_mcastWriteCmd _ _ _) rfl hu)

theorem fr_mirrorWriteCmd (c : Cmd) (s : State) : Fr 50397696 s (mirrorWriteCmd c s).1 := by
  unfold mirrorWriteCmd
  repeat' (first
    | exact Or.inl rfl
    | exact Or.inr rfl
    | lift_lets
    | (intro u_; refine Fr.cut (M := 50397696) (s := s) (t := u_) ?_ fun hu_ => ?_; (on_goal 2 => clear_value u_); (on_goal 1 => subst u_))
    | intro v_
    | with_reducible refine Fr.ite ?_ ?_
    | with_reducible refine Fr.ite1 ?_ ?_
    | ((with_reducible apply Fr.step); (on_goal 1 => first | with_reducible apply fr_fail | with_reducible apply fr_okay | with_reducible apply fr_okayWith | with_reducible apply fr_clearUpset | with_reducible apply fr_meetSecded); (on_goal 1 => exact rfl))
    | split
    | with_reducible assumption
    | with_reducible exact Fr.refl _ _
    | with_reducible refine Fr.upd ‹_› ?_ ?_ ?_ ?_ ?_ ?_ ?_ ?_ ?_ ?_ ?_ ?_ ?_ ?_ ?_ ?_ ?_ ?_ ?_ ?_ ?_ ?_ ?_ ?_ ?_ ?_ ?_ ?_ ?_
    | with_reducible refine Fr.upd (Fr.refl _ _) ?_ ?_ ?_ ?_ ?_ ?_ ?_ ?_ ?_ ?_ ?_ ?_ ?_ ?_ ?_ ?_ ?_ ?_ ?_ ?_ ?_ ?_ ?_ ?_ ?_ ?_ ?_ ?_ ?_)

theorem fr_execMirrorWrite (ref : CmdRef) (s : State) : FrR 50397858 s (execMirrorWrite ref s) := by
  unfold execMirrorWrite
  exact FrR.next (fr_runCmd rfl fun c u hu => Fr.step (fr_mirrorWriteCmd _ _) rfl hu)

theorem fr_egressWriteCmd (c : Cmd) (host : HostAns) (s : State) : Fr 50672610 s (egressWriteCmd c host s).1 := by
  unfold egressWriteCmd
  repeat' (first
    | exact Or.inl rfl
    | exact Or.inr rfl
    | lift_lets
    | (intro u_; refine Fr.cut (M := 50672610) (s := s) (t := u_) ?_ fun hu_ => ?_; (on_goal 2 => clear_value u_); (on_goal 1 => subst u_))
    | intro v_
    | with_reducible refine Fr.ite ?_ ?_
    | with_reducible refine Fr.ite1 ?_ ?_
    | with_reducible apply fr_readItems
    | with_reducible apply fr_writeRecords
    | ((with_reducible apply Fr.step); (on_goal 1 => first | with_reducible apply fr_fail | with_reducible apply fr_okayData | with_reducible apply fr_clearUpset | with_reducible apply fr_meetSecded | with_reducible apply fr_egress); (on_goal 1 => exact rfl))
    | exact rfl
    | intro v_
    | split
    | with_reducible assumption
    | with_reducible exact Fr.refl _ _
    | with_reducible refine Fr.upd ‹_› ?_ ?_ ?_ ?_ ?_ ?_ ?_ ?_ ?_ ?_ ?_ ?_ ?_ ?_ ?_ ?_ ?_ ?_ ?_ ?_ ?_ ?_ ?_ ?_ ?_ ?_ ?_ ?_ ?_
    | with_reducible refine Fr.upd (Fr.refl _ _) ?_ ?_ ?_ ?_ ?_ ?_ ?_ ?_ ?_ ?_ ?_ ?_ ?_ ?_ ?_ ?_ ?_ ?_ ?_ ?_ ?_ ?_ ?_ ?_ ?_ ?_ ?_ ?_ ?_)

theorem fr_execEgressWrite (ref : CmdRef) (host : HostAns) (s : State) : FrR 50672610 s (execEgressWrite ref host s) := by
  unfold execEgressWrite
  exact FrR.next (fr_runCmd rfl fun c u hu => Fr.step (fr_egressWriteCmd _ _ _) rfl hu)

end Sys2Proof.Machine
end

