-- ==== Sys2Proof/Laws/FrameModeOps.lean ====
section
/-! SUPPORT. What each function of Machine/ModeOps.lean changes at most, as a mask (Laws/Frame.lean). -/
set_option linter.unusedVariables false
set_option linter.unusedTactic false
set_option linter.unreachableTactic false
namespace Sys2Proof.Machine

theorem fr_followFence (s : State) : Fr 67110050 s (followFence s) := by
  unfold followFence
  repeat' (first
    | exact Or.inl rfl
    | exact Or.inr rfl
    | with_reducible refine Fr.ite ?_ ?_
    | ((with_reducible apply Fr.step); (on_goal 1 => first | with_reducible apply fr_setMode); (on_goal 1 => exact rfl))
    | split
    | with_reducible assumption
    | with_reducible exact Fr.refl _ _)

theorem fr_squelchAll (s : State) : Fr 2080 s (squelchAll s) := by
  unfold squelchAll
  repeat' (first
    | exact Or.inl rfl
    | exact Or.inr rfl
    | with_reducible refine Fr.ite ?_ ?_
    | with_reducible refine Fr.foldl ?_ (fun _ _ _ => ?_)
    | ((with_reducible apply Fr.step); (on_goal 1 => first | with_reducible apply fr_setSquelch); (on_goal 1 => exact rfl))
    | split
    | with_reducible assumption
    | with_reducible exact Fr.refl _ _)

theorem fr_enterHold (s : State) : Fr 67112098 s (enterHold s) := by
  unfold enterHold
  repeat' (first
    | exact Or.inl rfl
    | exact Or.inr rfl
    | lift_lets
    | (intro u_; refine Fr.cut (M := 67112098) (s := s) (t := u_) ?_ fun hu_ => ?_; (on_goal 2 => clear_value u_); (on_goal 1 => subst u_))
    | intro v_
    | with_reducible refine Fr.ite ?_ ?_
    | ((with_reducible apply Fr.step); (on_goal 1 => first | with_reducible apply fr_setMode | with_reducible apply fr_finishRef | with_reducible apply fr_squelchAll); (on_goal 1 => exact rfl))
    | split
    | (clear_value *; split)
    | with_reducible assumption
    | with_reducible exact Fr.refl _ _
    | with_reducible refine Fr.upd ‹_› ?_ ?_ ?_ ?_ ?_ ?_ ?_ ?_ ?_ ?_ ?_ ?_ ?_ ?_ ?_ ?_ ?_ ?_ ?_ ?_ ?_ ?_ ?_ ?_ ?_ ?_ ?_ ?_ ?_
    | with_reducible refine Fr.upd (Fr.refl _ _) ?_ ?_ ?_ ?_ ?_ ?_ ?_ ?_ ?_ ?_ ?_ ?_ ?_ ?_ ?_ ?_ ?_ ?_ ?_ ?_ ?_ ?_ ?_ ?_ ?_ ?_ ?_ ?_ ?_)

theorem fr_enterLockdown (s : State) : Fr 387514082 s (enterLockdown s) := by
  have h : Fr 387514082 s (squelchAll (setMode .lockdown 2 s)) := Fr.step (fr_squelchAll _) rfl (Fr.step (fr_setMode _ _ _) rfl (Fr.refl _ _))
  have k : ∀ t, Fr 387514082 s t → Fr 387514082 s (lockdownDoms.foldl (fun s d => loseDomain d (modDom d (fun x =>
      { x with st := .off, raise := none, down := none, up := none }) s))
      { t with sys := { t.sys with modeWait := none, debug := 0, nonce := none } }) := by
    intro t ht
    refine Fr.foldl ?_ fun u d hu => Fr.step (fr_loseDomain _ _) rfl (Fr.step (fr_modDom _ _ _) rfl hu)
    refine Fr.upd ht ?_ ?_ ?_ ?_ ?_ ?_ ?_ ?_ ?_ ?_ ?_ ?_ ?_ ?_ ?_ ?_ ?_ ?_ ?_ ?_ ?_ ?_ ?_ ?_ ?_ ?_ ?_ ?_ ?_ <;> first | exact .inl rfl | exact .inr rfl
  have e : enterLockdown s = if s.sys.mode = .off ∨ s.sys.mode = .lockdown then s else
      lockdownDoms.foldl (fun s d => loseDomain d (modDom d (fun x =>
      { x with st := .off, raise := none, down := none, up := none }) s))
      { squelchAll (setMode .lockdown 2 s) with sys := { (squelchAll (setMode .lockdown 2 s)).sys with
        modeWait := none, debug := 0, nonce := none } } := rfl
  rw [e]
  exact Fr.ite (Fr.refl _ _) (k _ h)

theorem fr_lanesStop (s : State) : Fr 32 s (lanesStop s) := by
  unfold lanesStop
  repeat' (first
    | exact Or.inl rfl
    | exact Or.inr rfl
    | with_reducible refine Fr.ite ?_ ?_
    | with_reducible refine Fr.foldl ?_ (fun _ _ _ => ?_)
    | ((with_reducible apply Fr.step); (on_goal 1 => first | with_reducible apply fr_emit); (on_goal 1 => exact rfl))
    | split
    | with_reducible assumption
    | with_reducible exact Fr.refl _ _)

theorem fr_freshState (o : State) : Fr 939524030 o (freshState o) := by
  constructor <;> first | exact .inl rfl | exact .inr rfl

theorem fr_doReset (kind : Nat) (s : State) : Fr 939524030 s (doReset kind s) := by
  have hl : ∀ u : State, ∀ k : Fr 32 s u, Fr 939524030 s (let n := freshState u
      { n with sys := { n.sys with
        mode := .reset, resetKind := kind, resets := sat 16 (s.sys.resets + 1), priorFirst := firstBytes s, straps := s.sys.straps
        unlockFails := s.sys.unlockFails, grantAcross := if kind = 6 then s.sys.grantAcross else 0
        fuseError := s.sys.fuseError } }) := by
    intro u k
    constructor <;> first | exact .inl rfl | skip
    · exact k.pending
    · exact k.freeIx
    · exact k.fuses
  have h1 : Fr 32 s (lanesStop s) := (fr_lanesStop s).mono rfl
  have h2 := Fr.ite (c := (lanesStop s).flt.alive = true) (Fr.step (fr_emit (.alive false) _) rfl h1) h1
  have h3 := hl _ h2
  unfold doReset
  refine Fr.ite (Fr.refl _ _) ?_
  dsimp only at h3 ⊢
  rw [show (lanesStop s).sys = s.sys from ((fr_lanesStop s).sys).resolve_left (by decide)]
  exact h3

end Sys2Proof.Machine
end

