-- ==== Sys2Proof/Laws/FrameRegisters.lean ====
section
/-! SUPPORT. What each function of Machine/Registers.lean changes at most, as a mask (Laws/Frame.lean). -/
set_option linter.unusedVariables false
set_option linter.unusedTactic false
set_option linter.unreachableTactic false
namespace Sys2Proof.Machine

theorem fr_writeBufCtrl (v : Nat) (s : State) : Fr 262146 s (writeBufCtrl v s) := by
  unfold writeBufCtrl
  repeat' (first
    | exact Or.inl rfl
    | exact Or.inr rfl
    | lift_lets
    | (intro u_; refine Fr.cut (M := 262146) (s := s) (t := u_) ?_ fun hu_ => ?_; (on_goal 2 => clear_value u_); (on_goal 1 => subst u_))
    | intro v_
    | with_reducible refine Fr.ite ?_ ?_
    | ((with_reducible apply Fr.step); (on_goal 1 => first | with_reducible apply fr_wrRw | with_reducible apply fr_bufErr); (on_goal 1 => exact rfl))
    | split
    | with_reducible assumption
    | with_reducible exact Fr.refl _ _)

theorem fr_writeColCtrl (v : Nat) (s : State) : Fr 2097154 s (writeColCtrl v s) := by
  unfold writeColCtrl
  repeat' (first
    | exact Or.inl rfl
    | exact Or.inr rfl
    | lift_lets
    | (intro u_; refine Fr.cut (M := 2097154) (s := s) (t := u_) ?_ fun hu_ => ?_; (on_goal 2 => clear_value u_); (on_goal 1 => subst u_))
    | intro v_
    | with_reducible refine Fr.ite ?_ ?_
    | ((with_reducible apply Fr.step); (on_goal 1 => first | with_reducible apply fr_wrRw | with_reducible apply fr_colErr); (on_goal 1 => exact rfl))
    | split
    | with_reducible assumption
    | with_reducible exact Fr.refl _ _)

theorem fr_writeSysDrain (v : Nat) (s : State) : Fr 2 s (writeSysDrain v s) := by
  unfold writeSysDrain
  repeat' (first
    | exact Or.inl rfl
    | exact Or.inr rfl
    | with_reducible refine Fr.ite ?_ ?_
    | ((with_reducible apply Fr.step); (on_goal 1 => first | with_reducible apply fr_wrRw); (on_goal 1 => exact rfl))
    | split
    | with_reducible assumption
    | with_reducible exact Fr.refl _ _)

theorem fr_writeMsix (n v : Nat) (s : State) : Fr 34 s (writeMsix n v s) := by
  unfold writeMsix
  repeat' (first
    | exact Or.inl rfl
    | exact Or.inr rfl
    | lift_lets
    | (intro u_; refine Fr.cut (M := 34) (s := s) (t := u_) ?_ fun hu_ => ?_; (on_goal 2 => clear_value u_); (on_goal 1 => subst u_))
    | intro v_
    | with_reducible refine Fr.ite ?_ ?_
    | ((with_reducible apply Fr.step); (on_goal 1 => first | with_reducible apply fr_wr | with_reducible apply fr_wrRw | with_reducible apply fr_emit); (on_goal 1 => exact rfl))
    | split
    | with_reducible assumption
    | with_reducible exact Fr.refl _ _)

/-- What the write and the clear of a register change at most. -/
def RegFr (r : BarReg) : Prop := (∀ n v s, Fr 67108846 s (r.write n v s)) ∧ ∀ n s, Fr 67108846 s (r.clear n s)

theorem fr_sysRegs : ∀ r ∈ sysRegs, RegFr r := by
  simp only [sysRegs, List.forall_mem_cons]
  repeat' (first | exact fun _ h => absurd h (List.not_mem_nil) | apply And.intro)
  all_goals
    first
      | exact fun n v s => (fr_wrRw _ _ _ _).mono rfl
      | exact fun n s => Fr.refl _ _
      | skip
  all_goals
    intros
    try dsimp only [roReg, partReg, portReg, plainPort, levelReg]
    repeat' (first
        | exact Or.inl rfl
        | exact Or.inr rfl
        | with_reducible refine Fr.ite ?_ ?_
        | with_reducible apply fr_tbWatch
        | ((with_reducible apply Fr.step); (on_goal 1 => first | with_reducible apply fr_wrRw | with_reducible apply fr_evalFc | with_reducible apply fr_setMChan | with_reducible apply fr_writeMacroCfg | with_reducible apply fr_writeLaneCfg | with_reducible apply fr_writeTxffe | with_reducible apply fr_writeLaneRx | with_reducible apply fr_writeMacroMode | with_reducible apply fr_setPortErr | with_reducible apply fr_writePortCfg | with_reducible apply fr_writePfcRefresh | with_reducible apply fr_writePfcWd | with_reducible apply fr_writeGateCfg | with_reducible apply fr_writeWatermark | with_reducible apply fr_bufErr | with_reducible apply fr_writePart | with_reducible apply fr_writeRegion | with_reducible apply fr_setTb | with_reducible apply fr_writeTimCtrl | with_reducible apply fr_writePpsOut | with_reducible apply fr_writePpsOfs | with_reducible apply fr_writeTblCtrl | with_reducible apply fr_writeSeed | with_reducible apply fr_writeTcamMode | with_reducible apply fr_writeTypeCfg | with_reducible apply fr_writeLearnCfg | with_reducible apply fr_writeShadowCfg | with_reducible apply fr_writeArCfg | with_reducible apply fr_writeShadowLen | with_reducible apply fr_writeRingCfg | with_reducible apply fr_writeRingBase | with_reducible apply fr_summaryGo | with_reducible apply fr_restartChan | with_reducible apply fr_writeMemCtrl | with_reducible apply fr_modPool | with_reducible apply fr_writePwrLimit | with_reducible apply fr_writePwrCtrl | with_reducible apply fr_writePwrVr | with_reducible apply fr_writePwrPolicy | with_reducible apply fr_writePwrTherm | with_reducible apply fr_writePwrDroop | with_reducible apply fr_modEng | with_reducible apply fr_writeTb | with_reducible apply fr_writeClassCfg | with_reducible apply fr_writeHostBoot | with_reducible apply fr_writeColCfg | with_reducible apply fr_poolCtrlWrite | with_reducible apply fr_writePoolCfg | with_reducible apply fr_clearPeak | with_reducible apply fr_writeParseCfg | with_reducible apply fr_writeGroupCfg | with_reducible apply fr_writeGroupBase | with_reducible apply fr_writeGauzeCfg | with_reducible apply fr_writeTelCtrl | with_reducible apply fr_writeGauzeBase | with_reducible apply fr_writeBufCtrl | with_reducible apply fr_writeColCtrl | with_reducible apply fr_writeSysDrain | with_reducible apply fr_writeMsix | with_reducible apply fr_wrRw); (on_goal 1 => exact rfl))
        | exact rfl
        | intro v_
        | split
        | with_reducible assumption
        | with_reducible exact Fr.refl _ _
        | with_reducible refine Fr.upd ‹_› ?_ ?_ ?_ ?_ ?_ ?_ ?_ ?_ ?_ ?_ ?_ ?_ ?_ ?_ ?_ ?_ ?_ ?_ ?_ ?_ ?_ ?_ ?_ ?_ ?_ ?_ ?_ ?_ ?_
        | with_reducible refine Fr.upd (Fr.refl _ _) ?_ ?_ ?_ ?_ ?_ ?_ ?_ ?_ ?_ ?_ ?_ ?_ ?_ ?_ ?_ ?_ ?_ ?_ ?_ ?_ ?_ ?_ ?_ ?_ ?_ ?_ ?_ ?_ ?_)

theorem fr_hifRegs : ∀ r ∈ hifRegs, RegFr r := by
  simp only [hifRegs, List.forall_mem_cons]
  repeat' (first | exact fun _ h => absurd h (List.not_mem_nil) | apply And.intro)
  all_goals
    first
      | exact fun n v s => (fr_wrRw _ _ _ _).mono rfl
      | exact fun n s => Fr.refl _ _
      | skip
  all_goals
    intros
    try dsimp only [roReg, partReg, portReg, plainPort, levelReg]
    repeat' (first
        | exact Or.inl rfl
        | exact Or.inr rfl
        | with_reducible refine Fr.ite ?_ ?_
        | with_reducible apply fr_tbWatch
        | ((with_reducible apply Fr.step); (on_goal 1 => first | with_reducible apply fr_wrRw | with_reducible apply fr_evalFc | with_reducible apply fr_setMChan | with_reducible apply fr_writeMacroCfg | with_reducible apply fr_writeLaneCfg | with_reducible apply fr_writeTxffe | with_reducible apply fr_writeLaneRx | with_reducible apply fr_writeMacroMode | with_reducible apply fr_setPortErr | with_reducible apply fr_writePortCfg | with_reducible apply fr_writePfcRefresh | with_reducible apply fr_writePfcWd | with_reducible apply fr_writeGateCfg | with_reducible apply fr_writeWatermark | with_reducible apply fr_bufErr | with_reducible apply fr_writePart | with_reducible apply fr_writeRegion | with_reducible apply fr_setTb | with_reducible apply fr_writeTimCtrl | with_reducible apply fr_writePpsOut | with_reducible apply fr_writePpsOfs | with_reducible apply fr_writeTblCtrl | with_reducible apply fr_writeSeed | with_reducible apply fr_writeTcamMode | with_reducible apply fr_writeTypeCfg | with_reducible apply fr_writeLearnCfg | with_reducible apply fr_writeShadowCfg | with_reducible apply fr_writeArCfg | with_reducible apply fr_writeShadowLen | with_reducible apply fr_writeRingCfg | with_reducible apply fr_writeRingBase | with_reducible apply fr_summaryGo | with_reducible apply fr_restartChan | with_reducible apply fr_writeMemCtrl | with_reducible apply fr_modPool | with_reducible apply fr_writePwrLimit | with_reducible apply fr_writePwrCtrl | with_reducible apply fr_writePwrVr | with_reducible apply fr_writePwrPolicy | with_reducible apply fr_writePwrTherm | with_reducible apply fr_writePwrDroop | with_reducible apply fr_modEng | with_reducible apply fr_writeTb | with_reducible apply fr_writeClassCfg | with_reducible apply fr_writeHostBoot | with_reducible apply fr_writeColCfg | with_reducible apply fr_poolCtrlWrite | with_reducible apply fr_writePoolCfg | with_reducible apply fr_clearPeak | with_reducible apply fr_writeParseCfg | with_reducible apply fr_writeGroupCfg | with_reducible apply fr_writeGroupBase | with_reducible apply fr_writeGauzeCfg | with_reducible apply fr_writeTelCtrl | with_reducible apply fr_writeGauzeBase | with_reducible apply fr_writeBufCtrl | with_reducible apply fr_writeColCtrl | with_reducible apply fr_writeSysDrain | with_reducible apply fr_writeMsix | with_reducible apply fr_wrRw); (on_goal 1 => exact rfl))
        | exact rfl
        | intro v_
        | split
        | with_reducible assumption
        | with_reducible exact Fr.refl _ _
        | with_reducible refine Fr.upd ‹_› ?_ ?_ ?_ ?_ ?_ ?_ ?_ ?_ ?_ ?_ ?_ ?_ ?_ ?_ ?_ ?_ ?_ ?_ ?_ ?_ ?_ ?_ ?_ ?_ ?_ ?_ ?_ ?_ ?_
        | with_reducible refine Fr.upd (Fr.refl _ _) ?_ ?_ ?_ ?_ ?_ ?_ ?_ ?_ ?_ ?_ ?_ ?_ ?_ ?_ ?_ ?_ ?_ ?_ ?_ ?_ ?_ ?_ ?_ ?_ ?_ ?_ ?_ ?_ ?_)

theorem fr_lanRegs : ∀ r ∈ lanRegs, RegFr r := by
  simp only [lanRegs, List.forall_mem_cons]
  repeat' (first | exact fun _ h => absurd h (List.not_mem_nil) | apply And.intro)
  all_goals
    first
      | exact fun n v s => (fr_wrRw _ _ _ _).mono rfl
      | exact fun n s => Fr.refl _ _
      | skip
  all_goals
    intros
    try dsimp only [roReg, partReg, portReg, plainPort, levelReg]
    repeat' (first
        | exact Or.inl rfl
        | exact Or.inr rfl
        | with_reducible refine Fr.ite ?_ ?_
        | with_reducible apply fr_tbWatch
        | ((with_reducible apply Fr.step); (on_goal 1 => first | with_reducible apply fr_wrRw | with_reducible apply fr_evalFc | with_reducible apply fr_setMChan | with_reducible apply fr_writeMacroCfg | with_reducible apply fr_writeLaneCfg | with_reducible apply fr_writeTxffe | with_reducible apply fr_writeLaneRx | with_reducible apply fr_writeMacroMode | with_reducible apply fr_setPortErr | with_reducible apply fr_writePortCfg | with_reducible apply fr_writePfcRefresh | with_reducible apply fr_writePfcWd | with_reducible apply fr_writeGateCfg | with_reducible apply fr_writeWatermark | with_reducible apply fr_bufErr | with_reducible apply fr_writePart | with_reducible apply fr_writeRegion | with_reducible apply fr_setTb | with_reducible apply fr_writeTimCtrl | with_reducible apply fr_writePpsOut | with_reducible apply fr_writePpsOfs | with_reducible apply fr_writeTblCtrl | with_reducible apply fr_writeSeed | with_reducible apply fr_writeTcamMode | with_reducible apply fr_writeTypeCfg | with_reducible apply fr_writeLearnCfg | with_reducible apply fr_writeShadowCfg | with_reducible apply fr_writeArCfg | with_reducible apply fr_writeShadowLen | with_reducible apply fr_writeRingCfg | with_reducible apply fr_writeRingBase | with_reducible apply fr_summaryGo | with_reducible apply fr_restartChan | with_reducible apply fr_writeMemCtrl | with_reducible apply fr_modPool | with_reducible apply fr_writePwrLimit | with_reducible apply fr_writePwrCtrl | with_reducible apply fr_writePwrVr | with_reducible apply fr_writePwrPolicy | with_reducible apply fr_writePwrTherm | with_reducible apply fr_writePwrDroop | with_reducible apply fr_modEng | with_reducible apply fr_writeTb | with_reducible apply fr_writeClassCfg | with_reducible apply fr_writeHostBoot | with_reducible apply fr_writeColCfg | with_reducible apply fr_poolCtrlWrite | with_reducible apply fr_writePoolCfg | with_reducible apply fr_clearPeak | with_reducible apply fr_writeParseCfg | with_reducible apply fr_writeGroupCfg | with_reducible apply fr_writeGroupBase | with_reducible apply fr_writeGauzeCfg | with_reducible apply fr_writeTelCtrl | with_reducible apply fr_writeGauzeBase | with_reducible apply fr_writeBufCtrl | with_reducible apply fr_writeColCtrl | with_reducible apply fr_writeSysDrain | with_reducible apply fr_writeMsix | with_reducible apply fr_wrRw); (on_goal 1 => exact rfl))
        | exact rfl
        | intro v_
        | split
        | with_reducible assumption
        | with_reducible exact Fr.refl _ _
        | with_reducible refine Fr.upd ‹_› ?_ ?_ ?_ ?_ ?_ ?_ ?_ ?_ ?_ ?_ ?_ ?_ ?_ ?_ ?_ ?_ ?_ ?_ ?_ ?_ ?_ ?_ ?_ ?_ ?_ ?_ ?_ ?_ ?_
        | with_reducible refine Fr.upd (Fr.refl _ _) ?_ ?_ ?_ ?_ ?_ ?_ ?_ ?_ ?_ ?_ ?_ ?_ ?_ ?_ ?_ ?_ ?_ ?_ ?_ ?_ ?_ ?_ ?_ ?_ ?_ ?_ ?_ ?_ ?_)

theorem fr_macRegs : ∀ r ∈ macRegs, RegFr r := by
  simp only [macRegs, List.forall_mem_cons]
  repeat' (first | exact fun _ h => absurd h (List.not_mem_nil) | apply And.intro)
  all_goals
    first
      | exact fun n v s => (fr_wrRw _ _ _ _).mono rfl
      | exact fun n s => Fr.refl _ _
      | skip
  all_goals
    intros
    try dsimp only [roReg, partReg, portReg, plainPort, levelReg]
    repeat' (first
        | exact Or.inl rfl
        | exact Or.inr rfl
        | with_reducible refine Fr.ite ?_ ?_
        | with_reducible apply fr_tbWatch
        | ((with_reducible apply Fr.step); (on_goal 1 => first | with_reducible apply fr_wrRw | with_reducible apply fr_evalFc | with_reducible apply fr_setMChan | with_reducible apply fr_writeMacroCfg | with_reducible apply fr_writeLaneCfg | with_reducible apply fr_writeTxffe | with_reducible apply fr_writeLaneRx | with_reducible apply fr_writeMacroMode | with_reducible apply fr_setPortErr | with_reducible apply fr_writePortCfg | with_reducible apply fr_writePfcRefresh | with_reducible apply fr_writePfcWd | with_reducible apply fr_writeGateCfg | with_reducible apply fr_writeWatermark | with_reducible apply fr_bufErr | with_reducible apply fr_writePart | with_reducible apply fr_writeRegion | with_reducible apply fr_setTb | with_reducible apply fr_writeTimCtrl | with_reducible apply fr_writePpsOut | with_reducible apply fr_writePpsOfs | with_reducible apply fr_writeTblCtrl | with_reducible apply fr_writeSeed | with_reducible apply fr_writeTcamMode | with_reducible apply fr_writeTypeCfg | with_reducible apply fr_writeLearnCfg | with_reducible apply fr_writeShadowCfg | with_reducible apply fr_writeArCfg | with_reducible apply fr_writeShadowLen | with_reducible apply fr_writeRingCfg | with_reducible apply fr_writeRingBase | with_reducible apply fr_summaryGo | with_reducible apply fr_restartChan | with_reducible apply fr_writeMemCtrl | with_reducible apply fr_modPool | with_reducible apply fr_writePwrLimit | with_reducible apply fr_writePwrCtrl | with_reducible apply fr_writePwrVr | with_reducible apply fr_writePwrPolicy | with_reducible apply fr_writePwrTherm | with_reducible apply fr_writePwrDroop | with_reducible apply fr_modEng | with_reducible apply fr_writeTb | with_reducible apply fr_writeClassCfg | with_reducible apply fr_writeHostBoot | with_reducible apply fr_writeColCfg | with_reducible apply fr_poolCtrlWrite | with_reducible apply fr_writePoolCfg | with_reducible apply fr_clearPeak | with_reducible apply fr_writeParseCfg | with_reducible apply fr_writeGroupCfg | with_reducible apply fr_writeGroupBase | with_reducible apply fr_writeGauzeCfg | with_reducible apply fr_writeTelCtrl | with_reducible apply fr_writeGauzeBase | with_reducible apply fr_writeBufCtrl | with_reducible apply fr_writeColCtrl | with_reducible apply fr_writeSysDrain | with_reducible apply fr_writeMsix | with_reducible apply fr_wrRw); (on_goal 1 => exact rfl))
        | exact rfl
        | intro v_
        | split
        | with_reducible assumption
        | with_reducible exact Fr.refl _ _
        | with_reducible refine Fr.upd ‹_› ?_ ?_ ?_ ?_ ?_ ?_ ?_ ?_ ?_ ?_ ?_ ?_ ?_ ?_ ?_ ?_ ?_ ?_ ?_ ?_ ?_ ?_ ?_ ?_ ?_ ?_ ?_ ?_ ?_
        | with_reducible refine Fr.upd (Fr.refl _ _) ?_ ?_ ?_ ?_ ?_ ?_ ?_ ?_ ?_ ?_ ?_ ?_ ?_ ?_ ?_ ?_ ?_ ?_ ?_ ?_ ?_ ?_ ?_ ?_ ?_ ?_ ?_ ?_ ?_)

theorem fr_sltRegs : ∀ r ∈ sltRegs, RegFr r := by
  simp only [sltRegs, List.forall_mem_cons]
  repeat' (first | exact fun _ h => absurd h (List.not_mem_nil) | apply And.intro)
  all_goals
    first
      | exact fun n v s => (fr_wrRw _ _ _ _).mono rfl
      | exact fun n s => Fr.refl _ _
      | skip
  all_goals
    intros
    try dsimp only [roReg, partReg, portReg, plainPort, levelReg]
    repeat' (first
        | exact Or.inl rfl
        | exact Or.inr rfl
        | with_reducible refine Fr.ite ?_ ?_
        | with_reducible apply fr_tbWatch
        | ((with_reducible apply Fr.step); (on_goal 1 => first | with_reducible apply fr_wrRw | with_reducible apply fr_evalFc | with_reducible apply fr_setMChan | with_reducible apply fr_writeMacroCfg | with_reducible apply fr_writeLaneCfg | with_reducible apply fr_writeTxffe | with_reducible apply fr_writeLaneRx | with_reducible apply fr_writeMacroMode | with_reducible apply fr_setPortErr | with_reducible apply fr_writePortCfg | with_reducible apply fr_writePfcRefresh | with_reducible apply fr_writePfcWd | with_reducible apply fr_writeGateCfg | with_reducible apply fr_writeWatermark | with_reducible apply fr_bufErr | with_reducible apply fr_writePart | with_reducible apply fr_writeRegion | with_reducible apply fr_setTb | with_reducible apply fr_writeTimCtrl | with_reducible apply fr_writePpsOut | with_reducible apply fr_writePpsOfs | with_reducible apply fr_writeTblCtrl | with_reducible apply fr_writeSeed | with_reducible apply fr_writeTcamMode | with_reducible apply fr_writeTypeCfg | with_reducible apply fr_writeLearnCfg | with_reducible apply fr_writeShadowCfg | with_reducible apply fr_writeArCfg | with_reducible apply fr_writeShadowLen | with_reducible apply fr_writeRingCfg | with_reducible apply fr_writeRingBase | with_reducible apply fr_summaryGo | with_reducible apply fr_restartChan | with_reducible apply fr_writeMemCtrl | with_reducible apply fr_modPool | with_reducible apply fr_writePwrLimit | with_reducible apply fr_writePwrCtrl | with_reducible apply fr_writePwrVr | with_reducible apply fr_writePwrPolicy | with_reducible apply fr_writePwrTherm | with_reducible apply fr_writePwrDroop | with_reducible apply fr_modEng | with_reducible apply fr_writeTb | with_reducible apply fr_writeClassCfg | with_reducible apply fr_writeHostBoot | with_reducible apply fr_writeColCfg | with_reducible apply fr_poolCtrlWrite | with_reducible apply fr_writePoolCfg | with_reducible apply fr_clearPeak | with_reducible apply fr_writeParseCfg | with_reducible apply fr_writeGroupCfg | with_reducible apply fr_writeGroupBase | with_reducible apply fr_writeGauzeCfg | with_reducible apply fr_writeTelCtrl | with_reducible apply fr_writeGauzeBase | with_reducible apply fr_writeBufCtrl | with_reducible apply fr_writeColCtrl | with_reducible apply fr_writeSysDrain | with_reducible apply fr_writeMsix | with_reducible apply fr_wrRw); (on_goal 1 => exact rfl))
        | exact rfl
        | intro v_
        | split
        | with_reducible assumption
        | with_reducible exact Fr.refl _ _
        | with_reducible refine Fr.upd ‹_› ?_ ?_ ?_ ?_ ?_ ?_ ?_ ?_ ?_ ?_ ?_ ?_ ?_ ?_ ?_ ?_ ?_ ?_ ?_ ?_ ?_ ?_ ?_ ?_ ?_ ?_ ?_ ?_ ?_
        | with_reducible refine Fr.upd (Fr.refl _ _) ?_ ?_ ?_ ?_ ?_ ?_ ?_ ?_ ?_ ?_ ?_ ?_ ?_ ?_ ?_ ?_ ?_ ?_ ?_ ?_ ?_ ?_ ?_ ?_ ?_ ?_ ?_ ?_ ?_)

theorem fr_pipeRegs : ∀ r ∈ pipeRegs, RegFr r := by
  simp only [pipeRegs, List.forall_mem_cons]
  repeat' (first | exact fun _ h => absurd h (List.not_mem_nil) | apply And.intro)
  all_goals
    first
      | exact fun n v s => (fr_wrRw _ _ _ _).mono rfl
      | exact fun n s => Fr.refl _ _
      | skip
  all_goals
    intros
    try dsimp only [roReg, partReg, portReg, plainPort, levelReg]
    repeat' (first
        | exact Or.inl rfl
        | exact Or.inr rfl
        | with_reducible refine Fr.ite ?_ ?_
        | with_reducible apply fr_tbWatch
        | ((with_reducible apply Fr.step); (on_goal 1 => first | with_reducible apply fr_wrRw | with_reducible apply fr_evalFc | with_reducible apply fr_setMChan | with_reducible apply fr_writeMacroCfg | with_reducible apply fr_writeLaneCfg | with_reducible apply fr_writeTxffe | with_reducible apply fr_writeLaneRx | with_reducible apply fr_writeMacroMode | with_reducible apply fr_setPortErr | with_reducible apply fr_writePortCfg | with_reducible apply fr_writePfcRefresh | with_reducible apply fr_writePfcWd | with_reducible apply fr_writeGateCfg | with_reducible apply fr_writeWatermark | with_reducible apply fr_bufErr | with_reducible apply fr_writePart | with_reducible apply fr_writeRegion | with_reducible apply fr_setTb | with_reducible apply fr_writeTimCtrl | with_reducible apply fr_writePpsOut | with_reducible apply fr_writePpsOfs | with_reducible apply fr_writeTblCtrl | with_reducible apply fr_writeSeed | with_reducible apply fr_writeTcamMode | with_reducible apply fr_writeTypeCfg | with_reducible apply fr_writeLearnCfg | with_reducible apply fr_writeShadowCfg | with_reducible apply fr_writeArCfg | with_reducible apply fr_writeShadowLen | with_reducible apply fr_writeRingCfg | with_reducible apply fr_writeRingBase | with_reducible apply fr_summaryGo | with_reducible apply fr_restartChan | with_reducible apply fr_writeMemCtrl | with_reducible apply fr_modPool | with_reducible apply fr_writePwrLimit | with_reducible apply fr_writePwrCtrl | with_reducible apply fr_writePwrVr | with_reducible apply fr_writePwrPolicy | with_reducible apply fr_writePwrTherm | with_reducible apply fr_writePwrDroop | with_reducible apply fr_modEng | with_reducible apply fr_writeTb | with_reducible apply fr_writeClassCfg | with_reducible apply fr_writeHostBoot | with_reducible apply fr_writeColCfg | with_reducible apply fr_poolCtrlWrite | with_reducible apply fr_writePoolCfg | with_reducible apply fr_clearPeak | with_reducible apply fr_writeParseCfg | with_reducible apply fr_writeGroupCfg | with_reducible apply fr_writeGroupBase | with_reducible apply fr_writeGauzeCfg | with_reducible apply fr_writeTelCtrl | with_reducible apply fr_writeGauzeBase | with_reducible apply fr_writeBufCtrl | with_reducible apply fr_writeColCtrl | with_reducible apply fr_writeSysDrain | with_reducible apply fr_writeMsix | with_reducible apply fr_wrRw); (on_goal 1 => exact rfl))
        | exact rfl
        | intro v_
        | split
        | with_reducible assumption
        | with_reducible exact Fr.refl _ _
        | with_reducible refine Fr.upd ‹_› ?_ ?_ ?_ ?_ ?_ ?_ ?_ ?_ ?_ ?_ ?_ ?_ ?_ ?_ ?_ ?_ ?_ ?_ ?_ ?_ ?_ ?_ ?_ ?_ ?_ ?_ ?_ ?_ ?_
        | with_reducible refine Fr.upd (Fr.refl _ _) ?_ ?_ ?_ ?_ ?_ ?_ ?_ ?_ ?_ ?_ ?_ ?_ ?_ ?_ ?_ ?_ ?_ ?_ ?_ ?_ ?_ ?_ ?_ ?_ ?_ ?_ ?_ ?_ ?_)

theorem fr_tblRegs : ∀ r ∈ tblRegs, RegFr r := by
  simp only [tblRegs, List.forall_mem_cons]
  repeat' (first | exact fun _ h => absurd h (List.not_mem_nil) | apply And.intro)
  all_goals
    first
      | exact fun n v s => (fr_wrRw _ _ _ _).mono rfl
      | exact fun n s => Fr.refl _ _
      | skip
  all_goals
    intros
    try dsimp only [roReg, partReg, portReg, plainPort, levelReg]
    repeat' (first
        | exact Or.inl rfl
        | exact Or.inr rfl
        | with_reducible refine Fr.ite ?_ ?_
        | with_reducible apply fr_tbWatch
        | ((with_reducible apply Fr.step); (on_goal 1 => first | with_reducible apply fr_wrRw | with_reducible apply fr_evalFc | with_reducible apply fr_setMChan | with_reducible apply fr_writeMacroCfg | with_reducible apply fr_writeLaneCfg | with_reducible apply fr_writeTxffe | with_reducible apply fr_writeLaneRx | with_reducible apply fr_writeMacroMode | with_reducible apply fr_setPortErr | with_reducible apply fr_writePortCfg | with_reducible apply fr_writePfcRefresh | with_reducible apply fr_writePfcWd | with_reducible apply fr_writeGateCfg | with_reducible apply fr_writeWatermark | with_reducible apply fr_bufErr | with_reducible apply fr_writePart | with_reducible apply fr_writeRegion | with_reducible apply fr_setTb | with_reducible apply fr_writeTimCtrl | with_reducible apply fr_writePpsOut | with_reducible apply fr_writePpsOfs | with_reducible apply fr_writeTblCtrl | with_reducible apply fr_writeSeed | with_reducible apply fr_writeTcamMode | with_reducible apply fr_writeTypeCfg | with_reducible apply fr_writeLearnCfg | with_reducible apply fr_writeShadowCfg | with_reducible apply fr_writeArCfg | with_reducible apply fr_writeShadowLen | with_reducible apply fr_writeRingCfg | with_reducible apply fr_writeRingBase | with_reducible apply fr_summaryGo | with_reducible apply fr_restartChan | with_reducible apply fr_writeMemCtrl | with_reducible apply fr_modPool | with_reducible apply fr_writePwrLimit | with_reducible apply fr_writePwrCtrl | with_reducible apply fr_writePwrVr | with_reducible apply fr_writePwrPolicy | with_reducible apply fr_writePwrTherm | with_reducible apply fr_writePwrDroop | with_reducible apply fr_modEng | with_reducible apply fr_writeTb | with_reducible apply fr_writeClassCfg | with_reducible apply fr_writeHostBoot | with_reducible apply fr_writeColCfg | with_reducible apply fr_poolCtrlWrite | with_reducible apply fr_writePoolCfg | with_reducible apply fr_clearPeak | with_reducible apply fr_writeParseCfg | with_reducible apply fr_writeGroupCfg | with_reducible apply fr_writeGroupBase | with_reducible apply fr_writeGauzeCfg | with_reducible apply fr_writeTelCtrl | with_reducible apply fr_writeGauzeBase | with_reducible apply fr_writeBufCtrl | with_reducible apply fr_writeColCtrl | with_reducible apply fr_writeSysDrain | with_reducible apply fr_writeMsix | with_reducible apply fr_wrRw); (on_goal 1 => exact rfl))
        | exact rfl
        | intro v_
        | split
        | with_reducible assumption
        | with_reducible exact Fr.refl _ _
        | with_reducible refine Fr.upd ‹_› ?_ ?_ ?_ ?_ ?_ ?_ ?_ ?_ ?_ ?_ ?_ ?_ ?_ ?_ ?_ ?_ ?_ ?_ ?_ ?_ ?_ ?_ ?_ ?_ ?_ ?_ ?_ ?_ ?_
        | with_reducible refine Fr.upd (Fr.refl _ _) ?_ ?_ ?_ ?_ ?_ ?_ ?_ ?_ ?_ ?_ ?_ ?_ ?_ ?_ ?_ ?_ ?_ ?_ ?_ ?_ ?_ ?_ ?_ ?_ ?_ ?_ ?_ ?_ ?_)

theorem fr_bufRegs : ∀ r ∈ bufRegs, RegFr r := by
  simp only [bufRegs, List.forall_mem_cons]
  repeat' (first | exact fun _ h => absurd h (List.not_mem_nil) | apply And.intro)
  all_goals
    first
      | exact fun n v s => (fr_wrRw _ _ _ _).mono rfl
      | exact fun n s => Fr.refl _ _
      | skip
  all_goals
    intros
    try dsimp only [roReg, partReg, portReg, plainPort, levelReg]
    repeat' (first
        | exact Or.inl rfl
        | exact Or.inr rfl
        | with_reducible refine Fr.ite ?_ ?_
        | with_reducible apply fr_tbWatch
        | ((with_reducible apply Fr.step); (on_goal 1 => first | with_reducible apply fr_wrRw | with_reducible apply fr_evalFc | with_reducible apply fr_setMChan | with_reducible apply fr_writeMacroCfg | with_reducible apply fr_writeLaneCfg | with_reducible apply fr_writeTxffe | with_reducible apply fr_writeLaneRx | with_reducible apply fr_writeMacroMode | with_reducible apply fr_setPortErr | with_reducible apply fr_writePortCfg | with_reducible apply fr_writePfcRefresh | with_reducible apply fr_writePfcWd | with_reducible apply fr_writeGateCfg | with_reducible apply fr_writeWatermark | with_reducible apply fr_bufErr | with_reducible apply fr_writePart | with_reducible apply fr_writeRegion | with_reducible apply fr_setTb | with_reducible apply fr_writeTimCtrl | with_reducible apply fr_writePpsOut | with_reducible apply fr_writePpsOfs | with_reducible apply fr_writeTblCtrl | with_reducible apply fr_writeSeed | with_reducible apply fr_writeTcamMode | with_reducible apply fr_writeTypeCfg | with_reducible apply fr_writeLearnCfg | with_reducible apply fr_writeShadowCfg | with_reducible apply fr_writeArCfg | with_reducible apply fr_writeShadowLen | with_reducible apply fr_writeRingCfg | with_reducible apply fr_writeRingBase | with_reducible apply fr_summaryGo | with_reducible apply fr_restartChan | with_reducible apply fr_writeMemCtrl | with_reducible apply fr_modPool | with_reducible apply fr_writePwrLimit | with_reducible apply fr_writePwrCtrl | with_reducible apply fr_writePwrVr | with_reducible apply fr_writePwrPolicy | with_reducible apply fr_writePwrTherm | with_reducible apply fr_writePwrDroop | with_reducible apply fr_modEng | with_reducible apply fr_writeTb | with_reducible apply fr_writeClassCfg | with_reducible apply fr_writeHostBoot | with_reducible apply fr_writeColCfg | with_reducible apply fr_poolCtrlWrite | with_reducible apply fr_writePoolCfg | with_reducible apply fr_clearPeak | with_reducible apply fr_writeParseCfg | with_reducible apply fr_writeGroupCfg | with_reducible apply fr_writeGroupBase | with_reducible apply fr_writeGauzeCfg | with_reducible apply fr_writeTelCtrl | with_reducible apply fr_writeGauzeBase | with_reducible apply fr_writeBufCtrl | with_reducible apply fr_writeColCtrl | with_reducible apply fr_writeSysDrain | with_reducible apply fr_writeMsix | with_reducible apply fr_wrRw); (on_goal 1 => exact rfl))
        | exact rfl
        | intro v_
        | split
        | with_reducible assumption
        | with_reducible exact Fr.refl _ _
        | with_reducible refine Fr.upd ‹_› ?_ ?_ ?_ ?_ ?_ ?_ ?_ ?_ ?_ ?_ ?_ ?_ ?_ ?_ ?_ ?_ ?_ ?_ ?_ ?_ ?_ ?_ ?_ ?_ ?_ ?_ ?_ ?_ ?_
        | with_reducible refine Fr.upd (Fr.refl _ _) ?_ ?_ ?_ ?_ ?_ ?_ ?_ ?_ ?_ ?_ ?_ ?_ ?_ ?_ ?_ ?_ ?_ ?_ ?_ ?_ ?_ ?_ ?_ ?_ ?_ ?_ ?_ ?_ ?_)

theorem fr_colRegs : ∀ r ∈ colRegs, RegFr r := by
  simp only [colRegs, List.forall_mem_cons]
  repeat' (first | exact fun _ h => absurd h (List.not_mem_nil) | apply And.intro)
  all_goals
    first
      | exact fun n v s => (fr_wrRw _ _ _ _).mono rfl
      | exact fun n s => Fr.refl _ _
      | skip
  all_goals
    intros
    try dsimp only [roReg, partReg, portReg, plainPort, levelReg]
    repeat' (first
        | exact Or.inl rfl
        | exact Or.inr rfl
        | with_reducible refine Fr.ite ?_ ?_
        | with_reducible apply fr_tbWatch
        | ((with_reducible apply Fr.step); (on_goal 1 => first | with_reducible apply fr_wrRw | with_reducible apply fr_evalFc | with_reducible apply fr_setMChan | with_reducible apply fr_writeMacroCfg | with_reducible apply fr_writeLaneCfg | with_reducible apply fr_writeTxffe | with_reducible apply fr_writeLaneRx | with_reducible apply fr_writeMacroMode | with_reducible apply fr_setPortErr | with_reducible apply fr_writePortCfg | with_reducible apply fr_writePfcRefresh | with_reducible apply fr_writePfcWd | with_reducible apply fr_writeGateCfg | with_reducible apply fr_writeWatermark | with_reducible apply fr_bufErr | with_reducible apply fr_writePart | with_reducible apply fr_writeRegion | with_reducible apply fr_setTb | with_reducible apply fr_writeTimCtrl | with_reducible apply fr_writePpsOut | with_reducible apply fr_writePpsOfs | with_reducible apply fr_writeTblCtrl | with_reducible apply fr_writeSeed | with_reducible apply fr_writeTcamMode | with_reducible apply fr_writeTypeCfg | with_reducible apply fr_writeLearnCfg | with_reducible apply fr_writeShadowCfg | with_reducible apply fr_writeArCfg | with_reducible apply fr_writeShadowLen | with_reducible apply fr_writeRingCfg | with_reducible apply fr_writeRingBase | with_reducible apply fr_summaryGo | with_reducible apply fr_restartChan | with_reducible apply fr_writeMemCtrl | with_reducible apply fr_modPool | with_reducible apply fr_writePwrLimit | with_reducible apply fr_writePwrCtrl | with_reducible apply fr_writePwrVr | with_reducible apply fr_writePwrPolicy | with_reducible apply fr_writePwrTherm | with_reducible apply fr_writePwrDroop | with_reducible apply fr_modEng | with_reducible apply fr_writeTb | with_reducible apply fr_writeClassCfg | with_reducible apply fr_writeHostBoot | with_reducible apply fr_writeColCfg | with_reducible apply fr_poolCtrlWrite | with_reducible apply fr_writePoolCfg | with_reducible apply fr_clearPeak | with_reducible apply fr_writeParseCfg | with_reducible apply fr_writeGroupCfg | with_reducible apply fr_writeGroupBase | with_reducible apply fr_writeGauzeCfg | with_reducible apply fr_writeTelCtrl | with_reducible apply fr_writeGauzeBase | with_reducible apply fr_writeBufCtrl | with_reducible apply fr_writeColCtrl | with_reducible apply fr_writeSysDrain | with_reducible apply fr_writeMsix | with_reducible apply fr_wrRw); (on_goal 1 => exact rfl))
        | exact rfl
        | intro v_
        | split
        | with_reducible assumption
        | with_reducible exact Fr.refl _ _
        | with_reducible refine Fr.upd ‹_› ?_ ?_ ?_ ?_ ?_ ?_ ?_ ?_ ?_ ?_ ?_ ?_ ?_ ?_ ?_ ?_ ?_ ?_ ?_ ?_ ?_ ?_ ?_ ?_ ?_ ?_ ?_ ?_ ?_
        | with_reducible refine Fr.upd (Fr.refl _ _) ?_ ?_ ?_ ?_ ?_ ?_ ?_ ?_ ?_ ?_ ?_ ?_ ?_ ?_ ?_ ?_ ?_ ?_ ?_ ?_ ?_ ?_ ?_ ?_ ?_ ?_ ?_ ?_ ?_)

theorem fr_memRegs : ∀ r ∈ memRegs, RegFr r := by
  simp only [memRegs, List.forall_mem_cons]
  repeat' (first | exact fun _ h => absurd h (List.not_mem_nil) | apply And.intro)
  all_goals
    first
      | exact fun n v s => (fr_wrRw _ _ _ _).mono rfl
      | exact fun n s => Fr.refl _ _
      | skip
  all_goals
    intros
    try dsimp only [roReg, partReg, portReg, plainPort, levelReg]
    repeat' (first
        | exact Or.inl rfl
        | exact Or.inr rfl
        | with_reducible refine Fr.ite ?_ ?_
        | with_reducible apply fr_tbWatch
        | ((with_reducible apply Fr.step); (on_goal 1 => first | with_reducible apply fr_wrRw | with_reducible apply fr_evalFc | with_reducible apply fr_setMChan | with_reducible apply fr_writeMacroCfg | with_reducible apply fr_writeLaneCfg | with_reducible apply fr_writeTxffe | with_reducible apply fr_writeLaneRx | with_reducible apply fr_writeMacroMode | with_reducible apply fr_setPortErr | with_reducible apply fr_writePortCfg | with_reducible apply fr_writePfcRefresh | with_reducible apply fr_writePfcWd | with_reducible apply fr_writeGateCfg | with_reducible apply fr_writeWatermark | with_reducible apply fr_bufErr | with_reducible apply fr_writePart | with_reducible apply fr_writeRegion | with_reducible apply fr_setTb | with_reducible apply fr_writeTimCtrl | with_reducible apply fr_writePpsOut | with_reducible apply fr_writePpsOfs | with_reducible apply fr_writeTblCtrl | with_reducible apply fr_writeSeed | with_reducible apply fr_writeTcamMode | with_reducible apply fr_writeTypeCfg | with_reducible apply fr_writeLearnCfg | with_reducible apply fr_writeShadowCfg | with_reducible apply fr_writeArCfg | with_reducible apply fr_writeShadowLen | with_reducible apply fr_writeRingCfg | with_reducible apply fr_writeRingBase | with_reducible apply fr_summaryGo | with_reducible apply fr_restartChan | with_reducible apply fr_writeMemCtrl | with_reducible apply fr_modPool | with_reducible apply fr_writePwrLimit | with_reducible apply fr_writePwrCtrl | with_reducible apply fr_writePwrVr | with_reducible apply fr_writePwrPolicy | with_reducible apply fr_writePwrTherm | with_reducible apply fr_writePwrDroop | with_reducible apply fr_modEng | with_reducible apply fr_writeTb | with_reducible apply fr_writeClassCfg | with_reducible apply fr_writeHostBoot | with_reducible apply fr_writeColCfg | with_reducible apply fr_poolCtrlWrite | with_reducible apply fr_writePoolCfg | with_reducible apply fr_clearPeak | with_reducible apply fr_writeParseCfg | with_reducible apply fr_writeGroupCfg | with_reducible apply fr_writeGroupBase | with_reducible apply fr_writeGauzeCfg | with_reducible apply fr_writeTelCtrl | with_reducible apply fr_writeGauzeBase | with_reducible apply fr_writeBufCtrl | with_reducible apply fr_writeColCtrl | with_reducible apply fr_writeSysDrain | with_reducible apply fr_writeMsix | with_reducible apply fr_wrRw); (on_goal 1 => exact rfl))
        | exact rfl
        | intro v_
        | split
        | with_reducible assumption
        | with_reducible exact Fr.refl _ _
        | with_reducible refine Fr.upd ‹_› ?_ ?_ ?_ ?_ ?_ ?_ ?_ ?_ ?_ ?_ ?_ ?_ ?_ ?_ ?_ ?_ ?_ ?_ ?_ ?_ ?_ ?_ ?_ ?_ ?_ ?_ ?_ ?_ ?_
        | with_reducible refine Fr.upd (Fr.refl _ _) ?_ ?_ ?_ ?_ ?_ ?_ ?_ ?_ ?_ ?_ ?_ ?_ ?_ ?_ ?_ ?_ ?_ ?_ ?_ ?_ ?_ ?_ ?_ ?_ ?_ ?_ ?_ ?_ ?_)

theorem fr_fltRegs : ∀ r ∈ fltRegs, RegFr r := by
  simp only [fltRegs, List.forall_mem_cons]
  repeat' (first | exact fun _ h => absurd h (List.not_mem_nil) | apply And.intro)
  all_goals
    first
      | exact fun n v s => (fr_wrRw _ _ _ _).mono rfl
      | exact fun n s => Fr.refl _ _
      | skip
  all_goals
    intros
    try dsimp only [roReg, partReg, portReg, plainPort, levelReg]
    repeat' (first
        | exact Or.inl rfl
        | exact Or.inr rfl
        | with_reducible refine Fr.ite ?_ ?_
        | with_reducible apply fr_tbWatch
        | ((with_reducible apply Fr.step); (on_goal 1 => first | with_reducible apply fr_wrRw | with_reducible apply fr_evalFc | with_reducible apply fr_setMChan | with_reducible apply fr_writeMacroCfg | with_reducible apply fr_writeLaneCfg | with_reducible apply fr_writeTxffe | with_reducible apply fr_writeLaneRx | with_reducible apply fr_writeMacroMode | with_reducible apply fr_setPortErr | with_reducible apply fr_writePortCfg | with_reducible apply fr_writePfcRefresh | with_reducible apply fr_writePfcWd | with_reducible apply fr_writeGateCfg | with_reducible apply fr_writeWatermark | with_reducible apply fr_bufErr | with_reducible apply fr_writePart | with_reducible apply fr_writeRegion | with_reducible apply fr_setTb | with_reducible apply fr_writeTimCtrl | with_reducible apply fr_writePpsOut | with_reducible apply fr_writePpsOfs | with_reducible apply fr_writeTblCtrl | with_reducible apply fr_writeSeed | with_reducible apply fr_writeTcamMode | with_reducible apply fr_writeTypeCfg | with_reducible apply fr_writeLearnCfg | with_reducible apply fr_writeShadowCfg | with_reducible apply fr_writeArCfg | with_reducible apply fr_writeShadowLen | with_reducible apply fr_writeRingCfg | with_reducible apply fr_writeRingBase | with_reducible apply fr_summaryGo | with_reducible apply fr_restartChan | with_reducible apply fr_writeMemCtrl | with_reducible apply fr_modPool | with_reducible apply fr_writePwrLimit | with_reducible apply fr_writePwrCtrl | with_reducible apply fr_writePwrVr | with_reducible apply fr_writePwrPolicy | with_reducible apply fr_writePwrTherm | with_reducible apply fr_writePwrDroop | with_reducible apply fr_modEng | with_reducible apply fr_writeTb | with_reducible apply fr_writeClassCfg | with_reducible apply fr_writeHostBoot | with_reducible apply fr_writeColCfg | with_reducible apply fr_poolCtrlWrite | with_reducible apply fr_writePoolCfg | with_reducible apply fr_clearPeak | with_reducible apply fr_writeParseCfg | with_reducible apply fr_writeGroupCfg | with_reducible apply fr_writeGroupBase | with_reducible apply fr_writeGauzeCfg | with_reducible apply fr_writeTelCtrl | with_reducible apply fr_writeGauzeBase | with_reducible apply fr_writeBufCtrl | with_reducible apply fr_writeColCtrl | with_reducible apply fr_writeSysDrain | with_reducible apply fr_writeMsix | with_reducible apply fr_wrRw); (on_goal 1 => exact rfl))
        | exact rfl
        | intro v_
        | split
        | with_reducible assumption
        | with_reducible exact Fr.refl _ _
        | with_reducible refine Fr.upd ‹_› ?_ ?_ ?_ ?_ ?_ ?_ ?_ ?_ ?_ ?_ ?_ ?_ ?_ ?_ ?_ ?_ ?_ ?_ ?_ ?_ ?_ ?_ ?_ ?_ ?_ ?_ ?_ ?_ ?_
        | with_reducible refine Fr.upd (Fr.refl _ _) ?_ ?_ ?_ ?_ ?_ ?_ ?_ ?_ ?_ ?_ ?_ ?_ ?_ ?_ ?_ ?_ ?_ ?_ ?_ ?_ ?_ ?_ ?_ ?_ ?_ ?_ ?_ ?_ ?_)

theorem fr_windowRegs {a : Nat} {r : BarReg} (h : r ∈ windowRegs a) : RegFr r := by
  unfold windowRegs at h
  iterate 11
    split at h
    · first
      | exact fr_sysRegs _ h
      | exact fr_hifRegs _ h
      | exact fr_lanRegs _ h
      | exact fr_macRegs _ h
      | exact fr_sltRegs _ h
      | exact fr_pipeRegs _ h
      | exact fr_tblRegs _ h
      | exact fr_bufRegs _ h
      | exact fr_colRegs _ h
      | exact fr_memRegs _ h
      | exact fr_fltRegs _ h
  cases h

theorem fr_findReg {a n w : Nat} {r : BarReg} (h : findReg a = some (r, n, w)) : RegFr r := by
  obtain ⟨r', hr, he⟩ := List.exists_of_findSome?_eq_some h
  obtain ⟨x, _, hx⟩ := Option.map_eq_some_iff.mp he
  cases hx
  exact fr_windowRegs hr

theorem fr_barWrite (a : Nat) (v : Word) (s : State) : Fr 67108846 s (barWrite a v s) := by
  unfold barWrite
  split
  · exact Fr.refl _ _
  · rename_i r n w e
    have hr := (fr_findReg e).1
    refine Fr.ite (hr _ _ _) (Fr.ite (Fr.ite ?_ (Fr.refl _ _)) (Fr.trans ?_ (hr _ _ _)))
    all_goals refine Fr.upd (Fr.refl _ _) ?_ ?_ ?_ ?_ ?_ ?_ ?_ ?_ ?_ ?_ ?_ ?_ ?_ ?_ ?_ ?_ ?_ ?_ ?_ ?_ ?_ ?_ ?_ ?_ ?_ ?_ ?_ ?_ ?_ <;> first | exact .inl rfl | exact .inr rfl

theorem fr_barRead (a : Nat) (s : State) : Fr 67108846 s (barRead a s).2 := by
  unfold barRead
  split
  · exact Fr.refl _ _
  · rename_i r n w e
    refine Fr.ite2 (((fr_findReg e).2 _ _).mono rfl) (Fr.ite2 ?_ ?_)
    · refine Fr.upd (Fr.refl _ _) ?_ ?_ ?_ ?_ ?_ ?_ ?_ ?_ ?_ ?_ ?_ ?_ ?_ ?_ ?_ ?_ ?_ ?_ ?_ ?_ ?_ ?_ ?_ ?_ ?_ ?_ ?_ ?_ ?_ <;> first | exact .inl rfl | exact .inr rfl
    · split
      · refine Fr.upd (Fr.refl _ _) ?_ ?_ ?_ ?_ ?_ ?_ ?_ ?_ ?_ ?_ ?_ ?_ ?_ ?_ ?_ ?_ ?_ ?_ ?_ ?_ ?_ ?_ ?_ ?_ ?_ ?_ ?_ ?_ ?_ <;> first | exact .inl rfl | exact .inr rfl
      · exact Fr.refl _ _

theorem fr_readAt (addr : Nat) (s : State) : Fr 67108846 s (readAt addr s) := by
  unfold readAt
  repeat' (first
    | exact Or.inl rfl
    | exact Or.inr rfl
    | lift_lets
    | (intro u_; refine Fr.cut (M := 67108846) (s := s) (t := u_) ?_ fun hu_ => ?_; (on_goal 2 => clear_value u_); (on_goal 1 => subst u_))
    | intro v_
    | with_reducible refine Fr.ite ?_ ?_
    | ((with_reducible apply Fr.step); (on_goal 1 => first | with_reducible apply fr_emit | with_reducible apply fr_barRead | with_reducible exact Fr.of_eq (by assumption) (fr_barRead _ _)); (on_goal 1 => exact rfl))
    | split
    | with_reducible assumption
    | with_reducible exact Fr.refl _ _)

theorem fr_writeAt (addr size : Nat) (v : Word) (s : State) : Fr 67108846 s (writeAt addr size v s) := by
  unfold writeAt
  repeat' (first
    | exact Or.inl rfl
    | exact Or.inr rfl
    | with_reducible refine Fr.ite ?_ ?_
    | ((with_reducible apply Fr.step); (on_goal 1 => first | with_reducible apply fr_ringDoorbell | with_reducible apply fr_barWrite); (on_goal 1 => exact rfl))
    | split
    | with_reducible assumption
    | with_reducible exact Fr.refl _ _)

theorem fr_execRegisterWrite (addr size : Nat) (value : Word) (s : State) : FrR 67108846 s (execRegisterWrite addr size value s) := by
  unfold execRegisterWrite
  repeat' (first
    | exact Or.inl rfl
    | exact Or.inr rfl
    | with_reducible refine FrR.within ?_
    | with_reducible refine FrR.next ?_
    | with_reducible exact FrR.fault
    | with_reducible refine Fr.ite ?_ ?_
    | ((with_reducible apply Fr.step); (on_goal 1 => first | with_reducible apply fr_writeAt); (on_goal 1 => exact rfl))
    | split
    | (clear_value *; split)
    | with_reducible assumption
    | with_reducible exact Fr.refl _ _
    | with_reducible refine Fr.upd ‹_› ?_ ?_ ?_ ?_ ?_ ?_ ?_ ?_ ?_ ?_ ?_ ?_ ?_ ?_ ?_ ?_ ?_ ?_ ?_ ?_ ?_ ?_ ?_ ?_ ?_ ?_ ?_ ?_ ?_
    | with_reducible refine Fr.upd (Fr.refl _ _) ?_ ?_ ?_ ?_ ?_ ?_ ?_ ?_ ?_ ?_ ?_ ?_ ?_ ?_ ?_ ?_ ?_ ?_ ?_ ?_ ?_ ?_ ?_ ?_ ?_ ?_ ?_ ?_ ?_)

theorem fr_execRegisterReadClear (addr : Nat) (s : State) : FrR 67108846 s (execRegisterReadClear addr s) := by
  unfold execRegisterReadClear
  repeat' (first
    | exact Or.inl rfl
    | exact Or.inr rfl
    | with_reducible refine FrR.within ?_
    | with_reducible refine FrR.next ?_
    | with_reducible exact FrR.fault
    | with_reducible refine Fr.ite ?_ ?_
    | ((with_reducible apply Fr.step); (on_goal 1 => first | with_reducible apply fr_readAt); (on_goal 1 => exact rfl))
    | split
    | (clear_value *; split)
    | with_reducible assumption
    | with_reducible exact Fr.refl _ _
    | with_reducible refine Fr.upd ‹_› ?_ ?_ ?_ ?_ ?_ ?_ ?_ ?_ ?_ ?_ ?_ ?_ ?_ ?_ ?_ ?_ ?_ ?_ ?_ ?_ ?_ ?_ ?_ ?_ ?_ ?_ ?_ ?_ ?_
    | with_reducible refine Fr.upd (Fr.refl _ _) ?_ ?_ ?_ ?_ ?_ ?_ ?_ ?_ ?_ ?_ ?_ ?_ ?_ ?_ ?_ ?_ ?_ ?_ ?_ ?_ ?_ ?_ ?_ ?_ ?_ ?_ ?_ ?_ ?_)

theorem fr_execLowWordRead (addr : Nat) (s : State) : FrR 67108846 s (execLowWordRead addr s) := by
  unfold execLowWordRead
  repeat' (first
    | exact Or.inl rfl
    | exact Or.inr rfl
    | with_reducible refine FrR.within ?_
    | with_reducible refine FrR.next ?_
    | with_reducible exact FrR.fault
    | with_reducible refine Fr.ite ?_ ?_
    | ((with_reducible apply Fr.step); (on_goal 1 => first | with_reducible apply fr_readAt); (on_goal 1 => exact rfl))
    | split
    | (clear_value *; split)
    | with_reducible assumption
    | with_reducible exact Fr.refl _ _
    | with_reducible refine Fr.upd ‹_› ?_ ?_ ?_ ?_ ?_ ?_ ?_ ?_ ?_ ?_ ?_ ?_ ?_ ?_ ?_ ?_ ?_ ?_ ?_ ?_ ?_ ?_ ?_ ?_ ?_ ?_ ?_ ?_ ?_
    | with_reducible refine Fr.upd (Fr.refl _ _) ?_ ?_ ?_ ?_ ?_ ?_ ?_ ?_ ?_ ?_ ?_ ?_ ?_ ?_ ?_ ?_ ?_ ?_ ?_ ?_ ?_ ?_ ?_ ?_ ?_ ?_ ?_ ?_ ?_)

end Sys2Proof.Machine
end

