-- ==== Sys2Proof/Laws/Exec.lean ====
section
/-! SUPPORT. What a step of each command can change, of the parts that few commands change: the mode, the fence state of the units,
the fuses, the Burlap memory and the first record. Every other command leaves them, and no command changes the queue. -/
namespace Sys2Proof.Machine

theorem exec_pending {c : Instr} {s t : State} (h : exec c s = .next t) : t.pending = s.pending := by
  cases c
  case registerWrite => exact ((fr_execRegisterWrite _ _ _ s).out t h).pending.resolve_left (by decide)
  case registerReadClear => exact ((fr_execRegisterReadClear _ s).out t h).pending.resolve_left (by decide)
  case lowWordRead => exact ((fr_execLowWordRead _ s).out t h).pending.resolve_left (by decide)
  case ringEnable => exact ((fr_execRingEnable _ _ s).out t h).pending.resolve_left (by decide)
  case ringDisable => exact ((fr_execRingDisable _ _ s).out t h).pending.resolve_left (by decide)
  case doorbell => exact ((fr_execDoorbell _ _ s).out t h).pending.resolve_left (by decide)
  case arm => exact ((fr_execArm _ _ s).out t h).pending.resolve_left (by decide)
  case restart => exact ((fr_execRestart _ s).out t h).pending.resolve_left (by decide)
  case summaryGo => exact ((fr_execSummaryGo s).out t h).pending.resolve_left (by decide)
  case commandFetch => exact ((fr_execCommandFetch _ s).out t h).pending.resolve_left (by decide)
  case descriptorFetchError => exact ((fr_execDescriptorFetchError _ s).out t h).pending.resolve_left (by decide)
  case nop => exact ((fr_execNop _ s).out t h).pending.resolve_left (by decide)
  case summary => exact ((fr_execSummary _ s).out t h).pending.resolve_left (by decide)
  case summaryQueueStart => exact ((fr_execSummaryQueueStart s).out t h).pending.resolve_left (by decide)
  case ringQuiesce => exact ((fr_execRingQuiesce _ s).out t h).pending.resolve_left (by decide)
  case ringResume => exact ((fr_execRingResume _ s).out t h).pending.resolve_left (by decide)
  case channelRestart => exact ((fr_execChannelRestart _ s).out t h).pending.resolve_left (by decide)
  case channelShare => exact ((fr_execChannelShare _ s).out t h).pending.resolve_left (by decide)
  case eventTest => exact ((fr_execEventTest _ s).out t h).pending.resolve_left (by decide)
  case eventWrite => exact ((fr_execEventWrite _ s).out t h).pending.resolve_left (by decide)
  case burstStart => exact ((fr_execBurstStart _ _ s).out t h).pending.resolve_left (by decide)
  case descriptorComplete => exact ((fr_execDescriptorComplete _ s).out t h).pending.resolve_left (by decide)
  case flushReadReturn => exact ((fr_execFlushReadReturn _ _ _ _ s).out t h).pending.resolve_left (by decide)
  case lateError => exact ((fr_execLateError _ _ _ s).out t h).pending.resolve_left (by decide)
  case powerDeferLimit => exact ((fr_execPowerDeferLimit _ s).out t h).pending.resolve_left (by decide)
  case injectDescriptorFetch => exact ((fr_execInjectDescriptorFetch _ _ s).out t h).pending.resolve_left (by decide)
  case injectBufferReadDone => exact ((fr_execInjectBufferReadDone _ _ s).out t h).pending.resolve_left (by decide)
  case hostReadError => exact ((fr_execHostReadError _ _ _ s).out t h).pending.resolve_left (by decide)
  case puntBufferWrite => exact ((fr_execPuntBufferWrite _ _ s).out t h).pending.resolve_left (by decide)
  case hostLinkChange => exact ((fr_execHostLinkChange _ _ _ s).out t h).pending.resolve_left (by decide)
  case hostLinkDown => exact ((fr_execHostLinkDown s).out t h).pending.resolve_left (by decide)
  case perstNAssert => exact ((fr_execPerstNAssert s).out t h).pending.resolve_left (by decide)
  case perstNRelease => exact ((fr_execPerstNRelease s).out t h).pending.resolve_left (by decide)
  case macroEnable => exact ((fr_execMacroEnable _ _ s).out t h).pending.resolve_left (by decide)
  case macroDisable => exact ((fr_execMacroDisable _ _ s).out t h).pending.resolve_left (by decide)
  case macroRateChange => exact ((fr_execMacroRateChange _ _ s).out t h).pending.resolve_left (by decide)
  case txDisable => exact ((fr_execTxDisable _ _ s).out t h).pending.resolve_left (by decide)
  case pllLock => exact ((fr_execPllLock _ s).out t h).pending.resolve_left (by decide)
  case calibrationDone => exact ((fr_execCalibrationDone _ _ _ s).out t h).pending.resolve_left (by decide)
  case negotiationComplete => exact ((fr_execNegotiationComplete _ _ s).out t h).pending.resolve_left (by decide)
  case anTimeout => exact ((fr_execAnTimeout _ s).out t h).pending.resolve_left (by decide)
  case trainRetry => exact ((fr_execTrainRetry _ s).out t h).pending.resolve_left (by decide)
  case tapRequest => exact ((fr_execTapRequest _ _ _ s).out t h).pending.resolve_left (by decide)
  case receiversReady => exact ((fr_execReceiversReady _ _ s).out t h).pending.resolve_left (by decide)
  case trainTimeout => exact ((fr_execTrainTimeout _ _ s).out t h).pending.resolve_left (by decide)
  case adaptationConverged => exact ((fr_execAdaptationConverged _ _ s).out t h).pending.resolve_left (by decide)
  case adaptTimeout => exact ((fr_execAdaptTimeout _ s).out t h).pending.resolve_left (by decide)
  case laneLoss => exact ((fr_execLaneLoss _ _ s).out t h).pending.resolve_left (by decide)
  case wakeDeclared => exact ((fr_execWakeDeclared _ s).out t h).pending.resolve_left (by decide)
  case wakeSnrOk => exact ((fr_execWakeSnrOk _ _ s).out t h).pending.resolve_left (by decide)
  case wakeTimeout => exact ((fr_execWakeTimeout _ _ s).out t h).pending.resolve_left (by decide)
  case backgroundCtleStep => exact ((fr_execBackgroundCtleStep _ _ _ s).out t h).pending.resolve_left (by decide)
  case laneRetrain => exact ((fr_execLaneRetrain _ s).out t h).pending.resolve_left (by decide)
  case laneTest => exact ((fr_execLaneTest _ s).out t h).pending.resolve_left (by decide)
  case laneEye => exact ((fr_execLaneEye _ s).out t h).pending.resolve_left (by decide)
  case laneEyeDone => exact ((fr_execLaneEyeDone _ _ s).out t h).pending.resolve_left (by decide)
  case laneRead => exact ((fr_execLaneRead _ s).out t h).pending.resolve_left (by decide)
  case layoutChange => exact ((fr_execLayoutChange _ _ s).out t h).pending.resolve_left (by decide)
  case portAdmin => exact ((fr_execPortAdmin _ s).out t h).pending.resolve_left (by decide)
  case portGateList => exact ((fr_execPortGateList _ _ s).out t h).pending.resolve_left (by decide)
  case portRead => exact ((fr_execPortRead _ s).out t h).pending.resolve_left (by decide)
  case portWdRestore => exact ((fr_execPortWdRestore _ s).out t h).pending.resolve_left (by decide)
  case blockLock => exact ((fr_execBlockLock _ _ s).out t h).pending.resolve_left (by decide)
  case lockLoss => exact ((fr_execLockLoss _ _ s).out t h).pending.resolve_left (by decide)
  case hiBer => exact ((fr_execHiBer _ _ s).out t h).pending.resolve_left (by decide)
  case upDebounce => exact ((fr_execUpDebounce _ s).out t h).pending.resolve_left (by decide)
  case remoteFault => exact ((fr_execRemoteFault _ _ s).out t h).pending.resolve_left (by decide)
  case fecWindow => exact ((fr_execFecWindow _ _ s).out t h).pending.resolve_left (by decide)
  case frameReceive => exact ((fr_execFrameReceive _ _ _ _ s).out t h).pending.resolve_left (by decide)
  case pfcFrameReceive => exact ((fr_execPfcFrameReceive _ _ _ _ s).out t h).pending.resolve_left (by decide)
  case pauseFrameReceive => exact ((fr_execPauseFrameReceive _ _ _ s).out t h).pending.resolve_left (by decide)
  case pauseTimerExpiry => exact ((fr_execPauseTimerExpiry _ _ s).out t h).pending.resolve_left (by decide)
  case pfcFrameSend => exact ((fr_execPfcFrameSend _ s).out t h).pending.resolve_left (by decide)
  case pfcRefresh => exact ((fr_execPfcRefresh _ _ s).out t h).pending.resolve_left (by decide)
  case pfcWatchdog => exact ((fr_execPfcWatchdog _ _ s).out t h).pending.resolve_left (by decide)
  case watchdogRestore => exact ((fr_execWatchdogRestore _ _ s).out t h).pending.resolve_left (by decide)
  case gateTransition => exact ((fr_execGateTransition _ s).out t h).pending.resolve_left (by decide)
  case gateListSwitch => exact ((fr_execGateListSwitch _ s).out t h).pending.resolve_left (by decide)
  case sleepEntry => exact ((fr_execSleepEntry _ s).out t h).pending.resolve_left (by decide)
  case wakePatternEnd => exact ((fr_execWakePatternEnd _ s).out t h).pending.resolve_left (by decide)
  case frameEnd => exact ((fr_execFrameEnd _ _ _ s).out t h).pending.resolve_left (by decide)
  case groupEnable => exact ((fr_execGroupEnable _ _ s).out t h).pending.resolve_left (by decide)
  case groupDisable => exact ((fr_execGroupDisable _ _ s).out t h).pending.resolve_left (by decide)
  case frameStartPattern => exact ((fr_execFrameStartPattern _ _ _ s).out t h).pending.resolve_left (by decide)
  case overheadPosition => exact ((fr_execOverheadPosition _ _ _ _ s).out t h).pending.resolve_left (by decide)
  case multiframeLock => exact ((fr_execMultiframeLock _ _ _ s).out t h).pending.resolve_left (by decide)
  case overheadFrame => exact ((fr_execOverheadFrame _ _ _ s).out t h).pending.resolve_left (by decide)
  case calendarSwitch => exact ((fr_execCalendarSwitch _ s).out t h).pending.resolve_left (by decide)
  case calSwitchTimeout => exact ((fr_execCalSwitchTimeout _ s).out t h).pending.resolve_left (by decide)
  case rxCalendarSwitch => exact ((fr_execRxCalendarSwitch _ s).out t h).pending.resolve_left (by decide)
  case pmSecond => exact ((fr_execPmSecond _ s).out t h).pending.resolve_left (by decide)
  case pmBinBoundary => exact ((fr_execPmBinBoundary _ s).out t h).pending.resolve_left (by decide)
  case slotGroupMembers => exact ((fr_execSlotGroupMembers _ _ s).out t h).pending.resolve_left (by decide)
  case slotClientSet => exact ((fr_execSlotClientSet _ s).out t h).pending.resolve_left (by decide)
  case slotCmWrite => exact ((fr_execSlotCmWrite _ _ s).out t h).pending.resolve_left (by decide)
  case slotCalSwitch => exact ((fr_execSlotCalSwitch _ s).out t h).pending.resolve_left (by decide)
  case slotPmRead => exact ((fr_execSlotPmRead _ s).out t h).pending.resolve_left (by decide)
  case slotGroupRead => exact ((fr_execSlotGroupRead _ s).out t h).pending.resolve_left (by decide)
  case parseThreadAssign => exact ((fr_execParseThreadAssign _ s).out t h).pending.resolve_left (by decide)
  case parseWord => exact ((fr_execParseWord _ s).out t h).pending.resolve_left (by decide)
  case ingressStages => exact ((fr_execIngressStages _ s).out t h).pending.resolve_left (by decide)
  case admission => exact ((fr_execAdmission _ s).out t h).pending.resolve_left (by decide)
  case remainingCells => exact ((fr_execRemainingCells _ _ s).out t h).pending.resolve_left (by decide)
  case replication => exact ((fr_execReplication _ _ s).out t h).pending.resolve_left (by decide)
  case dequeueDecision => exact ((fr_execDequeueDecision _ s).out t h).pending.resolve_left (by decide)
  case egressStages => exact ((fr_execEgressStages _ _ s).out t h).pending.resolve_left (by decide)
  case transmitEnd => exact ((fr_execTransmitEnd _ s).out t h).pending.resolve_left (by decide)
  case queueFlush => exact ((fr_execQueueFlush _ s).out t h).pending.resolve_left (by decide)
  case emInsert => exact ((fr_execEmInsert _ s).out t h).pending.resolve_left (by decide)
  case emDelete => exact ((fr_execEmDelete _ s).out t h).pending.resolve_left (by decide)
  case emLookup => exact ((fr_execEmLookup _ s).out t h).pending.resolve_left (by decide)
  case emRead => exact ((fr_execEmRead _ s).out t h).pending.resolve_left (by decide)
  case lpmAdd => exact ((fr_execLpmAdd _ s).out t h).pending.resolve_left (by decide)
  case lpmDelete => exact ((fr_execLpmDelete _ s).out t h).pending.resolve_left (by decide)
  case lpmLookup => exact ((fr_execLpmLookup _ s).out t h).pending.resolve_left (by decide)
  case tcamWrite => exact ((fr_execTcamWrite _ _ s).out t h).pending.resolve_left (by decide)
  case tcamRead => exact ((fr_execTcamRead _ s).out t h).pending.resolve_left (by decide)
  case ecmpGroupWrite => exact ((fr_execEcmpGroupWrite _ s).out t h).pending.resolve_left (by decide)
  case memberWrite => exact ((fr_execMemberWrite _ _ s).out t h).pending.resolve_left (by decide)
  case nexthopWrite => exact ((fr_execNexthopWrite _ _ s).out t h).pending.resolve_left (by decide)
  case ecmpRead => exact ((fr_execEcmpRead _ s).out t h).pending.resolve_left (by decide)
  case shadowCheck => exact ((fr_execShadowCheck _ _ s).out t h).pending.resolve_left (by decide)
  case tableStat => exact ((fr_execTableStat _ s).out t h).pending.resolve_left (by decide)
  case classifyWrite => exact ((fr_execClassifyWrite _ _ s).out t h).pending.resolve_left (by decide)
  case endpointWrite => exact ((fr_execEndpointWrite _ s).out t h).pending.resolve_left (by decide)
  case learnHoldoffExpiry => exact ((fr_execLearnHoldoffExpiry _ _ s).out t h).pending.resolve_left (by decide)
  case learnRateWindow => exact ((fr_execLearnRateWindow s).out t h).pending.resolve_left (by decide)
  case nextHopDown => exact ((fr_execNextHopDown _ s).out t h).pending.resolve_left (by decide)
  case nextHopUp => exact ((fr_execNextHopUp _ s).out t h).pending.resolve_left (by decide)
  case editWrite => exact ((fr_execEditWrite _ _ s).out t h).pending.resolve_left (by decide)
  case mcastWrite => exact ((fr_execMcastWrite _ _ s).out t h).pending.resolve_left (by decide)
  case mirrorWrite => exact ((fr_execMirrorWrite _ s).out t h).pending.resolve_left (by decide)
  case egressWrite => exact ((fr_execEgressWrite _ _ s).out t h).pending.resolve_left (by decide)
  case parseRead => exact ((fr_execParseRead _ s).out t h).pending.resolve_left (by decide)
  case spillAssemblyTimeout => exact ((fr_execSpillAssemblyTimeout _ s).out t h).pending.resolve_left (by decide)
  case readbackStart => exact ((fr_execReadbackStart _ s).out t h).pending.resolve_left (by decide)
  case blockReadDone => exact ((fr_execBlockReadDone _ _ s).out t h).pending.resolve_left (by decide)
  case bufProfileWrite => exact ((fr_execBufProfileWrite _ _ s).out t h).pending.resolve_left (by decide)
  case bufQueueMap => exact ((fr_execBufQueueMap _ _ s).out t h).pending.resolve_left (by decide)
  case bufPortWrite => exact ((fr_execBufPortWrite _ _ s).out t h).pending.resolve_left (by decide)
  case bufQueueRead => exact ((fr_execBufQueueRead _ s).out t h).pending.resolve_left (by decide)
  case shaperTick => exact ((fr_execShaperTick _ s).out t h).pending.resolve_left (by decide)
  case wheelSlotDue => exact ((fr_execWheelSlotDue _ s).out t h).pending.resolve_left (by decide)
  case overflowSlotDue => exact ((fr_execOverflowSlotDue _ s).out t h).pending.resolve_left (by decide)
  case depthSample => exact ((fr_execDepthSample s).out t h).pending.resolve_left (by decide)
  case sampleWindowClose => exact ((fr_execSampleWindowClose s).out t h).pending.resolve_left (by decide)
  case schPortWrite => exact ((fr_execSchPortWrite _ _ s).out t h).pending.resolve_left (by decide)
  case schShaperWrite => exact ((fr_execSchShaperWrite _ _ s).out t h).pending.resolve_left (by decide)
  case schMeterWrite => exact ((fr_execSchMeterWrite _ _ s).out t h).pending.resolve_left (by decide)
  case schSampleRead => exact ((fr_execSchSampleRead _ s).out t h).pending.resolve_left (by decide)
  case contrib => exact ((fr_execContrib _ s).out t h).pending.resolve_left (by decide)
  case result => exact ((fr_execResult _ s).out t h).pending.resolve_left (by decide)
  case resend => exact ((fr_execResend _ s).out t h).pending.resolve_left (by decide)
  case resultReq => exact ((fr_execResultReq _ s).out t h).pending.resolve_left (by decide)
  case wait => exact ((fr_execWait _ s).out t h).pending.resolve_left (by decide)
  case pace => exact ((fr_execPace _ s).out t h).pending.resolve_left (by decide)
  case paceSet => exact ((fr_execPaceSet _ s).out t h).pending.resolve_left (by decide)
  case straggler => exact ((fr_execStraggler _ s).out t h).pending.resolve_left (by decide)
  case abort => exact ((fr_execAbort _ s).out t h).pending.resolve_left (by decide)
  case slotTimerExpiry => exact ((fr_execSlotTimerExpiry _ _ s).out t h).pending.resolve_left (by decide)
  case emittedTimerExpiry => exact ((fr_execEmittedTimerExpiry _ _ s).out t h).pending.resolve_left (by decide)
  case epochBoundary => exact ((fr_execEpochBoundary _ s).out t h).pending.resolve_left (by decide)
  case slotRestore => exact ((fr_execSlotRestore _ _ s).out t h).pending.resolve_left (by decide)
  case clusterStepChangeDone => exact ((fr_execClusterStepChangeDone _ s).out t h).pending.resolve_left (by decide)
  case jobMoveDone => exact ((fr_execJobMoveDone _ s).out t h).pending.resolve_left (by decide)
  case colJobCreate => exact ((fr_execColJobCreate _ _ s).out t h).pending.resolve_left (by decide)
  case colJobDestroy => exact ((fr_execColJobDestroy _ s).out t h).pending.resolve_left (by decide)
  case colJobRead => exact ((fr_execColJobRead _ s).out t h).pending.resolve_left (by decide)
  case colJobMove => exact ((fr_execColJobMove _ s).out t h).pending.resolve_left (by decide)
  case colPacePropose => exact ((fr_execColPacePropose _ s).out t h).pending.resolve_left (by decide)
  case poolGrant => exact ((fr_execPoolGrant _ s).out t h).pending.resolve_left (by decide)
  case poolCtrlEnable => exact ((fr_execPoolCtrlEnable _ s).out t h).pending.resolve_left (by decide)
  case bufferTestDone => exact ((fr_execBufferTestDone _ _ s).out t h).pending.resolve_left (by decide)
  case poolAlloc => exact ((fr_execPoolAlloc _ s).out t h).pending.resolve_left (by decide)
  case poolFree => exact ((fr_execPoolFree _ s).out t h).pending.resolve_left (by decide)
  case poolTransfer => exact ((fr_execPoolTransfer _ s).out t h).pending.resolve_left (by decide)
  case poolState => exact ((fr_execPoolState _ s).out t h).pending.resolve_left (by decide)
  case poolOwnerFreeAll => exact ((fr_execPoolOwnerFreeAll _ s).out t h).pending.resolve_left (by decide)
  case poolCopy => exact ((fr_execPoolCopy _ _ s).out t h).pending.resolve_left (by decide)
  case seqWord => exact ((fr_execSeqWord _ s).out t h).pending.resolve_left (by decide)
  case waitEnd => exact ((fr_execWaitEnd _ _ s).out t h).pending.resolve_left (by decide)
  case waitTimeout => exact ((fr_execWaitTimeout _ _ s).out t h).pending.resolve_left (by decide)
  case routineTrigger => exact ((fr_execRoutineTrigger _ s).out t h).pending.resolve_left (by decide)
  case blockOpDone => exact ((fr_execBlockOpDone _ _ _ s).out t h).pending.resolve_left (by decide)
  case storeRepair => exact ((fr_execStoreRepair _ s).out t h).pending.resolve_left (by decide)
  case stopTimeout => exact ((fr_execStopTimeout _ s).out t h).pending.resolve_left (by decide)
  case noIssueTimeout => exact ((fr_execNoIssueTimeout _ s).out t h).pending.resolve_left (by decide)
  case seqLoad => exact ((fr_execSeqLoad _ _ s).out t h).pending.resolve_left (by decide)
  case seqRoutineSet => exact ((fr_execSeqRoutineSet _ s).out t h).pending.resolve_left (by decide)
  case seqRun => exact ((fr_execSeqRun _ s).out t h).pending.resolve_left (by decide)
  case seqStop => exact ((fr_execSeqStop _ s).out t h).pending.resolve_left (by decide)
  case seqFrameRead => exact ((fr_execSeqFrameRead _ s).out t h).pending.resolve_left (by decide)
  case seqResume => exact ((fr_execSeqResume _ s).out t h).pending.resolve_left (by decide)
  case seqStoreRead => exact ((fr_execSeqStoreRead _ s).out t h).pending.resolve_left (by decide)
  case periodicRetrain => exact ((fr_execPeriodicRetrain _ s).out t h).pending.resolve_left (by decide)
  case retrainRetry => exact ((fr_execRetrainRetry _ s).out t h).pending.resolve_left (by decide)
  case refresh => exact ((fr_execRefresh _ _ _ s).out t h).pending.resolve_left (by decide)
  case selfRefreshEntry => exact ((fr_execSelfRefreshEntry _ s).out t h).pending.resolve_left (by decide)
  case scrubRead => exact ((fr_execScrubRead _ _ _ s).out t h).pending.resolve_left (by decide)
  case halfReady => exact ((fr_execHalfReady _ s).out t h).pending.resolve_left (by decide)
  case tbEnable => exact ((fr_execTbEnable _ _ s).out t h).pending.resolve_left (by decide)
  case tbDisable => exact ((fr_execTbDisable _ _ s).out t h).pending.resolve_left (by decide)
  case slewDisable => exact ((fr_execSlewDisable _ _ s).out t h).pending.resolve_left (by decide)
  case slewComplete => exact ((fr_execSlewComplete _ s).out t h).pending.resolve_left (by decide)
  case clk10Loss => exact ((fr_execClk10Loss _ s).out t h).pending.resolve_left (by decide)
  case holdoverExit => exact ((fr_execHoldoverExit _ s).out t h).pending.resolve_left (by decide)
  case secondBoundary => exact ((fr_execSecondBoundary _ s).out t h).pending.resolve_left (by decide)
  case ppsInEdge => exact ((fr_execPpsInEdge _ s).out t h).pending.resolve_left (by decide)
  case ppsInMissing => exact ((fr_execPpsInMissing s).out t h).pending.resolve_left (by decide)
  case tsEventEdge => exact ((fr_execTsEventEdge _ _ s).out t h).pending.resolve_left (by decide)
  case todMessage => exact ((fr_execTodMessage _ s).out t h).pending.resolve_left (by decide)
  case timeRead => exact ((fr_execTimeRead _ s).out t h).pending.resolve_left (by decide)
  case timeSet => exact ((fr_execTimeSet _ s).out t h).pending.resolve_left (by decide)
  case timeAdjust => exact ((fr_execTimeAdjust _ s).out t h).pending.resolve_left (by decide)
  case timeTrim => exact ((fr_execTimeTrim _ s).out t h).pending.resolve_left (by decide)
  case pairSwitch => exact ((fr_execPairSwitch _ s).out t h).pending.resolve_left (by decide)
  case snapshotInstant => exact ((fr_execSnapshotInstant _ s).out t h).pending.resolve_left (by decide)
  case dumpComplete => exact ((fr_execDumpComplete _ _ s).out t h).pending.resolve_left (by decide)
  case gauzeRecordWrite => exact ((fr_execGauzeRecordWrite s).out t h).pending.resolve_left (by decide)
  case gauzeEnable => exact ((fr_execGauzeEnable _ s).out t h).pending.resolve_left (by decide)
  case ctrSetWrite => exact ((fr_execCtrSetWrite _ s).out t h).pending.resolve_left (by decide)
  case ctrRead => exact ((fr_execCtrRead _ s).out t h).pending.resolve_left (by decide)
  case ctrClear => exact ((fr_execCtrClear _ s).out t h).pending.resolve_left (by decide)
  case ctrDumpNow => exact ((fr_execCtrDumpNow _ s).out t h).pending.resolve_left (by decide)
  case gauzeRelease => exact ((fr_execGauzeRelease _ s).out t h).pending.resolve_left (by decide)
  case ioamSink => exact ((fr_execIoamSink _ _ s).out t h).pending.resolve_left (by decide)
  case powerSample => exact ((fr_execPowerSample _ s).out t h).pending.resolve_left (by decide)
  case pmbusRead => exact ((fr_execPmbusRead _ s).out t h).pending.resolve_left (by decide)
  case throttleRaise => exact ((fr_execThrottleRaise s).out t h).pending.resolve_left (by decide)
  case railReached => exact ((fr_execRailReached _ _ s).out t h).pending.resolve_left (by decide)
  case droopTrip => exact ((fr_execDroopTrip _ _ s).out t h).pending.resolve_left (by decide)
  case droopReturn => exact ((fr_execDroopReturn _ s).out t h).pending.resolve_left (by decide)
  case droopRecalibration => exact ((fr_execDroopRecalibration _ s).out t h).pending.resolve_left (by decide)
  case vrAlert => exact ((fr_execVrAlert _ _ s).out t h).pending.resolve_left (by decide)
  case vrAlertClear => exact ((fr_execVrAlertClear s).out t h).pending.resolve_left (by decide)
  case sensorRead => exact ((fr_execSensorRead _ s).out t h).pending.resolve_left (by decide)
  case thermalRecovery => exact ((fr_execThermalRecovery _ s).out t h).pending.resolve_left (by decide)
  case thermalTrip => exact ((fr_execThermalTrip _ s).out t h).pending.resolve_left (by decide)
  case domainPowerDownDone => exact ((fr_execDomainPowerDownDone _ s).out t h).pending.resolve_left (by decide)
  case pwrDomain => exact ((fr_execPwrDomain _ s).out t h).pending.resolve_left (by decide)
  case pwrLimitSet => exact ((fr_execPwrLimitSet _ s).out t h).pending.resolve_left (by decide)
  case pwrRead => exact ((fr_execPwrRead _ s).out t h).pending.resolve_left (by decide)
  case pwrPmbus => exact ((fr_execPwrPmbus _ _ s).out t h).pending.resolve_left (by decide)
  case recordFormation => exact ((fr_execRecordFormation _ s).out t h).pending.resolve_left (by decide)
  case conditionClear => exact ((fr_execConditionClear _ _ _ s).out t h).pending.resolve_left (by decide)
  case fenceComplete => exact ((fr_execFenceComplete _ _ s).out t h).pending.resolve_left (by decide)
  case testEnd => exact ((fr_execTestEnd _ _ _ s).out t h).pending.resolve_left (by decide)
  case aliveToggle => exact ((fr_execAliveToggle s).out t h).pending.resolve_left (by decide)
  case clockMonitorWindow => exact ((fr_execClockMonitorWindow _ _ s).out t h).pending.resolve_left (by decide)
  case resetReq => exact ((fr_execResetReq _ _ s).out t h).pending.resolve_left (by decide)
  case faultAck => exact ((fr_execFaultAck _ s).out t h).pending.resolve_left (by decide)
  case faultRead => exact ((fr_execFaultRead _ s).out t h).pending.resolve_left (by decide)
  case faultClassSet => exact ((fr_execFaultClassSet _ s).out t h).pending.resolve_left (by decide)
  case unitFence => exact ((fr_execUnitFence _ s).out t h).pending.resolve_left (by decide)
  case unitTest => exact ((fr_execUnitTest _ s).out t h).pending.resolve_left (by decide)
  case unitReturn => exact ((fr_execUnitReturn _ s).out t h).pending.resolve_left (by decide)
  case firstClear => exact ((fr_execFirstClear _ s).out t h).pending.resolve_left (by decide)
  case diagTest => exact ((fr_execDiagTest _ _ s).out t h).pending.resolve_left (by decide)
  case vddAonGood => exact ((fr_execVddAonGood _ s).out t h).pending.resolve_left (by decide)
  case vddAonLost => exact ((fr_execVddAonLost s).out t h).pending.resolve_left (by decide)
  case railResetLevel => exact ((fr_execRailResetLevel _ s).out t h).pending.resolve_left (by decide)
  case resetNAssert => exact ((fr_execResetNAssert s).out t h).pending.resolve_left (by decide)
  case resetNRelease => exact ((fr_execResetNRelease _ _ s).out t h).pending.resolve_left (by decide)
  case wipeComplete => exact ((fr_execWipeComplete _ s).out t h).pending.resolve_left (by decide)
  case bootImageAccepted => exact ((fr_execBootImageAccepted _ _ s).out t h).pending.resolve_left (by decide)
  case hostBootGo => exact ((fr_execHostBootGo _ s).out t h).pending.resolve_left (by decide)
  case hostImageChecked => exact ((fr_execHostImageChecked _ s).out t h).pending.resolve_left (by decide)
  case drainEnd => exact ((fr_execDrainEnd s).out t h).pending.resolve_left (by decide)
  case drainLimit => exact ((fr_execDrainLimit s).out t h).pending.resolve_left (by decide)
  case nonceExpiry => exact ((fr_execNonceExpiry s).out t h).pending.resolve_left (by decide)
  case modeSet => exact ((fr_execModeSet _ s).out t h).pending.resolve_left (by decide)
  case sysReset => exact ((fr_execSysReset _ s).out t h).pending.resolve_left (by decide)
  case lcAdvance => exact ((fr_execLcAdvance _ _ s).out t h).pending.resolve_left (by decide)
  case rollbackAdvance => exact ((fr_execRollbackAdvance _ s).out t h).pending.resolve_left (by decide)
  case debugChallenge => exact ((fr_execDebugChallenge _ s).out t h).pending.resolve_left (by decide)
  case debugUnlock => exact ((fr_execDebugUnlock _ _ s).out t h).pending.resolve_left (by decide)
  case flashWrite => exact ((fr_execFlashWrite _ _ _ s).out t h).pending.resolve_left (by decide)
  case keyRevoke => exact ((fr_execKeyRevoke _ s).out t h).pending.resolve_left (by decide)
  case tapInstruction => exact ((fr_execTapInstruction _ _ s).out t h).pending.resolve_left (by decide)
  case signalDetect => exact ((fr_execSignalDetect _ s).out t h).pending.resolve_left (by decide)
  case channelTrainingDone => exact ((fr_execChannelTrainingDone _ _ s).out t h).pending.resolve_left (by decide)
  case noAcceptableImage => exact ((fr_execNoAcceptableImage s).out t h).pending.resolve_left (by decide)
  case laneGroupClockLock => exact ((fr_execLaneGroupClockLock _ _ s).out t h).pending.resolve_left (by decide)

/-- The commands that can change the mode. -/
def modeRow : Instr → Bool
  | .thermalTrip _ => true
  | .recordFormation _ => true
  | .fenceComplete _ _ => true
  | .resetReq _ _ => true
  | .unitFence _ => true
  | .unitReturn _ => true
  | .vddAonGood _ => true
  | .vddAonLost => true
  | .railResetLevel _ => true
  | .resetNAssert => true
  | .resetNRelease _ _ => true
  | .wipeComplete _ => true
  | .bootImageAccepted _ _ => true
  | .hostImageChecked _ => true
  | .drainEnd => true
  | .drainLimit => true
  | .modeSet _ => true
  | .sysReset _ => true
  | .lcAdvance _ _ => true
  | .debugUnlock _ _ => true
  | _ => false

theorem exec_mode {c : Instr} {s t : State} (h : exec c s = .next t) (hc : modeRow c = false) :
    t.sys.mode = s.sys.mode := by
  cases c
  case registerWrite => exact ((fr_execRegisterWrite _ _ _ s).out t h).mode.resolve_left (by decide)
  case registerReadClear => exact ((fr_execRegisterReadClear _ s).out t h).mode.resolve_left (by decide)
  case lowWordRead => exact ((fr_execLowWordRead _ s).out t h).mode.resolve_left (by decide)
  case ringEnable => exact ((fr_execRingEnable _ _ s).out t h).mode.resolve_left (by decide)
  case ringDisable => exact ((fr_execRingDisable _ _ s).out t h).mode.resolve_left (by decide)
  case doorbell => exact ((fr_execDoorbell _ _ s).out t h).mode.resolve_left (by decide)
  case arm => exact ((fr_execArm _ _ s).out t h).mode.resolve_left (by decide)
  case restart => exact ((fr_execRestart _ s).out t h).mode.resolve_left (by decide)
  case summaryGo => exact ((fr_execSummaryGo s).out t h).mode.resolve_left (by decide)
  case commandFetch => exact ((fr_execCommandFetch _ s).out t h).mode.resolve_left (by decide)
  case descriptorFetchError => exact ((fr_execDescriptorFetchError _ s).out t h).mode.resolve_left (by decide)
  case nop => exact ((fr_execNop _ s).out t h).mode.resolve_left (by decide)
  case summary => exact ((fr_execSummary _ s).out t h).mode.resolve_left (by decide)
  case summaryQueueStart => exact ((fr_execSummaryQueueStart s).out t h).mode.resolve_left (by decide)
  case ringQuiesce => exact ((fr_execRingQuiesce _ s).out t h).mode.resolve_left (by decide)
  case ringResume => exact ((fr_execRingResume _ s).out t h).mode.resolve_left (by decide)
  case channelRestart => exact ((fr_execChannelRestart _ s).out t h).mode.resolve_left (by decide)
  case channelShare => exact ((fr_execChannelShare _ s).out t h).mode.resolve_left (by decide)
  case eventTest => exact ((fr_execEventTest _ s).out t h).mode.resolve_left (by decide)
  case eventWrite => exact ((fr_execEventWrite _ s).out t h).mode.resolve_left (by decide)
  case burstStart => exact ((fr_execBurstStart _ _ s).out t h).mode.resolve_left (by decide)
  case descriptorComplete => exact ((fr_execDescriptorComplete _ s).out t h).mode.resolve_left (by decide)
  case flushReadReturn => exact ((fr_execFlushReadReturn _ _ _ _ s).out t h).mode.resolve_left (by decide)
  case lateError => exact ((fr_execLateError _ _ _ s).out t h).mode.resolve_left (by decide)
  case powerDeferLimit => exact ((fr_execPowerDeferLimit _ s).out t h).mode.resolve_left (by decide)
  case injectDescriptorFetch => exact ((fr_execInjectDescriptorFetch _ _ s).out t h).mode.resolve_left (by decide)
  case injectBufferReadDone => exact ((fr_execInjectBufferReadDone _ _ s).out t h).mode.resolve_left (by decide)
  case hostReadError => exact ((fr_execHostReadError _ _ _ s).out t h).mode.resolve_left (by decide)
  case puntBufferWrite => exact ((fr_execPuntBufferWrite _ _ s).out t h).mode.resolve_left (by decide)
  case hostLinkChange => exact ((fr_execHostLinkChange _ _ _ s).out t h).mode.resolve_left (by decide)
  case hostLinkDown => exact ((fr_execHostLinkDown s).out t h).mode.resolve_left (by decide)
  case perstNAssert => exact ((fr_execPerstNAssert s).out t h).mode.resolve_left (by decide)
  case perstNRelease => exact ((fr_execPerstNRelease s).out t h).mode.resolve_left (by decide)
  case macroEnable => exact ((fr_execMacroEnable _ _ s).out t h).mode.resolve_left (by decide)
  case macroDisable => exact ((fr_execMacroDisable _ _ s).out t h).mode.resolve_left (by decide)
  case macroRateChange => exact ((fr_execMacroRateChange _ _ s).out t h).mode.resolve_left (by decide)
  case txDisable => exact ((fr_execTxDisable _ _ s).out t h).mode.resolve_left (by decide)
  case pllLock => exact ((fr_execPllLock _ s).out t h).mode.resolve_left (by decide)
  case calibrationDone => exact ((fr_execCalibrationDone _ _ _ s).out t h).mode.resolve_left (by decide)
  case negotiationComplete => exact ((fr_execNegotiationComplete _ _ s).out t h).mode.resolve_left (by decide)
  case anTimeout => exact ((fr_execAnTimeout _ s).out t h).mode.resolve_left (by decide)
  case trainRetry => exact ((fr_execTrainRetry _ s).out t h).mode.resolve_left (by decide)
  case tapRequest => exact ((fr_execTapRequest _ _ _ s).out t h).mode.resolve_left (by decide)
  case receiversReady => exact ((fr_execReceiversReady _ _ s).out t h).mode.resolve_left (by decide)
  case trainTimeout => exact ((fr_execTrainTimeout _ _ s).out t h).mode.resolve_left (by decide)
  case adaptationConverged => exact ((fr_execAdaptationConverged _ _ s).out t h).mode.resolve_left (by decide)
  case adaptTimeout => exact ((fr_execAdaptTimeout _ s).out t h).mode.resolve_left (by decide)
  case laneLoss => exact ((fr_execLaneLoss _ _ s).out t h).mode.resolve_left (by decide)
  case wakeDeclared => exact ((fr_execWakeDeclared _ s).out t h).mode.resolve_left (by decide)
  case wakeSnrOk => exact ((fr_execWakeSnrOk _ _ s).out t h).mode.resolve_left (by decide)
  case wakeTimeout => exact ((fr_execWakeTimeout _ _ s).out t h).mode.resolve_left (by decide)
  case backgroundCtleStep => exact ((fr_execBackgroundCtleStep _ _ _ s).out t h).mode.resolve_left (by decide)
  case laneRetrain => exact ((fr_execLaneRetrain _ s).out t h).mode.resolve_left (by decide)
  case laneTest => exact ((fr_execLaneTest _ s).out t h).mode.resolve_left (by decide)
  case laneEye => exact ((fr_execLaneEye _ s).out t h).mode.resolve_left (by decide)
  case laneEyeDone => exact ((fr_execLaneEyeDone _ _ s).out t h).mode.resolve_left (by decide)
  case laneRead => exact ((fr_execLaneRead _ s).out t h).mode.resolve_left (by decide)
  case layoutChange => exact ((fr_execLayoutChange _ _ s).out t h).mode.resolve_left (by decide)
  case portAdmin => exact ((fr_execPortAdmin _ s).out t h).mode.resolve_left (by decide)
  case portGateList => exact ((fr_execPortGateList _ _ s).out t h).mode.resolve_left (by decide)
  case portRead => exact ((fr_execPortRead _ s).out t h).mode.resolve_left (by decide)
  case portWdRestore => exact ((fr_execPortWdRestore _ s).out t h).mode.resolve_left (by decide)
  case blockLock => exact ((fr_execBlockLock _ _ s).out t h).mode.resolve_left (by decide)
  case lockLoss => exact ((fr_execLockLoss _ _ s).out t h).mode.resolve_left (by decide)
  case hiBer => exact ((fr_execHiBer _ _ s).out t h).mode.resolve_left (by decide)
  case upDebounce => exact ((fr_execUpDebounce _ s).out t h).mode.resolve_left (by decide)
  case remoteFault => exact ((fr_execRemoteFault _ _ s).out t h).mode.resolve_left (by decide)
  case fecWindow => exact ((fr_execFecWindow _ _ s).out t h).mode.resolve_left (by decide)
  case frameReceive => exact ((fr_execFrameReceive _ _ _ _ s).out t h).mode.resolve_left (by decide)
  case pfcFrameReceive => exact ((fr_execPfcFrameReceive _ _ _ _ s).out t h).mode.resolve_left (by decide)
  case pauseFrameReceive => exact ((fr_execPauseFrameReceive _ _ _ s).out t h).mode.resolve_left (by decide)
  case pauseTimerExpiry => exact ((fr_execPauseTimerExpiry _ _ s).out t h).mode.resolve_left (by decide)
  case pfcFrameSend => exact ((fr_execPfcFrameSend _ s).out t h).mode.resolve_left (by decide)
  case pfcRefresh => exact ((fr_execPfcRefresh _ _ s).out t h).mode.resolve_left (by decide)
  case pfcWatchdog => exact ((fr_execPfcWatchdog _ _ s).out t h).mode.resolve_left (by decide)
  case watchdogRestore => exact ((fr_execWatchdogRestore _ _ s).out t h).mode.resolve_left (by decide)
  case gateTransition => exact ((fr_execGateTransition _ s).out t h).mode.resolve_left (by decide)
  case gateListSwitch => exact ((fr_execGateListSwitch _ s).out t h).mode.resolve_left (by decide)
  case sleepEntry => exact ((fr_execSleepEntry _ s).out t h).mode.resolve_left (by decide)
  case wakePatternEnd => exact ((fr_execWakePatternEnd _ s).out t h).mode.resolve_left (by decide)
  case frameEnd => exact ((fr_execFrameEnd _ _ _ s).out t h).mode.resolve_left (by decide)
  case groupEnable => exact ((fr_execGroupEnable _ _ s).out t h).mode.resolve_left (by decide)
  case groupDisable => exact ((fr_execGroupDisable _ _ s).out t h).mode.resolve_left (by decide)
  case frameStartPattern => exact ((fr_execFrameStartPattern _ _ _ s).out t h).mode.resolve_left (by decide)
  case overheadPosition => exact ((fr_execOverheadPosition _ _ _ _ s).out t h).mode.resolve_left (by decide)
  case multiframeLock => exact ((fr_execMultiframeLock _ _ _ s).out t h).mode.resolve_left (by decide)
  case overheadFrame => exact ((fr_execOverheadFrame _ _ _ s).out t h).mode.resolve_left (by decide)
  case calendarSwitch => exact ((fr_execCalendarSwitch _ s).out t h).mode.resolve_left (by decide)
  case calSwitchTimeout => exact ((fr_execCalSwitchTimeout _ s).out t h).mode.resolve_left (by decide)
  case rxCalendarSwitch => exact ((fr_execRxCalendarSwitch _ s).out t h).mode.resolve_left (by decide)
  case pmSecond => exact ((fr_execPmSecond _ s).out t h).mode.resolve_left (by decide)
  case pmBinBoundary => exact ((fr_execPmBinBoundary _ s).out t h).mode.resolve_left (by decide)
  case slotGroupMembers => exact ((fr_execSlotGroupMembers _ _ s).out t h).mode.resolve_left (by decide)
  case slotClientSet => exact ((fr_execSlotClientSet _ s).out t h).mode.resolve_left (by decide)
  case slotCmWrite => exact ((fr_execSlotCmWrite _ _ s).out t h).mode.resolve_left (by decide)
  case slotCalSwitch => exact ((fr_execSlotCalSwitch _ s).out t h).mode.resolve_left (by decide)
  case slotPmRead => exact ((fr_execSlotPmRead _ s).out t h).mode.resolve_left (by decide)
  case slotGroupRead => exact ((fr_execSlotGroupRead _ s).out t h).mode.resolve_left (by decide)
  case parseThreadAssign => exact ((fr_execParseThreadAssign _ s).out t h).mode.resolve_left (by decide)
  case parseWord => exact ((fr_execParseWord _ s).out t h).mode.resolve_left (by decide)
  case ingressStages => exact ((fr_execIngressStages _ s).out t h).mode.resolve_left (by decide)
  case admission => exact ((fr_execAdmission _ s).out t h).mode.resolve_left (by decide)
  case remainingCells => exact ((fr_execRemainingCells _ _ s).out t h).mode.resolve_left (by decide)
  case replication => exact ((fr_execReplication _ _ s).out t h).mode.resolve_left (by decide)
  case dequeueDecision => exact ((fr_execDequeueDecision _ s).out t h).mode.resolve_left (by decide)
  case egressStages => exact ((fr_execEgressStages _ _ s).out t h).mode.resolve_left (by decide)
  case transmitEnd => exact ((fr_execTransmitEnd _ s).out t h).mode.resolve_left (by decide)
  case queueFlush => exact ((fr_execQueueFlush _ s).out t h).mode.resolve_left (by decide)
  case emInsert => exact ((fr_execEmInsert _ s).out t h).mode.resolve_left (by decide)
  case emDelete => exact ((fr_execEmDelete _ s).out t h).mode.resolve_left (by decide)
  case emLookup => exact ((fr_execEmLookup _ s).out t h).mode.resolve_left (by decide)
  case emRead => exact ((fr_execEmRead _ s).out t h).mode.resolve_left (by decide)
  case lpmAdd => exact ((fr_execLpmAdd _ s).out t h).mode.resolve_left (by decide)
  case lpmDelete => exact ((fr_execLpmDelete _ s).out t h).mode.resolve_left (by decide)
  case lpmLookup => exact ((fr_execLpmLookup _ s).out t h).mode.resolve_left (by decide)
  case tcamWrite => exact ((fr_execTcamWrite _ _ s).out t h).mode.resolve_left (by decide)
  case tcamRead => exact ((fr_execTcamRead _ s).out t h).mode.resolve_left (by decide)
  case ecmpGroupWrite => exact ((fr_execEcmpGroupWrite _ s).out t h).mode.resolve_left (by decide)
  case memberWrite => exact ((fr_execMemberWrite _ _ s).out t h).mode.resolve_left (by decide)
  case nexthopWrite => exact ((fr_execNexthopWrite _ _ s).out t h).mode.resolve_left (by decide)
  case ecmpRead => exact ((fr_execEcmpRead _ s).out t h).mode.resolve_left (by decide)
  case shadowCheck => exact ((fr_execShadowCheck _ _ s).out t h).mode.resolve_left (by decide)
  case tableStat => exact ((fr_execTableStat _ s).out t h).mode.resolve_left (by decide)
  case classifyWrite => exact ((fr_execClassifyWrite _ _ s).out t h).mode.resolve_left (by decide)
  case endpointWrite => exact ((fr_execEndpointWrite _ s).out t h).mode.resolve_left (by decide)
  case learnHoldoffExpiry => exact ((fr_execLearnHoldoffExpiry _ _ s).out t h).mode.resolve_left (by decide)
  case learnRateWindow => exact ((fr_execLearnRateWindow s).out t h).mode.resolve_left (by decide)
  case nextHopDown => exact ((fr_execNextHopDown _ s).out t h).mode.resolve_left (by decide)
  case nextHopUp => exact ((fr_execNextHopUp _ s).out t h).mode.resolve_left (by decide)
  case editWrite => exact ((fr_execEditWrite _ _ s).out t h).mode.resolve_left (by decide)
  case mcastWrite => exact ((fr_execMcastWrite _ _ s).out t h).mode.resolve_left (by decide)
  case mirrorWrite => exact ((fr_execMirrorWrite _ s).out t h).mode.resolve_left (by decide)
  case egressWrite => exact ((fr_execEgressWrite _ _ s).out t h).mode.resolve_left (by decide)
  case parseRead => exact ((fr_execParseRead _ s).out t h).mode.resolve_left (by decide)
  case spillAssemblyTimeout => exact ((fr_execSpillAssemblyTimeout _ s).out t h).mode.resolve_left (by decide)
  case readbackStart => exact ((fr_execReadbackStart _ s).out t h).mode.resolve_left (by decide)
  case blockReadDone => exact ((fr_execBlockReadDone _ _ s).out t h).mode.resolve_left (by decide)
  case bufProfileWrite => exact ((fr_execBufProfileWrite _ _ s).out t h).mode.resolve_left (by decide)
  case bufQueueMap => exact ((fr_execBufQueueMap _ _ s).out t h).mode.resolve_left (by decide)
  case bufPortWrite => exact ((fr_execBufPortWrite _ _ s).out t h).mode.resolve_left (by decide)
  case bufQueueRead => exact ((fr_execBufQueueRead _ s).out t h).mode.resolve_left (by decide)
  case shaperTick => exact ((fr_execShaperTick _ s).out t h).mode.resolve_left (by decide)
  case wheelSlotDue => exact ((fr_execWheelSlotDue _ s).out t h).mode.resolve_left (by decide)
  case overflowSlotDue => exact ((fr_execOverflowSlotDue _ s).out t h).mode.resolve_left (by decide)
  case depthSample => exact ((fr_execDepthSample s).out t h).mode.resolve_left (by decide)
  case sampleWindowClose => exact ((fr_execSampleWindowClose s).out t h).mode.resolve_left (by decide)
  case schPortWrite => exact ((fr_execSchPortWrite _ _ s).out t h).mode.resolve_left (by decide)
  case schShaperWrite => exact ((fr_execSchShaperWrite _ _ s).out t h).mode.resolve_left (by decide)
  case schMeterWrite => exact ((fr_execSchMeterWrite _ _ s).out t h).mode.resolve_left (by decide)
  case schSampleRead => exact ((fr_execSchSampleRead _ s).out t h).mode.resolve_left (by decide)
  case contrib => exact ((fr_execContrib _ s).out t h).mode.resolve_left (by decide)
  case result => exact ((fr_execResult _ s).out t h).mode.resolve_left (by decide)
  case resend => exact ((fr_execResend _ s).out t h).mode.resolve_left (by decide)
  case resultReq => exact ((fr_execResultReq _ s).out t h).mode.resolve_left (by decide)
  case wait => exact ((fr_execWait _ s).out t h).mode.resolve_left (by decide)
  case pace => exact ((fr_execPace _ s).out t h).mode.resolve_left (by decide)
  case paceSet => exact ((fr_execPaceSet _ s).out t h).mode.resolve_left (by decide)
  case straggler => exact ((fr_execStraggler _ s).out t h).mode.resolve_left (by decide)
  case abort => exact ((fr_execAbort _ s).out t h).mode.resolve_left (by decide)
  case slotTimerExpiry => exact ((fr_execSlotTimerExpiry _ _ s).out t h).mode.resolve_left (by decide)
  case emittedTimerExpiry => exact ((fr_execEmittedTimerExpiry _ _ s).out t h).mode.resolve_left (by decide)
  case epochBoundary => exact ((fr_execEpochBoundary _ s).out t h).mode.resolve_left (by decide)
  case slotRestore => exact ((fr_execSlotRestore _ _ s).out t h).mode.resolve_left (by decide)
  case clusterStepChangeDone => exact ((fr_execClusterStepChangeDone _ s).out t h).mode.resolve_left (by decide)
  case jobMoveDone => exact ((fr_execJobMoveDone _ s).out t h).mode.resolve_left (by decide)
  case colJobCreate => exact ((fr_execColJobCreate _ _ s).out t h).mode.resolve_left (by decide)
  case colJobDestroy => exact ((fr_execColJobDestroy _ s).out t h).mode.resolve_left (by decide)
  case colJobRead => exact ((fr_execColJobRead _ s).out t h).mode.resolve_left (by decide)
  case colJobMove => exact ((fr_execColJobMove _ s).out t h).mode.resolve_left (by decide)
  case colPacePropose => exact ((fr_execColPacePropose _ s).out t h).mode.resolve_left (by decide)
  case poolGrant => exact ((fr_execPoolGrant _ s).out t h).mode.resolve_left (by decide)
  case poolCtrlEnable => exact ((fr_execPoolCtrlEnable _ s).out t h).mode.resolve_left (by decide)
  case bufferTestDone => exact ((fr_execBufferTestDone _ _ s).out t h).mode.resolve_left (by decide)
  case poolAlloc => exact ((fr_execPoolAlloc _ s).out t h).mode.resolve_left (by decide)
  case poolFree => exact ((fr_execPoolFree _ s).out t h).mode.resolve_left (by decide)
  case poolTransfer => exact ((fr_execPoolTransfer _ s).out t h).mode.resolve_left (by decide)
  case poolState => exact ((fr_execPoolState _ s).out t h).mode.resolve_left (by decide)
  case poolOwnerFreeAll => exact ((fr_execPoolOwnerFreeAll _ s).out t h).mode.resolve_left (by decide)
  case poolCopy => exact ((fr_execPoolCopy _ _ s).out t h).mode.resolve_left (by decide)
  case seqWord => exact ((fr_execSeqWord _ s).out t h).mode.resolve_left (by decide)
  case waitEnd => exact ((fr_execWaitEnd _ _ s).out t h).mode.resolve_left (by decide)
  case waitTimeout => exact ((fr_execWaitTimeout _ _ s).out t h).mode.resolve_left (by decide)
  case routineTrigger => exact ((fr_execRoutineTrigger _ s).out t h).mode.resolve_left (by decide)
  case blockOpDone => exact ((fr_execBlockOpDone _ _ _ s).out t h).mode.resolve_left (by decide)
  case storeRepair => exact ((fr_execStoreRepair _ s).out t h).mode.resolve_left (by decide)
  case stopTimeout => exact ((fr_execStopTimeout _ s).out t h).mode.resolve_left (by decide)
  case noIssueTimeout => exact ((fr_execNoIssueTimeout _ s).out t h).mode.resolve_left (by decide)
  case seqLoad => exact ((fr_execSeqLoad _ _ s).out t h).mode.resolve_left (by decide)
  case seqRoutineSet => exact ((fr_execSeqRoutineSet _ s).out t h).mode.resolve_left (by decide)
  case seqRun => exact ((fr_execSeqRun _ s).out t h).mode.resolve_left (by decide)
  case seqStop => exact ((fr_execSeqStop _ s).out t h).mode.resolve_left (by decide)
  case seqFrameRead => exact ((fr_execSeqFrameRead _ s).out t h).mode.resolve_left (by decide)
  case seqResume => exact ((fr_execSeqResume _ s).out t h).mode.resolve_left (by decide)
  case seqStoreRead => exact ((fr_execSeqStoreRead _ s).out t h).mode.resolve_left (by decide)
  case periodicRetrain => exact ((fr_execPeriodicRetrain _ s).out t h).mode.resolve_left (by decide)
  case retrainRetry => exact ((fr_execRetrainRetry _ s).out t h).mode.resolve_left (by decide)
  case refresh => exact ((fr_execRefresh _ _ _ s).out t h).mode.resolve_left (by decide)
  case selfRefreshEntry => exact ((fr_execSelfRefreshEntry _ s).out t h).mode.resolve_left (by decide)
  case scrubRead => exact ((fr_execScrubRead _ _ _ s).out t h).mode.resolve_left (by decide)
  case halfReady => exact ((fr_execHalfReady _ s).out t h).mode.resolve_left (by decide)
  case tbEnable => exact ((fr_execTbEnable _ _ s).out t h).mode.resolve_left (by decide)
  case tbDisable => exact ((fr_execTbDisable _ _ s).out t h).mode.resolve_left (by decide)
  case slewDisable => exact ((fr_execSlewDisable _ _ s).out t h).mode.resolve_left (by decide)
  case slewComplete => exact ((fr_execSlewComplete _ s).out t h).mode.resolve_left (by decide)
  case clk10Loss => exact ((fr_execClk10Loss _ s).out t h).mode.resolve_left (by decide)
  case holdoverExit => exact ((fr_execHoldoverExit _ s).out t h).mode.resolve_left (by decide)
  case secondBoundary => exact ((fr_execSecondBoundary _ s).out t h).mode.resolve_left (by decide)
  case ppsInEdge => exact ((fr_execPpsInEdge _ s).out t h).mode.resolve_left (by decide)
  case ppsInMissing => exact ((fr_execPpsInMissing s).out t h).mode.resolve_left (by decide)
  case tsEventEdge => exact ((fr_execTsEventEdge _ _ s).out t h).mode.resolve_left (by decide)
  case todMessage => exact ((fr_execTodMessage _ s).out t h).mode.resolve_left (by decide)
  case timeRead => exact ((fr_execTimeRead _ s).out t h).mode.resolve_left (by decide)
  case timeSet => exact ((fr_execTimeSet _ s).out t h).mode.resolve_left (by decide)
  case timeAdjust => exact ((fr_execTimeAdjust _ s).out t h).mode.resolve_left (by decide)
  case timeTrim => exact ((fr_execTimeTrim _ s).out t h).mode.resolve_left (by decide)
  case pairSwitch => exact ((fr_execPairSwitch _ s).out t h).mode.resolve_left (by decide)
  case snapshotInstant => exact ((fr_execSnapshotInstant _ s).out t h).mode.resolve_left (by decide)
  case dumpComplete => exact ((fr_execDumpComplete _ _ s).out t h).mode.resolve_left (by decide)
  case gauzeRecordWrite => exact ((fr_execGauzeRecordWrite s).out t h).mode.resolve_left (by decide)
  case gauzeEnable => exact ((fr_execGauzeEnable _ s).out t h).mode.resolve_left (by decide)
  case ctrSetWrite => exact ((fr_execCtrSetWrite _ s).out t h).mode.resolve_left (by decide)
  case ctrRead => exact ((fr_execCtrRead _ s).out t h).mode.resolve_left (by decide)
  case ctrClear => exact ((fr_execCtrClear _ s).out t h).mode.resolve_left (by decide)
  case ctrDumpNow => exact ((fr_execCtrDumpNow _ s).out t h).mode.resolve_left (by decide)
  case gauzeRelease => exact ((fr_execGauzeRelease _ s).out t h).mode.resolve_left (by decide)
  case ioamSink => exact ((fr_execIoamSink _ _ s).out t h).mode.resolve_left (by decide)
  case powerSample => exact ((fr_execPowerSample _ s).out t h).mode.resolve_left (by decide)
  case pmbusRead => exact ((fr_execPmbusRead _ s).out t h).mode.resolve_left (by decide)
  case throttleRaise => exact ((fr_execThrottleRaise s).out t h).mode.resolve_left (by decide)
  case railReached => exact ((fr_execRailReached _ _ s).out t h).mode.resolve_left (by decide)
  case droopTrip => exact ((fr_execDroopTrip _ _ s).out t h).mode.resolve_left (by decide)
  case droopReturn => exact ((fr_execDroopReturn _ s).out t h).mode.resolve_left (by decide)
  case droopRecalibration => exact ((fr_execDroopRecalibration _ s).out t h).mode.resolve_left (by decide)
  case vrAlert => exact ((fr_execVrAlert _ _ s).out t h).mode.resolve_left (by decide)
  case vrAlertClear => exact ((fr_execVrAlertClear s).out t h).mode.resolve_left (by decide)
  case sensorRead => exact ((fr_execSensorRead _ s).out t h).mode.resolve_left (by decide)
  case thermalRecovery => exact ((fr_execThermalRecovery _ s).out t h).mode.resolve_left (by decide)
  case thermalTrip => cases hc
  case domainPowerDownDone => exact ((fr_execDomainPowerDownDone _ s).out t h).mode.resolve_left (by decide)
  case pwrDomain => exact ((fr_execPwrDomain _ s).out t h).mode.resolve_left (by decide)
  case pwrLimitSet => exact ((fr_execPwrLimitSet _ s).out t h).mode.resolve_left (by decide)
  case pwrRead => exact ((fr_execPwrRead _ s).out t h).mode.resolve_left (by decide)
  case pwrPmbus => exact ((fr_execPwrPmbus _ _ s).out t h).mode.resolve_left (by decide)
  case recordFormation => cases hc
  case conditionClear => exact ((fr_execConditionClear _ _ _ s).out t h).mode.resolve_left (by decide)
  case fenceComplete => cases hc
  case testEnd => exact ((fr_execTestEnd _ _ _ s).out t h).mode.resolve_left (by decide)
  case aliveToggle => exact ((fr_execAliveToggle s).out t h).mode.resolve_left (by decide)
  case clockMonitorWindow => exact ((fr_execClockMonitorWindow _ _ s).out t h).mode.resolve_left (by decide)
  case resetReq => cases hc
  case faultAck => exact ((fr_execFaultAck _ s).out t h).mode.resolve_left (by decide)
  case faultRead => exact ((fr_execFaultRead _ s).out t h).mode.resolve_left (by decide)
  case faultClassSet => exact ((fr_execFaultClassSet _ s).out t h).mode.resolve_left (by decide)
  case unitFence => cases hc
  case unitTest => exact ((fr_execUnitTest _ s).out t h).mode.resolve_left (by decide)
  case unitReturn => cases hc
  case firstClear => exact ((fr_execFirstClear _ s).out t h).mode.resolve_left (by decide)
  case diagTest => exact ((fr_execDiagTest _ _ s).out t h).mode.resolve_left (by decide)
  case vddAonGood => cases hc
  case vddAonLost => cases hc
  case railResetLevel => cases hc
  case resetNAssert => cases hc
  case resetNRelease => cases hc
  case wipeComplete => cases hc
  case bootImageAccepted => cases hc
  case hostBootGo => exact ((fr_execHostBootGo _ s).out t h).mode.resolve_left (by decide)
  case hostImageChecked => cases hc
  case drainEnd => cases hc
  case drainLimit => cases hc
  case nonceExpiry => exact ((fr_execNonceExpiry s).out t h).mode.resolve_left (by decide)
  case modeSet => cases hc
  case sysReset => cases hc
  case lcAdvance => cases hc
  case rollbackAdvance => exact ((fr_execRollbackAdvance _ s).out t h).mode.resolve_left (by decide)
  case debugChallenge => exact ((fr_execDebugChallenge _ s).out t h).mode.resolve_left (by decide)
  case debugUnlock => cases hc
  case flashWrite => exact ((fr_execFlashWrite _ _ _ s).out t h).mode.resolve_left (by decide)
  case keyRevoke => exact ((fr_execKeyRevoke _ s).out t h).mode.resolve_left (by decide)
  case tapInstruction => exact ((fr_execTapInstruction _ _ s).out t h).mode.resolve_left (by decide)
  case signalDetect => exact ((fr_execSignalDetect _ s).out t h).mode.resolve_left (by decide)
  case channelTrainingDone => exact ((fr_execChannelTrainingDone _ _ s).out t h).mode.resolve_left (by decide)
  case noAcceptableImage => exact ((fr_execNoAcceptableImage s).out t h).mode.resolve_left (by decide)
  case laneGroupClockLock => exact ((fr_execLaneGroupClockLock _ _ s).out t h).mode.resolve_left (by decide)

/-- The commands that can change the fence state of a unit. -/
def unitRow : Instr → Bool
  | .registerWrite _ _ _ => true
  | .registerReadClear _ => true
  | .lowWordRead _ => true
  | .ringEnable _ _ => true
  | .ringDisable _ _ => true
  | .lateError _ _ _ => true
  | .puntBufferWrite _ _ => true
  | .hostLinkChange _ _ _ => true
  | .hostLinkDown => true
  | .perstNAssert => true
  | .macroEnable _ _ => true
  | .macroDisable _ _ => true
  | .macroRateChange _ _ => true
  | .calibrationDone _ _ _ => true
  | .negotiationComplete _ _ => true
  | .anTimeout _ => true
  | .receiversReady _ _ => true
  | .trainTimeout _ _ => true
  | .adaptationConverged _ _ => true
  | .adaptTimeout _ => true
  | .laneLoss _ _ => true
  | .wakeDeclared _ => true
  | .wakeSnrOk _ _ => true
  | .wakeTimeout _ _ => true
  | .laneRetrain _ => true
  | .laneTest _ => true
  | .layoutChange _ _ => true
  | .portAdmin _ => true
  | .blockLock _ _ => true
  | .lockLoss _ _ => true
  | .hiBer _ _ => true
  | .upDebounce _ => true
  | .remoteFault _ _ => true
  | .fecWindow _ _ => true
  | .frameReceive _ _ _ _ => true
  | .pfcFrameReceive _ _ _ _ => true
  | .pauseFrameReceive _ _ _ => true
  | .pfcFrameSend _ => true
  | .pfcWatchdog _ _ => true
  | .gateTransition _ => true
  | .sleepEntry _ => true
  | .frameEnd _ _ _ => true
  | .groupEnable _ _ => true
  | .groupDisable _ _ => true
  | .overheadPosition _ _ _ _ => true
  | .multiframeLock _ _ _ => true
  | .overheadFrame _ _ _ => true
  | .calendarSwitch _ => true
  | .calSwitchTimeout _ => true
  | .rxCalendarSwitch _ => true
  | .slotClientSet _ => true
  | .slotCmWrite _ _ => true
  | .slotCalSwitch _ => true
  | .slotPmRead _ => true
  | .parseThreadAssign _ => true
  | .parseWord _ => true
  | .ingressStages _ => true
  | .admission _ => true
  | .remainingCells _ _ => true
  | .replication _ _ => true
  | .dequeueDecision _ => true
  | .egressStages _ _ => true
  | .transmitEnd _ => true
  | .queueFlush _ => true
  | .emInsert _ => true
  | .emDelete _ => true
  | .emLookup _ => true
  | .lpmLookup _ => true
  | .ecmpRead _ => true
  | .shadowCheck _ _ => true
  | .editWrite _ _ => true
  | .mcastWrite _ _ => true
  | .mirrorWrite _ => true
  | .egressWrite _ _ => true
  | .parseRead _ => true
  | .spillAssemblyTimeout _ => true
  | .readbackStart _ => true
  | .blockReadDone _ _ => true
  | .shaperTick _ => true
  | .sampleWindowClose => true
  | .contrib _ => true
  | .result _ => true
  | .resend _ => true
  | .resultReq _ => true
  | .wait _ => true
  | .pace _ => true
  | .paceSet _ => true
  | .straggler _ => true
  | .abort _ => true
  | .slotTimerExpiry _ _ => true
  | .emittedTimerExpiry _ _ => true
  | .epochBoundary _ => true
  | .slotRestore _ _ => true
  | .clusterStepChangeDone _ => true
  | .jobMoveDone _ => true
  | .colJobCreate _ _ => true
  | .colJobDestroy _ => true
  | .colPacePropose _ => true
  | .bufferTestDone _ _ => true
  | .poolFree _ => true
  | .poolTransfer _ => true
  | .poolCopy _ _ => true
  | .seqWord _ => true
  | .waitTimeout _ _ => true
  | .blockOpDone _ _ _ => true
  | .storeRepair _ => true
  | .noIssueTimeout _ => true
  | .seqLoad _ _ => true
  | .seqFrameRead _ => true
  | .seqResume _ => true
  | .seqStoreRead _ => true
  | .scrubRead _ _ _ => true
  | .tbEnable _ _ => true
  | .tbDisable _ _ => true
  | .slewDisable _ _ => true
  | .clk10Loss _ => true
  | .holdoverExit _ => true
  | .ppsInMissing => true
  | .todMessage _ => true
  | .timeSet _ => true
  | .timeAdjust _ => true
  | .snapshotInstant _ => true
  | .dumpComplete _ _ => true
  | .gauzeRecordWrite => true
  | .ctrRead _ => true
  | .ctrDumpNow _ => true
  | .powerSample _ => true
  | .pmbusRead _ => true
  | .droopReturn _ => true
  | .vrAlert _ _ => true
  | .vrAlertClear => true
  | .sensorRead _ => true
  | .thermalRecovery _ => true
  | .thermalTrip _ => true
  | .domainPowerDownDone _ => true
  | .pwrDomain _ => true
  | .recordFormation _ => true
  | .fenceComplete _ _ => true
  | .testEnd _ _ _ => true
  | .clockMonitorWindow _ _ => true
  | .resetReq _ _ => true
  | .unitFence _ => true
  | .unitTest _ => true
  | .unitReturn _ => true
  | .diagTest _ _ => true
  | .vddAonGood _ => true
  | .vddAonLost => true
  | .railResetLevel _ => true
  | .resetNAssert => true
  | .resetNRelease _ _ => true
  | .wipeComplete _ => true
  | .bootImageAccepted _ _ => true
  | .hostImageChecked _ => true
  | .drainLimit => true
  | .modeSet _ => true
  | .sysReset _ => true
  | .lcAdvance _ _ => true
  | .debugUnlock _ _ => true
  | .tapInstruction _ _ => true
  | .channelTrainingDone _ _ => true
  | .noAcceptableImage => true
  | .laneGroupClockLock _ _ => true
  | _ => false

theorem exec_units {c : Instr} {s t : State} (h : exec c s = .next t) (hc : unitRow c = false) :
    t.flt.units = s.flt.units := by
  cases c
  case registerWrite => cases hc
  case registerReadClear => cases hc
  case lowWordRead => cases hc
  case ringEnable => cases hc
  case ringDisable => cases hc
  case doorbell => exact ((fr_execDoorbell _ _ s).out t h).units.resolve_left (by decide)
  case arm => exact ((fr_execArm _ _ s).out t h).units.resolve_left (by decide)
  case restart => exact ((fr_execRestart _ s).out t h).units.resolve_left (by decide)
  case summaryGo => exact ((fr_execSummaryGo s).out t h).units.resolve_left (by decide)
  case commandFetch => exact ((fr_execCommandFetch _ s).out t h).units.resolve_left (by decide)
  case descriptorFetchError => exact ((fr_execDescriptorFetchError _ s).out t h).units.resolve_left (by decide)
  case nop => exact ((fr_execNop _ s).out t h).units.resolve_left (by decide)
  case summary => exact ((fr_execSummary _ s).out t h).units.resolve_left (by decide)
  case summaryQueueStart => exact ((fr_execSummaryQueueStart s).out t h).units.resolve_left (by decide)
  case ringQuiesce => exact ((fr_execRingQuiesce _ s).out t h).units.resolve_left (by decide)
  case ringResume => exact ((fr_execRingResume _ s).out t h).units.resolve_left (by decide)
  case channelRestart => exact ((fr_execChannelRestart _ s).out t h).units.resolve_left (by decide)
  case channelShare => exact ((fr_execChannelShare _ s).out t h).units.resolve_left (by decide)
  case eventTest => exact ((fr_execEventTest _ s).out t h).units.resolve_left (by decide)
  case eventWrite => exact ((fr_execEventWrite _ s).out t h).units.resolve_left (by decide)
  case burstStart => exact ((fr_execBurstStart _ _ s).out t h).units.resolve_left (by decide)
  case descriptorComplete => exact ((fr_execDescriptorComplete _ s).out t h).units.resolve_left (by decide)
  case flushReadReturn => exact ((fr_execFlushReadReturn _ _ _ _ s).out t h).units.resolve_left (by decide)
  case lateError => cases hc
  case powerDeferLimit => exact ((fr_execPowerDeferLimit _ s).out t h).units.resolve_left (by decide)
  case injectDescriptorFetch => exact ((fr_execInjectDescriptorFetch _ _ s).out t h).units.resolve_left (by decide)
  case injectBufferReadDone => exact ((fr_execInjectBufferReadDone _ _ s).out t h).units.resolve_left (by decide)
  case hostReadError => exact ((fr_execHostReadError _ _ _ s).out t h).units.resolve_left (by decide)
  case puntBufferWrite => cases hc
  case hostLinkChange => cases hc
  case hostLinkDown => cases hc
  case perstNAssert => cases hc
  case perstNRelease => exact ((fr_execPerstNRelease s).out t h).units.resolve_left (by decide)
  case macroEnable => cases hc
  case macroDisable => cases hc
  case macroRateChange => cases hc
  case txDisable => exact ((fr_execTxDisable _ _ s).out t h).units.resolve_left (by decide)
  case pllLock => exact ((fr_execPllLock _ s).out t h).units.resolve_left (by decide)
  case calibrationDone => cases hc
  case negotiationComplete => cases hc
  case anTimeout => cases hc
  case trainRetry => exact ((fr_execTrainRetry _ s).out t h).units.resolve_left (by decide)
  case tapRequest => exact ((fr_execTapRequest _ _ _ s).out t h).units.resolve_left (by decide)
  case receiversReady => cases hc
  case trainTimeout => cases hc
  case adaptationConverged => cases hc
  case adaptTimeout => cases hc
  case laneLoss => cases hc
  case wakeDeclared => cases hc
  case wakeSnrOk => cases hc
  case wakeTimeout => cases hc
  case backgroundCtleStep => exact ((fr_execBackgroundCtleStep _ _ _ s).out t h).units.resolve_left (by decide)
  case laneRetrain => cases hc
  case laneTest => cases hc
  case laneEye => exact ((fr_execLaneEye _ s).out t h).units.resolve_left (by decide)
  case laneEyeDone => exact ((fr_execLaneEyeDone _ _ s).out t h).units.resolve_left (by decide)
  case laneRead => exact ((fr_execLaneRead _ s).out t h).units.resolve_left (by decide)
  case layoutChange => cases hc
  case portAdmin => cases hc
  case portGateList => exact ((fr_execPortGateList _ _ s).out t h).units.resolve_left (by decide)
  case portRead => exact ((fr_execPortRead _ s).out t h).units.resolve_left (by decide)
  case portWdRestore => exact ((fr_execPortWdRestore _ s).out t h).units.resolve_left (by decide)
  case blockLock => cases hc
  case lockLoss => cases hc
  case hiBer => cases hc
  case upDebounce => cases hc
  case remoteFault => cases hc
  case fecWindow => cases hc
  case frameReceive => cases hc
  case pfcFrameReceive => cases hc
  case pauseFrameReceive => cases hc
  case pauseTimerExpiry => exact ((fr_execPauseTimerExpiry _ _ s).out t h).units.resolve_left (by decide)
  case pfcFrameSend => cases hc
  case pfcRefresh => exact ((fr_execPfcRefresh _ _ s).out t h).units.resolve_left (by decide)
  case pfcWatchdog => cases hc
  case watchdogRestore => exact ((fr_execWatchdogRestore _ _ s).out t h).units.resolve_left (by decide)
  case gateTransition => cases hc
  case gateListSwitch => exact ((fr_execGateListSwitch _ s).out t h).units.resolve_left (by decide)
  case sleepEntry => cases hc
  case wakePatternEnd => exact ((fr_execWakePatternEnd _ s).out t h).units.resolve_left (by decide)
  case frameEnd => cases hc
  case groupEnable => cases hc
  case groupDisable => cases hc
  case frameStartPattern => exact ((fr_execFrameStartPattern _ _ _ s).out t h).units.resolve_left (by decide)
  case overheadPosition => cases hc
  case multiframeLock => cases hc
  case overheadFrame => cases hc
  case calendarSwitch => cases hc
  case calSwitchTimeout => cases hc
  case rxCalendarSwitch => cases hc
  case pmSecond => exact ((fr_execPmSecond _ s).out t h).units.resolve_left (by decide)
  case pmBinBoundary => exact ((fr_execPmBinBoundary _ s).out t h).units.resolve_left (by decide)
  case slotGroupMembers => exact ((fr_execSlotGroupMembers _ _ s).out t h).units.resolve_left (by decide)
  case slotClientSet => cases hc
  case slotCmWrite => cases hc
  case slotCalSwitch => cases hc
  case slotPmRead => cases hc
  case slotGroupRead => exact ((fr_execSlotGroupRead _ s).out t h).units.resolve_left (by decide)
  case parseThreadAssign => cases hc
  case parseWord => cases hc
  case ingressStages => cases hc
  case admission => cases hc
  case remainingCells => cases hc
  case replication => cases hc
  case dequeueDecision => cases hc
  case egressStages => cases hc
  case transmitEnd => cases hc
  case queueFlush => cases hc
  case emInsert => cases hc
  case emDelete => cases hc
  case emLookup => cases hc
  case emRead => exact ((fr_execEmRead _ s).out t h).units.resolve_left (by decide)
  case lpmAdd => exact ((fr_execLpmAdd _ s).out t h).units.resolve_left (by decide)
  case lpmDelete => exact ((fr_execLpmDelete _ s).out t h).units.resolve_left (by decide)
  case lpmLookup => cases hc
  case tcamWrite => exact ((fr_execTcamWrite _ _ s).out t h).units.resolve_left (by decide)
  case tcamRead => exact ((fr_execTcamRead _ s).out t h).units.resolve_left (by decide)
  case ecmpGroupWrite => exact ((fr_execEcmpGroupWrite _ s).out t h).units.resolve_left (by decide)
  case memberWrite => exact ((fr_execMemberWrite _ _ s).out t h).units.resolve_left (by decide)
  case nexthopWrite => exact ((fr_execNexthopWrite _ _ s).out t h).units.resolve_left (by decide)
  case ecmpRead => cases hc
  case shadowCheck => cases hc
  case tableStat => exact ((fr_execTableStat _ s).out t h).units.resolve_left (by decide)
  case classifyWrite => exact ((fr_execClassifyWrite _ _ s).out t h).units.resolve_left (by decide)
  case endpointWrite => exact ((fr_execEndpointWrite _ s).out t h).units.resolve_left (by decide)
  case learnHoldoffExpiry => exact ((fr_execLearnHoldoffExpiry _ _ s).out t h).units.resolve_left (by decide)
  case learnRateWindow => exact ((fr_execLearnRateWindow s).out t h).units.resolve_left (by decide)
  case nextHopDown => exact ((fr_execNextHopDown _ s).out t h).units.resolve_left (by decide)
  case nextHopUp => exact ((fr_execNextHopUp _ s).out t h).units.resolve_left (by decide)
  case editWrite => cases hc
  case mcastWrite => cases hc
  case mirrorWrite => cases hc
  case egressWrite => cases hc
  case parseRead => cases hc
  case spillAssemblyTimeout => cases hc
  case readbackStart => cases hc
  case blockReadDone => cases hc
  case bufProfileWrite => exact ((fr_execBufProfileWrite _ _ s).out t h).units.resolve_left (by decide)
  case bufQueueMap => exact ((fr_execBufQueueMap _ _ s).out t h).units.resolve_left (by decide)
  case bufPortWrite => exact ((fr_execBufPortWrite _ _ s).out t h).units.resolve_left (by decide)
  case bufQueueRead => exact ((fr_execBufQueueRead _ s).out t h).units.resolve_left (by decide)
  case shaperTick => cases hc
  case wheelSlotDue => exact ((fr_execWheelSlotDue _ s).out t h).units.resolve_left (by decide)
  case overflowSlotDue => exact ((fr_execOverflowSlotDue _ s).out t h).units.resolve_left (by decide)
  case depthSample => exact ((fr_execDepthSample s).out t h).units.resolve_left (by decide)
  case sampleWindowClose => cases hc
  case schPortWrite => exact ((fr_execSchPortWrite _ _ s).out t h).units.resolve_left (by decide)
  case schShaperWrite => exact ((fr_execSchShaperWrite _ _ s).out t h).units.resolve_left (by decide)
  case schMeterWrite => exact ((fr_execSchMeterWrite _ _ s).out t h).units.resolve_left (by decide)
  case schSampleRead => exact ((fr_execSchSampleRead _ s).out t h).units.resolve_left (by decide)
  case contrib => cases hc
  case result => cases hc
  case resend => cases hc
  case resultReq => cases hc
  case wait => cases hc
  case pace => cases hc
  case paceSet => cases hc
  case straggler => cases hc
  case abort => cases hc
  case slotTimerExpiry => cases hc
  case emittedTimerExpiry => cases hc
  case epochBoundary => cases hc
  case slotRestore => cases hc
  case clusterStepChangeDone => cases hc
  case jobMoveDone => cases hc
  case colJobCreate => cases hc
  case colJobDestroy => cases hc
  case colJobRead => exact ((fr_execColJobRead _ s).out t h).units.resolve_left (by decide)
  case colJobMove => exact ((fr_execColJobMove _ s).out t h).units.resolve_left (by decide)
  case colPacePropose => cases hc
  case poolGrant => exact ((fr_execPoolGrant _ s).out t h).units.resolve_left (by decide)
  case poolCtrlEnable => exact ((fr_execPoolCtrlEnable _ s).out t h).units.resolve_left (by decide)
  case bufferTestDone => cases hc
  case poolAlloc => exact ((fr_execPoolAlloc _ s).out t h).units.resolve_left (by decide)
  case poolFree => cases hc
  case poolTransfer => cases hc
  case poolState => exact ((fr_execPoolState _ s).out t h).units.resolve_left (by decide)
  case poolOwnerFreeAll => exact ((fr_execPoolOwnerFreeAll _ s).out t h).units.resolve_left (by decide)
  case poolCopy => cases hc
  case seqWord => cases hc
  case waitEnd => exact ((fr_execWaitEnd _ _ s).out t h).units.resolve_left (by decide)
  case waitTimeout => cases hc
  case routineTrigger => exact ((fr_execRoutineTrigger _ s).out t h).units.resolve_left (by decide)
  case blockOpDone => cases hc
  case storeRepair => cases hc
  case stopTimeout => exact ((fr_execStopTimeout _ s).out t h).units.resolve_left (by decide)
  case noIssueTimeout => cases hc
  case seqLoad => cases hc
  case seqRoutineSet => exact ((fr_execSeqRoutineSet _ s).out t h).units.resolve_left (by decide)
  case seqRun => exact ((fr_execSeqRun _ s).out t h).units.resolve_left (by decide)
  case seqStop => exact ((fr_execSeqStop _ s).out t h).units.resolve_left (by decide)
  case seqFrameRead => cases hc
  case seqResume => cases hc
  case seqStoreRead => cases hc
  case periodicRetrain => exact ((fr_execPeriodicRetrain _ s).out t h).units.resolve_left (by decide)
  case retrainRetry => exact ((fr_execRetrainRetry _ s).out t h).units.resolve_left (by decide)
  case refresh => exact ((fr_execRefresh _ _ _ s).out t h).units.resolve_left (by decide)
  case selfRefreshEntry => exact ((fr_execSelfRefreshEntry _ s).out t h).units.resolve_left (by decide)
  case scrubRead => cases hc
  case halfReady => exact ((fr_execHalfReady _ s).out t h).units.resolve_left (by decide)
  case tbEnable => cases hc
  case tbDisable => cases hc
  case slewDisable => cases hc
  case slewComplete => exact ((fr_execSlewComplete _ s).out t h).units.resolve_left (by decide)
  case clk10Loss => cases hc
  case holdoverExit => cases hc
  case secondBoundary => exact ((fr_execSecondBoundary _ s).out t h).units.resolve_left (by decide)
  case ppsInEdge => exact ((fr_execPpsInEdge _ s).out t h).units.resolve_left (by decide)
  case ppsInMissing => cases hc
  case tsEventEdge => exact ((fr_execTsEventEdge _ _ s).out t h).units.resolve_left (by decide)
  case todMessage => cases hc
  case timeRead => exact ((fr_execTimeRead _ s).out t h).units.resolve_left (by decide)
  case timeSet => cases hc
  case timeAdjust => cases hc
  case timeTrim => exact ((fr_execTimeTrim _ s).out t h).units.resolve_left (by decide)
  case pairSwitch => exact ((fr_execPairSwitch _ s).out t h).units.resolve_left (by decide)
  case snapshotInstant => cases hc
  case dumpComplete => cases hc
  case gauzeRecordWrite => cases hc
  case gauzeEnable => exact ((fr_execGauzeEnable _ s).out t h).units.resolve_left (by decide)
  case ctrSetWrite => exact ((fr_execCtrSetWrite _ s).out t h).units.resolve_left (by decide)
  case ctrRead => cases hc
  case ctrClear => exact ((fr_execCtrClear _ s).out t h).units.resolve_left (by decide)
  case ctrDumpNow => cases hc
  case gauzeRelease => exact ((fr_execGauzeRelease _ s).out t h).units.resolve_left (by decide)
  case ioamSink => exact ((fr_execIoamSink _ _ s).out t h).units.resolve_left (by decide)
  case powerSample => cases hc
  case pmbusRead => cases hc
  case throttleRaise => exact ((fr_execThrottleRaise s).out t h).units.resolve_left (by decide)
  case railReached => exact ((fr_execRailReached _ _ s).out t h).units.resolve_left (by decide)
  case droopTrip => exact ((fr_execDroopTrip _ _ s).out t h).units.resolve_left (by decide)
  case droopReturn => cases hc
  case droopRecalibration => exact ((fr_execDroopRecalibration _ s).out t h).units.resolve_left (by decide)
  case vrAlert => cases hc
  case vrAlertClear => cases hc
  case sensorRead => cases hc
  case thermalRecovery => cases hc
  case thermalTrip => cases hc
  case domainPowerDownDone => cases hc
  case pwrDomain => cases hc
  case pwrLimitSet => exact ((fr_execPwrLimitSet _ s).out t h).units.resolve_left (by decide)
  case pwrRead => exact ((fr_execPwrRead _ s).out t h).units.resolve_left (by decide)
  case pwrPmbus => exact ((fr_execPwrPmbus _ _ s).out t h).units.resolve_left (by decide)
  case recordFormation => cases hc
  case conditionClear => exact ((fr_execConditionClear _ _ _ s).out t h).units.resolve_left (by decide)
  case fenceComplete => cases hc
  case testEnd => cases hc
  case aliveToggle => exact ((fr_execAliveToggle s).out t h).units.resolve_left (by decide)
  case clockMonitorWindow => cases hc
  case resetReq => cases hc
  case faultAck => exact ((fr_execFaultAck _ s).out t h).units.resolve_left (by decide)
  case faultRead => exact ((fr_execFaultRead _ s).out t h).units.resolve_left (by decide)
  case faultClassSet => exact ((fr_execFaultClassSet _ s).out t h).units.resolve_left (by decide)
  case unitFence => cases hc
  case unitTest => cases hc
  case unitReturn => cases hc
  case firstClear => exact ((fr_execFirstClear _ s).out t h).units.resolve_left (by decide)
  case diagTest => cases hc
  case vddAonGood => cases hc
  case vddAonLost => cases hc
  case railResetLevel => cases hc
  case resetNAssert => cases hc
  case resetNRelease => cases hc
  case wipeComplete => cases hc
  case bootImageAccepted => cases hc
  case hostBootGo => exact ((fr_execHostBootGo _ s).out t h).units.resolve_left (by decide)
  case hostImageChecked => cases hc
  case drainEnd => exact ((fr_execDrainEnd s).out t h).units.resolve_left (by decide)
  case drainLimit => cases hc
  case nonceExpiry => exact ((fr_execNonceExpiry s).out t h).units.resolve_left (by decide)
  case modeSet => cases hc
  case sysReset => cases hc
  case lcAdvance => cases hc
  case rollbackAdvance => exact ((fr_execRollbackAdvance _ s).out t h).units.resolve_left (by decide)
  case debugChallenge => exact ((fr_execDebugChallenge _ s).out t h).units.resolve_left (by decide)
  case debugUnlock => cases hc
  case flashWrite => exact ((fr_execFlashWrite _ _ _ s).out t h).units.resolve_left (by decide)
  case keyRevoke => exact ((fr_execKeyRevoke _ s).out t h).units.resolve_left (by decide)
  case tapInstruction => cases hc
  case signalDetect => exact ((fr_execSignalDetect _ s).out t h).units.resolve_left (by decide)
  case channelTrainingDone => cases hc
  case noAcceptableImage => cases hc
  case laneGroupClockLock => cases hc

/-- The commands that can change the fuses. -/
def fuseRow : Instr → Bool
  | .lcAdvance _ _ => true
  | .rollbackAdvance _ => true
  | .keyRevoke _ => true
  | _ => false

theorem exec_fuses {c : Instr} {s t : State} (h : exec c s = .next t) (hc : fuseRow c = false) :
    (t.sys.lifecycle, t.sys.rollback, t.sys.revoked, t.sys.keyHash) =
        (s.sys.lifecycle, s.sys.rollback, s.sys.revoked, s.sys.keyHash) := by
  cases c
  case registerWrite => exact ((fr_execRegisterWrite _ _ _ s).out t h).fuses.resolve_left (by decide)
  case registerReadClear => exact ((fr_execRegisterReadClear _ s).out t h).fuses.resolve_left (by decide)
  case lowWordRead => exact ((fr_execLowWordRead _ s).out t h).fuses.resolve_left (by decide)
  case ringEnable => exact ((fr_execRingEnable _ _ s).out t h).fuses.resolve_left (by decide)
  case ringDisable => exact ((fr_execRingDisable _ _ s).out t h).fuses.resolve_left (by decide)
  case doorbell => exact ((fr_execDoorbell _ _ s).out t h).fuses.resolve_left (by decide)
  case arm => exact ((fr_execArm _ _ s).out t h).fuses.resolve_left (by decide)
  case restart => exact ((fr_execRestart _ s).out t h).fuses.resolve_left (by decide)
  case summaryGo => exact ((fr_execSummaryGo s).out t h).fuses.resolve_left (by decide)
  case commandFetch => exact ((fr_execCommandFetch _ s).out t h).fuses.resolve_left (by decide)
  case descriptorFetchError => exact ((fr_execDescriptorFetchError _ s).out t h).fuses.resolve_left (by decide)
  case nop => exact ((fr_execNop _ s).out t h).fuses.resolve_left (by decide)
  case summary => exact ((fr_execSummary _ s).out t h).fuses.resolve_left (by decide)
  case summaryQueueStart => exact ((fr_execSummaryQueueStart s).out t h).fuses.resolve_left (by decide)
  case ringQuiesce => exact ((fr_execRingQuiesce _ s).out t h).fuses.resolve_left (by decide)
  case ringResume => exact ((fr_execRingResume _ s).out t h).fuses.resolve_left (by decide)
  case channelRestart => exact ((fr_execChannelRestart _ s).out t h).fuses.resolve_left (by decide)
  case channelShare => exact ((fr_execChannelShare _ s).out t h).fuses.resolve_left (by decide)
  case eventTest => exact ((fr_execEventTest _ s).out t h).fuses.resolve_left (by decide)
  case eventWrite => exact ((fr_execEventWrite _ s).out t h).fuses.resolve_left (by decide)
  case burstStart => exact ((fr_execBurstStart _ _ s).out t h).fuses.resolve_left (by decide)
  case descriptorComplete => exact ((fr_execDescriptorComplete _ s).out t h).fuses.resolve_left (by decide)
  case flushReadReturn => exact ((fr_execFlushReadReturn _ _ _ _ s).out t h).fuses.resolve_left (by decide)
  case lateError => exact ((fr_execLateError _ _ _ s).out t h).fuses.resolve_left (by decide)
  case powerDeferLimit => exact ((fr_execPowerDeferLimit _ s).out t h).fuses.resolve_left (by decide)
  case injectDescriptorFetch => exact ((fr_execInjectDescriptorFetch _ _ s).out t h).fuses.resolve_left (by decide)
  case injectBufferReadDone => exact ((fr_execInjectBufferReadDone _ _ s).out t h).fuses.resolve_left (by decide)
  case hostReadError => exact ((fr_execHostReadError _ _ _ s).out t h).fuses.resolve_left (by decide)
  case puntBufferWrite => exact ((fr_execPuntBufferWrite _ _ s).out t h).fuses.resolve_left (by decide)
  case hostLinkChange => exact ((fr_execHostLinkChange _ _ _ s).out t h).fuses.resolve_left (by decide)
  case hostLinkDown => exact ((fr_execHostLinkDown s).out t h).fuses.resolve_left (by decide)
  case perstNAssert => exact ((fr_execPerstNAssert s).out t h).fuses.resolve_left (by decide)
  case perstNRelease => exact ((fr_execPerstNRelease s).out t h).fuses.resolve_left (by decide)
  case macroEnable => exact ((fr_execMacroEnable _ _ s).out t h).fuses.resolve_left (by decide)
  case macroDisable => exact ((fr_execMacroDisable _ _ s).out t h).fuses.resolve_left (by decide)
  case macroRateChange => exact ((fr_execMacroRateChange _ _ s).out t h).fuses.resolve_left (by decide)
  case txDisable => exact ((fr_execTxDisable _ _ s).out t h).fuses.resolve_left (by decide)
  case pllLock => exact ((fr_execPllLock _ s).out t h).fuses.resolve_left (by decide)
  case calibrationDone => exact ((fr_execCalibrationDone _ _ _ s).out t h).fuses.resolve_left (by decide)
  case negotiationComplete => exact ((fr_execNegotiationComplete _ _ s).out t h).fuses.resolve_left (by decide)
  case anTimeout => exact ((fr_execAnTimeout _ s).out t h).fuses.resolve_left (by decide)
  case trainRetry => exact ((fr_execTrainRetry _ s).out t h).fuses.resolve_left (by decide)
  case tapRequest => exact ((fr_execTapRequest _ _ _ s).out t h).fuses.resolve_left (by decide)
  case receiversReady => exact ((fr_execReceiversReady _ _ s).out t h).fuses.resolve_left (by decide)
  case trainTimeout => exact ((fr_execTrainTimeout _ _ s).out t h).fuses.resolve_left (by decide)
  case adaptationConverged => exact ((fr_execAdaptationConverged _ _ s).out t h).fuses.resolve_left (by decide)
  case adaptTimeout => exact ((fr_execAdaptTimeout _ s).out t h).fuses.resolve_left (by decide)
  case laneLoss => exact ((fr_execLaneLoss _ _ s).out t h).fuses.resolve_left (by decide)
  case wakeDeclared => exact ((fr_execWakeDeclared _ s).out t h).fuses.resolve_left (by decide)
  case wakeSnrOk => exact ((fr_execWakeSnrOk _ _ s).out t h).fuses.resolve_left (by decide)
  case wakeTimeout => exact ((fr_execWakeTimeout _ _ s).out t h).fuses.resolve_left (by decide)
  case backgroundCtleStep => exact ((fr_execBackgroundCtleStep _ _ _ s).out t h).fuses.resolve_left (by decide)
  case laneRetrain => exact ((fr_execLaneRetrain _ s).out t h).fuses.resolve_left (by decide)
  case laneTest => exact ((fr_execLaneTest _ s).out t h).fuses.resolve_left (by decide)
  case laneEye => exact ((fr_execLaneEye _ s).out t h).fuses.resolve_left (by decide)
  case laneEyeDone => exact ((fr_execLaneEyeDone _ _ s).out t h).fuses.resolve_left (by decide)
  case laneRead => exact ((fr_execLaneRead _ s).out t h).fuses.resolve_left (by decide)
  case layoutChange => exact ((fr_execLayoutChange _ _ s).out t h).fuses.resolve_left (by decide)
  case portAdmin => exact ((fr_execPortAdmin _ s).out t h).fuses.resolve_left (by decide)
  case portGateList => exact ((fr_execPortGateList _ _ s).out t h).fuses.resolve_left (by decide)
  case portRead => exact ((fr_execPortRead _ s).out t h).fuses.resolve_left (by decide)
  case portWdRestore => exact ((fr_execPortWdRestore _ s).out t h).fuses.resolve_left (by decide)
  case blockLock => exact ((fr_execBlockLock _ _ s).out t h).fuses.resolve_left (by decide)
  case lockLoss => exact ((fr_execLockLoss _ _ s).out t h).fuses.resolve_left (by decide)
  case hiBer => exact ((fr_execHiBer _ _ s).out t h).fuses.resolve_left (by decide)
  case upDebounce => exact ((fr_execUpDebounce _ s).out t h).fuses.resolve_left (by decide)
  case remoteFault => exact ((fr_execRemoteFault _ _ s).out t h).fuses.resolve_left (by decide)
  case fecWindow => exact ((fr_execFecWindow _ _ s).out t h).fuses.resolve_left (by decide)
  case frameReceive => exact ((fr_execFrameReceive _ _ _ _ s).out t h).fuses.resolve_left (by decide)
  case pfcFrameReceive => exact ((fr_execPfcFrameReceive _ _ _ _ s).out t h).fuses.resolve_left (by decide)
  case pauseFrameReceive => exact ((fr_execPauseFrameReceive _ _ _ s).out t h).fuses.resolve_left (by decide)
  case pauseTimerExpiry => exact ((fr_execPauseTimerExpiry _ _ s).out t h).fuses.resolve_left (by decide)
  case pfcFrameSend => exact ((fr_execPfcFrameSend _ s).out t h).fuses.resolve_left (by decide)
  case pfcRefresh => exact ((fr_execPfcRefresh _ _ s).out t h).fuses.resolve_left (by decide)
  case pfcWatchdog => exact ((fr_execPfcWatchdog _ _ s).out t h).fuses.resolve_left (by decide)
  case watchdogRestore => exact ((fr_execWatchdogRestore _ _ s).out t h).fuses.resolve_left (by decide)
  case gateTransition => exact ((fr_execGateTransition _ s).out t h).fuses.resolve_left (by decide)
  case gateListSwitch => exact ((fr_execGateListSwitch _ s).out t h).fuses.resolve_left (by decide)
  case sleepEntry => exact ((fr_execSleepEntry _ s).out t h).fuses.resolve_left (by decide)
  case wakePatternEnd => exact ((fr_execWakePatternEnd _ s).out t h).fuses.resolve_left (by decide)
  case frameEnd => exact ((fr_execFrameEnd _ _ _ s).out t h).fuses.resolve_left (by decide)
  case groupEnable => exact ((fr_execGroupEnable _ _ s).out t h).fuses.resolve_left (by decide)
  case groupDisable => exact ((fr_execGroupDisable _ _ s).out t h).fuses.resolve_left (by decide)
  case frameStartPattern => exact ((fr_execFrameStartPattern _ _ _ s).out t h).fuses.resolve_left (by decide)
  case overheadPosition => exact ((fr_execOverheadPosition _ _ _ _ s).out t h).fuses.resolve_left (by decide)
  case multiframeLock => exact ((fr_execMultiframeLock _ _ _ s).out t h).fuses.resolve_left (by decide)
  case overheadFrame => exact ((fr_execOverheadFrame _ _ _ s).out t h).fuses.resolve_left (by decide)
  case calendarSwitch => exact ((fr_execCalendarSwitch _ s).out t h).fuses.resolve_left (by decide)
  case calSwitchTimeout => exact ((fr_execCalSwitchTimeout _ s).out t h).fuses.resolve_left (by decide)
  case rxCalendarSwitch => exact ((fr_execRxCalendarSwitch _ s).out t h).fuses.resolve_left (by decide)
  case pmSecond => exact ((fr_execPmSecond _ s).out t h).fuses.resolve_left (by decide)
  case pmBinBoundary => exact ((fr_execPmBinBoundary _ s).out t h).fuses.resolve_left (by decide)
  case slotGroupMembers => exact ((fr_execSlotGroupMembers _ _ s).out t h).fuses.resolve_left (by decide)
  case slotClientSet => exact ((fr_execSlotClientSet _ s).out t h).fuses.resolve_left (by decide)
  case slotCmWrite => exact ((fr_execSlotCmWrite _ _ s).out t h).fuses.resolve_left (by decide)
  case slotCalSwitch => exact ((fr_execSlotCalSwitch _ s).out t h).fuses.resolve_left (by decide)
  case slotPmRead => exact ((fr_execSlotPmRead _ s).out t h).fuses.resolve_left (by decide)
  case slotGroupRead => exact ((fr_execSlotGroupRead _ s).out t h).fuses.resolve_left (by decide)
  case parseThreadAssign => exact ((fr_execParseThreadAssign _ s).out t h).fuses.resolve_left (by decide)
  case parseWord => exact ((fr_execParseWord _ s).out t h).fuses.resolve_left (by decide)
  case ingressStages => exact ((fr_execIngressStages _ s).out t h).fuses.resolve_left (by decide)
  case admission => exact ((fr_execAdmission _ s).out t h).fuses.resolve_left (by decide)
  case remainingCells => exact ((fr_execRemainingCells _ _ s).out t h).fuses.resolve_left (by decide)
  case replication => exact ((fr_execReplication _ _ s).out t h).fuses.resolve_left (by decide)
  case dequeueDecision => exact ((fr_execDequeueDecision _ s).out t h).fuses.resolve_left (by decide)
  case egressStages => exact ((fr_execEgressStages _ _ s).out t h).fuses.resolve_left (by decide)
  case transmitEnd => exact ((fr_execTransmitEnd _ s).out t h).fuses.resolve_left (by decide)
  case queueFlush => exact ((fr_execQueueFlush _ s).out t h).fuses.resolve_left (by decide)
  case emInsert => exact ((fr_execEmInsert _ s).out t h).fuses.resolve_left (by decide)
  case emDelete => exact ((fr_execEmDelete _ s).out t h).fuses.resolve_left (by decide)
  case emLookup => exact ((fr_execEmLookup _ s).out t h).fuses.resolve_left (by decide)
  case emRead => exact ((fr_execEmRead _ s).out t h).fuses.resolve_left (by decide)
  case lpmAdd => exact ((fr_execLpmAdd _ s).out t h).fuses.resolve_left (by decide)
  case lpmDelete => exact ((fr_execLpmDelete _ s).out t h).fuses.resolve_left (by decide)
  case lpmLookup => exact ((fr_execLpmLookup _ s).out t h).fuses.resolve_left (by decide)
  case tcamWrite => exact ((fr_execTcamWrite _ _ s).out t h).fuses.resolve_left (by decide)
  case tcamRead => exact ((fr_execTcamRead _ s).out t h).fuses.resolve_left (by decide)
  case ecmpGroupWrite => exact ((fr_execEcmpGroupWrite _ s).out t h).fuses.resolve_left (by decide)
  case memberWrite => exact ((fr_execMemberWrite _ _ s).out t h).fuses.resolve_left (by decide)
  case nexthopWrite => exact ((fr_execNexthopWrite _ _ s).out t h).fuses.resolve_left (by decide)
  case ecmpRead => exact ((fr_execEcmpRead _ s).out t h).fuses.resolve_left (by decide)
  case shadowCheck => exact ((fr_execShadowCheck _ _ s).out t h).fuses.resolve_left (by decide)
  case tableStat => exact ((fr_execTableStat _ s).out t h).fuses.resolve_left (by decide)
  case classifyWrite => exact ((fr_execClassifyWrite _ _ s).out t h).fuses.resolve_left (by decide)
  case endpointWrite => exact ((fr_execEndpointWrite _ s).out t h).fuses.resolve_left (by decide)
  case learnHoldoffExpiry => exact ((fr_execLearnHoldoffExpiry _ _ s).out t h).fuses.resolve_left (by decide)
  case learnRateWindow => exact ((fr_execLearnRateWindow s).out t h).fuses.resolve_left (by decide)
  case nextHopDown => exact ((fr_execNextHopDown _ s).out t h).fuses.resolve_left (by decide)
  case nextHopUp => exact ((fr_execNextHopUp _ s).out t h).fuses.resolve_left (by decide)
  case editWrite => exact ((fr_execEditWrite _ _ s).out t h).fuses.resolve_left (by decide)
  case mcastWrite => exact ((fr_execMcastWrite _ _ s).out t h).fuses.resolve_left (by decide)
  case mirrorWrite => exact ((fr_execMirrorWrite _ s).out t h).fuses.resolve_left (by decide)
  case egressWrite => exact ((fr_execEgressWrite _ _ s).out t h).fuses.resolve_left (by decide)
  case parseRead => exact ((fr_execParseRead _ s).out t h).fuses.resolve_left (by decide)
  case spillAssemblyTimeout => exact ((fr_execSpillAssemblyTimeout _ s).out t h).fuses.resolve_left (by decide)
  case readbackStart => exact ((fr_execReadbackStart _ s).out t h).fuses.resolve_left (by decide)
  case blockReadDone => exact ((fr_execBlockReadDone _ _ s).out t h).fuses.resolve_left (by decide)
  case bufProfileWrite => exact ((fr_execBufProfileWrite _ _ s).out t h).fuses.resolve_left (by decide)
  case bufQueueMap => exact ((fr_execBufQueueMap _ _ s).out t h).fuses.resolve_left (by decide)
  case bufPortWrite => exact ((fr_execBufPortWrite _ _ s).out t h).fuses.resolve_left (by decide)
  case bufQueueRead => exact ((fr_execBufQueueRead _ s).out t h).fuses.resolve_left (by decide)
  case shaperTick => exact ((fr_execShaperTick _ s).out t h).fuses.resolve_left (by decide)
  case wheelSlotDue => exact ((fr_execWheelSlotDue _ s).out t h).fuses.resolve_left (by decide)
  case overflowSlotDue => exact ((fr_execOverflowSlotDue _ s).out t h).fuses.resolve_left (by decide)
  case depthSample => exact ((fr_execDepthSample s).out t h).fuses.resolve_left (by decide)
  case sampleWindowClose => exact ((fr_execSampleWindowClose s).out t h).fuses.resolve_left (by decide)
  case schPortWrite => exact ((fr_execSchPortWrite _ _ s).out t h).fuses.resolve_left (by decide)
  case schShaperWrite => exact ((fr_execSchShaperWrite _ _ s).out t h).fuses.resolve_left (by decide)
  case schMeterWrite => exact ((fr_execSchMeterWrite _ _ s).out t h).fuses.resolve_left (by decide)
  case schSampleRead => exact ((fr_execSchSampleRead _ s).out t h).fuses.resolve_left (by decide)
  case contrib => exact ((fr_execContrib _ s).out t h).fuses.resolve_left (by decide)
  case result => exact ((fr_execResult _ s).out t h).fuses.resolve_left (by decide)
  case resend => exact ((fr_execResend _ s).out t h).fuses.resolve_left (by decide)
  case resultReq => exact ((fr_execResultReq _ s).out t h).fuses.resolve_left (by decide)
  case wait => exact ((fr_execWait _ s).out t h).fuses.resolve_left (by decide)
  case pace => exact ((fr_execPace _ s).out t h).fuses.resolve_left (by decide)
  case paceSet => exact ((fr_execPaceSet _ s).out t h).fuses.resolve_left (by decide)
  case straggler => exact ((fr_execStraggler _ s).out t h).fuses.resolve_left (by decide)
  case abort => exact ((fr_execAbort _ s).out t h).fuses.resolve_left (by decide)
  case slotTimerExpiry => exact ((fr_execSlotTimerExpiry _ _ s).out t h).fuses.resolve_left (by decide)
  case emittedTimerExpiry => exact ((fr_execEmittedTimerExpiry _ _ s).out t h).fuses.resolve_left (by decide)
  case epochBoundary => exact ((fr_execEpochBoundary _ s).out t h).fuses.resolve_left (by decide)
  case slotRestore => exact ((fr_execSlotRestore _ _ s).out t h).fuses.resolve_left (by decide)
  case clusterStepChangeDone => exact ((fr_execClusterStepChangeDone _ s).out t h).fuses.resolve_left (by decide)
  case jobMoveDone => exact ((fr_execJobMoveDone _ s).out t h).fuses.resolve_left (by decide)
  case colJobCreate => exact ((fr_execColJobCreate _ _ s).out t h).fuses.resolve_left (by decide)
  case colJobDestroy => exact ((fr_execColJobDestroy _ s).out t h).fuses.resolve_left (by decide)
  case colJobRead => exact ((fr_execColJobRead _ s).out t h).fuses.resolve_left (by decide)
  case colJobMove => exact ((fr_execColJobMove _ s).out t h).fuses.resolve_left (by decide)
  case colPacePropose => exact ((fr_execColPacePropose _ s).out t h).fuses.resolve_left (by decide)
  case poolGrant => exact ((fr_execPoolGrant _ s).out t h).fuses.resolve_left (by decide)
  case poolCtrlEnable => exact ((fr_execPoolCtrlEnable _ s).out t h).fuses.resolve_left (by decide)
  case bufferTestDone => exact ((fr_execBufferTestDone _ _ s).out t h).fuses.resolve_left (by decide)
  case poolAlloc => exact ((fr_execPoolAlloc _ s).out t h).fuses.resolve_left (by decide)
  case poolFree => exact ((fr_execPoolFree _ s).out t h).fuses.resolve_left (by decide)
  case poolTransfer => exact ((fr_execPoolTransfer _ s).out t h).fuses.resolve_left (by decide)
  case poolState => exact ((fr_execPoolState _ s).out t h).fuses.resolve_left (by decide)
  case poolOwnerFreeAll => exact ((fr_execPoolOwnerFreeAll _ s).out t h).fuses.resolve_left (by decide)
  case poolCopy => exact ((fr_execPoolCopy _ _ s).out t h).fuses.resolve_left (by decide)
  case seqWord => exact ((fr_execSeqWord _ s).out t h).fuses.resolve_left (by decide)
  case waitEnd => exact ((fr_execWaitEnd _ _ s).out t h).fuses.resolve_left (by decide)
  case waitTimeout => exact ((fr_execWaitTimeout _ _ s).out t h).fuses.resolve_left (by decide)
  case routineTrigger => exact ((fr_execRoutineTrigger _ s).out t h).fuses.resolve_left (by decide)
  case blockOpDone => exact ((fr_execBlockOpDone _ _ _ s).out t h).fuses.resolve_left (by decide)
  case storeRepair => exact ((fr_execStoreRepair _ s).out t h).fuses.resolve_left (by decide)
  case stopTimeout => exact ((fr_execStopTimeout _ s).out t h).fuses.resolve_left (by decide)
  case noIssueTimeout => exact ((fr_execNoIssueTimeout _ s).out t h).fuses.resolve_left (by decide)
  case seqLoad => exact ((fr_execSeqLoad _ _ s).out t h).fuses.resolve_left (by decide)
  case seqRoutineSet => exact ((fr_execSeqRoutineSet _ s).out t h).fuses.resolve_left (by decide)
  case seqRun => exact ((fr_execSeqRun _ s).out t h).fuses.resolve_left (by decide)
  case seqStop => exact ((fr_execSeqStop _ s).out t h).fuses.resolve_left (by decide)
  case seqFrameRead => exact ((fr_execSeqFrameRead _ s).out t h).fuses.resolve_left (by decide)
  case seqResume => exact ((fr_execSeqResume _ s).out t h).fuses.resolve_left (by decide)
  case seqStoreRead => exact ((fr_execSeqStoreRead _ s).out t h).fuses.resolve_left (by decide)
  case periodicRetrain => exact ((fr_execPeriodicRetrain _ s).out t h).fuses.resolve_left (by decide)
  case retrainRetry => exact ((fr_execRetrainRetry _ s).out t h).fuses.resolve_left (by decide)
  case refresh => exact ((fr_execRefresh _ _ _ s).out t h).fuses.resolve_left (by decide)
  case selfRefreshEntry => exact ((fr_execSelfRefreshEntry _ s).out t h).fuses.resolve_left (by decide)
  case scrubRead => exact ((fr_execScrubRead _ _ _ s).out t h).fuses.resolve_left (by decide)
  case halfReady => exact ((fr_execHalfReady _ s).out t h).fuses.resolve_left (by decide)
  case tbEnable => exact ((fr_execTbEnable _ _ s).out t h).fuses.resolve_left (by decide)
  case tbDisable => exact ((fr_execTbDisable _ _ s).out t h).fuses.resolve_left (by decide)
  case slewDisable => exact ((fr_execSlewDisable _ _ s).out t h).fuses.resolve_left (by decide)
  case slewComplete => exact ((fr_execSlewComplete _ s).out t h).fuses.resolve_left (by decide)
  case clk10Loss => exact ((fr_execClk10Loss _ s).out t h).fuses.resolve_left (by decide)
  case holdoverExit => exact ((fr_execHoldoverExit _ s).out t h).fuses.resolve_left (by decide)
  case secondBoundary => exact ((fr_execSecondBoundary _ s).out t h).fuses.resolve_left (by decide)
  case ppsInEdge => exact ((fr_execPpsInEdge _ s).out t h).fuses.resolve_left (by decide)
  case ppsInMissing => exact ((fr_execPpsInMissing s).out t h).fuses.resolve_left (by decide)
  case tsEventEdge => exact ((fr_execTsEventEdge _ _ s).out t h).fuses.resolve_left (by decide)
  case todMessage => exact ((fr_execTodMessage _ s).out t h).fuses.resolve_left (by decide)
  case timeRead => exact ((fr_execTimeRead _ s).out t h).fuses.resolve_left (by decide)
  case timeSet => exact ((fr_execTimeSet _ s).out t h).fuses.resolve_left (by decide)
  case timeAdjust => exact ((fr_execTimeAdjust _ s).out t h).fuses.resolve_left (by decide)
  case timeTrim => exact ((fr_execTimeTrim _ s).out t h).fuses.resolve_left (by decide)
  case pairSwitch => exact ((fr_execPairSwitch _ s).out t h).fuses.resolve_left (by decide)
  case snapshotInstant => exact ((fr_execSnapshotInstant _ s).out t h).fuses.resolve_left (by decide)
  case dumpComplete => exact ((fr_execDumpComplete _ _ s).out t h).fuses.resolve_left (by decide)
  case gauzeRecordWrite => exact ((fr_execGauzeRecordWrite s).out t h).fuses.resolve_left (by decide)
  case gauzeEnable => exact ((fr_execGauzeEnable _ s).out t h).fuses.resolve_left (by decide)
  case ctrSetWrite => exact ((fr_execCtrSetWrite _ s).out t h).fuses.resolve_left (by decide)
  case ctrRead => exact ((fr_execCtrRead _ s).out t h).fuses.resolve_left (by decide)
  case ctrClear => exact ((fr_execCtrClear _ s).out t h).fuses.resolve_left (by decide)
  case ctrDumpNow => exact ((fr_execCtrDumpNow _ s).out t h).fuses.resolve_left (by decide)
  case gauzeRelease => exact ((fr_execGauzeRelease _ s).out t h).fuses.resolve_left (by decide)
  case ioamSink => exact ((fr_execIoamSink _ _ s).out t h).fuses.resolve_left (by decide)
  case powerSample => exact ((fr_execPowerSample _ s).out t h).fuses.resolve_left (by decide)
  case pmbusRead => exact ((fr_execPmbusRead _ s).out t h).fuses.resolve_left (by decide)
  case throttleRaise => exact ((fr_execThrottleRaise s).out t h).fuses.resolve_left (by decide)
  case railReached => exact ((fr_execRailReached _ _ s).out t h).fuses.resolve_left (by decide)
  case droopTrip => exact ((fr_execDroopTrip _ _ s).out t h).fuses.resolve_left (by decide)
  case droopReturn => exact ((fr_execDroopReturn _ s).out t h).fuses.resolve_left (by decide)
  case droopRecalibration => exact ((fr_execDroopRecalibration _ s).out t h).fuses.resolve_left (by decide)
  case vrAlert => exact ((fr_execVrAlert _ _ s).out t h).fuses.resolve_left (by decide)
  case vrAlertClear => exact ((fr_execVrAlertClear s).out t h).fuses.resolve_left (by decide)
  case sensorRead => exact ((fr_execSensorRead _ s).out t h).fuses.resolve_left (by decide)
  case thermalRecovery => exact ((fr_execThermalRecovery _ s).out t h).fuses.resolve_left (by decide)
  case thermalTrip => exact ((fr_execThermalTrip _ s).out t h).fuses.resolve_left (by decide)
  case domainPowerDownDone => exact ((fr_execDomainPowerDownDone _ s).out t h).fuses.resolve_left (by decide)
  case pwrDomain => exact ((fr_execPwrDomain _ s).out t h).fuses.resolve_left (by decide)
  case pwrLimitSet => exact ((fr_execPwrLimitSet _ s).out t h).fuses.resolve_left (by decide)
  case pwrRead => exact ((fr_execPwrRead _ s).out t h).fuses.resolve_left (by decide)
  case pwrPmbus => exact ((fr_execPwrPmbus _ _ s).out t h).fuses.resolve_left (by decide)
  case recordFormation => exact ((fr_execRecordFormation _ s).out t h).fuses.resolve_left (by decide)
  case conditionClear => exact ((fr_execConditionClear _ _ _ s).out t h).fuses.resolve_left (by decide)
  case fenceComplete => exact ((fr_execFenceComplete _ _ s).out t h).fuses.resolve_left (by decide)
  case testEnd => exact ((fr_execTestEnd _ _ _ s).out t h).fuses.resolve_left (by decide)
  case aliveToggle => exact ((fr_execAliveToggle s).out t h).fuses.resolve_left (by decide)
  case clockMonitorWindow => exact ((fr_execClockMonitorWindow _ _ s).out t h).fuses.resolve_left (by decide)
  case resetReq => exact ((fr_execResetReq _ _ s).out t h).fuses.resolve_left (by decide)
  case faultAck => exact ((fr_execFaultAck _ s).out t h).fuses.resolve_left (by decide)
  case faultRead => exact ((fr_execFaultRead _ s).out t h).fuses.resolve_left (by decide)
  case faultClassSet => exact ((fr_execFaultClassSet _ s).out t h).fuses.resolve_left (by decide)
  case unitFence => exact ((fr_execUnitFence _ s).out t h).fuses.resolve_left (by decide)
  case unitTest => exact ((fr_execUnitTest _ s).out t h).fuses.resolve_left (by decide)
  case unitReturn => exact ((fr_execUnitReturn _ s).out t h).fuses.resolve_left (by decide)
  case firstClear => exact ((fr_execFirstClear _ s).out t h).fuses.resolve_left (by decide)
  case diagTest => exact ((fr_execDiagTest _ _ s).out t h).fuses.resolve_left (by decide)
  case vddAonGood => exact ((fr_execVddAonGood _ s).out t h).fuses.resolve_left (by decide)
  case vddAonLost => exact ((fr_execVddAonLost s).out t h).fuses.resolve_left (by decide)
  case railResetLevel => exact ((fr_execRailResetLevel _ s).out t h).fuses.resolve_left (by decide)
  case resetNAssert => exact ((fr_execResetNAssert s).out t h).fuses.resolve_left (by decide)
  case resetNRelease => exact ((fr_execResetNRelease _ _ s).out t h).fuses.resolve_left (by decide)
  case wipeComplete => exact ((fr_execWipeComplete _ s).out t h).fuses.resolve_left (by decide)
  case bootImageAccepted => exact ((fr_execBootImageAccepted _ _ s).out t h).fuses.resolve_left (by decide)
  case hostBootGo => exact ((fr_execHostBootGo _ s).out t h).fuses.resolve_left (by decide)
  case hostImageChecked => exact ((fr_execHostImageChecked _ s).out t h).fuses.resolve_left (by decide)
  case drainEnd => exact ((fr_execDrainEnd s).out t h).fuses.resolve_left (by decide)
  case drainLimit => exact ((fr_execDrainLimit s).out t h).fuses.resolve_left (by decide)
  case nonceExpiry => exact ((fr_execNonceExpiry s).out t h).fuses.resolve_left (by decide)
  case modeSet => exact ((fr_execModeSet _ s).out t h).fuses.resolve_left (by decide)
  case sysReset => exact ((fr_execSysReset _ s).out t h).fuses.resolve_left (by decide)
  case lcAdvance => cases hc
  case rollbackAdvance => cases hc
  case debugChallenge => exact ((fr_execDebugChallenge _ s).out t h).fuses.resolve_left (by decide)
  case debugUnlock => exact ((fr_execDebugUnlock _ _ s).out t h).fuses.resolve_left (by decide)
  case flashWrite => exact ((fr_execFlashWrite _ _ _ s).out t h).fuses.resolve_left (by decide)
  case keyRevoke => cases hc
  case tapInstruction => exact ((fr_execTapInstruction _ _ s).out t h).fuses.resolve_left (by decide)
  case signalDetect => exact ((fr_execSignalDetect _ s).out t h).fuses.resolve_left (by decide)
  case channelTrainingDone => exact ((fr_execChannelTrainingDone _ _ s).out t h).fuses.resolve_left (by decide)
  case noAcceptableImage => exact ((fr_execNoAcceptableImage s).out t h).fuses.resolve_left (by decide)
  case laneGroupClockLock => exact ((fr_execLaneGroupClockLock _ _ s).out t h).fuses.resolve_left (by decide)

/-- The commands that can change the Burlap memory. -/
def burlapRow : Instr → Bool
  | .frameEnd _ _ _ => true
  | .admission _ => true
  | .remainingCells _ _ => true
  | .spillAssemblyTimeout _ => true
  | .readbackStart _ => true
  | .blockReadDone _ _ => true
  | .bufferTestDone _ _ => true
  | .poolCopy _ _ => true
  | .seqWord _ => true
  | .blockOpDone _ _ _ => true
  | .halfReady _ => true
  | .thermalTrip _ => true
  | .domainPowerDownDone _ => true
  | .pwrDomain _ => true
  | .recordFormation _ => true
  | .resetReq _ _ => true
  | .unitReturn _ => true
  | .vddAonGood _ => true
  | .vddAonLost => true
  | .railResetLevel _ => true
  | .resetNAssert => true
  | .resetNRelease _ _ => true
  | .wipeComplete _ => true
  | .sysReset _ => true
  | .lcAdvance _ _ => true
  | .debugUnlock _ _ => true
  | _ => false

theorem exec_burlap {c : Instr} {s t : State} (h : exec c s = .next t) (hc : burlapRow c = false) :
    t.mem.burlap = s.mem.burlap := by
  cases c
  case registerWrite => exact ((fr_execRegisterWrite _ _ _ s).out t h).burlap.resolve_left (by decide)
  case registerReadClear => exact ((fr_execRegisterReadClear _ s).out t h).burlap.resolve_left (by decide)
  case lowWordRead => exact ((fr_execLowWordRead _ s).out t h).burlap.resolve_left (by decide)
  case ringEnable => exact ((fr_execRingEnable _ _ s).out t h).burlap.resolve_left (by decide)
  case ringDisable => exact ((fr_execRingDisable _ _ s).out t h).burlap.resolve_left (by decide)
  case doorbell => exact ((fr_execDoorbell _ _ s).out t h).burlap.resolve_left (by decide)
  case arm => exact ((fr_execArm _ _ s).out t h).burlap.resolve_left (by decide)
  case restart => exact ((fr_execRestart _ s).out t h).burlap.resolve_left (by decide)
  case summaryGo => exact ((fr_execSummaryGo s).out t h).burlap.resolve_left (by decide)
  case commandFetch => exact ((fr_execCommandFetch _ s).out t h).burlap.resolve_left (by decide)
  case descriptorFetchError => exact ((fr_execDescriptorFetchError _ s).out t h).burlap.resolve_left (by decide)
  case nop => exact ((fr_execNop _ s).out t h).burlap.resolve_left (by decide)
  case summary => exact ((fr_execSummary _ s).out t h).burlap.resolve_left (by decide)
  case summaryQueueStart => exact ((fr_execSummaryQueueStart s).out t h).burlap.resolve_left (by decide)
  case ringQuiesce => exact ((fr_execRingQuiesce _ s).out t h).burlap.resolve_left (by decide)
  case ringResume => exact ((fr_execRingResume _ s).out t h).burlap.resolve_left (by decide)
  case channelRestart => exact ((fr_execChannelRestart _ s).out t h).burlap.resolve_left (by decide)
  case channelShare => exact ((fr_execChannelShare _ s).out t h).burlap.resolve_left (by decide)
  case eventTest => exact ((fr_execEventTest _ s).out t h).burlap.resolve_left (by decide)
  case eventWrite => exact ((fr_execEventWrite _ s).out t h).burlap.resolve_left (by decide)
  case burstStart => exact ((fr_execBurstStart _ _ s).out t h).burlap.resolve_left (by decide)
  case descriptorComplete => exact ((fr_execDescriptorComplete _ s).out t h).burlap.resolve_left (by decide)
  case flushReadReturn => exact ((fr_execFlushReadReturn _ _ _ _ s).out t h).burlap.resolve_left (by decide)
  case lateError => exact ((fr_execLateError _ _ _ s).out t h).burlap.resolve_left (by decide)
  case powerDeferLimit => exact ((fr_execPowerDeferLimit _ s).out t h).burlap.resolve_left (by decide)
  case injectDescriptorFetch => exact ((fr_execInjectDescriptorFetch _ _ s).out t h).burlap.resolve_left (by decide)
  case injectBufferReadDone => exact ((fr_execInjectBufferReadDone _ _ s).out t h).burlap.resolve_left (by decide)
  case hostReadError => exact ((fr_execHostReadError _ _ _ s).out t h).burlap.resolve_left (by decide)
  case puntBufferWrite => exact ((fr_execPuntBufferWrite _ _ s).out t h).burlap.resolve_left (by decide)
  case hostLinkChange => exact ((fr_execHostLinkChange _ _ _ s).out t h).burlap.resolve_left (by decide)
  case hostLinkDown => exact ((fr_execHostLinkDown s).out t h).burlap.resolve_left (by decide)
  case perstNAssert => exact ((fr_execPerstNAssert s).out t h).burlap.resolve_left (by decide)
  case perstNRelease => exact ((fr_execPerstNRelease s).out t h).burlap.resolve_left (by decide)
  case macroEnable => exact ((fr_execMacroEnable _ _ s).out t h).burlap.resolve_left (by decide)
  case macroDisable => exact ((fr_execMacroDisable _ _ s).out t h).burlap.resolve_left (by decide)
  case macroRateChange => exact ((fr_execMacroRateChange _ _ s).out t h).burlap.resolve_left (by decide)
  case txDisable => exact ((fr_execTxDisable _ _ s).out t h).burlap.resolve_left (by decide)
  case pllLock => exact ((fr_execPllLock _ s).out t h).burlap.resolve_left (by decide)
  case calibrationDone => exact ((fr_execCalibrationDone _ _ _ s).out t h).burlap.resolve_left (by decide)
  case negotiationComplete => exact ((fr_execNegotiationComplete _ _ s).out t h).burlap.resolve_left (by decide)
  case anTimeout => exact ((fr_execAnTimeout _ s).out t h).burlap.resolve_left (by decide)
  case trainRetry => exact ((fr_execTrainRetry _ s).out t h).burlap.resolve_left (by decide)
  case tapRequest => exact ((fr_execTapRequest _ _ _ s).out t h).burlap.resolve_left (by decide)
  case receiversReady => exact ((fr_execReceiversReady _ _ s).out t h).burlap.resolve_left (by decide)
  case trainTimeout => exact ((fr_execTrainTimeout _ _ s).out t h).burlap.resolve_left (by decide)
  case adaptationConverged => exact ((fr_execAdaptationConverged _ _ s).out t h).burlap.resolve_left (by decide)
  case adaptTimeout => exact ((fr_execAdaptTimeout _ s).out t h).burlap.resolve_left (by decide)
  case laneLoss => exact ((fr_execLaneLoss _ _ s).out t h).burlap.resolve_left (by decide)
  case wakeDeclared => exact ((fr_execWakeDeclared _ s).out t h).burlap.resolve_left (by decide)
  case wakeSnrOk => exact ((fr_execWakeSnrOk _ _ s).out t h).burlap.resolve_left (by decide)
  case wakeTimeout => exact ((fr_execWakeTimeout _ _ s).out t h).burlap.resolve_left (by decide)
  case backgroundCtleStep => exact ((fr_execBackgroundCtleStep _ _ _ s).out t h).burlap.resolve_left (by decide)
  case laneRetrain => exact ((fr_execLaneRetrain _ s).out t h).burlap.resolve_left (by decide)
  case laneTest => exact ((fr_execLaneTest _ s).out t h).burlap.resolve_left (by decide)
  case laneEye => exact ((fr_execLaneEye _ s).out t h).burlap.resolve_left (by decide)
  case laneEyeDone => exact ((fr_execLaneEyeDone _ _ s).out t h).burlap.resolve_left (by decide)
  case laneRead => exact ((fr_execLaneRead _ s).out t h).burlap.resolve_left (by decide)
  case layoutChange => exact ((fr_execLayoutChange _ _ s).out t h).burlap.resolve_left (by decide)
  case portAdmin => exact ((fr_execPortAdmin _ s).out t h).burlap.resolve_left (by decide)
  case portGateList => exact ((fr_execPortGateList _ _ s).out t h).burlap.resolve_left (by decide)
  case portRead => exact ((fr_execPortRead _ s).out t h).burlap.resolve_left (by decide)
  case portWdRestore => exact ((fr_execPortWdRestore _ s).out t h).burlap.resolve_left (by decide)
  case blockLock => exact ((fr_execBlockLock _ _ s).out t h).burlap.resolve_left (by decide)
  case lockLoss => exact ((fr_execLockLoss _ _ s).out t h).burlap.resolve_left (by decide)
  case hiBer => exact ((fr_execHiBer _ _ s).out t h).burlap.resolve_left (by decide)
  case upDebounce => exact ((fr_execUpDebounce _ s).out t h).burlap.resolve_left (by decide)
  case remoteFault => exact ((fr_execRemoteFault _ _ s).out t h).burlap.resolve_left (by decide)
  case fecWindow => exact ((fr_execFecWindow _ _ s).out t h).burlap.resolve_left (by decide)
  case frameReceive => exact ((fr_execFrameReceive _ _ _ _ s).out t h).burlap.resolve_left (by decide)
  case pfcFrameReceive => exact ((fr_execPfcFrameReceive _ _ _ _ s).out t h).burlap.resolve_left (by decide)
  case pauseFrameReceive => exact ((fr_execPauseFrameReceive _ _ _ s).out t h).burlap.resolve_left (by decide)
  case pauseTimerExpiry => exact ((fr_execPauseTimerExpiry _ _ s).out t h).burlap.resolve_left (by decide)
  case pfcFrameSend => exact ((fr_execPfcFrameSend _ s).out t h).burlap.resolve_left (by decide)
  case pfcRefresh => exact ((fr_execPfcRefresh _ _ s).out t h).burlap.resolve_left (by decide)
  case pfcWatchdog => exact ((fr_execPfcWatchdog _ _ s).out t h).burlap.resolve_left (by decide)
  case watchdogRestore => exact ((fr_execWatchdogRestore _ _ s).out t h).burlap.resolve_left (by decide)
  case gateTransition => exact ((fr_execGateTransition _ s).out t h).burlap.resolve_left (by decide)
  case gateListSwitch => exact ((fr_execGateListSwitch _ s).out t h).burlap.resolve_left (by decide)
  case sleepEntry => exact ((fr_execSleepEntry _ s).out t h).burlap.resolve_left (by decide)
  case wakePatternEnd => exact ((fr_execWakePatternEnd _ s).out t h).burlap.resolve_left (by decide)
  case frameEnd => cases hc
  case groupEnable => exact ((fr_execGroupEnable _ _ s).out t h).burlap.resolve_left (by decide)
  case groupDisable => exact ((fr_execGroupDisable _ _ s).out t h).burlap.resolve_left (by decide)
  case frameStartPattern => exact ((fr_execFrameStartPattern _ _ _ s).out t h).burlap.resolve_left (by decide)
  case overheadPosition => exact ((fr_execOverheadPosition _ _ _ _ s).out t h).burlap.resolve_left (by decide)
  case multiframeLock => exact ((fr_execMultiframeLock _ _ _ s).out t h).burlap.resolve_left (by decide)
  case overheadFrame => exact ((fr_execOverheadFrame _ _ _ s).out t h).burlap.resolve_left (by decide)
  case calendarSwitch => exact ((fr_execCalendarSwitch _ s).out t h).burlap.resolve_left (by decide)
  case calSwitchTimeout => exact ((fr_execCalSwitchTimeout _ s).out t h).burlap.resolve_left (by decide)
  case rxCalendarSwitch => exact ((fr_execRxCalendarSwitch _ s).out t h).burlap.resolve_left (by decide)
  case pmSecond => exact ((fr_execPmSecond _ s).out t h).burlap.resolve_left (by decide)
  case pmBinBoundary => exact ((fr_execPmBinBoundary _ s).out t h).burlap.resolve_left (by decide)
  case slotGroupMembers => exact ((fr_execSlotGroupMembers _ _ s).out t h).burlap.resolve_left (by decide)
  case slotClientSet => exact ((fr_execSlotClientSet _ s).out t h).burlap.resolve_left (by decide)
  case slotCmWrite => exact ((fr_execSlotCmWrite _ _ s).out t h).burlap.resolve_left (by decide)
  case slotCalSwitch => exact ((fr_execSlotCalSwitch _ s).out t h).burlap.resolve_left (by decide)
  case slotPmRead => exact ((fr_execSlotPmRead _ s).out t h).burlap.resolve_left (by decide)
  case slotGroupRead => exact ((fr_execSlotGroupRead _ s).out t h).burlap.resolve_left (by decide)
  case parseThreadAssign => exact ((fr_execParseThreadAssign _ s).out t h).burlap.resolve_left (by decide)
  case parseWord => exact ((fr_execParseWord _ s).out t h).burlap.resolve_left (by decide)
  case ingressStages => exact ((fr_execIngressStages _ s).out t h).burlap.resolve_left (by decide)
  case admission => cases hc
  case remainingCells => cases hc
  case replication => exact ((fr_execReplication _ _ s).out t h).burlap.resolve_left (by decide)
  case dequeueDecision => exact ((fr_execDequeueDecision _ s).out t h).burlap.resolve_left (by decide)
  case egressStages => exact ((fr_execEgressStages _ _ s).out t h).burlap.resolve_left (by decide)
  case transmitEnd => exact ((fr_execTransmitEnd _ s).out t h).burlap.resolve_left (by decide)
  case queueFlush => exact ((fr_execQueueFlush _ s).out t h).burlap.resolve_left (by decide)
  case emInsert => exact ((fr_execEmInsert _ s).out t h).burlap.resolve_left (by decide)
  case emDelete => exact ((fr_execEmDelete _ s).out t h).burlap.resolve_left (by decide)
  case emLookup => exact ((fr_execEmLookup _ s).out t h).burlap.resolve_left (by decide)
  case emRead => exact ((fr_execEmRead _ s).out t h).burlap.resolve_left (by decide)
  case lpmAdd => exact ((fr_execLpmAdd _ s).out t h).burlap.resolve_left (by decide)
  case lpmDelete => exact ((fr_execLpmDelete _ s).out t h).burlap.resolve_left (by decide)
  case lpmLookup => exact ((fr_execLpmLookup _ s).out t h).burlap.resolve_left (by decide)
  case tcamWrite => exact ((fr_execTcamWrite _ _ s).out t h).burlap.resolve_left (by decide)
  case tcamRead => exact ((fr_execTcamRead _ s).out t h).burlap.resolve_left (by decide)
  case ecmpGroupWrite => exact ((fr_execEcmpGroupWrite _ s).out t h).burlap.resolve_left (by decide)
  case memberWrite => exact ((fr_execMemberWrite _ _ s).out t h).burlap.resolve_left (by decide)
  case nexthopWrite => exact ((fr_execNexthopWrite _ _ s).out t h).burlap.resolve_left (by decide)
  case ecmpRead => exact ((fr_execEcmpRead _ s).out t h).burlap.resolve_left (by decide)
  case shadowCheck => exact ((fr_execShadowCheck _ _ s).out t h).burlap.resolve_left (by decide)
  case tableStat => exact ((fr_execTableStat _ s).out t h).burlap.resolve_left (by decide)
  case classifyWrite => exact ((fr_execClassifyWrite _ _ s).out t h).burlap.resolve_left (by decide)
  case endpointWrite => exact ((fr_execEndpointWrite _ s).out t h).burlap.resolve_left (by decide)
  case learnHoldoffExpiry => exact ((fr_execLearnHoldoffExpiry _ _ s).out t h).burlap.resolve_left (by decide)
  case learnRateWindow => exact ((fr_execLearnRateWindow s).out t h).burlap.resolve_left (by decide)
  case nextHopDown => exact ((fr_execNextHopDown _ s).out t h).burlap.resolve_left (by decide)
  case nextHopUp => exact ((fr_execNextHopUp _ s).out t h).burlap.resolve_left (by decide)
  case editWrite => exact ((fr_execEditWrite _ _ s).out t h).burlap.resolve_left (by decide)
  case mcastWrite => exact ((fr_execMcastWrite _ _ s).out t h).burlap.resolve_left (by decide)
  case mirrorWrite => exact ((fr_execMirrorWrite _ s).out t h).burlap.resolve_left (by decide)
  case egressWrite => exact ((fr_execEgressWrite _ _ s).out t h).burlap.resolve_left (by decide)
  case parseRead => exact ((fr_execParseRead _ s).out t h).burlap.resolve_left (by decide)
  case spillAssemblyTimeout => cases hc
  case readbackStart => cases hc
  case blockReadDone => cases hc
  case bufProfileWrite => exact ((fr_execBufProfileWrite _ _ s).out t h).burlap.resolve_left (by decide)
  case bufQueueMap => exact ((fr_execBufQueueMap _ _ s).out t h).burlap.resolve_left (by decide)
  case bufPortWrite => exact ((fr_execBufPortWrite _ _ s).out t h).burlap.resolve_left (by decide)
  case bufQueueRead => exact ((fr_execBufQueueRead _ s).out t h).burlap.resolve_left (by decide)
  case shaperTick => exact ((fr_execShaperTick _ s).out t h).burlap.resolve_left (by decide)
  case wheelSlotDue => exact ((fr_execWheelSlotDue _ s).out t h).burlap.resolve_left (by decide)
  case overflowSlotDue => exact ((fr_execOverflowSlotDue _ s).out t h).burlap.resolve_left (by decide)
  case depthSample => exact ((fr_execDepthSample s).out t h).burlap.resolve_left (by decide)
  case sampleWindowClose => exact ((fr_execSampleWindowClose s).out t h).burlap.resolve_left (by decide)
  case schPortWrite => exact ((fr_execSchPortWrite _ _ s).out t h).burlap.resolve_left (by decide)
  case schShaperWrite => exact ((fr_execSchShaperWrite _ _ s).out t h).burlap.resolve_left (by decide)
  case schMeterWrite => exact ((fr_execSchMeterWrite _ _ s).out t h).burlap.resolve_left (by decide)
  case schSampleRead => exact ((fr_execSchSampleRead _ s).out t h).burlap.resolve_left (by decide)
  case contrib => exact ((fr_execContrib _ s).out t h).burlap.resolve_left (by decide)
  case result => exact ((fr_execResult _ s).out t h).burlap.resolve_left (by decide)
  case resend => exact ((fr_execResend _ s).out t h).burlap.resolve_left (by decide)
  case resultReq => exact ((fr_execResultReq _ s).out t h).burlap.resolve_left (by decide)
  case wait => exact ((fr_execWait _ s).out t h).burlap.resolve_left (by decide)
  case pace => exact ((fr_execPace _ s).out t h).burlap.resolve_left (by decide)
  case paceSet => exact ((fr_execPaceSet _ s).out t h).burlap.resolve_left (by decide)
  case straggler => exact ((fr_execStraggler _ s).out t h).burlap.resolve_left (by decide)
  case abort => exact ((fr_execAbort _ s).out t h).burlap.resolve_left (by decide)
  case slotTimerExpiry => exact ((fr_execSlotTimerExpiry _ _ s).out t h).burlap.resolve_left (by decide)
  case emittedTimerExpiry => exact ((fr_execEmittedTimerExpiry _ _ s).out t h).burlap.resolve_left (by decide)
  case epochBoundary => exact ((fr_execEpochBoundary _ s).out t h).burlap.resolve_left (by decide)
  case slotRestore => exact ((fr_execSlotRestore _ _ s).out t h).burlap.resolve_left (by decide)
  case clusterStepChangeDone => exact ((fr_execClusterStepChangeDone _ s).out t h).burlap.resolve_left (by decide)
  case jobMoveDone => exact ((fr_execJobMoveDone _ s).out t h).burlap.resolve_left (by decide)
  case colJobCreate => exact ((fr_execColJobCreate _ _ s).out t h).burlap.resolve_left (by decide)
  case colJobDestroy => exact ((fr_execColJobDestroy _ s).out t h).burlap.resolve_left (by decide)
  case colJobRead => exact ((fr_execColJobRead _ s).out t h).burlap.resolve_left (by decide)
  case colJobMove => exact ((fr_execColJobMove _ s).out t h).burlap.resolve_left (by decide)
  case colPacePropose => exact ((fr_execColPacePropose _ s).out t h).burlap.resolve_left (by decide)
  case poolGrant => exact ((fr_execPoolGrant _ s).out t h).burlap.resolve_left (by decide)
  case poolCtrlEnable => exact ((fr_execPoolCtrlEnable _ s).out t h).burlap.resolve_left (by decide)
  case bufferTestDone => cases hc
  case poolAlloc => exact ((fr_execPoolAlloc _ s).out t h).burlap.resolve_left (by decide)
  case poolFree => exact ((fr_execPoolFree _ s).out t h).burlap.resolve_left (by decide)
  case poolTransfer => exact ((fr_execPoolTransfer _ s).out t h).burlap.resolve_left (by decide)
  case poolState => exact ((fr_execPoolState _ s).out t h).burlap.resolve_left (by decide)
  case poolOwnerFreeAll => exact ((fr_execPoolOwnerFreeAll _ s).out t h).burlap.resolve_left (by decide)
  case poolCopy => cases hc
  case seqWord => cases hc
  case waitEnd => exact ((fr_execWaitEnd _ _ s).out t h).burlap.resolve_left (by decide)
  case waitTimeout => exact ((fr_execWaitTimeout _ _ s).out t h).burlap.resolve_left (by decide)
  case routineTrigger => exact ((fr_execRoutineTrigger _ s).out t h).burlap.resolve_left (by decide)
  case blockOpDone => cases hc
  case storeRepair => exact ((fr_execStoreRepair _ s).out t h).burlap.resolve_left (by decide)
  case stopTimeout => exact ((fr_execStopTimeout _ s).out t h).burlap.resolve_left (by decide)
  case noIssueTimeout => exact ((fr_execNoIssueTimeout _ s).out t h).burlap.resolve_left (by decide)
  case seqLoad => exact ((fr_execSeqLoad _ _ s).out t h).burlap.resolve_left (by decide)
  case seqRoutineSet => exact ((fr_execSeqRoutineSet _ s).out t h).burlap.resolve_left (by decide)
  case seqRun => exact ((fr_execSeqRun _ s).out t h).burlap.resolve_left (by decide)
  case seqStop => exact ((fr_execSeqStop _ s).out t h).burlap.resolve_left (by decide)
  case seqFrameRead => exact ((fr_execSeqFrameRead _ s).out t h).burlap.resolve_left (by decide)
  case seqResume => exact ((fr_execSeqResume _ s).out t h).burlap.resolve_left (by decide)
  case seqStoreRead => exact ((fr_execSeqStoreRead _ s).out t h).burlap.resolve_left (by decide)
  case periodicRetrain => exact ((fr_execPeriodicRetrain _ s).out t h).burlap.resolve_left (by decide)
  case retrainRetry => exact ((fr_execRetrainRetry _ s).out t h).burlap.resolve_left (by decide)
  case refresh => exact ((fr_execRefresh _ _ _ s).out t h).burlap.resolve_left (by decide)
  case selfRefreshEntry => exact ((fr_execSelfRefreshEntry _ s).out t h).burlap.resolve_left (by decide)
  case scrubRead => exact ((fr_execScrubRead _ _ _ s).out t h).burlap.resolve_left (by decide)
  case halfReady => cases hc
  case tbEnable => exact ((fr_execTbEnable _ _ s).out t h).burlap.resolve_left (by decide)
  case tbDisable => exact ((fr_execTbDisable _ _ s).out t h).burlap.resolve_left (by decide)
  case slewDisable => exact ((fr_execSlewDisable _ _ s).out t h).burlap.resolve_left (by decide)
  case slewComplete => exact ((fr_execSlewComplete _ s).out t h).burlap.resolve_left (by decide)
  case clk10Loss => exact ((fr_execClk10Loss _ s).out t h).burlap.resolve_left (by decide)
  case holdoverExit => exact ((fr_execHoldoverExit _ s).out t h).burlap.resolve_left (by decide)
  case secondBoundary => exact ((fr_execSecondBoundary _ s).out t h).burlap.resolve_left (by decide)
  case ppsInEdge => exact ((fr_execPpsInEdge _ s).out t h).burlap.resolve_left (by decide)
  case ppsInMissing => exact ((fr_execPpsInMissing s).out t h).burlap.resolve_left (by decide)
  case tsEventEdge => exact ((fr_execTsEventEdge _ _ s).out t h).burlap.resolve_left (by decide)
  case todMessage => exact ((fr_execTodMessage _ s).out t h).burlap.resolve_left (by decide)
  case timeRead => exact ((fr_execTimeRead _ s).out t h).burlap.resolve_left (by decide)
  case timeSet => exact ((fr_execTimeSet _ s).out t h).burlap.resolve_left (by decide)
  case timeAdjust => exact ((fr_execTimeAdjust _ s).out t h).burlap.resolve_left (by decide)
  case timeTrim => exact ((fr_execTimeTrim _ s).out t h).burlap.resolve_left (by decide)
  case pairSwitch => exact ((fr_execPairSwitch _ s).out t h).burlap.resolve_left (by decide)
  case snapshotInstant => exact ((fr_execSnapshotInstant _ s).out t h).burlap.resolve_left (by decide)
  case dumpComplete => exact ((fr_execDumpComplete _ _ s).out t h).burlap.resolve_left (by decide)
  case gauzeRecordWrite => exact ((fr_execGauzeRecordWrite s).out t h).burlap.resolve_left (by decide)
  case gauzeEnable => exact ((fr_execGauzeEnable _ s).out t h).burlap.resolve_left (by decide)
  case ctrSetWrite => exact ((fr_execCtrSetWrite _ s).out t h).burlap.resolve_left (by decide)
  case ctrRead => exact ((fr_execCtrRead _ s).out t h).burlap.resolve_left (by decide)
  case ctrClear => exact ((fr_execCtrClear _ s).out t h).burlap.resolve_left (by decide)
  case ctrDumpNow => exact ((fr_execCtrDumpNow _ s).out t h).burlap.resolve_left (by decide)
  case gauzeRelease => exact ((fr_execGauzeRelease _ s).out t h).burlap.resolve_left (by decide)
  case ioamSink => exact ((fr_execIoamSink _ _ s).out t h).burlap.resolve_left (by decide)
  case powerSample => exact ((fr_execPowerSample _ s).out t h).burlap.resolve_left (by decide)
  case pmbusRead => exact ((fr_execPmbusRead _ s).out t h).burlap.resolve_left (by decide)
  case throttleRaise => exact ((fr_execThrottleRaise s).out t h).burlap.resolve_left (by decide)
  case railReached => exact ((fr_execRailReached _ _ s).out t h).burlap.resolve_left (by decide)
  case droopTrip => exact ((fr_execDroopTrip _ _ s).out t h).burlap.resolve_left (by decide)
  case droopReturn => exact ((fr_execDroopReturn _ s).out t h).burlap.resolve_left (by decide)
  case droopRecalibration => exact ((fr_execDroopRecalibration _ s).out t h).burlap.resolve_left (by decide)
  case vrAlert => exact ((fr_execVrAlert _ _ s).out t h).burlap.resolve_left (by decide)
  case vrAlertClear => exact ((fr_execVrAlertClear s).out t h).burlap.resolve_left (by decide)
  case sensorRead => exact ((fr_execSensorRead _ s).out t h).burlap.resolve_left (by decide)
  case thermalRecovery => exact ((fr_execThermalRecovery _ s).out t h).burlap.resolve_left (by decide)
  case thermalTrip => cases hc
  case domainPowerDownDone => cases hc
  case pwrDomain => cases hc
  case pwrLimitSet => exact ((fr_execPwrLimitSet _ s).out t h).burlap.resolve_left (by decide)
  case pwrRead => exact ((fr_execPwrRead _ s).out t h).burlap.resolve_left (by decide)
  case pwrPmbus => exact ((fr_execPwrPmbus _ _ s).out t h).burlap.resolve_left (by decide)
  case recordFormation => cases hc
  case conditionClear => exact ((fr_execConditionClear _ _ _ s).out t h).burlap.resolve_left (by decide)
  case fenceComplete => exact ((fr_execFenceComplete _ _ s).out t h).burlap.resolve_left (by decide)
  case testEnd => exact ((fr_execTestEnd _ _ _ s).out t h).burlap.resolve_left (by decide)
  case aliveToggle => exact ((fr_execAliveToggle s).out t h).burlap.resolve_left (by decide)
  case clockMonitorWindow => exact ((fr_execClockMonitorWindow _ _ s).out t h).burlap.resolve_left (by decide)
  case resetReq => cases hc
  case faultAck => exact ((fr_execFaultAck _ s).out t h).burlap.resolve_left (by decide)
  case faultRead => exact ((fr_execFaultRead _ s).out t h).burlap.resolve_left (by decide)
  case faultClassSet => exact ((fr_execFaultClassSet _ s).out t h).burlap.resolve_left (by decide)
  case unitFence => exact ((fr_execUnitFence _ s).out t h).burlap.resolve_left (by decide)
  case unitTest => exact ((fr_execUnitTest _ s).out t h).burlap.resolve_left (by decide)
  case unitReturn => cases hc
  case firstClear => exact ((fr_execFirstClear _ s).out t h).burlap.resolve_left (by decide)
  case diagTest => exact ((fr_execDiagTest _ _ s).out t h).burlap.resolve_left (by decide)
  case vddAonGood => cases hc
  case vddAonLost => cases hc
  case railResetLevel => cases hc
  case resetNAssert => cases hc
  case resetNRelease => cases hc
  case wipeComplete => cases hc
  case bootImageAccepted => exact ((fr_execBootImageAccepted _ _ s).out t h).burlap.resolve_left (by decide)
  case hostBootGo => exact ((fr_execHostBootGo _ s).out t h).burlap.resolve_left (by decide)
  case hostImageChecked => exact ((fr_execHostImageChecked _ s).out t h).burlap.resolve_left (by decide)
  case drainEnd => exact ((fr_execDrainEnd s).out t h).burlap.resolve_left (by decide)
  case drainLimit => exact ((fr_execDrainLimit s).out t h).burlap.resolve_left (by decide)
  case nonceExpiry => exact ((fr_execNonceExpiry s).out t h).burlap.resolve_left (by decide)
  case modeSet => exact ((fr_execModeSet _ s).out t h).burlap.resolve_left (by decide)
  case sysReset => cases hc
  case lcAdvance => cases hc
  case rollbackAdvance => exact ((fr_execRollbackAdvance _ s).out t h).burlap.resolve_left (by decide)
  case debugChallenge => exact ((fr_execDebugChallenge _ s).out t h).burlap.resolve_left (by decide)
  case debugUnlock => cases hc
  case flashWrite => exact ((fr_execFlashWrite _ _ _ s).out t h).burlap.resolve_left (by decide)
  case keyRevoke => exact ((fr_execKeyRevoke _ s).out t h).burlap.resolve_left (by decide)
  case tapInstruction => exact ((fr_execTapInstruction _ _ s).out t h).burlap.resolve_left (by decide)
  case signalDetect => exact ((fr_execSignalDetect _ s).out t h).burlap.resolve_left (by decide)
  case channelTrainingDone => exact ((fr_execChannelTrainingDone _ _ s).out t h).burlap.resolve_left (by decide)
  case noAcceptableImage => exact ((fr_execNoAcceptableImage s).out t h).burlap.resolve_left (by decide)
  case laneGroupClockLock => exact ((fr_execLaneGroupClockLock _ _ s).out t h).burlap.resolve_left (by decide)

/-- The commands that can change FLT_FIRST, the next SEQ and the history. -/
def firstRow : Instr → Bool
  | .recordFormation _ => true
  | .resetReq _ _ => true
  | .firstClear _ => true
  | .vddAonGood _ => true
  | .vddAonLost => true
  | .railResetLevel _ => true
  | .resetNAssert => true
  | .sysReset _ => true
  | .lcAdvance _ _ => true
  | .debugUnlock _ _ => true
  | _ => false

theorem exec_first {c : Instr} {s t : State} (h : exec c s = .next t) (hc : firstRow c = false) :
    (t.flt.first, t.flt.nextSeq, t.flt.hist) = (s.flt.first, s.flt.nextSeq, s.flt.hist) := by
  cases c
  case registerWrite => exact ((fr_execRegisterWrite _ _ _ s).out t h).first.resolve_left (by decide)
  case registerReadClear => exact ((fr_execRegisterReadClear _ s).out t h).first.resolve_left (by decide)
  case lowWordRead => exact ((fr_execLowWordRead _ s).out t h).first.resolve_left (by decide)
  case ringEnable => exact ((fr_execRingEnable _ _ s).out t h).first.resolve_left (by decide)
  case ringDisable => exact ((fr_execRingDisable _ _ s).out t h).first.resolve_left (by decide)
  case doorbell => exact ((fr_execDoorbell _ _ s).out t h).first.resolve_left (by decide)
  case arm => exact ((fr_execArm _ _ s).out t h).first.resolve_left (by decide)
  case restart => exact ((fr_execRestart _ s).out t h).first.resolve_left (by decide)
  case summaryGo => exact ((fr_execSummaryGo s).out t h).first.resolve_left (by decide)
  case commandFetch => exact ((fr_execCommandFetch _ s).out t h).first.resolve_left (by decide)
  case descriptorFetchError => exact ((fr_execDescriptorFetchError _ s).out t h).first.resolve_left (by decide)
  case nop => exact ((fr_execNop _ s).out t h).first.resolve_left (by decide)
  case summary => exact ((fr_execSummary _ s).out t h).first.resolve_left (by decide)
  case summaryQueueStart => exact ((fr_execSummaryQueueStart s).out t h).first.resolve_left (by decide)
  case ringQuiesce => exact ((fr_execRingQuiesce _ s).out t h).first.resolve_left (by decide)
  case ringResume => exact ((fr_execRingResume _ s).out t h).first.resolve_left (by decide)
  case channelRestart => exact ((fr_execChannelRestart _ s).out t h).first.resolve_left (by decide)
  case channelShare => exact ((fr_execChannelShare _ s).out t h).first.resolve_left (by decide)
  case eventTest => exact ((fr_execEventTest _ s).out t h).first.resolve_left (by decide)
  case eventWrite => exact ((fr_execEventWrite _ s).out t h).first.resolve_left (by decide)
  case burstStart => exact ((fr_execBurstStart _ _ s).out t h).first.resolve_left (by decide)
  case descriptorComplete => exact ((fr_execDescriptorComplete _ s).out t h).first.resolve_left (by decide)
  case flushReadReturn => exact ((fr_execFlushReadReturn _ _ _ _ s).out t h).first.resolve_left (by decide)
  case lateError => exact ((fr_execLateError _ _ _ s).out t h).first.resolve_left (by decide)
  case powerDeferLimit => exact ((fr_execPowerDeferLimit _ s).out t h).first.resolve_left (by decide)
  case injectDescriptorFetch => exact ((fr_execInjectDescriptorFetch _ _ s).out t h).first.resolve_left (by decide)
  case injectBufferReadDone => exact ((fr_execInjectBufferReadDone _ _ s).out t h).first.resolve_left (by decide)
  case hostReadError => exact ((fr_execHostReadError _ _ _ s).out t h).first.resolve_left (by decide)
  case puntBufferWrite => exact ((fr_execPuntBufferWrite _ _ s).out t h).first.resolve_left (by decide)
  case hostLinkChange => exact ((fr_execHostLinkChange _ _ _ s).out t h).first.resolve_left (by decide)
  case hostLinkDown => exact ((fr_execHostLinkDown s).out t h).first.resolve_left (by decide)
  case perstNAssert => exact ((fr_execPerstNAssert s).out t h).first.resolve_left (by decide)
  case perstNRelease => exact ((fr_execPerstNRelease s).out t h).first.resolve_left (by decide)
  case macroEnable => exact ((fr_execMacroEnable _ _ s).out t h).first.resolve_left (by decide)
  case macroDisable => exact ((fr_execMacroDisable _ _ s).out t h).first.resolve_left (by decide)
  case macroRateChange => exact ((fr_execMacroRateChange _ _ s).out t h).first.resolve_left (by decide)
  case txDisable => exact ((fr_execTxDisable _ _ s).out t h).first.resolve_left (by decide)
  case pllLock => exact ((fr_execPllLock _ s).out t h).first.resolve_left (by decide)
  case calibrationDone => exact ((fr_execCalibrationDone _ _ _ s).out t h).first.resolve_left (by decide)
  case negotiationComplete => exact ((fr_execNegotiationComplete _ _ s).out t h).first.resolve_left (by decide)
  case anTimeout => exact ((fr_execAnTimeout _ s).out t h).first.resolve_left (by decide)
  case trainRetry => exact ((fr_execTrainRetry _ s).out t h).first.resolve_left (by decide)
  case tapRequest => exact ((fr_execTapRequest _ _ _ s).out t h).first.resolve_left (by decide)
  case receiversReady => exact ((fr_execReceiversReady _ _ s).out t h).first.resolve_left (by decide)
  case trainTimeout => exact ((fr_execTrainTimeout _ _ s).out t h).first.resolve_left (by decide)
  case adaptationConverged => exact ((fr_execAdaptationConverged _ _ s).out t h).first.resolve_left (by decide)
  case adaptTimeout => exact ((fr_execAdaptTimeout _ s).out t h).first.resolve_left (by decide)
  case laneLoss => exact ((fr_execLaneLoss _ _ s).out t h).first.resolve_left (by decide)
  case wakeDeclared => exact ((fr_execWakeDeclared _ s).out t h).first.resolve_left (by decide)
  case wakeSnrOk => exact ((fr_execWakeSnrOk _ _ s).out t h).first.resolve_left (by decide)
  case wakeTimeout => exact ((fr_execWakeTimeout _ _ s).out t h).first.resolve_left (by decide)
  case backgroundCtleStep => exact ((fr_execBackgroundCtleStep _ _ _ s).out t h).first.resolve_left (by decide)
  case laneRetrain => exact ((fr_execLaneRetrain _ s).out t h).first.resolve_left (by decide)
  case laneTest => exact ((fr_execLaneTest _ s).out t h).first.resolve_left (by decide)
  case laneEye => exact ((fr_execLaneEye _ s).out t h).first.resolve_left (by decide)
  case laneEyeDone => exact ((fr_execLaneEyeDone _ _ s).out t h).first.resolve_left (by decide)
  case laneRead => exact ((fr_execLaneRead _ s).out t h).first.resolve_left (by decide)
  case layoutChange => exact ((fr_execLayoutChange _ _ s).out t h).first.resolve_left (by decide)
  case portAdmin => exact ((fr_execPortAdmin _ s).out t h).first.resolve_left (by decide)
  case portGateList => exact ((fr_execPortGateList _ _ s).out t h).first.resolve_left (by decide)
  case portRead => exact ((fr_execPortRead _ s).out t h).first.resolve_left (by decide)
  case portWdRestore => exact ((fr_execPortWdRestore _ s).out t h).first.resolve_left (by decide)
  case blockLock => exact ((fr_execBlockLock _ _ s).out t h).first.resolve_left (by decide)
  case lockLoss => exact ((fr_execLockLoss _ _ s).out t h).first.resolve_left (by decide)
  case hiBer => exact ((fr_execHiBer _ _ s).out t h).first.resolve_left (by decide)
  case upDebounce => exact ((fr_execUpDebounce _ s).out t h).first.resolve_left (by decide)
  case remoteFault => exact ((fr_execRemoteFault _ _ s).out t h).first.resolve_left (by decide)
  case fecWindow => exact ((fr_execFecWindow _ _ s).out t h).first.resolve_left (by decide)
  case frameReceive => exact ((fr_execFrameReceive _ _ _ _ s).out t h).first.resolve_left (by decide)
  case pfcFrameReceive => exact ((fr_execPfcFrameReceive _ _ _ _ s).out t h).first.resolve_left (by decide)
  case pauseFrameReceive => exact ((fr_execPauseFrameReceive _ _ _ s).out t h).first.resolve_left (by decide)
  case pauseTimerExpiry => exact ((fr_execPauseTimerExpiry _ _ s).out t h).first.resolve_left (by decide)
  case pfcFrameSend => exact ((fr_execPfcFrameSend _ s).out t h).first.resolve_left (by decide)
  case pfcRefresh => exact ((fr_execPfcRefresh _ _ s).out t h).first.resolve_left (by decide)
  case pfcWatchdog => exact ((fr_execPfcWatchdog _ _ s).out t h).first.resolve_left (by decide)
  case watchdogRestore => exact ((fr_execWatchdogRestore _ _ s).out t h).first.resolve_left (by decide)
  case gateTransition => exact ((fr_execGateTransition _ s).out t h).first.resolve_left (by decide)
  case gateListSwitch => exact ((fr_execGateListSwitch _ s).out t h).first.resolve_left (by decide)
  case sleepEntry => exact ((fr_execSleepEntry _ s).out t h).first.resolve_left (by decide)
  case wakePatternEnd => exact ((fr_execWakePatternEnd _ s).out t h).first.resolve_left (by decide)
  case frameEnd => exact ((fr_execFrameEnd _ _ _ s).out t h).first.resolve_left (by decide)
  case groupEnable => exact ((fr_execGroupEnable _ _ s).out t h).first.resolve_left (by decide)
  case groupDisable => exact ((fr_execGroupDisable _ _ s).out t h).first.resolve_left (by decide)
  case frameStartPattern => exact ((fr_execFrameStartPattern _ _ _ s).out t h).first.resolve_left (by decide)
  case overheadPosition => exact ((fr_execOverheadPosition _ _ _ _ s).out t h).first.resolve_left (by decide)
  case multiframeLock => exact ((fr_execMultiframeLock _ _ _ s).out t h).first.resolve_left (by decide)
  case overheadFrame => exact ((fr_execOverheadFrame _ _ _ s).out t h).first.resolve_left (by decide)
  case calendarSwitch => exact ((fr_execCalendarSwitch _ s).out t h).first.resolve_left (by decide)
  case calSwitchTimeout => exact ((fr_execCalSwitchTimeout _ s).out t h).first.resolve_left (by decide)
  case rxCalendarSwitch => exact ((fr_execRxCalendarSwitch _ s).out t h).first.resolve_left (by decide)
  case pmSecond => exact ((fr_execPmSecond _ s).out t h).first.resolve_left (by decide)
  case pmBinBoundary => exact ((fr_execPmBinBoundary _ s).out t h).first.resolve_left (by decide)
  case slotGroupMembers => exact ((fr_execSlotGroupMembers _ _ s).out t h).first.resolve_left (by decide)
  case slotClientSet => exact ((fr_execSlotClientSet _ s).out t h).first.resolve_left (by decide)
  case slotCmWrite => exact ((fr_execSlotCmWrite _ _ s).out t h).first.resolve_left (by decide)
  case slotCalSwitch => exact ((fr_execSlotCalSwitch _ s).out t h).first.resolve_left (by decide)
  case slotPmRead => exact ((fr_execSlotPmRead _ s).out t h).first.resolve_left (by decide)
  case slotGroupRead => exact ((fr_execSlotGroupRead _ s).out t h).first.resolve_left (by decide)
  case parseThreadAssign => exact ((fr_execParseThreadAssign _ s).out t h).first.resolve_left (by decide)
  case parseWord => exact ((fr_execParseWord _ s).out t h).first.resolve_left (by decide)
  case ingressStages => exact ((fr_execIngressStages _ s).out t h).first.resolve_left (by decide)
  case admission => exact ((fr_execAdmission _ s).out t h).first.resolve_left (by decide)
  case remainingCells => exact ((fr_execRemainingCells _ _ s).out t h).first.resolve_left (by decide)
  case replication => exact ((fr_execReplication _ _ s).out t h).first.resolve_left (by decide)
  case dequeueDecision => exact ((fr_execDequeueDecision _ s).out t h).first.resolve_left (by decide)
  case egressStages => exact ((fr_execEgressStages _ _ s).out t h).first.resolve_left (by decide)
  case transmitEnd => exact ((fr_execTransmitEnd _ s).out t h).first.resolve_left (by decide)
  case queueFlush => exact ((fr_execQueueFlush _ s).out t h).first.resolve_left (by decide)
  case emInsert => exact ((fr_execEmInsert _ s).out t h).first.resolve_left (by decide)
  case emDelete => exact ((fr_execEmDelete _ s).out t h).first.resolve_left (by decide)
  case emLookup => exact ((fr_execEmLookup _ s).out t h).first.resolve_left (by decide)
  case emRead => exact ((fr_execEmRead _ s).out t h).first.resolve_left (by decide)
  case lpmAdd => exact ((fr_execLpmAdd _ s).out t h).first.resolve_left (by decide)
  case lpmDelete => exact ((fr_execLpmDelete _ s).out t h).first.resolve_left (by decide)
  case lpmLookup => exact ((fr_execLpmLookup _ s).out t h).first.resolve_left (by decide)
  case tcamWrite => exact ((fr_execTcamWrite _ _ s).out t h).first.resolve_left (by decide)
  case tcamRead => exact ((fr_execTcamRead _ s).out t h).first.resolve_left (by decide)
  case ecmpGroupWrite => exact ((fr_execEcmpGroupWrite _ s).out t h).first.resolve_left (by decide)
  case memberWrite => exact ((fr_execMemberWrite _ _ s).out t h).first.resolve_left (by decide)
  case nexthopWrite => exact ((fr_execNexthopWrite _ _ s).out t h).first.resolve_left (by decide)
  case ecmpRead => exact ((fr_execEcmpRead _ s).out t h).first.resolve_left (by decide)
  case shadowCheck => exact ((fr_execShadowCheck _ _ s).out t h).first.resolve_left (by decide)
  case tableStat => exact ((fr_execTableStat _ s).out t h).first.resolve_left (by decide)
  case classifyWrite => exact ((fr_execClassifyWrite _ _ s).out t h).first.resolve_left (by decide)
  case endpointWrite => exact ((fr_execEndpointWrite _ s).out t h).first.resolve_left (by decide)
  case learnHoldoffExpiry => exact ((fr_execLearnHoldoffExpiry _ _ s).out t h).first.resolve_left (by decide)
  case learnRateWindow => exact ((fr_execLearnRateWindow s).out t h).first.resolve_left (by decide)
  case nextHopDown => exact ((fr_execNextHopDown _ s).out t h).first.resolve_left (by decide)
  case nextHopUp => exact ((fr_execNextHopUp _ s).out t h).first.resolve_left (by decide)
  case editWrite => exact ((fr_execEditWrite _ _ s).out t h).first.resolve_left (by decide)
  case mcastWrite => exact ((fr_execMcastWrite _ _ s).out t h).first.resolve_left (by decide)
  case mirrorWrite => exact ((fr_execMirrorWrite _ s).out t h).first.resolve_left (by decide)
  case egressWrite => exact ((fr_execEgressWrite _ _ s).out t h).first.resolve_left (by decide)
  case parseRead => exact ((fr_execParseRead _ s).out t h).first.resolve_left (by decide)
  case spillAssemblyTimeout => exact ((fr_execSpillAssemblyTimeout _ s).out t h).first.resolve_left (by decide)
  case readbackStart => exact ((fr_execReadbackStart _ s).out t h).first.resolve_left (by decide)
  case blockReadDone => exact ((fr_execBlockReadDone _ _ s).out t h).first.resolve_left (by decide)
  case bufProfileWrite => exact ((fr_execBufProfileWrite _ _ s).out t h).first.resolve_left (by decide)
  case bufQueueMap => exact ((fr_execBufQueueMap _ _ s).out t h).first.resolve_left (by decide)
  case bufPortWrite => exact ((fr_execBufPortWrite _ _ s).out t h).first.resolve_left (by decide)
  case bufQueueRead => exact ((fr_execBufQueueRead _ s).out t h).first.resolve_left (by decide)
  case shaperTick => exact ((fr_execShaperTick _ s).out t h).first.resolve_left (by decide)
  case wheelSlotDue => exact ((fr_execWheelSlotDue _ s).out t h).first.resolve_left (by decide)
  case overflowSlotDue => exact ((fr_execOverflowSlotDue _ s).out t h).first.resolve_left (by decide)
  case depthSample => exact ((fr_execDepthSample s).out t h).first.resolve_left (by decide)
  case sampleWindowClose => exact ((fr_execSampleWindowClose s).out t h).first.resolve_left (by decide)
  case schPortWrite => exact ((fr_execSchPortWrite _ _ s).out t h).first.resolve_left (by decide)
  case schShaperWrite => exact ((fr_execSchShaperWrite _ _ s).out t h).first.resolve_left (by decide)
  case schMeterWrite => exact ((fr_execSchMeterWrite _ _ s).out t h).first.resolve_left (by decide)
  case schSampleRead => exact ((fr_execSchSampleRead _ s).out t h).first.resolve_left (by decide)
  case contrib => exact ((fr_execContrib _ s).out t h).first.resolve_left (by decide)
  case result => exact ((fr_execResult _ s).out t h).first.resolve_left (by decide)
  case resend => exact ((fr_execResend _ s).out t h).first.resolve_left (by decide)
  case resultReq => exact ((fr_execResultReq _ s).out t h).first.resolve_left (by decide)
  case wait => exact ((fr_execWait _ s).out t h).first.resolve_left (by decide)
  case pace => exact ((fr_execPace _ s).out t h).first.resolve_left (by decide)
  case paceSet => exact ((fr_execPaceSet _ s).out t h).first.resolve_left (by decide)
  case straggler => exact ((fr_execStraggler _ s).out t h).first.resolve_left (by decide)
  case abort => exact ((fr_execAbort _ s).out t h).first.resolve_left (by decide)
  case slotTimerExpiry => exact ((fr_execSlotTimerExpiry _ _ s).out t h).first.resolve_left (by decide)
  case emittedTimerExpiry => exact ((fr_execEmittedTimerExpiry _ _ s).out t h).first.resolve_left (by decide)
  case epochBoundary => exact ((fr_execEpochBoundary _ s).out t h).first.resolve_left (by decide)
  case slotRestore => exact ((fr_execSlotRestore _ _ s).out t h).first.resolve_left (by decide)
  case clusterStepChangeDone => exact ((fr_execClusterStepChangeDone _ s).out t h).first.resolve_left (by decide)
  case jobMoveDone => exact ((fr_execJobMoveDone _ s).out t h).first.resolve_left (by decide)
  case colJobCreate => exact ((fr_execColJobCreate _ _ s).out t h).first.resolve_left (by decide)
  case colJobDestroy => exact ((fr_execColJobDestroy _ s).out t h).first.resolve_left (by decide)
  case colJobRead => exact ((fr_execColJobRead _ s).out t h).first.resolve_left (by decide)
  case colJobMove => exact ((fr_execColJobMove _ s).out t h).first.resolve_left (by decide)
  case colPacePropose => exact ((fr_execColPacePropose _ s).out t h).first.resolve_left (by decide)
  case poolGrant => exact ((fr_execPoolGrant _ s).out t h).first.resolve_left (by decide)
  case poolCtrlEnable => exact ((fr_execPoolCtrlEnable _ s).out t h).first.resolve_left (by decide)
  case bufferTestDone => exact ((fr_execBufferTestDone _ _ s).out t h).first.resolve_left (by decide)
  case poolAlloc => exact ((fr_execPoolAlloc _ s).out t h).first.resolve_left (by decide)
  case poolFree => exact ((fr_execPoolFree _ s).out t h).first.resolve_left (by decide)
  case poolTransfer => exact ((fr_execPoolTransfer _ s).out t h).first.resolve_left (by decide)
  case poolState => exact ((fr_execPoolState _ s).out t h).first.resolve_left (by decide)
  case poolOwnerFreeAll => exact ((fr_execPoolOwnerFreeAll _ s).out t h).first.resolve_left (by decide)
  case poolCopy => exact ((fr_execPoolCopy _ _ s).out t h).first.resolve_left (by decide)
  case seqWord => exact ((fr_execSeqWord _ s).out t h).first.resolve_left (by decide)
  case waitEnd => exact ((fr_execWaitEnd _ _ s).out t h).first.resolve_left (by decide)
  case waitTimeout => exact ((fr_execWaitTimeout _ _ s).out t h).first.resolve_left (by decide)
  case routineTrigger => exact ((fr_execRoutineTrigger _ s).out t h).first.resolve_left (by decide)
  case blockOpDone => exact ((fr_execBlockOpDone _ _ _ s).out t h).first.resolve_left (by decide)
  case storeRepair => exact ((fr_execStoreRepair _ s).out t h).first.resolve_left (by decide)
  case stopTimeout => exact ((fr_execStopTimeout _ s).out t h).first.resolve_left (by decide)
  case noIssueTimeout => exact ((fr_execNoIssueTimeout _ s).out t h).first.resolve_left (by decide)
  case seqLoad => exact ((fr_execSeqLoad _ _ s).out t h).first.resolve_left (by decide)
  case seqRoutineSet => exact ((fr_execSeqRoutineSet _ s).out t h).first.resolve_left (by decide)
  case seqRun => exact ((fr_execSeqRun _ s).out t h).first.resolve_left (by decide)
  case seqStop => exact ((fr_execSeqStop _ s).out t h).first.resolve_left (by decide)
  case seqFrameRead => exact ((fr_execSeqFrameRead _ s).out t h).first.resolve_left (by decide)
  case seqResume => exact ((fr_execSeqResume _ s).out t h).first.resolve_left (by decide)
  case seqStoreRead => exact ((fr_execSeqStoreRead _ s).out t h).first.resolve_left (by decide)
  case periodicRetrain => exact ((fr_execPeriodicRetrain _ s).out t h).first.resolve_left (by decide)
  case retrainRetry => exact ((fr_execRetrainRetry _ s).out t h).first.resolve_left (by decide)
  case refresh => exact ((fr_execRefresh _ _ _ s).out t h).first.resolve_left (by decide)
  case selfRefreshEntry => exact ((fr_execSelfRefreshEntry _ s).out t h).first.resolve_left (by decide)
  case scrubRead => exact ((fr_execScrubRead _ _ _ s).out t h).first.resolve_left (by decide)
  case halfReady => exact ((fr_execHalfReady _ s).out t h).first.resolve_left (by decide)
  case tbEnable => exact ((fr_execTbEnable _ _ s).out t h).first.resolve_left (by decide)
  case tbDisable => exact ((fr_execTbDisable _ _ s).out t h).first.resolve_left (by decide)
  case slewDisable => exact ((fr_execSlewDisable _ _ s).out t h).first.resolve_left (by decide)
  case slewComplete => exact ((fr_execSlewComplete _ s).out t h).first.resolve_left (by decide)
  case clk10Loss => exact ((fr_execClk10Loss _ s).out t h).first.resolve_left (by decide)
  case holdoverExit => exact ((fr_execHoldoverExit _ s).out t h).first.resolve_left (by decide)
  case secondBoundary => exact ((fr_execSecondBoundary _ s).out t h).first.resolve_left (by decide)
  case ppsInEdge => exact ((fr_execPpsInEdge _ s).out t h).first.resolve_left (by decide)
  case ppsInMissing => exact ((fr_execPpsInMissing s).out t h).first.resolve_left (by decide)
  case tsEventEdge => exact ((fr_execTsEventEdge _ _ s).out t h).first.resolve_left (by decide)
  case todMessage => exact ((fr_execTodMessage _ s).out t h).first.resolve_left (by decide)
  case timeRead => exact ((fr_execTimeRead _ s).out t h).first.resolve_left (by decide)
  case timeSet => exact ((fr_execTimeSet _ s).out t h).first.resolve_left (by decide)
  case timeAdjust => exact ((fr_execTimeAdjust _ s).out t h).first.resolve_left (by decide)
  case timeTrim => exact ((fr_execTimeTrim _ s).out t h).first.resolve_left (by decide)
  case pairSwitch => exact ((fr_execPairSwitch _ s).out t h).first.resolve_left (by decide)
  case snapshotInstant => exact ((fr_execSnapshotInstant _ s).out t h).first.resolve_left (by decide)
  case dumpComplete => exact ((fr_execDumpComplete _ _ s).out t h).first.resolve_left (by decide)
  case gauzeRecordWrite => exact ((fr_execGauzeRecordWrite s).out t h).first.resolve_left (by decide)
  case gauzeEnable => exact ((fr_execGauzeEnable _ s).out t h).first.resolve_left (by decide)
  case ctrSetWrite => exact ((fr_execCtrSetWrite _ s).out t h).first.resolve_left (by decide)
  case ctrRead => exact ((fr_execCtrRead _ s).out t h).first.resolve_left (by decide)
  case ctrClear => exact ((fr_execCtrClear _ s).out t h).first.resolve_left (by decide)
  case ctrDumpNow => exact ((fr_execCtrDumpNow _ s).out t h).first.resolve_left (by decide)
  case gauzeRelease => exact ((fr_execGauzeRelease _ s).out t h).first.resolve_left (by decide)
  case ioamSink => exact ((fr_execIoamSink _ _ s).out t h).first.resolve_left (by decide)
  case powerSample => exact ((fr_execPowerSample _ s).out t h).first.resolve_left (by decide)
  case pmbusRead => exact ((fr_execPmbusRead _ s).out t h).first.resolve_left (by decide)
  case throttleRaise => exact ((fr_execThrottleRaise s).out t h).first.resolve_left (by decide)
  case railReached => exact ((fr_execRailReached _ _ s).out t h).first.resolve_left (by decide)
  case droopTrip => exact ((fr_execDroopTrip _ _ s).out t h).first.resolve_left (by decide)
  case droopReturn => exact ((fr_execDroopReturn _ s).out t h).first.resolve_left (by decide)
  case droopRecalibration => exact ((fr_execDroopRecalibration _ s).out t h).first.resolve_left (by decide)
  case vrAlert => exact ((fr_execVrAlert _ _ s).out t h).first.resolve_left (by decide)
  case vrAlertClear => exact ((fr_execVrAlertClear s).out t h).first.resolve_left (by decide)
  case sensorRead => exact ((fr_execSensorRead _ s).out t h).first.resolve_left (by decide)
  case thermalRecovery => exact ((fr_execThermalRecovery _ s).out t h).first.resolve_left (by decide)
  case thermalTrip => exact ((fr_execThermalTrip _ s).out t h).first.resolve_left (by decide)
  case domainPowerDownDone => exact ((fr_execDomainPowerDownDone _ s).out t h).first.resolve_left (by decide)
  case pwrDomain => exact ((fr_execPwrDomain _ s).out t h).first.resolve_left (by decide)
  case pwrLimitSet => exact ((fr_execPwrLimitSet _ s).out t h).first.resolve_left (by decide)
  case pwrRead => exact ((fr_execPwrRead _ s).out t h).first.resolve_left (by decide)
  case pwrPmbus => exact ((fr_execPwrPmbus _ _ s).out t h).first.resolve_left (by decide)
  case recordFormation => cases hc
  case conditionClear => exact ((fr_execConditionClear _ _ _ s).out t h).first.resolve_left (by decide)
  case fenceComplete => exact ((fr_execFenceComplete _ _ s).out t h).first.resolve_left (by decide)
  case testEnd => exact ((fr_execTestEnd _ _ _ s).out t h).first.resolve_left (by decide)
  case aliveToggle => exact ((fr_execAliveToggle s).out t h).first.resolve_left (by decide)
  case clockMonitorWindow => exact ((fr_execClockMonitorWindow _ _ s).out t h).first.resolve_left (by decide)
  case resetReq => cases hc
  case faultAck => exact ((fr_execFaultAck _ s).out t h).first.resolve_left (by decide)
  case faultRead => exact ((fr_execFaultRead _ s).out t h).first.resolve_left (by decide)
  case faultClassSet => exact ((fr_execFaultClassSet _ s).out t h).first.resolve_left (by decide)
  case unitFence => exact ((fr_execUnitFence _ s).out t h).first.resolve_left (by decide)
  case unitTest => exact ((fr_execUnitTest _ s).out t h).first.resolve_left (by decide)
  case unitReturn => exact ((fr_execUnitReturn _ s).out t h).first.resolve_left (by decide)
  case firstClear => cases hc
  case diagTest => exact ((fr_execDiagTest _ _ s).out t h).first.resolve_left (by decide)
  case vddAonGood => cases hc
  case vddAonLost => cases hc
  case railResetLevel => cases hc
  case resetNAssert => cases hc
  case resetNRelease => exact ((fr_execResetNRelease _ _ s).out t h).first.resolve_left (by decide)
  case wipeComplete => exact ((fr_execWipeComplete _ s).out t h).first.resolve_left (by decide)
  case bootImageAccepted => exact ((fr_execBootImageAccepted _ _ s).out t h).first.resolve_left (by decide)
  case hostBootGo => exact ((fr_execHostBootGo _ s).out t h).first.resolve_left (by decide)
  case hostImageChecked => exact ((fr_execHostImageChecked _ s).out t h).first.resolve_left (by decide)
  case drainEnd => exact ((fr_execDrainEnd s).out t h).first.resolve_left (by decide)
  case drainLimit => exact ((fr_execDrainLimit s).out t h).first.resolve_left (by decide)
  case nonceExpiry => exact ((fr_execNonceExpiry s).out t h).first.resolve_left (by decide)
  case modeSet => exact ((fr_execModeSet _ s).out t h).first.resolve_left (by decide)
  case sysReset => cases hc
  case lcAdvance => cases hc
  case rollbackAdvance => exact ((fr_execRollbackAdvance _ s).out t h).first.resolve_left (by decide)
  case debugChallenge => exact ((fr_execDebugChallenge _ s).out t h).first.resolve_left (by decide)
  case debugUnlock => cases hc
  case flashWrite => exact ((fr_execFlashWrite _ _ _ s).out t h).first.resolve_left (by decide)
  case keyRevoke => exact ((fr_execKeyRevoke _ s).out t h).first.resolve_left (by decide)
  case tapInstruction => exact ((fr_execTapInstruction _ _ s).out t h).first.resolve_left (by decide)
  case signalDetect => exact ((fr_execSignalDetect _ s).out t h).first.resolve_left (by decide)
  case channelTrainingDone => exact ((fr_execChannelTrainingDone _ _ s).out t h).first.resolve_left (by decide)
  case noAcceptableImage => exact ((fr_execNoAcceptableImage s).out t h).first.resolve_left (by decide)
  case laneGroupClockLock => exact ((fr_execLaneGroupClockLock _ _ s).out t h).first.resolve_left (by decide)

end Sys2Proof.Machine
end

