-- ==== Sys2Proof/Laws/State.lean ====
section
/-! SUPPORT. What each named update of the state leaves alone, field by field, and what it writes. -/
namespace Sys2Proof.Machine

@[simp] theorem emit_pending (o : Out) (s : State) : (emit o s).pending = s.pending := rfl
@[simp] theorem emit_regs (o : Out) (s : State) : (emit o s).regs = s.regs := rfl
@[simp] theorem emit_latch (o : Out) (s : State) : (emit o s).latch = s.latch := rfl
@[simp] theorem emit_hold (o : Out) (s : State) : (emit o s).hold = s.hold := rfl
@[simp] theorem emit_aon (o : Out) (s : State) : (emit o s).aon = s.aon := rfl
@[simp] theorem emit_freeIx (o : Out) (s : State) : (emit o s).freeIx = s.freeIx := rfl
@[simp] theorem emit_hif (o : Out) (s : State) : (emit o s).hif = s.hif := rfl
@[simp] theorem emit_tim (o : Out) (s : State) : (emit o s).tim = s.tim := rfl
@[simp] theorem emit_flt (o : Out) (s : State) : (emit o s).flt = s.flt := rfl
@[simp] theorem emit_sys (o : Out) (s : State) : (emit o s).sys = s.sys := rfl
@[simp] theorem emit_lan (o : Out) (s : State) : (emit o s).lan = s.lan := rfl
@[simp] theorem emit_mac (o : Out) (s : State) : (emit o s).mac = s.mac := rfl
@[simp] theorem emit_tel (o : Out) (s : State) : (emit o s).tel = s.tel := rfl
@[simp] theorem emit_pwr (o : Out) (s : State) : (emit o s).pwr = s.pwr := rfl
@[simp] theorem emit_slt (o : Out) (s : State) : (emit o s).slt = s.slt := rfl
@[simp] theorem emit_pip (o : Out) (s : State) : (emit o s).pip = s.pip := rfl
@[simp] theorem emit_tbl (o : Out) (s : State) : (emit o s).tbl = s.tbl := rfl
@[simp] theorem emit_buf (o : Out) (s : State) : (emit o s).buf = s.buf := rfl
@[simp] theorem emit_sch (o : Out) (s : State) : (emit o s).sch = s.sch := rfl
@[simp] theorem emit_mem (o : Out) (s : State) : (emit o s).mem = s.mem := rfl
@[simp] theorem emit_col (o : Out) (s : State) : (emit o s).col = s.col := rfl
@[simp] theorem emit_pool (o : Out) (s : State) : (emit o s).pool = s.pool := rfl
@[simp] theorem emit_seq (o : Out) (s : State) : (emit o s).seq = s.seq := rfl
@[simp] theorem emit_upset (o : Out) (s : State) : (emit o s).upset = s.upset := rfl

@[simp] theorem setRing_pending (n : Nat) (r : Ring) (s : State) : (setRing n r s).pending = s.pending := rfl
@[simp] theorem setRing_regs (n : Nat) (r : Ring) (s : State) : (setRing n r s).regs = s.regs := rfl
@[simp] theorem setRing_latch (n : Nat) (r : Ring) (s : State) : (setRing n r s).latch = s.latch := rfl
@[simp] theorem setRing_hold (n : Nat) (r : Ring) (s : State) : (setRing n r s).hold = s.hold := rfl
@[simp] theorem setRing_aon (n : Nat) (r : Ring) (s : State) : (setRing n r s).aon = s.aon := rfl
@[simp] theorem setRing_out (n : Nat) (r : Ring) (s : State) : (setRing n r s).out = s.out := rfl
@[simp] theorem setRing_freeIx (n : Nat) (r : Ring) (s : State) : (setRing n r s).freeIx = s.freeIx := rfl
@[simp] theorem setRing_tim (n : Nat) (r : Ring) (s : State) : (setRing n r s).tim = s.tim := rfl
@[simp] theorem setRing_flt (n : Nat) (r : Ring) (s : State) : (setRing n r s).flt = s.flt := rfl
@[simp] theorem setRing_sys (n : Nat) (r : Ring) (s : State) : (setRing n r s).sys = s.sys := rfl
@[simp] theorem setRing_lan (n : Nat) (r : Ring) (s : State) : (setRing n r s).lan = s.lan := rfl
@[simp] theorem setRing_mac (n : Nat) (r : Ring) (s : State) : (setRing n r s).mac = s.mac := rfl
@[simp] theorem setRing_tel (n : Nat) (r : Ring) (s : State) : (setRing n r s).tel = s.tel := rfl
@[simp] theorem setRing_pwr (n : Nat) (r : Ring) (s : State) : (setRing n r s).pwr = s.pwr := rfl
@[simp] theorem setRing_slt (n : Nat) (r : Ring) (s : State) : (setRing n r s).slt = s.slt := rfl
@[simp] theorem setRing_pip (n : Nat) (r : Ring) (s : State) : (setRing n r s).pip = s.pip := rfl
@[simp] theorem setRing_tbl (n : Nat) (r : Ring) (s : State) : (setRing n r s).tbl = s.tbl := rfl
@[simp] theorem setRing_buf (n : Nat) (r : Ring) (s : State) : (setRing n r s).buf = s.buf := rfl
@[simp] theorem setRing_sch (n : Nat) (r : Ring) (s : State) : (setRing n r s).sch = s.sch := rfl
@[simp] theorem setRing_mem (n : Nat) (r : Ring) (s : State) : (setRing n r s).mem = s.mem := rfl
@[simp] theorem setRing_col (n : Nat) (r : Ring) (s : State) : (setRing n r s).col = s.col := rfl
@[simp] theorem setRing_pool (n : Nat) (r : Ring) (s : State) : (setRing n r s).pool = s.pool := rfl
@[simp] theorem setRing_seq (n : Nat) (r : Ring) (s : State) : (setRing n r s).seq = s.seq := rfl
@[simp] theorem setRing_upset (n : Nat) (r : Ring) (s : State) : (setRing n r s).upset = s.upset := rfl

@[simp] theorem setChan_pending (ch : Nat) (c : Chan) (s : State) : (setChan ch c s).pending = s.pending := rfl
@[simp] theorem setChan_regs (ch : Nat) (c : Chan) (s : State) : (setChan ch c s).regs = s.regs := rfl
@[simp] theorem setChan_latch (ch : Nat) (c : Chan) (s : State) : (setChan ch c s).latch = s.latch := rfl
@[simp] theorem setChan_hold (ch : Nat) (c : Chan) (s : State) : (setChan ch c s).hold = s.hold := rfl
@[simp] theorem setChan_aon (ch : Nat) (c : Chan) (s : State) : (setChan ch c s).aon = s.aon := rfl
@[simp] theorem setChan_out (ch : Nat) (c : Chan) (s : State) : (setChan ch c s).out = s.out := rfl
@[simp] theorem setChan_freeIx (ch : Nat) (c : Chan) (s : State) : (setChan ch c s).freeIx = s.freeIx := rfl
@[simp] theorem setChan_tim (ch : Nat) (c : Chan) (s : State) : (setChan ch c s).tim = s.tim := rfl
@[simp] theorem setChan_flt (ch : Nat) (c : Chan) (s : State) : (setChan ch c s).flt = s.flt := rfl
@[simp] theorem setChan_sys (ch : Nat) (c : Chan) (s : State) : (setChan ch c s).sys = s.sys := rfl
@[simp] theorem setChan_lan (ch : Nat) (c : Chan) (s : State) : (setChan ch c s).lan = s.lan := rfl
@[simp] theorem setChan_mac (ch : Nat) (c : Chan) (s : State) : (setChan ch c s).mac = s.mac := rfl
@[simp] theorem setChan_tel (ch : Nat) (c : Chan) (s : State) : (setChan ch c s).tel = s.tel := rfl
@[simp] theorem setChan_pwr (ch : Nat) (c : Chan) (s : State) : (setChan ch c s).pwr = s.pwr := rfl
@[simp] theorem setChan_slt (ch : Nat) (c : Chan) (s : State) : (setChan ch c s).slt = s.slt := rfl
@[simp] theorem setChan_pip (ch : Nat) (c : Chan) (s : State) : (setChan ch c s).pip = s.pip := rfl
@[simp] theorem setChan_tbl (ch : Nat) (c : Chan) (s : State) : (setChan ch c s).tbl = s.tbl := rfl
@[simp] theorem setChan_buf (ch : Nat) (c : Chan) (s : State) : (setChan ch c s).buf = s.buf := rfl
@[simp] theorem setChan_sch (ch : Nat) (c : Chan) (s : State) : (setChan ch c s).sch = s.sch := rfl
@[simp] theorem setChan_mem (ch : Nat) (c : Chan) (s : State) : (setChan ch c s).mem = s.mem := rfl
@[simp] theorem setChan_col (ch : Nat) (c : Chan) (s : State) : (setChan ch c s).col = s.col := rfl
@[simp] theorem setChan_pool (ch : Nat) (c : Chan) (s : State) : (setChan ch c s).pool = s.pool := rfl
@[simp] theorem setChan_seq (ch : Nat) (c : Chan) (s : State) : (setChan ch c s).seq = s.seq := rfl
@[simp] theorem setChan_upset (ch : Nat) (c : Chan) (s : State) : (setChan ch c s).upset = s.upset := rfl

@[simp] theorem startXfer_pending (x : Xfer) (ch : Nat) (s : State) : (startXfer x ch s).pending = s.pending := rfl
@[simp] theorem startXfer_regs (x : Xfer) (ch : Nat) (s : State) : (startXfer x ch s).regs = s.regs := rfl
@[simp] theorem startXfer_latch (x : Xfer) (ch : Nat) (s : State) : (startXfer x ch s).latch = s.latch := rfl
@[simp] theorem startXfer_hold (x : Xfer) (ch : Nat) (s : State) : (startXfer x ch s).hold = s.hold := rfl
@[simp] theorem startXfer_aon (x : Xfer) (ch : Nat) (s : State) : (startXfer x ch s).aon = s.aon := rfl
@[simp] theorem startXfer_out (x : Xfer) (ch : Nat) (s : State) : (startXfer x ch s).out = s.out := rfl
@[simp] theorem startXfer_freeIx (x : Xfer) (ch : Nat) (s : State) : (startXfer x ch s).freeIx = s.freeIx := rfl
@[simp] theorem startXfer_tim (x : Xfer) (ch : Nat) (s : State) : (startXfer x ch s).tim = s.tim := rfl
@[simp] theorem startXfer_flt (x : Xfer) (ch : Nat) (s : State) : (startXfer x ch s).flt = s.flt := rfl
@[simp] theorem startXfer_sys (x : Xfer) (ch : Nat) (s : State) : (startXfer x ch s).sys = s.sys := rfl
@[simp] theorem startXfer_lan (x : Xfer) (ch : Nat) (s : State) : (startXfer x ch s).lan = s.lan := rfl
@[simp] theorem startXfer_mac (x : Xfer) (ch : Nat) (s : State) : (startXfer x ch s).mac = s.mac := rfl
@[simp] theorem startXfer_tel (x : Xfer) (ch : Nat) (s : State) : (startXfer x ch s).tel = s.tel := rfl
@[simp] theorem startXfer_pwr (x : Xfer) (ch : Nat) (s : State) : (startXfer x ch s).pwr = s.pwr := rfl
@[simp] theorem startXfer_slt (x : Xfer) (ch : Nat) (s : State) : (startXfer x ch s).slt = s.slt := rfl
@[simp] theorem startXfer_pip (x : Xfer) (ch : Nat) (s : State) : (startXfer x ch s).pip = s.pip := rfl
@[simp] theorem startXfer_tbl (x : Xfer) (ch : Nat) (s : State) : (startXfer x ch s).tbl = s.tbl := rfl
@[simp] theorem startXfer_buf (x : Xfer) (ch : Nat) (s : State) : (startXfer x ch s).buf = s.buf := rfl
@[simp] theorem startXfer_sch (x : Xfer) (ch : Nat) (s : State) : (startXfer x ch s).sch = s.sch := rfl
@[simp] theorem startXfer_mem (x : Xfer) (ch : Nat) (s : State) : (startXfer x ch s).mem = s.mem := rfl
@[simp] theorem startXfer_col (x : Xfer) (ch : Nat) (s : State) : (startXfer x ch s).col = s.col := rfl
@[simp] theorem startXfer_pool (x : Xfer) (ch : Nat) (s : State) : (startXfer x ch s).pool = s.pool := rfl
@[simp] theorem startXfer_seq (x : Xfer) (ch : Nat) (s : State) : (startXfer x ch s).seq = s.seq := rfl
@[simp] theorem startXfer_upset (x : Xfer) (ch : Nat) (s : State) : (startXfer x ch s).upset = s.upset := rfl

@[simp] theorem retire_pending (ref : CmdRef) (s : State) : (retire ref s).pending = s.pending := rfl
@[simp] theorem retire_regs (ref : CmdRef) (s : State) : (retire ref s).regs = s.regs := rfl
@[simp] theorem retire_latch (ref : CmdRef) (s : State) : (retire ref s).latch = s.latch := rfl
@[simp] theorem retire_hold (ref : CmdRef) (s : State) : (retire ref s).hold = s.hold := rfl
@[simp] theorem retire_aon (ref : CmdRef) (s : State) : (retire ref s).aon = s.aon := rfl
@[simp] theorem retire_out (ref : CmdRef) (s : State) : (retire ref s).out = s.out := rfl
@[simp] theorem retire_freeIx (ref : CmdRef) (s : State) : (retire ref s).freeIx = s.freeIx := rfl
@[simp] theorem retire_tim (ref : CmdRef) (s : State) : (retire ref s).tim = s.tim := rfl
@[simp] theorem retire_flt (ref : CmdRef) (s : State) : (retire ref s).flt = s.flt := rfl
@[simp] theorem retire_sys (ref : CmdRef) (s : State) : (retire ref s).sys = s.sys := rfl
@[simp] theorem retire_lan (ref : CmdRef) (s : State) : (retire ref s).lan = s.lan := rfl
@[simp] theorem retire_mac (ref : CmdRef) (s : State) : (retire ref s).mac = s.mac := rfl
@[simp] theorem retire_tel (ref : CmdRef) (s : State) : (retire ref s).tel = s.tel := rfl
@[simp] theorem retire_pwr (ref : CmdRef) (s : State) : (retire ref s).pwr = s.pwr := rfl
@[simp] theorem retire_slt (ref : CmdRef) (s : State) : (retire ref s).slt = s.slt := rfl
@[simp] theorem retire_pip (ref : CmdRef) (s : State) : (retire ref s).pip = s.pip := rfl
@[simp] theorem retire_tbl (ref : CmdRef) (s : State) : (retire ref s).tbl = s.tbl := rfl
@[simp] theorem retire_buf (ref : CmdRef) (s : State) : (retire ref s).buf = s.buf := rfl
@[simp] theorem retire_sch (ref : CmdRef) (s : State) : (retire ref s).sch = s.sch := rfl
@[simp] theorem retire_mem (ref : CmdRef) (s : State) : (retire ref s).mem = s.mem := rfl
@[simp] theorem retire_col (ref : CmdRef) (s : State) : (retire ref s).col = s.col := rfl
@[simp] theorem retire_pool (ref : CmdRef) (s : State) : (retire ref s).pool = s.pool := rfl
@[simp] theorem retire_seq (ref : CmdRef) (s : State) : (retire ref s).seq = s.seq := rfl
@[simp] theorem retire_upset (ref : CmdRef) (s : State) : (retire ref s).upset = s.upset := rfl

@[simp] theorem modCmd_pending (ref : CmdRef) (f : Cmd → Cmd) (s : State) : (modCmd ref f s).pending = s.pending := rfl
@[simp] theorem modCmd_regs (ref : CmdRef) (f : Cmd → Cmd) (s : State) : (modCmd ref f s).regs = s.regs := rfl
@[simp] theorem modCmd_latch (ref : CmdRef) (f : Cmd → Cmd) (s : State) : (modCmd ref f s).latch = s.latch := rfl
@[simp] theorem modCmd_hold (ref : CmdRef) (f : Cmd → Cmd) (s : State) : (modCmd ref f s).hold = s.hold := rfl
@[simp] theorem modCmd_aon (ref : CmdRef) (f : Cmd → Cmd) (s : State) : (modCmd ref f s).aon = s.aon := rfl
@[simp] theorem modCmd_out (ref : CmdRef) (f : Cmd → Cmd) (s : State) : (modCmd ref f s).out = s.out := rfl
@[simp] theorem modCmd_freeIx (ref : CmdRef) (f : Cmd → Cmd) (s : State) : (modCmd ref f s).freeIx = s.freeIx := rfl
@[simp] theorem modCmd_tim (ref : CmdRef) (f : Cmd → Cmd) (s : State) : (modCmd ref f s).tim = s.tim := rfl
@[simp] theorem modCmd_flt (ref : CmdRef) (f : Cmd → Cmd) (s : State) : (modCmd ref f s).flt = s.flt := rfl
@[simp] theorem modCmd_sys (ref : CmdRef) (f : Cmd → Cmd) (s : State) : (modCmd ref f s).sys = s.sys := rfl
@[simp] theorem modCmd_lan (ref : CmdRef) (f : Cmd → Cmd) (s : State) : (modCmd ref f s).lan = s.lan := rfl
@[simp] theorem modCmd_mac (ref : CmdRef) (f : Cmd → Cmd) (s : State) : (modCmd ref f s).mac = s.mac := rfl
@[simp] theorem modCmd_tel (ref : CmdRef) (f : Cmd → Cmd) (s : State) : (modCmd ref f s).tel = s.tel := rfl
@[simp] theorem modCmd_pwr (ref : CmdRef) (f : Cmd → Cmd) (s : State) : (modCmd ref f s).pwr = s.pwr := rfl
@[simp] theorem modCmd_slt (ref : CmdRef) (f : Cmd → Cmd) (s : State) : (modCmd ref f s).slt = s.slt := rfl
@[simp] theorem modCmd_pip (ref : CmdRef) (f : Cmd → Cmd) (s : State) : (modCmd ref f s).pip = s.pip := rfl
@[simp] theorem modCmd_tbl (ref : CmdRef) (f : Cmd → Cmd) (s : State) : (modCmd ref f s).tbl = s.tbl := rfl
@[simp] theorem modCmd_buf (ref : CmdRef) (f : Cmd → Cmd) (s : State) : (modCmd ref f s).buf = s.buf := rfl
@[simp] theorem modCmd_sch (ref : CmdRef) (f : Cmd → Cmd) (s : State) : (modCmd ref f s).sch = s.sch := rfl
@[simp] theorem modCmd_mem (ref : CmdRef) (f : Cmd → Cmd) (s : State) : (modCmd ref f s).mem = s.mem := rfl
@[simp] theorem modCmd_col (ref : CmdRef) (f : Cmd → Cmd) (s : State) : (modCmd ref f s).col = s.col := rfl
@[simp] theorem modCmd_pool (ref : CmdRef) (f : Cmd → Cmd) (s : State) : (modCmd ref f s).pool = s.pool := rfl
@[simp] theorem modCmd_seq (ref : CmdRef) (f : Cmd → Cmd) (s : State) : (modCmd ref f s).seq = s.seq := rfl
@[simp] theorem modCmd_upset (ref : CmdRef) (f : Cmd → Cmd) (s : State) : (modCmd ref f s).upset = s.upset := rfl

@[simp] theorem setUnit_pending (kind ix : Nat) (u : FUnit) (s : State) : (setUnit kind ix u s).pending = s.pending := rfl
@[simp] theorem setUnit_regs (kind ix : Nat) (u : FUnit) (s : State) : (setUnit kind ix u s).regs = s.regs := rfl
@[simp] theorem setUnit_latch (kind ix : Nat) (u : FUnit) (s : State) : (setUnit kind ix u s).latch = s.latch := rfl
@[simp] theorem setUnit_hold (kind ix : Nat) (u : FUnit) (s : State) : (setUnit kind ix u s).hold = s.hold := rfl
@[simp] theorem setUnit_aon (kind ix : Nat) (u : FUnit) (s : State) : (setUnit kind ix u s).aon = s.aon := rfl
@[simp] theorem setUnit_out (kind ix : Nat) (u : FUnit) (s : State) : (setUnit kind ix u s).out = s.out := rfl
@[simp] theorem setUnit_freeIx (kind ix : Nat) (u : FUnit) (s : State) : (setUnit kind ix u s).freeIx = s.freeIx := rfl
@[simp] theorem setUnit_hif (kind ix : Nat) (u : FUnit) (s : State) : (setUnit kind ix u s).hif = s.hif := rfl
@[simp] theorem setUnit_tim (kind ix : Nat) (u : FUnit) (s : State) : (setUnit kind ix u s).tim = s.tim := rfl
@[simp] theorem setUnit_sys (kind ix : Nat) (u : FUnit) (s : State) : (setUnit kind ix u s).sys = s.sys := rfl
@[simp] theorem setUnit_lan (kind ix : Nat) (u : FUnit) (s : State) : (setUnit kind ix u s).lan = s.lan := rfl
@[simp] theorem setUnit_mac (kind ix : Nat) (u : FUnit) (s : State) : (setUnit kind ix u s).mac = s.mac := rfl
@[simp] theorem setUnit_tel (kind ix : Nat) (u : FUnit) (s : State) : (setUnit kind ix u s).tel = s.tel := rfl
@[simp] theorem setUnit_pwr (kind ix : Nat) (u : FUnit) (s : State) : (setUnit kind ix u s).pwr = s.pwr := rfl
@[simp] theorem setUnit_slt (kind ix : Nat) (u : FUnit) (s : State) : (setUnit kind ix u s).slt = s.slt := rfl
@[simp] theorem setUnit_pip (kind ix : Nat) (u : FUnit) (s : State) : (setUnit kind ix u s).pip = s.pip := rfl
@[simp] theorem setUnit_tbl (kind ix : Nat) (u : FUnit) (s : State) : (setUnit kind ix u s).tbl = s.tbl := rfl
@[simp] theorem setUnit_buf (kind ix : Nat) (u : FUnit) (s : State) : (setUnit kind ix u s).buf = s.buf := rfl
@[simp] theorem setUnit_sch (kind ix : Nat) (u : FUnit) (s : State) : (setUnit kind ix u s).sch = s.sch := rfl
@[simp] theorem setUnit_mem (kind ix : Nat) (u : FUnit) (s : State) : (setUnit kind ix u s).mem = s.mem := rfl
@[simp] theorem setUnit_col (kind ix : Nat) (u : FUnit) (s : State) : (setUnit kind ix u s).col = s.col := rfl
@[simp] theorem setUnit_pool (kind ix : Nat) (u : FUnit) (s : State) : (setUnit kind ix u s).pool = s.pool := rfl
@[simp] theorem setUnit_seq (kind ix : Nat) (u : FUnit) (s : State) : (setUnit kind ix u s).seq = s.seq := rfl
@[simp] theorem setUnit_upset (kind ix : Nat) (u : FUnit) (s : State) : (setUnit kind ix u s).upset = s.upset := rfl

@[simp] theorem wrWord_pending (r : RegDesc) (n w : Nat) (v : Word) (s : State) : (wrWord r n w v s).pending = s.pending := rfl
@[simp] theorem wrWord_latch (r : RegDesc) (n w : Nat) (v : Word) (s : State) : (wrWord r n w v s).latch = s.latch := rfl
@[simp] theorem wrWord_hold (r : RegDesc) (n w : Nat) (v : Word) (s : State) : (wrWord r n w v s).hold = s.hold := rfl
@[simp] theorem wrWord_aon (r : RegDesc) (n w : Nat) (v : Word) (s : State) : (wrWord r n w v s).aon = s.aon := rfl
@[simp] theorem wrWord_out (r : RegDesc) (n w : Nat) (v : Word) (s : State) : (wrWord r n w v s).out = s.out := rfl
@[simp] theorem wrWord_freeIx (r : RegDesc) (n w : Nat) (v : Word) (s : State) : (wrWord r n w v s).freeIx = s.freeIx := rfl
@[simp] theorem wrWord_hif (r : RegDesc) (n w : Nat) (v : Word) (s : State) : (wrWord r n w v s).hif = s.hif := rfl
@[simp] theorem wrWord_tim (r : RegDesc) (n w : Nat) (v : Word) (s : State) : (wrWord r n w v s).tim = s.tim := rfl
@[simp] theorem wrWord_flt (r : RegDesc) (n w : Nat) (v : Word) (s : State) : (wrWord r n w v s).flt = s.flt := rfl
@[simp] theorem wrWord_sys (r : RegDesc) (n w : Nat) (v : Word) (s : State) : (wrWord r n w v s).sys = s.sys := rfl
@[simp] theorem wrWord_lan (r : RegDesc) (n w : Nat) (v : Word) (s : State) : (wrWord r n w v s).lan = s.lan := rfl
@[simp] theorem wrWord_mac (r : RegDesc) (n w : Nat) (v : Word) (s : State) : (wrWord r n w v s).mac = s.mac := rfl
@[simp] theorem wrWord_tel (r : RegDesc) (n w : Nat) (v : Word) (s : State) : (wrWord r n w v s).tel = s.tel := rfl
@[simp] theorem wrWord_pwr (r : RegDesc) (n w : Nat) (v : Word) (s : State) : (wrWord r n w v s).pwr = s.pwr := rfl
@[simp] theorem wrWord_slt (r : RegDesc) (n w : Nat) (v : Word) (s : State) : (wrWord r n w v s).slt = s.slt := rfl
@[simp] theorem wrWord_pip (r : RegDesc) (n w : Nat) (v : Word) (s : State) : (wrWord r n w v s).pip = s.pip := rfl
@[simp] theorem wrWord_tbl (r : RegDesc) (n w : Nat) (v : Word) (s : State) : (wrWord r n w v s).tbl = s.tbl := rfl
@[simp] theorem wrWord_buf (r : RegDesc) (n w : Nat) (v : Word) (s : State) : (wrWord r n w v s).buf = s.buf := rfl
@[simp] theorem wrWord_sch (r : RegDesc) (n w : Nat) (v : Word) (s : State) : (wrWord r n w v s).sch = s.sch := rfl
@[simp] theorem wrWord_mem (r : RegDesc) (n w : Nat) (v : Word) (s : State) : (wrWord r n w v s).mem = s.mem := rfl
@[simp] theorem wrWord_col (r : RegDesc) (n w : Nat) (v : Word) (s : State) : (wrWord r n w v s).col = s.col := rfl
@[simp] theorem wrWord_pool (r : RegDesc) (n w : Nat) (v : Word) (s : State) : (wrWord r n w v s).pool = s.pool := rfl
@[simp] theorem wrWord_seq (r : RegDesc) (n w : Nat) (v : Word) (s : State) : (wrWord r n w v s).seq = s.seq := rfl
@[simp] theorem wrWord_upset (r : RegDesc) (n w : Nat) (v : Word) (s : State) : (wrWord r n w v s).upset = s.upset := rfl

@[simp] theorem wr_pending (r : RegDesc) (n v : Nat) (s : State) : (wr r n v s).pending = s.pending := by unfold wr; split <;> rfl
@[simp] theorem wr_latch (r : RegDesc) (n v : Nat) (s : State) : (wr r n v s).latch = s.latch := by unfold wr; split <;> rfl
@[simp] theorem wr_hold (r : RegDesc) (n v : Nat) (s : State) : (wr r n v s).hold = s.hold := by unfold wr; split <;> rfl
@[simp] theorem wr_aon (r : RegDesc) (n v : Nat) (s : State) : (wr r n v s).aon = s.aon := by unfold wr; split <;> rfl
@[simp] theorem wr_out (r : RegDesc) (n v : Nat) (s : State) : (wr r n v s).out = s.out := by unfold wr; split <;> rfl
@[simp] theorem wr_freeIx (r : RegDesc) (n v : Nat) (s : State) : (wr r n v s).freeIx = s.freeIx := by unfold wr; split <;> rfl
@[simp] theorem wr_hif (r : RegDesc) (n v : Nat) (s : State) : (wr r n v s).hif = s.hif := by unfold wr; split <;> rfl
@[simp] theorem wr_tim (r : RegDesc) (n v : Nat) (s : State) : (wr r n v s).tim = s.tim := by unfold wr; split <;> rfl
@[simp] theorem wr_flt (r : RegDesc) (n v : Nat) (s : State) : (wr r n v s).flt = s.flt := by unfold wr; split <;> rfl
@[simp] theorem wr_sys (r : RegDesc) (n v : Nat) (s : State) : (wr r n v s).sys = s.sys := by unfold wr; split <;> rfl
@[simp] theorem wr_lan (r : RegDesc) (n v : Nat) (s : State) : (wr r n v s).lan = s.lan := by unfold wr; split <;> rfl
@[simp] theorem wr_mac (r : RegDesc) (n v : Nat) (s : State) : (wr r n v s).mac = s.mac := by unfold wr; split <;> rfl
@[simp] theorem wr_tel (r : RegDesc) (n v : Nat) (s : State) : (wr r n v s).tel = s.tel := by unfold wr; split <;> rfl
@[simp] theorem wr_pwr (r : RegDesc) (n v : Nat) (s : State) : (wr r n v s).pwr = s.pwr := by unfold wr; split <;> rfl
@[simp] theorem wr_slt (r : RegDesc) (n v : Nat) (s : State) : (wr r n v s).slt = s.slt := by unfold wr; split <;> rfl
@[simp] theorem wr_pip (r : RegDesc) (n v : Nat) (s : State) : (wr r n v s).pip = s.pip := by unfold wr; split <;> rfl
@[simp] theorem wr_tbl (r : RegDesc) (n v : Nat) (s : State) : (wr r n v s).tbl = s.tbl := by unfold wr; split <;> rfl
@[simp] theorem wr_buf (r : RegDesc) (n v : Nat) (s : State) : (wr r n v s).buf = s.buf := by unfold wr; split <;> rfl
@[simp] theorem wr_sch (r : RegDesc) (n v : Nat) (s : State) : (wr r n v s).sch = s.sch := by unfold wr; split <;> rfl
@[simp] theorem wr_mem (r : RegDesc) (n v : Nat) (s : State) : (wr r n v s).mem = s.mem := by unfold wr; split <;> rfl
@[simp] theorem wr_col (r : RegDesc) (n v : Nat) (s : State) : (wr r n v s).col = s.col := by unfold wr; split <;> rfl
@[simp] theorem wr_pool (r : RegDesc) (n v : Nat) (s : State) : (wr r n v s).pool = s.pool := by unfold wr; split <;> rfl
@[simp] theorem wr_seq (r : RegDesc) (n v : Nat) (s : State) : (wr r n v s).seq = s.seq := by unfold wr; split <;> rfl
@[simp] theorem wr_upset (r : RegDesc) (n v : Nat) (s : State) : (wr r n v s).upset = s.upset := by unfold wr; split <;> rfl

@[simp] theorem emit_out (o : Out) (s : State) : (emit o s).out = o :: s.out := rfl

end Sys2Proof.Machine
end

