-- ==== Sys2Proof/Laws/Ops.lean ====
section
/-! SUPPORT. What each shared operation can do, said once: the parts of the state it changes, and what a command in flight that
may start answers. -/
namespace Sys2Proof.Machine

/-- Two states that agree on everything but the host interface's own state, the registers (the pending bits of masked vectors)
and what the block has sent out. -/
def SameBut (s t : State) : Prop := ∃ h o r, t = { s with hif := h, out := o, regs := r }

theorem SameBut.refl (s : State) : SameBut s s := ⟨s.hif, s.out, s.regs, rfl⟩

theorem SameBut.trans {s t u : State} (a : SameBut s t) (b : SameBut t u) : SameBut s u := by
  obtain ⟨h, o, r, rfl⟩ := a
  obtain ⟨h', o', r', rfl⟩ := b
  exact ⟨h', o', r', rfl⟩

theorem sameBut_emit (o : Out) (s : State) : SameBut s (emit o s) := ⟨s.hif, o :: s.out, s.regs, rfl⟩
theorem sameBut_setRing (n : Nat) (r : Ring) (s : State) : SameBut s (setRing n r s) := ⟨_, s.out, s.regs, rfl⟩
theorem sameBut_setChan (n : Nat) (c : Chan) (s : State) : SameBut s (setChan n c s) := ⟨_, s.out, s.regs, rfl⟩
theorem sameBut_retire (ref : CmdRef) (s : State) : SameBut s (retire ref s) := ⟨_, s.out, s.regs, rfl⟩
theorem sameBut_modCmd (ref : CmdRef) (f : Cmd → Cmd) (s : State) : SameBut s (modCmd ref f s) := ⟨_, s.out, s.regs, rfl⟩
theorem sameBut_startXfer (x : Xfer) (ch : Nat) (s : State) : SameBut s (startXfer x ch s) := ⟨_, s.out, s.regs, rfl⟩

theorem sameBut_raiseVector (n : Nat) (s : State) : SameBut s (raiseVector n s) := by
  unfold raiseVector
  split
  · exact ⟨s.hif, s.out, _, rfl⟩
  · exact sameBut_emit _ _

/-- Writing an event changes its ring and goes out to the host. -/
theorem sameBut_writeEvent (n : Nat) (e : Event) (s : State) : SameBut s (writeEvent n e s) := by
  unfold writeEvent
  dsimp only
  split
  · exact (sameBut_emit _ _).trans (sameBut_setRing _ _ _)
  · split
    · exact ((sameBut_emit _ _).trans (sameBut_setRing _ _ _)).trans (sameBut_raiseVector _ _)
    · exact (sameBut_emit _ _).trans (sameBut_setRing _ _ _)

theorem sameBut_asyncToRing (n : Nat) (e : Event) (s : State) : SameBut s (asyncToRing n e s) := by
  unfold asyncToRing
  dsimp only
  split
  · exact sameBut_writeEvent _ _ _
  · split
    · exact sameBut_setRing _ _ _
    · exact (sameBut_setRing _ _ _).trans ⟨_, _, _, rfl⟩

/-- Posting an asynchronous event changes the host interface and the output only. -/
theorem sameBut_post (code : Nat) (p : List Byte) (s : State) : SameBut s (post code p s) := by
  unfold post
  dsimp only
  split
  · exact SameBut.refl s
  · split
    · exact sameBut_asyncToRing _ _ _
    · exact ⟨_, s.out, s.regs, rfl⟩

theorem sameBut_completeTo (c : Cmd) (e : Event) (s : State) : SameBut s (completeTo c e s) := by
  unfold completeTo
  dsimp only
  split
  · exact (sameBut_writeEvent _ _ _).trans (sameBut_retire _ _)
  · exact (sameBut_setRing _ _ _).trans (sameBut_modCmd _ _ _)

/-- The end of a command changes the host interface and the output only. -/
theorem sameBut_finish (c : Cmd) (r : CmdRes) (d l : Nat) (s : State) : SameBut s (finish c r d l s) := by
  unfold finish
  dsimp only
  split
  · exact SameBut.refl s
  · split
    · exact (sameBut_retire _ _).trans ⟨_, _, _, rfl⟩
    · split
      · exact sameBut_completeTo _ _ _
      · exact sameBut_retire _ _

theorem sameBut_finishRef (ref : CmdRef) (r : CmdRes) (s : State) : SameBut s (finishRef ref r s) := by
  unfold finishRef
  split
  · exact SameBut.refl s
  · exact sameBut_finish _ _ _ _ _

theorem sameBut_conclude (c : Cmd) (r : CmdRes) (ds : List Nat) (s : State) : SameBut s (conclude c r ds s) := by
  unfold conclude
  split
  · exact sameBut_finish _ _ _ _ _
  · split
    · exact sameBut_finish _ _ _ _ _
    · split <;> exact sameBut_startXfer _ _ _

/-- A command's row keeps a relation to the state before that its body keeps and that reaches every state the command engine
itself makes. -/
theorem runCmdIn_rel (R : State → State → Prop) (hs : ∀ {a b : State}, SameBut a b → R a b)
    (ht : ∀ {a b c : State}, R a b → R b c → R a c) (ds : Cmd → State → List Nat) (op : Nat) (ref : CmdRef)
    (body : Cmd → State → State × CmdEnd) (hb : ∀ c t, R t (body c t).1) (s : State) : R s (runCmdIn ds op ref body s) := by
  unfold runCmdIn
  split
  · exact hs (SameBut.refl s)
  · rename_i c _
    split
    · split
      · exact hs (sameBut_finish _ _ _ _ _)
      · rename_i d
        have h0 : R s (finish c { status := 0x07 } 0 0 (modCmd ref (fun d => { d with stage := .running }) s)) :=
          hs ((sameBut_modCmd _ _ _).trans (sameBut_finish _ _ _ _ _))
        dsimp only
        have h1 : R s (modCmd ref (fun d => { d with stage := .running }) s) := hs (sameBut_modCmd _ _ _)
        have h2 := ht h1 (hb c _)
        split
        · rename_i t heq
          rw [heq] at h2
          split
          · exact h0
          · exact h2
        · rename_i t r heq
          rw [heq] at h2
          split
          · exact h0
          · exact ht h2 (hs (sameBut_conclude _ _ _ _))
    · exact hs (SameBut.refl s)

/-- A command in flight that may start, and whose data's domains are on, runs its owner's effect and concludes with the owner's
result. -/
theorem runCmdIn_ready (ds : Cmd → State → List Nat) (op : Nat) (c : Cmd) (body : Cmd → State → State × CmdEnd) (s : State)
    (h1 : findCmd c.ref s = some c) (h2 : s.sys.mode.engine = true) (h3 : c.opcode = op) (h4 : c.stage = .fetched)
    (h5 : startable c s = true) (h6 : chanReady c s = true) (h7 : startCheck c s = none)
    (h8 : c.len = 0 ∨ domsDown (ds c (modCmd c.ref (fun d => { d with stage := .running }) s)) s = false) :
    runCmdIn ds op c.ref body s =
      match body c (modCmd c.ref (fun d => { d with stage := .running }) s) with
      | (t, .later) => t
      | (t, .done r) => conclude c r (ds c (modCmd c.ref (fun d => { d with stage := .running }) s)) t := by
  have h9 : (decide (c.len ≠ 0) && domsDown (ds c (modCmd c.ref (fun d => { d with stage := .running }) s))
      (modCmd c.ref (fun d => { d with stage := .running }) s)) = false := by
    rcases h8 with h | h
    · simp [h]
    · exact Bool.and_eq_false_imp.mpr fun _ => h
  unfold runCmdIn
  rw [h1]
  dsimp only
  rw [if_pos ⟨h2, h3, h4, h5, .inl h6⟩, h7]
  dsimp only
  rw [h9]
  rcases body c (modCmd c.ref (fun d => { d with stage := .running }) s) with ⟨t, _ | r⟩
  · rfl
  · simp

end Sys2Proof.Machine
end

