-- ==== Sys2Proof/Laws/Run.lean ====
section
/-! SUPPORT. How rows answer: a row with an index, a row of a window that the mode serves, and a command that is ready. -/
namespace Sys2Proof.Machine

@[simp] theorem within_true (s : State) : within true s = .next s := rfl
@[simp] theorem within_false (s : State) : within false s = .fault .noSuchUnit := rfl

theorem whenOpen_open {s : State} (t : State) (h : s.sys.mode.engine = true) : whenOpen s t = t := by simp [whenOpen, h]

theorem ready_iff (op : Nat) (c : Cmd) (s : State) : ready op c s = true ↔
    findCmd c.ref s = some c ∧ s.sys.mode.engine = true ∧ c.opcode = op ∧ c.stage = .fetched ∧ startable c s = true ∧
      chanReady c s = true ∧ startCheck c s = none ∧ (c.len = 0 ∨ domsDown (cmdDoms c s) s = false) := by
  simp [ready, and_assoc]

/-- A ready command, whose data's domains are on, runs its owner's effect and concludes with the owner's result. -/
theorem runCmdIn_of_ready {op : Nat} {c : Cmd} {s : State} (h : ready op c s = true) (ds : Cmd → State → List Nat)
    (hd : c.len = 0 ∨ domsDown (ds c (started c s)) s = false) (body : Cmd → State → State × CmdEnd) :
    runCmdIn ds op c.ref body s =
      match body c (started c s) with
      | (t, .later) => t
      | (t, .done r) => conclude c r (ds c (started c s)) t := by
  obtain ⟨h1, h2, h3, h4, h5, h6, h7, _⟩ := (ready_iff op c s).mp h
  exact runCmdIn_ready ds op c body s h1 h2 h3 h4 h5 h6 h7 hd

theorem runCmd_of_ready {op : Nat} {c : Cmd} {s : State} (h : ready op c s = true) (body : Cmd → State → State × CmdEnd) :
    runCmd op c.ref body s =
      match body c (started c s) with
      | (t, .later) => t
      | (t, .done r) => conclude c r (cmdDoms c s) t :=
  runCmdIn_of_ready h cmdDoms ((ready_iff op c s).mp h).2.2.2.2.2.2.2 body

/-- A command that starts changes only the host interface's list of commands in flight. -/
theorem started_eq (c : Cmd) (s : State) : ∃ l, started c s = { s with hif := { s.hif with inflight := l } } := ⟨_, rfl⟩

@[simp] theorem started_regs (c : Cmd) (s : State) : (started c s).regs = s.regs := rfl
@[simp] theorem started_sys (c : Cmd) (s : State) : (started c s).sys = s.sys := rfl
@[simp] theorem started_flt (c : Cmd) (s : State) : (started c s).flt = s.flt := rfl
@[simp] theorem started_tim (c : Cmd) (s : State) : (started c s).tim = s.tim := rfl
@[simp] theorem started_lan (c : Cmd) (s : State) : (started c s).lan = s.lan := rfl
@[simp] theorem started_mac (c : Cmd) (s : State) : (started c s).mac = s.mac := rfl
@[simp] theorem started_tel (c : Cmd) (s : State) : (started c s).tel = s.tel := rfl
@[simp] theorem started_pwr (c : Cmd) (s : State) : (started c s).pwr = s.pwr := rfl
@[simp] theorem started_slt (c : Cmd) (s : State) : (started c s).slt = s.slt := rfl
@[simp] theorem started_pip (c : Cmd) (s : State) : (started c s).pip = s.pip := rfl
@[simp] theorem started_tbl (c : Cmd) (s : State) : (started c s).tbl = s.tbl := rfl
@[simp] theorem started_buf (c : Cmd) (s : State) : (started c s).buf = s.buf := rfl
@[simp] theorem started_sch (c : Cmd) (s : State) : (started c s).sch = s.sch := rfl
@[simp] theorem started_mem (c : Cmd) (s : State) : (started c s).mem = s.mem := rfl
@[simp] theorem started_col (c : Cmd) (s : State) : (started c s).col = s.col := rfl
@[simp] theorem started_pool (c : Cmd) (s : State) : (started c s).pool = s.pool := rfl
@[simp] theorem started_seq (c : Cmd) (s : State) : (started c s).seq = s.seq := rfl
@[simp] theorem started_upset (c : Cmd) (s : State) : (started c s).upset = s.upset := rfl
@[simp] theorem started_aon (c : Cmd) (s : State) : (started c s).aon = s.aon := rfl
@[simp] theorem started_freeIx (c : Cmd) (s : State) : (started c s).freeIx = s.freeIx := rfl
@[simp] theorem started_out (c : Cmd) (s : State) : (started c s).out = s.out := rfl
@[simp] theorem started_rings (c : Cmd) (s : State) : (started c s).hif.rings = s.hif.rings := rfl
@[simp] theorem started_chans (c : Cmd) (s : State) : (started c s).hif.chans = s.hif.chans := rfl
@[simp] theorem started_pending (c : Cmd) (s : State) : (started c s).pending = s.pending := rfl

@[simp] theorem started_rd (c : Cmd) (r : RegDesc) (n : Nat) (s : State) : rd r n (started c s) = rd r n s := rfl
@[simp] theorem started_rdFld (c : Cmd) (r : RegDesc) (n lo w : Nat) (s : State) :
    rdFld r n lo w (started c s) = rdFld r n lo w s := rfl
@[simp] theorem started_ringOn (c : Cmd) (n : Nat) (s : State) : ringOn n (started c s) = ringOn n s := rfl
@[simp] theorem started_ringKind (c : Cmd) (n : Nat) (s : State) : ringKind n (started c s) = ringKind n s := rfl
@[simp] theorem started_evRingOn (c : Cmd) (n : Nat) (s : State) : evRingOn n (started c s) = evRingOn n s := rfl
@[simp] theorem started_getRing (c : Cmd) (n : Nat) (s : State) : getRing n (started c s) = getRing n s := rfl
@[simp] theorem started_getChan (c : Cmd) (n : Nat) (s : State) : getChan n (started c s) = getChan n s := rfl
@[simp] theorem started_getUnit (c : Cmd) (k n : Nat) (s : State) : getUnit k n (started c s) = getUnit k n s := rfl
@[simp] theorem started_fencedU (c : Cmd) (k n : Nat) (s : State) : fencedU k n (started c s) = fencedU k n s := rfl
@[simp] theorem started_timeOf (c : Cmd) (n : Nat) (s : State) : timeOf n (started c s) = timeOf n s := rfl

end Sys2Proof.Machine
end

