-- ==== Sys2Proof/Laws/Started.lean ====
section
/-! SUPPORT. What the start of a command leaves as it is: every view of the state but the list of commands in flight. -/
namespace Sys2Proof.Machine

@[simp] theorem started_tbRuns (cs : Cmd) (n : Nat) (s : State) : tbRuns n (started cs s) = tbRuns n s := rfl
@[simp] theorem started_stampOf (cs : Cmd) (n : Nat) (s : State) : stampOf n (started cs s) = stampOf n s := rfl
@[simp] theorem started_tsBase (cs : Cmd) (s : State) : tsBase (started cs s) = tsBase s := rfl
@[simp] theorem started_stamp (cs : Cmd) (s : State) : stamp (started cs s) = stamp s := rfl
@[simp] theorem started_ringSize (cs : Cmd) (n : Nat) (s : State) : ringSize n (started cs s) = ringSize n s := rfl
@[simp] theorem started_ringEv (cs : Cmd) (n : Nat) (s : State) : ringEv n (started cs s) = ringEv n s := rfl
@[simp] theorem started_ringCh (cs : Cmd) (n : Nat) (s : State) : ringCh n (started cs s) = ringCh n s := rfl
@[simp] theorem started_vectorMasked (cs : Cmd) (n : Nat) (s : State) : vectorMasked n (started cs s) = vectorMasked n s := rfl
@[simp] theorem started_ringRoom (cs : Cmd) (n : Nat) (s : State) : ringRoom n (started cs s) = ringRoom n s := rfl
@[simp] theorem started_mkAsync (cs : Cmd) (code : Nat) (payload : List Byte) (s : State) : mkAsync code payload (started cs s) = mkAsync code payload s := rfl
@[simp] theorem started_anyFenced (cs : Cmd) (s : State) : anyFenced (started cs s) = anyFenced s := rfl
@[simp] theorem started_completion (cs : Cmd) (c1 : Cmd) (r : CmdRes) (done left : Nat) (s : State) : completion c1 r done left (started cs s) = completion c1 r done left s := rfl
@[simp] theorem started_chanOn (cs : Cmd) (ch : Nat) (s : State) : chanOn ch (started cs s) = chanOn ch s := rfl
@[simp] theorem started_startCheck (cs : Cmd) (c1 : Cmd) (s : State) : startCheck c1 (started cs s) = startCheck c1 s := rfl
@[simp] theorem started_cmdDoms (cs : Cmd) (c1 : Cmd) (s : State) : cmdDoms c1 (started cs s) = cmdDoms c1 s := rfl
@[simp] theorem started_domsDown (cs : Cmd) (ds : List Nat) (s : State) : domsDown ds (started cs s) = domsDown ds s := rfl
@[simp] theorem started_chanServes (cs : Cmd) (ch : Nat) (s : State) : chanServes ch (started cs s) = chanServes ch s := rfl
@[simp] theorem started_sergeChan (cs : Cmd) (ch : Nat) (s : State) : sergeChan ch (started cs s) = sergeChan ch s := rfl
@[simp] theorem started_getSensor (cs : Cmd) (n : Nat) (s : State) : getSensor n (started cs s) = getSensor n s := rfl
@[simp] theorem started_sensorTemp (cs : Cmd) (n : Nat) (s : State) : sensorTemp n (started cs s) = sensorTemp n s := rfl
@[simp] theorem started_upsetOf (cs : Cmd) (mem ix : Nat) (s : State) : upsetOf mem ix (started cs s) = upsetOf mem ix s := rfl
@[simp] theorem started_flipsOf (cs : Cmd) (mem ix : Nat) (s : State) : flipsOf mem ix (started cs s) = flipsOf mem ix s := rfl
@[simp] theorem started_ctrValue (cs : Cmd) (kind num : Nat) (s : State) : ctrValue kind num (started cs s) = ctrValue kind num s := rfl
@[simp] theorem started_getGrp (cs : Cmd) (g : Nat) (s : State) : getGrp g (started cs s) = getGrp g s := rfl
@[simp] theorem started_grpSpeed (cs : Cmd) (g : Nat) (s : State) : grpSpeed g (started cs s) = grpSpeed g s := rfl
@[simp] theorem started_slotBase (cs : Cmd) (g : Nat) (s : State) : slotBase g (started cs s) = slotBase g s := rfl
@[simp] theorem started_grpSlots (cs : Cmd) (g : Nat) (s : State) : grpSlots g (started cs s) = grpSlots g s := rfl
@[simp] theorem started_grpOn (cs : Cmd) (g : Nat) (s : State) : grpOn g (started cs s) = grpOn g s := rfl
@[simp] theorem started_pageRange (cs : Cmd) (g page : Nat) (s : State) : pageRange g page (started cs s) = pageRange g page s := rfl
@[simp] theorem started_calOk (cs : Cmd) (g cal : Nat) (s : State) : calOk g cal (started cs s) = calOk g cal s := rfl
@[simp] theorem started_macRuns (cs : Cmd) (p : Nat) (s : State) : macRuns p (started cs s) = macRuns p s := rfl
@[simp] theorem started_binLost (cs : Cmd) (day : Bool) (b : PmBin) (s : State) : binLost day b (started cs s) = binLost day b s := rfl
@[simp] theorem started_freezeBin (cs : Cmd) (b : PmBin) (s : State) : freezeBin b (started cs s) = freezeBin b s := rfl
@[simp] theorem started_pmTb (cs : Cmd) (s : State) : pmTb (started cs s) = pmTb s := rfl
@[simp] theorem started_starts (cs : Cmd) (m : Nat) (s : State) : starts m (started cs s) = starts m s := rfl
@[simp] theorem started_portWidth (cs : Cmd) (p : Nat) (s : State) : portWidth p (started cs s) = portWidth p s := rfl
@[simp] theorem started_portLanes (cs : Cmd) (p : Nat) (s : State) : portLanes p (started cs s) = portLanes p s := rfl
@[simp] theorem started_rateOf (cs : Cmd) (m : Nat) (s : State) : rateOf m (started cs s) = rateOf m s := rfl
@[simp] theorem started_macroOn (cs : Cmd) (m : Nat) (s : State) : macroOn m (started cs s) = macroOn m s := rfl
@[simp] theorem started_getLane (cs : Cmd) (n : Nat) (s : State) : getLane n (started cs s) = getLane n s := rfl
@[simp] theorem started_getMacro (cs : Cmd) (m : Nat) (s : State) : getMacro m (started cs s) = getMacro m s := rfl
@[simp] theorem started_getGroup (cs : Cmd) (g : Nat) (s : State) : getGroup g (started cs s) = getGroup g s := rfl
@[simp] theorem started_getPort (cs : Cmd) (p : Nat) (s : State) : getPort p (started cs s) = getPort p s := rfl
@[simp] theorem started_macroFenced (cs : Cmd) (m : Nat) (s : State) : macroFenced m (started cs s) = macroFenced m s := rfl
@[simp] theorem started_macroTesting (cs : Cmd) (m : Nat) (s : State) : macroTesting m (started cs s) = macroTesting m s := rfl
@[simp] theorem started_portFenced (cs : Cmd) (p : Nat) (s : State) : portFenced p (started cs s) = portFenced p s := rfl
@[simp] theorem started_groupTemp (cs : Cmd) (g : Nat) (s : State) : groupTemp g (started cs s) = groupTemp g s := rfl
@[simp] theorem started_getPkt (cs : Cmd) (i : Nat) (s : State) : getPkt i (started cs s) = getPkt i s := rfl
@[simp] theorem started_atStage (cs : Cmd) (i : Nat) (st : PktStage) (s : State) : atStage i st (started cs s) = atStage i st s := rfl
@[simp] theorem started_getQ (cs : Cmd) (q : Nat) (s : State) : getQ q (started cs s) = getQ q s := rfl
@[simp] theorem started_pipeOfPort (cs : Cmd) (p : Nat) (s : State) : pipeOfPort p (started cs s) = pipeOfPort p s := rfl
@[simp] theorem started_pktTb (cs : Cmd) (s : State) : pktTb (started cs s) = pktTb s := rfl
@[simp] theorem started_gauzeOn (cs : Cmd) (s : State) : gauzeOn (started cs s) = gauzeOn s := rfl
@[simp] theorem started_usable (cs : Cmd) (s : State) : usable (started cs s) = usable s := rfl
@[simp] theorem started_halfOf (cs : Cmd) (a : Nat) (s : State) : halfOf a (started cs s) = halfOf a s := rfl
@[simp] theorem started_getMChan (cs : Cmd) (ch : Nat) (s : State) : getMChan ch (started cs s) = getMChan ch s := rfl
@[simp] theorem started_halfServes (cs : Cmd) (h : Nat) (s : State) : halfServes h (started cs s) = halfServes h s := rfl
@[simp] theorem started_chanUp (cs : Cmd) (ch : Nat) (s : State) : chanUp ch (started cs s) = chanUp ch s := rfl
@[simp] theorem started_getEm (cs : Cmd) (i : Nat) (s : State) : getEm i (started cs s) = getEm i s := rfl
@[simp] theorem started_emFind (cs : Cmd) (key : List Byte) (typ : Nat) (s : State) : emFind key typ (started cs s) = emFind key typ s := rfl
@[simp] theorem started_typeDefined (cs : Cmd) (t : Nat) (s : State) : typeDefined t (started cs s) = typeDefined t s := rfl
@[simp] theorem started_lpmUsed (cs : Cmd) (s : State) : lpmUsed (started cs s) = lpmUsed s := rfl
@[simp] theorem started_tcamRec (cs : Cmd) (ix : Nat) (s : State) : tcamRec ix (started cs s) = tcamRec ix s := rfl
@[simp] theorem started_areaOf (cs : Cmd) (k : Nat) (s : State) : areaOf k (started cs s) = areaOf k s := rfl
@[simp] theorem started_neverSpills (cs : Cmd) (q : Nat) (s : State) : neverSpills q (started cs s) = neverSpills q s := rfl
@[simp] theorem started_blockAddr (cs : Cmd) (id : Nat) (s : State) : blockAddr id (started cs s) = blockAddr id s := rfl
@[simp] theorem started_blockChan (cs : Cmd) (id : Nat) (s : State) : blockChan id (started cs s) = blockChan id s := rfl
@[simp] theorem started_fits (cs : Cmd) (q n pool : Nat) (s : State) : fits q n pool (started cs s) = fits q n pool s := rfl
@[simp] theorem started_mayRead (cs : Cmd) (q : Nat) (b : RBlock) (s : State) : mayRead q b (started cs s) = mayRead q b s := rfl
@[simp] theorem started_groupRate (cs : Cmd) (g : Nat) (s : State) : groupRate g (started cs s) = groupRate g s := rfl
@[simp] theorem started_macroPorts (cs : Cmd) (m : Nat) (s : State) : macroPorts m (started cs s) = macroPorts m s := rfl
@[simp] theorem started_groupPowered (cs : Cmd) (g : Nat) (s : State) : groupPowered g (started cs s) = groupPowered g s := rfl
@[simp] theorem started_macroCfgBad (cs : Cmd) (m v : Nat) (s : State) : macroCfgBad m v (started cs s) = macroCfgBad m v s := rfl
@[simp] theorem started_testAllowed (cs : Cmd) (n : Nat) (s : State) : testAllowed n (started cs s) = testAllowed n s := rfl
@[simp] theorem started_laneRecord (cs : Cmd) (n : Nat) (s : State) : laneRecord n (started cs s) = laneRecord n s := rfl
@[simp] theorem started_isNrz (cs : Cmd) (p : Nat) (s : State) : isNrz p (started cs s) = isNrz p s := rfl
@[simp] theorem started_macCheck (cs : Cmd) (p : Nat) (frame : List Byte) (codewords : List Nat) (s : State) : macCheck p frame codewords (started cs s) = macCheck p frame codewords s := rfl
@[simp] theorem started_frameTaken (cs : Cmd) (p : Nat) (s : State) : frameTaken p (started cs s) = frameTaken p s := rfl
@[simp] theorem started_fcFrame (cs : Cmd) (p : Nat) (s : State) : fcFrame p (started cs s) = fcFrame p s := rfl
@[simp] theorem started_mayTransmit (cs : Cmd) (p : Nat) (s : State) : mayTransmit p (started cs s) = mayTransmit p s := rfl
@[simp] theorem started_pcsLanes (cs : Cmd) (p : Nat) (s : State) : pcsLanes p (started cs s) = pcsLanes p s := rfl
@[simp] theorem started_pcsRuns (cs : Cmd) (p : Nat) (s : State) : pcsRuns p (started cs s) = pcsRuns p s := rfl
@[simp] theorem started_portRecord (cs : Cmd) (p : Nat) (s : State) : portRecord p (started cs s) = portRecord p s := rfl
@[simp] theorem started_holdersOf (cs : Cmd) (pkt : Nat) (s : State) : holdersOf pkt (started cs s) = holdersOf pkt s := rfl
@[simp] theorem started_heldQueues (cs : Cmd) (p c1 : Nat) (s : State) : heldQueues p c1 (started cs s) = heldQueues p c1 s := rfl
@[simp] theorem started_readReady (cs : Cmd) (q : Nat) (s : State) : readReady q (started cs s) = readReady q s := rfl
@[simp] theorem started_readTurn (cs : Cmd) (q : Nat) (s : State) : readTurn q (started cs s) = readTurn q s := rfl
@[simp] theorem started_queueRecord (cs : Cmd) (q : Nat) (s : State) : queueRecord q (started cs s) = queueRecord q s := rfl
@[simp] theorem started_getDom (cs : Cmd) (d : Nat) (s : State) : getDom d (started cs s) = getDom d s := rfl
@[simp] theorem started_getCluster (cs : Cmd) (k : Nat) (s : State) : getCluster k (started cs s) = getCluster k s := rfl
@[simp] theorem started_domServes (cs : Cmd) (d : Nat) (s : State) : domServes d (started cs s) = domServes d s := rfl
@[simp] theorem started_domStep (cs : Cmd) (d : Nat) (s : State) : domStep d (started cs s) = domStep d s := rfl
@[simp] theorem started_stepMv (cs : Cmd) (cls p : Nat) (s : State) : stepMv cls p (started cs s) = stepMv cls p s := rfl
@[simp] theorem started_getTb (cs : Cmd) (n : Nat) (s : State) : getTb n (started cs s) = getTb n s := rfl
@[simp] theorem started_slewMax (cs : Cmd) (n : Nat) (s : State) : slewMax n (started cs s) = slewMax n s := rfl
@[simp] theorem started_slewEn (cs : Cmd) (n : Nat) (s : State) : slewEn n (started cs s) = slewEn n s := rfl
@[simp] theorem started_paired (cs : Cmd) (p : Nat) (s : State) : paired p (started cs s) = paired p s := rfl
@[simp] theorem started_pairOdd (cs : Cmd) (p : Nat) (s : State) : pairOdd p (started cs s) = pairOdd p s := rfl
@[simp] theorem started_todBytes (cs : Cmd) (n : Nat) (s : State) : todBytes n (started cs s) = todBytes n s := rfl
@[simp] theorem started_pinCfg (cs : Cmd) (pin : Nat) (s : State) : pinCfg pin (started cs s) = pinCfg pin s := rfl
@[simp] theorem started_edgeSelected (cs : Cmd) (pin : Nat) (falling : Bool) (s : State) : edgeSelected pin falling (started cs s) = edgeSelected pin falling s := rfl
@[simp] theorem started_edgeNear (cs : Cmd) (pin : Nat) (s : State) : edgeNear pin (started cs s) = edgeNear pin s := rfl
@[simp] theorem started_tbCheck (cs : Cmd) (c1 : Cmd) (s : State) : tbCheck c1 (started cs s) = tbCheck c1 s := rfl
@[simp] theorem started_timeReadBytes (cs : Cmd) (n : Nat) (s : State) : timeReadBytes n (started cs s) = timeReadBytes n s := rfl
@[simp] theorem started_getJob (cs : Cmd) (j : Nat) (s : State) : getJob j (started cs s) = getJob j s := rfl
@[simp] theorem started_getSlot (cs : Cmd) (j c1 : Nat) (s : State) : getSlot j c1 (started cs s) = getSlot j c1 s := rfl
@[simp] theorem started_epochNow (cs : Cmd) (j : Job) (s : State) : epochNow j (started cs s) = epochNow j s := rfl
@[simp] theorem started_resultMsg (cs : Cmd) (j c1 : Nat) (s : State) : resultMsg j c1 (started cs s) = resultMsg j c1 s := rfl
@[simp] theorem started_freePages (cs : Cmd) (k : Nat) (s : State) : freePages k (started cs s) = freePages k s := rfl
@[simp] theorem started_openSlots (cs : Cmd) (k : Nat) (s : State) : openSlots k (started cs s) = openSlots k s := rfl
@[simp] theorem started_ovfLost (cs : Cmd) (bs : List Nat) (s : State) : ovfLost bs (started cs s) = ovfLost bs s := rfl
@[simp] theorem started_recvCheck (cs : Cmd) (p : CPkt) (s : State) : recvCheck p (started cs s) = recvCheck p s := rfl
@[simp] theorem started_placeJob (cs : Cmd) (step : Nat) (s : State) : placeJob step (started cs s) = placeJob step s := rfl
@[simp] theorem started_keyBytes (cs : Cmd) (t : Nat) (s : State) : keyBytes t (started cs s) = keyBytes t s := rfl
@[simp] theorem started_bankBytes (cs : Cmd) (b : Nat) (s : State) : bankBytes b (started cs s) = bankBytes b s := rfl
@[simp] theorem started_tcamOperand (cs : Cmd) (c1 : Cmd) (s : State) : tcamOperand c1 (started cs s) = tcamOperand c1 s := rfl
@[simp] theorem started_tcamOut (cs : Cmd) (i w : Nat) (s : State) : tcamOut i w (started cs s) = tcamOut i w s := rfl
@[simp] theorem started_tblRec (cs : Cmd) (k i : Nat) (s : State) : tblRec k i (started cs s) = tblRec k i s := rfl
@[simp] theorem started_tableArea (cs : Cmd) (s : State) : tableArea (started cs s) = tableArea s := rfl
@[simp] theorem started_linkUp (cs : Cmd) (p : Nat) (s : State) : linkUp p (started cs s) = linkUp p s := rfl
@[simp] theorem started_devPosWord (cs : Cmd) (n : Nat) (s : State) : devPosWord n (started cs s) = devPosWord n s := rfl
@[simp] theorem started_burstDue (cs : Cmd) (ch : Nat) (last : Option Nat) (s : State) : burstDue ch last (started cs s) = burstDue ch last s := rfl
@[simp] theorem started_posted (cs : Cmd) (n : Nat) (s : State) : posted n (started cs s) = posted n s := rfl
@[simp] theorem started_hasWork (cs : Cmd) (k n : Nat) (s : State) : hasWork k n (started cs s) = hasWork k n s := rfl
@[simp] theorem started_turnRing (cs : Cmd) (s : State) : turnRing (started cs s) = turnRing s := rfl
@[simp] theorem started_decodeCmd (cs : Cmd) (n seq : Nat) (d : List Byte) (s : State) : decodeCmd n seq d (started cs s) = decodeCmd n seq d s := rfl
@[simp] theorem started_sumCount (cs : Cmd) (s : State) : sumCount (started cs s) = sumCount s := rfl
@[simp] theorem started_sumBusy (cs : Cmd) (s : State) : sumBusy (started cs s) = sumBusy s := rfl
@[simp] theorem started_nextXfer (cs : Cmd) (ch : Nat) (dir : Dir) (s : State) : nextXfer ch dir (started cs s) = nextXfer ch dir s := rfl
@[simp] theorem started_nextChan (cs : Cmd) (dir : Dir) (s : State) : nextChan dir (started cs s) = nextChan dir s := rfl
@[simp] theorem started_injectStatus (cs : Cmd) (h : List Byte) (s : State) : injectStatus h (started cs s) = injectStatus h s := rfl
@[simp] theorem started_chanTemp (cs : Cmd) (ch : Nat) (s : State) : chanTemp ch (started cs s) = chanTemp ch s := rfl
@[simp] theorem started_retrainDue (cs : Cmd) (ch : Nat) (s : State) : retrainDue ch (started cs s) = retrainDue ch s := rfl
@[simp] theorem started_mayRetrain (cs : Cmd) (ch : Nat) (s : State) : mayRetrain ch (started cs s) = mayRetrain ch s := rfl
@[simp] theorem started_commonRate (cs : Cmd) (s : State) : commonRate (started cs s) = commonRate s := rfl
@[simp] theorem started_autoSr (cs : Cmd) (s : State) : autoSr (started cs s) = autoSr s := rfl
@[simp] theorem started_memRows (cs : Cmd) (s : State) : memRows (started cs s) = memRows s := rfl
@[simp] theorem started_rowAddr (cs : Cmd) (ch row i : Nat) (s : State) : rowAddr ch row i (started cs s) = rowAddr ch row i s := rfl
@[simp] theorem started_getPBuf (cs : Cmd) (h : Nat) (s : State) : getPBuf h (started cs s) = getPBuf h s := rfl
@[simp] theorem started_poolOn (cs : Cmd) (s : State) : poolOn (started cs s) = poolOn s := rfl
@[simp] theorem started_handleOk (cs : Cmd) (h : Nat) (s : State) : handleOk h (started cs s) = handleOk h s := rfl
@[simp] theorem started_handleAddr (cs : Cmd) (h : Nat) (s : State) : handleAddr h (started cs s) = handleAddr h s := rfl
@[simp] theorem started_poolFor (cs : Cmd) (size tier : Nat) (s : State) : poolFor size tier (started cs s) = poolFor size tier s := rfl
@[simp] theorem started_poolRight (cs : Cmd) (h who : Nat) (s : State) : poolRight h who (started cs s) = poolRight h who s := rfl
@[simp] theorem started_ownedBy (cs : Cmd) (o : Nat) (s : State) : ownedBy o (started cs s) = ownedBy o s := rfl
@[simp] theorem started_vrOn (cs : Cmd) (k : Nat) (s : State) : vrOn k (started cs s) = vrOn k s := rfl
@[simp] theorem started_vrRail (cs : Cmd) (k : Nat) (s : State) : vrRail k (started cs s) = vrRail k s := rfl
@[simp] theorem started_getVr (cs : Cmd) (k : Nat) (s : State) : getVr k (started cs s) = getVr k s := rfl
@[simp] theorem started_devMicro (cs : Cmd) (s : State) : devMicro (started cs s) = devMicro s := rfl
@[simp] theorem started_pNow (cs : Cmd) (s : State) : pNow (started cs s) = pNow s := rfl
@[simp] theorem started_pSustained (cs : Cmd) (s : State) : pSustained (started cs s) = pSustained s := rfl
@[simp] theorem started_peakW (cs : Cmd) (s : State) : peakW (started cs s) = peakW s := rfl
@[simp] theorem started_sustainedW (cs : Cmd) (s : State) : sustainedW (started cs s) = sustainedW s := rfl
@[simp] theorem started_limitEn (cs : Cmd) (s : State) : limitEn (started cs s) = limitEn s := rfl
@[simp] theorem started_atTop (cs : Cmd) (d : Nat) (s : State) : atTop d (started cs s) = atTop d s := rfl
@[simp] theorem started_lowest (cs : Cmd) (l : List Nat) (s : State) : lowest l (started cs s) = lowest l s := rfl
@[simp] theorem started_cooledDie (cs : Cmd) (x : Nat) (s : State) : cooledDie x (started cs s) = cooledDie x s := rfl
@[simp] theorem started_heldThermal (cs : Cmd) (d : Nat) (s : State) : heldThermal d (started cs s) = heldThermal d s := rfl
@[simp] theorem started_trips (cs : Cmd) (det code : Nat) (s : State) : trips det code (started cs s) = trips det code s := rfl
@[simp] theorem started_dieTemp (cs : Cmd) (x : Nat) (s : State) : dieTemp x (started cs s) = dieTemp x s := rfl
@[simp] theorem started_dieCool (cs : Cmd) (x : Nat) (s : State) : dieCool x (started cs s) = dieCool x s := rfl
@[simp] theorem started_relying (cs : Cmd) (d : Nat) (s : State) : relying d (started cs s) = relying d s := rfl
@[simp] theorem started_mayPowerDown (cs : Cmd) (d : Nat) (s : State) : mayPowerDown d (started cs s) = mayPowerDown d s := rfl
@[simp] theorem started_touchesDom (cs : Cmd) (d : Nat) (s : State) : touchesDom d (started cs s) = touchesDom d s := rfl
@[simp] theorem started_powerArea (cs : Cmd) (s : State) : powerArea (started cs s) = powerArea s := rfl
@[simp] theorem started_firstBytes (cs : Cmd) (s : State) : firstBytes (started cs s) = firstBytes s := rfl
@[simp] theorem started_getCtx (cs : Cmd) (e k : Nat) (s : State) : getCtx e k (started cs s) = getCtx e k s := rfl
@[simp] theorem started_rtEntry (cs : Cmd) (r : Nat) (s : State) : rtEntry r (started cs s) = rtEntry r s := rfl
@[simp] theorem started_ctxOf (cs : Cmd) (r : Nat) (s : State) : ctxOf r (started cs s) = ctxOf r s := rfl
@[simp] theorem started_stopReq (cs : Cmd) (r : Nat) (s : State) : stopReq r (started cs s) = stopReq r s := rfl
@[simp] theorem started_freeCtx (cs : Cmd) (mask : Nat) (s : State) : freeCtx mask (started cs s) = freeCtx mask s := rfl
@[simp] theorem started_seqCond (cs : Cmd) (c1 : Ctx) (code : Nat) (since : Option Nat) (s : State) : seqCond c1 code since (started cs s) = seqCond c1 code since s := rfl
@[simp] theorem started_scratchHard (cs : Cmd) (e a n : Nat) (s : State) : scratchHard e a n (started cs s) = scratchHard e a n s := rfl
@[simp] theorem started_scratchRead (cs : Cmd) (e a n : Nat) (s : State) : scratchRead e a n (started cs s) = scratchRead e a n s := rfl
@[simp] theorem started_slotAllowed (cs : Cmd) (slot : Nat) (s : State) : slotAllowed slot (started cs s) = slotAllowed slot s := rfl
@[simp] theorem started_rollbackOk (cs : Cmd) (v : Nat) (s : State) : rollbackOk v (started cs s) = rollbackOk v s := rfl
@[simp] theorem started_secSigned (cs : Cmd) (b : List Byte) (s : State) : secSigned b (started cs s) = secSigned b s := rfl
@[simp] theorem started_schRec (cs : Cmd) (p : Nat) (s : State) : schRec p (started cs s) = schRec p s := rfl
@[simp] theorem started_getShaper (cs : Cmd) (k : Nat) (s : State) : getShaper k (started cs s) = getShaper k s := rfl
@[simp] theorem started_selectQueue (cs : Cmd) (p : Nat) (s : State) : selectQueue p (started cs s) = selectQueue p s := rfl
@[simp] theorem started_sampleOn (cs : Cmd) (s : State) : sampleOn (started cs s) = sampleOn s := rfl
@[simp] theorem started_readersOf (cs : Cmd) (n : Nat) (s : State) : readersOf n (started cs s) = readersOf n s := rfl
@[simp] theorem started_stepFits (cs : Cmd) (n : Nat) (d : Int) (s : State) : stepFits n d (started cs s) = stepFits n d s := rfl
@[simp] theorem started_unitExists (cs : Cmd) (kind ix : Nat) (s : State) : unitExists kind ix (started cs s) = unitExists kind ix s := rfl
@[simp] theorem started_unitKept (cs : Cmd) (kind ix : Nat) (s : State) : unitKept kind ix (started cs s) = unitKept kind ix s := rfl
@[simp] theorem started_drained (cs : Cmd) (kind ix : Nat) (s : State) : drained kind ix (started cs s) = drained kind ix s := rfl
@[simp] theorem started_goalOf (cs : Cmd) (cls kind unit : Nat) (s : State) : goalOf cls kind unit (started cs s) = goalOf cls kind unit s := rfl
@[simp] theorem started_prevLevel (cs : Cmd) (cls : Nat) (s : State) : prevLevel cls (started cs s) = prevLevel cls s := rfl
@[simp] theorem started_clockUnseen (cs : Cmd) (k : Nat) (s : State) : clockUnseen k (started cs s) = clockUnseen k s := rfl
@[simp] theorem started_clockOff (cs : Cmd) (k hz : Nat) (s : State) : clockOff k hz (started cs s) = clockOff k hz s := rfl
@[simp] theorem started_clockChanging (cs : Cmd) (k : Nat) (s : State) : clockChanging k (started cs s) = clockChanging k s := rfl
@[simp] theorem started_histBytes (cs : Cmd) (s : State) : histBytes (started cs s) = histBytes s := rfl
@[simp] theorem started_latestBytes (cs : Cmd) (s : State) : latestBytes (started cs s) = latestBytes s := rfl
@[simp] theorem started_faultArea (cs : Cmd) (s : State) : faultArea (started cs s) = faultArea s := rfl
@[simp] theorem started_noteAck (cs : Cmd) (m : Nat) (s : State) : noteAck m (started cs s) = noteAck m s := rfl
@[simp] theorem started_twinDrains (cs : Cmd) (kind ix : Nat) (s : State) : twinDrains kind ix (started cs s) = twinDrains kind ix s := rfl
@[simp] theorem started_nextReady (cs : Cmd) (e : Nat) (s : State) : nextReady e (started cs s) = nextReady e s := rfl
@[simp] theorem started_imageFault (cs : Cmd) (b : List Byte) (s : State) : imageFault b (started cs s) = imageFault b s := rfl
@[simp] theorem started_bootSrc (cs : Cmd) (s : State) : bootSrc (started cs s) = bootSrc s := rfl
@[simp] theorem started_allQueuesEmpty (cs : Cmd) (s : State) : allQueuesEmpty (started cs s) = allQueuesEmpty s := rfl
@[simp] theorem started_portsIdle (cs : Cmd) (s : State) : portsIdle (started cs s) = portsIdle s := rfl
@[simp] theorem started_diagAllowed (cs : Cmd) (s : State) : diagAllowed (started cs s) = diagAllowed s := rfl
@[simp] theorem started_unlockOk (cs : Cmd) (b nonce : List Byte) (slot scope : Nat) (s : State) : unlockOk b nonce slot scope (started cs s) = unlockOk b nonce slot scope s := rfl
@[simp] theorem started_jtagOpen (cs : Cmd) (s : State) : jtagOpen (started cs s) = jtagOpen s := rfl
@[simp] theorem started_captureCells (cs : Cmd) (pins : List Bool) (s : State) : captureCells pins (started cs s) = captureCells pins s := rfl
@[simp] theorem started_contribReady (cs : Cmd) (k : Nat) (p : CPkt) (s : State) : contribReady k p (started cs s) = contribReady k p s := rfl
@[simp] theorem started_nextRestore (cs : Cmd) (j c1 : Nat) (s : State) : nextRestore j c1 (started cs s) = nextRestore j c1 s := rfl
@[simp] theorem started_namedCluster (cs : Cmd) (k step : Nat) (s : State) : namedCluster k step (started cs s) = namedCluster k step s := rfl
@[simp] theorem started_jobEntry (cs : Cmd) (j : Nat) (s : State) : jobEntry j (started cs s) = jobEntry j s := rfl
@[simp] theorem started_jobCounters (cs : Cmd) (j : Nat) (s : State) : jobCounters j (started cs s) = jobCounters j s := rfl
@[simp] theorem started_linenPools (cs : Cmd) (s : State) : linenPools (started cs s) = linenPools s := rfl
@[simp] theorem started_poolCopyDoms (cs : Cmd) (c1 : Cmd) (s : State) : poolCopyDoms c1 (started cs s) = poolCopyDoms c1 s := rfl
@[simp] theorem started_poolCfgBad (cs : Cmd) (s : State) : poolCfgBad (started cs s) = poolCfgBad s := rfl
@[simp] theorem started_rxTag (cs : Cmd) (p : Nat) (s : State) : rxTag p (started cs s) = rxTag p s := rfl
@[simp] theorem started_threadsBusy (cs : Cmd) (pipe : Nat) (s : State) : threadsBusy pipe (started cs s) = threadsBusy pipe s := rfl
@[simp] theorem started_meterBytes (cs : Cmd) (k : Nat) (s : State) : meterBytes k (started cs s) = meterBytes k s := rfl
@[simp] theorem started_sampleRecord (cs : Cmd) (q : Nat) (s : State) : sampleRecord q (started cs s) = sampleRecord q s := rfl
@[simp] theorem started_sltOn (cs : Cmd) (s : State) : sltOn (started cs s) = sltOn s := rfl
@[simp] theorem started_getInst (cs : Cmd) (g i : Nat) (s : State) : getInst g i (started cs s) = getInst g i s := rfl
@[simp] theorem started_instLive (cs : Cmd) (g i : Nat) (s : State) : instLive g i (started cs s) = instLive g i s := rfl
@[simp] theorem started_instSearches (cs : Cmd) (g i : Nat) (s : State) : instSearches g i (started cs s) = instSearches g i s := rfl
@[simp] theorem started_clientInUse (cs : Cmd) (k : Nat) (s : State) : clientInUse k (started cs s) = clientInUse k s := rfl
@[simp] theorem started_firstBadSlot (cs : Cmd) (g : Nat) (es : List Nat) (s : State) : firstBadSlot g es (started cs s) = firstBadSlot g es s := rfl
@[simp] theorem started_groupBytes (cs : Cmd) (g : Nat) (s : State) : groupBytes g (started cs s) = groupBytes g s := rfl
@[simp] theorem started_getSet (cs : Cmd) (k : Nat) (s : State) : getSet k (started cs s) = getSet k s := rfl
@[simp] theorem started_telRuns (cs : Cmd) (s : State) : telRuns (started cs s) = telRuns s := rfl
@[simp] theorem started_ctrExists (cs : Cmd) (kind num : Nat) (s : State) : ctrExists kind num (started cs s) = ctrExists kind num s := rfl
@[simp] theorem started_shownCtr (cs : Cmd) (kind num : Nat) (s : State) : shownCtr kind num (started cs s) = shownCtr kind num s := rfl
@[simp] theorem started_instantOf (cs : Cmd) (d : DumpSet) (s : State) : instantOf d (started cs s) = instantOf d s := rfl
@[simp] theorem started_dumpBody (cs : Cmd) (k : Nat) (d : DumpSet) (u : Dump) (s : State) : dumpBody k d u (started cs s) = dumpBody k d u s := rfl
@[simp] theorem started_gzSize (cs : Cmd) (s : State) : gzSize (started cs s) = gzSize s := rfl
@[simp] theorem started_gzChan (cs : Cmd) (s : State) : gzChan (started cs s) = gzChan s := rfl
@[simp] theorem started_readServed (cs : Cmd) (a : Nat) (s : State) : readServed a (started cs s) = readServed a s := rfl
@[simp] theorem started_writeServed (cs : Cmd) (a : Nat) (s : State) : writeServed a (started cs s) = writeServed a s := rfl

end Sys2Proof.Machine
end

