-- ==== Sys2Proof/Laws/Tab.lean ====
section
/-! SUPPORT. The laws of sparse tables and byte memories: read after write, and that every operation keeps the canonical form. -/
namespace Sys2Proof.Machine

variable {α : Type}

theorem tgetD_tput_self (t : Tab α) (k : Nat) (v d : α) : tgetD (tput t k v) k d = v := by
  induction t with
  | nil => simp [tput, tgetD]
  | cons e r ih =>
    obtain ⟨j, w⟩ := e
    simp only [tput]
    split
    · simp [tgetD]
    · split
      · simp [tgetD]
      · rename_i h1 h2
        simp only [tgetD]
        rw [if_neg (fun h => h2 h.symm), ih]

theorem tgetD_tput_other (t : Tab α) (k j : Nat) (v d : α) (h : j ≠ k) : tgetD (tput t k v) j d = tgetD t j d := by
  induction t with
  | nil => simp [tput, tgetD, Ne.symm h]
  | cons e r ih =>
    obtain ⟨i, w⟩ := e
    simp only [tput]
    split
    · simp [tgetD, Ne.symm h]
    · split
      · rename_i h1 h2
        subst h2
        simp [tgetD, Ne.symm h]
      · simp only [tgetD, ih]

/-- Every key of a table is above `k`. -/
def tabove (k : Nat) (t : Tab α) : Prop := ∀ e ∈ t, k < e.1

theorem trising_cons (j : Nat) (w : α) (r : Tab α) : trising ((j, w) :: r) = true ↔ tabove j r ∧ trising r = true := by
  induction r generalizing j w with
  | nil => simp [trising, tabove]
  | cons e r ih =>
    obtain ⟨k, v⟩ := e
    simp only [trising, Bool.and_eq_true, decide_eq_true_eq]
    constructor
    · rintro ⟨h1, h2⟩
      refine ⟨?_, h2⟩
      intro e he
      rcases List.mem_cons.mp he with rfl | he
      · exact h1
      · exact lt_trans h1 (((ih k v).mp h2).1 e he)
    · rintro ⟨h1, h2⟩
      exact ⟨h1 (k, v) (List.mem_cons.mpr (Or.inl rfl)), h2⟩

theorem tgetD_tdrop_self (t : Tab α) (k : Nat) (d : α) : tgetD (tdrop t k) k d = d := by
  induction t with
  | nil => rfl
  | cons e r ih =>
    obtain ⟨j, w⟩ := e
    simp only [tdrop]
    split
    · exact ih
    · rename_i hk
      simp only [tgetD]
      rw [if_neg hk, ih]

theorem tgetD_tdrop_other (t : Tab α) (k j : Nat) (d : α) (h : j ≠ k) : tgetD (tdrop t k) j d = tgetD t j d := by
  induction t with
  | nil => rfl
  | cons e r ih =>
    obtain ⟨i, w⟩ := e
    simp only [tdrop]
    split
    · rename_i hk
      subst hk
      simp [tgetD, Ne.symm h, ih]
    · simp only [tgetD, ih]

/-- A read after a write to the same key gives the value written. -/
@[simp] theorem tget_tset_self [DecidableEq α] [Inhabited α] (t : Tab α) (k : Nat) (v : α) :
    tget (tset t k v) k = v := by
  unfold tget tset tsetD
  split
  · rename_i hv
    rw [hv]
    exact tgetD_tdrop_self t k default
  · exact tgetD_tput_self t k v default

/-- A write leaves every other key alone. -/
theorem tget_tset_other [DecidableEq α] [Inhabited α] (t : Tab α) (k j : Nat) (v : α) (h : j ≠ k) :
    tget (tset t k v) j = tget t j := by
  unfold tget tset tsetD
  split
  · exact tgetD_tdrop_other t k j default h
  · exact tgetD_tput_other t k j v default h

theorem tabove_tput (t : Tab α) (j k : Nat) (v : α) (h : tabove j t) (hk : j < k) : tabove j (tput t k v) := by
  induction t with
  | nil =>
    intro e he
    simp only [tput, List.mem_singleton] at he
    subst he
    exact hk
  | cons e r ih =>
    obtain ⟨i, w⟩ := e
    have hi := h (i, w) (List.mem_cons.mpr (Or.inl rfl))
    have hr : tabove j r := fun e he => h e (List.mem_cons.mpr (Or.inr he))
    simp only [tput]
    split
    · intro e he
      rcases List.mem_cons.mp he with rfl | he
      · exact hk
      · exact h e he
    · split
      · intro e he
        rcases List.mem_cons.mp he with rfl | he
        · exact hk
        · exact hr e he
      · intro e he
        rcases List.mem_cons.mp he with rfl | he
        · exact hi
        · exact ih hr e he

theorem tabove_tdrop (t : Tab α) (j k : Nat) (h : tabove j t) : tabove j (tdrop t k) := by
  induction t with
  | nil => exact h
  | cons e r ih =>
    obtain ⟨i, w⟩ := e
    have hr : tabove j r := fun e he => h e (List.mem_cons.mpr (Or.inr he))
    simp only [tdrop]
    split
    · exact ih hr
    · intro e he
      rcases List.mem_cons.mp he with rfl | he
      · exact h (i, w) (List.mem_cons.mpr (Or.inl rfl))
      · exact ih hr e he

theorem trising_tput (t : Tab α) (k : Nat) (v : α) (h : trising t = true) : trising (tput t k v) = true := by
  induction t with
  | nil => rfl
  | cons e r ih =>
    obtain ⟨j, w⟩ := e
    obtain ⟨ha, hr⟩ := (trising_cons j w r).mp h
    simp only [tput]
    split
    · rename_i hk
      refine (trising_cons _ _ _).mpr ⟨?_, h⟩
      intro e he
      rcases List.mem_cons.mp he with rfl | he
      · exact hk
      · exact lt_trans hk (ha e he)
    · split
      · rename_i h1 h2
        subst h2
        exact (trising_cons _ _ _).mpr ⟨ha, hr⟩
      · exact (trising_cons _ _ _).mpr ⟨tabove_tput r j k v ha (by omega), ih hr⟩

theorem trising_tdrop (t : Tab α) (k : Nat) (h : trising t = true) : trising (tdrop t k) = true := by
  induction t with
  | nil => rfl
  | cons e r ih =>
    obtain ⟨j, w⟩ := e
    obtain ⟨ha, hr⟩ := (trising_cons j w r).mp h
    simp only [tdrop]
    split
    · exact ih hr
    · exact (trising_cons _ _ _).mpr ⟨tabove_tdrop r j k ha, ih hr⟩

theorem all_tput (t : Tab α) (k : Nat) (v : α) (p : Nat × α → Bool) (h : t.all p = true) (hv : p (k, v) = true) :
    (tput t k v).all p = true := by
  induction t with
  | nil => simp [tput, hv]
  | cons e r ih =>
    obtain ⟨j, w⟩ := e
    simp only [List.all_cons, Bool.and_eq_true] at h
    simp only [tput]
    split
    · simp [hv, h.1, h.2]
    · split
      · simp [hv, h.2]
      · simp [h.1, ih h.2]

theorem all_tdrop (t : Tab α) (k : Nat) (p : Nat × α → Bool) (h : t.all p = true) : (tdrop t k).all p = true := by
  induction t with
  | nil => rfl
  | cons e r ih =>
    obtain ⟨j, w⟩ := e
    simp only [List.all_cons, Bool.and_eq_true] at h
    simp only [tdrop]
    split
    · exact ih h.2
    · simp [h.1, ih h.2]

/-- A write keeps the canonical form. -/
theorem twf_tset [DecidableEq α] [Inhabited α] (t : Tab α) (k : Nat) (v : α) (h : twf t = true) : twf (tset t k v) = true := by
  unfold twf at *
  simp only [Bool.and_eq_true] at *
  unfold tset tsetD
  split
  · exact ⟨trising_tdrop t k h.1, all_tdrop t k _ h.2⟩
  · rename_i hv
    exact ⟨trising_tput t k v h.1, all_tput t k v _ h.2 (by simpa using hv)⟩

/-- Writing bytes keeps a memory's canonical form. -/
theorem wf_mwrite (m : Memory) (a : Nat) (bs : List Byte) (h : Memory.wf m = true) : Memory.wf (mwrite m a bs) = true := by
  induction bs generalizing m a with
  | nil => exact h
  | cons b bs ih => exact ih _ _ (twf_tset m a b h)

theorem trising_filter (t : Tab α) (p : Nat × α → Bool) (h : trising t = true) : trising (t.filter p) = true := by
  induction t with
  | nil => rfl
  | cons e r ih =>
    obtain ⟨j, w⟩ := e
    obtain ⟨ha, hr⟩ := (trising_cons j w r).mp h
    rw [List.filter_cons]
    split
    · exact (trising_cons _ _ _).mpr ⟨fun e he => ha e (List.mem_filter.mp he).1, ih hr⟩
    · exact ih hr

/-- Zeroing bytes keeps a memory's canonical form. -/
theorem wf_mzero (m : Memory) (a n : Nat) (h : Memory.wf m = true) : Memory.wf (mzero m a n) = true := by
  unfold Memory.wf twf at *
  simp only [Bool.and_eq_true] at *
  refine ⟨trising_filter m _ h.1, ?_⟩
  rw [List.all_eq_true] at *
  intro e he
  exact h.2 e (List.mem_filter.mp he).1

/-- Writing bytes leaves every byte outside them alone. -/
theorem tget_mwrite_other (m : Memory) (a x : Nat) (bs : List Byte) (h : x < a ∨ a + bs.length ≤ x) :
    tget (mwrite m a bs) x = tget m x := by
  induction bs generalizing m a with
  | nil => rfl
  | cons b bs ih =>
    simp only [List.length_cons] at h
    rw [mwrite, ih _ _ (by omega)]
    exact tget_tset_other m a x b (by omega)

end Sys2Proof.Machine
end

