-- ==== Sys2Proof/Tests/Slice0.lean ====
section
/-! SUPPORT. Tests: terms that the well-formedness check refuses, a witness for every obligation that has hypotheses (a
state and operands at the edges of their ranges that meet them together), and the spec's worked examples. -/
namespace Sys2Proof.Tests
open Sys2Proof Sys2Proof.Machine
set_option Elab.async false
set_option linter.unusedVariables false

/-! ### Ill-formed commands -/

theorem test_ill_formed_1 : ([
    .ringEnable 256 0, .ringDisable 256 0, .doorbell 256 0, .arm 256 0, .restart 64, .eventWrite 256, .burstStart 64 default,
    .descriptorComplete 64, .flushReadReturn 4 default 0 none, .lateError 64 default 0,
    .lateError 0 { (default : DescRef) with ring := 256 } 0, .powerDeferLimit 31, .injectDescriptorFetch 256 [],
    .injectBufferReadDone 256 [], .hostReadError 256 default 0, .puntBufferWrite 256 [], .macroEnable 128 0, .macroDisable 128 0,
    .macroRateChange 128 0, .txDisable 1024 0, .pllLock 128, .calibrationDone 1024 false false, .negotiationComplete 1024 [],
    .anTimeout 1024, .trainRetry 1024, .tapRequest 1024 0 false, .tapRequest 0 6 false, .receiversReady 1024 default,
    .trainTimeout 1024 false, .adaptationConverged 1024 default, .adaptTimeout 1024, .laneLoss 1024 false, .wakeDeclared 1024,
    .wakeSnrOk 1024 default, .wakeTimeout 1024 false] : List Instr).all (fun c => !wellFormed c) = true := by decide

theorem test_ill_formed_2 : ([
    .backgroundCtleStep 1024 none default, .laneEyeDone 1024 [], .layoutChange 128 0, .blockLock 1024 default,
    .lockLoss 1024 default, .hiBer 1024 0, .upDebounce 1024, .remoteFault 1024 default, .fecWindow 1024 [],
    .frameReceive 1024 [] [] false, .pfcFrameReceive 1024 0 [] false, .pauseFrameReceive 1024 0 false, .pauseTimerExpiry 1024 0,
    .pauseTimerExpiry 0 8, .pfcFrameSend 1024, .pfcRefresh 1024 0, .pfcRefresh 0 8, .pfcWatchdog 1024 0, .pfcWatchdog 0 8,
    .watchdogRestore 1024 0, .watchdogRestore 0 8, .gateTransition 1024, .gateListSwitch 1024, .sleepEntry 1024,
    .wakePatternEnd 1024, .groupEnable 32 0, .groupDisable 32 0, .frameStartPattern 32 0 0, .overheadPosition 32 0 0 false,
    .multiframeLock 32 0 false, .overheadFrame 32 0 default, .calendarSwitch 32, .calSwitchTimeout 32, .rxCalendarSwitch 32,
    .parseThreadAssign (.arriving 1024 [])] : List Instr).all (fun c => !wellFormed c) = true := by decide

theorem test_ill_formed_3 : ([
    .replication 4 0, .dequeueDecision 1024, .queueFlush 1024, .nextHopDown 1024, .nextHopUp 1024, .spillAssemblyTimeout 20480,
    .readbackStart 20480, .blockReadDone 20480 false, .shaperTick 4, .wheelSlotDue 4, .overflowSlotDue 4, .contrib 4, .result 4,
    .resend 4, .resultReq 4, .wait 4, .pace 4, .paceSet 4, .straggler 4, .abort 4, .slotTimerExpiry 128 0,
    .emittedTimerExpiry 128 0, .epochBoundary 128, .slotRestore 128 0, .clusterStepChangeDone 4, .jobMoveDone 128, .poolGrant 8,
    .seqWord 8, .waitEnd 8 0, .waitEnd 0 4, .waitTimeout 8 0, .waitTimeout 0 4, .routineTrigger 64, .blockOpDone 8 0 default,
    .blockOpDone 0 4 default] : List Instr).all (fun c => !wellFormed c) = true := by decide

theorem test_ill_formed_4 : ([
    .storeRepair 256, .stopTimeout 64, .noIssueTimeout 8, .periodicRetrain 32, .retrainRetry 32, .refresh 32 0 false,
    .selfRefreshEntry 32, .scrubRead 32 0 default, .halfReady 2, .tbEnable 4 0, .tbDisable 4 0, .slewDisable 4 0, .slewComplete 4,
    .holdoverExit 4, .secondBoundary 4, .tsEventEdge 4 false, .snapshotInstant 16, .dumpComplete 16 none, .railReached 4 0,
    .droopTrip 64 0, .droopTrip 0 256, .droopReturn 31, .droopRecalibration 64, .vrAlert 2 [], .thermalRecovery 2, .thermalTrip 32,
    .domainPowerDownDone 31, .recordFormation [{ (default : Report) with cls := 256 }],
    .recordFormation [{ (default : Report) with kind := 15 }], .recordFormation [{ (default : Report) with unit := 65536 }],
    .conditionClear 256 0 0, .fenceComplete 3 16, .testEnd 3 16 default, .clockMonitorWindow 51 default, .railResetLevel 5] : List Instr).all (fun c => !wellFormed c) = true := by decide

theorem test_ill_formed_5 : ([
    .wipeComplete { units := [(15, 0)] }, .wipeComplete { units := [(0, 65536)] }, .signalDetect 1024,
    .channelTrainingDone 32 default, .laneGroupClockLock 16 false] : List Instr).all (fun c => !wellFormed c) = true := by decide

/-! ### States the witnesses use -/

/-- The state after reset, in a mode, with the power domains up. -/
def at_ (m : Mode) : State := { sys := { mode := m } }
/-- FORWARD with DMA channel 5 enabled. -/
def run : State := wr Reg.hifDmaCfg 5 (2 ^ 8) (at_ .forward)
/-- A command of ring 0 on channel 5. -/
def cmd (op : Nat) (ops : List Byte) (len : Nat := 0) : Cmd := { opcode := op, ops := fit 44 ops, len := len, ch := 5, addr := 4096 }
/-- A state with one command in flight. -/
def fly (c : Cmd) (s : State) : State := { s with hif := { s.hif with inflight := [c] } }
/-- `k` SUMMARYs wait. -/
def waitSums (j : SumJob) (k : Nat) (s : State) : State := { s with hif := { s.hif with sumWait := List.replicate k j } }
/-- Macro 127 is enabled at 200 Gb/s a lane and each of its lanes starts a port. -/
def ports : State := run |> wr Reg.macMacroMode 127 0xFF |> wr Reg.lanMacroCfg 127 0x11
/-- The same at 25 Gb/s. -/
def nrz : State := run |> wr Reg.macMacroMode 127 0xFF |> wr Reg.lanMacroCfg 127 0x14
/-- A time base that runs. -/
def ticks (k : Nat) (s : State) : State := { s with tim := { s.tim with tb := tset s.tim.tb k { state := .running } } }
/-- FlexE group 31 has one PHY of 100 Gb/s, so one instance. -/
def flex (x : Group) : State := run |> wr Reg.sltGroupCfg 31 0x400000 |> setGrp 31 { x with members := [(1023, 254)] }
/-- A unit is fenced. -/
def fence (kind ix : Nat) (s : State) : State := setUnit kind ix { state := .fenced } s
/-- An upset that cannot be corrected at an index of a memory. -/
def struck (mem ix : Nat) (s : State) : State := { s with upset := tset s.upset (ix * 64 + mem) 2 }
/-- Layout 0 defines entry type 63. -/
def typed : State := { run with pip := { run.pip with layouts := [(0, 1 + 63 * 256)] } }
/-- The slot that an all-zero key of type 63 takes first. -/
def slot0 : Nat := 588851 * 4
/-- The table holds that entry. -/
def held : State := setEm slot0 { valid := true, key := fit 22 [], typ := 63 } typed
/-- The parse store's word 0. -/
def word (w : Nat) (s : State) : State := { s with pip := { s.pip with store := tset s.pip.store 0 w } }
/-- The record of a BARRIER job with two children: its role (0 the root) and its window of 64. -/
def jobRec (role : Byte) : List Byte := fit 128 [0, 0, 0, 0, role, 3, 0, 0, 2, 0, 0, 0, 64, 0, 0, 0, 0, 0, 0, 0, 0, 0, 0, 0, 0, 0, 1]
/-- A host child and a device child, both at address 0. -/
def kids : List (List Byte) := [fit 32 (List.replicate 20 0 ++ [1]), fit 32 (List.replicate 20 0 ++ [3])]
def job (role : Byte) (st : JobSt) (slots : Tab CSlot) : Job :=
  { st := st, record := jobRec role, kids := kids, cluster := 3, slots := slots }
/-- Job 127 in cluster 3, whose queue holds the given messages. -/
def mesh (x : Job) (q : List CPkt) : State := { run with col := { run.col with jobs := [(127, x)], clusters := [(3, { q := q })] } }
/-- A message of a type from or to a child. -/
def msg (typ ix : Byte) : CPkt := { job := 127, src := fit 16 [], hdr := fit 32 ([0x10 + typ, 0, 0x30] ++ List.replicate 10 0 ++ [ix]) }
/-- An interior SUM job of 1,024 INT32 elements in wide form, all of its 128 slots emitted but slot 5. -/
def wideJob : Job :=
  { job 1 .running ((List.range 128).map fun c => (c, { st := if c = 5 then .spilled else .emitted, bits := 3 })) with
    record := fit 128 [0, 0, 0, 0, 1, 0, 5, 1, 2, 0, 0, 4, 64] }
/-- Twelve such jobs fill a cluster's staging. -/
def fullMesh : State := { run with col := { run.col with jobs := (List.range 12).map fun i => (116 + i, wideJob) } }
/-- The pools are on: the last pool of each tier has one buffer, and the owner 0xFFFE holds both. -/
def pools : State := run |> wr Reg.poolCtrl 0 1 |> wr Reg.poolSCount 3 1 |> wr Reg.poolMCount 3 1 |>
  setPBuf (handleOf 3 0) { owner := 0xFFFE } |> setPBuf (handleOf 7 0) { owner := 0xFFFE }
/-- Serge is on, and context 3 of engine 7 is as given. -/
def serge (x : Ctx) : State := setCtx 7 3 x (run |> wr Reg.seqCtrl 0 0x10001)
/-- Both halves of the memory serve, with 1 MiB usable, and channel 31 is as given. -/
def burlap (x : MChan) : State := setMChan 31 x { run with mem := { run.mem with serving := 3, usableMib := 1 } }
/-- The memory is wiped, and channel 31 is as given. -/
def wiping (x : MChan) : State := setMChan 31 x (at_ .wipe)
/-- A Serge section of one word with routines 1 to 5. -/
def section1 : List Byte :=
  List.replicate 16 0 ++ (List.replicate 5 (fit 16 [0, 0x80])).flatten ++ List.replicate 928 0 ++ [0, 0, 1, 0, 0, 64] ++ List.replicate 266 0
/-- The regulators of rails 0 to 3 are set up in order. -/
def regulators : State := run |> wr Reg.pwrVr 0 0x80 |> wr Reg.pwrVr 1 0x180 |> wr Reg.pwrVr 2 0x280 |> wr Reg.pwrVr 3 0x380
/-- A unit is in a state. -/
def unitAt (kind ix : Nat) (u : FUnit) : State := setUnit kind ix u run
/-- A mode, and more, with DMA channel 5 enabled. -/
def inSys (y : SysState) : State := { run with sys := y }

/-! ### The spec's worked examples -/

/-- Chapter 1: lane 700 lies in M087, G10 and panel C. -/
theorem test_lane_700 : (macroOf 700, groupOfLane 700, panelOfLane 700) = (87, 10, 2) := by decide

/-- Chapter 2.6: SHARE 32 on a 64 GT/s x8 link spaces bursts 512 ns apart (128 cycles of CLK_AON). -/
theorem test_burst_spacing :
    let s := { wr Reg.hifDmaCfg 5 (2 ^ 8 + 32) run with hif := { gen := 6, width := 8, linkUp := true }, aon := 128 }
    (burstDue 5 (some 0) s, burstDue 5 (some 1) s) = (true, false) := by decide
/-- The same on the 32 GT/s link the example falls back to: 1,024 ns. -/
theorem test_burst_spacing_fallback :
    let s := { wr Reg.hifDmaCfg 5 (2 ^ 8 + 32) run with hif := { gen := 5, width := 8, linkUp := true }, aon := 256 }
    (burstDue 5 (some 0) s, burstDue 5 (some 1) s) = (true, false) := by decide

/-- Table 2.21: steps 3 and 4 make ring 1 an event ring of 1,024 entries on DC04. -/
theorem test_bring_up_event_ring :
    let s := at_ .staged |> writeAt 0x403040 4 0x140 |> writeAt 0x401020 4 0x200000 |> writeAt 0x401024 4 0x10 |>
      writeAt 0x401028 4 0x40094
    (evRingOn 1 s, ringSize 1 s, ringCh 1 s, ringBase 1 s) = (true, 1024, 4, 0x1000200000) := by decide +kernel
/-- Table 2.21: ring 0 before ring 1 is refused (R37): its CFG_ERR is set and it stays disabled. -/
theorem test_bring_up_wrong_order :
    let s := at_ .staged |> writeAt 0x403040 4 0x140 |> writeAt 0x401000 4 0x100000 |> writeAt 0x401004 4 0x10 |>
      writeAt 0x401008 4 0x40182
    rdFld Reg.hifRingCfg 0 7 1 s = 0 := by decide +kernel

/-- Chapter 3: registers of lane 700. -/
theorem test_lane_registers : (Reg.lanLaneCfg.addr 700, Reg.lanLaneRx.addr 700) = (0x0AB9400, 0x0AB9410) := by decide
/-- Chapter 4.1: MAC_MACRO_MODE[40] and the register block of port 324. -/
theorem test_port_registers : (Reg.macMacroMode.addr 40, Reg.macPortCfg.addr 324) = (0xE00A00, 0xCA2000) := by decide
/-- Chapter 4.1: STARTS 0b01010001 gives ports of 4, 2 and 2 lanes. -/
theorem test_port_widths :
    [320, 321, 324, 325, 326].map (widthIn 0x51) = [4, 0, 2, 0, 2] := by decide
/-- Chapter 4.9: the new gate list takes over at 1,000 s + 700,250,000 ns. -/
theorem test_gate_switch : gateSwitchTime 1000000000000 250000 1000700000000 = 1000700250000 := by decide

/-- Chapter 5: four members of 400G give 320 slots. -/
theorem test_slot_range :
    let s := run |> wr Reg.sltGroupCfg 3 0xC00000 |> setGrp 3 { members := [(0, 1), (8, 2), (16, 3), (24, 4)] }
    grpSlots 3 s = 320 := by decide

/-- Chapter 7.10: the flow whose primary slot 7 is down goes to member slot 40,965. -/
theorem test_ecmp_dead_slot :
    let s : State := { run with tbl := { run.tbl with
      groups := [(9, 40960 + 12 * 2 ^ 32)]
      members := (List.range 12).map fun k => (40960 + k, 2 ^ 31 + k)
      hops := (List.range 12).map fun k => (k, 2 ^ 16 + k)
      up := (List.range 12).filterMap fun k => if k = 3 ∨ k = 7 then none else some (k, true) } }
    (pickMember 9 0x9E3779B9 0 s).1 = some 40965 := by decide +kernel

/-- Chapter 11.4: pages of a wide BF16 SUM slot of 2,048 elements. -/
theorem test_slot_pages :
    let j : Job := { record := fit 128 [0, 0, 0, 0, 1, 0, 1, 1, 2, 0, 0, 8, 8] }
    (j.accPages, j.emitPages) = (21, 2) := by decide
/-- Chapter 11.11: 256 + 0.75 + 0.75 in BF16 leaves S1 as FP32 257.5. -/
theorem test_sum_exact :
    let add := fun (a : ElemAcc) n => (a.take (dtBits 1) (enter 1 false n)).1
    (((add (add (add {} 0x4380) 0x3F40) 0x3F40)).emit 1 true) = (0x4380C000, false) := by decide +kernel

/-- Chapter 12.3: the handles of S4K buffer 1,017 and S16K buffer 37, and where the first lies. -/
theorem test_pool_handles :
    (handleOf 1 1017, handleOf 2 37, handleAddr 0x200003F9 State.reset) = (0x200003F9, 0x40000025, 0x1BF9000) := by decide

/-- Chapter 13: the fields of the microcode word of the worked example. -/
theorem test_microcode_word :
    let w := 0x0000001800213980000C882000092101
    [mwNext w, mwFlow w, mwCond w, mwAlu w, mwDst w, mwA w, mwB w, mwMem w, mwSpace w, mwAddr w, mwData w, mwOff w, mwLen w] =
      [0x2101, 4, 4, 1, 2, 2, 3, 3, 7, 2, 4, 0, 3] := by decide

/-- Chapter 14: address 0xE_0025_3A40 of a memory of 112 GiB lies in burst 13 of row 81 of MC21. -/
theorem test_burlap_address :
    let s : State := { run with mem := { run.mem with usableMib := 114688 } }
    (chanOfAddr 0xE00253A40 s, rowOfAddr 0xE00253A40 s, burstOfAddr 0xE00253A40 s) = (21, 81, 13) := by decide

/-- Chapter 16: a slot of 27,648 counters takes 228,224 bytes. -/
theorem test_slot_bytes : slotBytes 27648 = 228224 := by decide

/-- Chapter 17: 304,500 nJ shared between jobs 17 and 40 of cluster 2 as 3 to 1. -/
theorem test_job_energy :
    let s := setDom 9 { nj := 304500 } { run with col := { run.col with
      jobs := [(17, { st := .running, cluster := 2 }), (40, { st := .running, cluster := 2 })] } }
    let t := chargeJobs 2 ((List.range 41).map fun j => if j = 17 then 18000000 else if j = 40 then 6000000 else 0) s
    ((getJob 17 t).energy, (getJob 40 t).energy) = (228375, 76125) := by decide +kernel

/-- Table 18.5: FC081 climbs from NOTE to CORRECTED to FENCE. -/
theorem test_ladder : (levelOfRec 1 4 0, levelOfRec 1 4 1, levelOfRec 1 4 2) = (1, 2, 3) := by decide

/-! ### Witnesses -/


theorem wit_idle_step :
    (
      let s : State := at_ .off
      s.pending = [] ∧ s.sys.mode = .off) ∧
    (
      let s : State := at_ .lockdown
      s.pending = [] ∧ s.sys.mode ≠ .off) := by
  refine ⟨?_, ?_⟩ <;> decide +kernel

theorem wit_ring_configuration :
    (
      let n : Nat := 255
      let v : Word := 0x507AA
      let s : State := run |> wr Reg.hifRingBase 255 0x1000 |> wr Reg.hifRingCfg 7 0x90
      let x := v.toNat
      let refused := 10 < x % 16 ∨ rd Reg.hifRingBase n s = 0 ∨ (fld x 4 2 ≠ 1 ∧ evRingOn (fld x 8 8) s = false) ∨ (fld x 16 6 < 4
        ∧ bitAt x 6 = false)
      n < 256 ∧ s.sys.mode.engine = true ∧ bitAt x 7 = true ∧ ringOn n s = false ∧ ¬refused) ∧
    (
      let n : Nat := 255
      let v : Word := 0x507AB
      let s : State := run |> wr Reg.hifRingBase 255 0x1000 |> wr Reg.hifRingCfg 7 0x90
      let x := v.toNat
      let refused := 10 < x % 16 ∨ rd Reg.hifRingBase n s = 0 ∨ (fld x 4 2 ≠ 1 ∧ evRingOn (fld x 8 8) s = false) ∨ (fld x 16 6 < 4
        ∧ bitAt x 6 = false)
      n < 256 ∧ s.sys.mode.engine = true ∧ bitAt x 7 = true ∧ ringOn n s = false ∧ refused) ∧
    (
      let n : Nat := 255
      let v : Word := 0x80
      let s : State := run |> wr Reg.hifRingCfg 255 0x80
      let x := v.toNat
      n < 256 ∧ s.sys.mode.engine = true ∧ bitAt x 7 = true ∧ ringOn n s = true) ∧
    (
      let n : Nat := 255
      let v : Word := 0
      let s : State := run |> wr Reg.hifRingCfg 255 0x80
      let x := v.toNat
      n < 256 ∧ s.sys.mode.engine = true ∧ bitAt x 7 = false ∧ ringOn n s = true ∧ ringKind n s ≠ 3) ∧
    (
      let n : Nat := 255
      let v : Word := 0
      let s : State := run |> wr Reg.hifRingCfg 255 0xB0
      let x := v.toNat
      n < 256 ∧ s.sys.mode.engine = true ∧ bitAt x 7 = false ∧ ringOn n s = true ∧ ringKind n s = 3) ∧
    (
      let n : Nat := 255
      let v : Word := 0
      let s : State := run
      let x := v.toNat
      n < 256 ∧ s.sys.mode.engine = true ∧ bitAt x 7 = false ∧ ringOn n s = false) := by
  refine ⟨?_, ?_, ?_, ?_, ?_, ?_⟩ <;> decide +kernel

theorem wit_doorbells :
    (
      let n : Nat := 255
      let v : Word := 0x10000
      let s : State := run |> wr Reg.hifRingCfg 255 0x82
      let x := v.toNat
      let size := ringSize n s
      let new := x % 65536 + size * fld x 16 1
      let r := getRing n s
      let dev := if ringKind n s = 1 then r.prod else r.cons
      let old := if ringKind n s = 1 then r.cons else r.prod
      let occ := if ringKind n s = 1 then (dev + 2 * size - new) % (2 * size) else (new + 2 * size - dev) % (2 * size)
      let ok := x % 65536 < size ∧ (new + 2 * size - old) % (2 * size) ≤ size ∧ occ ≤ size
      n < 256 ∧ s.sys.mode.engine = true ∧ ringOn n s = true ∧ ok ∧ ringKind n s ≠ 1) ∧
    (
      let n : Nat := 255
      let v : Word := 0x10000
      let s : State := run |> wr Reg.hifRingCfg 255 0x92 |> setRing 255 { prod := 256 }
      let x := v.toNat
      let size := ringSize n s
      let new := x % 65536 + size * fld x 16 1
      let r := getRing n s
      let dev := if ringKind n s = 1 then r.prod else r.cons
      let old := if ringKind n s = 1 then r.cons else r.prod
      let occ := if ringKind n s = 1 then (dev + 2 * size - new) % (2 * size) else (new + 2 * size - dev) % (2 * size)
      let ok := x % 65536 < size ∧ (new + 2 * size - old) % (2 * size) ≤ size ∧ occ ≤ size
      n < 256 ∧ s.sys.mode.engine = true ∧ ringOn n s = true ∧ ok ∧ ringKind n s = 1 ∧ bitAt x 17 = false) ∧
    (
      let n : Nat := 255
      let v : Word := 0x30000
      let s : State := run |> wr Reg.hifRingCfg 255 0x92 |> setRing 255 { prod := 256 }
      let x := v.toNat
      let size := ringSize n s
      let new := x % 65536 + size * fld x 16 1
      let r := getRing n s
      let dev := if ringKind n s = 1 then r.prod else r.cons
      let old := if ringKind n s = 1 then r.cons else r.prod
      let occ := if ringKind n s = 1 then (dev + 2 * size - new) % (2 * size) else (new + 2 * size - dev) % (2 * size)
      let ok := x % 65536 < size ∧ (new + 2 * size - old) % (2 * size) ≤ size ∧ occ ≤ size
      n < 256 ∧ s.sys.mode.engine = true ∧ ringOn n s = true ∧ ok ∧ ringKind n s = 1 ∧ bitAt x 17 = true ∧ r.prod = new) ∧
    (
      let n : Nat := 255
      let v : Word := 0x20003
      let s : State := run |> wr Reg.hifRingCfg 255 0x92 |> setRing 255 { prod := 256 } |> wr Reg.msixTable 1023 0
      let x := v.toNat
      let size := ringSize n s
      let new := x % 65536 + size * fld x 16 1
      let r := getRing n s
      let dev := if ringKind n s = 1 then r.prod else r.cons
      let old := if ringKind n s = 1 then r.cons else r.prod
      let occ := if ringKind n s = 1 then (dev + 2 * size - new) % (2 * size) else (new + 2 * size - dev) % (2 * size)
      let ok := x % 65536 < size ∧ (new + 2 * size - old) % (2 * size) ≤ size ∧ occ ≤ size
      n < 256 ∧ s.sys.mode.engine = true ∧ ringOn n s = true ∧ ok ∧ ringKind n s = 1 ∧ bitAt x 17 = true ∧ r.prod ≠ new ∧
        vectorMasked n s = false) ∧
    (
      let n : Nat := 255
      let v : Word := 0x20003
      let s : State := run |> wr Reg.hifRingCfg 255 0x92 |> setRing 255 { prod := 256 } |> wr Reg.msixTable 1023 1
      let x := v.toNat
      let size := ringSize n s
      let new := x % 65536 + size * fld x 16 1
      let r := getRing n s
      let dev := if ringKind n s = 1 then r.prod else r.cons
      let old := if ringKind n s = 1 then r.cons else r.prod
      let occ := if ringKind n s = 1 then (dev + 2 * size - new) % (2 * size) else (new + 2 * size - dev) % (2 * size)
      let ok := x % 65536 < size ∧ (new + 2 * size - old) % (2 * size) ≤ size ∧ occ ≤ size
      n < 256 ∧ s.sys.mode.engine = true ∧ ringOn n s = true ∧ ok ∧ ringKind n s = 1 ∧ bitAt x 17 = true ∧ r.prod ≠ new ∧
        vectorMasked n s = true) ∧
    (
      let n : Nat := 255
      let v : Word := 0x10000
      let s : State := run
      n < 256 ∧ s.sys.mode.engine = true ∧ ringOn n s = false) ∧
    (
      let n : Nat := 255
      let v : Word := 256
      let s : State := run |> wr Reg.hifRingCfg 255 0x82
      let x := v.toNat
      let size := ringSize n s
      let new := x % 65536 + size * fld x 16 1
      let r := getRing n s
      let dev := if ringKind n s = 1 then r.prod else r.cons
      let old := if ringKind n s = 1 then r.cons else r.prod
      let occ := if ringKind n s = 1 then (dev + 2 * size - new) % (2 * size) else (new + 2 * size - dev) % (2 * size)
      let ok := x % 65536 < size ∧ (new + 2 * size - old) % (2 * size) ≤ size ∧ occ ≤ size
      n < 256 ∧ s.sys.mode.engine = true ∧ ringOn n s = true ∧ ¬ok) := by
  refine ⟨?_, ?_, ?_, ?_, ?_, ?_, ?_⟩ <;> decide +kernel

theorem wit_command_fetch :
    (
      let n : Nat := 0
      let desc : List Byte := [0xFF]
      let s : State := run |> wr Reg.hifCtrl 0 1 |> wr Reg.hifRingCfg 0 0x50781 |> setRing 0 { prod := 1 }
      let c := decodeCmd n (getRing n s).fetched (fit 64 desc) s
      let k := 1
      mayFetch s = true ∧ turnRing s = some n ∧ fetchCheck c (fit 64 desc) s = some k) ∧
    (
      let n : Nat := 0
      let desc : List Byte := [0]
      let s : State := fly { tag := 9, seq := 9 } (run |> wr Reg.hifCtrl 0 1 |> wr Reg.hifRingCfg 0 0x50781 |> setRing 0
        { prod := 1 })
      let c := decodeCmd n (getRing n s).fetched (fit 64 desc) s
      let u := takeEntry n s
      let t := { u with hif := { u.hif with rrNext := (n + 1) % 256, inflight := u.hif.inflight ++ [c] } }
      mayFetch s = true ∧ turnRing s = some n ∧ fetchCheck c (fit 64 desc) s = none ∧ startable c t = false) ∧
    (
      let n : Nat := 0
      let desc : List Byte := [0]
      let s : State := run |> wr Reg.hifCtrl 0 1 |> wr Reg.hifRingCfg 0 0x50781 |> setRing 0 { prod := 1 }
      let c := decodeCmd n (getRing n s).fetched (fit 64 desc) s
      let u := takeEntry n s
      let t := { u with hif := { u.hif with rrNext := (n + 1) % 256, inflight := u.hif.inflight ++ [c] } }
      mayFetch s = true ∧ turnRing s = some n ∧ fetchCheck c (fit 64 desc) s = none ∧ startable c t = true ∧ startCheck c t = none) ∧
    (
      let n : Nat := 0
      let desc : List Byte := [0x93, 4, 0, 0, 0, 6, 0, 0, 0, 0, 0, 0, 0, 0, 0, 0, 0, 2]
      let s : State := run |> wr Reg.hifCtrl 0 1 |> wr Reg.hifRingCfg 0 0x50781 |> setRing 0 { prod := 1 }
      let c := decodeCmd n (getRing n s).fetched (fit 64 desc) s
      let u := takeEntry n s
      let t := { u with hif := { u.hif with rrNext := (n + 1) % 256, inflight := u.hif.inflight ++ [c] } }
      let k := 8
      mayFetch s = true ∧ turnRing s = some n ∧ fetchCheck c (fit 64 desc) s = none ∧ startable c t = true ∧ startCheck c t = some
        k) ∧
    (
      let n : Nat := 0
      let desc : List Byte := [0]
      let s : State := run |> wr Reg.hifCtrl 0 1 |> wr Reg.hifRingCfg 0 0x50781 |> setRing 0 { prod := 1 }
      mayFetch s = true ∧ turnRing s = some n) ∧
    (
      let n : Nat := 0
      let desc : List Byte := [0]
      let s : State := run |> wr Reg.hifCtrl 0 1 |> wr Reg.hifRingCfg 0 0x50781 |> setRing 0 { prod := 1 }
      let m := 255
      mayFetch s = true ∧ turnRing s = some n ∧ m ≠ n) ∧
    (
      let n : Nat := 0
      let desc : List Byte := [0]
      let s : State := run |> wr Reg.hifCtrl 0 1 |> wr Reg.hifRingCfg 0 0x50781 |> setRing 0 { prod := 1 }
      mayFetch s = true ∧ turnRing s = some n) := by
  refine ⟨?_, ?_, ?_, ?_, ?_, ?_, ?_⟩ <;> decide +kernel

theorem wit_control_opcodes :
    (
      let c : Cmd := cmd 0 []
      let s : State := fly c run
      ready 0 c s = true) ∧
    (
      let c : Cmd := cmd 2 [255]
      let s : State := fly c (run |> wr Reg.hifRingCfg 255 0x80)
      let n := c.op 0 1
      ready 2 c s = true ∧ ringOn n s = true ∧ ringKind n s ≠ 1) ∧
    (
      let c : Cmd := cmd 3 [255]
      let s : State := fly c (run |> wr Reg.hifRingCfg 255 0x80)
      let n := c.op 0 1
      ready 3 c s = true ∧ ringOn n s = true ∧ ringKind n s ≠ 1) ∧
    (
      let c : Cmd := cmd 2 [255]
      let s : State := fly c run
      let n := c.op 0 1
      ready 2 c s = true ∧ (ringOn n s = false ∨ ringKind n s = 1)) ∧
    (
      let c : Cmd := cmd 3 [255]
      let s : State := fly c run
      let n := c.op 0 1
      ready 3 c s = true ∧ (ringOn n s = false ∨ ringKind n s = 1)) ∧
    (
      let c : Cmd := cmd 4 [63]
      let s : State := fly c run
      let n := c.op 0 1
      ready 4 c s = true ∧ n < 64) ∧
    (
      let c : Cmd := cmd 4 [64]
      let s : State := fly c run
      let n := c.op 0 1
      ready 4 c s = true ∧ 64 ≤ n) ∧
    (
      let c : Cmd := cmd 5 [63]
      let s : State := fly c run
      let n := c.op 0 1
      ready 5 c s = true ∧ n < 64) ∧
    (
      let c : Cmd := cmd 5 [64]
      let s : State := fly c run
      let n := c.op 0 1
      ready 5 c s = true ∧ 64 ≤ n) ∧
    (
      let c : Cmd := cmd 6 []
      let s : State := fly c run
      ready 6 c s = true) ∧
    (
      let c : Cmd := cmd 0 []
      let s : State := fly c run
      let ch := 63
      ch < 64 ∧ s.sys.mode.engine = true) := by
  refine ⟨?_, ?_, ?_, ?_, ?_, ?_, ?_, ?_, ?_, ?_, ?_⟩ <;> decide +kernel

theorem wit_summary_queue :
    (
      let c : Cmd := cmd 1 [] 65536
      let s : State := waitSums { cmd := some {} } 4 (fly c run)
      let count := (if s.hif.sumRun.isSome then 1 else 0) + s.hif.sumWait.length
      ready 1 c s = true ∧ c.addr % 64 = 0 ∧ c.len = 65536 ∧ count < 5) ∧
    (
      let c : Cmd := cmd 1 [] 65472
      let s : State := waitSums { cmd := some {} } 4 (fly c run)
      ready 1 c s = true ∧ (c.addr % 64 ≠ 0 ∨ c.len ≠ 65536)) ∧
    (
      let c : Cmd := cmd 1 [] 65536
      let s : State := waitSums { cmd := some {} } 5 (fly c run)
      let count := (if s.hif.sumRun.isSome then 1 else 0) + s.hif.sumWait.length
      ready 1 c s = true ∧ c.addr % 64 = 0 ∧ c.len = 65536 ∧ 5 ≤ count) ∧
    (
      let c : Cmd := cmd 1 [] 65536
      let s : State := waitSums {} 1 run
      s.sys.mode.engine = true ∧ sumBusy s = true) ∧
    (
      let c : Cmd := cmd 1 [] 65536
      let s : State := waitSums { cmd := some {} } 4 run
      let count := (if s.hif.sumRun.isSome then 1 else 0) + s.hif.sumWait.length
      s.sys.mode.engine = true ∧ sumBusy s = false ∧ count < 5) ∧
    (
      let c : Cmd := cmd 1 [] 65536
      let s : State := waitSums { cmd := some {} } 5 run
      let count := (if s.hif.sumRun.isSome then 1 else 0) + s.hif.sumWait.length
      s.sys.mode.engine = true ∧ sumBusy s = false ∧ 5 ≤ count) ∧
    (
      let c : Cmd := cmd 1 [] 65536
      let s : State := { run with hif := { run.hif with sumRun := some {} } }
      s.sys.mode.engine = true ∧ s.hif.sumRun.isSome = true) ∧
    (
      let c : Cmd := cmd 1 [] 65536
      let s : State := waitSums {} 1 run
      let j := {}
      let rest := []
      s.sys.mode.engine = true ∧ s.hif.sumRun = none ∧ s.hif.sumWait = j :: rest) := by
  refine ⟨?_, ?_, ?_, ?_, ?_, ?_, ?_, ?_⟩ <;> decide +kernel

theorem wit_waiting_events :
    (
      let n : Nat := 255
      let s : State := run |> wr Reg.hifRingCfg 255 0x92 |> setRing 255 { comps := [({}, {})] }
      let r := getRing n s
      let ref := {}
      let e := {}
      let rest := []
      n < 256 ∧ s.sys.mode.engine = true ∧ ringRoom n s = true ∧ r.comps = (ref, e) :: rest) ∧
    (
      let n : Nat := 255
      let s : State := run |> wr Reg.hifRingCfg 255 0x92 |> setRing 255 { backlog := [.ev {}] }
      let r := getRing n s
      let e := {}
      let rest := []
      n < 256 ∧ s.sys.mode.engine = true ∧ ringRoom n s = true ∧ r.comps = [] ∧ r.backlog = .ev e :: rest) ∧
    (
      let n : Nat := 255
      let s : State := run |> wr Reg.hifRingCfg 255 0x92 |> setRing 255 { backlog := [.lost 3] }
      let r := getRing n s
      let k := 3
      let rest := []
      n < 256 ∧ s.sys.mode.engine = true ∧ ringRoom n s = true ∧ r.comps = [] ∧ r.backlog = .lost k :: rest) ∧
    (
      let n : Nat := 255
      let s : State := run |> wr Reg.hifRingCfg 255 0x92
      let r := getRing n s
      n < 256 ∧ s.sys.mode.engine = true ∧ ringRoom n s = true ∧ r.comps = [] ∧ r.backlog = []) ∧
    (
      let n : Nat := 255
      let s : State := run |> wr Reg.hifRingCfg 255 0x92
      let u : State := run
      n < 256 ∧ s.sys.mode.engine = true ∧ ringRoom n s = true ∧ u.tim.captures = []) := by
  refine ⟨?_, ?_, ?_, ?_, ?_⟩ <;> decide +kernel

theorem wit_event_record :
    (
      let n : Nat := 255
      let s : State := run |> wr Reg.hifRingCfg 255 0x92 |> setRing 255 { prod := 7 }
      (getRing n s).prod < 2 * ringSize n s) := by
  decide +kernel

theorem wit_descriptors :
    (
      let ch : Nat := 63
      let x : Xfer := { dir := .fromHost, left := 1 }
      let s : State := setChan 63 { xfers := [x] } run
      ch < 64 ∧ s.sys.mode.engine = true ∧ nextChan .fromHost s = some ch ∧ nextXfer ch .fromHost s = some x) ∧
    (
      let ch : Nat := 63
      let x : Xfer := { left := 4096 }
      let s : State := setChan 63 { xfers := [x] } run
      ch < 64 ∧ s.sys.mode.engine = true ∧ nextChan .toHost s = some ch ∧ nextXfer ch .toHost s = some x) ∧
    (
      let ch : Nat := 63
      let x : Xfer := {}
      let s : State := run
      ch < 64 ∧ s.sys.mode.engine = true ∧ rdFld Reg.hifDmaCfg ch 0 8 s = 0) ∧
    (
      let ch : Nat := 63
      let x : Xfer := {}
      let s : State := setChan 63 { xfers := [x] } run
      s.sys.mode.engine = true ∧ ch < 64 ∧ (getChan ch s).xfers.find? (xferWhole ch) = some x) ∧
    (
      let ch : Nat := 3
      let x : Xfer := {}
      let s : State := setChan 3 { xfers := [x] } run
      let ref := {}
      s.sys.mode.engine = true ∧ ch < 4 ∧ (getChan ch s).xfers.find? (fun y => xferOf ref y && decide (y.dir = .toHost) && decide
        (y.left = 0)) = some x) ∧
    (
      let x : Xfer := {}
      let s : State := { run with hif := { run.hif with sumRun := some {} } }
      let j := {}
      s.sys.mode.engine = true ∧ s.hif.sumRun = some j) ∧
    (
      let ch : Nat := 3
      let x : Xfer := {}
      let s : State := run |> wr Reg.hifRingCfg 255 0x300B2 |> setRing 255 { puntWait := [{ len := 9 }] }
      let n := 255
      let b := { len := 9 }
      s.sys.mode.engine = true ∧ ch < 4 ∧ n < 256 ∧ ringCh n s = ch ∧ (getRing n s).puntWait = [b]) ∧
    (
      let x : Xfer := {}
      let s : State := fly (cmd 0 []) (setChan 63 { xfers := [x] } run)
      let c := cmd 0 []
      let st := 0
      let done := 4
      s.sys.mode.engine = true ∧ findCmd x.cmd s = some c ∧ cmdObjs c s = []) ∧
    (
      let ch : Nat := 63
      let x : Xfer := {}
      let s : State := run
      let d : DescRef := { ring := 255, evRing := 7 }
      s.sys.mode.engine = true ∧ 4 ≤ ch ∧ ch < 64 ∧ d.ring < 256 ∧ d.packet = false ∧ (getChan ch s).xfers.any (xferOf
        { ring := d.ring, seq := d.seq }) = false ∧ evRingOn d.evRing s = false) ∧
    (
      let ch : Nat := 63
      let x : Xfer := {}
      let s : State := run |> wr Reg.hifRingCfg 7 0x92
      let d : DescRef := { ring := 255, evRing := 7 }
      s.sys.mode.engine = true ∧ 4 ≤ ch ∧ ch < 64 ∧ d.ring < 256 ∧ d.packet = false ∧ (getChan ch s).xfers.any (xferOf
        { ring := d.ring, seq := d.seq }) = false ∧ evRingOn d.evRing s = true) ∧
    (
      let ch : Nat := 3
      let x : Xfer := {}
      let s : State := setChan 3 { xfers := [{ cmd := { ring := 255 } }] } run
      let d : DescRef := { ring := 255, evRing := 7 }
      s.sys.mode.engine = true ∧ ch < 4 ∧ d.ring < 256 ∧ d.packet = false) ∧
    (
      let x : Xfer := {}
      let s : State := setDom 30 { st := .deferred } run
      let d := 30
      s.sys.mode.engine = true ∧ d < 31 ∧ (getDom d s).st = .deferred) ∧
    (
      let ch : Nat := 63
      let x : Xfer := { domains := [30], left := 3 }
      let s : State := fly (cmd 0 []) (setChan 63 { xfers := [x] } (setDom 30 { st := .deferred } run))
      let d := 30
      let c := cmd 0 []
      s.sys.mode.engine = true ∧ ch < 64 ∧ s.hif.chans = [(ch, { getChan ch s with xfers := [x] })] ∧ x.domains.contains d = true ∧
        findCmd x.cmd s = some c) := by
  refine ⟨?_, ?_, ?_, ?_, ?_, ?_, ?_, ?_, ?_, ?_, ?_, ?_, ?_⟩ <;> decide +kernel

theorem wit_packet_rings :
    (
      let n : Nat := 255
      let b : List Byte := [0, 0, 0, 0, 0, 0, 0, 0, 32, 0, 0, 0, 2]
      let bs : List (Nat × List Byte) := []
      let s : State := run |> wr Reg.hifRingCfg 255 0x500A2 |> setRing 255 { prod := 1 }
      let r := getRing n s
      let d := decodeDesc r.cons (fit 32 b)
      n < 256 ∧ s.sys.mode.engine = true ∧ hasWork 2 n s = true ∧ (r.injStage = .idle ∨ r.injStage = .skipping) ∧ d.sop = true ∧ 32
        ≤ d.len ∧ d.eop = false) ∧
    (
      let n : Nat := 255
      let b : List Byte := [0, 0, 0, 0, 0, 0, 0, 0, 46, 0, 0, 0, 6]
      let bs : List (Nat × List Byte) := []
      let s : State := run |> wr Reg.hifRingCfg 255 0x500A2 |> setRing 255 { prod := 1, injStage := .skipping }
      let r := getRing n s
      let d := decodeDesc r.cons (fit 32 b)
      n < 256 ∧ s.sys.mode.engine = true ∧ hasWork 2 n s = true ∧ (r.injStage = .idle ∨ r.injStage = .skipping) ∧ d.sop = true ∧ 46
        ≤ d.len ∧ d.eop = true) ∧
    (
      let n : Nat := 255
      let b : List Byte := [0, 0, 0, 0, 0, 0, 0, 0, 31, 0, 0, 0, 6]
      let bs : List (Nat × List Byte) := []
      let s : State := run |> wr Reg.hifRingCfg 255 0x500A2 |> setRing 255 { prod := 1 }
      let r := getRing n s
      let d := decodeDesc r.cons (fit 32 b)
      n < 256 ∧ s.sys.mode.engine = true ∧ hasWork 2 n s = true ∧ r.injStage = .idle ∧ d.sop = true ∧ d.len < 32 ∧ d.eop = true) ∧
    (
      let n : Nat := 255
      let b : List Byte := []
      let bs : List (Nat × List Byte) := []
      let s : State := run |> wr Reg.hifRingCfg 255 0x500A2 |> setRing 255 { prod := 1, injStage := .opened }
      let r := getRing n s
      let d := decodeDesc r.cons (fit 32 b)
      n < 256 ∧ s.sys.mode.engine = true ∧ hasWork 2 n s = true ∧ r.injStage = .opened ∧ d.sop = false) ∧
    (
      let n : Nat := 255
      let b : List Byte := List.replicate 12 0 ++ [2]
      let bs : List (Nat × List Byte) := []
      let s : State := run |> wr Reg.hifRingCfg 255 0x500A2 |> setRing 255 { prod := 1, injStage := .opened }
      let r := getRing n s
      let d := decodeDesc r.cons (fit 32 b)
      n < 256 ∧ s.sys.mode.engine = true ∧ hasWork 2 n s = true ∧ r.injStage = .opened ∧ d.sop = true) ∧
    (
      let n : Nat := 255
      let b : List Byte := []
      let bs : List (Nat × List Byte) := []
      let s : State := setRing 255 { injStage := .reading } run
      let r := getRing n s
      n < 256 ∧ r.injStage = .reading) ∧
    (
      let n : Nat := 255
      let b : List Byte := []
      let bs : List (Nat × List Byte) := [(0, 1 :: List.replicate 31 0)]
      let s : State := setRing 255 { injStage := .reading, injDescs := [{ len := 32 }] } (wr Reg.macMacroMode 0 1 run)
      let r := getRing n s
      let data := (r.injDescs.zipIdx.map fun x => fit x.1.len (bs.getD x.2 (0, [])).2).flatMap id
      n < 256 ∧ r.injStage = .reading ∧ injectStatus (data.take 32) s = 0) ∧
    (
      let n : Nat := 255
      let b : List Byte := []
      let bs : List (Nat × List Byte) := []
      let s : State := setRing 255 { injStage := .reading } run
      let r := getRing n s
      let data := (r.injDescs.zipIdx.map fun x => fit x.1.len (bs.getD x.2 (0, [])).2).flatMap id
      n < 256 ∧ r.injStage = .reading ∧ injectStatus (data.take 32) s ≠ 0) ∧
    (
      let n : Nat := 255
      let b : List Byte := []
      let bs : List (Nat × List Byte) := []
      let s : State := setRing 255 { injStage := .reading } run
      let r := getRing n s
      n < 256 ∧ r.injStage = .reading) ∧
    (
      let n : Nat := 255
      let b : List Byte := []
      let bs : List (Nat × List Byte) := []
      let s : State := run |> wr Reg.hifRingCfg 255 0x500B2 |> setRing 255 { prod := 1 }
      n < 256 ∧ s.sys.mode.engine = true ∧ hasWork 2 n s = false ∧ hasWork 3 n s = true) ∧
    (
      let n : Nat := 255
      let b : List Byte := List.replicate 8 0 ++ [255, 255]
      let bs : List (Nat × List Byte) := []
      let s : State := run |> wr Reg.hifRingCfg 255 0x500B2 |> setRing 255 { prod := 1, punts := [0] } |> setPkt 0
        { ended := true }
      let r := getRing n s
      let d := decodeDesc r.cons (fit 32 b)
      let i := 0
      n < 256 ∧ s.sys.mode.engine = true ∧ hasWork 3 n s = true ∧ dropSpoilt n s = s ∧ r.punts = [i] ∧ (getPkt i s).ended = true ∧
        r.puntDone = 0 ∧ r.puntBufs = 0 ∧ (puntStream (getPkt i s)).length ≤ d.len ∧ 0 < d.len ∧ domsDown [6] s = false ∧ 4 ≤
        ringCh n s) := by
  refine ⟨?_, ?_, ?_, ?_, ?_, ?_, ?_, ?_, ?_, ?_, ?_⟩ <;> decide +kernel

theorem wit_host_link :
    (
      let gen : Nat := 6
      let width : Nat := 8
      let s : State := at_ .wipe
      s.hif.linkUp = false ∧ s.sys.perstN = false ∧ s.sys.mode ≠ .off ∧ s.sys.mode ≠ .reset ∧ (gen = 4 ∨ gen = 5 ∨ gen = 6) ∧
        (width = 1 ∨ width = 2 ∨ width = 4 ∨ width = 8) ∧ s.hif.gen = 0 ∧ s.hif.width = 0 ∧ s.hif.flit = false) ∧
    (
      let s : State := { run with hif := { run.hif with linkUp := true } }
      s.hif.linkUp = true) ∧
    (
      let s : State := run
      s.sys.perstN = false ∧ s.sys.mode ≠ .off) := by
  refine ⟨?_, ?_, ?_⟩ <;> decide +kernel

theorem wit_wide_registers :
    (
      let s : State := at_ .reset
      s.sys.mode ≠ .off ∧ s.sys.mode ≠ .lockdown) ∧
    (
      let s : State := at_ .reset
      let rail := 4
      s.sys.mode ≠ .off ∧ s.sys.mode ≠ .lockdown ∧ rail < 5) ∧
    (
      let s : State := at_ .reset
      s.sys.mode ≠ .off ∧ s.sys.mode ≠ .lockdown) := by
  refine ⟨?_, ?_, ?_⟩ <;> decide +kernel

theorem wit_served_windows :
    (
      let size : Nat := 4
      let a : Nat := bmcBase
      (size ≠ 4 ∨ a % 4 ≠ 0 ∨ bmcBase ≤ a)) ∧
    (
      let s : State := run
      let a : Nat := 0x3FFFFFC
      a < 0x4000000 ∧ a % 4 = 0 ∧ (findReg a).isNone = true ∧ readServed a s = true) ∧
    (
      let n := 255
      n < 256) ∧
    (
      let s : State := run
      let n := 255
      n < 256 ∧ s.sys.mode.engine = true) ∧
    (
      let s : State := at_ .boot
      let a : Nat := 0x3BFFFFF
      let early := a < 0x0400000 ∨ 0x3C00000 ≤ a
      a < 0x4000000 ∧ (s.sys.mode.num < 4 ∨ s.sys.mode = .lockdown) ∧ ¬early) ∧
    (
      let s : State := at_ .reset
      let a : Nat := 0x3FFFFFF
      a < 0x4000000 ∧ s.sys.mode.num < 2) ∧
    (
      let s : State := at_ .lockdown
      let a : Nat := 0
      a < 0x4000000 ∧ s.sys.mode = .lockdown) ∧
    (
      let s : State := at_ .staged
      let a : Nat := 0x3FFFFFC
      a < 0x4000000 ∧ 4 ≤ s.sys.mode.num ∧ s.sys.mode ≠ .lockdown ∧ a % 4 = 0) ∧
    (
      let s : State := at_ .wipe
      let a : Nat := 0x3C00000
      let early := a < 0x0400000 ∨ 0x3C00000 ≤ a
      a < 0x4000000 ∧ 2 ≤ s.sys.mode.num ∧ early ∧ a % 4 = 0) ∧
    (
      let s : State := at_ .wipe
      let a : Nat := 0x3FFFFC
      let early := a < 0x0400000 ∨ 0x3C00000 ≤ a
      a < 0x4000000 ∧ 2 ≤ s.sys.mode.num ∧ early ∧ a % 4 = 0 ∧ s.sys.mode ≠ .lockdown) := by
  refine ⟨?_, ?_, ?_, ?_, ?_, ?_, ?_, ?_, ?_, ?_⟩ <;> decide +kernel

theorem wit_macro_configuration :
    (
      let m : Nat := 127
      let v : Word := 0x11
      let s : State := run |> wr Reg.lanMacroCfg 127 0x11
      let x := v.toNat
      let u := setMacro m { getMacro m s with cfgErr := false } (wrRw Reg.lanMacroCfg m x s)
      let same := fld (rd Reg.lanMacroCfg m s) 0 3 = x % 8 ∧ groupRate (m / 8) u = groupRate (m / 8) s
      m < 128 ∧ s.sys.mode.engine = true ∧ bitAt x 4 = true ∧ macroCfgBad m x s = false ∧ same) ∧
    (
      let m : Nat := 127
      let v : Word := 0x15
      let s : State := run |> wr Reg.lanMacroCfg 127 0x11
      let x := v.toNat
      m < 128 ∧ s.sys.mode.engine = true ∧ bitAt x 4 = true ∧ macroCfgBad m x s = true) ∧
    (
      let m : Nat := 127
      let v : Word := 0x01
      let s : State := run |> wr Reg.lanMacroCfg 127 0x11
      let x := v.toNat
      let u := setMacro m { getMacro m s with cfgErr := false } (wrRw Reg.lanMacroCfg m x s)
      let same := fld (rd Reg.lanMacroCfg m s) 0 3 = x % 8 ∧ groupRate (m / 8) u = groupRate (m / 8) s
      m < 128 ∧ s.sys.mode.engine = true ∧ bitAt x 4 = false ∧ macroOn m s = true ∧ macroCfgBad m x s = false ∧ same) ∧
    (
      let m : Nat := 127
      let v : Word := 0x05
      let s : State := run |> wr Reg.lanMacroCfg 127 0x11
      let x := v.toNat
      m < 128 ∧ s.sys.mode.engine = true ∧ bitAt x 4 = false ∧ macroCfgBad m x s = true) ∧
    (
      let m : Nat := 127
      let v : Word := 0x07
      let s : State := run |> wr Reg.lanMacroCfg 127 0x11
      let x := v.toNat
      m < 128 ∧ s.sys.mode.engine = true ∧ x % 8 ≠ rateOf m s ∧ macroCfgBad m x s = true) ∧
    (
      let m : Nat := 127
      let v : Word := 0x02
      let s : State := run |> wr Reg.lanMacroCfg 127 0x11
      let x := v.toNat
      m < 128 ∧ s.sys.mode.engine = true ∧ x % 8 ≠ rateOf m s ∧ macroCfgBad m x s = false) ∧
    (
      let m : Nat := 127
      let v : Word := 0x80
      let s : State := run |> wr Reg.lanMacroCfg 127 0x11
      let x := v.toNat
      let n := 1023
      let old := rd Reg.lanLaneCfg n s
      let y := if fld x 4 2 = 3 then setFld x 4 2 (fld old 4 2) else x
      m < 128 ∧ s.sys.mode.engine = true ∧ n < 1024 ∧ bitAt y 7 = true ∧ bitAt old 7 = false) ∧
    (
      let m : Nat := 127
      let v : Word := 0x30
      let s : State := run |> wr Reg.lanLaneCfg 1023 0x80
      let x := v.toNat
      let n := 1023
      let old := rd Reg.lanLaneCfg n s
      let y := if fld x 4 2 = 3 then setFld x 4 2 (fld old 4 2) else x
      m < 128 ∧ s.sys.mode.engine = true ∧ n < 1024 ∧ bitAt y 7 = false ∧ bitAt old 7 = true) ∧
    (
      let m : Nat := 127
      let v : Word := 0
      let s : State := run |> wr Reg.lanMacroCfg 127 0x11
      let x := v.toNat
      let n := 1023
      let old := rd Reg.lanLaneCfg n s
      let y := if fld x 4 2 = 3 then setFld x 4 2 (fld old 4 2) else x
      m < 128 ∧ s.sys.mode.engine = true ∧ n < 1024 ∧ bitAt y 7 = bitAt old 7) := by
  refine ⟨?_, ?_, ?_, ?_, ?_, ?_, ?_, ?_, ?_⟩ <;> decide +kernel

theorem wit_lane_start_up :
    (
      let n : Nat := 1023
      let m : Nat := 127
      let s : State := run |> wr Reg.lanMacroCfg 127 0x11
      n < 1024 ∧ m < 128 ∧ macroOn m s = true ∧ rateOf m s ≠ 0 ∧ groupPowered (m / 8) s = true ∧ (getMacro m s).pllLock = false ∧
        macroFenced m s = false) ∧
    (
      let n : Nat := 1023
      let m : Nat := 127
      let s : State := run |> setLane 1023 { st := .cal } |> setMacro 127 { pllLock := true }
      let l := getLane n s
      n < 1024 ∧ m < 128 ∧ l.st = .cal ∧ l.calDone = false ∧ (getMacro (n / 8) s).pllLock = true) ∧
    (
      let n : Nat := 1023
      let m : Nat := 127
      let s : State := run |> setLane 1023 { st := .cal, calDone := true }
      let l := getLane n s
      n < 1024 ∧ m < 128 ∧ l.st = .cal ∧ l.calDone = true) ∧
    (
      let n : Nat := 1023
      let m : Nat := 127
      let s : State := run |> setLane 1023 { retryWait := true }
      let l := getLane n s
      n < 1024 ∧ m < 128 ∧ l.retryWait = true) ∧
    (
      let n : Nat := 1023
      let m : Nat := 127
      let s : State := run |> setLane 1023 { st := .an }
      let l := getLane n s
      let partner : List AnAbility := [.kr1]
      n < 1024 ∧ m < 128 ∧ l.st = .an ∧ l.retryWait = false ∧ (.cr1 ∈ partner ∨ .kr1 ∈ partner)) ∧
    (
      let n : Nat := 1023
      let m : Nat := 127
      let s : State := run |> setLane 1023 { st := .an }
      let l := getLane n s
      let partner : List AnAbility := []
      n < 1024 ∧ m < 128 ∧ l.st = .an ∧ l.retryWait = false ∧ .cr1 ∉ partner ∧ .kr1 ∉ partner) ∧
    (
      let n : Nat := 1023
      let m : Nat := 127
      let s : State := run |> setLane 1023 { st := .an }
      let l := getLane n s
      n < 1024 ∧ m < 128 ∧ l.st = .an ∧ l.retryWait = false) ∧
    (
      let n : Nat := 1023
      let m : Nat := 127
      let s : State := run |> wr Reg.lanMacroCfg 127 0x11 |> setLane 1023
        { st := .cal, calDone := true, signal := true, cfgUse := 0 }
      let l := getLane n s
      n < 1024 ∧ m < 128 ∧ l.st = .cal ∧ l.calDone = true ∧ l.signal = true ∧ l.retryWait = false ∧ macroFenced (n / 8) s = false ∧
        rateOf (n / 8) s = 1 ∧ fld l.cfgUse 4 2 = 0) ∧
    (
      let n : Nat := 1023
      let m : Nat := 127
      let s : State := run |> wr Reg.lanMacroCfg 127 0x11 |> setLane 1023
        { st := .cal, calDone := true, signal := true, cfgUse := 0x10 }
      let l := getLane n s
      n < 1024 ∧ m < 128 ∧ l.st = .cal ∧ l.calDone = true ∧ l.signal = true ∧ l.retryWait = false ∧ macroFenced (n / 8) s = false ∧
        rateOf (n / 8) s = 1 ∧ fld l.cfgUse 4 2 = 1) ∧
    (
      let n : Nat := 1023
      let m : Nat := 127
      let s : State := run |> wr Reg.lanMacroCfg 127 0x11 |> setLane 1023
        { st := .cal, calDone := true, signal := true, cfgUse := 0x20 }
      let l := getLane n s
      n < 1024 ∧ m < 128 ∧ l.st = .cal ∧ l.calDone = true ∧ l.signal = true ∧ l.retryWait = false ∧ macroFenced (n / 8) s = false ∧
        rateOf (n / 8) s = 1 ∧ 2 ≤ fld l.cfgUse 4 2) ∧
    (
      let n : Nat := 1023
      let m : Nat := 127
      let s : State := run |> setLane 1023 { st := .cal, calDone := true, signal := true, cfgUse := 0 }
      let l := getLane n s
      n < 1024 ∧ m < 128 ∧ l.st = .cal ∧ l.calDone = true ∧ l.signal = true ∧ l.retryWait = false ∧ macroFenced (n / 8) s = false ∧
        rateOf (n / 8) s ≠ 1) ∧
    (
      let n : Nat := 1023
      let m : Nat := 127
      let s : State := run
      let l := getLane n s
      n < 1024 ∧ m < 128 ∧ (l.st ≠ .cal ∨ l.calDone = false ∨ l.signal = false ∨ l.retryWait = true ∨ macroFenced (n / 8) s = true)) ∧
    (
      let n : Nat := 1023
      let m : Nat := 127
      let s : State := run |> setGroup 15 { clk := .relock }
      let g := 15
      n < 1024 ∧ m < 128 ∧ g < 16 ∧ ((getGroup g s).clk = .relock ∨ (getGroup g s).clk = .locking)) := by
  refine ⟨?_, ?_, ?_, ?_, ?_, ?_, ?_, ?_, ?_, ?_, ?_, ?_, ?_⟩ <;> decide +kernel

theorem wit_lane_training :
    (
      let n : Nat := 1023
      let tap : Nat := 2
      let s : State := run |> setLane 1023 { st := .train, taps := 0x38F80000 }
      let l := getLane n s
      let moved := fun (d : Int) => setFld l.taps (8 * tap) 8 (ofS 8 (toS 8 (fld l.taps (8 * tap) 8) + d))
      n < 1024 ∧ tap < 6 ∧ l.st = .train ∧ tapsOk (moved 1) = true) ∧
    (
      let n : Nat := 1023
      let tap : Nat := 3
      let s : State := run |> setLane 1023 { st := .train, taps := 0x38F80000 }
      let l := getLane n s
      let moved := fun (d : Int) => setFld l.taps (8 * tap) 8 (ofS 8 (toS 8 (fld l.taps (8 * tap) 8) + d))
      n < 1024 ∧ tap < 6 ∧ l.st = .train ∧ tapsOk (moved (-1)) = true) ∧
    (
      let n : Nat := 1023
      let tap : Nat := 3
      let s : State := run |> setLane 1023 { st := .train, taps := 0x40000000 }
      let l := getLane n s
      let moved := fun (d : Int) => setFld l.taps (8 * tap) 8 (ofS 8 (toS 8 (fld l.taps (8 * tap) 8) + d))
      n < 1024 ∧ tap < 6 ∧ l.st = .train ∧ tapsOk (moved 1) = false) ∧
    (
      let n : Nat := 1023
      let tap : Nat := 2
      let s : State := run |> setLane 1023 { st := .train, taps := 0x20E00000 }
      let l := getLane n s
      let moved := fun (d : Int) => setFld l.taps (8 * tap) 8 (ofS 8 (toS 8 (fld l.taps (8 * tap) 8) + d))
      n < 1024 ∧ tap < 6 ∧ l.st = .train ∧ tapsOk (moved (-1)) = false) ∧
    (
      let n : Nat := 1023
      let tap : Nat := 0
      let mm : RxMeasure := { snr := 1700 }
      let s : State := run |> setLane 1023 { st := .train, taps := 0x38F80000 }
      let l := getLane n s
      n < 1024 ∧ tap < 6 ∧ l.st = .train ∧ fld l.rxUse 16 16 ≤ mm.snr) ∧
    (
      let n : Nat := 1023
      let tap : Nat := 5
      let mm : RxMeasure := { snr := 1699 }
      let s : State := run |> setLane 1023 { st := .train, taps := 0x38F80000 }
      let l := getLane n s
      n < 1024 ∧ tap < 6 ∧ l.st = .train ∧ mm.snr < fld l.rxUse 16 16) ∧
    (
      let n : Nat := 1023
      let tap : Nat := 0
      let s : State := run |> setLane 1023 { st := .train, taps := 0x38F80000 }
      let l := getLane n s
      n < 1024 ∧ tap < 6 ∧ l.st = .train) ∧
    (
      let n : Nat := 1023
      let tap : Nat := 5
      let mm : RxMeasure := { snr := 1700 }
      let s : State := run |> setLane 1023 { st := .adapt }
      let l := getLane n s
      n < 1024 ∧ tap < 6 ∧ l.st = .adapt ∧ fld l.rxUse 16 16 ≤ mm.snr) ∧
    (
      let n : Nat := 1023
      let tap : Nat := 5
      let mm : RxMeasure := { snr := 1699 }
      let s : State := run |> setLane 1023 { st := .adapt }
      let l := getLane n s
      n < 1024 ∧ tap < 6 ∧ l.st = .adapt ∧ mm.snr < fld l.rxUse 16 16) ∧
    (
      let n : Nat := 1023
      let tap : Nat := 5
      let s : State := run |> setLane 1023 { st := .adapt }
      let l := getLane n s
      n < 1024 ∧ tap < 6 ∧ l.st = .adapt) ∧
    (
      let n : Nat := 1023
      let tap : Nat := 5
      let s : State := run |> setLane 1023 { st := .data, cfgUse := 0 }
      let l := getLane n s
      let rx : RxLoops := {}
      n < 1024 ∧ tap < 6 ∧ l.st = .data ∧ bitAt l.cfgUse 6 = false) ∧
    (
      let n : Nat := 1023
      let tap : Nat := 5
      let s : State := run |> setLane 1023 { st := .data, ctle := 31, cfgUse := 0x40 }
      let l := getLane n s
      let rx : RxLoops := {}
      n < 1024 ∧ tap < 6 ∧ l.st = .data ∧ bitAt l.cfgUse 6 = true) ∧
    (
      let g : Nat := 3
      g < 4) := by
  refine ⟨?_, ?_, ?_, ?_, ?_, ?_, ?_, ?_, ?_, ?_, ?_, ?_, ?_⟩ <;> decide +kernel

theorem wit_lane_loss_and_wake :
    (
      let n : Nat := 1023
      let p : Nat := 1023
      let s : State := run |> setLane 1023 { st := .data }
      let l := getLane n s
      n < 1024 ∧ p < 1024 ∧ l.st = .data) ∧
    (
      let n : Nat := 1023
      let p : Nat := 1023
      let s : State := run |> setPort 1023 { st := .sleep }
      n < 1024 ∧ p < 1024 ∧ (getPort p s).st = .sleep) ∧
    (
      let n : Nat := 1023
      let p : Nat := 1023
      let s : State := run |> setLane 1023 { st := .sleep, warm := some { temp := 10 } }
      let l := getLane n s
      let wm := { temp := 10 }
      n < 1024 ∧ p < 1024 ∧ l.st = .sleep ∧ l.warm = some wm ∧ upsetOf memWarm n s = 0 ∧ wm.rate = rateOf (n / 8) s ∧ (groupTemp (n
        / 64) s - wm.temp).natAbs ≤ 10) ∧
    (
      let n : Nat := 1023
      let p : Nat := 1023
      let s : State := run |> setLane 1023 { st := .sleep, warm := some { temp := 10 } } |> struck memWarm 1023
      let l := getLane n s
      let wm := { temp := 10 }
      n < 1024 ∧ p < 1024 ∧ l.st = .sleep ∧ l.warm = some wm ∧ upsetOf memWarm n s ≠ 0) ∧
    (
      let n : Nat := 1023
      let p : Nat := 1023
      let mm : RxMeasure := { snr := 1700 }
      let s : State := run |> setLane 1023 { st := .wake }
      let l := getLane n s
      n < 1024 ∧ p < 1024 ∧ l.st = .wake ∧ fld l.rxUse 16 16 ≤ mm.snr) ∧
    (
      let n : Nat := 1023
      let p : Nat := 1023
      let s : State := run |> setLane 1023 { st := .wake }
      let l := getLane n s
      n < 1024 ∧ p < 1024 ∧ l.st = .wake) := by
  refine ⟨?_, ?_, ?_, ?_, ?_, ?_⟩ <;> decide +kernel

theorem wit_lane_commands :
    (
      let c : Cmd := cmd 0x90 [0xFE, 3, 2, 0]
      let s : State := fly c run
      let first := c.op 0 2
      let k := c.op 2 2
      let ls := (List.range k).map (first + ·)
      let named := 1 ≤ k ∧ k ≤ 64 ∧ first + k ≤ 1024 ∧ first / 64 = (first + k - 1) / 64
      let free := ∀ n ∈ ls, macroFenced (n / 8) s = false
      ready 0x90 c s = true ∧ named ∧ c.len = 0 ∧ free ∧ (∀ n ∈ ls, (getLane n s).st ≠ .test)) ∧
    (
      let c : Cmd := cmd 0x90 [0xFE, 3, 3, 0]
      let s : State := fly c run
      let first := c.op 0 2
      let k := c.op 2 2
      let named := 1 ≤ k ∧ k ≤ 64 ∧ first + k ≤ 1024 ∧ first / 64 = (first + k - 1) / 64
      ready 0x90 c s = true ∧ ¬named) ∧
    (
      let c : Cmd := cmd 0x91 [0xFE, 3, 2, 0, 0, 7, 7]
      let s : State := fly c (run |> setLane 1022 { st := .test } |> setLane 1023 { st := .test })
      let first := c.op 0 2
      let k := c.op 2 2
      let ls := (List.range k).map (first + ·)
      let named := 1 ≤ k ∧ k ≤ 64 ∧ first + k ≤ 1024 ∧ first / 64 = (first + k - 1) / 64
      let free := ∀ n ∈ ls, macroFenced (n / 8) s = false
      let runs := (∀ n ∈ ls, testAllowed n s = true) ∧ c.op 5 1 ≤ 7 ∧ c.op 6 1 ≤ 7 ∧ ((c.op 5 1 = 5 ∨ c.op 5 1 = 6) → ∀ n ∈ ls,
        rateOf (n / 8) s ≠ 4)
      ready 0x91 c s = true ∧ named ∧ c.len = 0 ∧ free ∧ c.op 4 1 = 0 ∧ runs) ∧
    (
      let c : Cmd := cmd 0x91 [0xFF, 3, 1, 0, 4, 7, 7]
      let s : State := fly c (run |> setLane 1022 { st := .cal } |> setLane 1023 { st := .cal })
      let first := c.op 0 2
      let k := c.op 2 2
      let ls := (List.range k).map (first + ·)
      let named := 1 ≤ k ∧ k ≤ 64 ∧ first + k ≤ 1024 ∧ first / 64 = (first + k - 1) / 64
      let free := ∀ n ∈ ls, macroFenced (n / 8) s = false
      let runs := (∀ n ∈ ls, testAllowed n s = true) ∧ c.op 5 1 ≤ 7 ∧ c.op 6 1 ≤ 7 ∧ ((c.op 5 1 = 5 ∨ c.op 5 1 = 6) → ∀ n ∈ ls,
        rateOf (n / 8) s ≠ 4)
      ready 0x91 c s = true ∧ named ∧ c.len = 0 ∧ free ∧ 1 ≤ c.op 4 1 ∧ c.op 4 1 ≤ 4 ∧ runs) ∧
    (
      let c : Cmd := cmd 0x92 [0xFF, 3, 0, 0, 0, 40] 16384
      let s : State := fly c (run |> setLane 1023 { st := .data })
      let first := c.op 0 2
      ready 0x92 c s = true ∧ first < 1024 ∧ c.op 4 1 ≤ 3 ∧ (rateOf (first / 8) s = 4 → c.op 4 1 = 1) ∧ 10 ≤ c.op 5 1 ∧ c.op 5 1 ≤
        40 ∧ c.len = (if c.op 4 1 = 3 then 49152 else 16384) ∧ macroFenced (first / 8) s = false ∧ ((getLane first s).st = .data ∨
        (getLane first s).st = .test) ∧ (getLane first s).eye = none) ∧
    (
      let c : Cmd := cmd 0x90 [0xFE, 3, 2, 0]
      let s : State := fly c (run |> setLane 1023 { st := .data, eye := some c.ref, eyeBroken := true })
      let n := 1023
      let l := getLane n s
      n < 1024 ∧ (getLane n s).eye = some c.ref ∧ findCmd c.ref s = some c ∧ l.eyeBroken = true) ∧
    (
      let c : Cmd := cmd 0x92 [0xFF, 3, 0, 0, 0, 40] 16384
      let s : State := fly c (run |> setLane 1023 { st := .data, eye := some c.ref } |> setDom 26 { st := .deferred })
      let n := 1023
      let l := getLane n s
      n < 1024 ∧ (getLane n s).eye = some c.ref ∧ findCmd c.ref s = some c ∧ l.eyeBroken = false ∧ domsDown (cmdDoms c s) s = true) ∧
    (
      let c : Cmd := cmd 0x90 [0xFE, 3, 2, 0]
      let s : State := fly c (run |> setLane 1023 { st := .data, eye := some c.ref })
      let n := 1023
      let l := getLane n s
      n < 1024 ∧ (getLane n s).eye = some c.ref ∧ findCmd c.ref s = some c ∧ l.eyeBroken = false ∧ domsDown (cmdDoms c s) s = false) ∧
    (
      let c : Cmd := cmd 0x93 [0xFE, 3, 2, 0] 128
      let s : State := fly c run
      let first := c.op 0 2
      let k := c.op 2 2
      let ls := (List.range k).map (first + ·)
      let free := ∀ n ∈ ls, macroFenced (n / 8) s = false
      ready 0x93 c s = true ∧ 1 ≤ k ∧ first + k ≤ 1024 ∧ c.len = 64 * k ∧ free) := by
  refine ⟨?_, ?_, ?_, ?_, ?_, ?_, ?_, ?_, ?_⟩ <;> decide +kernel

theorem wit_port_layout :
    (
      let m : Nat := 127
      let v : Word := 0x02
      let c : Cmd := cmd 0x94 [0xFF, 3, 0]
      let s : State := fly c ports
      let new := v.toNat % 256
      m < 128 ∧ s.sys.mode.engine = true ∧ layoutOk (rateOf m s) new = false) ∧
    (
      let m : Nat := 127
      let v : Word := 0xFF
      let c : Cmd := cmd 0x94 [0xFF, 3, 0]
      let s : State := fly c ports
      let new := v.toNat % 256
      m < 128 ∧ s.sys.mode.engine = true ∧ layoutOk (rateOf m s) new = true) ∧
    (
      let v : Word := 0xFF
      let c : Cmd := cmd 0x94 [0xFF, 3, 0]
      let s : State := fly c ports
      let p := c.op 0 2
      ready 0x94 c s = true ∧ p < 1024 ∧ c.len = 0 ∧ portWidth p s ≠ 0 ∧ c.op 2 1 = 0) ∧
    (
      let v : Word := 0xFF
      let c : Cmd := cmd 0x94 [0xFF, 3, 1]
      let s : State := fly c ports
      let p := c.op 0 2
      ready 0x94 c s = true ∧ p < 1024 ∧ c.len = 0 ∧ portWidth p s ≠ 0 ∧ c.op 2 1 = 1 ∧ (getPort p s).st = .disabled ∧ portFenced p
        s = false ∧ macroOn (p / 8) s = true) ∧
    (
      let v : Word := 0xFF
      let c : Cmd := cmd 0x94 [0xFF, 3, 1]
      let s : State := fly c (setPort 1023 { st := .linking } ports)
      let p := c.op 0 2
      ready 0x94 c s = true ∧ p < 1024 ∧ c.len = 0 ∧ portWidth p s ≠ 0 ∧ c.op 2 1 = 1 ∧ (getPort p s).st ≠ .disabled) ∧
    (
      let v : Word := 0xFF
      let c : Cmd := cmd 0x94 [0xFF, 3, 1]
      let s : State := fly c (fence 1 127 ports)
      let p := c.op 0 2
      ready 0x94 c s = true ∧ p < 1024 ∧ c.len = 0 ∧ portWidth p s ≠ 0 ∧ c.op 2 1 = 1 ∧ (getPort p s).st = .disabled ∧ portFenced p
        s = true) ∧
    (
      let v : Word := 0xFF
      let c : Cmd := cmd 0x94 [0xFF, 3, 2]
      let s : State := fly c (setPort 1023 { st := .up } ports)
      let p := c.op 0 2
      ready 0x94 c s = true ∧ p < 1024 ∧ c.len = 0 ∧ portWidth p s ≠ 0 ∧ c.op 2 1 = 2 ∧ (getPort p s).st = .up ∧ (getPort p
        s).sleeping = false) ∧
    (
      let v : Word := 0xFF
      let c : Cmd := cmd 0x94 [0xFF, 3, 2]
      let s : State := fly c ports
      let p := c.op 0 2
      ready 0x94 c s = true ∧ p < 1024 ∧ c.len = 0 ∧ portWidth p s ≠ 0 ∧ c.op 2 1 = 2 ∧ (getPort p s).st ≠ .up) ∧
    (
      let v : Word := 0xFF
      let c : Cmd := cmd 0x94 [0xFF, 3, 3]
      let s : State := fly c (setPort 1023 { st := .sleep } ports)
      let p := c.op 0 2
      ready 0x94 c s = true ∧ p < 1024 ∧ c.len = 0 ∧ portWidth p s ≠ 0 ∧ c.op 2 1 = 3 ∧ (getPort p s).st = .sleep ∨ ((getPort p
        s).st = .up ∧ (getPort p s).sleeping = true)) ∧
    (
      let v : Word := 0xFF
      let c : Cmd := cmd 0x94 [0, 0, 3]
      let s : State := fly c ports
      let p := c.op 0 2
      ready 0x94 c s = true ∧ p < 1024 ∧ c.len = 0 ∧ portWidth p s = 0 ∧ c.op 2 1 < 4) ∧
    (
      let v : Word := 0xFF
      let c : Cmd := cmd 0x96 [0xFE, 3, 2, 0] 128
      let s : State := fly c ports
      let p := c.op 0 2
      ready 0x96 c s = true ∧ 1 ≤ c.op 2 2 ∧ p + c.op 2 2 ≤ 1024 ∧ c.len = 64 * c.op 2 2) := by
  refine ⟨?_, ?_, ?_, ?_, ?_, ?_, ?_, ?_, ?_, ?_, ?_⟩ <;> decide +kernel

theorem wit_port_gates :
    (
      let c : Cmd := cmd 0x95 ([0xFF, 3, 1, 0] ++ le 4 1000000000 ++ le 4 999999999) 8
      let bs : List Byte := [255, 0, 0, 0, 64, 0, 0, 0]
      let s : State := fly c ports
      let q := c.op 0 2
      let k := c.op 2 2
      let cycle := c.op 4 4
      let es := gateEntries k (fit c.len bs)
      ready 0x95 c s = true ∧ q < 1024 ∧ 1 ≤ k ∧ k ≤ 256 ∧ c.len = 8 * k ∧ 1000 ≤ cycle ∧ cycle ≤ 1000000000 ∧ c.op 8 4 ≤ 999999999
        ∧ portWidth q s ≠ 0 ∧ (∀ e ∈ es, 64 ≤ e.2 ∧ e.2 ≤ cycle)) ∧
    (
      let c : Cmd := cmd 0x95 ([0xFF, 3, 1, 0] ++ le 4 1000000000 ++ le 4 999999999) 8
      let bs : List Byte := [255, 0, 0, 0, 64, 0, 0, 0]
      let p : Nat := 1023
      let s : State := setPort 1023 { switchAt := some 7 } ports
      let t := 7
      p < 1024 ∧ (getPort p s).switchAt = some t) ∧
    (
      let c : Cmd := cmd 0x95 ([0xFF, 3, 1, 0] ++ le 4 1000000000 ++ le 4 999999999) 8
      let bs : List Byte := [255, 0, 0, 0, 64, 0, 0, 0]
      let p : Nat := 1023
      let s : State := ports |> ticks 3 |> wr Reg.macGateCfg 1023 7 |> setPort 1023
        { active := { entries := [(1, 64)], cycle := 1000 } }
      p < 1024 ∧ portWidth p s ≠ 0 ∧ bitAt (rd Reg.macGateCfg p s) 0 = true ∧ tbRuns (fld (rd Reg.macGateCfg p s) 1 2) s = true ∧
        (getPort p s).gateFail = false ∧ (getPort p s).active.entries ≠ [] ∧ upsetOf memGate p s = 0) := by
  refine ⟨?_, ?_, ?_⟩ <;> decide +kernel

theorem wit_link_state :
    (
      let p : Nat := 1023
      let s : State := setPort 1023 { st := .linking } ports
      let x := getPort p s
      let skew := 64
      let calOk := false
      p < 1024 ∧ (x.st = .linking ∨ x.st = .waking) ∧ isNrz p s = false ∧ skew ≤ 64) ∧
    (
      let p : Nat := 1023
      let s : State := setPort 1023 { st := .linking } ports
      let x := getPort p s
      let skew := 65
      let calOk := true
      p < 1024 ∧ (x.st = .linking ∨ x.st = .waking) ∧ isNrz p s = false ∧ 64 < skew) ∧
    (
      let p : Nat := 1023
      let s : State := nrz
      let x := getPort p s
      let k := 0
      p < 1024 ∧ isNrz p s = true ∧ k < pcsLanes p s ∧ (tget x.pcs k).locked = false) ∧
    (
      let p : Nat := 1023
      let s : State := setPort 1023 { st := .linking, aligned := true } ports
      let x := getPort p s
      p < 1024 ∧ x.st = .linking ∧ x.aligned = true ∧ x.localRx = false ∧ x.remoteRx = false ∧ x.hiBer = false) ∧
    (
      let p : Nat := 1023
      let s : State := setPort 1023 { st := .up } ports
      let x := getPort p s
      p < 1024 ∧ x.st = .up) ∧
    (
      let p : Nat := 1023
      let s : State := setPort 1023 { st := .up, pcs := [(0, { locked := true })] } nrz
      let x := getPort p s
      let k := 0
      p < 1024 ∧ pcsRuns p s = true ∧ isNrz p s = true ∧ k < pcsLanes p s ∧ (tget x.pcs k).locked = true) ∧
    (
      let p : Nat := 1023
      let count : Nat := 97
      let s : State := setPort 1023 { st := .up } nrz
      let x := getPort p s
      p < 1024 ∧ isNrz p s = true ∧ portWidth p s ≠ 0 ∧ 97 ≤ count ∧ x.st = .up) ∧
    (
      let p : Nat := 1023
      let count : Nat := 97
      let s : State := nrz
      let x := getPort p s
      p < 1024 ∧ isNrz p s = true ∧ portWidth p s ≠ 0 ∧ 97 ≤ count ∧ x.st ≠ .up) ∧
    (
      let p : Nat := 1023
      let count : Nat := 96
      let s : State := nrz
      p < 1024 ∧ isNrz p s = true ∧ portWidth p s ≠ 0 ∧ count < 97) ∧
    (
      let p : Nat := 1023
      let s : State := setPort 1023 { st := .up } ports
      let x := getPort p s
      p < 1024 ∧ x.st = .up) ∧
    (
      let p : Nat := 1023
      let s : State := setPort 1023 { st := .linking } ports
      p < 1024) ∧
    (
      let p : Nat := 1023
      let s : State := ports |> wr Reg.macFecDegrade 1023 1
      let x := getPort p s
      let codewords : List Nat := [0, 1, 14]
      let sum := codewords.foldl (· + ·) 0
      p < 1024 ∧ isNrz p s = false ∧ portWidth p s ≠ 0 ∧ x.fecDegrade = false ∧ sum < 16 * fld (rd Reg.macFecDegrade p s) 0 16) := by
  refine ⟨?_, ?_, ?_, ?_, ?_, ?_, ?_, ?_, ?_, ?_, ?_, ?_⟩ <;> decide +kernel

theorem wit_port_up_down :
    (
      let p : Nat := 1023
      let cause : Nat := 2
      let s : State := setPort 1023 { st := .up } ports
      (getPort p s).st = .up) ∧
    (
      let p : Nat := 1023
      let cause : Nat := 2
      let s : State := setPort 1023 { st := .down } ports
      ((getPort p s).st = .disabled ∨ (getPort p s).st = .down)) ∧
    (
      let p : Nat := 1023
      let cause : Nat := 2
      let s : State := setPort 1023 { st := .linking } ports
      let k := 1022
      k ≠ p ∧ (getPort p s).st = .linking) := by
  refine ⟨?_, ?_, ?_⟩ <;> decide +kernel

theorem wit_flow_control :
    (
      let p : Nat := 1023
      let k : Nat := 7
      let s : State := setPort 1023 { st := .up } ports
      p < 1024 ∧ k < 8 ∧ frameTaken p s = true) ∧
    (
      let p : Nat := 1023
      let k : Nat := 7
      let c : Cmd := cmd 0x97 [0xFF, 3, 255]
      let s : State := fly c ports
      p < 1024 ∧ k < 8) ∧
    (
      let p : Nat := 1023
      let k : Nat := 7
      let s : State := setPort 1023 { st := .up, sendOn := 128, fcMode := 1 } ports
      let x := getPort p s
      p < 1024 ∧ k < 8 ∧ mayTransmit p s = true ∧ x.sending = none ∧ (x.sendOn ≠ 0 ∨ x.sendOff ≠ 0) ∧ x.fcMode = 1) ∧
    (
      let p : Nat := 1023
      let k : Nat := 7
      let s : State := setPort 1023 { st := .up, sendOff := 128, fcMode := 2 } ports
      let x := getPort p s
      p < 1024 ∧ k < 8 ∧ mayTransmit p s = true ∧ x.sending = none ∧ (x.sendOn ≠ 0 ∨ x.sendOff ≠ 0) ∧ x.fcMode = 2) ∧
    (
      let p : Nat := 1023
      let k : Nat := 7
      let s : State := setPort 1023 { st := .up, xoff := 128 } ports
      let x := getPort p s
      p < 1024 ∧ k < 8 ∧ x.st = .up ∧ bitAt x.xoff k = true) ∧
    (
      let p : Nat := 1023
      let k : Nat := 7
      let s : State := ports |> wr Reg.macPfcWd 1023 1 |> setPort 1023 { pause := [(7, 1)] }
      let x := getPort p s
      p < 1024 ∧ k < 8 ∧ fld (rd Reg.macPfcWd p s) 0 16 ≠ 0 ∧ tget x.pause k ≠ 0 ∧ bitAt x.wd k = false ∧ fld (rd Reg.macPfcWd p s)
        16 2 = 0) ∧
    (
      let p : Nat := 1023
      let k : Nat := 7
      let s : State := ports |> wr Reg.macPfcWd 1023 0x10001 |> setPort 1023 { pause := [(7, 1)] }
      let x := getPort p s
      p < 1024 ∧ k < 8 ∧ fld (rd Reg.macPfcWd p s) 0 16 ≠ 0 ∧ tget x.pause k ≠ 0 ∧ bitAt x.wd k = false ∧ fld (rd Reg.macPfcWd p s)
        16 2 = 1) ∧
    (
      let p : Nat := 1023
      let k : Nat := 7
      let s : State := ports |> wr Reg.macPfcWd 1023 0x20001 |> setPort 1023 { pause := [(7, 1)] }
      let x := getPort p s
      p < 1024 ∧ k < 8 ∧ fld (rd Reg.macPfcWd p s) 0 16 ≠ 0 ∧ tget x.pause k ≠ 0 ∧ bitAt x.wd k = false ∧ fld (rd Reg.macPfcWd p s)
        16 2 = 2) ∧
    (
      let p : Nat := 1023
      let k : Nat := 7
      let s : State := setPort 1023 { wd := 128 } ports
      let x := getPort p s
      p < 1024 ∧ k < 8 ∧ bitAt x.wd k = true) ∧
    (
      let p : Nat := 1023
      let k : Nat := 7
      let c : Cmd := cmd 0x97 [0xFF, 3, 255]
      let s : State := fly c ports
      p < 1024 ∧ k < 8 ∧ ready 0x97 c s = true ∧ c.op 0 2 < 1024 ∧ c.len = 0 ∧ portWidth (c.op 0 2) s ≠ 0) := by
  refine ⟨?_, ?_, ?_, ?_, ?_, ?_, ?_, ?_, ?_, ?_⟩ <;> decide +kernel

theorem wit_frames_and_sleep :
    (
      let p : Nat := 1023
      let f : List Byte := List.replicate 63 0
      let cw : List Nat := [15]
      let s : State := setPort 1023 { st := .up } ports
      let k := 16
      p < 1024 ∧ frameTaken p s = true ∧ macCheck p f cw s = some k) ∧
    (
      let p : Nat := 1023
      let f : List Byte := List.replicate 12 0 ++ [0x88, 8] ++ List.replicate 46 0 ++ le 4 0x16c2b891
      let cw : List Nat := [15]
      let s : State := setPort 1023 { st := .up } ports
      p < 1024 ∧ frameTaken p s = true ∧ macCheck p f cw s = none ∧ beAt f 12 2 = 0x8808) ∧
    (
      let p : Nat := 1023
      let f : List Byte := List.replicate 60 0 ++ le 4 0x4128908
      let cw : List Nat := [15]
      let full : Bool := false
      let s : State := setPort 1023 { st := .up } ports
      p < 1024 ∧ frameTaken p s = true ∧ macCheck p f cw s = none ∧ beAt f 12 2 ≠ 0x8808 ∧ s.sys.mode.forwards = true ∧ (full =
        false ∨ 7 ≤ domStep (panelDom (pipeOfPort p s / 4)) s)) ∧
    (
      let p : Nat := 1023
      let f : List Byte := List.replicate 60 0 ++ le 4 0x4128908
      let cw : List Nat := [15]
      let full : Bool := true
      let s : State := setPort 1023 { st := .up } ports |> setDom 4 { below := 1 }
      p < 1024 ∧ frameTaken p s = true ∧ macCheck p f cw s = none ∧ beAt f 12 2 ≠ 0x8808 ∧ s.sys.mode.forwards = true ∧ full = true
        ∧ domStep (panelDom (pipeOfPort p s / 4)) s < 7) ∧
    (
      let p : Nat := 1023
      let i : Nat := 3
      let rest : List Byte := List.replicate 60 0 ++ le 4 0x4128908
      let cw : List Nat := [15]
      let s : State := setArriving 3 { live := true, port := 1023 } ports
      let a := tget s.pip.arriving i
      let all := a.bytes ++ rest
      p < 1024 ∧ (tget s.pip.arriving i).live = true ∧ macCheck a.port all cw s = none) ∧
    (
      let p : Nat := 1023
      let i : Nat := 3
      let rest : List Byte := [1]
      let cw : List Nat := [15]
      let s : State := setArriving 3 { live := true, port := 1023 } ports
      let a := tget s.pip.arriving i
      let all := a.bytes ++ rest
      let k := 16
      p < 1024 ∧ (tget s.pip.arriving i).live = true ∧ macCheck a.port all cw s = some k) ∧
    (
      let p : Nat := 1023
      let s : State := setPort 1023 { st := .up, sleeping := true } ports
      p < 1024 ∧ (getPort p s).st = .up ∧ (getPort p s).sleeping = true ∧ (getPort p s).sending = none) ∧
    (
      let p : Nat := 1023
      let s : State := setPort 1023 { waving := true } ports
      p < 1024 ∧ (getPort p s).waving = true) := by
  refine ⟨?_, ?_, ?_, ?_, ?_, ?_, ?_, ?_⟩ <;> decide +kernel

theorem wit_slot_alignment :
    (
      let g : Nat := 31
      let i : Nat := 0
      let v : Word := 0x100000
      let omf : Bool := true
      let s : State := flex { st := .aligning }
      g < 32 ∧ s.sys.mode.engine = true ∧ bitAt v.toNat 20 = true) ∧
    (
      let g : Nat := 31
      let i : Nat := 0
      let v : Word := 0
      let omf : Bool := true
      let s : State := flex { st := .aligning }
      g < 32 ∧ s.sys.mode.engine = true ∧ bitAt v.toNat 20 = false) ∧
    (
      let g : Nat := 31
      let i : Nat := 0
      let block : Nat := 163688
      let omf : Bool := true
      let s : State := flex { st := .aligning }
      let x := getInst g i s
      g < 32 ∧ instSearches g i s = true ∧ (x.sight block).2 = false) ∧
    (
      let g : Nat := 31
      let i : Nat := 0
      let block : Nat := 163688
      let omf : Bool := true
      let s : State := flex
        { st := .aligning, insts := [(0, { cands := [{ block := 163000 }, { block := 163001 }, { block := 163002 }, { block := 163003 }]
          })] }
      let x := getInst g i s
      g < 32 ∧ instSearches g i s = true ∧ (x.sight block).2 = true) ∧
    (
      let g : Nat := 31
      let i : Nat := 0
      let block : Nat := 163688
      let omf : Bool := true
      let s : State := flex { st := .up, insts := [(0, { frameLock := true })] }
      let x := getInst g i s
      g < 32 ∧ instLive g i s = true ∧ x.frameLock = true ∧ block = x.pos + overheadPeriod) ∧
    (
      let g : Nat := 31
      let i : Nat := 0
      let block : Nat := 163688
      let omf : Bool := true
      let s : State := flex { st := .up, insts := [(0, { frameLock := true, misses := 1 })] }
      let x := getInst g i s
      g < 32 ∧ instLive g i s = true ∧ x.frameLock = true ∧ block = x.pos + overheadPeriod ∧ x.misses < 2) ∧
    (
      let g : Nat := 31
      let i : Nat := 0
      let block : Nat := 163688
      let omf : Bool := true
      let s : State := flex { st := .up, insts := [(0, { frameLock := true, misses := 2 })] }
      let x := getInst g i s
      g < 32 ∧ instLive g i s = true ∧ x.frameLock = true ∧ block = x.pos + overheadPeriod ∧ 2 ≤ x.misses) ∧
    (
      let g : Nat := 31
      let i : Nat := 0
      let omf : Bool := true
      let s : State := flex { st := .aligning, insts := [(0, { frameLock := true })] }
      let x := getInst g i s
      g < 32 ∧ instLive g i s = true ∧ x.frameLock = true ∧ x.omf ≠ some (!omf) ∧ (x.mfLock = false ∨ x.omfPos = none)) ∧
    (
      let g : Nat := 31
      let i : Nat := 0
      let omf : Bool := true
      let s : State := flex { st := .aligning, insts := [(0, { frameLock := true, omf := some false })] }
      let x := getInst g i s
      g < 32 ∧ instLive g i s = true ∧ x.frameLock = true ∧ x.omf = some (!omf) ∧ x.mfLock = false ∧ (∀ p, x.omfPos = some p →
        x.pos ≠ p + 16 * overheadPeriod)) ∧
    (
      let g : Nat := 31
      let i : Nat := 0
      let omf : Bool := true
      let s : State := flex
        { st := .aligning, insts := [(0, { frameLock := true, omf := some false, omfPos := some 8, pos := 8 + 16 * 163688 })] }
      let x := getInst g i s
      let p := 8
      g < 32 ∧ instLive g i s = true ∧ x.frameLock = true ∧ x.omf = some (!omf) ∧ x.omfPos = some p ∧ x.pos = p + 16 *
        overheadPeriod ∧ x.mfLock = false) ∧
    (
      let g : Nat := 31
      let i : Nat := 0
      let omf : Bool := true
      let s : State := flex
        { st := .up, insts := [(0, { frameLock := true, mfLock := true, omf := some false, omfPos := some 8, pos := 8 + 16 * 163688 })] }
      let x := getInst g i s
      let p := 8
      g < 32 ∧ instLive g i s = true ∧ x.frameLock = true ∧ x.omf = some (!omf) ∧ x.omfPos = some p ∧ x.pos = p + 16 *
        overheadPeriod ∧ x.mfLock = true) ∧
    (
      let g : Nat := 31
      let i : Nat := 0
      let omf : Bool := true
      let oh : Overhead := { crcOk := false }
      let s : State := flex { st := .aligning, insts := [(0, { frameLock := true })] }
      let x := getInst g i s
      g < 32 ∧ instLive g i s = true ∧ x.frameLock = true ∧ oh.crcOk = false) ∧
    (
      let g : Nat := 31
      let i : Nat := 0
      let omf : Bool := true
      let oh : Overhead := {}
      let s : State := flex { st := .aligning, insts := [(0, { frameLock := true })] }
      let x := getInst g i s
      g < 32 ∧ instLive g i s = true ∧ x.frameLock = true ∧ oh.crcOk = true) := by
  refine ⟨?_, ?_, ?_, ?_, ?_, ?_, ?_, ?_, ?_, ?_, ?_, ?_, ?_⟩ <;> decide +kernel

theorem wit_calendar_switch :
    (
      let g : Nat := 31
      let ref : CmdRef := {}
      let s : State := flex { st := .up, switching := some {} }
      let x := getGrp g s
      let neg := bitAt (rd Reg.sltGroupCfg g s) 21
      g < 32 ∧ x.switching = some ref ∧ (neg = false ∨ x.rxCa = x.txCr)) ∧
    (
      let g : Nat := 31
      let ref : CmdRef := {}
      let s : State := flex { st := .up, switching := some {}, txCr := 1 } |> wr Reg.sltGroupCfg 31 0x600000
      let x := getGrp g s
      let neg := bitAt (rd Reg.sltGroupCfg g s) 21
      g < 32 ∧ x.switching = some ref ∧ neg = true ∧ x.rxCa ≠ x.txCr) ∧
    (
      let g : Nat := 31
      let s : State := flex {}
      let x := getGrp g s
      g < 32 ∧ x.switching = none) ∧
    (
      let g : Nat := 31
      let s : State := flex { st := .up, rxC := 1 }
      let x := getGrp g s
      g < 32 ∧ x.st = .up ∧ x.rxC ≠ x.rxCal) := by
  refine ⟨?_, ?_, ?_, ?_⟩ <;> decide +kernel

theorem wit_slot_commands :
    (
      let c : Cmd := cmd 0x98 [31, 1] 4
      let bs : List Byte := [0xFF, 3, 254, 0]
      let s : State := fly c run
      let g := c.op 0 1
      let n := c.op 1 1
      let ms := (List.range n).map fun i => (leAt (fit c.len bs) (4 * i) 2, byteAt (fit c.len bs) (4 * i + 2))
      let others := (s.slt.groups.filter fun e => decide (e.1 ≠ g)).flatMap fun e => e.2.members.map Prod.fst
      ready 0x98 c s = true ∧ g < 32 ∧ 1 ≤ n ∧ n ≤ 16 ∧ c.len = 4 * n ∧ grpOn g s = false ∧ (∀ m ∈ ms, m.1 < 1024 ∧ 1 ≤ m.2 ∧ m.2 ≤
        254 ∧ others.contains m.1 = false) ∧ hasDup (ms.map Prod.fst) = false ∧ hasDup (ms.map Prod.snd) = false) ∧
    (
      let c : Cmd := cmd 0x99 [31, 31, 0]
      let bs : List Byte := [0xFF, 3, 254, 0]
      let s : State := fly c run
      let g := c.op 0 1
      let n := c.op 1 1
      ready 0x99 c s = true ∧ n < 32 ∧ c.len = 0 ∧ (getGrp n s).switching = none ∧ clientInUse g s = false ∧ c.op 2 1 = 0) ∧
    (
      let c : Cmd := cmd 0x99 [31, 31, 1, 0, 1, 0, 0xFF, 3]
      let bs : List Byte := [0xFF, 3, 254, 0]
      let s : State := fly c (flex {})
      let g := c.op 0 1
      let n := c.op 1 1
      ready 0x99 c s = true ∧ n < 32 ∧ c.len = 0 ∧ (getGrp n s).switching = none ∧ clientInUse g s = false ∧ (c.op 2 1 = 1 ∨ c.op 2
        1 = 2) ∧ c.op 4 2 ≠ 0 ∧ c.op 4 2 ≠ 0xFFFF ∧ ((s.slt.clients.filter fun e => decide (e.1 ≠ g) && decide (e.2.kind ≠ 0) &&
        decide (e.2.group = n)).all fun e => e.2.wire != c.op 4 2) = true ∧ (c.op 2 1 = 1 → ((getGrp n s).members.any fun m => m.1
        == c.op 6 2) = true ∧ (s.slt.clients.all fun e => e.1 == g || e.2.kind != 1 || e.2.port != c.op 6 2) = true)) ∧
    (
      let c : Cmd := cmd 0x9A [31, 0, 19, 0, 1, 0] 4
      let bs : List Byte := [0, 0, 0, 0]
      let s : State := fly c (flex {} |> wr Reg.sltGroupBase 31 2540)
      let g := c.op 0 1
      let first := c.op 2 2
      let k := c.op 4 2
      let es := (List.range k).map fun i => leAt (fit c.len bs) (4 * i) 4
      ready 0x9A c s = true ∧ g < 32 ∧ 1 ≤ k ∧ k ≤ 320 ∧ c.len = 4 * k ∧ first + k ≤ grpSlots g s ∧ slotBase g s + first + k ≤ 2560
        ∧ (getGrp g s).switching = none ∧ es.all cmEntryOk = true) ∧
    (
      let c : Cmd := cmd 0x9B [31]
      let bs : List Byte := [0xFF, 3, 254, 0]
      let s : State := fly c (flex { st := .up })
      let g := c.op 0 1
      let x := getGrp g s
      ready 0x9B c s = true ∧ g < 32 ∧ c.len = 0 ∧ x.st = .up ∧ x.switching = none ∧ firstBadSlot g (pageRange g (1 - x.txCal) s) s
        = none) ∧
    (
      let c : Cmd := cmd 0x9B [31]
      let bs : List Byte := [0xFF, 3, 254, 0]
      let s : State := fly c (flex { st := .up } |> fun s => { s with slt := { s.slt with cm := [(2560, 0x10001)] } })
      let g := c.op 0 1
      let x := getGrp g s
      let i := 0
      ready 0x9B c s = true ∧ g < 32 ∧ c.len = 0 ∧ x.st = .up ∧ x.switching = none ∧ firstBadSlot g (pageRange g (1 - x.txCal) s) s
        = some i) ∧
    (
      let c : Cmd := cmd 0x9C [] 10304
      let bs : List Byte := [0xFF, 3, 254, 0]
      let s : State := fly c (struck memPm 2 run)
      let g := c.op 0 1
      let b := if g = 0 then some (freezeBin s.slt.bin15 s) else if g ≤ 32 then s.slt.prev15[g - 1]? else if g = 33 then some
        (freezeBin s.slt.binDay s) else s.slt.prevDay[0]?
      let d := freezeBin run.slt.bin15 run
      ready 0x9C c s = true ∧ g ≤ 34 ∧ c.len = 10304 ∧ b = some d ∧ binLost (decide (33 ≤ g)) d s = true) ∧
    (
      let c : Cmd := cmd 0x9C [34] 10304
      let bs : List Byte := [0xFF, 3, 254, 0]
      let s : State := fly c run
      let g := c.op 0 1
      let b := if g = 0 then some (freezeBin s.slt.bin15 s) else if g ≤ 32 then s.slt.prev15[g - 1]? else if g = 33 then some
        (freezeBin s.slt.binDay s) else s.slt.prevDay[0]?
      ready 0x9C c s = true ∧ g ≤ 34 ∧ c.len = 10304 ∧ (∀ d, b = some d → binLost (decide (33 ≤ g)) d s = false)) ∧
    (
      let c : Cmd := cmd 0x9D [31] 224
      let bs : List Byte := [0xFF, 3, 254, 0]
      let s : State := fly c (flex {})
      let g := c.op 0 1
      ready 0x9D c s = true ∧ g < 32 ∧ c.len = 64 + 8 * grpSlots g s) ∧
    (
      let c : Cmd := cmd 0x98 [31, 1] 4
      let bs : List Byte := [0xFF, 3, 254, 0]
      let s : State := run |> wr Reg.sltCtrl 0 7 |> ticks 3
      sltOn s = true ∧ tbRuns (pmTb s) s = true) ∧
    (
      let c : Cmd := cmd 0x98 [31, 1] 4
      let bs : List Byte := [0xFF, 3, 254, 0]
      let s : State := run |> wr Reg.sltCtrl 0 7 |> ticks 3 |> fun s =>
        { s with slt := { s.slt with bin15 := { running := true } } }
      tbRuns (pmTb s) s = true ∧ s.slt.bin15.running = true) ∧
    (
      let c : Cmd := cmd 0x98 [31, 1] 4
      let bs : List Byte := [0xFF, 3, 254, 0]
      let s : State := run |> wr Reg.sltCtrl 0 7 |> ticks 3 |> fun s =>
        { s with slt := { s.slt with binDay := { running := true } } }
      tbRuns (pmTb s) s = true ∧ s.slt.binDay.running = true) ∧
    (
      let c : Cmd := cmd 0x98 [31, 1] 4
      let bs : List Byte := [0xFF, 3, 254, 0]
      let s : State := run |> wr Reg.sltCtrl 0 7 |> ticks 3 |> fun s =>
        { s with slt := { s.slt with bin15 := { running := false } } }
      tbRuns (pmTb s) s = true ∧ s.slt.bin15.running = false) ∧
    (
      let c : Cmd := cmd 0x98 [31, 1] 4
      let bs : List Byte := [0xFF, 3, 254, 0]
      let s : State := run |> wr Reg.sltCtrl 0 7 |> ticks 3 |> fun s =>
        { s with slt := { s.slt with binDay := { running := false } } }
      tbRuns (pmTb s) s = true ∧ s.slt.binDay.running = false) := by
  refine ⟨?_, ?_, ?_, ?_, ?_, ?_, ?_, ?_, ?_, ?_, ?_, ?_, ?_, ?_⟩ <;> decide +kernel

theorem wit_parse_threads :
    (
      let i : Nat := 3
      let s : State := setPkt 3 { live := true } run
      let p := getPkt i s
      atStage i .input s = true ∧ threadsBusy p.pipe s < 192) ∧
    (
      let i : Nat := 3
      let port : Nat := 1023
      let first : List Byte := List.replicate 64 0
      let s : State := setPort 1023 { st := .up } ports
      port < 1024 ∧ frameTaken port s = true ∧ s.sys.mode.forwards = true ∧ 64 ≤ first.length ∧ beAt first 12 2 ≠ 0x8808 ∧
        threadsBusy (pipeOfPort port s) s < 192) ∧
    (
      let i : Nat := 3
      let s : State := run |> wr Reg.parseCfg 0 1 |> setPkt 3 { live := true, stage := .parsing, steps := 1 }
      let p := getPkt i s
      atStage i .parsing s = true ∧ rdFld Reg.parseCfg 0 0 8 s ≤ p.steps) ∧
    (
      let i : Nat := 3
      let s : State := run |> wr Reg.parseCfg 0 1 |> setPkt 3 { live := true, stage := .parsing, pipe := 15, pc := 4095 } |> struck
        memParse 65535
      let p := getPkt i s
      let struck := upsetOf memParse (p.pipe * 4096 + p.pc) s
      atStage i .parsing s = true ∧ p.steps < rdFld Reg.parseCfg 0 0 8 s ∧ struck = 2) ∧
    (
      let i : Nat := 3
      let s : State := run |> wr Reg.parseCfg 0 1 |> setPkt 3 { live := true, stage := .parsing, cursor := 257 } |> word 0x2000
      let p := getPkt i s
      let w := tget s.pip.store p.pc
      let need := p.cursor + wordExtent w
      let struck := upsetOf memParse (p.pipe * 4096 + p.pc) s
      atStage i .parsing s = true ∧ p.steps < rdFld Reg.parseCfg 0 0 8 s ∧ struck ≠ 2 ∧ (256 < need ∨ (bitAt w 234 = true ∧ 255 ≤
        p.cursor))) ∧
    (
      let i : Nat := 3
      let s : State := run |> wr Reg.parseCfg 0 1 |> setPkt 3
        { live := true, stage := .parsing, cursor := 256, ended := false, pipe := 15, pc := 4095 } |> (fun s =>
        { s with upset := [(65535 * 64 + memParse, 1)] })
      let p := getPkt i s
      let w := tget s.pip.store p.pc
      let need := p.cursor + wordExtent w
      let struck := upsetOf memParse (p.pipe * 4096 + p.pc) s
      atStage i .parsing s = true ∧ p.steps < rdFld Reg.parseCfg 0 0 8 s ∧ struck ≠ 2 ∧ need ≤ 256 ∧ (bitAt w 234 = false ∨
        p.cursor < 255) ∧ p.avail < need ∧ p.ended = false) ∧
    (
      let i : Nat := 3
      let s : State := run |> wr Reg.parseCfg 0 1 |> setPkt 3 { live := true, stage := .parsing, cursor := 256 } |> word 0x2000
      let p := getPkt i s
      let w := tget s.pip.store p.pc
      let need := p.cursor + wordExtent w
      let struck := upsetOf memParse (p.pipe * 4096 + p.pc) s
      atStage i .parsing s = true ∧ p.steps < rdFld Reg.parseCfg 0 0 8 s ∧ struck ≠ 2 ∧ need ≤ 256 ∧ (bitAt w 234 = false ∨
        p.cursor < 255) ∧ p.avail < need ∧ p.ended = true) ∧
    (
      let i : Nat := 3
      let s : State := run |> wr Reg.parseCfg 0 1 |> setPkt 3 { live := true, stage := .parsing } |> word 0x2000
      let p := getPkt i s
      let w := tget s.pip.store p.pc
      let need := p.cursor + wordExtent w
      let struck := upsetOf memParse (p.pipe * 4096 + p.pc) s
      atStage i .parsing s = true ∧ p.steps < rdFld Reg.parseCfg 0 0 8 s ∧ struck ≠ 2 ∧ need ≤ 256 ∧ (bitAt w 234 = false ∨
        p.cursor < 255) ∧ need ≤ p.avail ∧ fld w 12 2 = 2) ∧
    (
      let i : Nat := 3
      let s : State := run |> wr Reg.parseCfg 0 1 |> setPkt 3 { live := true, stage := .parsing } |> word 0x3000
      let p := getPkt i s
      let w := tget s.pip.store p.pc
      let need := p.cursor + wordExtent w
      let struck := upsetOf memParse (p.pipe * 4096 + p.pc) s
      atStage i .parsing s = true ∧ p.steps < rdFld Reg.parseCfg 0 0 8 s ∧ struck ≠ 2 ∧ need ≤ 256 ∧ (bitAt w 234 = false ∨
        p.cursor < 255) ∧ need ≤ p.avail ∧ fld w 12 2 = 3) ∧
    (
      let i : Nat := 3
      let s : State := run |> wr Reg.parseCfg 0 1 |> setPkt 3 { live := true, stage := .parsing } |> word 0
      let p := getPkt i s
      let w := tget s.pip.store p.pc
      let need := p.cursor + wordExtent w
      let struck := upsetOf memParse (p.pipe * 4096 + p.pc) s
      atStage i .parsing s = true ∧ p.steps < rdFld Reg.parseCfg 0 0 8 s ∧ struck ≠ 2 ∧ need ≤ 256 ∧ (bitAt w 234 = false ∨
        p.cursor < 255) ∧ need ≤ p.avail ∧ fld w 12 2 < 2) ∧
    (
      let i : Nat := 3
      let s : State := setPkt 3 { live := true, stage := .parsed } run
      atStage i .parsed s = true) ∧
    (
      let i : Nat := 3
      let c : Cmd := cmd 0xA8 [15, 0, 0xFF, 15, 1, 0] 32
      let s : State := fly c (run |> struck memParse 65535)
      let pipe := c.op 0 1
      ready 0xA8 c s = true ∧ pipe < 16 ∧ 1 ≤ c.op 4 2 ∧ c.op 4 2 ≤ 4096 ∧ c.op 2 2 + c.op 4 2 ≤ 4096 ∧ c.len = 32 * c.op 4 2 ∧
        (getUnit 4 pipe s).state ≠ .fenced) := by
  refine ⟨?_, ?_, ?_, ?_, ?_, ?_, ?_, ?_, ?_, ?_, ?_, ?_⟩ <;> decide +kernel

theorem wit_packets_leave :
    (
      let i : Nat := 3
      let s : State := setPkt 3 { live := true, stage := .ready } run
      atStage i .ready s = true) ∧
    (
      let i : Nat := 3
      let port : Nat := 1023
      let s : State := setArriving 3 { live := true, port := 1023 } run
      let a := tget s.pip.arriving i
      a.live = true) ∧
    (
      let i : Nat := 3
      let s : State := run
      let a := tget s.pip.arriving i
      a.live = false) ∧
    (
      let i : Nat := 3
      let panel : Nat := 3
      let s : State := setPkt 3 { live := true, stage := .walking } run
      let p := getPkt i s
      panel < 4 ∧ atStage i .walking s = true ∧ p.walked.contains panel = false ∧ p.walked.length ≠ 3) ∧
    (
      let i : Nat := 3
      let panel : Nat := 3
      let s : State := setPkt 3 { live := true, stage := .walking, walked := [0, 1, 2] } run
      let p := getPkt i s
      panel < 4 ∧ atStage i .walking s = true ∧ p.walked.contains panel = false ∧ p.walked.length = 3) ∧
    (
      let i : Nat := 3
      let port : Nat := 1023
      let s : State := ports
      let v := lookPort port (flushPort port s)
      port < 1024 ∧ (getPort port s).sending = none ∧ portWidth port s ≠ 0 ∧ s.sys.mode.forwards = true ∧ selectQueue port v = none) ∧
    (
      let i : Nat := 3
      let port : Nat := 1023
      let s : State := ports |> setPort 1023 { st := .up } |> setPkt 3 { live := true, stage := .queued } |> setQ 20460
        { pkts := [3] }
      let v := lookPort port (flushPort port s)
      let q := 20460
      let ets := false
      let k := 3
      let rest := []
      port < 1024 ∧ (getPort port s).sending = none ∧ portWidth port s ≠ 0 ∧ s.sys.mode.forwards = true ∧ selectQueue port v = some
        (q, ets) ∧ (getQ q v).pkts = k :: rest) ∧
    (
      let i : Nat := 3
      let s : State := setPkt 3 { live := true, stage := .egress } run
      atStage i .egress s = true) ∧
    (
      let i : Nat := 3
      let port : Nat := 1023
      let s : State := setPkt 3 { live := true, stage := .leaving } run
      let p := getPkt i s
      atStage i .leaving s = true ∧ p.ended = true ∧ macRuns p.port s = false) ∧
    (
      let i : Nat := 3
      let port : Nat := 1023
      let s : State := setPort 1023 { st := .up } (setPkt 3 { live := true, stage := .leaving, port := 1023 } ports)
      let p := getPkt i s
      atStage i .leaving s = true ∧ p.ended = true ∧ macRuns p.port s = true ∧ p.stomp = false) ∧
    (
      let i : Nat := 3
      let port : Nat := 1023
      let s : State := setPort 1023 { st := .up } (setPkt 3 { live := true, stage := .leaving, port := 1023, stomp := true } ports)
      let p := getPkt i s
      atStage i .leaving s = true ∧ p.ended = true ∧ macRuns p.port s = true ∧ p.stomp = true) ∧
    (
      let i : Nat := 3
      let port : Nat := 1023
      let s : State := run
      port < 1024) := by
  refine ⟨?_, ?_, ?_, ?_, ?_, ?_, ?_, ?_, ?_, ?_, ?_, ?_⟩ <;> decide +kernel

theorem wit_spill_and_buffer_commands :
    (
      let q : Nat := 20479
      let c : Cmd := cmd 0x30 [63, 1, 1] 16
      let s : State := setQ 20479 { blocks := [{ n := 2, w := 1 }] } run
      let b := { n := 2, w := 1 }
      q < 20480 ∧ (getQ q s).blocks.getLast? = some b ∧ b.w < b.n ∧ b.reading = false ∧ b.lost = false) ∧
    (
      let q : Nat := 20479
      let c : Cmd := cmd 0x30 [63, 1, 1] 16
      let s : State := run
      let v := passLost q (getQ q s).blocks.length s
      q < 20480 ∧ (getQ q v).blocks = []) ∧
    (
      let q : Nat := 20479
      let c : Cmd := cmd 0x30 [63, 1, 1] 16
      let s : State := run |> wr Reg.bufStage 0 4096 |> setQ 20479 { blocks := [{ w := 1, n := 1 }] } |> setQ 0
        { blocks := [{ w := 1, n := 1 }] }
      let v := passLost q (getQ q s).blocks.length s
      let b := { w := 1, n := 1 }
      let r := []
      q < 20480 ∧ (getQ q v).blocks = b :: r ∧ readTurn q v = false) ∧
    (
      let q : Nat := 20479
      let c : Cmd := cmd 0x30 [63, 1, 1] 16
      let s : State := run |> wr Reg.bufStage 0 4096 |> setQ 20479 { blocks := [{ w := 1, n := 1 }] }
      let v := passLost q (getQ q s).blocks.length s
      let w := if readReady q v then { v with buf := { v.buf with readLast := q } } else v
      let b := { w := 1, n := 1 }
      let r := []
      q < 20480 ∧ (getQ q v).blocks = b :: r ∧ readTurn q v = true ∧ mayRead q b w = true) ∧
    (
      let q : Nat := 20479
      let c : Cmd := cmd 0x30 [63, 1, 1] 16
      let s : State := run |> wr Reg.bufStage 0 4096 |> setQ 20479 { blocks := [{ w := 0, n := 1 }] }
      let v := passLost q (getQ q s).blocks.length s
      let w := if readReady q v then { v with buf := { v.buf with readLast := q } } else v
      let b := { w := 0, n := 1 }
      let r := []
      q < 20480 ∧ (getQ q v).blocks = b :: r ∧ readTurn q v = true ∧ mayRead q b w = false) ∧
    (
      let q : Nat := 20479
      let c : Cmd := cmd 0x30 [63, 1, 1] 16
      let s : State := setQ 20479 { blocks := [{ w := 1, n := 1, reading := true }] } run
      let ok := true
      let b := { w := 1, n := 1, reading := true }
      let r := []
      q < 20480 ∧ (getQ q s).blocks = b :: r ∧ b.reading = true ∧ b.n = b.w) ∧
    (
      let q : Nat := 20479
      let c : Cmd := cmd 0x30 [63, 1, 1] 16
      let s : State := setQ 20479 { blocks := [{ w := 1, n := 2, reading := true }] } run
      let ok := false
      let b := { w := 1, n := 2, reading := true }
      let r := []
      q < 20480 ∧ (getQ q s).blocks = b :: r ∧ b.reading = true ∧ b.n ≠ b.w) ∧
    (
      let bs : List Byte := []
      let c : Cmd := cmd 0x30 [63, 1, 1] 16
      let s : State := fly c run
      ready 0x30 c s = true ∧ 1 ≤ c.op 1 1 ∧ c.op 0 1 + c.op 1 1 ≤ 64 ∧ c.len = 16 * c.op 1 1 ∧ flagOk c 2 = true ∧ readFlag c 2 =
        true) ∧
    (
      let bs : List Byte := [2, 0, 11, 8]
      let c : Cmd := cmd 0x30 [63, 1, 0] 16
      let s : State := fly c run
      let recs := (List.range (c.op 1 1)).map fun k => leAt (fit c.len bs) (16 * k) 16
      ready 0x30 c s = true ∧ 1 ≤ c.op 1 1 ∧ c.op 0 1 + c.op 1 1 ≤ 64 ∧ c.len = 16 * c.op 1 1 ∧ flagOk c 2 = true ∧ readFlag c 2 =
        false ∧ recs.all profileOk = true ∧ (recs.zipIdx.any fun r => prSpill r.1 && (List.range 20480).any fun k => tget s.buf.map
        k == c.op 0 1 + r.2 && neverSpills k s) = false) ∧
    (
      let bs : List Byte := []
      let c : Cmd := cmd 0x31 [0xFF, 0x4F, 1, 0, 1] 1
      let s : State := fly c run
      ready 0x31 c s = true ∧ 1 ≤ c.op 2 2 ∧ c.op 0 2 + c.op 2 2 ≤ 20480 ∧ c.len = c.op 2 2 ∧ flagOk c 4 = true ∧ readFlag c 4 =
        true) ∧
    (
      let bs : List Byte := [63]
      let c : Cmd := cmd 0x31 [0xFF, 0x4F, 1, 0, 0] 1
      let s : State := fly c run
      let bytes := fit c.len bs
      ready 0x31 c s = true ∧ 1 ≤ c.op 2 2 ∧ c.op 0 2 + c.op 2 2 ≤ 20480 ∧ c.len = c.op 2 2 ∧ flagOk c 4 = true ∧ readFlag c 4 =
        false ∧ (bytes.all fun b => decide (b.toNat ≤ 63)) = true ∧ (bytes.zipIdx.any fun b => prSpill (tget s.buf.profiles
        b.1.toNat) && neverSpills (c.op 0 2 + b.2) s) = false) ∧
    (
      let c : Cmd := cmd 0x32 [0xFF, 3, 1, 0, 1] 16
      let s : State := fly c run
      ready 0x32 c s = true ∧ 1 ≤ c.op 2 2 ∧ c.op 0 2 + c.op 2 2 ≤ 1024 ∧ c.len = 16 * c.op 2 2 ∧ flagOk c 4 = true ∧ readFlag c 4
        = true) ∧
    (
      let c : Cmd := cmd 0x32 [0xFF, 3, 1, 0, 0] 16
      let s : State := fly c run
      ready 0x32 c s = true ∧ 1 ≤ c.op 2 2 ∧ c.op 0 2 + c.op 2 2 ≤ 1024 ∧ c.len = 16 * c.op 2 2 ∧ flagOk c 4 = true ∧ readFlag c 4
        = false) ∧
    (
      let c : Cmd := cmd 0x33 [0xFF, 0x4F, 1, 0] 32
      let s : State := fly c run
      ready 0x33 c s = true ∧ 1 ≤ c.op 2 2 ∧ c.op 2 2 ≤ 4096 ∧ c.op 0 2 + c.op 2 2 ≤ 20480 ∧ c.len = 32 * c.op 2 2) := by
  refine ⟨?_, ?_, ?_, ?_, ?_, ?_, ?_, ?_, ?_, ?_, ?_, ?_, ?_, ?_⟩ <;> decide +kernel

theorem wit_scheduler_rows :
    (
      let pn : Nat := 3
      let c : Cmd := cmd 0x38 [0xFF, 3, 1, 0, 0] 32
      let s : State := fly c run
      pn < 4) ∧
    (
      let c : Cmd := cmd 0x38 [0xFF, 3, 1, 0, 0] 32
      let s : State := wr Reg.schCtrl 0 1 run
      sampleOn s = true) ∧
    (
      let c : Cmd := cmd 0x38 [0xFF, 3, 1, 0, 1] 32
      let bs : List Byte := []
      let s : State := fly c run
      ready 0x38 c s = true ∧ 1 ≤ c.op 2 2 ∧ c.op 0 2 + c.op 2 2 ≤ 1024 ∧ c.len = 32 * c.op 2 2 ∧ flagOk c 4 = true ∧ readFlag c 4
        = true) ∧
    (
      let c : Cmd := cmd 0x38 [0xFF, 3, 1, 0, 0] 32
      let bs : List Byte := List.replicate 20 1
      let s : State := fly c run
      let recs := (List.range (c.op 2 2)).map fun k => leAt (fit c.len bs) (32 * k) 32
      ready 0x38 c s = true ∧ 1 ≤ c.op 2 2 ∧ c.op 0 2 + c.op 2 2 ≤ 1024 ∧ c.len = 32 * c.op 2 2 ∧ flagOk c 4 = true ∧ readFlag c 4
        = false ∧ recs.all schRecOk = true) ∧
    (
      let c : Cmd := cmd 0x39 [0xFF, 0x53, 0, 0, 1, 0, 0, 0, 1] 16
      let bs : List Byte := []
      let s : State := fly c run
      ready 0x39 c s = true ∧ 1 ≤ c.op 4 4 ∧ c.op 4 4 ≤ 4096 ∧ c.op 0 4 + c.op 4 4 ≤ 21504 ∧ c.len = 16 * c.op 4 4 ∧ flagOk c 8 =
        true ∧ readFlag c 8 = true) ∧
    (
      let c : Cmd := cmd 0x39 [0xFF, 0x53, 0, 0, 1, 0, 0, 0, 0] 16
      let bs : List Byte := le 4 1600000000 ++ le 4 64 ++ [0xC0]
      let s : State := fly c run
      let recs := (List.range (c.op 4 4)).map fun k => leAt (fit c.len bs) (16 * k) 16
      ready 0x39 c s = true ∧ 1 ≤ c.op 4 4 ∧ c.op 4 4 ≤ 4096 ∧ c.op 0 4 + c.op 4 4 ≤ 21504 ∧ c.len = 16 * c.op 4 4 ∧ flagOk c 8 =
        true ∧ readFlag c 8 = false ∧ recs.all shaperOk = true) ∧
    (
      let c : Cmd := cmd 0x3A [0xFF, 0xFF, 0, 0, 1, 0, 0, 0, 1] 32
      let bs : List Byte := []
      let s : State := fly c run
      ready 0x3A c s = true ∧ 1 ≤ c.op 4 4 ∧ c.op 4 4 ≤ 4096 ∧ c.op 0 4 + c.op 4 4 ≤ 65536 ∧ c.len = 32 * c.op 4 4 ∧ flagOk c 8 =
        true ∧ readFlag c 8 = true) ∧
    (
      let c : Cmd := cmd 0x3A [0xFF, 0xFF, 0, 0, 1, 0, 0, 0, 0] 32
      let bs : List Byte := [1, 0, 2, 63] ++ le 4 1600000000 ++ le 4 1600000000 ++ le 4 1 ++ le 4 16777216
      let s : State := fly c run
      let recs := (List.range (c.op 4 4)).map fun k => leAt (fit c.len bs) (32 * k) 32
      ready 0x3A c s = true ∧ 1 ≤ c.op 4 4 ∧ c.op 4 4 ≤ 4096 ∧ c.op 0 4 + c.op 4 4 ≤ 65536 ∧ c.len = 32 * c.op 4 4 ∧ flagOk c 8 =
        true ∧ readFlag c 8 = false ∧ recs.all meterOk = true) ∧
    (
      let c : Cmd := cmd 0x3B [0xFF, 0x4F, 1, 0] 48
      let s : State := fly c run
      ready 0x3B c s = true ∧ 1 ≤ c.op 2 2 ∧ c.op 2 2 ≤ 4096 ∧ c.op 0 2 + c.op 2 2 ≤ 20480 ∧ c.len = 48 * c.op 2 2) := by
  refine ⟨?_, ?_, ?_, ?_, ?_, ?_, ?_, ?_, ?_⟩ <;> decide +kernel

theorem wit_exact_match_commands :
    (
      let c : Cmd := cmd 0x10 (List.replicate 22 0 ++ [63, 1])
      let s : State := fly c typed
      let u := started c s
      let e := emOfBytes (slice c.ops 0 32)
      let v := emMeet e.key e.typ u
      ready 0x10 c s = true ∧ e.typ ≤ 63 ∧ bitAt (byteAt (slice c.ops 0 32) 23) 0 = true ∧ byteAt (slice c.ops 0 32) 23 ≤ 15 ∧
        c.len = 0 ∧ typeDefined e.typ s = true ∧ allZero (e.key.drop (keyBytes e.typ s)) = true ∧ c.op 32 1 ≤ 1 ∧ emFind e.key
        e.typ v = none ∧ (emPlace e v).isSome = true) ∧
    (
      let c : Cmd := cmd 0x10 (List.replicate 22 0 ++ [63, 1])
      let s : State := fly c (typed |> fence 5 143 |> fence 5 61)
      let u := started c s
      let e := emOfBytes (slice c.ops 0 32)
      let v := emMeet e.key e.typ u
      ready 0x10 c s = true ∧ e.typ ≤ 63 ∧ bitAt (byteAt (slice c.ops 0 32) 23) 0 = true ∧ byteAt (slice c.ops 0 32) 23 ≤ 15 ∧
        c.len = 0 ∧ typeDefined e.typ s = true ∧ allZero (e.key.drop (keyBytes e.typ s)) = true ∧ c.op 32 1 ≤ 1 ∧ emFind e.key
        e.typ v = none ∧ emPlace e v = none) ∧
    (
      let c : Cmd := cmd 0x10 (List.replicate 22 0 ++ [63, 1])
      let s : State := fly c held
      let u := started c s
      let e := emOfBytes (slice c.ops 0 32)
      let v := emMeet e.key e.typ u
      let i := slot0
      ready 0x10 c s = true ∧ e.typ ≤ 63 ∧ bitAt (byteAt (slice c.ops 0 32) 23) 0 = true ∧ byteAt (slice c.ops 0 32) 23 ≤ 15 ∧
        c.len = 0 ∧ typeDefined e.typ s = true ∧ allZero (e.key.drop (keyBytes e.typ s)) = true ∧ c.op 32 1 ≤ 1 ∧ emFind e.key
        e.typ v = some i ∧ c.op 32 1 = 0) ∧
    (
      let c : Cmd := cmd 0x10 (List.replicate 22 0 ++ [63, 15, 0, 0, 0, 0, 0, 0, 0, 0, 1])
      let s : State := fly c held
      let u := started c s
      let e := emOfBytes (slice c.ops 0 32)
      let v := emMeet e.key e.typ u
      let i := slot0
      ready 0x10 c s = true ∧ e.typ ≤ 63 ∧ bitAt (byteAt (slice c.ops 0 32) 23) 0 = true ∧ byteAt (slice c.ops 0 32) 23 ≤ 15 ∧
        c.len = 0 ∧ typeDefined e.typ s = true ∧ allZero (e.key.drop (keyBytes e.typ s)) = true ∧ c.op 32 1 ≤ 1 ∧ emFind e.key
        e.typ v = some i ∧ c.op 32 1 = 1) ∧
    (
      let c : Cmd := cmd 0x11 (List.replicate 22 0 ++ [63])
      let s : State := fly c held
      let u := started c s
      let key := slice c.ops 0 22
      let typ := c.op 22 1
      let w := emMeet key typ u
      let i := slot0
      ready 0x11 c s = true ∧ typ ≤ 63 ∧ c.op 23 1 ≤ 1 ∧ c.len = 0 ∧ typeDefined typ s = true ∧ emFind key typ w = some i ∧ (c.op
        23 1 = 0 ∨ (getEm i w).pendingAge = true)) ∧
    (
      let c : Cmd := cmd 0x11 (List.replicate 22 0 ++ [63, 1])
      let s : State := fly c held
      let u := started c s
      let key := slice c.ops 0 22
      let typ := c.op 22 1
      let w := emMeet key typ u
      let i := slot0
      ready 0x11 c s = true ∧ typ ≤ 63 ∧ c.op 23 1 ≤ 1 ∧ c.len = 0 ∧ typeDefined typ s = true ∧ emFind key typ w = some i ∧ c.op 23
        1 = 1 ∧ (getEm i w).pendingAge = false) ∧
    (
      let c : Cmd := cmd 0x11 (List.replicate 22 0 ++ [63])
      let s : State := fly c typed
      let u := started c s
      let key := slice c.ops 0 22
      let typ := c.op 22 1
      let w := emMeet key typ u
      ready 0x11 c s = true ∧ typ ≤ 63 ∧ c.op 23 1 ≤ 1 ∧ c.len = 0 ∧ typeDefined typ s = true ∧ emFind key typ w = none) ∧
    (
      let c : Cmd := cmd 0x12 (List.replicate 22 0 ++ [63])
      let s : State := fly c held
      let u := started c s
      let key := slice c.ops 0 22
      let typ := c.op 22 1
      let w := emMeet key typ u
      let i := slot0
      ready 0x12 c s = true ∧ typ ≤ 63 ∧ c.len = 0 ∧ typeDefined typ s = true ∧ emFind key typ w = some i) ∧
    (
      let c : Cmd := cmd 0x12 (List.replicate 22 0 ++ [63])
      let s : State := fly c typed
      let u := started c s
      let key := slice c.ops 0 22
      let typ := c.op 22 1
      let w := emMeet key typ u
      ready 0x12 c s = true ∧ typ ≤ 63 ∧ c.len = 0 ∧ typeDefined typ s = true ∧ emFind key typ w = none) ∧
    (
      let c : Cmd := cmd 0x13 [255, 0, 1, 0] 524288
      let s : State := fly c typed
      let b := c.op 0 2
      let n := c.op 2 2
      ready 0x13 c s = true ∧ b ≤ 255 ∧ 1 ≤ n ∧ b + n ≤ 256 ∧ c.len = 524288 * n ∧ (∀ k, k < n → fencedU 5 (b + k) s = false)) := by
  refine ⟨?_, ?_, ?_, ?_, ?_, ?_, ?_, ?_, ?_, ?_⟩ <;> decide +kernel

theorem wit_prefix_and_tcam_commands :
    (
      let c : Cmd := cmd 0x18 ([0xFF, 15, 6, 128] ++ List.replicate 16 255 ++ [7])
      let s : State := fly c run
      let key := prefixKey c.ops
      let old := if tget s.tbl.lpm key = {} then 0 else lpmUnits key
      ready 0x18 c s = true ∧ prefixOk c.ops true = true ∧ lpmDestOk (c.op 20 1) (c.op 24 4) = true ∧ c.op 21 3 = 0 ∧ c.len = 0 ∧
        lpmUsed s - old + lpmUnits key ≤ 2097152) ∧
    (
      let c : Cmd := cmd 0x19 [0xFF, 15, 4, 0]
      let s : State := fly c { run with tbl := { run.tbl with lpm := [(lpmKey 4095 false 0 0, { dk := 2 })] } }
      let key := prefixKey c.ops
      ready 0x19 c s = true ∧ prefixOk c.ops true = true ∧ c.len = 0 ∧ tget s.tbl.lpm key ≠ {}) ∧
    (
      let c : Cmd := cmd 0x19 [0xFF, 15, 4, 0]
      let s : State := fly c run
      let key := prefixKey c.ops
      ready 0x19 c s = true ∧ prefixOk c.ops true = true ∧ c.len = 0 ∧ tget s.tbl.lpm key = {}) ∧
    (
      let c : Cmd := cmd 0x1A [0xFF, 15, 4]
      let s : State := fly c { run with tbl := { run.tbl with lpm := [(lpmKey 4095 false 0 0, { dk := 2 })] } }
      let six := byteAt c.ops 2 == 6
      let len := 0
      let x := { dk := 2 }
      let k := lpmKey (c.op 0 2) six len (maskAddr six len (prefixAddr c.ops))
      ready 0x1A c s = true ∧ prefixOk c.ops false = true ∧ c.len = 0 ∧ lpmLookup (c.op 0 2) six (prefixAddr c.ops) s = some (len,
        x) ∧ upsetOf memLpm k s ≠ 2) ∧
    (
      let c : Cmd := cmd 0x1A [0xFF, 15, 4]
      let s : State := fly c (struck memLpm (lpmKey 4095 false 0 0)
        { run with tbl := { run.tbl with lpm := [(lpmKey 4095 false 0 0, { dk := 2 })] } })
      let six := byteAt c.ops 2 == 6
      let len := 0
      let x := { dk := 2 }
      let k := lpmKey (c.op 0 2) six len (maskAddr six len (prefixAddr c.ops))
      ready 0x1A c s = true ∧ prefixOk c.ops false = true ∧ c.len = 0 ∧ lpmLookup (c.op 0 2) six (prefixAddr c.ops) s = some (len,
        x) ∧ upsetOf memLpm k s = 2) ∧
    (
      let c : Cmd := cmd 0x1A [0xFF, 15, 4]
      let s : State := fly c run
      let six := byteAt c.ops 2 == 6
      ready 0x1A c s = true ∧ prefixOk c.ops false = true ∧ c.len = 0 ∧ lpmLookup (c.op 0 2) six (prefixAddr c.ops) s = none) ∧
    (
      let c : Cmd := cmd 0x1C [0xFF, 0x7F, 1, 0, 1, 0] 64
      let bs : List Byte := []
      let s : State := fly c run
      let i := c.op 0 4
      let w := tcamOperand c s
      let recs := chunks 64 ((fit c.len bs).length / 64) (fit c.len bs)
      ready 0x1C c s = true ∧ w ≠ 0 ∧ tcamOut i w s = false ∧ recs.all tcamRecOk = true) ∧
    (
      let c : Cmd := cmd 0x1D [0xFF, 0x7F, 1, 0, 1, 0] 64
      let s : State := fly c run
      let i := c.op 0 4
      let w := tcamOperand c s
      ready 0x1D c s = true ∧ w ≠ 0 ∧ tcamOut i w s = false) := by
  refine ⟨?_, ?_, ?_, ?_, ?_, ?_, ?_, ?_⟩ <;> decide +kernel

theorem wit_longest_prefix :
    (
      let vrf : Nat := 4095
      let addr : Nat := 2 ^ 128 - 1
      let six : Bool := true
      let s : State := { run with tbl := { run.tbl with lpm := [(lpmKey 4095 true 127 (2 ^ 128 - 2), { dk := 7 })] } }
      let bits := if six then 128 else 32
      let stored := fun (l : Nat) => tget s.tbl.lpm (lpmKey vrf six l (if l = 0 then 0 else maskAddr six l addr))
      let len := 127
      let r := { dk := 7 }
      lpmLookup vrf six addr s = some (len, r) ∧ 127 < bits ∧ stored 127 = r) ∧
    (
      let vrf : Nat := 4095
      let addr : Nat := 2 ^ 128 - 1
      let six : Bool := true
      let s : State := run
      let bits := if six then 128 else 32
      let l := 128
      lpmLookup vrf six addr s = none ∧ l ≤ bits) := by
  refine ⟨?_, ?_⟩ <;> decide +kernel

theorem wit_forwarding_records :
    (
      let c : Cmd := cmd 0x20 [0xFF, 0x3F, 0, 0, 0, 0, 0, 0, 0, 0, 0, 0, 0, 0, 0, 0, 1]
      let bs : List Byte := []
      let s : State := fly c run
      ready 0x20 c s = true ∧ c.op 0 2 ≤ 16383 ∧ groupOk (c.op 8 16) = true ∧ c.len = 0) ∧
    (
      let c : Cmd := cmd 0x21 ([0xFF, 0xFF, 15, 0] ++ [1]) 4
      let bs : List Byte := []
      let s : State := fly c run
      let recs := fun (size m : Nat) => (chunks size m (fit c.len bs)).map leNat
      let m := c.op 4 4
      ready 0x21 c s = true ∧ 1 ≤ m ∧ m ≤ 4096 ∧ c.op 0 4 + m ≤ 1048576 ∧ c.len = 4 * m ∧ (recs 4 m).all memberOk = true) ∧
    (
      let c : Cmd := cmd 0x22 ([0xFF, 0xFF, 3, 0] ++ [1]) 16
      let bs : List Byte := []
      let s : State := fly c run
      let recs := fun (size m : Nat) => (chunks size m (fit c.len bs)).map leNat
      let m := c.op 4 4
      ready 0x22 c s = true ∧ 1 ≤ m ∧ m ≤ 4096 ∧ c.op 0 4 + m ≤ 262144 ∧ c.len = 16 * m ∧ (recs 16 m).all hopOk = true) ∧
    (
      let c : Cmd := cmd 0x23 [5, 0, 0, 0, 0xFF, 0xFF, 3, 0, 1] 16
      let bs : List Byte := []
      let s : State := fly c run
      let k := c.op 0 1
      let first := c.op 4 4
      let n := c.op 8 4
      ready 0x23 c s = true ∧ 3 ≤ k ∧ k ≤ 5 ∧ 1 ≤ n ∧ n ≤ 4096 ∧ first + n ≤ shadowMax k ∧ c.len = shadowSize k * n) ∧
    (
      let c : Cmd := cmd 0x24 [5, 0, 0, 0, 7, 0, 0, 0, 1]
      let bs : List Byte := []
      let s : State := fly c (wr Reg.tblShadowLen 5 8 run)
      let k := c.op 0 1
      let first := c.op 4 4
      let n := c.op 8 4
      ready 0x24 c s = true ∧ k ≤ 5 ∧ 1 ≤ n ∧ first + n ≤ (areaOf k s).2 ∧ c.len = 0) ∧
    (
      let c : Cmd := cmd 0x25 [] 1024
      let bs : List Byte := []
      let s : State := fly c run
      ready 0x25 c s = true ∧ c.len = 1024) ∧
    (
      let c : Cmd := cmd 0x26 [0, 0, 0xFF, 3]
      let bs : List Byte := []
      let s : State := fly c run
      let k := c.op 0 1
      ready 0x26 c s = true ∧ k = 0 ∧ c.op 2 2 ≤ 1023 ∧ portRecOk (c.op 8 8) = true ∧ c.len = 0) ∧
    (
      let c : Cmd := cmd 0x26 [1, 0, 15, 0] 72
      let bs : List Byte := List.replicate 72 31
      let s : State := fly c run
      let k := c.op 0 1
      ready 0x26 c s = true ∧ k = 1 ∧ c.op 2 2 ≤ 15 ∧ c.len = 72 ∧ ((fit c.len bs).all fun b => decide (b.toNat < 32)) = true) ∧
    (
      let c : Cmd := cmd 0x27 [255, 3, 0xFF, 15]
      let bs : List Byte := []
      let s : State := fly c run
      ready 0x27 c s = true ∧ c.op 1 1 ≤ 3 ∧ c.op 2 2 ≤ 4095 ∧ c.len = 0) ∧
    (
      let c : Cmd := cmd 0xAC [0xFF, 0x7F, 0, 0, 1, 0, 1] 128
      let bs : List Byte := []
      let s : State := fly c run
      let m := c.op 4 2
      ready 0xAC c s = true ∧ 1 ≤ m ∧ m ≤ 256 ∧ c.op 0 4 + m ≤ 32768 ∧ flagOk c 6 = true ∧ c.len = 128 * m ∧ readFlag c 6 = true) ∧
    (
      let c : Cmd := cmd 0xAC [0xFF, 0x7F, 0, 0, 1, 0, 0] 128
      let bs : List Byte := []
      let s : State := fly c run
      let m := c.op 4 2
      ready 0xAC c s = true ∧ 1 ≤ m ∧ m ≤ 256 ∧ c.op 0 4 + m ≤ 32768 ∧ flagOk c 6 = true ∧ c.len = 128 * m ∧ readFlag c 6 = false) ∧
    (
      let c : Cmd := cmd 0xAD [0, 1, 0, 0, 0xFF, 0xFF, 0, 0, 1] 8
      let bs : List Byte := []
      let s : State := fly c run
      let k := c.op 0 1
      let first := c.op 4 4
      let n := c.op 8 4
      ready 0xAD c s = true ∧ flagOk c 1 = true ∧ 1 ≤ n ∧ n ≤ 4096 ∧ c.len = 8 * n ∧ k = 0 ∧ first + n ≤ 65536 ∧ readFlag c 1 =
        true) ∧
    (
      let c : Cmd := cmd 0xAD [0, 0, 0, 0, 0xFF, 0xFF, 0, 0, 1] 8
      let bs : List Byte := []
      let s : State := fly c run
      let k := c.op 0 1
      let first := c.op 4 4
      let n := c.op 8 4
      let recs := fun (size m : Nat) => (chunks size m (fit c.len bs)).map leNat
      ready 0xAD c s = true ∧ flagOk c 1 = true ∧ 1 ≤ n ∧ n ≤ 4096 ∧ c.len = 8 * n ∧ k = 0 ∧ first + n ≤ 65536 ∧ readFlag c 1 =
        false ∧ (recs 8 n).all mcGroupOk = true) ∧
    (
      let c : Cmd := cmd 0xAD [1, 1, 0, 0, 0xFF, 0xFF, 7, 0, 1] 8
      let bs : List Byte := []
      let s : State := fly c run
      let k := c.op 0 1
      let first := c.op 4 4
      let n := c.op 8 4
      ready 0xAD c s = true ∧ flagOk c 1 = true ∧ 1 ≤ n ∧ n ≤ 4096 ∧ c.len = 8 * n ∧ k = 1 ∧ first + n ≤ 524288 ∧ readFlag c 1 =
        true) ∧
    (
      let c : Cmd := cmd 0xAD [1, 0, 0, 0, 0xFF, 0xFF, 7, 0, 1] 8
      let bs : List Byte := []
      let s : State := fly c run
      let k := c.op 0 1
      let first := c.op 4 4
      let n := c.op 8 4
      let recs := fun (size m : Nat) => (chunks size m (fit c.len bs)).map leNat
      ready 0xAD c s = true ∧ flagOk c 1 = true ∧ 1 ≤ n ∧ n ≤ 4096 ∧ c.len = 8 * n ∧ k = 1 ∧ first + n ≤ 524288 ∧ readFlag c 1 =
        false ∧ (recs 8 n).all mcEntryOk = true) ∧
    (
      let c : Cmd := cmd 0xAE [255, 1]
      let bs : List Byte := []
      let s : State := fly c run
      let k := c.op 0 1
      ready 0xAE c s = true ∧ k ≠ 0 ∧ flagOk c 1 = true ∧ c.len = 0 ∧ readFlag c 1 = true ∧ upsetOf memMirror k s ≠ 2) ∧
    (
      let c : Cmd := cmd 0xAE [255, 0]
      let bs : List Byte := []
      let s : State := fly c run
      let k := c.op 0 1
      ready 0xAE c s = true ∧ k ≠ 0 ∧ flagOk c 1 = true ∧ c.len = 0 ∧ readFlag c 1 = false ∧ mirrorOk (c.op 8 16) = true) ∧
    (
      let c : Cmd := cmd 0xAF [0, 1, 0, 0, 0xFF, 3, 0, 0, 1] 32
      let bs : List Byte := []
      let s : State := fly c run
      let k := c.op 0 1
      let first := c.op 4 4
      let n := c.op 8 4
      ready 0xAF c s = true ∧ flagOk c 1 = true ∧ 1 ≤ n ∧ k = 0 ∧ first + n ≤ 1024 ∧ c.len = 32 * n ∧ readFlag c 1 = true) ∧
    (
      let c : Cmd := cmd 0xAF [0, 0, 0, 0, 0xFF, 3, 0, 0, 1] 32
      let bs : List Byte := []
      let s : State := fly c run
      let k := c.op 0 1
      let first := c.op 4 4
      let n := c.op 8 4
      let recs := fun (size m : Nat) => (chunks size m (fit c.len bs)).map leNat
      ready 0xAF c s = true ∧ flagOk c 1 = true ∧ 1 ≤ n ∧ k = 0 ∧ first + n ≤ 1024 ∧ c.len = 32 * n ∧ readFlag c 1 = false ∧ (recs
        32 n).all egressOk = true) ∧
    (
      let c : Cmd := cmd 0xAF [1, 1, 0, 0, 15, 0, 0, 0, 1] 16
      let bs : List Byte := []
      let s : State := fly c run
      let k := c.op 0 1
      let first := c.op 4 4
      let n := c.op 8 4
      ready 0xAF c s = true ∧ flagOk c 1 = true ∧ 1 ≤ n ∧ k = 1 ∧ first ≠ 0 ∧ first + n ≤ 16 ∧ c.len = 16 * n ∧ readFlag c 1 = true) ∧
    (
      let c : Cmd := cmd 0xAF [1, 0, 0, 0, 15, 0, 0, 0, 1] 16
      let bs : List Byte := []
      let s : State := fly c run
      let k := c.op 0 1
      let first := c.op 4 4
      let n := c.op 8 4
      let recs := fun (size m : Nat) => (chunks size m (fit c.len bs)).map leNat
      ready 0xAF c s = true ∧ flagOk c 1 = true ∧ 1 ≤ n ∧ k = 1 ∧ first ≠ 0 ∧ first + n ≤ 16 ∧ c.len = 16 * n ∧ readFlag c 1 =
        false ∧ (recs 16 n).all ecnOk = true) ∧
    (
      let c : Cmd := cmd 0xAF [2, 1, 0, 0, 0xFF, 7, 0, 0, 1] 64
      let bs : List Byte := []
      let s : State := fly c run
      let k := c.op 0 1
      let first := c.op 4 4
      let n := c.op 8 4
      ready 0xAF c s = true ∧ flagOk c 1 = true ∧ 1 ≤ n ∧ k = 2 ∧ first + n ≤ 2048 ∧ c.len = 64 * n ∧ readFlag c 1 = true) ∧
    (
      let c : Cmd := cmd 0xAF [2, 0, 0, 0, 0xFF, 7, 0, 0, 1] 64
      let bs : List Byte := []
      let s : State := fly c run
      let k := c.op 0 1
      let first := c.op 4 4
      let n := c.op 8 4
      let recs := fun (size m : Nat) => (chunks size m (fit c.len bs)).map leNat
      ready 0xAF c s = true ∧ flagOk c 1 = true ∧ 1 ≤ n ∧ k = 2 ∧ first + n ≤ 2048 ∧ c.len = 64 * n ∧ readFlag c 1 = false ∧ (recs
        64 n).all eaclOk = true) ∧
    (
      let s : State := run
      let port : Nat := 1023
      port < 1024 ∧ linkUp port s = false) ∧
    (
      let st := 0x21
      let s : State := setPort 1023 { st := .up } run
      let port : Nat := 1023
      port < 1024 ∧ linkUp port s = true) := by
  refine ⟨?_, ?_, ?_, ?_, ?_, ?_, ?_, ?_, ?_, ?_, ?_, ?_, ?_, ?_, ?_, ?_, ?_, ?_, ?_, ?_, ?_, ?_, ?_, ?_, ?_⟩ <;> decide +kernel

theorem wit_collective_messages :
    (
      let k : Nat := 3
      let p : CPkt := msg 1 2
      let rest : List CPkt := []
      let s : State := mesh (job 0 .running []) [p]
      let typ := byteAt p.hdr 0 % 16
      let n := 2
      k < 4 ∧ (getCluster k s).q = p :: rest ∧ recvCheck p s = some n ∧ typ = 1) ∧
    (
      let k : Nat := 3
      let p : CPkt := msg 2 2
      let rest : List CPkt := []
      let s : State := mesh {} [msg 2 2]
      let typ := byteAt p.hdr 0 % 16
      let n := 1
      k < 4 ∧ (getCluster k s).q = p :: rest ∧ recvCheck p s = some n ∧ typ = 2) ∧
    (
      let k : Nat := 3
      let p : CPkt := msg 3 2
      let rest : List CPkt := []
      let s : State := mesh {} [msg 3 2]
      let typ := byteAt p.hdr 0 % 16
      let n := 1
      k < 4 ∧ (getCluster k s).q = p :: rest ∧ recvCheck p s = some n ∧ typ = 3) ∧
    (
      let k : Nat := 3
      let p : CPkt := msg 4 2
      let rest : List CPkt := []
      let s : State := mesh {} [msg 4 2]
      let typ := byteAt p.hdr 0 % 16
      let n := 1
      k < 4 ∧ (getCluster k s).q = p :: rest ∧ recvCheck p s = some n ∧ typ = 4) ∧
    (
      let k : Nat := 3
      let p : CPkt := msg 5 2
      let rest : List CPkt := []
      let s : State := mesh {} [msg 5 2]
      let typ := byteAt p.hdr 0 % 16
      let n := 1
      k < 4 ∧ (getCluster k s).q = p :: rest ∧ recvCheck p s = some n ∧ typ = 5) ∧
    (
      let k : Nat := 3
      let p : CPkt := msg 6 2
      let rest : List CPkt := []
      let s : State := mesh {} [msg 6 2]
      let typ := byteAt p.hdr 0 % 16
      let n := 1
      k < 4 ∧ (getCluster k s).q = p :: rest ∧ recvCheck p s = some n ∧ typ = 6) ∧
    (
      let k : Nat := 3
      let p : CPkt := msg 7 2
      let rest : List CPkt := []
      let s : State := mesh {} [msg 7 2]
      let typ := byteAt p.hdr 0 % 16
      let n := 1
      k < 4 ∧ (getCluster k s).q = p :: rest ∧ recvCheck p s = some n ∧ typ = 7) ∧
    (
      let k : Nat := 3
      let p : CPkt := msg 8 2
      let rest : List CPkt := []
      let s : State := mesh {} [msg 8 2]
      let typ := byteAt p.hdr 0 % 16
      let n := 1
      k < 4 ∧ (getCluster k s).q = p :: rest ∧ recvCheck p s = some n ∧ typ = 8) ∧
    (
      let k : Nat := 3
      let p : CPkt := msg 9 2
      let rest : List CPkt := []
      let s : State := mesh {} [msg 9 2]
      let typ := byteAt p.hdr 0 % 16
      let n := 1
      k < 4 ∧ (getCluster k s).q = p :: rest ∧ recvCheck p s = some n ∧ typ = 9) ∧
    (
      let k : Nat := 3
      let p : CPkt := msg 9 0
      let rest : List CPkt := []
      let s : State := mesh (job 0 .running []) [p]
      let typ := byteAt p.hdr 0 % 16
      k < 4 ∧ (getCluster k s).q = p :: rest ∧ typ ≠ 1) ∧
    (
      let k : Nat := 3
      let p : CPkt := msg 1 1
      let rest : List CPkt := []
      let s : State := mesh (job 0 .running []) [p]
      let typ := byteAt p.hdr 0 % 16
      k < 4 ∧ (getCluster k s).q = p :: rest ∧ typ ≠ 2) ∧
    (
      let k : Nat := 3
      let p : CPkt := msg 1 1
      let rest : List CPkt := []
      let s : State := mesh (job 0 .running []) [p]
      let typ := byteAt p.hdr 0 % 16
      k < 4 ∧ (getCluster k s).q = p :: rest ∧ typ ≠ 3) ∧
    (
      let k : Nat := 3
      let p : CPkt := msg 1 1
      let rest : List CPkt := []
      let s : State := mesh (job 0 .running []) [p]
      let typ := byteAt p.hdr 0 % 16
      k < 4 ∧ (getCluster k s).q = p :: rest ∧ typ ≠ 4) ∧
    (
      let k : Nat := 3
      let p : CPkt := msg 1 1
      let rest : List CPkt := []
      let s : State := mesh (job 0 .running []) [p]
      let typ := byteAt p.hdr 0 % 16
      k < 4 ∧ (getCluster k s).q = p :: rest ∧ typ ≠ 5) ∧
    (
      let k : Nat := 3
      let p : CPkt := msg 1 1
      let rest : List CPkt := []
      let s : State := mesh (job 0 .running []) [p]
      let typ := byteAt p.hdr 0 % 16
      k < 4 ∧ (getCluster k s).q = p :: rest ∧ typ ≠ 6) ∧
    (
      let k : Nat := 3
      let p : CPkt := msg 1 1
      let rest : List CPkt := []
      let s : State := mesh (job 0 .running []) [p]
      let typ := byteAt p.hdr 0 % 16
      k < 4 ∧ (getCluster k s).q = p :: rest ∧ typ ≠ 7) ∧
    (
      let k : Nat := 3
      let p : CPkt := msg 1 1
      let rest : List CPkt := []
      let s : State := mesh (job 0 .running []) [p]
      let typ := byteAt p.hdr 0 % 16
      k < 4 ∧ (getCluster k s).q = p :: rest ∧ typ ≠ 8) ∧
    (
      let k : Nat := 3
      let p : CPkt := msg 1 1
      let rest : List CPkt := []
      let s : State := mesh (job 0 .running []) [p]
      let typ := byteAt p.hdr 0 % 16
      k < 4 ∧ (getCluster k s).q = p :: rest ∧ typ ≠ 9) ∧
    (
      let k : Nat := 3
      let p : CPkt := msg 1 1
      let rest : List CPkt := []
      let s : State := setCluster 3 { q := [p], changing := some 0 } (mesh (job 0 .running []) [])
      let typ := byteAt p.hdr 0 % 16
      k < 4 ∧ (getCluster k s).q = p :: rest ∧ recvCheck p s = none ∧ typ = 1 ∧ contribReady k p s = false) ∧
    (
      let k : Nat := 3
      let p : CPkt := msg 1 1
      let rest : List CPkt := []
      let s : State := mesh (job 0 .running []) [p]
      let typ := byteAt p.hdr 0 % 16
      let u := setCluster k { getCluster k s with q := rest } s
      let m := if typ = 1 ∨ typ = 3 ∨ typ = 4 then meetStaging p.job p.chunk u else u
      let f := flagChild p m
      let y := getJob p.job f
      k < 4 ∧ (getCluster k s).q = p :: rest ∧ recvCheck p s = none ∧ typ = 1 ∧ contribReady k p s = true ∧ y.st ≠ .moving) ∧
    (
      let k : Nat := 3
      let p : CPkt := msg 1 1
      let rest : List CPkt := []
      let s : State := mesh (job 0 .moving []) [p]
      let typ := byteAt p.hdr 0 % 16
      let u := setCluster k { getCluster k s with q := rest } s
      let m := if typ = 1 ∨ typ = 3 ∨ typ = 4 then meetStaging p.job p.chunk u else u
      let f := flagChild p m
      let y := getJob p.job f
      k < 4 ∧ (getCluster k s).q = p :: rest ∧ recvCheck p s = none ∧ typ = 1 ∧ contribReady k p s = true ∧ y.st = .moving ∧
        logRoom y.log p f = none) ∧
    (
      let k : Nat := 3
      let p : CPkt := msg 2 0
      let rest : List CPkt := []
      let s : State := mesh (job 1 .running [(0, { st := .recover })]) [p]
      let typ := byteAt p.hdr 0 % 16
      let u := setCluster k { getCluster k s with q := rest } s
      let m := if typ = 1 ∨ typ = 3 ∨ typ = 4 then meetStaging p.job p.chunk u else u
      let a := getSlot p.job p.chunk m
      k < 4 ∧ (getCluster k s).q = p :: rest ∧ recvCheck p s = none ∧ typ = 2 ∧ (a.st = .emitted ∨ a.st = .recover)) ∧
    (
      let k : Nat := 3
      let p : CPkt := msg 2 0
      let rest : List CPkt := []
      let s : State := mesh (job 1 .running [(0, { st := .retained })]) [p]
      let typ := byteAt p.hdr 0 % 16
      let u := setCluster k { getCluster k s with q := rest } s
      let m := if typ = 1 ∨ typ = 3 ∨ typ = 4 then meetStaging p.job p.chunk u else u
      let a := getSlot p.job p.chunk m
      k < 4 ∧ (getCluster k s).q = p :: rest ∧ recvCheck p s = none ∧ typ = 2 ∧ a.st ≠ .emitted ∧ a.st ≠ .recover) ∧
    (
      let k : Nat := 3
      let p : CPkt := msg 3 0
      let rest : List CPkt := []
      let s : State := mesh (job 1 .running [(0, { st := .emitted })]) [p]
      let typ := byteAt p.hdr 0 % 16
      let u := setCluster k { getCluster k s with q := rest } s
      let m := if typ = 1 ∨ typ = 3 ∨ typ = 4 then meetStaging p.job p.chunk u else u
      let a := getSlot p.job p.chunk m
      k < 4 ∧ (getCluster k s).q = p :: rest ∧ recvCheck p s = none ∧ typ = 3 ∧ (a.st = .emitted ∨ a.st = .retained)) ∧
    (
      let k : Nat := 3
      let p : CPkt := msg 3 0
      let rest : List CPkt := []
      let s : State := mesh (job 1 .running []) [p]
      let typ := byteAt p.hdr 0 % 16
      let u := setCluster k { getCluster k s with q := rest } s
      let m := if typ = 1 ∨ typ = 3 ∨ typ = 4 then meetStaging p.job p.chunk u else u
      let a := getSlot p.job p.chunk m
      k < 4 ∧ (getCluster k s).q = p :: rest ∧ recvCheck p s = none ∧ typ = 3 ∧ a.st = .free) ∧
    (
      let k : Nat := 3
      let p : CPkt := msg 3 0
      let rest : List CPkt := []
      let s : State := mesh (job 1 .running [(0, { st := .opened })]) [p]
      let typ := byteAt p.hdr 0 % 16
      let u := setCluster k { getCluster k s with q := rest } s
      let m := if typ = 1 ∨ typ = 3 ∨ typ = 4 then meetStaging p.job p.chunk u else u
      let a := getSlot p.job p.chunk m
      k < 4 ∧ (getCluster k s).q = p :: rest ∧ recvCheck p s = none ∧ typ = 3 ∧ a.st ≠ .emitted ∧ a.st ≠ .retained ∧ a.st ≠ .free) ∧
    (
      let k : Nat := 3
      let p : CPkt := msg 4 1
      let rest : List CPkt := []
      let s : State := mesh (job 1 .running [(0, { st := .retained })]) [p]
      let typ := byteAt p.hdr 0 % 16
      let u := setCluster k { getCluster k s with q := rest } s
      let m := if typ = 1 ∨ typ = 3 ∨ typ = 4 then meetStaging p.job p.chunk u else u
      let f := flagChild p m
      let b := getSlot p.job p.chunk f
      k < 4 ∧ (getCluster k s).q = p :: rest ∧ recvCheck p s = none ∧ typ = 4 ∧ b.st = .retained) ∧
    (
      let k : Nat := 3
      let p : CPkt := msg 4 1
      let rest : List CPkt := []
      let s : State := mesh (job 1 .running [(0, { st := .opened })]) [p]
      let typ := byteAt p.hdr 0 % 16
      let u := setCluster k { getCluster k s with q := rest } s
      let m := if typ = 1 ∨ typ = 3 ∨ typ = 4 then meetStaging p.job p.chunk u else u
      let f := flagChild p m
      let b := getSlot p.job p.chunk f
      k < 4 ∧ (getCluster k s).q = p :: rest ∧ recvCheck p s = none ∧ typ = 4 ∧ (b.st = .opened ∨ b.st = .spilled) ∧ bitAt b.bits
        p.index = false) ∧
    (
      let k : Nat := 3
      let p : CPkt := msg 4 1
      let rest : List CPkt := []
      let s : State := mesh (job 1 .running [(0, { st := .opened, bits := 2 })]) [p]
      let typ := byteAt p.hdr 0 % 16
      let u := setCluster k { getCluster k s with q := rest } s
      let m := if typ = 1 ∨ typ = 3 ∨ typ = 4 then meetStaging p.job p.chunk u else u
      let f := flagChild p m
      let b := getSlot p.job p.chunk f
      k < 4 ∧ (getCluster k s).q = p :: rest ∧ recvCheck p s = none ∧ typ = 4 ∧ b.st ≠ .retained ∧ ((b.st = .opened ∨ b.st =
        .spilled) → bitAt b.bits p.index = true)) ∧
    (
      let k : Nat := 3
      let p : CPkt := msg 5 1
      let rest : List CPkt := []
      let s : State := mesh (job 1 .running [(0, { st := .opened })]) [p]
      let typ := byteAt p.hdr 0 % 16
      let u := setCluster k { getCluster k s with q := rest } s
      let m := if typ = 1 ∨ typ = 3 ∨ typ = 4 then meetStaging p.job p.chunk u else u
      let f := flagChild p m
      let b := getSlot p.job p.chunk f
      k < 4 ∧ (getCluster k s).q = p :: rest ∧ recvCheck p s = none ∧ typ = 5 ∧ (b.st = .opened ∨ b.st = .spilled)) ∧
    (
      let k : Nat := 3
      let p : CPkt := msg 5 1
      let rest : List CPkt := []
      let s : State := mesh (job 1 .running [(0, { st := .retained })]) [p]
      let typ := byteAt p.hdr 0 % 16
      let u := setCluster k { getCluster k s with q := rest } s
      let m := if typ = 1 ∨ typ = 3 ∨ typ = 4 then meetStaging p.job p.chunk u else u
      let f := flagChild p m
      let b := getSlot p.job p.chunk f
      k < 4 ∧ (getCluster k s).q = p :: rest ∧ recvCheck p s = none ∧ typ = 5 ∧ b.st ≠ .opened ∧ b.st ≠ .spilled) ∧
    (
      let k : Nat := 3
      let p : CPkt := msg 6 0
      let rest : List CPkt := []
      let s : State := mesh (job 0 .running []) [p]
      let typ := byteAt p.hdr 0 % 16
      let u := setCluster k { getCluster k s with q := rest } s
      let x := getJob p.job u
      k < 4 ∧ (getCluster k s).q = p :: rest ∧ recvCheck p s = none ∧ typ = 6 ∧ x.root = true ∧ p.index < x.f 26 2) ∧
    (
      let k : Nat := 3
      let p : CPkt := msg 6 0
      let rest : List CPkt := []
      let s : State := mesh (job 1 .running []) [p]
      let typ := byteAt p.hdr 0 % 16
      let u := setCluster k { getCluster k s with q := rest } s
      let x := getJob p.job u
      k < 4 ∧ (getCluster k s).q = p :: rest ∧ recvCheck p s = none ∧ typ = 6 ∧ (x.root = false ∨ x.f 26 2 ≤ p.index)) ∧
    (
      let k : Nat := 3
      let p : CPkt := msg 7 0
      let rest : List CPkt := []
      let s : State := mesh { job 1 .running [] with last := some {} } [p]
      let typ := byteAt p.hdr 0 % 16
      let u := setCluster k { getCluster k s with q := rest } s
      let x := getJob p.job u
      k < 4 ∧ (getCluster k s).q = p :: rest ∧ recvCheck p s = none ∧ typ = 7 ∧ (x.last = some { step := p.arg, epoch := p.epoch }
        ∨ (x.pend.any fun q => q.step == p.arg && q.epoch == p.epoch) = true ∨ x.pend.getLast?.map StepSet.step = some p.arg)) ∧
    (
      let k : Nat := 3
      let p : CPkt := msg 7 0
      let rest : List CPkt := []
      let s : State := mesh (job 1 .running []) [p]
      let typ := byteAt p.hdr 0 % 16
      let u := setCluster k { getCluster k s with q := rest } s
      let x := getJob p.job u
      k < 4 ∧ (getCluster k s).q = p :: rest ∧ recvCheck p s = none ∧ typ = 7 ∧ x.last ≠ some { step := p.arg, epoch := p.epoch } ∧
        (x.pend.any fun q => q.step == p.arg && q.epoch == p.epoch) = false ∧ x.pend.getLast?.map StepSet.step ≠ some p.arg) ∧
    (
      let k : Nat := 3
      let p : CPkt := msg 8 0
      let rest : List CPkt := []
      let s : State := mesh (job 0 .running []) [p]
      let typ := byteAt p.hdr 0 % 16
      let u := setCluster k { getCluster k s with q := rest } s
      let x := getJob p.job u
      let i := 1
      k < 4 ∧ (getCluster k s).q = p :: rest ∧ recvCheck p s = none ∧ typ = 8 ∧ ((List.range x.children).find? fun i => kidDevice
        (x.kid i) && kidMember (x.kid i) == p.index) = some i) ∧
    (
      let k : Nat := 3
      let p : CPkt := msg 8 1
      let rest : List CPkt := []
      let s : State := mesh (job 0 .running []) [p]
      let typ := byteAt p.hdr 0 % 16
      let u := setCluster k { getCluster k s with q := rest } s
      let x := getJob p.job u
      k < 4 ∧ (getCluster k s).q = p :: rest ∧ recvCheck p s = none ∧ typ = 8 ∧ ((List.range x.children).find? fun i => kidDevice
        (x.kid i) && kidMember (x.kid i) == p.index) = none) ∧
    (
      let k : Nat := 3
      let p : CPkt := msg 9 0
      let rest : List CPkt := []
      let s : State := mesh (job 0 .running []) [p]
      let typ := byteAt p.hdr 0 % 16
      k < 4 ∧ (getCluster k s).q = p :: rest ∧ recvCheck p s = none ∧ typ = 9) := by
  refine ⟨?_, ?_, ?_, ?_, ?_, ?_, ?_, ?_, ?_, ?_, ?_, ?_, ?_, ?_, ?_, ?_, ?_, ?_, ?_, ?_, ?_, ?_, ?_, ?_, ?_, ?_, ?_, ?_, ?_, ?_, ?_, ?_,
    ?_, ?_, ?_, ?_, ?_, ?_⟩ <;> decide +kernel

theorem wit_collective_timers :
    (
      let j : Nat := 127
      let c : Nat := 5
      let s : State := mesh (job 0 .running [(5, { st := .opened, bits := 2, waits := 1 })]) []
      let x := getJob j s
      let a := getSlot j c s
      let logged := x.log.foldl (fun m p => if p.chunk = c then m ||| 2 ^ p.index else m) 0
      let missing := (List.range x.children).filter fun i => !bitAt (a.bits ||| logged) i
      let silent := missing.filter fun i => !bitAt x.strag i && !bitAt a.waits i
      j < 128 ∧ x.runs = true ∧ (a.st = .opened ∨ a.st = .spilled) ∧ missing ≠ [] ∧ silent = []) ∧
    (
      let j : Nat := 127
      let c : Nat := 5
      let s : State := mesh (job 0 .running [(5, { st := .opened, bits := 1 })]) []
      let x := getJob j s
      let a := getSlot j c s
      let logged := x.log.foldl (fun m p => if p.chunk = c then m ||| 2 ^ p.index else m) 0
      let i := 1
      let r := []
      let missing := (List.range x.children).filter fun i => !bitAt (a.bits ||| logged) i
      let silent := missing.filter fun i => !bitAt x.strag i && !bitAt a.waits i
      j < 128 ∧ x.runs = true ∧ (a.st = .opened ∨ a.st = .spilled) ∧ missing ≠ [] ∧ silent = i :: r ∧ a.retries + 1 ≤ x.maxRetries) ∧
    (
      let j : Nat := 127
      let c : Nat := 5
      let s : State := mesh (job 0 .running [(5, { st := .spilled, bits := 1, retries := 15 })]) []
      let x := getJob j s
      let a := getSlot j c s
      let logged := x.log.foldl (fun m p => if p.chunk = c then m ||| 2 ^ p.index else m) 0
      let i := 1
      let r := []
      let missing := (List.range x.children).filter fun i => !bitAt (a.bits ||| logged) i
      let silent := missing.filter fun i => !bitAt x.strag i && !bitAt a.waits i
      j < 128 ∧ x.runs = true ∧ (a.st = .opened ∨ a.st = .spilled) ∧ missing ≠ [] ∧ silent = i :: r ∧ x.maxRetries < a.retries + 1) ∧
    (
      let j : Nat := 127
      let c : Nat := 5
      let s : State := mesh (job 1 .running [(5, { st := .emitted })]) []
      let x := getJob j s
      let a := getSlot j c s
      j < 128 ∧ x.runs = true ∧ a.st = .emitted) ∧
    (
      let j : Nat := 127
      let c : Nat := 5
      let s : State := mesh (job 0 .running [(5, { st := .opened, bits := 2, waits := 1 })]) []
      let x := getJob j s
      j < 128 ∧ x.runs = true) ∧
    (
      let j : Nat := 127
      let c : Nat := 5
      let s : State := mesh (job 0 .failed []) []
      let x := getJob j s
      j < 128 ∧ x.runs = false) ∧
    (
      let j : Nat := 127
      let c : Nat := 5
      let s : State := fullMesh
      let x := getJob j s
      let a := getSlot j c s
      let r := makeRoom x.cluster x.accPages (openSlots x.cluster s) s
      j < 128 ∧ x.runs = true ∧ a.st = .spilled ∧ nextRestore j c s = true ∧ (a.bits = x.all ∨ 768 ≤ freePages x.cluster s) ∧ r.1 =
        false) ∧
    (
      let j : Nat := 127
      let c : Nat := 5
      let s : State := mesh (job 0 .running [(5, { st := .spilled, bits := 3, blocks := [0] })]) []
      let x := getJob j s
      let a := getSlot j c s
      let r := makeRoom x.cluster x.accPages (openSlots x.cluster s) s
      j < 128 ∧ x.runs = true ∧ a.st = .spilled ∧ nextRestore j c s = true ∧ (a.bits = x.all ∨ 768 ≤ freePages x.cluster s) ∧ r.1 =
        true ∧ (ovfLost a.blocks r.2 = true ∨ (ovfRead a.blocks r.2).1 = false)) ∧
    (
      let j : Nat := 127
      let c : Nat := 5
      let s : State := mesh (job 0 .running [(5, { st := .spilled, bits := 3 })]) []
      let x := getJob j s
      let a := getSlot j c s
      let r := makeRoom x.cluster x.accPages (openSlots x.cluster s) s
      j < 128 ∧ x.runs = true ∧ a.st = .spilled ∧ nextRestore j c s = true ∧ (a.bits = x.all ∨ 768 ≤ freePages x.cluster s) ∧ r.1 =
        true ∧ ovfLost a.blocks r.2 = false ∧ (ovfRead a.blocks r.2).1 = true) ∧
    (
      let j : Nat := 127
      let c : Nat := 5
      let s : State := mesh (job 0 .moving []) []
      let x := getJob j s
      j < 128 ∧ x.st = .moving) ∧
    (
      let j : Nat := 127
      let c : Nat := 5
      let s : State := setCluster 3 { changing := some 7 } run
      let k := 3
      let t := 7
      j < 128 ∧ k < 4 ∧ (getCluster k s).changing = some t ∧ (getCluster k s).due = false) ∧
    (
      let j : Nat := 127
      let c : Nat := 5
      let s : State := setCluster 3 { changing := some 7, due := true } run
      let k := 3
      let t := 7
      j < 128 ∧ k < 4 ∧ (getCluster k s).changing = some t ∧ (getCluster k s).due = true) ∧
    (
      let j : Nat := 127
      let c : Nat := 5
      let s : State := mesh (job 0 .running [(5, { st := .opened, bits := 2, waits := 1 })]) []
      let k := 3
      j < 128 ∧ k < 4 ∧ (getCluster k s).changing = none) := by
  refine ⟨?_, ?_, ?_, ?_, ?_, ?_, ?_, ?_, ?_, ?_, ?_, ?_, ?_⟩ <;> decide +kernel

theorem wit_collective_commands :
    (
      let c : Cmd := cmd 0x40 [127, 3] 192
      let bs : List Byte := jobRec 0 ++ kids.flatten
      let s : State := fly c run
      let j := c.op 0 1
      let k := c.op 1 1
      let x := getJob j s
      let d := fit c.len bs
      let n : Job := { record := d.take 128, kids := chunks 32 256 (d.drop 128) }
      let step := n.f 15 1
      let e := 3
      ready 0x40 c s = true ∧ j ≤ 127 ∧ 160 ≤ c.len ∧ c.len ≤ 8320 ∧ c.len % 32 = 0 ∧ x.st = .free ∧ c.len = 128 + 32 * n.children
        ∧ jobOk n = true ∧ n.kids.all (kidOk n) = true ∧ ((k ≤ 3 ∧ namedCluster k step s = none ∧ e = k) ∨ (k = 255 ∧ placeJob step
        s = some e))) ∧
    (
      let c : Cmd := cmd 0x40 [127, 3] 192
      let bs : List Byte := jobRec 0 ++ kids.flatten
      let s : State := fly c (fence 8 3 run)
      let j := c.op 0 1
      let k := c.op 1 1
      let x := getJob j s
      let d := fit c.len bs
      let n : Job := { record := d.take 128, kids := chunks 32 256 (d.drop 128) }
      let step := n.f 15 1
      let st := 6
      ready 0x40 c s = true ∧ j ≤ 127 ∧ 160 ≤ c.len ∧ c.len ≤ 8320 ∧ c.len % 32 = 0 ∧ x.st = .free ∧ c.len = 128 + 32 * n.children
        ∧ jobOk n = true ∧ n.kids.all (kidOk n) = true ∧ k ≤ 3 ∧ namedCluster k step s = some st) ∧
    (
      let c : Cmd := cmd 0x40 [127, 255] 192
      let bs : List Byte := jobRec 0 ++ kids.flatten
      let s : State := fly c (run |> fence 8 0 |> fence 8 1 |> fence 8 2 |> fence 8 3)
      let j := c.op 0 1
      let k := c.op 1 1
      let x := getJob j s
      let d := fit c.len bs
      let n : Job := { record := d.take 128, kids := chunks 32 256 (d.drop 128) }
      let step := n.f 15 1
      ready 0x40 c s = true ∧ j ≤ 127 ∧ 160 ≤ c.len ∧ c.len ≤ 8320 ∧ c.len % 32 = 0 ∧ x.st = .free ∧ c.len = 128 + 32 * n.children
        ∧ jobOk n = true ∧ n.kids.all (kidOk n) = true ∧ k = 255 ∧ placeJob step s = none) ∧
    (
      let c : Cmd := cmd 0x41 [127, 1]
      let bs : List Byte := jobRec 0 ++ kids.flatten
      let s : State := fly c (mesh (job 0 .failed []) [])
      let j := c.op 0 1
      let k := c.op 1 1
      let x := getJob j s
      ready 0x41 c s = true ∧ j ≤ 127 ∧ k ≤ 1 ∧ c.len = 0 ∧ x.st ≠ .free) ∧
    (
      let c : Cmd := cmd 0x41 [127, 1]
      let bs : List Byte := jobRec 0 ++ kids.flatten
      let s : State := fly c run
      let j := c.op 0 1
      let k := c.op 1 1
      let x := getJob j s
      ready 0x41 c s = true ∧ j ≤ 127 ∧ k ≤ 1 ∧ c.len = 0 ∧ x.st = .free) ∧
    (
      let c : Cmd := cmd 0x42 [127, 1] 128
      let bs : List Byte := jobRec 0 ++ kids.flatten
      let s : State := fly c run
      let j := c.op 0 1
      let k := c.op 1 1
      ready 0x42 c s = true ∧ j ≤ 127 ∧ 1 ≤ k ∧ j + k ≤ 128 ∧ c.len = 128 * k) ∧
    (
      let c : Cmd := cmd 0x43 [127, 2]
      let bs : List Byte := jobRec 0 ++ kids.flatten
      let s : State := fly c (mesh (job 0 .recovering []) [])
      let j := c.op 0 1
      let k := c.op 1 1
      let x := getJob j s
      ready 0x43 c s = true ∧ j ≤ 127 ∧ k ≤ 3 ∧ c.len = 0 ∧ x.st ≠ .free ∧ x.st ≠ .failed ∧ k ≠ x.cluster ∧ namedCluster k x.agreed
        s = none) ∧
    (
      let c : Cmd := cmd 0x43 [127, 2]
      let bs : List Byte := jobRec 0 ++ kids.flatten
      let s : State := fly c (fence 8 2 (mesh (job 0 .recovering []) []))
      let j := c.op 0 1
      let k := c.op 1 1
      let x := getJob j s
      let st := 6
      ready 0x43 c s = true ∧ j ≤ 127 ∧ k ≤ 3 ∧ c.len = 0 ∧ x.st ≠ .free ∧ x.st ≠ .failed ∧ k ≠ x.cluster ∧ namedCluster k x.agreed
        s = some st) ∧
    (
      let c : Cmd := cmd 0x43 [127, 3]
      let bs : List Byte := jobRec 0 ++ kids.flatten
      let s : State := fly c run
      let j := c.op 0 1
      let k := c.op 1 1
      let x := getJob j s
      ready 0x43 c s = true ∧ j ≤ 127 ∧ k ≤ 3 ∧ c.len = 0 ∧ x.st = .free) ∧
    (
      let c : Cmd := cmd 0x43 [127, 3]
      let bs : List Byte := jobRec 0 ++ kids.flatten
      let s : State := fly c (mesh (job 0 .failed []) [])
      let j := c.op 0 1
      let k := c.op 1 1
      let x := getJob j s
      ready 0x43 c s = true ∧ j ≤ 127 ∧ k ≤ 3 ∧ c.len = 0 ∧ x.st = .failed) ∧
    (
      let c : Cmd := cmd 0x44 [127, 255]
      let bs : List Byte := jobRec 0 ++ kids.flatten
      let s : State := fly c (mesh (job 0 .moving []) [])
      let j := c.op 0 1
      let k := c.op 1 1
      let x := getJob j s
      ready 0x44 c s = true ∧ j ≤ 127 ∧ (k ≤ 7 ∨ k = 255) ∧ c.len = 0 ∧ x.st ≠ .free ∧ x.st ≠ .failed) ∧
    (
      let c : Cmd := cmd 0x44 [127, 7]
      let bs : List Byte := jobRec 0 ++ kids.flatten
      let s : State := fly c run
      let j := c.op 0 1
      let k := c.op 1 1
      let x := getJob j s
      ready 0x44 c s = true ∧ j ≤ 127 ∧ (k ≤ 7 ∨ k = 255) ∧ c.len = 0 ∧ x.st = .free) ∧
    (
      let c : Cmd := cmd 0x44 [127, 7]
      let bs : List Byte := jobRec 0 ++ kids.flatten
      let s : State := fly c (mesh (job 0 .failed []) [])
      let j := c.op 0 1
      let k := c.op 1 1
      let x := getJob j s
      ready 0x44 c s = true ∧ j ≤ 127 ∧ (k ≤ 7 ∨ k = 255) ∧ c.len = 0 ∧ x.st = .failed) := by
  refine ⟨?_, ?_, ?_, ?_, ?_, ?_, ?_, ?_, ?_, ?_, ?_, ?_, ?_⟩ <;> decide +kernel

theorem wit_pool_rows :
    (
      let pool : Nat := 7
      let h : Nat := handleOf 7 0
      let c : Cmd := cmd 0x50 [0, 0, 64, 0, 1, 1, 0xFE, 0xFF]
      let s : State := fly c pools
      pool < 8 ∧ (poolCycle pool s).1 = none) ∧
    (
      let pool : Nat := 7
      let h : Nat := handleOf 7 0
      let c : Cmd := cmd 0x50 [0, 0, 64, 0, 1, 1, 0xFE, 0xFF]
      let s : State := { run with pool := { run.pool with pools := [(7, { queue := [{}] })] } }
      let a := (.cmd {}, none)
      pool < 8 ∧ (poolCycle pool s).1 = some a) ∧
    (
      let h : Nat := handleOf 7 0
      let c : Cmd := cmd 0x50 [0, 0, 64, 0, 1, 1, 0xFE, 0xFF]
      let s : State := setPBuf (handleOf 7 0) { testing := true } pools
      (getPBuf h s).testing = true) ∧
    (
      let h : Nat := handleOf 7 0
      let c : Cmd := cmd 0x50 [0, 0, 64, 0, 1, 1, 0xFE, 0xFF]
      let s : State := fly c pools
      (getPBuf h s).testing = false) ∧
    (
      let h : Nat := handleOf 7 0
      let c : Cmd := cmd 0x50 [0, 0, 64, 0, 1, 1, 0xFE, 0xFF]
      let s : State := fly c pools
      let hd := c.op 0 4
      let k := 7
      ready 0x50 c s = true ∧ poolOn s = true ∧ 1 ≤ hd ∧ hd ≤ 4194304 ∧ c.op 4 1 ≤ 1 ∧ c.op 5 1 ≤ 1 ∧ c.len = 0 ∧ hostOwner (c.op 6
        2) = true ∧ poolFor hd (c.op 4 1) s = some k) ∧
    (
      let h : Nat := handleOf 7 0
      let c : Cmd := cmd 0x50 [1, 0, 0, 0, 1, 0, 0, 0x10]
      let s : State := fly c (wr Reg.poolCtrl 0 1 run)
      let hd := c.op 0 4
      ready 0x50 c s = true ∧ poolOn s = true ∧ 1 ≤ hd ∧ hd ≤ 4194304 ∧ c.op 4 1 ≤ 1 ∧ c.op 5 1 ≤ 1 ∧ c.len = 0 ∧ hostOwner (c.op 6
        2) = true ∧ poolFor hd (c.op 4 1) s = none) ∧
    (
      let h : Nat := handleOf 7 0
      let c : Cmd := cmd 0x51 [0, 0, 0, 0xE0, 0xFE, 0xFF]
      let s : State := fly c pools
      let hd := c.op 0 4
      let owner := c.op 4 2
      ready 0x51 c s = true ∧ poolOn s = true ∧ handleOk hd s = true ∧ c.len = 0 ∧ hostOwner owner = true) ∧
    (
      let h : Nat := handleOf 7 0
      let c : Cmd := cmd 0x52 [0, 0, 0, 0xE0, 0xFE, 0xFF, 0x89, 0]
      let s : State := fly c pools
      let hd := c.op 0 4
      let owner := c.op 4 2
      ready 0x52 c s = true ∧ poolOn s = true ∧ handleOk hd s = true ∧ c.len = 0 ∧ hostOwner owner = true ∧ ownerOk (c.op 6 2) =
        true) ∧
    (
      let h : Nat := handleOf 7 0
      let c : Cmd := cmd 0x52 [0, 0, 0, 0xE0, 0xFE, 0xFF, 0x89, 0]
      let s : State := fly c pools
      let hd := c.op 0 4
      let owner := c.op 4 2
      poolRight hd owner s = 0) ∧
    (
      let h : Nat := handleOf 7 0
      let c : Cmd := cmd 0x53 [] 768
      let s : State := fly c pools
      ready 0x53 c s = true ∧ c.len = 768) ∧
    (
      let h : Nat := handleOf 7 0
      let c : Cmd := cmd 0x54 [0xFE, 0xFF]
      let s : State := fly c pools
      ready 0x54 c s = true ∧ c.len = 0 ∧ hostOwner (c.op 0 2) = true) ∧
    (
      let h : Nat := handleOf 7 0
      let c : Cmd := cmd 0x55 [0, 0, 0, 0x60, 0, 0, 1, 0, 0xFE, 0xFF, 1]
      let s : State := fly c pools
      let hd := c.op 0 4
      ready 0x55 c s = true ∧ poolOn s = true ∧ handleOk hd s = true ∧ c.op 10 1 ≤ 1 ∧ c.op 4 4 + c.len ≤ poolSize (handlePool hd)
        ∧ hostOwner (c.op 8 2) = true ∧ poolRight hd (c.op 8 2) s = 0 ∧ (handleM hd = true → halfServes (halfOf (handleAddr hd s)
        s) s = true) ∧ c.len = 0) ∧
    (
      let h : Nat := handleOf 7 0
      let c : Cmd := cmd 0x55 [0, 0, 0, 0x60, 0xFF, 0xFF, 0, 0, 0xFE, 0xFF, 0] 1
      let s : State := fly c pools
      let hd := c.op 0 4
      ready 0x55 c s = true ∧ poolOn s = true ∧ handleOk hd s = true ∧ c.op 10 1 ≤ 1 ∧ c.op 4 4 + c.len ≤ poolSize (handlePool hd)
        ∧ hostOwner (c.op 8 2) = true ∧ poolRight hd (c.op 8 2) s = 0 ∧ (handleM hd = true → halfServes (halfOf (handleAddr hd s)
        s) s = true) ∧ c.len ≠ 0 ∧ domsDown (poolCopyDoms c s) s = false ∧ c.op 10 1 = 0) ∧
    (
      let h : Nat := handleOf 7 0
      let c : Cmd := cmd 0x55 [0, 0, 0, 0x60, 0, 0, 0, 0, 0xFE, 0xFF, 1] 1
      let s : State := fly c pools
      let u := started c s
      let hd := c.op 0 4
      ready 0x55 c s = true ∧ poolOn s = true ∧ handleOk hd s = true ∧ c.op 10 1 ≤ 1 ∧ c.op 4 4 + c.len ≤ poolSize (handlePool hd)
        ∧ hostOwner (c.op 8 2) = true ∧ poolRight hd (c.op 8 2) s = 0 ∧ (handleM hd = true → halfServes (halfOf (handleAddr hd s)
        s) s = true) ∧ c.len ≠ 0 ∧ domsDown (poolCopyDoms c s) s = false ∧ c.op 10 1 = 1 ∧ (bufRead hd (c.op 4 4) c.len u).1 = 0) ∧
    (
      let h : Nat := handleOf 7 0
      let c : Cmd := cmd 0x55 [0, 0, 0, 0x60, 0, 0, 0, 0, 0xFE, 0xFF, 1] 1
      let s : State := fly c (struck memSram 0 pools)
      let u := started c s
      let hd := c.op 0 4
      ready 0x55 c s = true ∧ poolOn s = true ∧ handleOk hd s = true ∧ c.op 10 1 ≤ 1 ∧ c.op 4 4 + c.len ≤ poolSize (handlePool hd)
        ∧ hostOwner (c.op 8 2) = true ∧ poolRight hd (c.op 8 2) s = 0 ∧ (handleM hd = true → halfServes (halfOf (handleAddr hd s)
        s) s = true) ∧ c.len ≠ 0 ∧ domsDown (poolCopyDoms c s) s = false ∧ c.op 10 1 = 1 ∧ (bufRead hd (c.op 4 4) c.len u).1 ≠ 0) ∧
    (
      let h : Nat := handleOf 7 0
      let v : Word := 1
      let c : Cmd := cmd 0x50 [0, 0, 64, 0, 1, 1, 0xFE, 0xFF]
      let s : State := wr Reg.poolCtrl 0 1 run
      s.sys.mode.engine = true ∧ bitAt v.toNat 0 = true ∧ poolOn s = true) ∧
    (
      let h : Nat := handleOf 7 0
      let v : Word := 1
      let c : Cmd := cmd 0x50 [0, 0, 64, 0, 1, 1, 0xFE, 0xFF]
      let s : State := wr Reg.poolMCount 3 1 run
      s.sys.mode.engine = true ∧ bitAt v.toNat 0 = true ∧ poolOn s = false ∧ poolCfgBad s = true) ∧
    (
      let h : Nat := handleOf 7 0
      let v : Word := 1
      let c : Cmd := cmd 0x50 [0, 0, 64, 0, 1, 1, 0xFE, 0xFF]
      let s : State := run
      s.sys.mode.engine = true ∧ bitAt v.toNat 0 = true ∧ poolOn s = false ∧ poolCfgBad s = false) := by
  refine ⟨?_, ?_, ?_, ?_, ?_, ?_, ?_, ?_, ?_, ?_, ?_, ?_, ?_, ?_, ?_, ?_, ?_, ?_⟩ <;> decide +kernel

set_option maxRecDepth 100000 in
theorem wit_serge_runs :
    (
      let e : Nat := 7
      let k : Nat := 3
      let r : Nat := 63
      let block : Nat := 255
      let s : State := serge { st := .ready, routine := 63 }
      let i := 3
      e < 8 ∧ k < 4 ∧ r < 64 ∧ block < 256 ∧ fencedU 11 e s = false ∧ nextReady e s = some i) ∧
    (
      let e : Nat := 7
      let k : Nat := 3
      let r : Nat := 63
      let block : Nat := 255
      let s : State := serge {}
      e < 8 ∧ k < 4 ∧ r < 64 ∧ block < 256 ∧ fencedU 11 e s = false ∧ nextReady e s = none) ∧
    (
      let e : Nat := 7
      let k : Nat := 3
      let r : Nat := 63
      let block : Nat := 255
      let s : State := fence 11 7 (serge { st := .ready })
      e < 8 ∧ k < 4 ∧ r < 64 ∧ block < 256 ∧ fencedU 11 e s = true) ∧
    (
      let e : Nat := 7
      let k : Nat := 3
      let r : Nat := 63
      let block : Nat := 255
      let s : State := serge { st := .waiting, load := some (15, 1) }
      let c := getCtx e k s
      e < 8 ∧ k < 4 ∧ r < 64 ∧ block < 256 ∧ c.st = .waiting ∧ seqHeld s = false ∧ c.wait = none) ∧
    (
      let e : Nat := 7
      let k : Nat := 3
      let r : Nat := 63
      let block : Nat := 255
      let s : State := serge { st := .waiting, wait := some { cond := 9 } }
      let c := getCtx e k s
      let w := { cond := 9 }
      e < 8 ∧ k < 4 ∧ r < 64 ∧ block < 256 ∧ c.st = .waiting ∧ seqHeld s = false ∧ c.wait = some w ∧ w.cond = 9) ∧
    (
      let e : Nat := 7
      let k : Nat := 3
      let r : Nat := 63
      let block : Nat := 255
      let s : State := serge { st := .waiting, wait := some { cond := 8 } }
      let c := getCtx e k s
      let d := (c.load.map fun l => { (c.setReg l.1 l.2) with load := none }).getD c
      let w := { cond := 8 }
      e < 8 ∧ k < 4 ∧ r < 64 ∧ block < 256 ∧ c.st = .waiting ∧ seqHeld s = false ∧ c.wait = some w ∧ w.cond ≠ 9 ∧ (w.cond = 8 ∨
        seqCond d w.cond (some w.since) s ≠ w.neg)) ∧
    (
      let e : Nat := 7
      let k : Nat := 3
      let r : Nat := 63
      let block : Nat := 255
      let s : State := serge { st := .waiting, wait := some { cond := 0, neg := true } }
      let c := getCtx e k s
      let d := (c.load.map fun l => { (c.setReg l.1 l.2) with load := none }).getD c
      let w := { cond := 0, neg := true }
      e < 8 ∧ k < 4 ∧ r < 64 ∧ block < 256 ∧ c.st = .waiting ∧ seqHeld s = false ∧ c.wait = some w ∧ w.cond ≠ 8 ∧ w.cond ≠ 9 ∧
        seqCond d w.cond (some w.since) s = w.neg) ∧
    (
      let e : Nat := 7
      let k : Nat := 3
      let r : Nat := 63
      let block : Nat := 255
      let s : State := serge { st := .waiting }
      let c := getCtx e k s
      e < 8 ∧ k < 4 ∧ r < 64 ∧ block < 256 ∧ c.st = .waiting ∧ seqHeld s = false ∧ rdFld Reg.seqCtrl 0 16 16 s ≠ 0 ∧ (∀ w, c.wait =
        some w → w.cond ≠ 9 ∧ w.cond ≠ 10 ∧ w.cond ≠ 12)) ∧
    (
      let e : Nat := 7
      let k : Nat := 3
      let r : Nat := 63
      let block : Nat := 255
      let s : State := serge {}
      e < 8 ∧ k < 4 ∧ r < 64 ∧ block < 256) ∧
    (
      let e : Nat := 7
      let k : Nat := 3
      let r : Nat := 63
      let block : Nat := 255
      let s : State := serge { st := .ready }
      let c := getCtx e k s
      e < 8 ∧ k < 4 ∧ r < 64 ∧ block < 256 ∧ c.st ≠ .free) ∧
    (
      let e : Nat := 7
      let k : Nat := 3
      let r : Nat := 63
      let block : Nat := 255
      let s : State := serge {}
      let c := getCtx e k s
      e < 8 ∧ k < 4 ∧ r < 64 ∧ block < 256 ∧ c.st = .free) ∧
    (
      let e : Nat := 7
      let k : Nat := 3
      let r : Nat := 63
      let block : Nat := 255
      let s : State := serge {}
      let hurt := ((List.range 64).map (64 * block + ·)).any fun a => upsetOf memStore a s == 2
      e < 8 ∧ k < 4 ∧ r < 64 ∧ block < 256 ∧ hurt = false) ∧
    (
      let e : Nat := 7
      let k : Nat := 3
      let r : Nat := 63
      let block : Nat := 255
      let s : State := struck memStore 16383 (serge {})
      let hurt := ((List.range 64).map (64 * block + ·)).any fun a => upsetOf memStore a s == 2
      e < 8 ∧ k < 4 ∧ r < 64 ∧ block < 256 ∧ hurt = true ∧ blockCrc (secStore s.seq.section5) block ≠ tget s.seq.crc block) ∧
    (
      let e : Nat := 7
      let k : Nat := 3
      let r : Nat := 63
      let block : Nat := 255
      let s : State := struck memStore 16383 { serge {} with seq := { (serge {}).seq with crc := [(255, blockCrc [] 255)] } }
      let hurt := ((List.range 64).map (64 * block + ·)).any fun a => upsetOf memStore a s == 2
      e < 8 ∧ k < 4 ∧ r < 64 ∧ block < 256 ∧ hurt = true ∧ blockCrc (secStore s.seq.section5) block = tget s.seq.crc block) ∧
    (
      let e : Nat := 7
      let k : Nat := 3
      let r : Nat := 63
      let block : Nat := 255
      let s : State :=
        { serge { st := .ready, routine := 63 } with seq := { (serge { st := .ready, routine := 63 }).seq with stops := [(63, {})] } }
      let i := 7
      let j := 3
      e < 8 ∧ k < 4 ∧ r < 64 ∧ block < 256 ∧ stopReq r s = true ∧ ctxOf r s = some (i, j)) ∧
    (
      let e : Nat := 7
      let k : Nat := 3
      let r : Nat := 63
      let block : Nat := 255
      let s : State := serge { st := .ready }
      e < 8 ∧ k < 4 ∧ r < 64 ∧ block < 256 ∧ (nextReady e s).isSome = true ∧ fencedU 11 e s = false) ∧
    (
      let e : Nat := 7
      let k : Nat := 3
      let r : Nat := 63
      let block : Nat := 255
      let s : State := serge {}
      e < 8 ∧ k < 4 ∧ r < 64 ∧ block < 256 ∧ nextReady e s = none) := by
  refine ⟨?_, ?_, ?_, ?_, ?_, ?_, ?_, ?_, ?_, ?_, ?_, ?_, ?_, ?_, ?_, ?_, ?_⟩ <;> decide +kernel

theorem wit_serge_commands :
    (
      let c : Cmd := cmd 0xA0 [] 1296
      let bs : List Byte := [1]
      let s : State := fly c { at_ .diag with regs := run.regs }
      let d := fit c.len bs
      ready 0xA0 c s = true ∧ c.len ≠ 0 ∧ secForm d = false) ∧
    (
      let c : Cmd := { cmd 0xA0 [] 1296 with stage := .fetched }
      let bs : List Byte := section1
      let s : State := fly { c with stage := .fetched } run
      findCmd c.ref s = some c ∧ s.sys.mode.engine = true ∧ c.opcode = 0xA0 ∧ c.stage = .fetched ∧ startable c s = true ∧
        s.sys.mode ≠ .staged ∧ s.sys.mode ≠ .diag) ∧
    (
      let c : Cmd := cmd 0xA1 [63, 255, 4, 0, 255]
      let bs : List Byte := section1
      let s : State := fly c run
      let a := c.op 0 1
      ready 0xA1 c s = true ∧ a ≤ 63 ∧ c.op 2 1 ≤ 4 ∧ c.len = 0) ∧
    (
      let c : Cmd := cmd 0xA2 [63]
      let bs : List Byte := section1
      let s : State := fly c (wr Reg.seqCtrl 0 1 { run with seq := { run.seq with table := [(63, 0x38000008000)] } })
      let a := c.op 0 1
      let e := 7
      let i := 0
      ready 0xA2 c s = true ∧ 1 ≤ a ∧ a ≤ 63 ∧ rtValid (rtEntry a s) = true ∧ rtTrigger (rtEntry a s) = 3 ∧ c.len = 0 ∧ ctxOf a s =
        none ∧ freeCtx (rtEngines (rtEntry a s)) s = some (e, i)) ∧
    (
      let c : Cmd := cmd 0xA3 [63]
      let bs : List Byte := section1
      let s : State := fly c run
      let a := c.op 0 1
      ready 0xA3 c s = true ∧ a ≤ 63 ∧ c.len = 0 ∧ ctxOf a s = none) ∧
    (
      let c : Cmd := cmd 0xA3 [63]
      let bs : List Byte := section1
      let s : State := fly c (serge { st := .trapped, routine := 63 })
      let a := c.op 0 1
      ready 0xA3 c s = true ∧ a ≤ 63 ∧ c.len = 0 ∧ (ctxOf a s).isSome = true) ∧
    (
      let c : Cmd := cmd 0xA4 [7, 3] 192
      let bs : List Byte := section1
      let s : State := fly c run
      let a := c.op 0 1
      let k := c.op 1 1
      ready 0xA4 c s = true ∧ a ≤ 7 ∧ k ≤ 3 ∧ c.len = 192 ∧ scratchHard a (frameAt k) 192 s = false) ∧
    (
      let c : Cmd := cmd 0xA4 [7, 3] 192
      let bs : List Byte := section1
      let s : State := fly c (struck memScratch 16352 run)
      let a := c.op 0 1
      let k := c.op 1 1
      ready 0xA4 c s = true ∧ a ≤ 7 ∧ k ≤ 3 ∧ c.len = 192 ∧ scratchHard a (frameAt k) 192 s = true) ∧
    (
      let c : Cmd := cmd 0xA5 [7, 3, 0]
      let bs : List Byte := section1
      let s : State := fly c (serge { st := .trapped })
      let a := c.op 0 1
      let k := c.op 1 1
      ready 0xA5 c s = true ∧ a ≤ 7 ∧ k ≤ 3 ∧ c.len = 0 ∧ (getCtx a k s).st = .trapped ∧ c.op 2 1 = 0 ∧ scratchHard a (frameAt k)
        192 s = false) ∧
    (
      let c : Cmd := cmd 0xA5 [7, 3, 1]
      let bs : List Byte := section1
      let s : State := fly c (serge { st := .trapped })
      let a := c.op 0 1
      let k := c.op 1 1
      ready 0xA5 c s = true ∧ a ≤ 7 ∧ k ≤ 3 ∧ c.len = 0 ∧ (getCtx a k s).st = .trapped ∧ c.op 2 1 = 1 ∧ scratchHard a (frameAt k)
        192 s = false) ∧
    (
      let c : Cmd := cmd 0xA5 [7, 3, 2]
      let bs : List Byte := section1
      let s : State := fly c (serge { st := .trapped })
      let a := c.op 0 1
      let k := c.op 1 1
      ready 0xA5 c s = true ∧ a ≤ 7 ∧ k ≤ 3 ∧ c.len = 0 ∧ (getCtx a k s).st = .trapped ∧ c.op 2 1 = 2) ∧
    (
      let c : Cmd := cmd 0xA5 [7, 3, 2]
      let bs : List Byte := section1
      let s : State := fly c run
      let a := c.op 0 1
      let k := c.op 1 1
      ready 0xA5 c s = true ∧ a ≤ 7 ∧ k ≤ 3 ∧ c.len = 0 ∧ c.op 2 1 ≤ 2 ∧ (getCtx a k s).st ≠ .trapped) ∧
    (
      let c : Cmd := cmd 0xA6 [0xFF, 0x3F, 1, 0] 16
      let bs : List Byte := section1
      let s : State := fly c run
      let first := c.op 0 2
      let n := c.op 2 2
      ready 0xA6 c s = true ∧ 1 ≤ n ∧ first + n ≤ 16384 ∧ c.len = 16 * n ∧ ((List.range n).any fun i => upsetOf memStore (first +
        i) s == 2) = false) ∧
    (
      let c : Cmd := cmd 0xA6 [0xFF, 0x3F, 1, 0] 16
      let bs : List Byte := section1
      let s : State := fly c (struck memStore 16383 run)
      let first := c.op 0 2
      let n := c.op 2 2
      ready 0xA6 c s = true ∧ 1 ≤ n ∧ first + n ≤ 16384 ∧ c.len = 16 * n ∧ ((List.range n).any fun i => upsetOf memStore (first +
        i) s == 2) = true) := by
  refine ⟨?_, ?_, ?_, ?_, ?_, ?_, ?_, ?_, ?_, ?_, ?_, ?_, ?_, ?_⟩ <;> decide +kernel

theorem wit_memory_interface :
    (
      let ch : Nat := 31
      let row : Nat := 17
      let half : Nat := 1
      let t : TrainRes := { ok := true }
      let s : State := burlap { st := .training }
      let c := getMChan ch s
      ch < 32 ∧ c.st = .training ∧ s.sys.mode ≠ .wipe ∧ t.ok = true) ∧
    (
      let ch : Nat := 31
      let row : Nat := 17
      let half : Nat := 1
      let t : TrainRes := { ok := false }
      let s : State := burlap { st := .training }
      let c := getMChan ch s
      ch < 32 ∧ c.st = .training ∧ s.sys.mode ≠ .wipe ∧ t.ok = false) ∧
    (
      let ch : Nat := 31
      let row : Nat := 17
      let half : Nat := 1
      let t : TrainRes := { ok := false, answered := false }
      let s : State := wiping { st := .training }
      let c := getMChan ch s
      ch < 32 ∧ c.st = .training ∧ s.sys.mode = .wipe ∧ t.answered = false) ∧
    (
      let ch : Nat := 31
      let row : Nat := 17
      let half : Nat := 1
      let t : TrainRes := { ok := true }
      let s : State := wiping { st := .training }
      let c := getMChan ch s
      ch < 32 ∧ c.st = .training ∧ s.sys.mode = .wipe ∧ t.answered = true ∧ t.ok = true) ∧
    (
      let ch : Nat := 31
      let row : Nat := 17
      let half : Nat := 1
      let t : TrainRes := { ok := false }
      let s : State := wiping { st := .training }
      let c := getMChan ch s
      ch < 32 ∧ c.st = .training ∧ s.sys.mode = .wipe ∧ t.answered = true ∧ t.ok = false) ∧
    (
      let ch : Nat := 31
      let row : Nat := 17
      let half : Nat := 1
      let t : TrainRes := { ok := true }
      let s : State := burlap { st := .ready, trained := true, retraining := true }
      let c := getMChan ch s
      ch < 32 ∧ c.st ≠ .training ∧ c.retraining = true ∧ t.ok = true) ∧
    (
      let ch : Nat := 31
      let row : Nat := 17
      let half : Nat := 1
      let t : TrainRes := { ok := false }
      let s : State := burlap { st := .ready, trained := true, retraining := true }
      let c := getMChan ch s
      ch < 32 ∧ c.st ≠ .training ∧ c.retraining = true ∧ t.ok = false) ∧
    (
      let ch : Nat := 31
      let row : Nat := 17
      let half : Nat := 1
      let t : TrainRes := { ok := true }
      let s : State := burlap { st := .ready, trained := true, late := [(15, 8)] }
      let c := getMChan ch s
      ch < 32 ∧ c.st ≠ .training ∧ c.retraining = false) ∧
    (
      let ch : Nat := 31
      let row : Nat := 17
      let half : Nat := 1
      let t : TrainRes := { ok := true }
      let s : State := { burlap { st := .selfRefresh, trained := true } with aon := 25000000 }
      ch < 32 ∧ mayRetrain ch s = true ∧ retrainDue ch s = true) ∧
    (
      let ch : Nat := 31
      let row : Nat := 17
      let half : Nat := 1
      let t : TrainRes := { ok := true }
      let s : State := burlap { st := .ready, trained := true, late := [(15, 8)] }
      ch < 32 ∧ (mayRetrain ch s = false ∨ retrainDue ch s = false)) ∧
    (
      let ch : Nat := 31
      let row : Nat := 17
      let half : Nat := 1
      let t : TrainRes := { ok := true }
      let s : State := burlap { st := .ready, trained := true, retry := true }
      let c := getMChan ch s
      ch < 32 ∧ mayRetrain ch s = true ∧ c.retry = true) ∧
    (
      let ch : Nat := 31
      let row : Nat := 17
      let half : Nat := 1
      let t : TrainRes := { ok := true }
      let s : State := burlap { st := .ready, trained := true, late := [(15, 8)] }
      let c := getMChan ch s
      ch < 32 ∧ (mayRetrain ch s = false ∨ c.retry = false)) ∧
    (
      let ch : Nat := 31
      let bank : Nat := 15
      let row : Nat := 17
      let half : Nat := 1
      let t : TrainRes := { ok := true }
      let s : State := burlap { st := .ready, late := [(15, 7)] }
      let c := getMChan ch s
      ch < 32 ∧ chanUp ch s = true ∧ c.st = .ready ∧ tget c.late bank < 8) ∧
    (
      let ch : Nat := 31
      let bank : Nat := 15
      let row : Nat := 17
      let half : Nat := 1
      let t : TrainRes := { ok := true }
      let s : State := burlap { st := .ready, trained := true, late := [(15, 8)] }
      let c := getMChan ch s
      ch < 32 ∧ chanUp ch s = true ∧ c.st = .ready ∧ 8 ≤ tget c.late bank) ∧
    (
      let ch : Nat := 31
      let row : Nat := 17
      let half : Nat := 1
      let t : TrainRes := { ok := true }
      let s : State := burlap { st := .ready, trained := true, late := [(15, 8)] }
      let c := getMChan ch s
      ch < 32 ∧ chanUp ch s = true ∧ c.st = .ready) ∧
    (
      let ch : Nat := 31
      let row : Nat := 17
      let half : Nat := 1
      let t : TrainRes := { ok := true }
      let s : State := burlap { st := .selfRefresh }
      let c := getMChan ch s
      ch < 32 ∧ (chanUp ch s = false ∨ c.st ≠ .ready)) ∧
    (
      let ch : Nat := 31
      let row : Nat := 17
      let half : Nat := 1
      let t : TrainRes := { ok := true }
      let s : State := wr Reg.memCtrl 0 3 (burlap { st := .ready })
      let c := getMChan ch s
      ch < 32 ∧ autoSr s = true ∧ c.st = .ready ∧ c.retraining = false ∧ chanUp ch s = true) ∧
    (
      let ch : Nat := 31
      let row : Nat := 17
      let half : Nat := 1
      let t : TrainRes := { ok := true }
      let s : State := burlap { st := .ready, trained := true, late := [(15, 8)] }
      let c := getMChan ch s
      ch < 32 ∧ (autoSr s = false ∨ c.st ≠ .ready ∨ c.retraining = true ∨ chanUp ch s = false)) ∧
    (
      let ch : Nat := 31
      let row : Nat := 17
      let half : Nat := 1
      let t : TrainRes := { ok := true }
      let s : State := wr Reg.memCtrl 0 3 (burlap { st := .ready })
      let scrubs := bitAt (rd Reg.memCtrl 0 s) 1 && chanUp ch s && decide (row < memRows s)
      ch < 32 ∧ scrubs = true ∧ (∀ k, k < 32 → (getMChan k s).st ≠ .selfRefresh) ∧ ((List.range 28).all fun i => (burstsOf (rowAddr
        ch row i s) 64).all fun b => upsetOf memBurst b s == 0) = true) ∧
    (
      let ch : Nat := 31
      let row : Nat := 17
      let half : Nat := 1
      let t : TrainRes := { ok := true }
      let s : State := struck memBurst 0 (wr Reg.memCtrl 0 3 (burlap { st := .ready }))
      let scrubs := bitAt (rd Reg.memCtrl 0 s) 1 && chanUp ch s && decide (row < memRows s)
      ch < 32 ∧ scrubs = true) ∧
    (
      let ch : Nat := 31
      let row : Nat := 18
      let half : Nat := 1
      let t : TrainRes := { ok := true }
      let s : State := wr Reg.memCtrl 0 3 (burlap { st := .ready })
      let scrubs := bitAt (rd Reg.memCtrl 0 s) 1 && chanUp ch s && decide (row < memRows s)
      ch < 32 ∧ scrubs = false) ∧
    (
      let ch : Nat := 31
      let row : Nat := 17
      let half : Nat := 1
      let t : TrainRes := { ok := true }
      let s : State := setDom 28 { st := .poweringUp } (burlap { st := .ready })
      let x := getDom (27 + half) s
      let trains := (List.range 16).any fun i => decide ((getMChan (16 * half + i) s).st = .training)
      ch < 32 ∧ half < 2 ∧ x.st = .poweringUp ∧ trains = false ∧ x.up = none) ∧
    (
      let ch : Nat := 31
      let row : Nat := 17
      let half : Nat := 1
      let t : TrainRes := { ok := true }
      let s : State := setDom 28 { st := .poweringUp, up := some {} } (burlap { st := .ready })
      let x := getDom (27 + half) s
      let trains := (List.range 16).any fun i => decide ((getMChan (16 * half + i) s).st = .training)
      let r := {}
      ch < 32 ∧ half < 2 ∧ x.st = .poweringUp ∧ trains = false ∧ x.up = some r) ∧
    (
      let ch : Nat := 31
      let row : Nat := 17
      let half : Nat := 1
      let t : TrainRes := { ok := true }
      let s : State := setDom 28 { st := .poweringUp } (burlap { st := .training })
      let x := getDom (27 + half) s
      let trains := (List.range 16).any fun i => decide ((getMChan (16 * half + i) s).st = .training)
      ch < 32 ∧ half < 2 ∧ (x.st ≠ .poweringUp ∨ trains = true)) := by
  refine ⟨?_, ?_, ?_, ?_, ?_, ?_, ?_, ?_, ?_, ?_, ?_, ?_, ?_, ?_, ?_, ?_, ?_, ?_, ?_, ?_, ?_, ?_, ?_, ?_⟩ <;> decide +kernel

theorem wit_time_rows :
    (
      let n : Nat := 3
      let pin : Nat := 3
      let v : Word := 1
      let s : State := run
      n < 4 ∧ pin < 4 ∧ s.sys.mode.engine = true ∧ bitAt v.toNat 0 = true) ∧
    (
      let n : Nat := 3
      let pin : Nat := 3
      let v : Word := 3
      let s : State := { run with tim := { run.tim with tb := [(3, { sec := 5, trim := -7 })] } }
      let t := getTb n s
      n < 4 ∧ pin < 4 ∧ s.sys.mode.engine = true ∧ bitAt v.toNat 0 = true ∧ t.state = .stopped) ∧
    (
      let n : Nat := 3
      let pin : Nat := 3
      let v : Word := 0
      let s : State := run
      n < 4 ∧ pin < 4 ∧ s.sys.mode.engine = true ∧ bitAt v.toNat 0 = false) ∧
    (
      let n : Nat := 3
      let pin : Nat := 3
      let v : Word := 0
      let s : State := ticks 3 run
      let t := getTb n s
      n < 4 ∧ pin < 4 ∧ s.sys.mode.engine = true ∧ bitAt v.toNat 0 = false ∧ t.state = .running) ∧
    (
      let n : Nat := 3
      let pin : Nat := 3
      let v : Word := 1
      let s : State := run
      n < 4 ∧ pin < 4 ∧ s.sys.mode.engine = true ∧ bitAt v.toNat 2 = false) ∧
    (
      let n : Nat := 3
      let pin : Nat := 3
      let s : State := { run with tim := { run.tim with tb := [(3, { state := .running, pending := -1 })] } }
      let t := getTb n s
      n < 4 ∧ pin < 4 ∧ t.pending ≠ 0 ∧ t.state = .running) ∧
    (
      let n : Nat := 3
      let pin : Nat := 3
      let s : State := run
      let t := getTb n s
      n < 4 ∧ pin < 4 ∧ t.pending = 0 ∧ t.slewEnd = false) ∧
    (
      let n : Nat := 3
      let pin : Nat := 3
      let s : State := ticks 3 run
      let k := fld (pinCfg 4 s) 2 2
      n < 4 ∧ pin < 4 ∧ (∀ k, k < 4 → (getTb k s).state ≠ .running ∨ bitAt (rd Reg.timTbCfg k s) 1 = false)) ∧
    (
      let n : Nat := 3
      let pin : Nat := 3
      let s : State := wr Reg.timTbCfg 3 2 (ticks 3 run)
      let t := getTb n s
      n < 4 ∧ pin < 4 ∧ t.state = .running ∧ bitAt (rd Reg.timTbCfg n s) 1 = true) ∧
    (
      let n : Nat := 3
      let pin : Nat := 3
      let s : State := { run with tim := { run.tim with tb := [(3, { state := .holdover })] } }
      let t := getTb n s
      n < 4 ∧ pin < 4 ∧ t.state = .holdover) ∧
    (
      let n : Nat := 3
      let pin : Nat := 3
      let s : State := run
      let t := getTb n s
      n < 4 ∧ pin < 4 ∧ t.state ≠ .holdover) ∧
    (
      let n : Nat := 3
      let pin : Nat := 3
      let s : State := run
      n < 4 ∧ pin < 4 ∧ tbRuns n s = false) ∧
    (
      let n : Nat := 3
      let pin : Nat := 3
      let s : State := run |> ticks 3 |> wr Reg.timPpsOut 0 7
      let asks := fun k => bitAt (rd Reg.timPpsOut k s) 0 && decide (rdFld Reg.timPpsOut k 1 2 s = n)
      let tod := bitAt (rd Reg.timTodCfg 0 s) 0
      n < 4 ∧ pin < 4 ∧ tbRuns n s = true ∧ asks 1 = false ∧ (asks 0 = false ∨ tod = false)) ∧
    (
      let n : Nat := 3
      let pin : Nat := 3
      let s : State := run |> ticks 3 |> wr Reg.timPpsOut 0 7 |> wr Reg.timTodCfg 0 1
      let asks := fun k => bitAt (rd Reg.timPpsOut k s) 0 && decide (rdFld Reg.timPpsOut k 1 2 s = n)
      let tod := bitAt (rd Reg.timTodCfg 0 s) 0
      n < 4 ∧ pin < 4 ∧ tbRuns n s = true ∧ asks 1 = false ∧ asks 0 = true ∧ tod = true) ∧
    (
      let n : Nat := 3
      let pin : Nat := 3
      let s : State := run |> ticks 3 |> wr Reg.timPpsOut 1 7
      let asks := fun k => bitAt (rd Reg.timPpsOut k s) 0 && decide (rdFld Reg.timPpsOut k 1 2 s = n)
      let tod := bitAt (rd Reg.timTodCfg 0 s) 0
      n < 4 ∧ pin < 4 ∧ tbRuns n s = true ∧ asks 1 = true ∧ (asks 0 = false ∨ tod = false)) ∧
    (
      let n : Nat := 3
      let pin : Nat := 3
      let fall : Bool := true
      let s : State := run |> wr Reg.timEventCfg 0 0x30000
      n < 4 ∧ pin < 4 ∧ edgeSelected 4 fall s = true) ∧
    (
      let n : Nat := 3
      let pin : Nat := 3
      let fall : Bool := true
      let s : State := run
      n < 4 ∧ pin < 4 ∧ edgeSelected 4 fall s = false) ∧
    (
      let n : Nat := 3
      let pin : Nat := 3
      let s : State := run |> wr Reg.timEventCfg 0 0x130000
      n < 4 ∧ pin < 4 ∧ bitAt (rd Reg.timEventCfg 0 s) 20 = true) ∧
    (
      let n : Nat := 3
      let pin : Nat := 3
      let s : State := run
      n < 4 ∧ pin < 4 ∧ bitAt (rd Reg.timEventCfg 0 s) 20 = false) ∧
    (
      let n : Nat := 3
      let pin : Nat := 3
      let fall : Bool := true
      let s : State := run |> wr Reg.timEventCfg 0 0x3000
      n < 4 ∧ pin < 4 ∧ edgeSelected pin fall s = true ∧ edgeNear pin s = false) ∧
    (
      let n : Nat := 3
      let pin : Nat := 3
      let fall : Bool := true
      let s : State :=
        { (run |> wr Reg.timEventCfg 0 0x3000) with aon := 249, tim := { run.tim with edgeAt := [(3, some 0)], missed := [(3, 4294967295)]
          } }
      n < 4 ∧ pin < 4 ∧ edgeSelected pin fall s = true ∧ edgeNear pin s = true) ∧
    (
      let n : Nat := 3
      let pin : Nat := 3
      let fall : Bool := true
      let s : State := run
      n < 4 ∧ pin < 4 ∧ edgeSelected pin fall s = false) ∧
    (
      let n : Nat := 3
      let pin : Nat := 3
      let msg : List Byte := List.replicate 14 0 ++ [0xA9, 0x6A]
      let s : State := run
      n < 4 ∧ pin < 4 ∧ msg.length = 16 ∧ beAt msg 14 2 = crc16 (msg.take 14)) ∧
    (
      let n : Nat := 3
      let pin : Nat := 3
      let msg : List Byte := List.replicate 14 0 ++ [0, 0]
      let s : State := run
      n < 4 ∧ pin < 4 ∧ (msg.length ≠ 16 ∨ beAt msg 14 2 ≠ crc16 (msg.take 14))) := by
  refine ⟨?_, ?_, ?_, ?_, ?_, ?_, ?_, ?_, ?_, ?_, ?_, ?_, ?_, ?_, ?_, ?_, ?_, ?_, ?_, ?_, ?_, ?_, ?_, ?_⟩ <;> decide +kernel

theorem wit_time_commands :
    (
      let c : Cmd := cmd 0x70 [] 64
      let s : State := fly c (wr Reg.timTbCfg 3 0 run)
      ready 0x70 c s = true ∧ c.len = 64) ∧
    (
      let c : Cmd := cmd 0x71 (fit 16 [3] ++ le 4 999999999)
      let s : State := fly c run
      let n := c.op 0 1
      let t := getTb n s
      let ok := n ≤ 3 ∧ c.len = 0 ∧ t.state ≠ .fenced
      ready 0x71 c s = true ∧ ok ∧ c.op 16 4 < 1000000000 ∧ slewEn n s = true) ∧
    (
      let c : Cmd := cmd 0x71 (fit 8 [3] ++ le 8 (2 ^ 48 - 1) ++ le 4 999999999)
      let s : State := fly c (wr Reg.timTbCfg 3 0 run)
      let n := c.op 0 1
      let t := getTb n s
      let ok := n ≤ 3 ∧ c.len = 0 ∧ t.state ≠ .fenced
      ready 0x71 c s = true ∧ ok ∧ c.op 16 4 < 1000000000 ∧ slewEn n s = false ∧ c.op 8 8 < 2 ^ 48) ∧
    (
      let c : Cmd := cmd 0x71 (fit 16 [3] ++ le 4 1000000000)
      let s : State := fly c (wr Reg.timTbCfg 3 0 run)
      let n := c.op 0 1
      let t := getTb n s
      let ok := n ≤ 3 ∧ c.len = 0 ∧ t.state ≠ .fenced
      ready 0x71 c s = true ∧ ok ∧ 1000000000 ≤ c.op 16 4) ∧
    (
      let c : Cmd := cmd 0x72 (fit 8 [3] ++ le 8 1)
      let s : State := fly c (wr Reg.timTbCfg 3 0 run)
      let n := c.op 0 1
      let t := getTb n s
      let ok := n ≤ 3 ∧ c.len = 0 ∧ t.state ≠ .fenced
      let d := toS 64 (c.op 8 8)
      ready 0x72 c s = true ∧ ok ∧ slewEn n s = false ∧ stepFits n d s = true) ∧
    (
      let c : Cmd := cmd 0x72 (fit 8 [3] ++ le 8 (2 ^ 64 - 1))
      let s : State := fly c (wr Reg.timTbCfg 3 0 run)
      let n := c.op 0 1
      let t := getTb n s
      let ok := n ≤ 3 ∧ c.len = 0 ∧ t.state ≠ .fenced
      let d := toS 64 (c.op 8 8)
      ready 0x72 c s = true ∧ ok ∧ slewEn n s = false ∧ stepFits n d s = false) ∧
    (
      let c : Cmd := cmd 0x72 (fit 8 [3] ++ le 8 10000000001)
      let s : State := fly c run
      let n := c.op 0 1
      let t := getTb n s
      let ok := n ≤ 3 ∧ c.len = 0 ∧ t.state ≠ .fenced
      let d := toS 64 (c.op 8 8)
      let p := t.pending + d * (2 ^ 48 : Int)
      ready 0x72 c s = true ∧ ok ∧ slewEn n s = true ∧ 10000000000 * 2 ^ 48 < p.natAbs) ∧
    (
      let c : Cmd := cmd 0x72 (fit 8 [3] ++ le 8 10000000000)
      let s : State := fly c run
      let n := c.op 0 1
      let t := getTb n s
      let ok := n ≤ 3 ∧ c.len = 0 ∧ t.state ≠ .fenced
      let d := toS 64 (c.op 8 8)
      let p := t.pending + d * (2 ^ 48 : Int)
      ready 0x72 c s = true ∧ ok ∧ slewEn n s = true ∧ p.natAbs ≤ 10000000000 * 2 ^ 48 ∧ p ≠ 0) ∧
    (
      let c : Cmd := cmd 0x73 [3]
      let s : State := fly c (wr Reg.timTbCfg 3 0 run)
      let n := c.op 0 1
      let t := getTb n s
      let ok := n ≤ 3 ∧ c.len = 0 ∧ t.state ≠ .fenced
      ready 0x73 c s = true ∧ ok) ∧
    (
      let c : Cmd := cmd 0x74 [1, 1]
      let s : State := fly c
        { (run |> ticks 3 |> wr Reg.timCtrl 0 8) with tim := { tb := [(3, { state := .running })], odd23 := true } }
      let n := c.op 0 1
      ready 0x74 c s = true ∧ n ≤ 1 ∧ c.op 1 1 ≤ 1 ∧ c.len = 0 ∧ paired n s = true ∧ (getTb (2 * n + c.op 1 1) s).state = .running
        ∧ pairOdd n s = decide (c.op 1 1 = 1)) ∧
    (
      let c : Cmd := cmd 0x74 [1, 1]
      let s : State := fly c (run |> ticks 3 |> wr Reg.timCtrl 0 8)
      let n := c.op 0 1
      ready 0x74 c s = true ∧ n ≤ 1 ∧ c.op 1 1 ≤ 1 ∧ c.len = 0 ∧ paired n s = true ∧ (getTb (2 * n + c.op 1 1) s).state = .running
        ∧ pairOdd n s ≠ decide (c.op 1 1 = 1)) := by
  refine ⟨?_, ?_, ?_, ?_, ?_, ?_, ?_, ?_, ?_, ?_, ?_⟩ <;> decide +kernel

theorem wit_snapshots_and_dumps :
    (
      let k : Nat := 15
      let v : Word := 0
      let s : State := setSet 15 { enabled := true, dump := some {} } run
      let d := getSet k s
      let x := {}
      k < 16 ∧ d.enabled = true ∧ telRuns s = true ∧ d.dump = some x) ∧
    (
      let k : Nat := 15
      let v : Word := 0
      let s : State := setSet 15 { enabled := true } run
      let d := getSet k s
      k < 16 ∧ d.enabled = true ∧ telRuns s = true ∧ d.dump = none) ∧
    (
      let k : Nat := 15
      let v : Word := 0
      let s : State := wr Reg.telCtrl 0 0 run
      let d := getSet k s
      k < 16 ∧ (d.enabled = false ∨ telRuns s = false)) ∧
    (
      let k : Nat := 15
      let v : Word := 0
      let s : State := run
      let d := getSet k s
      k < 16 ∧ (d.dump = none ∨ telRuns s = false)) ∧
    (
      let k : Nat := 15
      let v : Word := 0
      let s : State := setSet 15 { dump := some {}, clears := [{}] } (run |> wr Reg.hifDmaCfg 2 256)
      let d := getSet k s
      let x := {}
      k < 16 ∧ d.dump = some x ∧ telRuns s = true ∧ chanServes (sergeChan 2 s) s = true ∧ d.next = none) ∧
    (
      let k : Nat := 15
      let v : Word := 0
      let s : State := setSet 15 { dump := some {}, next := some [15] } (run |> wr Reg.hifDmaCfg 2 256)
      let d := getSet k s
      let x := {}
      let o := [15]
      k < 16 ∧ d.dump = some x ∧ telRuns s = true ∧ chanServes (sergeChan 2 s) s = true ∧ d.next = some o) ∧
    (
      let k : Nat := 15
      let v : Word := 0
      let s : State := let b := (run |> wr Reg.hifDmaCfg 4 256 |> wr Reg.telGauzeCfg 0 0x115);
        { b with tel := { gzStage := [[]], gzProd := 1024 } }
      let size := gzSize s
      let occ := (s.tel.gzProd + 2 * size - s.tel.gzCons) % (2 * size)
      let r := []
      let rest := []
      k < 16 ∧ s.tel.gzStage = r :: rest ∧ gauzeOn s = true ∧ chanOn (gzChan s) s = true ∧ (size ≤ occ ∨ (getChan (gzChan s)
        s).halted = true ∨ fencedU 10 (gzChan s) s = true)) ∧
    (
      let k : Nat := 15
      let v : Word := 0
      let s : State := let b := (run |> wr Reg.hifDmaCfg 4 256 |> wr Reg.telGauzeCfg 0 0x115);
        { b with tel := { gzStage := [[]], gzProd := 1023 } }
      let size := gzSize s
      let occ := (s.tel.gzProd + 2 * size - s.tel.gzCons) % (2 * size)
      let r := []
      let rest := []
      k < 16 ∧ s.tel.gzStage = r :: rest ∧ gauzeOn s = true ∧ chanOn (gzChan s) s = true ∧ occ < size ∧ (getChan (gzChan s)
        s).halted = false ∧ fencedU 10 (gzChan s) s = false) ∧
    (
      let k : Nat := 15
      let v : Word := 0
      let s : State := run
      k < 16 ∧ (s.tel.gzStage = [] ∨ gauzeOn s = false ∨ chanOn (gzChan s) s = false)) ∧
    (
      let k : Nat := 15
      let v : Word := 0
      let s : State := wr Reg.telGauzeCfg 0 0x115 run
      let old := rd Reg.telGauzeCfg 0 s
      let w := v.toNat
      k < 16 ∧ s.sys.mode.engine = true ∧ bitAt old 0 = true ∧ bitAt w 0 = false) ∧
    (
      let k : Nat := 15
      let v : Word := 1
      let s : State := wr Reg.telGauzeCfg 0 0x115 run
      let old := rd Reg.telGauzeCfg 0 s
      let w := v.toNat
      k < 16 ∧ s.sys.mode.engine = true ∧ bitAt old 0 = true ∧ bitAt w 0 = true) ∧
    (
      let k : Nat := 15
      let v : Word := 0x114
      let s : State := run
      let old := rd Reg.telGauzeCfg 0 s
      let w := v.toNat
      k < 16 ∧ s.sys.mode.engine = true ∧ bitAt old 0 = false ∧ bitAt w 0 = false) ∧
    (
      let k : Nat := 15
      let v : Word := 0x155
      let s : State := run |> wr Reg.telGauzeBase 0 4096
      let old := rd Reg.telGauzeCfg 0 s
      let w := v.toNat
      let ch := fld w 6 6
      let sound := decide (10 ≤ fld w 1 5) && decide (fld w 1 5 ≤ 16) && decide (4 ≤ ch) && chanOn ch s && decide (rd
        Reg.telGauzeBase 0 s ≠ 0)
      k < 16 ∧ s.sys.mode.engine = true ∧ bitAt old 0 = false ∧ bitAt w 0 = true ∧ sound = true) ∧
    (
      let k : Nat := 15
      let v : Word := 0x115
      let s : State := run
      let old := rd Reg.telGauzeCfg 0 s
      let w := v.toNat
      let ch := fld w 6 6
      let sound := decide (10 ≤ fld w 1 5) && decide (fld w 1 5 ≤ 16) && decide (4 ≤ ch) && chanOn ch s && decide (rd
        Reg.telGauzeBase 0 s ≠ 0)
      k < 16 ∧ s.sys.mode.engine = true ∧ bitAt old 0 = false ∧ bitAt w 0 = true ∧ sound = false) := by
  refine ⟨?_, ?_, ?_, ?_, ?_, ?_, ?_, ?_, ?_, ?_, ?_, ?_, ?_, ?_⟩ <;> decide +kernel

theorem wit_telemetry_commands :
    (
      let c : Cmd := cmd 0x60 [15, 0, 1]
      let s : State := fly c (run |> wr Reg.hifRingCfg 7 0x92)
      let k := c.op 0 1
      let fl := c.op 2 1
      ready 0x60 c s = true ∧ k ≤ 15 ∧ c.len = 0 ∧ bitAt fl 0 = true) ∧
    (
      let c : Cmd := cmd 0x60 ([15, 3, 10, 3] ++ le 4 15 ++ le 4 1 ++ le 4 3600000 ++ le 2 256 ++ [7, 0, 0, 0, 0, 0] ++ le 8 64)
      let s : State := fly c (setSet 15 { enabled := true, dump := some {} } (run |> wr Reg.hifRingCfg 7 0x92))
      let k := c.op 0 1
      let d := getSet k s
      let nw : DumpSet := { ops := fit 40 c.ops, enabled := true }
      let fl := c.op 2 1
      let clash := s.tel.sets.any fun e => decide (e.1 ≠ k) && (match e.2.claim with | some x => x.meets nw | none => false) ||
        decide (e.1 ≠ k) && e.2.enabled && e.2.meets nw
      ready 0x60 c s = true ∧ k ≤ 15 ∧ c.len = 0 ∧ fl < 16 ∧ bitAt fl 0 = false ∧ c.op 3 1 ≤ 3 ∧ itemsOk nw.kind nw.first nw.items
        = true ∧ 1 ≤ nw.period ∧ nw.period ≤ 3600000 ∧ 1 ≤ nw.slots ∧ nw.slots ≤ 256 ∧ evRingOn nw.evRing s = true ∧ nw.area % 64 =
        0 ∧ (bitAt fl 1 = false ∨ clash = false) ∧ d.enabled = true ∧ d.dump ≠ none) ∧
    (
      let c : Cmd := cmd 0x60 ([15, 3, 10, 3] ++ le 4 15 ++ le 4 1 ++ le 4 3600000 ++ le 2 256 ++ [7, 0, 0, 0, 0, 0] ++ le 8 64)
      let s : State := fly c (run |> wr Reg.hifRingCfg 7 0x92)
      let k := c.op 0 1
      let d := getSet k s
      let nw : DumpSet := { ops := fit 40 c.ops, enabled := true }
      let fl := c.op 2 1
      let clash := s.tel.sets.any fun e => decide (e.1 ≠ k) && (match e.2.claim with | some x => x.meets nw | none => false) ||
        decide (e.1 ≠ k) && e.2.enabled && e.2.meets nw
      ready 0x60 c s = true ∧ k ≤ 15 ∧ c.len = 0 ∧ fl < 16 ∧ bitAt fl 0 = false ∧ c.op 3 1 ≤ 3 ∧ itemsOk nw.kind nw.first nw.items
        = true ∧ 1 ≤ nw.period ∧ nw.period ≤ 3600000 ∧ 1 ≤ nw.slots ∧ nw.slots ≤ 256 ∧ evRingOn nw.evRing s = true ∧ nw.area % 64 =
        0 ∧ (bitAt fl 1 = false ∨ clash = false) ∧ (d.enabled = false ∨ d.dump = none)) ∧
    (
      let c : Cmd := cmd 0x61 ([3, 0, 0, 0] ++ le 4 15 ++ le 4 1) 192
      let s : State := fly c (run |> wr Reg.hifRingCfg 7 0x92)
      let k := c.op 0 1
      let first := c.op 4 4
      let items := c.op 8 4
      ready 0x61 c s = true ∧ itemsOk k first items = true ∧ c.len = 8 * ctrCount k items + flagLen (ctrCount k items)) ∧
    (
      let c : Cmd := cmd 0x62 ([3, 7, 0, 0] ++ le 4 15 ++ le 4 1)
      let s : State := fly c (run |> wr Reg.hifRingCfg 7 0x92)
      let k := c.op 0 1
      let d := getSet k s
      let first := c.op 4 4
      let items := c.op 8 4
      let busy := fun (d : DumpSet) => d.dump.isSome && (rangeNums k first items).any fun num => d.holds k num
      ready 0x62 c s = true ∧ itemsOk k first items = true ∧ c.op 1 1 < 8 ∧ c.len = 0 ∧ (s.tel.sets.any fun e => busy e.2) = false) ∧
    (
      let c : Cmd := cmd 0x62 ([3, 7, 0, 0] ++ le 4 15 ++ le 4 1)
      let s : State := fly c (setSet 15 { ops := fit 40 ([15, 3, 10, 3] ++ le 4 15 ++ le 4 1), enabled := true, dump := some {} }
        run)
      let k := c.op 0 1
      let d := getSet k s
      let first := c.op 4 4
      let items := c.op 8 4
      let busy := fun (d : DumpSet) => d.dump.isSome && (rangeNums k first items).any fun num => d.holds k num
      ready 0x62 c s = true ∧ itemsOk k first items = true ∧ c.op 1 1 < 8 ∧ c.len = 0 ∧ (s.tel.sets.any fun e => busy e.2) = true) ∧
    (
      let c : Cmd := cmd 0x63 [15]
      let s : State := fly c (setSet 15 { enabled := true } run)
      let k := c.op 0 1
      let d := getSet k s
      ready 0x63 c s = true ∧ k ≤ 15 ∧ d.enabled = true ∧ c.len = 0 ∧ d.dump = none) ∧
    (
      let c : Cmd := cmd 0x63 [15]
      let s : State := fly c (setSet 15 { enabled := true, dump := some {} } run)
      let k := c.op 0 1
      let d := getSet k s
      ready 0x63 c s = true ∧ k ≤ 15 ∧ d.enabled = true ∧ c.len = 0 ∧ d.dump ≠ none) ∧
    (
      let c : Cmd := cmd 0x64 [0, 0, 1]
      let s : State := let b := fly c (run |> wr Reg.telGauzeCfg 0 0x15); { b with tel := { gzProd := 1024 } }
      let size := gzSize s
      let pos := c.op 0 2 + size * c.op 2 1
      ready 0x64 c s = true ∧ c.len = 0 ∧ bitAt (rd Reg.telGauzeCfg 0 s) 0 = true ∧ c.op 2 1 ≤ 1 ∧ c.op 0 2 < size ∧ atOrBeyond
        size pos s.tel.gzCons = true ∧ (s.tel.gzProd + 2 * size - pos) % (2 * size) ≤ size) ∧
    (
      let c : Cmd := cmd 0x65 [0] 128
      let s : State := fly c (run |> wr Reg.hifRingCfg 7 0x92)
      ready 0x65 c s = true ∧ c.len = 128 ∧ flagOk c 0 = true ∧ readFlag c 0 = false) ∧
    (
      let c : Cmd := cmd 0x65 [1] 128
      let s : State := fly c (run |> wr Reg.hifRingCfg 7 0x92)
      ready 0x65 c s = true ∧ c.len = 128 ∧ flagOk c 0 = true ∧ readFlag c 0 = true) := by
  refine ⟨?_, ?_, ?_, ?_, ?_, ?_, ?_, ?_, ?_, ?_, ?_⟩ <;> decide +kernel

theorem wit_regulator_writes :
    (
      let k : Nat := 15
      let s : State := run
      s.sys.mode.engine = true ∧ k < 16 ∧ limitEn s = true) ∧
    (
      let k : Nat := 15
      let s : State := wr Reg.pwrCtrl 0 2 run
      s.sys.mode.engine = true ∧ k < 16 ∧ limitEn s = false) ∧
    (
      let k : Nat := 3
      let v : Word := 1
      let s : State := regulators |> wr Reg.pwrVr 3 0x280
      s.sys.mode.engine = true ∧ k < 4 ∧ bitAt v.toNat 0 = true ∧ (vrOn k s = false ∨ vrRail k s ≠ k)) ∧
    (
      let v : Word := 1
      let s : State := regulators
      s.sys.mode.engine = true ∧ bitAt v.toNat 0 = true ∧ (∀ j, j < 4 → vrOn j s = true ∧ vrRail j s = j)) := by
  refine ⟨?_, ?_, ?_, ?_⟩ <;> decide +kernel

theorem wit_power_measured :
    (
      let k : Nat := 15
      let s : State := at_ .wipe
      2 ≤ s.sys.mode.num) ∧
    (
      let answers : List VrAnswer := List.replicate 16 { answered := true, mv := 750 }
      let k : Nat := 15
      let s : State := wr Reg.pwrVr 15 0x80 run
      2 ≤ s.sys.mode.num ∧ 4 ≤ k ∧ k < 16 ∧ vrOn k s = true ∧ (answers.getD k {}).answered = true) ∧
    (
      let k : Nat := 1
      let s : State := run
      2 ≤ s.sys.mode.num ∧ k < 2) ∧
    (
      let temps : List (Option Int) := List.replicate 32 (some 2400)
      let k : Nat := 15
      let s : State := run
      let n := 31
      let v := 2400
      2 ≤ s.sys.mode.num ∧ n < 32 ∧ temps[n]? = some (some v) ∧ -640 ≤ v ∧ v ≤ 2400) ∧
    (
      let temps : List (Option Int) := List.replicate 32 none
      let k : Nat := 15
      let s : State := run
      let n := 31
      2 ≤ s.sys.mode.num ∧ n < 32 ∧ temps[n]? = some none) ∧
    (
      let k : Nat := 1
      let s : State := { run with pwr := { run.pwr with cooled := [(1, true)] } }
      let ks := [2 * k, 2 * k + 1]
      let ds := fabric ++ [2 * k + 1, 2 * k + 2]
      let cut := ks.foldl (fun s k => { s with pwr := { s.pwr with thermCut := tmod s.pwr.thermCut k fun c => c - 1 } }) s
      let risen := ds.foldl (fun s d => raiseStep d s) cut
      let done := ds.all (fun d => atTop d risen) && ks.all fun k => decide (tget risen.pwr.thermCut k = 0)
      2 ≤ s.sys.mode.num ∧ k < 2 ∧ cooledDie k s = true ∧ dieCool k s = true ∧ done = true) ∧
    (
      let k : Nat := 1
      let s : State := { run with pwr := { run.pwr with cooled := [(1, true)], thermCut := [(2, 2)] } }
      let ks := [2 * k, 2 * k + 1]
      let ds := fabric ++ [2 * k + 1, 2 * k + 2]
      let cut := ks.foldl (fun s k => { s with pwr := { s.pwr with thermCut := tmod s.pwr.thermCut k fun c => c - 1 } }) s
      let risen := ds.foldl (fun s d => raiseStep d s) cut
      let done := ds.all (fun d => atTop d risen) && ks.all fun k => decide (tget risen.pwr.thermCut k = 0)
      2 ≤ s.sys.mode.num ∧ k < 2 ∧ cooledDie k s = true ∧ dieCool k s = true ∧ done = false) ∧
    (
      let k : Nat := 1
      let s : State := run
      2 ≤ s.sys.mode.num ∧ k < 2 ∧ (cooledDie k s = false ∨ dieCool k s = false)) ∧
    (
      let k : Nat := 15
      let s : State := run
      let may := fun (l : List Nat) => l.filter fun d => !heldThermal d s
      let below := decide (pNow s * 100 < 95 * 1000 * peakW s) && decide (pNow s * 100 < 95 * 1000 * sustainedW s) && !s.pwr.alert
      let top := (may fabric).all fun d => atTop d s
      2 ≤ s.sys.mode.num ∧ below = true ∧ top = true) ∧
    (
      let k : Nat := 15
      let s : State := setDom 6 { below := 1 } run
      let may := fun (l : List Nat) => l.filter fun d => !heldThermal d s
      let below := decide (pNow s * 100 < 95 * 1000 * peakW s) && decide (pNow s * 100 < 95 * 1000 * sustainedW s) && !s.pwr.alert
      let top := (may fabric).all fun d => atTop d s
      2 ≤ s.sys.mode.num ∧ below = true ∧ top = false) ∧
    (
      let k : Nat := 15
      let s : State := { run with pwr := { hist := [19000000] } }
      let below := decide (pNow s * 100 < 95 * 1000 * peakW s) && decide (pNow s * 100 < 95 * 1000 * sustainedW s) && !s.pwr.alert
      2 ≤ s.sys.mode.num ∧ below = false) ∧
    (
      let k : Nat := 15
      let s : State := at_ .reset
      s.sys.mode.num < 2) ∧
    (
      let k : Nat := 15
      let a : VrAnswer := { answered := false }
      let s : State := { run with pwr := { vrs := [(15, { misses := 1 })] } }
      a.answered = false ∧ (getVr k s).misses = 1) := by
  refine ⟨?_, ?_, ?_, ?_, ?_, ?_, ?_, ?_, ?_, ?_, ?_, ?_, ?_⟩ <;> decide +kernel

theorem wit_power_commands :
    (
      let det : Nat := 63
      let code : Nat := 0
      let d : Nat := 30
      let c : Cmd := cmd 0x78 [0]
      let s : State := at_ .wipe
      let x := getDom (detDom det) s
      det < 64 ∧ code < 256 ∧ d < 31 ∧ trips det code s = true ∧ x.dip = none) ∧
    (
      let det : Nat := 63
      let code : Nat := 0
      let d : Nat := 30
      let c : Cmd := cmd 0x78 [0]
      let s : State := setDom 30 { dip := some { first := 60, code := 9 } } (at_ .wipe)
      let x := getDom (detDom det) s
      let p := { first := 60, code := 9 }
      det < 64 ∧ code < 256 ∧ d < 31 ∧ trips det code s = true ∧ x.dip = some p) ∧
    (
      let det : Nat := 63
      let code : Nat := 255
      let d : Nat := 30
      let c : Cmd := cmd 0x78 [0]
      let s : State := at_ .wipe
      det < 64 ∧ code < 256 ∧ d < 31 ∧ trips det code s = false) ∧
    (
      let det : Nat := 63
      let code : Nat := 0
      let d : Nat := 30
      let c : Cmd := cmd 0x78 [0]
      let s : State := run
      det < 64 ∧ code < 256 ∧ d < 31 ∧ (getDom d s).dip = none) ∧
    (
      let det : Nat := 63
      let code : Nat := 0
      let d : Nat := 30
      let c : Cmd := cmd 0x78 [0]
      let s : State := setDom 30 { dip := some { first := 60, code := 9 } } run
      let p := { first := 60, code := 9 }
      det < 64 ∧ code < 256 ∧ d < 31 ∧ (getDom d s).dip = some p) ∧
    (
      let det : Nat := 15
      let code : Nat := 0
      let d : Nat := 30
      let c : Cmd := cmd 0x78 [0]
      let s : State := setDom 4 { raise := some 6 } run
      let x := getDom (detDom det) s
      let changing := decide (7 ≤ detDom det) && decide (detDom det ≤ 10) && (getCluster (detDom det - 7) s).changing.isSome
      det < 64 ∧ code < 256 ∧ d < 31 ∧ (x.raise.isSome = true ∨ changing = true)) ∧
    (
      let det : Nat := 15
      let code : Nat := 0
      let d : Nat := 30
      let c : Cmd := cmd 0x78 [0]
      let s : State := run
      let x := getDom (detDom det) s
      let changing := decide (7 ≤ detDom det) && decide (detDom det ≤ 10) && (getCluster (detDom det - 7) s).changing.isSome
      det < 64 ∧ code < 256 ∧ d < 31 ∧ x.raise = none ∧ changing = false) ∧
    (
      let det : Nat := 63
      let code : Nat := 0
      let d : Nat := 30
      let c : Cmd := cmd 0x78 [0]
      let s : State := setDom 30 { st := .deferred } run
      det < 64 ∧ code < 256 ∧ d < 31 ∧ ((getDom d s).st = .deferred ∨ (getDom d s).st = .poweringDown) ∧ touchesDom d s = false) ∧
    (
      let det : Nat := 63
      let code : Nat := 0
      let d : Nat := 30
      let c : Cmd := cmd 0x78 [0]
      let s : State := setChan 63 { xfers := [{ domains := [30] }] } run
      det < 64 ∧ code < 256 ∧ d < 31 ∧ (touchesDom d s = true ∨ ((getDom d s).st ≠ .deferred ∧ (getDom d s).st ≠ .poweringDown))) ∧
    (
      let det : Nat := 63
      let code : Nat := 0
      let d : Nat := 30
      let c : Cmd := cmd 0x78 [26, 0]
      let s : State := fly c (setDom 26 { st := .off } run)
      let e := c.op 0 1
      let y := getDom e s
      det < 64 ∧ code < 256 ∧ d < 31 ∧ ready 0x78 c s = true ∧ e < 31 ∧ c.len = 0 ∧ c.op 1 1 = 0 ∧ y.st = .off) ∧
    (
      let det : Nat := 63
      let code : Nat := 0
      let d : Nat := 30
      let c : Cmd := cmd 0x78 [30, 0]
      let s : State := fly c run
      let u := started c s
      let e := c.op 0 1
      let y := getDom e s
      det < 64 ∧ code < 256 ∧ d < 31 ∧ ready 0x78 c s = true ∧ e < 31 ∧ c.len = 0 ∧ c.op 1 1 = 0 ∧ y.st ≠ .off ∧ (y.st ≠ .on ∨
        relying e s ≠ [] ∨ mayPowerDown e u = false)) ∧
    (
      let det : Nat := 63
      let code : Nat := 0
      let d : Nat := 30
      let c : Cmd := cmd 0x78 [26, 0]
      let s : State := fly c (setChan 63 { xfers := [{ domains := [26] }] } run)
      let u := started c s
      let e := c.op 0 1
      let y := getDom e s
      det < 64 ∧ code < 256 ∧ d < 31 ∧ ready 0x78 c s = true ∧ e < 31 ∧ c.len = 0 ∧ c.op 1 1 = 0 ∧ y.st = .on ∧ relying e s = [] ∧
        mayPowerDown e u = true ∧ touchesDom e s = true) ∧
    (
      let det : Nat := 63
      let code : Nat := 0
      let d : Nat := 30
      let c : Cmd := cmd 0x78 [26, 0]
      let s : State := fly c run
      let u := started c s
      let e := c.op 0 1
      let y := getDom e s
      det < 64 ∧ code < 256 ∧ d < 31 ∧ ready 0x78 c s = true ∧ e < 31 ∧ c.len = 0 ∧ c.op 1 1 = 0 ∧ y.st = .on ∧ relying e s = [] ∧
        mayPowerDown e u = true ∧ touchesDom e s = false) ∧
    (
      let det : Nat := 63
      let code : Nat := 0
      let d : Nat := 30
      let c : Cmd := cmd 0x78 [30, 1]
      let s : State := fly c run
      let e := c.op 0 1
      let y := getDom e s
      det < 64 ∧ code < 256 ∧ d < 31 ∧ ready 0x78 c s = true ∧ e < 31 ∧ c.len = 0 ∧ c.op 1 1 = 1 ∧ y.st = .on) ∧
    (
      let det : Nat := 63
      let code : Nat := 0
      let d : Nat := 30
      let c : Cmd := cmd 0x78 [26, 1]
      let s : State := fly c (setDom 26 { st := .deferred, down := some {} } run)
      let e := c.op 0 1
      let y := getDom e s
      let r := {}
      det < 64 ∧ code < 256 ∧ d < 31 ∧ ready 0x78 c s = true ∧ e < 31 ∧ c.len = 0 ∧ c.op 1 1 = 1 ∧ (y.st = .deferred ∨ y.st =
        .poweringDown) ∧ y.down = some r) ∧
    (
      let det : Nat := 63
      let code : Nat := 0
      let d : Nat := 30
      let c : Cmd := cmd 0x78 [26, 1]
      let s : State := fly c (setDom 4 { st := .off } (setDom 26 { st := .off } run))
      let e := c.op 0 1
      let y := getDom e s
      det < 64 ∧ code < 256 ∧ d < 31 ∧ ready 0x78 c s = true ∧ e < 31 ∧ c.len = 0 ∧ c.op 1 1 = 1 ∧ y.st = .off ∧ (requires e).any
        (fun e => !domServes e s) = true) ∧
    (
      let det : Nat := 63
      let code : Nat := 0
      let d : Nat := 30
      let c : Cmd := cmd 0x78 [28, 1]
      let s : State := fly c (setDom 28 { st := .off } run)
      let e := c.op 0 1
      let y := getDom e s
      det < 64 ∧ code < 256 ∧ d < 31 ∧ ready 0x78 c s = true ∧ e < 31 ∧ c.len = 0 ∧ c.op 1 1 = 1 ∧ y.st = .off ∧ (requires e).any
        (fun e => !domServes e s) = false ∧ (e = 27 ∨ e = 28)) ∧
    (
      let det : Nat := 63
      let code : Nat := 0
      let d : Nat := 30
      let c : Cmd := cmd 0x78 [26, 1]
      let s : State := fly c (setDom 26 { st := .off } run)
      let e := c.op 0 1
      let y := getDom e s
      det < 64 ∧ code < 256 ∧ d < 31 ∧ ready 0x78 c s = true ∧ e < 31 ∧ c.len = 0 ∧ c.op 1 1 = 1 ∧ y.st = .off ∧ (requires e).any
        (fun e => !domServes e s) = false ∧ 11 ≤ e ∧ e ≤ 26) ∧
    (
      let det : Nat := 63
      let code : Nat := 0
      let d : Nat := 30
      let c : Cmd := cmd 0x78 [10, 1]
      let s : State := fly c (setDom 10 { st := .off } run)
      let e := c.op 0 1
      let y := getDom e s
      det < 64 ∧ code < 256 ∧ d < 31 ∧ ready 0x78 c s = true ∧ e < 31 ∧ c.len = 0 ∧ c.op 1 1 = 1 ∧ y.st = .off ∧ (requires e).any
        (fun e => !domServes e s) = false ∧ (e < 11 ∨ 28 < e)) ∧
    (
      let det : Nat := 63
      let code : Nat := 0
      let d : Nat := 30
      let c : Cmd := cmd 0x78 [10, 2, 7]
      let s : State := fly c run
      let e := c.op 0 1
      det < 64 ∧ code < 256 ∧ d < 31 ∧ ready 0x78 c s = true ∧ e < 31 ∧ c.len = 0 ∧ c.op 1 1 = 2 ∧ 1 ≤ e ∧ e ≤ 10 ∧ c.op 2 1 ≤ 7) ∧
    (
      let det : Nat := 63
      let code : Nat := 0
      let d : Nat := 30
      let c : Cmd := cmd 0x78 [10, 2, 0xFF]
      let s : State := fly c run
      let e := c.op 0 1
      det < 64 ∧ code < 256 ∧ d < 31 ∧ ready 0x78 c s = true ∧ e < 31 ∧ c.len = 0 ∧ c.op 1 1 = 2 ∧ 1 ≤ e ∧ e ≤ 10 ∧ c.op 2 1 = 0xFF) ∧
    (
      let det : Nat := 63
      let code : Nat := 0
      let d : Nat := 30
      let c : Cmd := cmd 0x79 (le 4 (900 + 5 * 2048 + 900 * 2 ^ 20))
      let s : State := fly c run
      let pk := fld (c.op 0 4) 0 11
      let w := fld (c.op 0 4) 11 9
      let l := fld (c.op 0 4) 20 11
      let sound := decide (100 ≤ pk) && decide (pk ≤ 1000) && decide (100 ≤ l) && decide (l ≤ 900) && decide (l ≤ pk) && decide (5
        ≤ w) && decide (w ≤ 500)
      det < 64 ∧ code < 256 ∧ d < 31 ∧ ready 0x79 c s = true ∧ c.len = 0 ∧ sound = true) ∧
    (
      let det : Nat := 63
      let code : Nat := 0
      let d : Nat := 30
      let c : Cmd := cmd 0x79 (le 4 (899 + 5 * 2048 + 900 * 2 ^ 20))
      let s : State := fly c run
      let pk := fld (c.op 0 4) 0 11
      let w := fld (c.op 0 4) 11 9
      let l := fld (c.op 0 4) 20 11
      let sound := decide (100 ≤ pk) && decide (pk ≤ 1000) && decide (100 ≤ l) && decide (l ≤ 900) && decide (l ≤ pk) && decide (5
        ≤ w) && decide (w ≤ 500)
      det < 64 ∧ code < 256 ∧ d < 31 ∧ ready 0x79 c s = true ∧ c.len = 0 ∧ sound = false) ∧
    (
      let det : Nat := 63
      let code : Nat := 0
      let d : Nat := 30
      let c : Cmd := cmd 0x7A [] 1024
      let s : State := fly c run
      det < 64 ∧ code < 256 ∧ d < 31 ∧ ready 0x7A c s = true ∧ c.len = 1024) ∧
    (
      let det : Nat := 63
      let code : Nat := 0
      let d : Nat := 30
      let c : Cmd := cmd 0x7B [15, 0, 1, 2]
      let ans : VrAnswer := { answered := false }
      let s : State := fly c run
      let e := c.op 0 1
      let n := c.op 3 1
      det < 64 ∧ code < 256 ∧ d < 31 ∧ ready 0x7B c s = true ∧ e < 16 ∧ c.op 2 1 < 2 ∧ (n = 1 ∨ n = 2) ∧ c.len = 0 ∧ ans.answered =
        false) ∧
    (
      let det : Nat := 63
      let code : Nat := 0
      let d : Nat := 30
      let c : Cmd := cmd 0x7B [15, 0, 1, 2]
      let ans : VrAnswer := { answered := true }
      let s : State := fly c run
      let e := c.op 0 1
      let n := c.op 3 1
      det < 64 ∧ code < 256 ∧ d < 31 ∧ ready 0x7B c s = true ∧ e < 16 ∧ c.op 2 1 < 2 ∧ (n = 1 ∨ n = 2) ∧ c.len = 0 ∧ ans.answered =
        true ∧ c.op 2 1 = 1) ∧
    (
      let det : Nat := 63
      let code : Nat := 0
      let d : Nat := 30
      let c : Cmd := cmd 0x7B [15, 0x8B, 0, 2]
      let ans : VrAnswer := { answered := true }
      let s : State := fly c run
      let e := c.op 0 1
      let n := c.op 3 1
      det < 64 ∧ code < 256 ∧ d < 31 ∧ ready 0x7B c s = true ∧ e < 16 ∧ c.op 2 1 < 2 ∧ (n = 1 ∨ n = 2) ∧ c.len = 0 ∧ ans.answered =
        true ∧ c.op 2 1 = 0 ∧ c.op 1 1 = 0x8B) ∧
    (
      let det : Nat := 63
      let code : Nat := 0
      let d : Nat := 30
      let c : Cmd := cmd 0x7B [15, 0x8C, 0, 1]
      let ans : VrAnswer := { answered := true }
      let s : State := fly c run
      let e := c.op 0 1
      let n := c.op 3 1
      det < 64 ∧ code < 256 ∧ d < 31 ∧ ready 0x7B c s = true ∧ e < 16 ∧ c.op 2 1 < 2 ∧ (n = 1 ∨ n = 2) ∧ c.len = 0 ∧ ans.answered =
        true ∧ c.op 2 1 = 0 ∧ c.op 1 1 = 0x8C) ∧
    (
      let det : Nat := 63
      let code : Nat := 0
      let d : Nat := 30
      let c : Cmd := cmd 0x7B [15, 0x79, 0, 2]
      let ans : VrAnswer := { answered := true }
      let s : State := fly c run
      let e := c.op 0 1
      let n := c.op 3 1
      det < 64 ∧ code < 256 ∧ d < 31 ∧ ready 0x7B c s = true ∧ e < 16 ∧ c.op 2 1 < 2 ∧ (n = 1 ∨ n = 2) ∧ c.len = 0 ∧ ans.answered =
        true ∧ c.op 2 1 = 0 ∧ c.op 1 1 ≠ 0x8B ∧ c.op 1 1 ≠ 0x8C) := by
  refine ⟨?_, ?_, ?_, ?_, ?_, ?_, ?_, ?_, ?_, ?_, ?_, ?_, ?_, ?_, ?_, ?_, ?_, ?_, ?_, ?_, ?_, ?_, ?_, ?_, ?_, ?_, ?_, ?_, ?_⟩ <;> decide
    +kernel

theorem wit_first_fault :
    (
      let l : List Report := [{ cls := 255, kind := 14, unit := 65535 }]
      (∀ r ∈ l, r.cls < 256 ∧ r.kind < 15 ∧ r.unit < 65536)) ∧
    (
      let c : Cmd := cmd 0x86 []
      let s : State := fly c run
      ready 0x86 c s = true ∧ c.len = 0) ∧
    (
      let s : State := at_ .reset
      s.sys.mode ≠ .off ∧ s.sys.mode ≠ .lockdown) := by
  refine ⟨?_, ?_, ?_⟩ <;> decide +kernel

theorem wit_fault_records :
    (
      let rep : Report := { cls := 255, kind := 14, unit := 65535 }
      let s : State := run
      rep.cls < 256 ∧ rep.kind < 15 ∧ rep.unit < 65536 ∧ s.sys.mode ≠ .off ∧ s.flt.intake = [] ∧ s.flt.blockLost = [] ∧ tryMerge
        rep s.aon s = none ∧ (∀ r ∈ s.flt.recs, r.aon ≠ s.aon) ∧ (∀ a, tget s.flt.ackAt rep.cls = some a → a.1 ≠ s.aon)) ∧
    (
      let rep : Report := { cls := 255, kind := 14, unit := 65535 }
      rep.cls < 256 ∧ rep.kind < 15 ∧ rep.unit < 65536) ∧
    (
      let rep : Report := { cls := 255, kind := 14, unit := 65535 }
      let s : State := { run with flt := { run.flt with recs := [{ cls := 255, kind := 14, unit := 65535, condition := true }] } }
      let r := (clearCondition rep.cls rep.kind rep.unit s).flt.recs.headD {}
      rep.cls < 256 ∧ rep.kind < 15 ∧ rep.unit < 65536 ∧ (r ∈ (clearCondition rep.cls rep.kind rep.unit s).flt.recs ∧ r.cls =
        rep.cls) ∧ r.kind = rep.kind ∧ r.unit = rep.unit ∧ r.condition = true) ∧
    (
      let rep : Report := { cls := 255, kind := 14, unit := 65535 }
      let s : State := { run with flt := { run.flt with served := true } }
      rep.cls < 256 ∧ rep.kind < 15 ∧ rep.unit < 65536 ∧ aliveMode s.sys.mode = true ∧ s.flt.served = true) ∧
    (
      let rep : Report := { cls := 255, kind := 14, unit := 65535 }
      let s : State := at_ .hold
      rep.cls < 256 ∧ rep.kind < 15 ∧ rep.unit < 65536 ∧ (aliveMode s.sys.mode = false ∨ s.flt.served = false)) ∧
    (
      let rep : Report := { cls := 255, kind := 14, unit := 65535 }
      let clock : Nat := 50
      let s : State := at_ .off
      rep.cls < 256 ∧ rep.kind < 15 ∧ rep.unit < 65536 ∧ clock < 51 ∧ clockUnseen clock s = true) ∧
    (
      let rep : Report := { cls := 255, kind := 14, unit := 65535 }
      let clock : Nat := 50
      let found : ClockFound := {}
      let s : State := run
      rep.cls < 256 ∧ rep.kind < 15 ∧ rep.unit < 65536 ∧ clock < 51 ∧ clockUnseen clock s = false ∧ found.hz = 0) ∧
    (
      let rep : Report := { cls := 255, kind := 14, unit := 65535 }
      let clock : Nat := 9
      let found : ClockFound := { hz := 1469999999 }
      let s : State := run
      rep.cls < 256 ∧ rep.kind < 15 ∧ rep.unit < 65536 ∧ clock < 51 ∧ clockUnseen clock s = false ∧ clockOff clock found.hz s =
        true ∧ found.returning = false ∧ clockChanging clock s = false) ∧
    (
      let rep : Report := { cls := 255, kind := 14, unit := 65535 }
      let clock : Nat := 13
      let found : ClockFound := { hz := 1 }
      let s : State := setCluster 3 { changing := some 6 } run
      rep.cls < 256 ∧ rep.kind < 15 ∧ rep.unit < 65536 ∧ clock < 51 ∧ clockUnseen clock s = false ∧ found.hz ≠ 0 ∧ (clockOff clock
        found.hz s = false ∨ found.returning = true ∨ clockChanging clock s = true)) ∧
    (
      let rep : Report := { cls := 255, kind := 14, unit := 65535 }
      let s : State := at_ .reset
      rep.cls < 256 ∧ rep.kind < 15 ∧ rep.unit < 65536 ∧ s.sys.mode ≠ .off ∧ s.sys.mode ≠ .lockdown) ∧
    (
      let rep : Report := { cls := 255, kind := 14, unit := 65535 }
      let s : State := { run with flt := { run.flt with resetArmed := true } }
      rep.cls < 256 ∧ rep.kind < 15 ∧ rep.unit < 65536 ∧ s.sys.mode ≠ .off ∧ s.sys.mode ≠ .lockdown ∧ s.flt.resetArmed = true) ∧
    (
      let rep : Report := { cls := 255, kind := 14, unit := 65535 }
      let v : Byte := 0x5A
      let s : State := run
      rep.cls < 256 ∧ rep.kind < 15 ∧ rep.unit < 65536 ∧ s.sys.mode ≠ .off ∧ s.sys.mode ≠ .lockdown ∧ v ≠ 0xA5 ∧ (v ≠ 0x5A ∨
        s.flt.resetArmed = false)) ∧
    (
      let rep : Report := { cls := 255, kind := 14, unit := 65535 }
      let s : State := run
      rep.cls < 256 ∧ rep.kind < 15 ∧ rep.unit < 65536 ∧ s.sys.mode ≠ .off ∧ s.sys.mode ≠ .lockdown) ∧
    (
      let rep : Report := { cls := 255, kind := 14, unit := 65535 }
      let s : State := at_ .lockdown
      rep.cls < 256 ∧ rep.kind < 15 ∧ rep.unit < 65536 ∧ s.sys.mode = .lockdown) := by
  refine ⟨?_, ?_, ?_, ?_, ?_, ?_, ?_, ?_, ?_, ?_, ?_, ?_, ?_, ?_⟩ <;> decide +kernel

theorem wit_fault_commands :
    (
      let kind : Nat := 12
      let ix : Nat := 3
      let found : TestFound := {}
      let c : Cmd := cmd 0x80 (List.replicate 32 255)
      let s : State := fly c run
      ready 0x80 c s = true ∧ c.len = 0) ∧
    (
      let kind : Nat := 12
      let ix : Nat := 3
      let found : TestFound := {}
      let c : Cmd := cmd 0x81 [0] 64
      let s : State := fly c run
      let w := c.op 0 1
      ready 0x81 c s = true ∧ w = 0 ∧ c.len = 64) ∧
    (
      let kind : Nat := 12
      let ix : Nat := 3
      let found : TestFound := {}
      let c : Cmd := cmd 0x81 [1] 1024
      let s : State := fly c run
      let w := c.op 0 1
      ready 0x81 c s = true ∧ w = 1 ∧ c.len = 1024) ∧
    (
      let kind : Nat := 12
      let ix : Nat := 3
      let found : TestFound := {}
      let c : Cmd := cmd 0x81 [2] 16384
      let s : State := fly c run
      let w := c.op 0 1
      ready 0x81 c s = true ∧ w = 2 ∧ c.len = 16384) ∧
    (
      let kind : Nat := 12
      let ix : Nat := 3
      let found : TestFound := {}
      let c : Cmd := cmd 0x81 [3] 1280
      let s : State := fly c run
      let w := c.op 0 1
      ready 0x81 c s = true ∧ w = 3 ∧ c.len = 1280) ∧
    (
      let kind : Nat := 12
      let ix : Nat := 3
      let found : TestFound := {}
      let c : Cmd := cmd 0x82 [255, 0, 0, 0, 1]
      let s : State := fly c run
      ready 0x82 c s = true ∧ c.len = 0 ∧ c.op 4 1 = 1) ∧
    (
      let kind : Nat := 12
      let ix : Nat := 3
      let found : TestFound := {}
      let c : Cmd := cmd 0x82 [244, 1, 5, 0, 0]
      let s : State := fly c run
      let w := c.op 0 1
      ready 0x82 c s = true ∧ c.len = 0 ∧ c.op 4 1 = 0 ∧ Reg.clsFixed w = true) ∧
    (
      let kind : Nat := 12
      let ix : Nat := 3
      let found : TestFound := {}
      let c : Cmd := cmd 0x82 [255, 5, 4, 0, 0]
      let s : State := fly c run
      let w := c.op 0 1
      ready 0x82 c s = true ∧ c.len = 0 ∧ c.op 4 1 = 0 ∧ Reg.clsFixed w = false ∧ classCfgOk (c.op 1 1) (c.op 2 1) = false) ∧
    (
      let kind : Nat := 12
      let ix : Nat := 3
      let found : TestFound := {}
      let c : Cmd := cmd 0x82 [255, 5, 5, 255, 0]
      let s : State := fly c run
      let w := c.op 0 1
      ready 0x82 c s = true ∧ c.len = 0 ∧ c.op 4 1 = 0 ∧ Reg.clsFixed w = false ∧ classCfgOk (c.op 1 1) (c.op 2 1) = true) ∧
    (
      let kind : Nat := 12
      let ix : Nat := 3
      let found : TestFound := {}
      let c : Cmd := cmd 0x83 [2, 0, 0xFF, 3]
      let s : State := fly c (unitAt 2 1023 { state := .testing })
      let w := c.op 0 1
      let k := c.op 2 2
      let x := getUnit w k s
      ready 0x83 c s = true ∧ k < kindCount w ∧ c.len = 0 ∧ c.op 4 1 ≤ 1 ∧ x.state ≠ .inService) ∧
    (
      let kind : Nat := 12
      let ix : Nat := 3
      let found : TestFound := {}
      let c : Cmd := cmd 0x83 [5, 0, 255, 0, 1]
      let s : State := fly c (fence 5 254 run)
      let w := c.op 0 1
      let k := c.op 2 2
      let x := getUnit w k s
      let kept := !unitExists w k s || unitKept w k s || twinDrains w k s
      ready 0x83 c s = true ∧ k < kindCount w ∧ c.len = 0 ∧ c.op 4 1 ≤ 1 ∧ x.state = .inService ∧ kept = true) ∧
    (
      let kind : Nat := 12
      let ix : Nat := 3
      let found : TestFound := {}
      let c : Cmd := cmd 0x83 [5, 0, 255, 0, 1]
      let s : State := fly c run
      let w := c.op 0 1
      let k := c.op 2 2
      let x := getUnit w k s
      let kept := !unitExists w k s || unitKept w k s || twinDrains w k s
      ready 0x83 c s = true ∧ k < kindCount w ∧ c.len = 0 ∧ c.op 4 1 ≤ 1 ∧ x.state = .inService ∧ kept = false ∧ c.op 4 1 = 1) ∧
    (
      let kind : Nat := 12
      let ix : Nat := 3
      let found : TestFound := {}
      let c : Cmd := cmd 0x83 [5, 0, 255, 0]
      let s : State := fly c run
      let w := c.op 0 1
      let k := c.op 2 2
      let x := getUnit w k s
      let kept := !unitExists w k s || unitKept w k s || twinDrains w k s
      ready 0x83 c s = true ∧ k < kindCount w ∧ c.len = 0 ∧ c.op 4 1 ≤ 1 ∧ x.state = .inService ∧ kept = false ∧ c.op 4 1 = 0 ∧
        drainKind w = true ∧ x.draining = none) ∧
    (
      let kind : Nat := 12
      let ix : Nat := 3
      let found : TestFound := {}
      let c : Cmd := cmd 0x83 [10, 0, 63, 0]
      let s : State := fly c (unitAt 10 63 { draining := some {} })
      let w := c.op 0 1
      let k := c.op 2 2
      let x := getUnit w k s
      let kept := !unitExists w k s || unitKept w k s || twinDrains w k s
      ready 0x83 c s = true ∧ k < kindCount w ∧ c.len = 0 ∧ c.op 4 1 ≤ 1 ∧ x.state = .inService ∧ kept = false ∧ c.op 4 1 = 0 ∧
        drainKind w = true ∧ x.draining.isSome = true) ∧
    (
      let kind : Nat := 12
      let ix : Nat := 3
      let found : TestFound := {}
      let c : Cmd := cmd 0x83 [2, 0, 0xFF, 3]
      let s : State := fly c ports
      let w := c.op 0 1
      let k := c.op 2 2
      let x := getUnit w k s
      let kept := !unitExists w k s || unitKept w k s || twinDrains w k s
      ready 0x83 c s = true ∧ k < kindCount w ∧ c.len = 0 ∧ c.op 4 1 ≤ 1 ∧ x.state = .inService ∧ kept = false ∧ c.op 4 1 = 0 ∧
        drainKind w = false) ∧
    (
      let kind : Nat := 12
      let ix : Nat := 3
      let found : TestFound := {}
      let c : Cmd := cmd 0x83 [14]
      let s : State := fly c run
      let w := c.op 0 1
      (w = 0 ∨ w = 13 ∨ w = 14) ∧ ready 0x83 c s = true ∧ c.len = 0 ∧ c.op 4 1 ≤ 1) ∧
    (
      let kind : Nat := 12
      let ix : Nat := 3
      let found : TestFound := {}
      let c : Cmd := cmd 0x80 (List.replicate 32 255)
      let s : State := run
      let y := getUnit kind ix s
      ix < kindCount kind ∧ (y.draining = none ∨ drained kind ix s = false)) ∧
    (
      let kind : Nat := 10
      let ix : Nat := 63
      let found : TestFound := {}
      let c : Cmd := cmd 0x80 (List.replicate 32 255)
      let s : State := unitAt 10 63 { draining := some {} }
      let y := getUnit kind ix s
      ix < kindCount kind ∧ y.draining ≠ none ∧ drained kind ix s = true ∧ unitKept kind ix s = false) ∧
    (
      let kind : Nat := 5
      let ix : Nat := 255
      let found : TestFound := {}
      let c : Cmd := cmd 0x80 (List.replicate 32 255)
      let s : State := setUnit 5 255 { draining := some {} } (fence 5 254 run)
      let y := getUnit kind ix s
      ix < kindCount kind ∧ y.draining ≠ none ∧ drained kind ix s = true ∧ unitKept kind ix s = true ∧ kind = 5) ∧
    (
      let kind : Nat := 10
      let ix : Nat := 3
      let found : TestFound := {}
      let c : Cmd := cmd 0x80 (List.replicate 32 255)
      let s : State := setUnit 10 3 { draining := some {} } (fence 10 2 run)
      let y := getUnit kind ix s
      ix < kindCount kind ∧ y.draining ≠ none ∧ drained kind ix s = true ∧ unitKept kind ix s = true ∧ kind ≠ 5) ∧
    (
      let kind : Nat := 12
      let ix : Nat := 3
      let found : TestFound := {}
      let c : Cmd := cmd 0x80 (List.replicate 32 255)
      let s : State := run
      let y := getUnit kind ix s
      ix < kindCount kind ∧ y.state ≠ .testing) ∧
    (
      let kind : Nat := 12
      let ix : Nat := 3
      let found : TestFound := { errors := 1 }
      let c : Cmd := cmd 0x80 (List.replicate 32 255)
      let s : State := unitAt 12 3 { state := .testing, testCmd := some {} }
      let y := getUnit kind ix s
      let passed := testPassed kind found && !y.faulted
      let r := {}
      ix < kindCount kind ∧ y.state = .testing ∧ y.testCmd = some r ∧ passed = true) ∧
    (
      let kind : Nat := 12
      let ix : Nat := 3
      let found : TestFound := { errors := 2 }
      let c : Cmd := cmd 0x80 (List.replicate 32 255)
      let s : State := unitAt 12 3 { state := .testing, testCmd := some {} }
      let y := getUnit kind ix s
      let passed := testPassed kind found && !y.faulted
      let r := {}
      ix < kindCount kind ∧ y.state = .testing ∧ y.testCmd = some r ∧ passed = false) ∧
    (
      let kind : Nat := 12
      let ix : Nat := 3
      let found : TestFound := {}
      let c : Cmd := cmd 0x84 [12, 0, 3]
      let s : State := fly c (fence 12 3 run)
      let w := c.op 0 1
      let k := c.op 2 2
      let x := getUnit w k s
      ready 0x84 c s = true ∧ k < kindCount w ∧ c.len = 0 ∧ x.state = .fenced) ∧
    (
      let kind : Nat := 12
      let ix : Nat := 3
      let found : TestFound := {}
      let c : Cmd := cmd 0x84 [12, 0, 3]
      let s : State := fly c run
      let w := c.op 0 1
      let k := c.op 2 2
      let x := getUnit w k s
      ready 0x84 c s = true ∧ k < kindCount w ∧ c.len = 0 ∧ x.state = .inService) ∧
    (
      let kind : Nat := 12
      let ix : Nat := 3
      let found : TestFound := {}
      let c : Cmd := cmd 0x84 [12, 0, 3]
      let s : State := fly c (unitAt 12 3 { state := .testing })
      let w := c.op 0 1
      let k := c.op 2 2
      let x := getUnit w k s
      ready 0x84 c s = true ∧ k < kindCount w ∧ c.len = 0 ∧ x.state = .testing) ∧
    (
      let kind : Nat := 12
      let ix : Nat := 3
      let found : TestFound := {}
      let c : Cmd := cmd 0x85 [12, 0, 3]
      let s : State := fly c (unitAt 12 3 { state := .fenced, passed := true })
      let w := c.op 0 1
      let k := c.op 2 2
      let x := getUnit w k s
      ready 0x85 c s = true ∧ k < kindCount w ∧ c.len = 0 ∧ x.state = .fenced ∧ x.passed = true) ∧
    (
      let kind : Nat := 12
      let ix : Nat := 3
      let found : TestFound := {}
      let c : Cmd := cmd 0x85 [12, 0, 3]
      let s : State := fly c (fence 12 3 run)
      let w := c.op 0 1
      let k := c.op 2 2
      let x := getUnit w k s
      ready 0x85 c s = true ∧ k < kindCount w ∧ c.len = 0 ∧ x.state = .fenced ∧ x.passed = false) ∧
    (
      let kind : Nat := 12
      let ix : Nat := 3
      let found : TestFound := {}
      let c : Cmd := cmd 0x85 [12, 0, 3]
      let s : State := fly c run
      let w := c.op 0 1
      let k := c.op 2 2
      let x := getUnit w k s
      ready 0x85 c s = true ∧ k < kindCount w ∧ c.len = 0 ∧ x.state = .inService) ∧
    (
      let kind : Nat := 12
      let ix : Nat := 3
      let found : TestFound := {}
      let c : Cmd := cmd 0x85 [12, 0, 3]
      let s : State := fly c (unitAt 12 3 { state := .testing })
      let w := c.op 0 1
      let k := c.op 2 2
      let x := getUnit w k s
      ready 0x85 c s = true ∧ k < kindCount w ∧ c.len = 0 ∧ x.state = .testing) ∧
    (
      let kind : Nat := 12
      let ix : Nat := 3
      let found : TestFound := {}
      let c : Cmd := cmd 0x87 [3]
      let s : State := fly c { at_ .diag with regs := run.regs }
      let w := c.op 0 1
      ready 0x87 c s = true ∧ c.len = 0 ∧ w < 4) ∧
    (
      let kind : Nat := 12
      let ix : Nat := 3
      let found : TestFound := {}
      let c : Cmd := { cmd 0x87 [3] with stage := .fetched }
      let s : State := fly c run
      findCmd c.ref s = some c ∧ s.sys.mode.engine = true ∧ c.opcode = 0x87 ∧ c.stage = .fetched ∧ startable c s = true ∧
        s.sys.mode ≠ .diag) := by
  refine ⟨?_, ?_, ?_, ?_, ?_, ?_, ?_, ?_, ?_, ?_, ?_, ?_, ?_, ?_, ?_, ?_, ?_, ?_, ?_, ?_, ?_, ?_, ?_, ?_, ?_, ?_, ?_, ?_, ?_, ?_, ?_, ?_⟩
    <;> decide +kernel

theorem wit_reset_and_power :
    (
      let s : State := at_ .off
      s.sys.mode = .off) ∧
    (
      let s : State := at_ .reset
      s.sys.mode ≠ .off) ∧
    (
      let s : State := at_ .off
      s.sys.mode = .off) ∧
    (
      let rail : Nat := 4
      rail < 5) ∧
    (
      let c : Cmd := cmd 0xB1 [0x5A]
      let s : State := fly c run
      ready 0xB1 c s = true ∧ c.len = 0 ∧ c.op 0 1 = 0x5A) ∧
    (
      let s : State := at_ .lockdown
      (s.sys.mode = .off ∨ s.sys.mode = .lockdown)) ∧
    (
      let k : Nat := 6
      let s : State := at_ .reset
      s.sys.mode ≠ .off ∧ s.sys.mode ≠ .lockdown) ∧
    (
      let s : State := at_ .reset
      s.sys.mode = .reset ∧ s.sys.fuseError = false) ∧
    (
      let s : State := { at_ .reset with sys := { mode := .reset, fuseError := true } }
      s.sys.mode = .reset ∧ s.sys.fuseError = true) ∧
    (
      let s : State := at_ .reset
      s.sys.mode = .reset ∧ s.sys.fuseError = false) ∧
    (
      let s : State := at_ .wipe
      s.sys.mode ≠ .reset) ∧
    (
      let found : WipeFound := {}
      let s : State := at_ .wipe
      s.sys.mode = .wipe ∧ (found.units.all fun u => decide (u.1 < 15) && decide (u.2 < 65536)) = true ∧ (∀ ch, ch < 32 → (getMChan
        ch s).st ≠ .training)) ∧
    (
      let found : WipeFound := {}
      let s : State := { wiping { st := .training } with aon := 0 }
      (found.units.all fun u => decide (u.1 < 15) && decide (u.2 < 65536)) = true ∧ (s.sys.mode ≠ .wipe ∨ ((List.range 32).any fun
        ch => decide ((getMChan ch s).st = .training)) = true)) ∧
    (
      let n : Nat := 30
      let s : State := at_ .lockdown
      n < 32 ∧ s.sys.mode ≠ .off) ∧
    (
      let n : Nat := 30
      let s : State := at_ .off
      n < 32 ∧ s.sys.mode = .off) := by
  refine ⟨?_, ?_, ?_, ?_, ?_, ?_, ?_, ?_, ?_, ?_, ?_, ?_, ?_, ?_, ?_⟩ <;> decide +kernel

theorem wit_boot_and_modes :
    (
      let slotA : List Byte := []
      let slotB : List Byte := []
      let c : Cmd := cmd 0xB0 [5]
      let s : State := inSys { mode := .boot, straps := 3 }
      let x : Nat × List Byte := if bootSrc s = 3 ∨ imgVersion slotA < imgVersion slotB then (1, slotB) else (0, slotA)
      let f := 240
      s.sys.mode = .boot ∧ s.sys.hostWait = false ∧ s.sys.bootBusy = false ∧ bootSrc s ≠ 1 ∧ imageFault x.2 s = some f ∧ bootSrc s
        = 3) ∧
    (
      let slotA : List Byte := []
      let slotB : List Byte := []
      let c : Cmd := cmd 0xB0 [5]
      let s : State := at_ .boot
      let x : Nat × List Byte := if bootSrc s = 3 ∨ imgVersion slotA < imgVersion slotB then (1, slotB) else (0, slotA)
      let y : Nat × List Byte := if imgVersion slotA < imgVersion slotB then (0, slotA) else (1, slotB)
      let f := 240
      let g := 240
      let t := report f 0 0 (le 8 x.1) s
      s.sys.mode = .boot ∧ s.sys.hostWait = false ∧ s.sys.bootBusy = false ∧ bootSrc s ≠ 1 ∧ imageFault x.2 s = some f ∧ bootSrc s
        ≠ 3 ∧ imageFault y.2 t = some g) ∧
    (
      let slotA : List Byte := []
      let slotB : List Byte := []
      let c : Cmd := cmd 0xB0 [5]
      let s : State := at_ .boot
      s.sys.mode = .boot ∧ s.sys.hostWait = false ∧ s.sys.bootBusy = false ∧ bootSrc s ≠ 1) ∧
    (
      let slotA : List Byte := []
      let slotB : List Byte := []
      let c : Cmd := cmd 0xB0 [5]
      let s : State := run
      s.sys.mode ≠ .boot) ∧
    (
      let slotA : List Byte := []
      let slotB : List Byte := []
      let v : Word := 0x1000000
      let c : Cmd := cmd 0xB0 [5]
      let s : State := inSys { mode := .boot, hostWait := true }
      s.sys.mode = .boot ∧ s.sys.hostWait = true ∧ s.sys.bootBusy = false ∧ bitAt v.toNat 24 = true) ∧
    (
      let slotA : List Byte := []
      let slotB : List Byte := []
      let image : List Byte := []
      let c : Cmd := cmd 0xB0 [5]
      let s : State := inSys { mode := .boot, bootBusy := true }
      let n := rdFld Reg.sysHostBootCtrl 0 0 23 s
      let f := 240
      s.sys.mode = .boot ∧ s.sys.bootBusy = true ∧ n ≤ 4194304 ∧ imageFault (image.take n) s = some f) ∧
    (
      let slotA : List Byte := []
      let slotB : List Byte := []
      let c : Cmd := cmd 0xB0 [5]
      let s : State := fly c run
      let m := c.op 0 1
      ready 0xB0 c s = true ∧ c.len = 0 ∧ (m = 4 ∨ m = 5 ∨ m = 7 ∨ m = 8 ∨ m = 11) ∧ m = s.sys.mode.num) ∧
    (
      let slotA : List Byte := []
      let slotB : List Byte := []
      let c : Cmd := cmd 0xB0 [5]
      let s : State := fly c (inSys { mode := .staged })
      let m := c.op 0 1
      ready 0xB0 c s = true ∧ c.len = 0 ∧ (m = 4 ∨ m = 5 ∨ m = 7 ∨ m = 8 ∨ m = 11) ∧ m = 5 ∧ s.sys.mode = .staged) ∧
    (
      let slotA : List Byte := []
      let slotB : List Byte := []
      let c : Cmd := cmd 0xB0 [5]
      let s : State := fly c (inSys { mode := .degraded })
      let m := c.op 0 1
      ready 0xB0 c s = true ∧ c.len = 0 ∧ (m = 4 ∨ m = 5 ∨ m = 7 ∨ m = 8 ∨ m = 11) ∧ m = 5 ∧ s.sys.mode = .degraded) ∧
    (
      let slotA : List Byte := []
      let slotB : List Byte := []
      let c : Cmd := cmd 0xB0 [7]
      let s : State := fly c (mesh (job 0 .free []) [])
      let m := c.op 0 1
      ready 0xB0 c s = true ∧ c.len = 0 ∧ (m = 4 ∨ m = 5 ∨ m = 7 ∨ m = 8 ∨ m = 11) ∧ m = 7 ∧ (s.sys.mode = .forward ∨ s.sys.mode =
        .degraded) ∧ (s.col.jobs.any fun e => e.2.st != .free) = false) ∧
    (
      let slotA : List Byte := []
      let slotB : List Byte := []
      let c : Cmd := cmd 0xB0 [7]
      let s : State := fly c (mesh (job 0 .failed []) [])
      let m := c.op 0 1
      ready 0xB0 c s = true ∧ c.len = 0 ∧ (m = 4 ∨ m = 5 ∨ m = 7 ∨ m = 8 ∨ m = 11) ∧ m = 7 ∧ (s.sys.mode = .forward ∨ s.sys.mode =
        .degraded) ∧ (s.col.jobs.any fun e => e.2.st != .free) = true) ∧
    (
      let slotA : List Byte := []
      let slotB : List Byte := []
      let c : Cmd := cmd 0xB0 [8]
      let s : State := fly c (inSys { mode := .staged })
      let m := c.op 0 1
      ready 0xB0 c s = true ∧ c.len = 0 ∧ (m = 4 ∨ m = 5 ∨ m = 7 ∨ m = 8 ∨ m = 11) ∧ m = 8 ∧ s.sys.mode = .staged ∧ portsIdle s =
        true) ∧
    (
      let slotA : List Byte := []
      let slotB : List Byte := []
      let c : Cmd := cmd 0xB0 [4]
      let s : State := fly c (inSys { mode := .doze })
      let m := c.op 0 1
      ready 0xB0 c s = true ∧ c.len = 0 ∧ (m = 4 ∨ m = 5 ∨ m = 7 ∨ m = 8 ∨ m = 11) ∧ m = 4 ∧ s.sys.mode = .doze) ∧
    (
      let slotA : List Byte := []
      let slotB : List Byte := []
      let c : Cmd := cmd 0xB0 [11]
      let s : State := fly c (inSys { mode := .staged, lifecycle := .field, debug := 2 })
      let m := c.op 0 1
      ready 0xB0 c s = true ∧ c.len = 0 ∧ (m = 4 ∨ m = 5 ∨ m = 7 ∨ m = 8 ∨ m = 11) ∧ m = 11 ∧ s.sys.mode = .staged ∧ diagAllowed s
        = true) ∧
    (
      let slotA : List Byte := []
      let slotB : List Byte := []
      let c : Cmd := cmd 0xB0 [7]
      let s : State := fly c (inSys { mode := .staged })
      let m := c.op 0 1
      ready 0xB0 c s = true ∧ c.len = 0 ∧ (m = 4 ∨ m = 5 ∨ m = 7 ∨ m = 8 ∨ m = 11) ∧ m = 7 ∧ s.sys.mode = .staged) ∧
    (
      let slotA : List Byte := []
      let slotB : List Byte := []
      let c : Cmd := cmd 0xB0 [5]
      let s : State := setQ 20479 {} (at_ .drain)
      s.sys.mode = .drain ∧ allQueuesEmpty s = true) ∧
    (
      let slotA : List Byte := []
      let slotB : List Byte := []
      let c : Cmd := cmd 0xB0 [5]
      let s : State := setQ 20479 { pkts := [0] } (at_ .drain)
      (s.sys.mode ≠ .drain ∨ allQueuesEmpty s = false)) ∧
    (
      let slotA : List Byte := []
      let slotB : List Byte := []
      let c : Cmd := cmd 0xB0 [5]
      let s : State := run
      s.sys.mode ≠ .drain) ∧
    (
      let slotA : List Byte := []
      let slotB : List Byte := []
      let c : Cmd := cmd 0xB0 [5]
      let s : State := at_ .drain
      s.sys.mode = .drain) := by
  refine ⟨?_, ?_, ?_, ?_, ?_, ?_, ?_, ?_, ?_, ?_, ?_, ?_, ?_, ?_, ?_, ?_, ?_, ?_, ?_⟩ <;> decide +kernel

theorem wit_life_cycle_commands :
    (
      let c : Cmd := cmd 0xB2 [1, 3] 144
      let bs : List Byte := []
      let code : Byte := 0x7F
      let scan : TapScan := {}
      let s : State := fly c (inSys { mode := .staged })
      let k := c.op 0 1
      ready 0xB2 c s = true ∧ s.sys.mode = .staged ∧ k = 1 ∧ 1 ≤ c.op 1 1 ∧ c.op 1 1 ≤ 3 ∧ c.len = 48 * c.op 1 1 ∧ s.sys.lifecycle
        = .blank) ∧
    (
      let c : Cmd := cmd 0xB2 [2]
      let bs : List Byte := []
      let code : Byte := 0x7F
      let scan : TapScan := {}
      let s : State := fly c (inSys { mode := .staged, lifecycle := .provisioned, keySlot := 1 })
      let k := c.op 0 1
      ready 0xB2 c s = true ∧ s.sys.mode = .staged ∧ k = 2 ∧ c.len = 0 ∧ s.sys.lifecycle = .provisioned ∧ 1 ≤ s.sys.keySlot) ∧
    (
      let c : Cmd := cmd 0xB2 [3]
      let bs : List Byte := []
      let code : Byte := 0x7F
      let scan : TapScan := {}
      let s : State := fly c (inSys { mode := .staged, lifecycle := .field })
      let k := c.op 0 1
      ready 0xB2 c s = true ∧ s.sys.mode = .staged ∧ k = 3 ∧ c.len = 0 ∧ s.sys.lifecycle ≠ .retired) ∧
    (
      let c : Cmd := cmd 0xB2 [2]
      let bs : List Byte := []
      let code : Byte := 0x7F
      let scan : TapScan := {}
      let s : State := fly c (inSys { mode := .staged, lifecycle := .field })
      let k := c.op 0 1
      ready 0xB2 c s = true ∧ s.sys.mode = .staged ∧ k = 2 ∧ c.len = 0 ∧ s.sys.lifecycle ≠ .provisioned) ∧
    (
      let c : Cmd := cmd 0xB2 [3]
      let bs : List Byte := []
      let code : Byte := 0x7F
      let scan : TapScan := {}
      let s : State := fly c run
      let k := c.op 0 1
      ready 0xB2 c s = true ∧ s.sys.mode ≠ .staged ∧ k = 3 ∧ c.len = 0) ∧
    (
      let c : Cmd := cmd 0xB3 []
      let bs : List Byte := []
      let code : Byte := 0x7F
      let scan : TapScan := {}
      let s : State := fly c run
      ready 0xB3 c s = true ∧ c.len = 0) ∧
    (
      let c : Cmd := cmd 0xB4 [3] 64
      let bs : List Byte := []
      let code : Byte := 0x7F
      let scan : TapScan := {}
      let s : State := fly c run
      let k := c.op 0 1
      ready 0xB4 c s = true ∧ k < 4 ∧ c.len = 64) ∧
    (
      let c : Cmd := cmd 0xB5 [3, 3] 192
      let bs : List Byte := []
      let code : Byte := 0x7F
      let scan : TapScan := {}
      let s : State := fly c (inSys { mode := .staged, unlockFails := 8 })
      let k := c.op 0 1
      ready 0xB5 c s = true ∧ c.len = 192 ∧ k < 4 ∧ 1 ≤ c.op 1 1 ∧ c.op 1 1 < 4 ∧ 8 ≤ s.sys.unlockFails) ∧
    (
      let c : Cmd := cmd 0xB5 [3, 3] 192
      let bs : List Byte := []
      let code : Byte := 0x7F
      let scan : TapScan := {}
      let s : State := fly c (inSys { mode := .staged, unlockFails := 7 })
      let k := c.op 0 1
      ready 0xB5 c s = true ∧ c.len = 192 ∧ k < 4 ∧ 1 ≤ c.op 1 1 ∧ c.op 1 1 < 4 ∧ s.sys.unlockFails < 8 ∧ s.sys.nonce = none) ∧
    (
      let c : Cmd := cmd 0xB5 [3, 3] 192
      let bs : List Byte := []
      let code : Byte := 0x7F
      let scan : TapScan := {}
      let s : State := fly c (inSys { mode := .staged, unlockFails := 7, nonce := some {} })
      let u := started c s
      let k := c.op 0 1
      let b := fit c.len bs
      let voided : State := { u with sys := { s.sys with nonce := none } }
      let n := {}
      ready 0xB5 c s = true ∧ c.len = 192 ∧ k < 4 ∧ 1 ≤ c.op 1 1 ∧ c.op 1 1 < 4 ∧ s.sys.unlockFails < 8 ∧ s.sys.nonce = some n ∧
        unlockOk b n.bytes (c.op 1 1) k voided = false) ∧
    (
      let c : Cmd := cmd 0xB6 [1, 0, 0, 0, 0, 0, 0x3F, 0] 65536
      let bs : List Byte := []
      let code : Byte := 0x7F
      let scan : TapScan := {}
      let s : State := fly c run
      let k := c.op 0 1
      ready 0xB6 c s = true ∧ k < 2 ∧ c.op 4 4 % 65536 = 0 ∧ c.len % 65536 = 0 ∧ c.op 4 4 + c.len ≤ 4194304 ∧ (s.sys.image = [] ∨
        s.sys.hostImage = true ∨ s.sys.imageSlot ≠ k)) ∧
    (
      let c : Cmd := cmd 0xB6 [1, 0, 0, 0, 0, 0, 0x3F, 0] 65536
      let bs : List Byte := []
      let code : Byte := 0x7F
      let scan : TapScan := {}
      let s : State := fly c (inSys { mode := .staged, image := [0], imageSlot := 1 })
      let k := c.op 0 1
      ready 0xB6 c s = true ∧ k < 2 ∧ c.op 4 4 % 65536 = 0 ∧ c.len % 65536 = 0 ∧ c.op 4 4 + c.len ≤ 4194304 ∧ s.sys.image ≠ [] ∧
        s.sys.hostImage = false ∧ s.sys.imageSlot = k) ∧
    (
      let c : Cmd := cmd 0xB7 [3]
      let bs : List Byte := []
      let code : Byte := 0x7F
      let scan : TapScan := {}
      let s : State := fly c (inSys { mode := .staged, lifecycle := .field, keyHash := [(2, [0])] })
      let k := c.op 0 1
      ready 0xB7 c s = true ∧ 1 ≤ k ∧ k ≤ 3 ∧ c.len = 0 ∧ (s.sys.image = [] ∨ s.sys.keySlot ≠ k) ∧ (∃ i, i < 4 ∧ i ≠ k ∧
        slotAllowed i s = true)) ∧
    (
      let c : Cmd := cmd 0xB7 [3]
      let bs : List Byte := []
      let code : Byte := 0x7F
      let scan : TapScan := {}
      let s : State := fly c (inSys { mode := .staged, image := [0], keySlot := 3 })
      let k := c.op 0 1
      ready 0xB7 c s = true ∧ 1 ≤ k ∧ k ≤ 3 ∧ c.len = 0 ∧ s.sys.image ≠ [] ∧ s.sys.keySlot = k) ∧
    (
      let c : Cmd := cmd 0xB2 [1, 3] 144
      let bs : List Byte := []
      let code : Byte := 0x7F
      let scan : TapScan := {}
      let s : State := at_ .off
      s.sys.mode = .off) ∧
    (
      let c : Cmd := cmd 0xB2 [1, 3] 144
      let bs : List Byte := []
      let code : Byte := 0xFE
      let scan : TapScan := { tdi := [{}] }
      let s : State := at_ .lockdown
      s.sys.mode ≠ .off) ∧
    (
      let c : Cmd := cmd 0xB2 [1, 3] 144
      let bs : List Byte := []
      let code : Byte := 0
      let scan : TapScan := {}
      let s : State := at_ .diag
      s.sys.mode ≠ .off ∧ scan.tdi = []) ∧
    (
      let c : Cmd := cmd 0xB2 [1, 3] 144
      let bs : List Byte := []
      let code : Byte := 0x7F
      let scan : TapScan := { pins := [true], tdi := [{ value := true, enable := true }] }
      let s : State := at_ .lockdown
      s.sys.mode ≠ .off ∧ scan.tdi ≠ []) := by
  refine ⟨?_, ?_, ?_, ?_, ?_, ?_, ?_, ?_, ?_, ?_, ?_, ?_, ?_, ?_, ?_, ?_, ?_, ?_⟩ <;> decide +kernel

theorem wit_every_command_answers :
    (
      let c : Instr := .doorbell 255 0
      wellFormed c = true) ∧
    (
      let c : Instr := .doorbell 256 0
      wellFormed c = false) := by
  refine ⟨?_, ?_⟩ <;> decide +kernel

/-- The witness of WideRegisters: the base register of ring 255, its latch and its hold empty or full. -/
theorem wit_wide_register : ∃ r n,
    let a := 0x402FE0
    let full := { run with latch := [(a, some 1)], hold := [(a, some 2)] }
    findReg a = some (r, n, 0) ∧ findReg (a + 4) = some (r, n, 1) ∧ r.desc.wide = true ∧
    (a < 0x4000000 ∧ a % 4 = 0 ∧ readServed a run = true ∧ readServed (a + 4) run = true ∧ r.takes n run = true ∧
      tget run.latch a = none ∧ tget run.hold a = none ∧ run.sys.mode ≠ .lockdown) ∧
    (readServed a full = true ∧ readServed (a + 4) full = true ∧ r.takes n full = true ∧
      tget full.latch a = some 1 ∧ tget full.hold a = some 2 ∧ full.sys.mode ≠ .lockdown) := by
  refine ⟨_, _, rfl, rfl, rfl, ?_, ?_⟩ <;> decide +kernel

/-- The two clauses of ServedWindows about a 32-bit register: HIF_DMA_CFG[63], at each byte of its word. -/
theorem wit_served_register : ∃ r n, let a := 0x4033F0
    findReg a = some (r, n, 0) ∧ r.desc.wide = false ∧
    (a < 0x4000000 ∧ a % 4 = 0 ∧ 3 < 4 ∧ readServed a run = true ∧ writeServed a run = true) := by
  refine ⟨_, _, rfl, rfl, ?_⟩; decide +kernel

/-- The last clause of ParseThreads: the last word of pipe 15, with no upset. -/
theorem wit_parse_read : let c := cmd 0xA8 [15, 0, 0xFF, 15, 1, 0] 32
    let s := fly c run
    (ready 0xA8 c s = true ∧ c.op 0 1 < 16 ∧ 1 ≤ c.op 4 2 ∧ c.op 4 2 ≤ 4096 ∧ c.op 2 2 + c.op 4 2 ≤ 4096 ∧
      c.len = 32 * c.op 4 2 ∧ (getUnit 4 (c.op 0 1) s).state ≠ .fenced) ∧
    ∀ a, a < 4096 → upsetOf memParse (c.op 0 1 * 4096 + a) s = 0 :=
  ⟨by decide +kernel, fun _ _ => rfl⟩

/-- LPM_ADD without room: 524,289 prefixes of 128 bits take four units each. -/
def manyPrefixes : Tab LpmRes := (List.range 524289).map fun i => (257 * 2 ^ 128 + i, { dk := 2 })
theorem manyPrefixes_used : manyPrefixes.foldl (fun a e => a + lpmUnits e.1) 0 = 2097156 := by
  have u : ∀ i ∈ List.range 524289, lpmUnits (257 * 2 ^ 128 + i) = 4 := by
    intro i h
    have := List.mem_range.1 h
    have d : (257 * 2 ^ 128 + i) / 2 ^ 128 = 257 := by omega
    rw [lpmUnits, d]; rfl
  have g : ∀ (l : List Nat) (a : Nat), (∀ i ∈ l, lpmUnits (257 * 2 ^ 128 + i) = 4) →
      l.foldl (fun a i => a + lpmUnits (257 * 2 ^ 128 + i)) a = a + 4 * l.length := by
    intro l
    induction l with
    | nil => intro a _; rfl
    | cons x l ih =>
      intro a h
      rw [List.foldl_cons, h x List.mem_cons_self, ih _ fun i hi => h i (List.mem_cons_of_mem x hi), List.length_cons]; omega
  rw [manyPrefixes, List.foldl_map]
  exact (g _ 0 u).trans (by rw [List.length_range])
theorem prefix_table_full {t : Tab LpmRes} (h : t.foldl (fun a e => a + lpmUnits e.1) 0 = 2097156) (key : Nat)
    (k : lpmUnits key = 1) (s : State) (e : s.tbl.lpm = t) :
    2097152 < lpmUsed s - (if tget s.tbl.lpm key = {} then 0 else lpmUnits key) + lpmUnits key := by
  rw [lpmUsed, e, h, k]; split <;> decide
/-- A table that is full, with any key of one unit; the other conditions on a command that adds one. -/
theorem wit_prefix_table_full : let c := cmd 0x18 ([0xFF, 15, 4, 32] ++ fit 16 [1, 2, 3, 4] ++ [7])
    let s := fly c { run with tbl := { lpm := manyPrefixes } }
    let key := prefixKey c.ops
    (ready 0x18 c s = true ∧ prefixOk c.ops true = true ∧ c.op 20 1 = 7 ∧ c.op 21 3 = 0 ∧ c.len = 0) ∧
    2097152 < lpmUsed s - (if tget s.tbl.lpm key = {} then 0 else lpmUnits key) + lpmUnits key :=
  ⟨by decide +kernel, prefix_table_full manyPrefixes_used _ (by decide +kernel) _ (by simp only [fly])⟩

/-- One directory entry of an image. -/
def entry (ty off len : Nat) : List Byte := le 4 ty ++ le 4 off ++ le 4 len ++ le 4 0
/-- Header and directory of an image of 155,408 bytes with key slot 1. -/
def header : List Byte :=
  fit 256 (le 4 0x56524547 ++ le 2 1 ++ le 2 5 ++ le 4 155408 ++ le 4 1 ++ [64, 1]) ++ entry 1 384 131072 ++ entry 2 131456 4096 ++
    entry 3 135552 16384 ++ entry 4 151936 2048 ++ entry 5 153984 1296 ++ zeros 48
/-- An image whose stores hold zeros and whose Serge section is `section1`. -/
def image : List Byte := header ++ (zeros 153600 ++ (section1 ++ zeros 128))

theorem header_length : header.length = 384 := by decide +kernel
theorem section1_length : section1.length = 1296 := by decide +kernel
theorem zeros_length (n : Nat) : (zeros n).length = n := List.length_replicate
theorem image_length : image.length = 155408 := by
  rw [image, List.length_append, List.length_append, List.length_append, header_length, section1_length, zeros_length, zeros_length]
theorem drop_zeros (m n : Nat) : (zeros n).drop m = zeros (n - m) := List.drop_replicate
theorem slice_header {o k : Nat} (h : o + k ≤ 384) : slice image o k = slice header o k := by
  have e : (image.drop o).take k = (header.drop o).take k := by
    rw [image, List.drop_append_of_le_length (by rw [header_length]; omega),
      List.take_append_of_le_length (by rw [List.length_drop, header_length]; omega)]
  rw [slice, slice, e]
theorem take_slice {b c : List Byte} {o k : Nat} (h : (b.drop o).take k = c) (l : c.length = k) : slice b o k = c := by
  rw [slice, h, l, Nat.sub_self]; exact List.append_nil c
theorem slice_zeros (n o k : Nat) : slice (zeros n) o k = zeros k := by
  rw [slice, drop_zeros, zeros, List.take_replicate, List.length_replicate, zeros, List.replicate_append_replicate]
  congr 1; omega
theorem drop_header (o : Nat) : image.drop (384 + o) = (zeros 153600 ++ (section1 ++ zeros 128)).drop o := by
  rw [image, List.drop_append, header_length, Nat.add_sub_cancel_left, List.drop_of_length_le (by rw [header_length]; omega), List.nil_append]
theorem slice_store {o k : Nat} (h : o + k ≤ 153600) : slice image (384 + o) k = zeros k := by
  refine take_slice ?_ (zeros_length k)
  rw [drop_header, List.drop_append_of_le_length (by rw [zeros_length]; omega), drop_zeros,
    List.take_append_of_le_length (by rw [zeros_length]; omega), zeros, List.take_replicate, zeros]
  congr 1; omega
theorem drop_serge : image.drop 153984 = section1 ++ zeros 128 := by
  rw [show 153984 = 384 + 153600 from rfl, drop_header, List.drop_append, zeros_length, drop_zeros]; rfl
theorem slice_serge : slice image 153984 1296 = section1 := by
  refine take_slice ?_ section1_length
  rw [drop_serge, List.take_append_of_le_length (by rw [section1_length]), List.take_of_length_le (by rw [section1_length])]
theorem slice_tail : slice image 155376 32 = zeros 32 := by
  refine take_slice ?_ (zeros_length 32)
  rw [show 155376 = 153984 + 1392 from rfl, ← List.drop_drop, drop_serge, List.drop_append, section1_length,
    List.drop_of_length_le (by rw [section1_length]; decide)]; rfl
theorem leNat_zeros (n : Nat) : leNat (zeros n) = 0 := by
  induction n with
  | zero => rfl
  | succ n h => exact (congrArg (fun x => 0 + 256 * x) h)
theorem image_entry (ty : Nat) : imgEntry image ty = imgEntry header ty := by
  have e : (List.range 5).map (fun i => slice image (256 + 16 * i) 16) = (List.range 5).map (fun i => slice header (256 + 16 * i) 16) :=
    List.map_congr_left fun i h => slice_header (by have := List.mem_range.1 h; omega)
  rw [imgEntry, e]; rfl
theorem image_section {ty o k : Nat} (h : imgEntry header ty = some (384 + o, k)) (b : o + k ≤ 153600) :
    imgSection image ty = zeros k := by rw [imgSection, image_entry, h]; exact slice_store b
theorem image_serge : imgSection image 5 = section1 := by
  rw [imgSection, image_entry, show imgEntry header 5 = some (153984, 1296) by decide +kernel]; exact slice_serge
theorem zero_recs {f : Nat → Bool} (h : f 0 = true) (n k m : Nat) : (sectionRecs (zeros n) k m).all f = true := by
  refine List.all_eq_true.2 fun x hx => ?_
  obtain ⟨i, -, rfl⟩ := List.mem_map.1 hx
  rw [leAt, slice_zeros, leNat_zeros, h]
theorem image_contents : imageContents image = true := by
  rw [imageContents, image_section (ty := 1) (o := 0) (k := 131072) (by decide +kernel) (by decide),
    image_section (ty := 2) (o := 131072) (k := 4096) (by decide +kernel) (by decide),
    image_section (ty := 3) (o := 135168) (k := 16384) (by decide +kernel) (by decide),
    image_section (ty := 4) (o := 151552) (k := 2048) (by decide +kernel) (by decide), image_serge,
    zero_recs (by decide +kernel), zero_recs (by decide +kernel), zero_recs (by decide +kernel), zero_recs (by decide +kernel)]
  decide +kernel
theorem image_form : imageForm image = true := by
  have f (o k : Nat) (h : o + k ≤ 384) : leAt image o k = leAt header o k := by rw [leAt, slice_header h]; rfl
  have g (o : Nat) (h : o < 384) : byteAt image o = byteAt header o := by
    rw [byteAt, image, List.getD_append _ _ _ _ (by rw [header_length]; exact h)]; rfl
  have t : imgTotal image = 155408 := by rw [imgTotal, f 8 4 (by decide)]; decide +kernel
  simp only [imageForm, t, imgSecurity, imgSlot, image_serge, image_length, image_entry, f 0 4 (by decide), f 4 2 (by decide),
    f 6 2 (by decide), g 16 (by decide), g 17 (by decide)]
  rw [slice_tail]
  decide +kernel
/-- What the signature check of `image` and `section1` needs of the functions that the model leaves open: slot 1 holds the
hash of an all-zero key, and the all-zero signature verifies under it. -/
def keyed (y : SysState) : SysState := { y with lifecycle := .field, keyHash := [(1, Config.sha384 (zeros 96))] }

/-- The image check accepts `image` where the signature check does. -/
theorem image_good {s : State} (h : Config.sha384 (zeros 96) ≠ [])
    (e : Config.ecdsaOk (zeros 96) (Config.sha384 (image.take 155280)) (zeros 96) = true) (k : s.sys = keyed s.sys)
    (r : s.sys.rollback ≤ 64) (v : s.sys.revoked = 0) : imageFault image s = none := by
  have f (o k : Nat) (h : o + k ≤ 384) : leAt image o k = leAt header o k := by rw [leAt, slice_header h]; rfl
  have g (o : Nat) (h : o < 384) : byteAt image o = byteAt header o := by
    rw [byteAt, image, List.getD_append _ _ _ _ (by rw [header_length]; exact h)]; rfl
  have t : imgTotal image = 155408 := by rw [imgTotal, f 8 4 (by decide)]; decide +kernel
  have k1 : s.sys.lifecycle = .field := by rw [k]; rfl
  have k2 : s.sys.keyHash = [(1, Config.sha384 (zeros 96))] := by rw [k]; rfl
  have q : imgSlot image = 1 := by rw [imgSlot, g 17 (by decide)]; decide +kernel
  have w : imgSecurity image = 64 := by rw [imgSecurity, g 16 (by decide)]; decide +kernel
  have a : slice image 32 96 = zeros 96 := by rw [slice_header (by decide)]; decide +kernel
  have b : slice image 155280 96 = zeros 96 := by
    refine take_slice ?_ (zeros_length 96)
    rw [show 155280 = 153984 + 1296 from rfl, ← List.drop_drop, drop_serge, List.drop_append, section1_length,
      List.drop_of_length_le (by rw [section1_length])]; rfl
  have l : tget s.sys.keyHash 1 = Config.sha384 (zeros 96) := by rw [k2]; rfl
  have m : imageSigned image s = true := by
    rw [imageSigned, t, q, a, keyOk, slotAllowed, slotHash, l, k1, v, b]
    simp [e, h, bitAt]
  rw [imageFault, image_form, m, image_contents, rollbackOk, w]
  simp [r]

theorem image_version : imgVersion image = 1 := by
  rw [imgVersion, leAt, slice_header (by decide)]; decide +kernel

/-- The three clauses of BootAndModes about an accepted image, where the signature check accepts it: from flash slot B alone, from
slot B after slot A was refused, and from the host. -/
theorem wit_image_accepted (h : Config.sha384 (zeros 96) ≠ [])
    (e : Config.ecdsaOk (zeros 96) (Config.sha384 (image.take 155280)) (zeros 96) = true) :
    (let s := inSys (keyed { mode := .boot, straps := 3, rollback := 64 })
     let x : Nat × List Byte := if bootSrc s = 3 ∨ imgVersion [] < imgVersion image then (1, image) else (0, [])
     (s.sys.mode = .boot ∧ s.sys.hostWait = false ∧ s.sys.bootBusy = false ∧ bootSrc s ≠ 1) ∧ imageFault x.2 s = none) ∧
    (let s := inSys (keyed { mode := .boot, straps := 2, rollback := 64 })
     let slotA := zeros 12 ++ [2]
     let x : Nat × List Byte := if bootSrc s = 3 ∨ imgVersion slotA < imgVersion image then (1, image) else (0, slotA)
     let t := report 240 0 0 (le 8 x.1) s
     let y : Nat × List Byte := if imgVersion slotA < imgVersion image then (0, slotA) else (1, image)
     (s.sys.mode = .boot ∧ s.sys.hostWait = false ∧ s.sys.bootBusy = false ∧ bootSrc s ≠ 1 ∧ bootSrc s ≠ 3) ∧
      imageFault x.2 s = some 240 ∧ imageFault y.2 t = none) ∧
    (let s := wr Reg.sysHostBootCtrl 0 155408 (inSys (keyed { mode := .boot, bootBusy := true }))
     (s.sys.mode = .boot ∧ s.sys.bootBusy = true ∧ rdFld Reg.sysHostBootCtrl 0 0 23 s ≤ 4194304) ∧
      imageFault (image.take (rdFld Reg.sysHostBootCtrl 0 0 23 s)) s = none) := by
  refine ⟨⟨by decide +kernel, image_good h e rfl (by decide) rfl⟩, ?_, by decide +kernel, ?_⟩
  · have v : ¬ imgVersion (zeros 12 ++ [2]) < 1 := by decide +kernel
    intro s slotA x t y
    have hx : x = (0, slotA) := by
      show (if _ ∨ imgVersion (zeros 12 ++ [2]) < imgVersion image then _ else _) = _
      rw [image_version, if_neg]
      exact not_or.2 ⟨by decide, v⟩
    have hy : y = (1, image) := by
      show (if imgVersion (zeros 12 ++ [2]) < imgVersion image then _ else _) = _
      rw [image_version, if_neg v]
    refine ⟨by decide +kernel, by rw [hx]; decide +kernel, ?_⟩
    have ht : t = report 240 0 0 (le 8 0) s := by show report 240 0 0 (le 8 x.1) s = _; rw [hx]
    rw [hy, ht]
    exact image_good h e rfl (by decide +kernel) (by decide +kernel)
  rw [show rdFld Reg.sysHostBootCtrl 0 0 23 (wr Reg.sysHostBootCtrl 0 155408 (inSys (keyed { mode := .boot, bootBusy := true }))) =
    image.length by rw [image_length]; decide +kernel, List.take_length]
  exact image_good h e rfl (Nat.zero_le 64) rfl

/-- `section1` signed for key slot 1. -/
def signedSection : List Byte := splice section1 1028 [1]

/-- The clause of SergeCommands about an accepted section, where the signature check accepts it. -/
theorem wit_section_accepted (h : Config.sha384 (zeros 96) ≠ [])
    (e : Config.ecdsaOk (zeros 96) (Config.sha384 (signedSection.take 1168)) (zeros 96) = true) :
    let c := cmd 0xA0 [] 1296
    let s := fly c (inSys (keyed { mode := .staged }))
    let d := fit c.len signedSection
    (ready 0xA0 c s = true ∧ s.sys.mode = .staged ∧ c.len ≠ 0 ∧ secForm d = true ∧ rollbackOk (byteAt d 1029) (started c s) = true ∧
      secChecked d = true) ∧ secSigned d (started c s) = true := by
  refine ⟨by decide +kernel, ?_⟩
  have f : fit (cmd 0xA0 [] 1296).len signedSection = signedSection := by decide +kernel
  have k : byteAt signedSection 1028 = 1 := by decide +kernel
  have a : slice signedSection 1056 96 = zeros 96 := by decide +kernel
  have l : signedSection.length = 1296 := by decide +kernel
  have b : slice signedSection 1168 96 = zeros 96 := by decide +kernel
  have o : keyOk 1 (zeros 96) (started (cmd 0xA0 [] 1296) (fly (cmd 0xA0 [] 1296) (inSys (keyed { mode := .staged })))) = true := by
    show (_ && decide (_ = _)) = true
    rw [Bool.and_eq_true]
    refine ⟨?_, decide_eq_true rfl⟩
    show ((false || decide (Config.sha384 (zeros 96) ≠ [])) && true && true) = true
    simp [h]
  rw [f, secSigned, k, a, l, b, o, e]; rfl

/-- The two clauses of LifeCycleCommands about a response that verifies, outside FIELD and in it. -/
theorem wit_debug_unlocked (h : Config.sha384 (zeros 96) ≠ [])
    (e : Config.ecdsaOk (zeros 96) (Config.sha384 (zeros 48 ++ fit 16 Config.deviceId ++ [byte 3])) (zeros 96) = true) :
    let c := cmd 0xB5 [3, 1] 192
    let n : Nonce := { bytes := zeros 48, scope := 3 }
    ∀ lc, (lc = LifeCycle.provisioned ∨ lc = .field) →
      let s := fly c (inSys { keyed { mode := .staged, unlockFails := 7, nonce := some n } with lifecycle := lc })
      (ready 0xB5 c s = true ∧ c.len = 192 ∧ c.op 0 1 < 4 ∧ 1 ≤ c.op 1 1 ∧ c.op 1 1 < 4 ∧ s.sys.unlockFails < 8 ∧
        s.sys.nonce = some n ∧ s.sys.lifecycle = lc) ∧
      unlockOk (fit c.len []) n.bytes (c.op 1 1) (c.op 0 1)
        { started c s with sys := { s.sys with nonce := none } } = true := by
  rintro c n lc hl
  refine ⟨by rcases hl with rfl | rfl <;> decide +kernel, ?_⟩
  have a : slice (fit c.len []) 0 96 = zeros 96 := by decide +kernel
  have b : slice (fit c.len []) 96 96 = zeros 96 := by decide +kernel
  have o : ∀ s : State, s.sys.lifecycle = lc → s.sys.revoked = 0 → s.sys.keyHash = [(1, Config.sha384 (zeros 96))] →
      keyOk 1 (zeros 96) s = true := by
    intro s x y z
    have l : tget s.sys.keyHash 1 = Config.sha384 (zeros 96) := by rw [z]; rfl
    rw [keyOk, slotAllowed, slotHash, l, y, x]
    rcases hl with rfl | rfl <;> simp [h, bitAt]
  rw [unlockOk, a, b, show c.op 1 1 = 1 by decide +kernel, show c.op 0 1 = 3 by decide +kernel, e, Bool.and_true]
  exact o _ rfl rfl rfl

/-- The clauses of PowerMeasured about RAIL_REACHED: a rail at 800 mV serves every step, and after reset no domain and no cluster has
a raise pending. -/
theorem wit_rail_reached :
    (let s := setDom 6 { below := 7, raise := some 7 } run
     2 ≤ s.sys.mode.num ∧ 2 < 4 ∧ 6 ≤ 6 ∧ 6 ∈ railDoms 2 ∧ stepClass 6 = some 1 ∧ (getDom 6 s).raise = some 7 ∧ stepMv 1 7 s ≤ 800) ∧
    (2 ≤ run.sys.mode.num ∧ 3 < 4 ∧ (∀ d, (getDom d run).raise = none) ∧ ∀ c, (getCluster c run).raise = none) :=
  ⟨⟨by decide +kernel, by decide, by decide, by decide +kernel, by decide +kernel, by decide +kernel, by rw [stepMv]; omega⟩,
    by decide, by decide, fun _ => rfl, fun _ => rfl⟩

/-- The clauses of ModeTransitions: a step that leaves RESET, one in LOCKDOWN, one in OFF, and one that enters OFF. -/
theorem wit_mode_transitions :
    (∃ t, step { at_ .reset with pending := [.resetNRelease 15 true] } = .next t ∧ t.sys.mode = .wipe) ∧
    (∃ t, step { at_ .lockdown with pending := [.vddAonLost] } = .next t ∧ t.sys.mode = .off) ∧
    ∃ t, step { at_ .off with pending := [.vddAonGood false] } = .next t ∧ t.sys.mode = .reset := by
  refine ⟨⟨_, rfl, ?_⟩, ⟨_, rfl, ?_⟩, ⟨_, rfl, ?_⟩⟩ <;> decide +kernel

/-- The invariant of StepInvariant holds with every fuse blown, and a step runs there. -/
theorem wit_step_invariant : let s := { inSys { mode := .lockdown, lifecycle := .retired, rollback := 64, revoked := 15 } with
      pending := [.vddAonLost] }
    (burlapOk s = true ∧ trising s.flt.units = true ∧ dc00Ok s = true ∧ 3 ≤ s.sys.lifecycle.code ∧ 64 ≤ s.sys.rollback ∧
      s.sys.revoked &&& 15 = 15) ∧ ∃ t, step s = .next t ∧ t.sys.mode = .off := by
  refine ⟨by decide +kernel, _, rfl, ?_⟩; decide +kernel

end Sys2Proof.Tests
end

section
/-! PROOFS. The 64-bit registers (R9): what a read and a write of each word do, and what a reset leaves of latches and holds. -/
namespace Sys2Proof.Machine

/-! ### The wide registers read what is stored

No 64-bit register has a read rule of its own, so the word that waits in a hold never shows (R9). -/

/-- The registers of every window of BAR0 (Table 0.2). -/
def barRegs : List BarReg :=
  sysRegs ++ hifRegs ++ lanRegs ++ macRegs ++ sltRegs ++ pipeRegs ++ tblRegs ++ bufRegs ++ colRegs ++ memRegs ++ fltRegs

/-- The 64-bit registers of BAR0, window by window. -/
def wideRegs : List BarReg :=
  [ { desc := Reg.sysHostBootAddr },
    { desc := Reg.hifSummaryAddr },
    { desc := Reg.hifRingBase, write := writeRingBase },
    { desc := Reg.lanLaneTxffe, write := writeTxffe },
    plainPort Reg.macPortSa,
    { desc := Reg.tblTcamMode, write := fun _ v s => writeTcamMode v s },
    { desc := Reg.tblShadowBase },
    { desc := Reg.bufSpillBase, write := fun _ v s => writeRegion Reg.bufSpillBase v s },
    { desc := Reg.colOvfBase, write := fun _ v s => writeColCfg Reg.colOvfBase v s },
    { desc := Reg.poolMBase, write := fun n v s => writePoolCfg Reg.poolMBase n v s },
    { desc := Reg.telGauzeBase, write := fun _ v s => writeGauzeBase v s } ]

theorem filter_wide_barRegs : barRegs.filter (·.desc.wide) = wideRegs := rfl

theorem windowRegs_subset_barRegs (a : Nat) : windowRegs a ⊆ barRegs := by
  intro r hr
  unfold windowRegs at hr
  simp only [barRegs, List.mem_append]
  split_ifs at hr
  case neg => cases hr
  all_goals simp only [hr, true_or, or_true]

theorem mem_windowRegs_of_findReg {a n w : Nat} {r : BarReg} (h : findReg a = some (r, n, w)) : r ∈ windowRegs a := by
  obtain ⟨r', hr, he⟩ := List.exists_of_findSome?_eq_some h
  obtain ⟨_, _, hx⟩ := Option.map_eq_some_iff.mp he
  cases hx
  exact hr

theorem read_of_mem_wideRegs : ∀ r ∈ wideRegs, r.read = rd r.desc :=
  List.forall_iff_forall_mem.mp ⟨rfl, rfl, rfl, rfl, rfl, rfl, rfl, rfl, rfl, rfl, rfl⟩

theorem read_eq_rd_of_wide {a n w : Nat} {r : BarReg} (h : findReg a = some (r, n, w)) (hw : r.desc.wide = true) :
    r.read = rd r.desc := by
  have hm := windowRegs_subset_barRegs a (mem_windowRegs_of_findReg h)
  exact read_of_mem_wideRegs r (filter_wide_barRegs ▸ List.mem_filter.mpr ⟨hm, hw⟩)

/-- No address beyond the windows of BAR0 names a register. -/
theorem lt_of_findReg {a n w : Nat} {r : BarReg} (h : findReg a = some (r, n, w)) : a < 0x4000000 := by
  have hm := mem_windowRegs_of_findReg h
  by_contra hlt
  have hnil : windowRegs a = [] := by
    unfold windowRegs
    split_ifs
    case neg => rfl
    all_goals omega
  rw [hnil] at hm
  cases hm

/-! ### The words of a wide register -/

theorem regWord_low (r : BarReg) (n : Nat) (s : State) : regWord r n 0 s = BitVec.ofNat 32 (r.read n s) := by
  simp [regWord]

theorem regWord_high (r : BarReg) (n : Nat) (s : State) : regWord r n 1 s = BitVec.ofNat 32 (r.read n s / 2 ^ 32) := rfl

section
variable {a n : Nat} {r : BarReg} (s : State) (hw : r.desc.wide = true)
include hw

theorem barRead_low (h : findReg a = some (r, n, 0)) :
    barRead a s = (regWord r n 0 s, { s with latch := tset s.latch a (some (regWord r n 1 s)) }) := by
  simp [barRead, h, hw]

theorem barRead_high_of_latched (h : findReg (a + 4) = some (r, n, 1)) {x : Word} (hx : tget s.latch a = some x) :
    barRead (a + 4) s = (x, { s with latch := tset s.latch a none }) := by
  simp [barRead, h, hw, hx]

theorem barRead_high_of_empty (h : findReg (a + 4) = some (r, n, 1)) (hx : tget s.latch a = none) :
    barRead (a + 4) s = (regWord r n 1 s, s) := by
  simp [barRead, h, hw, hx]

theorem barWrite_low (h : findReg a = some (r, n, 0)) (ht : r.takes n s = true) (v : Word) :
    barWrite a v s = { s with hold := tset s.hold a (some v) } := by
  simp [barWrite, h, hw, ht]

theorem barWrite_high_of_held (h : findReg (a + 4) = some (r, n, 1)) (v : Word) {l : Word} (hl : tget s.hold a = some l) :
    barWrite (a + 4) v s = r.write n (l.toNat + 2 ^ 32 * v.toNat) { s with hold := tset s.hold a none } := by
  simp [barWrite, h, hw, hl]

theorem barWrite_high_of_empty (h : findReg (a + 4) = some (r, n, 1)) (v : Word) (hl : tget s.hold a = none) :
    barWrite (a + 4) v s =
      r.write n ((regWord r n 0 s).toNat + 2 ^ 32 * v.toNat) { s with hold := tset s.hold a none } := by
  simp [barWrite, h, hw, hl]

end

/-! ### The rows at an aligned address of BAR0 that the mode serves -/

theorem bar0_below_bases {a : Nat} (hlt : a < 0x4000000) : ¬ bmcBase ≤ a ∧ ¬ bar2Base ≤ a := by
  unfold bmcBase bar2Base
  omega

section
variable {a : Nat} {s : State} (hlt : a < 0x4000000) (hal : a % 4 = 0) (hs : readServed a s = true)
include hlt hal hs

theorem readAt_bar0 : readAt a s = emit (.readData a (barRead a s).1) (barRead a s).2 := by
  obtain ⟨hbmc, hbar2⟩ := bar0_below_bases hlt
  simp [readAt, hal, hbmc, hbar2, hs]

theorem exec_registerReadClear_bar0 :
    exec (.registerReadClear a) s = .next (emit (.readData a (barRead a s).1) (barRead a s).2) := by
  have h : exec (.registerReadClear a) s = .next (readAt a s) := rfl
  rw [h, readAt_bar0 hlt hal hs]

theorem exec_lowWordRead_bar0 :
    exec (.lowWordRead a) s = .next (emit (.readData a (barRead a s).1) (barRead a s).2) := by
  have h : exec (.lowWordRead a) s = .next (readAt (a - a % 4) s) := rfl
  rw [h, hal, Nat.sub_zero, readAt_bar0 hlt hal hs]

theorem exec_registerWrite_bar0 (hm : s.sys.mode ≠ .lockdown) (v : Word) :
    exec (.registerWrite a 4 v) s = .next (barWrite a v s) := by
  have h : exec (.registerWrite a 4 v) s = .next (writeAt a 4 v s) := rfl
  obtain ⟨hbmc, hbar2⟩ := bar0_below_bases hlt
  rw [h]
  simp [writeAt, writeServed, hal, hbmc, hbar2, hs, hm]

end

/-! ### Resets -/

/-- A reset that the mode takes empties every latch and every hold (R9). -/
theorem doReset_latch_hold (kind : Nat) {s : State} (ho : s.sys.mode ≠ .off) (hl : s.sys.mode ≠ .lockdown) :
    (doReset kind s).latch = [] ∧ (doReset kind s).hold = [] := by
  unfold doReset
  rw [if_neg (not_or.mpr ⟨ho, hl⟩)]
  exact ⟨rfl, rfl⟩

/-- Settles O13: each word of a 64-bit register by its own equation of `barRead` and `barWrite`, and a reset by the fresh
state that it starts from. -/
theorem wideRegisters : Obligations.WideRegisters := by
  unfold Obligations.WideRegisters
  refine ⟨fun a r n v s hlt hal hw hlo hhi slo shi => ?_, ⟨rfl, rfl⟩, fun s ho hl => ⟨?_, fun rail hr => ?_, fun kind => ?_⟩⟩
  · have hlt' : a + 4 < 0x4000000 := lt_of_findReg hhi
    have hal' : (a + 4) % 4 = 0 := by omega
    intro low high
    refine ⟨?_, tget_tset_self _ _ _, fun h hh => ⟨?_, tget_tset_self _ _ _⟩, fun hh => ?_,
      fun hm ht => ⟨?_, tget_tset_self _ _ _, ?_⟩, fun hm => ⟨tget_tset_self _ _ _, fun l hh => ?_, fun hh => ?_⟩⟩
    · rw [exec_lowWordRead_bar0 hlt hal slo, barRead_low s hw hlo, regWord_low, regWord_high]
    · rw [exec_registerReadClear_bar0 hlt' hal' shi, barRead_high_of_latched s hw hhi hh]
    · rw [exec_registerReadClear_bar0 hlt' hal' shi, barRead_high_of_empty s hw hhi hh, regWord_high]
    · rw [exec_registerWrite_bar0 hlt hal slo hm, barWrite_low s hw hlo ht]
    · rw [read_eq_rd_of_wide hlo hw]; rfl
    · rw [exec_registerWrite_bar0 hlt' hal' shi hm, barWrite_high_of_held s hw hhi v hh]
    · rw [exec_registerWrite_bar0 hlt' hal' shi hm, barWrite_high_of_empty s hw hhi v hh, regWord_low]
  · exact ⟨_, rfl, doReset_latch_hold 1 (s := { s with sys := { s.sys with resetN := true } }) ho hl⟩
  · have h : exec (.railResetLevel rail) s = within (decide (rail < 5)) (doReset 4 s) := rfl
    rw [h, decide_eq_true hr]
    exact ⟨_, rfl, doReset_latch_hold 4 ho hl⟩
  · exact doReset_latch_hold kind ho hl

end Sys2Proof.Machine
end

section
/-! PROOFS. The power registers with rules of their own (R488): which writes of PWR_VR and PWR_CTRL are taken. -/
namespace Sys2Proof.Machine

/-! ### Writes of the SYS, FLT and PWR windows -/

theorem barWrite_narrow {a n w : Nat} {r : BarReg} (s : State) (h : findReg a = some (r, n, w)) (hw : r.desc.wide = false)
    (v : Word) : barWrite a v s = r.write n v.toNat s := by
  simp [barWrite, h, hw]

theorem ne_lockdown_of_engine {m : Mode} (h : m.engine = true) : m ≠ .lockdown := by
  rintro rfl
  cases h

theorem readServed_of_engine {s : State} (h : s.sys.mode.engine = true) (a : Nat) : readServed a s = true := by
  have hl : 4 ≤ s.sys.mode.num := by
    simp only [Mode.engine, Mode.late, Bool.and_eq_true, decide_eq_true_eq] at h
    exact h.1
  unfold readServed
  split
  · exact decide_eq_true (by omega)
  · exact h

/-- While the command engine serves rings, a write of a 32-bit register's aligned address is a write of that register. -/
theorem exec_registerWrite_narrow {a n : Nat} {r : BarReg} {s : State} (he : s.sys.mode.engine = true) (hal : a % 4 = 0)
    (h : findReg a = some (r, n, 0)) (hw : r.desc.wide = false) (v : Word) :
    exec (.registerWrite a 4 v) s = .next (r.write n v.toNat s) := by
  rw [exec_registerWrite_bar0 (lt_of_findReg h) hal (readServed_of_engine he a) (ne_lockdown_of_engine he) v,
    barWrite_narrow s h hw v]

/-! ### Where the two registers stand -/

/-- PWR_CTRL as BAR0 serves it (Table 17.9). -/
def pwrCtrlReg : BarReg :=
  { desc := Reg.pwrCtrl, write := fun _ v s => writePwrCtrl v s,
    read := fun _ s => rd Reg.pwrCtrl 0 s + 2 ^ 31 * b2n s.pwr.cfgErr }

/-- PWR_VR as BAR0 serves it (Table 17.9). -/
def pwrVrReg : BarReg := { desc := Reg.pwrVr, write := writePwrVr }

theorem findReg_pwrCtrl : findReg 0x3E00000 = some (pwrCtrlReg, 0, 0) := rfl

theorem findReg_pwrVr {k : Nat} (hk : k < 16) : findReg (0x3E00100 + 4 * k) = some (pwrVrReg, k, 0) := by
  interval_cases k <;> rfl

theorem exec_write_pwrCtrl {s : State} (he : s.sys.mode.engine = true) (v : Word) :
    exec (.registerWrite 0x3E00000 4 v) s = .next (writePwrCtrl v.toNat s) :=
  exec_registerWrite_narrow he rfl findReg_pwrCtrl rfl v

theorem exec_write_pwrVr {k : Nat} {s : State} (hk : k < 16) (he : s.sys.mode.engine = true) (v : Word) :
    exec (.registerWrite (0x3E00100 + 4 * k) 4 v) s = .next (writePwrVr k v.toNat s) :=
  exec_registerWrite_narrow he (by omega) (findReg_pwrVr hk) rfl v

/-! ### What the two registers take -/

theorem pwrErr_wrRw (bad : Bool) (r : RegDesc) (n v : Nat) (s : State) :
    pwrErr bad (wrRw r n v s) = { wrRw r n v s with pwr := { s.pwr with cfgErr := bad } } := by
  rw [pwrErr, show (wrRw r n v s).pwr = s.pwr from wr_pwr ..]

theorem writePwrVr_of_limitEn {s : State} (h : limitEn s = true) (k v : Nat) : writePwrVr k v s = pwrErr true s := by
  simp [writePwrVr, h]

theorem writePwrVr_of_not_limitEn {s : State} (h : limitEn s = false) (k v : Nat) :
    writePwrVr k v s = pwrErr false (wrRw Reg.pwrVr k v s) := by
  simp [writePwrVr, h]

theorem all_regulators_iff (s : State) :
    ((List.range 4).all fun k => vrOn k s && vrRail k s == k) = true ↔ ∀ k, k < 4 → vrOn k s = true ∧ vrRail k s = k := by
  simp only [List.all_eq_true, List.mem_range, Bool.and_eq_true, beq_iff_eq]

theorem writePwrCtrl_of_bad_regulator {s : State} {k v : Nat} (hk : k < 4) (hv : bitAt v 0 = true)
    (hbad : vrOn k s = false ∨ vrRail k s ≠ k) : writePwrCtrl v s = pwrErr true s := by
  have hall : ((List.range 4).all fun k => vrOn k s && vrRail k s == k) = false := by
    rw [Bool.eq_false_iff, ne_eq, all_regulators_iff]
    intro hgood
    obtain ⟨hon, hrail⟩ := hgood k hk
    rcases hbad with hoff | hne
    · exact Bool.false_ne_true (hoff.symm.trans hon)
    · exact hne hrail
  simp [writePwrCtrl, hv, hall]

theorem writePwrCtrl_of_good_regulators {s : State} (hgood : ∀ k, k < 4 → vrOn k s = true ∧ vrRail k s = k) (v : Nat) :
    writePwrCtrl v s = pwrErr false (wrRw Reg.pwrCtrl 0 v s) := by
  simp [writePwrCtrl, (all_regulators_iff s).mpr hgood]

/-- Settles O48: each write reaches its register, which refuses it with CFG_ERR or takes it as R488 lays down. -/
theorem regulatorWrites : Obligations.RegulatorWrites := by
  unfold Obligations.RegulatorWrites
  intro k v s he err
  refine ⟨fun hk hl => ?_, fun hk hl => ?_, fun hk hv hbad => ?_, fun _ hgood => ?_⟩
  · rw [exec_write_pwrVr hk he, writePwrVr_of_limitEn hl]; rfl
  · rw [exec_write_pwrVr hk he, writePwrVr_of_not_limitEn hl, pwrErr_wrRw]
  · rw [exec_write_pwrCtrl he, writePwrCtrl_of_bad_regulator hk hv hbad]; rfl
  · rw [exec_write_pwrCtrl he, writePwrCtrl_of_good_regulators hgood, pwrErr_wrRw]

end Sys2Proof.Machine
end

section
/-! PROOFS. FLT_FIRST (R499): a RECORD_FORMATION fills it once and never replaces what it holds; FIRST_CLEAR and a reset empty it. -/
namespace Sys2Proof.Machine

/-! ### FLT_FIRST between two states -/

/-- Between two states FLT_FIRST keeps the record that it holds; empty, it takes the first SEQ that is given out, or no SEQ is
given out and it stays empty (R499). -/
structure FirstKept (s t : State) : Prop where
  held : ∀ q, s.flt.first = some q → t.flt.first = some q
  taken : s.flt.first = none → (t.flt.first = none ∧ t.flt.nextSeq = s.flt.nextSeq) ∨ t.flt.first = some s.flt.nextSeq

theorem Fr.flt_first {M : Nat} {s t : State} (h : Fr M s t) (hM : M.testBit 29 = false) :
    t.flt.first = s.flt.first ∧ t.flt.nextSeq = s.flt.nextSeq := by
  have hkeep := h.first.resolve_left (by simp [hM])
  simp only [Prod.mk.injEq] at hkeep
  exact ⟨hkeep.1, hkeep.2.1⟩

theorem Fr.firstKept {M : Nat} {s t : State} (h : Fr M s t) (hM : M.testBit 29 = false) : FirstKept s t := by
  obtain ⟨hfirst, hseq⟩ := h.flt_first hM
  exact ⟨fun q hq => hfirst.trans hq, fun hnone => .inl ⟨hfirst.trans hnone, hseq⟩⟩

theorem FirstKept.refl (s : State) : FirstKept s s := (Fr.refl 0 s).firstKept rfl

theorem FirstKept.trans {s t u : State} (a : FirstKept s t) (b : FirstKept t u) : FirstKept s u where
  held q hq := b.held q (a.held q hq)
  taken hnone := by
    rcases a.taken hnone with ⟨hempty, hseq⟩ | hfull
    · exact hseq ▸ b.taken hempty
    · exact .inr (b.held _ hfull)

/-- What follows in the same cycle, within a frame that does not touch FLT_FIRST. -/
theorem FirstKept.frame {M : Nat} {s t u : State} (a : FirstKept s t) (b : Fr M t u) (hM : M.testBit 29 = false) :
    FirstKept s u :=
  a.trans (b.firstKept hM)

theorem FirstKept.foldl {α : Type} {f : State → α → State} (hf : ∀ u x, FirstKept u (f u x)) (l : List α) (s : State) :
    FirstKept s (l.foldl f s) := by
  induction l generalizing s with
  | nil => exact .refl s
  | cons x l ih => exact (hf s x).trans (ih (f s x))

/-! ### The formation of records -/

/-- The event, the vector and the fence of a new record leave FLT_FIRST as it is. -/
theorem fenceReact_raise_post_first (d : Draft) (p : Prop) [Decidable p] (payload : List Byte) (s : State) :
    (fenceReact d (if p then raiseVector 256 (post 0x8000 payload s) else post 0x8000 payload s)).flt.first = s.flt.first := by
  have hpost := ((fr_post 0x8000 payload s).flt_first rfl).1
  rw [((fr_fenceReact d _).flt_first rfl).1]
  split
  · rw [((fr_raiseVector 256 _).flt_first rfl).1, hpost]
  · exact hpost

theorem formRecord_first (d : Draft) (s : State) :
    (formRecord d s).flt.first = some (s.flt.first.getD s.flt.nextSeq) :=
  fenceReact_raise_post_first d _ _ _

theorem firstKept_formRecord (d : Draft) (s : State) : FirstKept s (formRecord d s) where
  held q hq := by rw [formRecord_first, hq, Option.getD_some]
  taken hnone := .inr (by rw [formRecord_first, hnone, Option.getD_none])

theorem firstKept_formAll (s : State) : FirstKept s (formAll s) := by
  have merged (heads : List Intake) : FirstKept s (mergeAll heads (reportLost (takeHeads s).2)).2 :=
    (((fr_takeHeads s).firstKept rfl).frame (fr_reportLost _) rfl).frame (fr_mergeAll heads _) rfl
  have formed (heads tested : List Intake) (ds : List Draft) :
      FirstKept s (endTests tested (ds.foldl (fun s d => formRecord d s) (mergeAll heads (reportLost (takeHeads s).2)).2)) :=
    ((merged heads).trans (.foldl (fun u d => firstKept_formRecord d u) ds _)).frame (fr_endTests tested _) rfl
  have served {t : State} (h : FirstKept s t) : FirstKept s { t with flt := { t.flt with served := true } } :=
    ⟨h.held, h.taken⟩
  unfold formAll
  dsimp only
  split
  · exact (served (formed _ _ _)).frame (fr_enterLockdown _) rfl
  · split
    · exact (served (formed _ _ _)).frame (fr_enterHold _) rfl
    · exact served (formed _ _ _)

theorem firstKept_enqueue (r : Report) (s : State) : FirstKept s (enqueue r (reportedPll r s)) :=
  ((fr_reportedPll r s).firstKept rfl).frame (fr_enqueue r _) rfl

/-- The row RECORD_FORMATION: well-formed reports are taken, and in OFF nothing runs. -/
theorem exec_recordFormation_firstKept {l : List Report} (hl : ∀ r ∈ l, r.cls < 256 ∧ r.kind < 15 ∧ r.unit < 65536) (s : State) :
    ∃ t, exec (.recordFormation l) s = .next t ∧ FirstKept s t := by
  have hexec : exec (.recordFormation l) s = execRecordFormation l s := rfl
  have hwithin : (l.all fun r => decide (r.cls < 256) && decide (r.kind < 15) && decide (r.unit < 65536)) = true := by
    simpa [and_assoc] using hl
  rw [hexec, execRecordFormation, hwithin, within_true]
  refine ⟨_, rfl, ?_⟩
  split
  · exact .refl s
  · exact (FirstKept.foldl (fun u r => firstKept_enqueue r u) l s).trans (firstKept_formAll _)

/-! ### What empties FLT_FIRST -/

/-- A command without host data concludes at once. -/
theorem conclude_of_len_zero {c : Cmd} (h : c.len = 0) (ds : List Nat) (s : State) : conclude c {} ds s = finish c {} 0 0 s := by
  simp [conclude, h]

theorem firstClearCmd_of_len_zero {c : Cmd} (h : c.len = 0) (s : State) :
    firstClearCmd c s = okay { s with flt := { s.flt with first := none } } := by
  simp [firstClearCmd, h]

theorem exec_firstClear {c : Cmd} {s : State} (hr : ready 0x86 c s = true) (hlen : c.len = 0) :
    exec (.firstClear c.ref) s = .next (finish c {} 0 0 { started c s with flt := { s.flt with first := none } }) := by
  have hexec : exec (.firstClear c.ref) s = .next (runCmd 0x86 c.ref firstClearCmd s) := rfl
  rw [hexec, runCmd_of_ready hr, firstClearCmd_of_len_zero hlen, started_flt, okay]
  dsimp only
  rw [conclude_of_len_zero hlen]

theorem doReset_first (k : Nat) {s : State} (ho : s.sys.mode ≠ .off) (hl : s.sys.mode ≠ .lockdown) :
    (doReset k s).flt.first = none := by
  rw [doReset, if_neg (not_or.mpr ⟨ho, hl⟩)]
  rfl

/-- Settles O51: every part of a RECORD_FORMATION keeps `FirstKept`, the formation of a record included; FIRST_CLEAR and a
reset by their equations. -/
theorem firstFault : Obligations.FirstFault := by
  unfold Obligations.FirstFault
  refine ⟨fun l s hl => ?_, fun c s hr hlen => exec_firstClear hr hlen, rfl, fun k s ho hlock => doReset_first k ho hlock⟩
  obtain ⟨t, hnext, hkept⟩ := exec_recordFormation_firstKept hl s
  exact ⟨t, hnext, hkept.held, hkept.taken⟩

end Sys2Proof.Machine
end

section
/-! PROOFS. What a command's row leaves of the state: its body's result, but for the host interface, the registers and the output. -/
namespace Sys2Proof.Machine

/-! ### The parts that `SameBut` keeps -/

section
variable {s t : State} (h : SameBut s t)
include h

theorem SameBut.pending : t.pending = s.pending := by obtain ⟨_, _, _, rfl⟩ := h; rfl
theorem SameBut.sys : t.sys = s.sys := by obtain ⟨_, _, _, rfl⟩ := h; rfl
theorem SameBut.flt : t.flt = s.flt := by obtain ⟨_, _, _, rfl⟩ := h; rfl
theorem SameBut.mem : t.mem = s.mem := by obtain ⟨_, _, _, rfl⟩ := h; rfl

end

theorem sameBut_started (c : Cmd) (s : State) : SameBut s (started c s) := sameBut_modCmd ..

/-- A command's row leaves the state, but for the host interface, the registers and the output, or it is the row of a command in
flight whose owner has acted. -/
theorem runCmdIn_cases (ds : Cmd → State → List Nat) (op : Nat) (ref : CmdRef) (body : Cmd → State → State × CmdEnd) (s : State) :
    SameBut s (runCmdIn ds op ref body s) ∨
      ∃ c, findCmd ref s = some c ∧ SameBut (body c (started c s)).1 (runCmdIn ds op ref body s) := by
  unfold runCmdIn
  split
  · exact .inl (.refl s)
  · rename_i c hfind
    have href : c.ref = ref := by simpa using List.find?_some hfind
    split
    · split
      · exact .inl (sameBut_finish ..)
      · have hstart : modCmd ref (fun d => { d with stage := .running }) s = started c s := by rw [started, href]
        have hoff := (sameBut_started c s).trans (sameBut_finish c { status := 0x07 } 0 0 _)
        simp only [hstart]
        split
        · rename_i hbody
          split
          · exact .inl hoff
          · exact .inr ⟨c, hfind, by rw [hbody]; exact .refl _⟩
        · rename_i hbody
          split
          · exact .inl hoff
          · exact .inr ⟨c, hfind, by rw [hbody]; exact sameBut_conclude ..⟩
    · exact .inl (.refl s)

theorem runCmd_cases (op : Nat) (ref : CmdRef) (body : Cmd → State → State × CmdEnd) (s : State) :
    SameBut s (runCmd op ref body s) ∨
      ∃ c, findCmd ref s = some c ∧ SameBut (body c (started c s)).1 (runCmd op ref body s) :=
  runCmdIn_cases cmdDoms op ref body s

/-- What holds of the system state before a command's row, and of what its owner makes of it, holds after the row. -/
theorem runCmd_sys {P : SysState → Prop} {op : Nat} {ref : CmdRef} {body : Cmd → State → State × CmdEnd} {s : State}
    (hs : P s.sys) (hbody : ∀ c, P (body c (started c s)).1.sys) : P (runCmd op ref body s).sys := by
  rcases runCmd_cases op ref body s with h | ⟨c, _, h⟩
  · rw [h.sys]; exact hs
  · rw [h.sys]; exact hbody c

end Sys2Proof.Machine
end

section
/-! PROOFS. The operating modes (Table 19.2): the mode that each command which can change it leaves, and the arrows of the table. -/
namespace Sys2Proof.Machine

/-! ### The arrows of Table 19.2 -/

/-- The changes of the mode that commands and the boot sequence make in order. -/
def modeArrows : List (Mode × Mode) :=
  [(.reset, .wipe), (.wipe, .boot), (.wipe, .diag), (.boot, .staged), (.staged, .forward), (.staged, .degraded),
    (.forward, .degraded), (.degraded, .forward), (.forward, .drain), (.degraded, .drain), (.drain, .staged), (.staged, .doze),
    (.doze, .staged), (.staged, .diag)]

/-- What a powered device does with its mode while VDD_AON stays good: it keeps it, or takes an arrow, a reset, a halt or a lock. -/
inductive ModeMoves (m : Mode) : Mode → Prop where
  | stays : ModeMoves m m
  | arrow {n : Mode} (h : (m, n) ∈ modeArrows) : ModeMoves m n
  | reset (ho : m ≠ .off) (hl : m ≠ .lockdown) : ModeMoves m .reset
  | hold (ho : m ≠ .off) (hr : m ≠ .reset) (hl : m ≠ .lockdown) : ModeMoves m .hold
  | lock (ho : m ≠ .off) : ModeMoves m .lockdown

theorem ModeMoves.of_eq {m n : Mode} (h : n = m) : ModeMoves m n := h ▸ .stays

/-- The same between two states. -/
structure Moves (s t : State) : Prop where
  mode : ModeMoves s.sys.mode t.sys.mode

theorem modeArrows_ends {m n : Mode} (h : (m, n) ∈ modeArrows) : m ≠ .off ∧ m ≠ .lockdown ∧ n ≠ .off :=
  (by decide : ∀ p ∈ modeArrows, p.1 ≠ .off ∧ p.1 ≠ .lockdown ∧ p.2 ≠ .off) (m, n) h

/-- OFF and LOCKDOWN are not left, and OFF is not entered. -/
theorem ModeMoves.ends {m n : Mode} (h : ModeMoves m n) : (m = .lockdown → n = .lockdown) ∧ (m = .off → n = .off) ∧ (n = .off → m = .off) := by
  cases h with
  | stays => exact ⟨id, id, id⟩
  | arrow h =>
    obtain ⟨ho, hl, hn⟩ := modeArrows_ends h
    exact ⟨(absurd · hl), (absurd · ho), (absurd · hn)⟩
  | reset ho hl => exact ⟨(absurd · hl), (absurd · ho), nofun⟩
  | hold ho _ hl => exact ⟨(absurd · hl), (absurd · ho), nofun⟩
  | lock ho => exact ⟨fun _ => rfl, (absurd · ho), nofun⟩

/-! ### The mode that each shared operation leaves -/

theorem Fr.mode_eq {M : Nat} {s t : State} (h : Fr M s t) (hM : M.testBit 26 = false) : t.sys.mode = s.sys.mode :=
  h.mode.resolve_left (by simp [hM])

@[simp] theorem setMode_mode (m : Mode) (cause : Nat) (s : State) : (setMode m cause s).sys.mode = m := rfl

@[simp] theorem report_mode (cls kind unit : Nat) (detail : List Byte) (s : State) : (report cls kind unit detail s).sys.mode = s.sys.mode :=
  (fr_report ..).mode_eq rfl

@[simp] theorem post_mode (code : Nat) (p : List Byte) (s : State) : (post code p s).sys.mode = s.sys.mode := (fr_post ..).mode_eq rfl

@[simp] theorem squelchAll_mode (s : State) : (squelchAll s).sys.mode = s.sys.mode := (fr_squelchAll s).mode_eq rfl

@[simp] theorem finishRef_mode (ref : CmdRef) (r : CmdRes) (s : State) : (finishRef ref r s).sys.mode = s.sys.mode :=
  (fr_finishRef ..).mode_eq rfl

theorem enterLockdown_mode (s : State) : (enterLockdown s).sys.mode = if s.sys.mode = .off then .off else .lockdown := by
  unfold enterLockdown
  split
  · rename_i h
    rcases h with h | h <;> simp [h]
  · rename_i h
    rw [not_or] at h
    rw [if_neg h.1]
    have hdoms (l : List Nat) (u : State) : (l.foldl (fun s d => loseDomain d (modDom d (fun x =>
        { x with st := .off, raise := none, down := none, up := none }) s)) u).sys.mode = u.sys.mode :=
      (Fr.foldl (M := 320404194) (.refl _ u) fun _ _ h => .step (fr_loseDomain _ _) rfl (.step (fr_modDom ..) rfl h)).mode_eq rfl
    simp only [hdoms, squelchAll_mode, setMode_mode]

theorem enterHold_mode (s : State) :
    (enterHold s).sys.mode = if s.sys.mode = .off ∨ s.sys.mode = .reset ∨ s.sys.mode = .lockdown then s.sys.mode else .hold := by
  unfold enterHold
  dsimp only
  split
  · rename_i h
    rcases h with h | h | h | h <;> simp [h]
  · rename_i h
    simp only [not_or] at h
    rw [if_neg (by simp [h])]
    split <;> simp only [finishRef_mode, squelchAll_mode, setMode_mode]

theorem doReset_mode (kind : Nat) (s : State) :
    (doReset kind s).sys.mode = if s.sys.mode = .off ∨ s.sys.mode = .lockdown then s.sys.mode else .reset := by
  unfold doReset
  split <;> rfl

theorem moves_enterLockdown (s : State) : Moves s (enterLockdown s) := by
  constructor
  rw [enterLockdown_mode]
  split
  · rename_i h; exact .of_eq h.symm
  · rename_i h; exact .lock h

theorem moves_doReset (kind : Nat) (s : State) : Moves s (doReset kind s) := by
  constructor
  rw [doReset_mode]
  split
  · exact .stays
  · rename_i h
    rw [not_or] at h
    exact .reset h.1 h.2

/-! ### FORWARD and DEGRADED follow the fences (R509) -/

/-- Between two states the mode stays or changes between FORWARD and DEGRADED. -/
def FenceFollowed (s t : State) : Prop :=
  t.sys.mode = s.sys.mode ∨ (s.sys.mode = .forward ∨ s.sys.mode = .degraded) ∧ (t.sys.mode = .forward ∨ t.sys.mode = .degraded)

theorem FenceFollowed.refl (s : State) : FenceFollowed s s := .inl rfl

theorem FenceFollowed.trans {s t u : State} (a : FenceFollowed s t) (b : FenceFollowed t u) : FenceFollowed s u := by
  rcases a with a | ⟨hs, ht⟩
  · rcases b with b | ⟨ht, hu⟩
    · exact .inl (b.trans a)
    · exact .inr ⟨a ▸ ht, hu⟩
  · rcases b with b | ⟨_, hu⟩
    · exact .inr ⟨hs, b ▸ ht⟩
    · exact .inr ⟨hs, hu⟩

theorem Fr.followed {M : Nat} {s t : State} (h : Fr M s t) (hM : M.testBit 26 = false) : FenceFollowed s t := .inl (h.mode_eq hM)

theorem FenceFollowed.frame {M : Nat} {s t u : State} (a : FenceFollowed s t) (b : Fr M t u) (hM : M.testBit 26 = false) :
    FenceFollowed s u :=
  a.trans (b.followed hM)

theorem FenceFollowed.foldl {α : Type} {f : State → α → State} (hf : ∀ u x, FenceFollowed u (f u x)) (l : List α) (s : State) :
    FenceFollowed s (l.foldl f s) := by
  induction l generalizing s with
  | nil => exact .refl s
  | cons x l ih => exact (hf s x).trans (ih (f s x))

theorem FenceFollowed.moves {s t : State} (h : FenceFollowed s t) : Moves s t := by
  constructor
  rcases h with h | ⟨hs, ht⟩
  · exact .of_eq h
  · rcases hs with hs | hs <;> rcases ht with ht | ht <;> rw [hs, ht]
    · exact .stays
    · exact .arrow (by decide)
    · exact .arrow (by decide)
    · exact .stays

/-- A lock after the fences of the same cycle. -/
theorem FenceFollowed.moves_lockdown {s t : State} (h : FenceFollowed s t) : Moves s (enterLockdown t) := by
  constructor
  rcases h with h | ⟨hs, ht⟩
  · exact h ▸ (moves_enterLockdown t).mode
  · rw [enterLockdown_mode, if_neg (by rcases ht with ht | ht <;> simp [ht])]
    exact .lock (by rcases hs with hs | hs <;> simp [hs])

/-- A halt after the fences of the same cycle. -/
theorem FenceFollowed.moves_hold {s t : State} (h : FenceFollowed s t) : Moves s (enterHold t) := by
  constructor
  rw [enterHold_mode]
  rcases h with h | ⟨hs, ht⟩
  · rw [h]
    split
    · exact .stays
    · rename_i hn
      simp only [not_or] at hn
      exact .hold hn.1 hn.2.1 hn.2.2
  · have hs' : s.sys.mode ≠ .off ∧ s.sys.mode ≠ .reset ∧ s.sys.mode ≠ .lockdown := by rcases hs with hs | hs <;> simp [hs]
    rw [if_neg (by rcases ht with ht | ht <;> simp [ht])]
    exact .hold hs'.1 hs'.2.1 hs'.2.2

theorem followed_followFence (s : State) : FenceFollowed s (followFence s) := by
  unfold followFence
  split
  · rename_i h; exact .inr ⟨.inl h.1, .inr rfl⟩
  · split
    · rename_i h; exact .inr ⟨.inr h.1, .inl rfl⟩
    · exact .refl s

theorem followed_toFenced {effect : State → State} (he : ∀ u, FenceFollowed u (effect u)) (kind ix cause : Nat) (s : State) :
    FenceFollowed s (toFenced kind ix cause effect s) :=
  (((((fr_setUnit ..).followed rfl).frame (fr_postUnit ..) rfl).trans (he _)).frame (fr_endDrain ..) rfl).trans
    (followed_followFence _)

theorem followed_fenceOne (kind ix cause : Nat) (cls : Option Nat) (s : State) : FenceFollowed s (fenceOne kind ix cause cls s) := by
  have hset (u : FUnit) : FenceFollowed s (setUnit kind ix u s) := (fr_setUnit ..).followed rfl
  unfold fenceOne
  split
  · exact .refl s
  · dsimp only
    split
    · exact (hset _).frame (fr_loseBank ..) rfl
    · exact hset _
  · exact followed_toFenced (fun u => (fr_fenceEffect ..).followed rfl) ..

theorem followed_fenceNow (kind ix cause : Nat) (cls : Option Nat) (s : State) : FenceFollowed s (fenceNow kind ix cause cls s) := by
  unfold fenceNow
  dsimp only
  split
  · refine (followed_fenceOne ..).trans (.foldl (fun u g => ?_) _ _)
    split
    · exact .refl u
    · exact followed_fenceOne ..
  · exact followed_fenceOne ..

theorem followed_fenceReact (d : Draft) (s : State) : FenceFollowed s (fenceReact d s) := by
  unfold fenceReact
  split
  · exact .foldl (fun u x => followed_fenceNow ..) _ s
  · dsimp only
    split
    · exact .refl s
    · exact (((fr_grpTo ..).followed rfl).frame (fr_modGrp ..) rfl)
  · exact .inl rfl
  · exact .refl s

/-- The event, the vector and the fence of a new record. -/
theorem followed_fenceReact_raise_post (d : Draft) (p : Prop) [Decidable p] (payload : List Byte) {s u : State} (hu : u.sys = s.sys) :
    FenceFollowed s (fenceReact d (if p then raiseVector 256 (post 0x8000 payload u) else post 0x8000 payload u)) := by
  have hpost : FenceFollowed s (post 0x8000 payload u) := .inl (by rw [post_mode, hu])
  refine FenceFollowed.trans ?_ (followed_fenceReact d _)
  split
  · exact hpost.frame (fr_raiseVector ..) rfl
  · exact hpost

theorem followed_formRecord (d : Draft) (s : State) : FenceFollowed s (formRecord d s) :=
  followed_fenceReact_raise_post d _ _ rfl

theorem moves_formAll (s : State) : Moves s (formAll s) := by
  have formed (heads tested : List Intake) (ds : List Draft) :
      FenceFollowed s (endTests tested (ds.foldl (fun s d => formRecord d s) (mergeAll heads (reportLost (takeHeads s).2)).2)) :=
    (((((fr_takeHeads s).followed rfl).frame (fr_reportLost _) rfl).frame (fr_mergeAll heads _) rfl).trans
      (.foldl (fun u d => followed_formRecord d u) ds _)).frame (fr_endTests tested _) rfl
  have served {t : State} (h : FenceFollowed s t) : FenceFollowed s { t with flt := { t.flt with served := true } } := h
  unfold formAll
  dsimp only
  split
  · exact (served (formed _ _ _)).moves_lockdown
  · split
    · exact (served (formed _ _ _)).moves_hold
    · exact (served (formed _ _ _)).moves

end Sys2Proof.Machine
end

section
/-! PROOFS. The mode transitions of every step (Table 19.2): each command that can change the mode makes a change of the table. -/
namespace Sys2Proof.Machine

theorem Moves.refl (s : State) : Moves s s := ⟨.stays⟩

theorem Moves.of_eq {s t : State} (h : t.sys.mode = s.sys.mode) : Moves s t := ⟨.of_eq h⟩

/-- Moves between states whose modes are those of two others. -/
theorem Moves.congr {s t u v : State} (h : Moves u v) (hs : u.sys.mode = s.sys.mode) (ht : t.sys.mode = v.sys.mode) : Moves s t :=
  ⟨hs ▸ ht ▸ h.mode⟩

theorem Moves.arrow {s t : State} {m n : Mode} (hs : s.sys.mode = m) (ht : t.sys.mode = n) (h : (m, n) ∈ modeArrows) : Moves s t :=
  ⟨.arrow (hs ▸ ht ▸ h)⟩

theorem Moves.ite {s t u : State} {p : Prop} [Decidable p] (ht : p → Moves s t) (hu : ¬p → Moves s u) : Moves s (if p then t else u) := by
  split
  · exact ht ‹p›
  · exact hu ‹¬p›

theorem Moves.ite_fst {s : State} {α : Type} {a b : State × α} {p : Prop} [Decidable p] (ha : p → Moves s a.1) (hb : ¬p → Moves s b.1) :
    Moves s (if p then a else b).1 := by
  split
  · exact ha ‹p›
  · exact hb ‹¬p›

theorem moves_runCmd {op : Nat} {ref : CmdRef} {body : Cmd → State → State × CmdEnd} {s : State}
    (hbody : ∀ c u, u.sys = s.sys → Moves u (body c u).1) : Moves s (runCmd op ref body s) := by
  rcases runCmd_cases op ref body s with h | ⟨c, _, h⟩
  · exact .of_eq (by rw [h.sys])
  · exact (hbody c (started c s) rfl).congr rfl (by rw [h.sys])

theorem moves_withHost {c : Cmd} {h : HostAns} {s u : State} {k : List Byte → State × CmdEnd} (hu : Moves s u) (hk : ∀ b, Moves s (k b).1) :
    Moves s (withHost c h u k).1 := by
  unfold withHost
  split
  · exact hu
  · exact hk _

/-! ### Fences (18.5, 18.6) -/

theorem followed_fenceComplete (kind ix : Nat) (s : State) : FenceFollowed s (fenceComplete kind ix s) := by
  unfold fenceComplete
  dsimp only
  split
  · exact .refl s
  · split
    · refine FenceFollowed.frame ?_ (fr_endDrain ..) rfl
      split
      · exact .inl rfl
      · exact (fr_setUnit ..).followed rfl
    · exact followed_toFenced (fun u => (fr_drainedEffect ..).followed rfl) ..

theorem followed_unitFenceCmd (c : Cmd) (s : State) : FenceFollowed s (unitFenceCmd c s).1 := by
  have hset (k ix : Nat) (u : FUnit) : FenceFollowed s (setUnit k ix u s) := .inl rfl
  unfold unitFenceCmd
  dsimp only
  split
  · exact .refl s
  split
  · exact .refl s
  · split_ifs
    · exact .refl s
    · exact .refl s
    · exact followed_fenceNow ..
    · exact hset ..
    · exact (hset ..).frame (fr_startDrain ..) rfl
    · exact followed_fenceNow ..

theorem followed_unitReturnCmd (c : Cmd) (s : State) : FenceFollowed s (unitReturnCmd c s).1 := by
  unfold unitReturnCmd
  dsimp only
  split
  · exact .refl s
  · split
    · exact .refl s
    · exact .refl s
    · split
      · exact ((((fr_setUnit ..).followed rfl).frame (fr_postUnit ..) rfl).frame (fr_returnEffect ..) rfl).trans (followed_followFence _)
      · exact .refl s

/-! ### Boot (19.2) -/

@[simp] theorem railFollow_mode (old s : State) : (railFollow old s).sys.mode = s.sys.mode := (fr_railFollow ..).mode_eq rfl

theorem mode_loadImage (slot : Nat) (host : Bool) (b : List Byte) (s : State) : (loadImage slot host b s).sys.mode = .staged :=
  railFollow_mode ..

theorem moves_loadImage {s : State} (h : s.sys.mode = .boot) (slot : Nat) (host : Bool) (b : List Byte) :
    Moves s (loadImage slot host b s) :=
  .arrow h (mode_loadImage ..) (by decide)

theorem moves_bootFrom (l : List (Nat × List Byte)) {s : State} (h : s.sys.mode = .boot) : Moves s (bootFrom l s) := by
  induction l generalizing s with
  | nil => exact .refl s
  | cons e l ih =>
    unfold bootFrom
    split
    · exact moves_loadImage h ..
    · exact (ih (s := report _ 0 0 _ s) (by rw [report_mode, h])).congr (report_mode ..) rfl

theorem followed_wipeReadBack (f : WipeFound) (s : State) : FenceFollowed s (wipeReadBack f s) := by
  unfold wipeReadBack
  exact FenceFollowed.trans (.foldl (fun u g => ((fr_report ..).followed rfl).trans (followed_fenceNow ..)) _ s)
    (.foldl (fun u x => (fr_report ..).followed rfl) _ _)

theorem moves_wipeComplete (f : WipeFound) (s : State) : Moves s (wipeComplete f s) := by
  unfold wipeComplete
  refine .ite (fun _ => .refl s) fun h => ?_
  have hw : s.sys.mode = .wipe := not_not.mp (not_or.mp h).1
  dsimp only
  refine .arrow hw (railFollow_mode ..) ?_
  split
  · exact (by decide : (Mode.wipe, Mode.diag) ∈ modeArrows)
  · exact (by decide : (Mode.wipe, Mode.boot) ∈ modeArrows)

/-! ### MODE_SET and DRAIN (19.1) -/

theorem mode_endDrainMode (cause : Nat) (s : State) : (endDrainMode cause s).sys.mode = .staged := by
  unfold endDrainMode
  dsimp only
  split <;> simp only [finishRef_mode, setMode_mode]

theorem moves_endDrainMode {s u : State} (hs : s.sys.mode = .drain) (cause : Nat) : Moves s (endDrainMode cause u) :=
  .arrow hs (mode_endDrainMode ..) (by decide)

@[simp] theorem dozeMem_mode (s : State) : (dozeMem s).sys.mode = s.sys.mode := (fr_dozeMem s).mode_eq rfl
@[simp] theorem undozeMem_mode (s : State) : (undozeMem s).sys.mode = s.sys.mode := (fr_undozeMem s).mode_eq rfl
@[simp] theorem allToZero_mode (s : State) : (allToZero s).sys.mode = s.sys.mode := (fr_allToZero s).mode_eq rfl

theorem moves_modeSetCmd (c : Cmd) (s : State) : Moves s (modeSetCmd c s).1 := by
  unfold modeSetCmd
  dsimp only
  refine .ite_fst (fun _ => .refl s) fun _ => .ite_fst (fun _ => .refl s) fun _ => .ite_fst (fun h5 => ?_) fun _ =>
    .ite_fst (fun h7 => .ite_fst (fun _ => .refl s) fun _ => ?_) fun _ => .ite_fst (fun h8 => ?_) fun _ => .ite_fst (fun h4 => ?_) fun _ =>
      .ite_fst (fun h11 => ?_) fun _ => .refl s
  · refine .arrow h5.2 (setMode_mode ..) ?_
    split
    · exact (by decide : (Mode.staged, Mode.degraded) ∈ modeArrows)
    · exact (by decide : (Mode.staged, Mode.forward) ∈ modeArrows)
  · rcases h7.2 with h | h
    · exact .arrow h (n := .drain) rfl (by decide)
    · exact .arrow h (n := .drain) rfl (by decide)
  · exact .arrow h8.2.1 (n := .doze) (by simp only [okay, dozeMem_mode, allToZero_mode, setMode_mode]) (by decide)
  · exact .arrow h4.2 (n := .staged) (by simp only [okay, undozeMem_mode, setMode_mode]) (by decide)
  · exact .arrow h11.2.1 (n := .diag) rfl (by decide)

/-! ### Resets by command (19.1, 19.3) -/

/-- A reset after a change that leaves the mode. -/
theorem moves_doReset_of_mode {s u : State} (h : u.sys.mode = s.sys.mode) (kind : Nat) : Moves s (doReset kind u) :=
  (moves_doReset kind u).congr h rfl

theorem moves_lcAdvanceCmd (c : Cmd) (h : HostAns) (s : State) : Moves s (lcAdvanceCmd c h s).1 := by
  unfold lcAdvanceCmd
  dsimp only
  exact .ite_fst (fun _ => .refl s) fun _ => .ite_fst (fun _ => .refl s) fun _ =>
    .ite_fst (fun _ => moves_withHost (.refl s) fun _ => moves_doReset_of_mode (by rfl) 5) fun _ =>
      .ite_fst (fun _ => moves_doReset_of_mode (by rfl) 5) fun _ => .ite_fst (fun _ => moves_doReset_of_mode (by rfl) 5) fun _ => .refl s

theorem moves_debugUnlockCmd (c : Cmd) (h : HostAns) (s : State) : Moves s (debugUnlockCmd c h s).1 := by
  unfold debugUnlockCmd
  dsimp only
  split
  · exact .refl s
  split
  · exact .refl s
  · split
    · exact .refl s
    · refine moves_withHost (.refl s) fun b => ?_
      split_ifs
      · exact .of_eq ((post_mode ..).trans (report_mode ..))
      · refine moves_doReset_of_mode ?_ 6
        exact (congrArg SysState.mode (sameBut_finish ..).sys).trans (post_mode ..)
      · exact .of_eq (post_mode ..)

@[simp] theorem startTraining_mode (s : State) : (startTraining s).sys.mode = s.sys.mode := (fr_startTraining s).mode_eq rfl
@[simp] theorem powerAll_mode (s : State) : (powerAll s).sys.mode = s.sys.mode := (fr_powerAll s).mode_eq rfl

theorem moves_resetNRelease {straps : Nat} {good : Bool} {s t : State} (h : execResetNRelease straps good s = .next t) : Moves s t := by
  cases h
  split
  · exact .of_eq rfl
  · rename_i hr
    split
    · refine (moves_enterLockdown _).congr ?_ rfl
      rw [report_mode]
    · split
      · exact .of_eq rfl
      · exact .arrow (n := .wipe) (not_not.mp hr) (by rw [startTraining_mode, powerAll_mode]) (by decide)

/-! ### The rows -/

/-- A command other than the two of VDD_AON makes a change of the mode that a powered device makes. -/
theorem exec_moves {c : Instr} {s t : State} (h : exec c s = .next t) (hg : ∀ e, c ≠ .vddAonGood e) (hl : c ≠ .vddAonLost) :
    Moves s t := by
  by_cases hc : modeRow c = false
  · exact .of_eq (exec_mode h hc)
  have within_next {b : Bool} {u : State} (h : within b u = .next t) : u = t := by
    unfold within at h
    split at h <;> cases h
    rfl
  cases c
  case thermalTrip sensor =>
    obtain rfl := within_next h
    refine .ite (fun _ => .of_eq rfl) fun _ => (moves_enterLockdown _).congr ?_ rfl
    rw [report_mode]
    split <;> rfl
  case recordFormation l =>
    obtain rfl := within_next h
    refine .ite (fun _ => .of_eq rfl) fun _ => (moves_formAll _).congr ?_ rfl
    exact (Fr.foldl (.refl _ s) fun u x hu => .step (fr_enqueue ..) (M := 33556992) rfl (.step (fr_reportedPll ..) rfl hu)).mode_eq rfl
  case fenceComplete kind ix =>
    obtain rfl := within_next h
    exact (followed_fenceComplete ..).moves
  case resetReq v w =>
    cases h
    refine .ite (fun _ => .of_eq rfl) fun _ => .ite (fun _ => .of_eq rfl) fun _ => .ite (fun _ => moves_doReset 2 s) fun _ => .of_eq rfl
  case unitFence ref =>
    cases h
    exact moves_runCmd fun c u _ => (followed_unitFenceCmd c u).moves
  case unitReturn ref =>
    cases h
    exact moves_runCmd fun c u _ => (followed_unitReturnCmd c u).moves
  case vddAonGood e => exact absurd rfl (hg e)
  case vddAonLost => exact absurd rfl hl
  case railResetLevel rail =>
    obtain rfl := within_next h
    exact moves_doReset 4 s
  case resetNAssert =>
    cases h
    exact moves_doReset_of_mode (by rfl) 1
  case resetNRelease straps good =>
    exact moves_resetNRelease h
  case wipeComplete f =>
    obtain rfl := within_next h
    exact moves_wipeComplete f s
  case bootImageAccepted a b =>
    cases h
    refine .ite (fun _ => .of_eq rfl) fun hb => moves_bootFrom _ (not_not.mp (not_or.mp hb).1)
  case hostImageChecked image =>
    cases h
    refine .ite (fun _ => .of_eq rfl) fun hb => ?_
    split
    · exact moves_loadImage (not_not.mp (not_or.mp hb).1) ..
    · exact .of_eq (report_mode ..)
  case drainEnd =>
    cases h
    exact .ite (fun hd => moves_endDrainMode hd.1 0) fun _ => .of_eq rfl
  case drainLimit =>
    cases h
    exact .ite (fun hd => moves_endDrainMode hd 3) fun _ => .of_eq rfl
  case modeSet ref =>
    cases h
    exact moves_runCmd fun c u _ => moves_modeSetCmd c u
  case sysReset ref =>
    cases h
    refine moves_runCmd fun c u _ => ?_
    unfold sysResetCmd
    split
    · exact .refl u
    · exact moves_doReset 3 u
  case lcAdvance ref host =>
    cases h
    exact moves_runCmd fun c u _ => moves_lcAdvanceCmd c host u
  case debugUnlock ref host =>
    cases h
    exact moves_runCmd fun c u _ => moves_debugUnlockCmd c host u
  all_goals exact absurd rfl hc

/-- VDD_AON becomes good: OFF is left for RESET. -/
theorem exec_vddAonGood_mode {e : Bool} {s t : State} (h : exec (.vddAonGood e) s = .next t) :
    t.sys.mode = if s.sys.mode = .off then .reset else s.sys.mode := by
  cases h
  by_cases ho : s.sys.mode = .off <;> simp [ho]

/-- VDD_AON is lost: every mode is left for OFF. -/
theorem exec_vddAonLost_mode {s t : State} (h : exec .vddAonLost s = .next t) : t.sys.mode = .off := by
  cases h
  by_cases ho : s.sys.mode = .off <;> simp [ho]

theorem aonCycle_mode (s : State) : (aonCycle s).sys.mode = s.sys.mode := (fr_aonCycle s).mode_eq rfl

/-- A move keeps to Table 19.2, whatever command makes it. -/
theorem Moves.table {s t : State} (h : Moves s t) :
    let m := s.sys.mode
    let n := t.sys.mode
    n = m ∨ n = .off ∨ (n = .reset ∧ m ≠ .lockdown) ∨ (n = .lockdown ∧ m ≠ .off) ∨
      (n = .hold ∧ m ≠ .off ∧ m ≠ .reset ∧ m ≠ .lockdown) ∨ (m, n) ∈ modeArrows := by
  obtain ⟨h⟩ := h
  dsimp only
  generalize t.sys.mode = n at h
  cases h with
  | stays => exact .inl rfl
  | arrow h => exact .inr (.inr (.inr (.inr (.inr h))))
  | reset _ hl => exact .inr (.inr (.inl ⟨rfl, hl⟩))
  | hold ho hr hl => exact .inr (.inr (.inr (.inr (.inl ⟨rfl, ho, hr, hl⟩))))
  | lock ho => exact .inr (.inr (.inr (.inl ⟨rfl, ho⟩)))

/-- Settles O59: the two rows of VDD_AON by their equations, every other row by the change of Table 19.2 that it makes. -/
theorem modeTransitions : Obligations.ModeTransitions := by
  unfold Obligations.ModeTransitions
  intro s t h m n
  by_cases hm : Moves s t
  · obtain ⟨hlock, hoff, hin⟩ := hm.mode.ends
    exact ⟨hm.table, fun hl => .inl (hlock hl), fun ho => .inl (hoff ho), fun hn => .inl (hin hn)⟩
  unfold step at h
  split at h
  · cases h
    exact absurd (.of_eq (aonCycle_mode s)) hm
  · rename_i c rest hq
    by_cases hg : ∃ e, c = .vddAonGood e
    · obtain ⟨e, rfl⟩ := hg
      have hn : n = if m = .off then .reset else m := (exec_vddAonGood_mode h :)
      by_cases ho : m = .off
      · rw [if_pos ho] at hn
        simp [hn, ho, hq]
      · rw [if_neg ho] at hn
        simp [hn, ho]
    · by_cases hl : c = .vddAonLost
      · subst hl
        have hn : n = .off := exec_vddAonLost_mode h
        simp [hn, hq]
      · exact absurd ((exec_moves h (fun e he => hg ⟨e, he⟩) hl).congr (s := s) (t := t) rfl rfl) hm

end Sys2Proof.Machine
end

section
/-! PROOFS. How the rows answer, said once: rows with an index, rows of a window that is open, and the rows of commands. -/
namespace Sys2Proof.Machine

theorem within_of {b : Bool} (h : b = true) (t : State) : within b t = .next t := by rw [h, within_true]

/-- A row with an index in a window that the mode serves. -/
theorem within_whenOpen {b : Bool} (h : b = true) {s : State} (he : s.sys.mode.engine = true) (t : State) :
    within b (whenOpen s t) = .next t := by rw [within_of h, whenOpen_open t he]

/-- A ready command whose owner ends it itself, or later. -/
theorem runCmd_later {op : Nat} {c : Cmd} {s t : State} {body : Cmd → State → State × CmdEnd} (h : ready op c s = true)
    (hb : body c (started c s) = (t, .later)) : runCmd op c.ref body s = t := by
  rw [runCmd_of_ready h, hb]

/-- A ready command whose owner answers a result. -/
theorem runCmd_done {op : Nat} {c : Cmd} {s t : State} {r : CmdRes} {body : Cmd → State → State × CmdEnd} (h : ready op c s = true)
    (hb : body c (started c s) = (t, .done r)) : runCmd op c.ref body s = conclude c r (cmdDoms c s) t := by
  rw [runCmd_of_ready h, hb]

/-- A command that moves no data ends as soon as its result is known. -/
theorem conclude_of_len {c : Cmd} (h : c.len = 0) (r : CmdRes) (ds : List Nat) (s : State) : conclude c r ds s = finish c r 0 0 s := by
  rw [conclude, if_pos (.inr h), h, Nat.min_zero, Nat.zero_sub, ite_self]

/-- A command that fails moves no data. -/
theorem conclude_of_status {c : Cmd} {k : Nat} (h : k ≠ 0) (ds : List Nat) (s : State) :
    conclude c { status := k } ds s = finish c { status := k } 0 0 s := by
  simp [conclude, h]

/-! ### Rings and channels read back -/

@[simp] theorem getRing_setRing (n : Nat) (r : Ring) (s : State) : getRing n (setRing n r s) = r := tget_tset_self ..

theorem getRing_setRing_ne {m n : Nat} (h : m ≠ n) (r : Ring) (s : State) : getRing m (setRing n r s) = getRing m s :=
  tget_tset_other _ _ _ _ h

@[simp] theorem getChan_setChan (n : Nat) (c : Chan) (s : State) : getChan n (setChan n c s) = c := tget_tset_self ..

@[simp] theorem getRing_emit (n : Nat) (o : Out) (s : State) : getRing n (emit o s) = getRing n s := rfl
@[simp] theorem getRing_wr (n : Nat) (r : RegDesc) (k v : Nat) (s : State) : getRing n (wr r k v s) = getRing n s := by
  rw [getRing, wr_hif]; rfl

end Sys2Proof.Machine
end

section
/-! PROOFS. A step and the front of the queue (chapter 0), and the idle cycle (chapter 1). -/
namespace Sys2Proof.Machine

/-- Settles O1: a step is `exec` of the front command. -/
theorem stepRunsFront : Obligations.StepRunsFront := by
  unfold Obligations.StepRunsFront
  intro c q s
  rfl

/-- Port 0 is paused in class 0, its PAUSED_NS stands one count below its largest value, and the unit of kind 14 and index 0, which
FC209 names, is under test. -/
def saturatingPause : State :=
  { sys := { mode := .forward }, mac := { ports := [(0, { pause := [(0, 1)] })] }
    tel := { ctrs := [(44, { acc := [(0, { n := 2 ^ 40 - 2 })] })] }, flt := { units := [(14336, { state := .testing })] } }

/-- The idle cycle fills the counter; its FC209 fails the test of the unit that it names. -/
theorem aonCycle_saturatingPause :
    (aonCycle saturatingPause).flt.units = [(14336, { state := .testing, faulted := true })] := by
  decide +kernel

/-- Refutes O2: an idle cycle that fills a PAUSED_NS counter reports FC209, which marks a unit under test in `flt.units`. -/
theorem not_idleStep : ¬ Obligations.IdleStep := by
  unfold Obligations.IdleStep
  intro h
  obtain ⟨t, hstep, -, -, -, hunits, -⟩ := (h saturatingPause rfl).2 (by decide)
  cases hstep
  exact absurd (hunits.symm.trans aonCycle_saturatingPause) (by decide)

end Sys2Proof.Machine
end

section
/-! PROOFS. Rings, doorbells and events (2.3, 2.5). -/
namespace Sys2Proof.Machine

/-! ### Setting rings up (R37) -/

theorem exec_ringEnable {n : Nat} {v : Word} {s : State} (hn : n < 256) (he : s.sys.mode.engine = true) (hv : bitAt v.toNat 7 = true) :
    exec (.ringEnable n v) s = .next (writeRingCfg n v.toNat s) :=
  (within_whenOpen (decide_eq_true hn) he _).trans (by rw [if_pos hv])

theorem exec_ringDisable {n : Nat} {v : Word} {s : State} (hn : n < 256) (he : s.sys.mode.engine = true) (hv : bitAt v.toNat 7 = false) :
    exec (.ringDisable n v) s = .next (writeRingCfg n v.toNat s) :=
  (within_whenOpen (decide_eq_true hn) he _).trans (by rw [if_neg (by simp [hv])])

theorem ringRefused_iff (n v : Nat) (s : State) : ringRefused n v s = true ↔
    10 < v % 16 ∨ rd Reg.hifRingBase n s = 0 ∨ (fld v 4 2 ≠ 1 ∧ evRingOn (fld v 8 8) s = false) ∨ (fld v 16 6 < 4 ∧ bitAt v 6 = false) := by
  have hsize : fld v 0 4 = v % 16 := by simp [fld]
  rw [show rd Reg.hifRingBase n s = ringBase n s from rfl]
  simp [ringRefused, hsize, or_assoc]

section
variable {n v : Nat} {s : State}

theorem writeRingCfg_enables (hv : bitAt v 7 = true) (hoff : ringOn n s = false) (hok : ringRefused n v s = false) :
    writeRingCfg n v s = enableRing n v s := by
  rw [ringOn] at hoff
  simp [writeRingCfg, hv, hoff, hok]

theorem writeRingCfg_refuses (hv : bitAt v 7 = true) (hoff : ringOn n s = false) (hbad : ringRefused n v s = true) :
    writeRingCfg n v s = setRing n { getRing n s with cfgErr := true } (wrRw Reg.hifRingCfg n (setFld v 7 1 0) s) := by
  rw [ringOn] at hoff
  simp [writeRingCfg, hv, hoff, hbad]

theorem writeRingCfg_of_both_on (hv : bitAt v 7 = true) (hon : ringOn n s = true) : writeRingCfg n v s = s := by
  rw [ringOn] at hon
  simp [writeRingCfg, hv, hon]

theorem writeRingCfg_disables (hv : bitAt v 7 = false) (hon : ringOn n s = true) : writeRingCfg n v s =
    if ringKind n s = 3 then dropPunts n (wr Reg.hifRingCfg n (setFld (rd Reg.hifRingCfg n s) 7 1 0) s)
    else wr Reg.hifRingCfg n (setFld (rd Reg.hifRingCfg n s) 7 1 0) s := by
  rw [ringOn] at hon
  simp [writeRingCfg, hv, hon]
  rfl

theorem writeRingCfg_of_both_off (hv : bitAt v 7 = false) (hoff : ringOn n s = false) :
    writeRingCfg n v s = wrRw Reg.hifRingCfg n v s := by
  rw [ringOn] at hoff
  simp [writeRingCfg, hv, hoff]

end

/-- Settles O3: the two rows write HIF_RING_CFG, by the cases of `writeRingCfg`. -/
theorem ringConfiguration : Obligations.RingConfiguration := by
  unfold Obligations.RingConfiguration
  intro n v s hn he x refused
  have hrefused : ringRefused n x s = true ↔ refused := ringRefused_iff n x s
  refine ⟨fun hv hoff hok => ?_, fun hv hoff hbad => ?_, fun hv hon => ?_, fun hv hon hk => ?_, fun hv hon hk => ?_, fun hv hoff => ?_⟩
  · rw [exec_ringEnable hn he hv, writeRingCfg_enables hv hoff (Bool.eq_false_iff.mpr (hok ∘ hrefused.mp)), enableRing]
  · rw [exec_ringEnable hn he hv, writeRingCfg_refuses hv hoff (hrefused.mpr hbad)]
  · rw [exec_ringEnable hn he hv, writeRingCfg_of_both_on hv hon]
  · rw [exec_ringDisable hn he hv, writeRingCfg_disables hv hon, if_neg hk]
  · rw [exec_ringDisable hn he hv, writeRingCfg_disables hv hon, if_pos hk]
  · rw [exec_ringDisable hn he hv, writeRingCfg_of_both_off hv hoff]

/-! ### Doorbells (R39 to R43) -/

theorem exec_doorbell {n : Nat} {v : Word} {s : State} (hn : n < 256) : exec (.doorbell n v) s = .next (ringDoorbell n v.toNat s) :=
  within_of (decide_eq_true hn) _

theorem exec_arm {n : Nat} {v : Word} {s : State} (hn : n < 256) (hv : bitAt v.toNat 17 = true) :
    exec (.arm n v) s = .next (ringDoorbell n v.toNat s) :=
  (within_of (decide_eq_true hn) _).trans (by rw [if_pos hv])

@[simp] theorem vectorMasked_setRing (n k : Nat) (r : Ring) (s : State) : vectorMasked n (setRing k r s) = vectorMasked n s := rfl

theorem raiseVector_of_unmasked {n : Nat} {s : State} (h : vectorMasked n s = false) : raiseVector n s = emit (.msix n) s := by
  simp [raiseVector, h]

theorem raiseVector_of_masked {n : Nat} {s : State} (h : vectorMasked n s = true) :
    raiseVector n s = wr Reg.msixPba (n / 32) (rd Reg.msixPba (n / 32) s ||| 2 ^ (n % 32)) s := by
  simp [raiseVector, h]

theorem ringDoorbell_of_off {n v : Nat} {s : State} (he : s.sys.mode.engine = true) (hoff : ringOn n s = false) :
    ringDoorbell n v s = post 4 ([byte n, 1, 0, 0] ++ le 4 v) s := by
  simp [ringDoorbell, he, hoff]

section
variable {n v : Nat} {s : State} (he : s.sys.mode.engine = true) (hon : ringOn n s = true)
include he hon

theorem ringDoorbell_of_bad (hbad : doorbellOk n v s = false) : ringDoorbell n v s = post 4 ([byte n, 0, 0, 0] ++ le 4 v) s := by
  simp [ringDoorbell, he, hon, hbad]

theorem ringDoorbell_producer (hok : doorbellOk n v s = true) (hk : ringKind n s ≠ 1) :
    ringDoorbell n v s = setRing n { getRing n s with host := v, prod := fld v 0 16 + ringSize n s * fld v 16 1 } s := by
  simp [ringDoorbell, he, hon, hok, hk]

theorem ringDoorbell_consumer (hok : doorbellOk n v s = true) (hk : ringKind n s = 1) (hv : bitAt v 17 = false) :
    ringDoorbell n v s = setRing n { getRing n s with host := v, cons := fld v 0 16 + ringSize n s * fld v 16 1 } s := by
  simp [ringDoorbell, he, hon, hok, hk, hv]

theorem ringDoorbell_arms (hok : doorbellOk n v s = true) (hk : ringKind n s = 1) (hv : bitAt v 17 = true) :
    ringDoorbell n v s = armRing n (fld v 0 16 + ringSize n s * fld v 16 1)
      (setRing n { getRing n s with host := v, cons := fld v 0 16 + ringSize n s * fld v 16 1 } s) := by
  simp [ringDoorbell, he, hon, hok, hk, hv]

end

theorem armRing_of_empty {n new : Nat} {s : State} (h : (getRing n s).prod = new) :
    armRing n new s = setRing n { getRing n s with armed := some new } s := by
  simp [armRing, h]

theorem armRing_of_unconsumed {n new : Nat} {s : State} (h : (getRing n s).prod ≠ new) :
    armRing n new s = raiseVector n (setRing n { getRing n s with armed := none } s) := by
  simp [armRing, h]

/-- Settles O4: the cases of `ringDoorbell`, and of `armRing` where the doorbell arms. -/
theorem doorbells : Obligations.Doorbells := by
  unfold Obligations.Doorbells
  intro n v s hn he x size new r dev old occ ok
  have hix : fld x 0 16 = x % 65536 := by simp [fld]
  have hok : doorbellOk n x s = true ↔ ok := by
    simp [doorbellOk, atOrBeyond, devPos, hostPos, hix, ok, occ, old, dev, new, size, r, and_assoc]
  have hnew : fld x 0 16 + ringSize n s * fld x 16 1 = new := by rw [hix]
  refine ⟨fun hon hk ht => ?_, fun hon hk ht hv => ?_, fun hon hk ht hv hp => ?_, fun hon hk ht hv hp hm => ?_,
    fun hon hk ht hv hp hm => ?_, fun hoff => ?_, fun hon hk => ?_⟩
  · rw [exec_doorbell hn, ringDoorbell_producer he hon (hok.mpr hk) ht, hnew]
  · rw [exec_doorbell hn, ringDoorbell_consumer he hon (hok.mpr hk) ht hv, hnew]
  · refine ⟨_, exec_arm hn hv, ?_⟩
    rw [ringDoorbell_arms he hon (hok.mpr hk) ht hv, hnew, armRing_of_empty (by rw [getRing_setRing]; exact hp)]
    simp [r]
  · refine ⟨_, exec_arm hn hv, ?_⟩
    rw [ringDoorbell_arms he hon (hok.mpr hk) ht hv, hnew, armRing_of_unconsumed (by rw [getRing_setRing]; exact hp),
      raiseVector_of_unmasked (by simpa using hm)]
    simp [r]
  · refine ⟨_, exec_arm hn hv, ?_⟩
    rw [ringDoorbell_arms he hon (hok.mpr hk) ht hv, hnew, armRing_of_unconsumed (by rw [getRing_setRing]; exact hp),
      raiseVector_of_masked (by simpa using hm)]
    simp [r]
    rfl
  · rw [exec_doorbell hn, ringDoorbell_of_off he hoff]
  · rw [exec_doorbell hn, ringDoorbell_of_bad he hon (Bool.eq_false_iff.mpr (hk ∘ hok.mp))]

end Sys2Proof.Machine
end

section
/-! PROOFS. The command engine: fetching, the control opcodes, SUMMARYs, and the events that rings take (2.4, 2.5). -/
namespace Sys2Proof.Machine

/-! ### Fetching (R56, R560, R561) -/

theorem ringKind_of_hasWork {k n : Nat} {s : State} (h : hasWork k n s = true) : ringKind n s = k := by
  simp only [hasWork, Bool.and_eq_true, decide_eq_true_eq] at h
  exact h.1.1.1.1.2

theorem hasWork_of_turnRing {n : Nat} {s : State} (h : turnRing s = some n) : hasWork 0 n s = true :=
  List.find?_some (p := fun n => hasWork 0 n s) h

/-- Taking an entry of a command ring moves the ring on, and counts the read against its channel's share. -/
theorem takeEntry_of_command {n : Nat} {s : State} (h : ringKind n s = 0) :
    takeEntry n s = setRing n { getRing n s with cons := ((getRing n s).cons + 1) % (2 * ringSize n s),
                                                 fetched := ((getRing n s).fetched + 1) % 2 ^ 32 }
      (countBurst (ringCh n s) .fromHost s) := by
  have hk : ringKind n (countBurst (ringCh n s) .fromHost s) = 0 := h
  rw [takeEntry]
  dsimp only
  rw [if_pos hk]
  rfl

/-- The state after a fetch, before the start checks: the entry is taken, the turn moves on and the command is in flight last. -/
def fetchedState (desc : List Byte) (n : Nat) (s : State) : State :=
  { takeEntry n s with hif := { (takeEntry n s).hif with
      rrNext := (n + 1) % 256, inflight := (takeEntry n s).hif.inflight ++ [decodeCmd n (getRing n s).fetched (fit 64 desc) s] } }

section
variable {n : Nat} {s : State} (hm : mayFetch s = true) (ht : turnRing s = some n) (desc : List Byte)
include hm ht

theorem exec_commandFetch : exec (.commandFetch desc) s = .next
    (let c := decodeCmd n (getRing n s).fetched (fit 64 desc) s
     let t := fetchedState desc n s
     match fetchCheck c (fit 64 desc) s with
     | some st => finish c { status := st } 0 0 t
     | none => if startable c t then (match startCheck c t with | some st => finish c { status := st } 0 0 t | none => t) else t) := by
  have hexec : exec (.commandFetch desc) s = execCommandFetch desc s := rfl
  rw [hexec, execCommandFetch, hm, ht]
  rfl

theorem exec_descriptorFetchError (st : Byte) : exec (.descriptorFetchError st) s = .next
    (postCompletion (ringEv n s) { ring := n, seq := 2 ^ 32 + (getRing n s).fetched }
      { code := 2, status := st.toNat, ts := (stamp s).1, ph := (stamp s).2, src := n, seq := (getRing n s).fetched }
      { takeEntry n s with hif := { (takeEntry n s).hif with rrNext := (n + 1) % 256 } }) := by
  have hexec : exec (.descriptorFetchError st) s = execDescriptorFetchError st s := rfl
  have hev : ringEv n (takeEntry n s) = ringEv n s := by rw [takeEntry_of_command (ringKind_of_hasWork (hasWork_of_turnRing ht))]; rfl
  rw [hexec, execDescriptorFetchError, hm, ht]
  dsimp only
  rw [hev]
  rfl

end

/-- Settles O5: the two rows by their equations, and what taking an entry of a command ring changes. -/
theorem commandFetch : Obligations.CommandFetch := by
  unfold Obligations.CommandFetch
  intro desc st n s hm ht c u t
  have hfetch : exec (.commandFetch desc) s = _ := exec_commandFetch hm ht desc
  have htake : u = _ := takeEntry_of_command (ringKind_of_hasWork (hasWork_of_turnRing ht))
  refine ⟨fun k hk => ?_, fun hk hs => ?_, fun hk hs hc => ?_, fun k hk hs hc => ?_, exec_descriptorFetchError hm ht st, ?_,
    fun m hne => ?_, ?_, ?_⟩
  · rw [hfetch]
    simp only [c] at hk
    simp only [hk]
    rfl
  · have hs' : startable c (fetchedState desc n s) = false := hs
    simp only [c] at hk hs'
    simp only [hfetch, hk, hs']
    rfl
  · have hs' : startable c (fetchedState desc n s) = true := hs
    have hc' : startCheck c (fetchedState desc n s) = none := hc
    simp only [c] at hk hs' hc'
    simp only [hfetch, hk, hs', hc']
    rfl
  · have hs' : startable c (fetchedState desc n s) = true := hs
    have hc' : startCheck c (fetchedState desc n s) = some k := hc
    simp only [c] at hk hs' hc'
    simp only [hfetch, hk, hs', hc']
    rfl
  · rw [htake, getRing_setRing]
  · rw [htake, getRing_setRing_ne hne]
    rfl
  · rw [htake]
    rfl
  · rw [htake]
    rfl

/-! ### The control opcodes (Table 2.14) -/

section
variable {c : Cmd} {s : State}

theorem exec_nop (h : ready 0 c s = true) : exec (.nop c.ref) s = .next (finish c {} 0 0 (started c s)) :=
  congrArg Host.Outcome.next (runCmd_later h rfl)

theorem setQuiesced_ok {q : Bool} (hon : ringOn (c.op 0 1) s = true) (hk : ringKind (c.op 0 1) s ≠ 1) :
    setQuiesced q c s = endCtl c {} (setRing (c.op 0 1) { getRing (c.op 0 1) s with quiesced := q } s) := by
  simp [setQuiesced, hon, hk]

theorem setQuiesced_bad {q : Bool} (h : ringOn (c.op 0 1) s = false ∨ ringKind (c.op 0 1) s = 1) :
    setQuiesced q c s = endCtl c { status := 2 } s := by
  rw [setQuiesced]
  exact if_pos (h.imp_left fun h => by simp [h])

end

/-- Settles O6: each opcode by what its owner answers. -/
theorem controlOpcodes : Obligations.ControlOpcodes := by
  unfold Obligations.ControlOpcodes
  intro c s u n
  have quiesce {h : ready 2 c s = true} {t : State} (hb : setQuiesced true c u = (t, .later)) : exec (.ringQuiesce c.ref) s = .next t :=
    congrArg Host.Outcome.next (runCmd_later h hb)
  have resume {h : ready 3 c s = true} {t : State} (hb : setQuiesced false c u = (t, .later)) : exec (.ringResume c.ref) s = .next t :=
    congrArg Host.Outcome.next (runCmd_later h hb)
  have restart {h : ready 4 c s = true} {t : State} (hb : channelRestartCmd c u = (t, .later)) :
      exec (.channelRestart c.ref) s = .next t :=
    congrArg Host.Outcome.next (runCmd_later h hb)
  have share {h : ready 5 c s = true} {t : State} (hb : channelShareCmd c u = (t, .later)) : exec (.channelShare c.ref) s = .next t :=
    congrArg Host.Outcome.next (runCmd_later h hb)
  refine ⟨exec_nop, fun h hon hk => quiesce (h := h) (setQuiesced_ok hon hk), fun h hon hk => resume (h := h) (setQuiesced_ok hon hk),
    fun h hbad => quiesce (h := h) (setQuiesced_bad hbad), fun h hbad => resume (h := h) (setQuiesced_bad hbad),
    fun h hn => restart (h := h) (if_neg (by omega)), fun h hn => restart (h := h) (if_pos (by omega)),
    fun h hn => share (h := h) (if_neg (by omega)), fun h hn => share (h := h) (if_pos (by omega)),
    fun h => congrArg Host.Outcome.next (runCmd_later h rfl), fun ch hch he => ?_⟩
  exact within_whenOpen (decide_eq_true hch) he _

/-! ### SUMMARY (R72 to R74) -/

theorem summaryCmd_queues {c : Cmd} {s : State} (ha : c.addr % 64 = 0) (hl : c.len = 65536) (hroom : sumCount s < 5) :
    summaryCmd c s = ({ s with hif := { s.hif with sumWait := s.hif.sumWait ++ [{ cmd := some c.ref, addr := c.addr }] } }, .later) := by
  rw [summaryCmd, if_neg (by simp [ha, hl]), if_neg (by omega)]

theorem summaryCmd_bad {c : Cmd} {s : State} (h : c.addr % 64 ≠ 0 ∨ c.len ≠ 65536) :
    summaryCmd c s = endCtl c { status := 2 } s := by
  rw [summaryCmd, if_pos h, BAD_PARAM]

theorem summaryCmd_full {c : Cmd} {s : State} (ha : c.addr % 64 = 0) (hl : c.len = 65536) (hfull : 5 ≤ sumCount s) :
    summaryCmd c s = endCtl c { status := 4 } s := by
  rw [summaryCmd, if_neg (by simp [ha, hl]), if_pos hfull, NO_RESOURCE]

theorem exec_summaryGo {s : State} (he : s.sys.mode.engine = true) : exec .summaryGo s = .next (summaryGo s) :=
  congrArg Host.Outcome.next (whenOpen_open _ he)

theorem exec_summaryQueueStart {s : State} (he : s.sys.mode.engine = true) :
    exec .summaryQueueStart s = .next (if s.hif.sumRun.isSome then s else startSummary s) :=
  congrArg Host.Outcome.next (whenOpen_open _ he)

/-- What is sent of a list goes out in its order, the newest first in the output. -/
theorem foldl_emit {α : Type} (f : α → Out) (l : List α) (s : State) :
    l.foldl (fun s x => emit (f x) s) s = { s with out := (l.map f).reverse ++ s.out } := by
  induction l generalizing s with
  | nil => rfl
  | cons x l ih =>
    rw [List.foldl_cons, ih]
    simp [emit]

/-- The requests that write bytes to host memory (R60). -/
def hostWrites (mps a : Nat) (bs : List Byte) : List Out :=
  (hostAccesses mps a bs.length).map fun x => .hostData x.1 (slice bs (x.1 - a) x.2)

theorem writeHost_eq (a : Nat) (bs : List Byte) (s : State) :
    writeHost a bs s = { s with out := (hostWrites s.hif.mps a bs).reverse ++ s.out } := foldl_emit _ _ s

theorem length_fit (k : Nat) (bs : List Byte) : (fit k bs).length = k := by
  simp [fit, slice, zeros]

/-- The first SUMMARY of the queue starts: its record, in a state that only the host interface has changed. -/
theorem startSummary_of_waiting {s : State} {j : SumJob} {rest : List SumJob} (h : s.hif.sumWait = j :: rest) :
    ∃ u : State, u.out = s.out ∧ u.hif.mps = s.hif.mps ∧ u.hif.sumRun = some j ∧ u.hif.sumWait = rest ∧
      u.hif.sumCount = (s.hif.sumCount + 1) % 2 ^ 32 ∧ u.hif.sumRecord = linenBody ((s.hif.sumCount + 1) % 2 ^ 32) s ∧
      startSummary s = emit (.flushRead (j.addr + 65519)) (writeHost j.addr (linenBody ((s.hif.sumCount + 1) % 2 ^ 32) s) u) := by
  rw [startSummary, h]
  dsimp only
  split
  · exact ⟨{ s with hif := { s.hif with sumRun := some j, sumWait := rest, sumRecord := _, sumCount := _ } }, rfl, rfl, rfl, rfl, rfl, rfl, rfl⟩
  · exact ⟨setChan 0 _ { s with hif := { s.hif with sumRun := some j, sumWait := rest, sumRecord := _, sumCount := _ } },
      rfl, rfl, rfl, rfl, rfl, rfl, rfl⟩

/-- Settles O7: the owner of SUMMARY and the two rows by their cases. -/
theorem summaryQueue : Obligations.SummaryQueue := by
  unfold Obligations.SummaryQueue
  intro c s u count
  have summary {h : ready 1 c s = true} {t : State} (hb : summaryCmd c u = (t, .later)) : exec (.summary c.ref) s = .next t :=
    congrArg Host.Outcome.next (runCmd_later h hb)
  refine ⟨fun h ha hl hc => summary (h := h) (summaryCmd_queues ha hl hc), fun h hbad => summary (h := h) (summaryCmd_bad hbad),
    fun h ha hl hc => summary (h := h) (summaryCmd_full ha hl hc), fun he hb => ?_, fun he hb hc => ?_, fun he hb hc => ?_,
    fun he hr => ?_, fun j rest he hr hw => ?_⟩
  · rw [exec_summaryGo he, summaryGo, if_pos hb]
  · rw [exec_summaryGo he, summaryGo, if_neg (by simp [hb]), if_neg (by exact Nat.not_le.mpr hc)]
  · rw [exec_summaryGo he, summaryGo, if_neg (by simp [hb]), if_pos (by exact hc)]
  · rw [exec_summaryQueueStart he, if_pos hr]
  · obtain ⟨v, hout, hmps, hrun, hwait, hcount, hrec, hstart⟩ := startSummary_of_waiting hw
    refine ⟨_, exec_summaryQueueStart he, ?_⟩
    rw [if_neg (by simp [hr]), hstart, writeHost_eq, writeHost_eq]
    simp only [emit_hif, emit_out, hrun, hwait, hcount, hout, hmps, hrec, true_and, and_true]
    exact length_fit _ _

/-! ### Waiting events (R46) -/

theorem exec_eventWrite {n : Nat} {s t : State} (hn : n < 256) (he : s.sys.mode.engine = true) (hr : ringRoom n s = true)
    (h : execEventWrite n s = within (decide (n < 256)) (if !s.sys.mode.engine ∨ !ringRoom n s then s else t)) :
    exec (.eventWrite n) s = .next t :=
  h.trans ((within_of (decide_eq_true hn) _).trans (by rw [if_neg (by simp [he, hr])]))

/-- Settles O8: EVENT_WRITE by what waits for the ring. -/
theorem waitingEvents : Obligations.WaitingEvents := by
  unfold Obligations.WaitingEvents
  intro n s hn he hr r
  refine ⟨fun ref e rest hc => exec_eventWrite hn he hr ?_, fun e rest hc hb => exec_eventWrite hn he hr ?_,
    fun k rest hc hb => exec_eventWrite hn he hr ?_, fun hc hb => exec_eventWrite hn he hr ?_, fun u hu => ?_⟩
  · simp only [execEventWrite, r, hc]
  · simp only [execEventWrite, r, hc, hb]
  · simp only [execEventWrite, r, hc, hb]
  · simp only [execEventWrite, r, hc, hb]
  · rw [drainCaptures, if_pos (.inl hu)]

/-! ### The event that a ring takes (R43, R44) -/

theorem length_le (k v : Nat) : (le k v).length = k := by simp [le]

theorem length_eventBytes (e : Event) (phase : Nat) : (e.bytes phase).length = 64 := by
  simp [Event.bytes, length_le, length_fit]

/-- PHASE is bit 0 of byte 5. -/
theorem phase_eventBytes (e : Event) (phase : Nat) : byteAt (e.bytes phase) 5 % 2 = phase % 2 := by
  have hbyte : byteAt (e.bytes phase) 5 = (phase + 2 * b2n e.async + 4 * b2n e.late + 8 * (e.ph % 4)) % 256 := by
    simp [Event.bytes, byteAt, le, List.range_succ]
  omega

theorem phaseOf_of_lt {size pos : Nat} (h : pos < 2 * size) : phaseOf size pos % 2 = if pos < size then 1 else 0 := by
  have hsize : 0 < size := by omega
  by_cases hlt : pos < size
  · simp [phaseOf, hlt, Nat.div_eq_of_lt hlt]
  · have hgen : pos / size = 1 := Nat.div_eq_of_lt_le (by omega) (by omega)
    simp [phaseOf, hlt, hgen]

@[simp] theorem setRing_inflight (n : Nat) (r : Ring) (s : State) : (setRing n r s).hif.inflight = s.hif.inflight := rfl
@[simp] theorem setRing_chans (n : Nat) (r : Ring) (s : State) : (setRing n r s).hif.chans = s.hif.chans := rfl
@[simp] theorem raiseVector_hif (n : Nat) (s : State) : (raiseVector n s).hif = s.hif := by
  unfold raiseVector
  split
  · exact wr_hif ..
  · rfl

@[simp] theorem getRing_raiseVector (n k : Nat) (s : State) : getRing k (raiseVector n s) = getRing k s := by
  rw [getRing, raiseVector_hif]; rfl

/-- The bytes that an event takes in its ring, and the state that has sent them. -/
def eventSent (n : Nat) (e : Event) (s : State) : State :=
  emit (.hostWrite (entryAddr n 64 (getRing n s).prod s) (e.bytes (phaseOf (ringSize n s) (getRing n s).prod))) s

theorem writeEvent_of_unarmed {n : Nat} {e : Event} {s : State} (h : (getRing n s).armed = none) :
    writeEvent n e s = setRing n { getRing n s with prod := ((getRing n s).prod + 1) % (2 * ringSize n s) } (eventSent n e s) := by
  simp only [writeEvent, h]
  rfl

theorem writeEvent_of_reached {n a : Nat} {e : Event} {s : State} (h : (getRing n s).armed = some a)
    (hr : atOrBeyond (ringSize n s) (getRing n s).prod a = true) :
    writeEvent n e s = raiseVector n (setRing n { getRing n s with
      prod := ((getRing n s).prod + 1) % (2 * ringSize n s), armed := none } (eventSent n e s)) := by
  simp only [writeEvent, h, hr, if_true]
  rfl

theorem writeEvent_of_ahead {n a : Nat} {e : Event} {s : State} (h : (getRing n s).armed = some a)
    (hr : atOrBeyond (ringSize n s) (getRing n s).prod a = false) :
    writeEvent n e s = setRing n { getRing n s with prod := ((getRing n s).prod + 1) % (2 * ringSize n s) } (eventSent n e s) := by
  simp only [writeEvent, h, hr]
  rfl

/-- Writing an event moves its ring's producer on and, where the armed position is reached, disarms it; the vector may follow. -/
theorem writeEvent_rings (n : Nat) (e : Event) (s : State) :
    ∃ r : Ring, r.prod = ((getRing n s).prod + 1) % (2 * ringSize n s) ∧
      (writeEvent n e s).hif = (setRing n r s).hif := by
  cases ha : (getRing n s).armed with
  | none => exact ⟨_, rfl, by rw [writeEvent_of_unarmed ha]; rfl⟩
  | some a =>
    cases hr : atOrBeyond (ringSize n s) (getRing n s).prod a with
    | true => exact ⟨_, rfl, by rw [writeEvent_of_reached ha hr, raiseVector_hif]; rfl⟩
    | false => exact ⟨_, rfl, by rw [writeEvent_of_ahead ha hr]; rfl⟩

/-- Settles O9: the event's bytes by Table 2.12, its ring by the three cases of `writeEvent`. -/
theorem eventRecord : Obligations.EventRecord := by
  unfold Obligations.EventRecord
  intro n e s hlt r t
  obtain ⟨q, hprod, hhif⟩ := writeEvent_rings n e s
  refine ⟨e.bytes (phaseOf (ringSize n s) r.prod), length_eventBytes .., ?_, ?_, fun m hne => ?_, ?_, ?_, ?_, fun ha => ?_,
    fun a ha hr => ?_⟩
  · rw [phase_eventBytes, phaseOf_of_lt hlt]
  · rw [getRing, hhif]
    exact (congrArg Ring.prod (getRing_setRing n q s)).trans hprod
  · rw [getRing, hhif]
    exact getRing_setRing_ne hne q s
  · rw [hhif, setRing_inflight]
  · rw [hhif, setRing_chans]
  · obtain ⟨_, _, _, ht⟩ := sameBut_writeEvent n e s
    simp only [t, ht]
  · simp only [t, writeEvent_of_unarmed ha, setRing_regs, setRing_out]
    exact ⟨rfl, rfl⟩
  · have hr' : atOrBeyond (ringSize n s) (getRing n s).prod a = true := decide_eq_true hr
    simp only [t, writeEvent_of_reached ha hr', getRing_raiseVector, getRing_setRing, true_and]
    intro hm
    rw [raiseVector_of_unmasked (by exact hm)]
    rfl

end Sys2Proof.Machine
end

section
/-! PROOFS. Descriptors: bursts, completion, late errors and the deferral limit (2.6). -/
namespace Sys2Proof.Machine

/-! ### What leaves the channels alone -/

@[simp] theorem turnPast_chans (dir : Dir) (ch : Nat) (h : HifState) : (turnPast dir ch h).chans = h.chans := by
  rw [turnPast]
  split <;> rfl

@[simp] theorem writeEvent_chans (n : Nat) (e : Event) (s : State) : (writeEvent n e s).hif.chans = s.hif.chans := by
  obtain ⟨q, -, hhif⟩ := writeEvent_rings n e s
  rw [hhif, setRing_chans]

@[simp] theorem retire_chans (ref : CmdRef) (s : State) : (retire ref s).hif.chans = s.hif.chans := rfl
@[simp] theorem modCmd_chans (ref : CmdRef) (f : Cmd → Cmd) (s : State) : (modCmd ref f s).hif.chans = s.hif.chans := rfl

@[simp] theorem completeTo_chans (c : Cmd) (e : Event) (s : State) : (completeTo c e s).hif.chans = s.hif.chans := by
  unfold completeTo
  split
  · exact writeEvent_chans ..
  · rfl

@[simp] theorem finish_chans (c : Cmd) (r : CmdRes) (k l : Nat) (s : State) : (finish c r k l s).hif.chans = s.hif.chans := by
  unfold finish
  split
  · rfl
  · split
    · rfl
    · split
      · exact completeTo_chans ..
      · rfl

theorem getChan_setChan_ne {m n : Nat} (h : m ≠ n) (c : Chan) (s : State) : getChan m (setChan n c s) = getChan m s :=
  tget_tset_other _ _ _ _ h

/-- A fold whose steps leave every state alone but for one element, and change nothing after it, takes that element's step. -/
theorem foldl_only {α β : Type} [DecidableEq β] {f : α → β → α} {b : β} {a a' : α} {l : List β} (hmem : b ∈ l) (hnodup : l.Nodup)
    (hbefore : ∀ x ∈ l, x ≠ b → f a x = a) (hstep : f a b = a') (hafter : ∀ x ∈ l, x ≠ b → f a' x = a') : l.foldl f a = a' := by
  have idle {c : α} : ∀ {m : List β}, (∀ x ∈ m, f c x = c) → m.foldl f c = c := by
    intro m
    induction m with
    | nil => exact fun _ => rfl
    | cons y ys ih =>
      intro h
      rw [List.foldl_cons, h y List.mem_cons_self]
      exact ih fun x hx => h x (List.mem_cons_of_mem _ hx)
  obtain ⟨before, after, rfl⟩ := List.append_of_mem hmem
  have hb : b ∉ before ∧ b ∉ after := by
    rw [List.nodup_append, List.nodup_cons] at hnodup
    exact ⟨fun h => hnodup.2.2 b h b List.mem_cons_self rfl, hnodup.2.1.1⟩
  rw [List.foldl_append, List.foldl_cons, idle fun x hx => hbefore x (List.mem_append_left _ hx) fun h => hb.1 (h ▸ hx), hstep]
  exact idle fun x hx => hafter x (List.mem_append_right _ (List.mem_cons_of_mem _ hx)) fun h => hb.2 (h ▸ hx)

/-! ### The rows -/

section
variable {ch : Nat} {s : State}

/-- The state in which a burst starts: the round robin has moved on. -/
def turned (dir : Dir) (ch : Nat) (s : State) : State := { s with hif := turnPast dir ch s.hif }

section
variable {x : Xfer} (hch : ch < 64) (he : s.sys.mode.engine = true)
include hch he

theorem exec_burstStart_fromHost (hn : nextChan .fromHost s = some ch) (hx : nextXfer ch .fromHost s = some x) :
    exec (.burstStart ch .fromHost) s = .next (burstIn ch x (turned .fromHost ch s)) := by
  have hexec : exec (.burstStart ch .fromHost) s = execBurstStart ch .fromHost s := rfl
  rw [hexec, execBurstStart, within_of (decide_eq_true hch), hx]
  dsimp only
  rw [if_neg (by simp [he, hn]), turned]

theorem exec_burstStart_toHost (hn : nextChan .toHost s = some ch) (hx : nextXfer ch .toHost s = some x) :
    exec (.burstStart ch .toHost) s = .next (burstOut ch x (turned .toHost ch s)) := by
  have hexec : exec (.burstStart ch .toHost) s = execBurstStart ch .toHost s := rfl
  rw [hexec, execBurstStart, within_of (decide_eq_true hch), hx]
  dsimp only
  rw [if_neg (by simp [he, hn]), turned]

end

@[simp] theorem getChan_turned (dir : Dir) (k : Nat) : getChan ch (turned dir k s) = getChan ch s :=
  congrArg (tget · ch) (turnPast_chans ..)

theorem burstDue_of_full_share (h : rdFld Reg.hifDmaCfg ch 0 8 s = 0) (last : Option Nat) : burstDue ch last s = true := by
  cases last <;> simp [burstDue, h]

theorem exec_descriptorComplete {x : Xfer} (hch : ch < 64) (he : s.sys.mode.engine = true)
    (hx : (getChan ch s).xfers.find? (xferWhole ch) = some x) :
    exec (.descriptorComplete ch) s = .next (endWhole ch (xferWhole ch) x x.bad x.good 0 s) :=
  (within_whenOpen (decide_eq_true hch) he _).trans (by rw [hx])

theorem exec_flushReadReturn {of : FlushOf} {k : Nat} {err : Option Byte} {t : State} (hch : ch < 4) (he : s.sys.mode.engine = true)
    (h : execFlushReadReturn ch of k err s = within (decide (ch < 4)) (whenOpen s t)) :
    exec (.flushReadReturn ch of k err) s = .next t :=
  h.trans (within_whenOpen (decide_eq_true hch) he t)

/-- The only punt buffer that waits for its flush read is written back. -/
theorem puntFlushed_only {n k : Nat} {b : PuntBuf} (h : (getRing n s).puntWait = [b]) : puntFlushed n b.seq k none s =
    writeBackAt n b.desc b.status b.len b.sop b.eop b.trunc (b.ts, b.ph) (setRing n { getRing n s with puntWait := [] } s) := by
  simp [puntFlushed, h, dropFirst]

theorem endWhole_of_no_objects {c : Cmd} {p : Xfer → Bool} {x : Xfer} {st done : Nat} (hc : findCmd x.cmd s = some c)
    (ho : cmdObjs c s = []) : endWhole ch p x st done 0 s = endXfer ch p x st done 0 s := by
  rw [endWhole, hc]
  dsimp only
  rw [ho, touch, if_pos rfl]

theorem endXfer_of_command {c : Cmd} {p : Xfer → Bool} {x : Xfer} {st done left : Nat} (hc : findCmd x.cmd s = some c) :
    endXfer ch p x st done left s = finish c { x.res with status := (if st = 0 then x.res.status else st) } done left
      (setChan ch { getChan ch s with xfers := dropFirst p (getChan ch s).xfers, lastStatus := (if st = 0 then x.res.status else st) } s) := by
  have hc' (c' : Chan) : findCmd x.cmd (setChan ch c' s) = some c := hc
  simp only [endXfer, hc']

theorem exec_lateError {desc : DescRef} {st : Byte} (hch : ch < 64) (hr : desc.ring < 256) (he : s.sys.mode.engine = true) :
    exec (.lateError ch desc st) s = .next (if ch < 4 then
        if desc.packet then s
        else setChan ch { getChan ch s with
          xfers := modFirst (xferOf { ring := desc.ring, seq := desc.seq })
            (fun x => { x with bad := st.toNat, badBytes := x.badBytes + 64 }) (getChan ch s).xfers } s
      else if !desc.packet && (getChan ch s).xfers.any (xferOf { ring := desc.ring, seq := desc.seq }) then s
      else lateError ch desc st s) :=
  within_whenOpen (by simp [hch, hr]) he _

/-- A late error of a command's data: its event, or FC000 where its ring is not an enabled event ring. -/
theorem lateError_of_data {desc : DescRef} {st : Byte} (h : desc.packet = false) : lateError ch desc st s =
    (let t := setChan ch { getChan ch s with halted := true, lateErrors := min ((getChan ch s).lateErrors + 1) (2 ^ 32 - 1) } s
     if evRingOn desc.evRing s then postCompletion desc.evRing { ring := desc.ring, seq := 2 ^ 32 + desc.seq }
       { code := 3, tag := desc.tag, status := st.toNat, late := true, ts := (stamp s).1, ph := (stamp s).2, src := desc.ring, ch := ch,
         seq := desc.seq } t
     else report 0 10 ch [byte ch] t) := by
  simp only [lateError, h, sat]
  rfl

/-- Stopping a domain that one descriptor of the block touches ends that descriptor. -/
theorem stopDomain_of_one {d : Nat} {c : Cmd} {x : Xfer} (hch : ch < 64)
    (hone : s.hif.chans = [(ch, { getChan ch s with xfers := [x] })]) (hhit : x.domains.contains d = true) (hc : findCmd x.cmd s = some c) :
    stopDomain d s = finish c { x.res with status := 7 } (x.done - x.badBytes) x.left
      (setChan ch { getChan ch s with xfers := [], lastStatus := 7 } (setDom d { getDom d s with cut := (getDom d s).cut + 1 } s)) := by
  have hxs : (getChan ch s).xfers = [x] := by rw [getChan, hone]; simp [tget, tgetD]
  have hother {k : Nat} (hne : k ≠ ch) : (getChan k s).xfers = [] := by
    rw [getChan, hone]
    simp only [tget, tgetD, if_neg (Ne.symm hne)]
    rfl
  have hc' (y : PDom) : findCmd x.cmd (setDom d y s) = some c := hc
  rw [stopDomain]
  refine foldl_only (b := ch) (List.mem_range.mpr hch) List.nodup_range (fun k _ hne => ?_) ?_ fun k _ hne => ?_
  · simp [hother hne]
  · have hd (y : PDom) : getChan ch (setDom d y s) = getChan ch s := rfl
    simp only [hxs, List.filter_cons, hhit, if_true, List.filter_nil, List.foldl_cons, List.foldl_nil, endXfer_of_command (hc' _), hd,
      dropFirst, DOMAIN_OFF]
    rfl
  · have hk (r : CmdRes) (i j : Nat) (y : Chan) (z : PDom) :
        (getChan k (finish c r i j (setChan ch y (setDom d z s)))).xfers = [] := by
      rw [getChan, finish_chans]
      exact (congrArg Chan.xfers (getChan_setChan_ne hne y _)).trans (hother hne)
    simp [hk]

end

/-- Settles O10: each row by its equation. -/
theorem descriptors : Obligations.Descriptors := by
  unfold Obligations.Descriptors
  constructor
  · intro ch x s hch he c n
    refine ⟨fun hn hx => ?_, fun hn hx => ?_, fun h => burstDue_of_full_share h _⟩
    · rw [exec_burstStart_fromHost hch he hn hx, burstIn, getChan_turned]
      rfl
    · rw [exec_burstStart_toHost hch he hn hx, burstOut, getChan_turned]
      rfl
  intro ch x s he good
  refine ⟨fun hch hx => exec_descriptorComplete hch he hx, fun ref k hch hx => ?_, fun j k hj => ?_,
    fun n b k hch hn hr hb => ?_, fun p st done c hc ho => ?_, fun d st h4 hch hr hp hany => ?_, fun d st hch hr hp => ?_,
    fun d hd hst => ?_, fun d c hch hone hhit hc => stopDomain_of_one hch hone hhit hc⟩
  · refine ⟨exec_flushReadReturn hch he ?_, fun e => exec_flushReadReturn hch he ?_⟩
    · simp only [execFlushReadReturn, hx]
      rfl
    · simp only [execFlushReadReturn, hx]
      rfl
  · refine ⟨exec_flushReadReturn (by decide) he ?_, fun e => exec_flushReadReturn (by decide) he ?_⟩
    · simp only [execFlushReadReturn, if_true, hj]
    · simp only [execFlushReadReturn, if_true, hj]
  · refine exec_flushReadReturn hch he ?_
    simp only [execFlushReadReturn, if_pos (And.intro hn hr), puntFlushed_only hb]
  · rw [endWhole_of_no_objects hc ho, endXfer_of_command hc]
  · have hlate := exec_lateError (ch := ch) (desc := d) (st := st) hch hr he
    rw [if_neg (by omega), hp, hany, lateError_of_data hp] at hlate
    refine ⟨fun hoff => hlate.trans ?_, fun hon => hlate.trans ?_⟩
    · simp only [hoff]
      rfl
    · simp only [hon]
      rfl
  · rw [exec_lateError (by omega) hr he, if_pos hch, hp]
    rfl
  · exact (within_of (decide_eq_true hd) _).trans (by rw [if_pos hst]; rfl)

end Sys2Proof.Machine
end

section
/-! PROOFS. Packet descriptors: inject and punt rings (2.5, R50 to R52, R563, R565). -/
namespace Sys2Proof.Machine

/-! ### What fetching and writing back leave but for the channels -/

/-- The state with other channels. -/
def withChans (c : Tab Chan) (s : State) : State := { s with hif := { s.hif with chans := c } }

section
variable (c : Tab Chan) (s : State)

@[simp] theorem withChans_withChans (b : Tab Chan) : withChans c (withChans b s) = withChans c s := rfl
@[simp] theorem withChans_out : (withChans c s).out = s.out := rfl
@[simp] theorem withChans_mode : (withChans c s).sys.mode = s.sys.mode := rfl
@[simp] theorem withChans_emit (o : Out) : withChans c (emit o s) = emit o (withChans c s) := rfl
@[simp] theorem withChans_setRing (n : Nat) (r : Ring) : withChans c (setRing n r s) = setRing n r (withChans c s) := rfl
@[simp] theorem getRing_withChans (n : Nat) : getRing n (withChans c s) = getRing n s := rfl
@[simp] theorem ringSize_withChans (n : Nat) : ringSize n (withChans c s) = ringSize n s := rfl
@[simp] theorem ringCh_withChans (n : Nat) : ringCh n (withChans c s) = ringCh n s := rfl
@[simp] theorem entryAddr_withChans (n k pos : Nat) : entryAddr n k pos (withChans c s) = entryAddr n k pos s := rfl
@[simp] theorem stamp_withChans : stamp (withChans c s) = stamp s := rfl
@[simp] theorem domsDown_withChans (ds : List Nat) : domsDown ds (withChans c s) = domsDown ds s := rfl
@[simp] theorem getPkt_withChans (i : Nat) : getPkt i (withChans c s) = getPkt i s := rfl

theorem countBurst_chans (ch : Nat) (dir : Dir) : ∃ c, countBurst ch dir s = withChans c s := by
  cases dir <;> exact ⟨_, rfl⟩

theorem countBursts_chans (ch : Nat) (dir : Dir) (n : Nat) : ∃ c, countBursts ch dir n s = withChans c s := by
  unfold countBursts
  generalize List.range ((n + 4095) / 4096) = l
  induction l generalizing s with
  | nil => exact ⟨_, rfl⟩
  | cons _ l ih =>
    obtain ⟨b, hb⟩ := countBurst_chans s ch dir
    obtain ⟨c, hc⟩ := ih (countBurst ch dir s)
    exact ⟨c, by rw [List.foldl_cons, hc, hb]; rfl⟩

/-- A ring whose next entry the device has taken. -/
def takenRing (n : Nat) (s : State) : Ring :=
  { getRing n s with cons := ((getRing n s).cons + 1) % (2 * ringSize n s), fetched := ((getRing n s).fetched + 1) % 2 ^ 32 }

theorem takeEntry_chans (n : Nat) : ∃ c, takeEntry n s = setRing n (takenRing n s) (withChans c s) := by
  obtain ⟨c, hc⟩ := countBurst_chans s (ringCh n s) .fromHost
  by_cases hk : ringKind n s = 0
  · exact ⟨c, by rw [takeEntry_of_command hk, hc, takenRing]⟩
  · have hk' : ringKind n (withChans c s) ≠ 0 := hk
    rw [takeEntry]
    dsimp only
    rw [hc, if_neg hk']
    exact ⟨_, rfl⟩

theorem packetDone_chans (n status : Nat) : ∃ c, packetDone n status s = withChans c s := by
  obtain ⟨c, hc⟩ := countBurst_chans s (ringCh n s) .toHost
  exact ⟨_, by rw [packetDone, hc]; rfl⟩

end

/-- The bytes of a packet descriptor's write-back (Table 2.13). -/
def writeBackBytes (size : Nat) (d : PktDesc) (status len : Nat) (sop eop trunc : Bool) (z : Nat × Nat) : List Byte :=
  le 8 d.addr ++ le 4 len ++
    le 2 (phaseOf size d.pos + 2 * b2n sop + 4 * b2n eop + 8 * b2n (status ≠ 0 ∨ trunc) + 16 * z.2 + 64 * b2n trunc) ++
    [byte status, 0] ++ le 8 d.cookie ++ le 4 z.1 ++ zeros 4

theorem writeBackAt_chans (n : Nat) (d : PktDesc) (status len : Nat) (sop eop trunc : Bool) (z : Nat × Nat) (s : State) :
    ∃ c, writeBackAt n d status len sop eop trunc z s =
      emit (.hostWrite (entryAddr n 32 d.pos s) (writeBackBytes (ringSize n s) d status len sop eop trunc z)) (withChans c s) := by
  obtain ⟨c, hc⟩ := packetDone_chans (emit (.hostWrite (entryAddr n 32 d.pos s)
    (writeBackBytes (ringSize n s) d status len sop eop trunc z)) s) n status
  exact ⟨c, hc⟩

@[simp] theorem getRing_writeBack (k n : Nat) (d : PktDesc) (status len : Nat) (sop eop trunc : Bool) (s : State) :
    getRing k (writeBack n d status len sop eop trunc s) = getRing k s := by
  obtain ⟨c, hc⟩ := writeBackAt_chans n d status len sop eop trunc (stamp s) s
  rw [writeBack, hc]
  rfl

@[simp] theorem takeEntry_injStage (n : Nat) (s : State) : (getRing n (takeEntry n s)).injStage = (getRing n s).injStage := by
  obtain ⟨c, hc⟩ := takeEntry_chans s n
  rw [hc, getRing_setRing, takenRing]

@[simp] theorem takeEntry_discarded (n : Nat) (s : State) : (getRing n (takeEntry n s)).discarded = (getRing n s).discarded := by
  obtain ⟨c, hc⟩ := takeEntry_chans s n
  rw [hc, getRing_setRing, takenRing]

/-! ### The inject rows (R51, R52) -/

section
variable {n : Nat} {d : PktDesc} {s : State}

/-- A descriptor that begins a packet opens it. -/
theorem beginInject_opens (hsop : d.sop = true) (hlen : 32 ≤ d.len) (heop : d.eop = false) : beginInject n d s =
    setRing n { getRing n s with injDescs := [d], injStage := .opened } (setRing n { getRing n s with injDescs := [] } s) := by
  simp [beginInject, growInject, hsop, heop, Nat.not_lt.mpr hlen]

/-- A descriptor that holds a whole packet of enough bytes makes it ready to be read. -/
theorem beginInject_whole (hsop : d.sop = true) (hlen : 46 ≤ d.len) (heop : d.eop = true) :
    (getRing n (beginInject n d s)).injDescs = [d] ∧ (getRing n (beginInject n d s)).injStage = .reading ∧
      (beginInject n d s).out = s.out := by
  have h32 : ¬d.len < 32 := by omega
  simp [beginInject, growInject, hsop, heop, h32, Nat.not_lt.mpr hlen]

/-- A first descriptor without room for the header is written back, and its packet counted as discarded. -/
theorem beginInject_short (hsop : d.sop = true) (hlen : d.len < 32) (heop : d.eop = true) :
    (getRing n (beginInject n d s)).injDescs = [] ∧ (getRing n (beginInject n d s)).injStage = .idle ∧
      (getRing n (beginInject n d s)).discarded = (getRing n s).discarded + 1 ∧
      (beginInject n d s).out = (writeBack n d 2 d.len true true false s).out := by
  simp [beginInject, countDropped, hsop, heop, hlen, BAD_PARAM]

end

section
variable {n : Nat} {b : List Byte} {s : State} (hn : n < 256) (he : s.sys.mode.engine = true)
include hn

theorem exec_injectDescriptorFetch : exec (.injectDescriptorFetch n b) s = .next
    (if !s.sys.mode.engine || !hasWork 2 n s || decide ((getRing n s).injStage = .reading) then s
    else
      let d := decodeDesc (getRing n s).cons (fit 32 b)
      let e := takeEntry n s
      if (getRing n s).injStage = .opened then
        if d.sop then beginInject n d (dropInject n BAD_PARAM e) else growInject n d e
      else beginInject n d e) :=
  within_of (decide_eq_true hn) _

include he

theorem exec_injectDescriptorFetch_begins (hw : hasWork 2 n s = true) (hst : (getRing n s).injStage = .idle ∨ (getRing n s).injStage = .skipping) :
    exec (.injectDescriptorFetch n b) s = .next (beginInject n (decodeDesc (getRing n s).cons (fit 32 b)) (takeEntry n s)) := by
  rw [exec_injectDescriptorFetch hn]
  rcases hst with hst | hst <;> simp [he, hw, hst]

theorem exec_injectDescriptorFetch_open (hw : hasWork 2 n s = true) (hst : (getRing n s).injStage = .opened) :
    exec (.injectDescriptorFetch n b) s = .next
      (let d := decodeDesc (getRing n s).cons (fit 32 b)
       if d.sop then beginInject n d (dropInject n 2 (takeEntry n s)) else growInject n d (takeEntry n s)) := by
  rw [exec_injectDescriptorFetch hn]
  simp [he, hw, hst, BAD_PARAM]

end

/-- The end of the reads of an inject packet's buffers, by the packet's status. -/
theorem exec_injectBufferReadDone {n : Nat} {bs : List (Nat × List Byte)} {s : State} (hn : n < 256)
    (hst : (getRing n s).injStage = .reading) : exec (.injectBufferReadDone n bs) s = .next
      (let r := getRing n s
       let data := (r.injDescs.zipIdx.map fun x => fit x.1.len (bs.getD x.2 (0, [])).2).flatMap id
       let st := injectStatus (data.take 32) s
       let t := closeInject n st (bs.map Prod.fst) (r.injDescs.foldl (fun s d => countBursts (ringCh n s) .fromHost d.len s) s)
       if st = 0 then injectPkt (data.take 32) (data.drop 32) ((bs.map Prod.fst).getD 0 0) t else countDropped n t) :=
  (within_of (decide_eq_true hn) _).trans (by rw [if_neg (by simp [hst])])

theorem exec_hostReadError_data {n : Nat} {st : Byte} {s : State} (hn : n < 256) (hst : (getRing n s).injStage = .reading) :
    exec (.hostReadError n .data st) s = .next (dropInject n st.toNat s) :=
  (within_of (decide_eq_true hn) _).trans (by dsimp only; rw [if_pos hst])

theorem exec_hostReadError_punt {n : Nat} {st : Byte} {s : State} (hn : n < 256) (he : s.sys.mode.engine = true)
    (h2 : hasWork 2 n s = false) (h3 : hasWork 3 n s = true) :
    exec (.hostReadError n .descriptor st) s = .next (writeBackRefused n (getRing n s).cons st.toNat (takeEntry n s)) :=
  (within_of (decide_eq_true hn) _).trans (by simp [he, h2, h3])

/-! ### Punt buffers (R51, R565) -/

/-- What `writeHost` sends does not depend on rings and channels, and it changes the output alone. -/
theorem writeHost_withChans (c : Tab Chan) (n : Nat) (r : Ring) (a : Nat) (bs : List Byte) (s : State) :
    writeHost a bs (withChans c (setRing n r s)) = withChans c (setRing n r (writeHost a bs s)) := by
  rw [writeHost_eq, writeHost_eq]
  rfl

@[simp] theorem ringCh_writeHost (n a : Nat) (bs : List Byte) (s : State) : ringCh n (writeHost a bs s) = ringCh n s := by
  rw [writeHost_eq]
  rfl

@[simp] theorem ringSize_writeHost (n a : Nat) (bs : List Byte) (s : State) : ringSize n (writeHost a bs s) = ringSize n s := by
  rw [writeHost_eq]
  rfl

@[simp] theorem entryAddr_writeHost (n k pos a : Nat) (bs : List Byte) (s : State) :
    entryAddr n k pos (writeHost a bs s) = entryAddr n k pos s := by
  rw [writeHost_eq]
  rfl

theorem puntWritten_out {n : Nat} {s : State} (h : 4 ≤ ringCh n s) (x : PuntBuf) : (puntWritten n x s).out =
    .hostWrite (entryAddr n 32 x.desc.pos s)
      (writeBackBytes (ringSize n s) x.desc x.status x.len x.sop x.eop x.trunc (x.ts, x.ph)) :: s.out := by
  obtain ⟨c, hc⟩ := writeBackAt_chans n x.desc x.status x.len x.sop x.eop x.trunc (x.ts, x.ph) s
  rw [puntWritten, if_neg (by omega), hc]
  rfl

section
variable {n i : Nat} {b : List Byte} {s : State}

/-- A buffer long enough takes the packet at the head of a standard channel's ring whole. -/
theorem puntBuffer_whole (he : s.sys.mode.engine = true) (hw : hasWork 3 n s = true) (hp : (getRing n s).punts = [i])
    (hend : (getPkt i s).ended = true) (hdone : (getRing n s).puntDone = 0) (hbufs : (getRing n s).puntBufs = 0)
    (hlen : (puntStream (getPkt i s)).length ≤ (decodeDesc (getRing n s).cons (fit 32 b)).len)
    (hpos : 0 < (decodeDesc (getRing n s).cons (fit 32 b)).len) (hdom : domsDown [6] s = false) (hch : 4 ≤ ringCh n s) :
    ∃ u, puntBuffer n b s = endPkt i u ∧ (getRing n u).punts = [] ∧
      u.out = .hostWrite (entryAddr n 32 (getRing n s).cons s)
        (writeBackBytes (ringSize n s) (decodeDesc (getRing n s).cons (fit 32 b)) 0 (puntStream (getPkt i s)).length true true false (stamp s)) ::
          (writeHost (decodeDesc (getRing n s).cons (fit 32 b)).addr (puntStream (getPkt i s)) s).out := by
  obtain ⟨c, htake⟩ := takeEntry_chans s n
  have hrd : (takenRing n s).puntDone = 0 := hdone
  have hrb : (takenRing n s).puntBufs = 0 := hbufs
  have hpk : getPkt i (setRing n (takenRing n s) (withChans c s)) = getPkt i s := rfl
  have hstamp : stamp (setRing n (takenRing n s) (withChans c s)) = stamp s := rfl
  have hdom' : domsDown [bufferDom] (setRing n (takenRing n s) (withChans c s)) = false := hdom
  obtain ⟨c', hcount⟩ := countBursts_chans (setRing n (takenRing n s) (withChans c s)) (ringCh n s) .toHost (puntStream (getPkt i s)).length
  have hring : ringCh n (setRing n (takenRing n s) (withChans c s)) = ringCh n s := rfl
  unfold puntBuffer
  simp only [hp, he, hw, hend, htake, getRing_setRing, Nat.ne_of_gt hpos, hdom', hrd, hrb, hpk, hring, List.drop_zero,
    List.take_of_length_le hlen, Nat.zero_add, ge_iff_le, le_refl, hcount, hstamp]
  rw [if_neg (by decide), if_neg id, if_neg (by decide), if_pos (by simp)]
  refine ⟨_, rfl, by rw [getRing_setRing], ?_⟩
  have hring' : ringCh n (writeHost (decodeDesc (getRing n s).cons (fit 32 b)).addr (puntStream (getPkt i s))
      (withChans c' (setRing n (takenRing n s) (withChans c s)))) = ringCh n s := by
    rw [ringCh_writeHost, ringCh_withChans, hring]
  rw [setRing_out, puntWritten_out (hch.trans_eq hring'.symm), ← withChans_setRing, withChans_withChans, writeHost_withChans]
  have hsize (w : State) : ringSize n (setRing n (takenRing n s) w) = ringSize n w := rfl
  have haddr (pos : Nat) (w : State) : entryAddr n 32 pos (setRing n (takenRing n s) w) = entryAddr n 32 pos w := rfl
  simp only [decide_true, Bool.not_true, Bool.false_and, Bool.or_false, Bool.false_eq_true, if_false]
  rw [withChans_out, setRing_out, ringSize_withChans, entryAddr_withChans, hsize, haddr, ringSize_writeHost, entryAddr_writeHost]
  rfl
end

/-- Settles O11: the inject rows by where the ring stands, and the punt buffer by the packet that it takes whole. -/
theorem packetRings : Obligations.PacketRings := by
  unfold Obligations.PacketRings
  intro n b bs st s hn r d e data
  refine ⟨fun he hw hst hsop hlen heop => ⟨_, exec_injectDescriptorFetch_begins hn he hw hst, ?_⟩,
    fun he hw hst hsop hlen heop => ⟨_, exec_injectDescriptorFetch_begins hn he hw hst, beginInject_whole hsop hlen heop⟩,
    fun he hw hst hsop hlen heop => ⟨_, exec_injectDescriptorFetch_begins hn he hw (.inl hst), ?_⟩,
    fun he hw hst hsop => ?_, fun he hw hst hsop => ?_, fun hst => ?_, fun hst => ?_, exec_hostReadError_data hn,
    exec_hostReadError_punt hn, fun i he hw hspoilt hp hend hdone hbufs hlen hpos hdom hch => ?_⟩
  · rw [beginInject_opens hsop hlen heop]
    simp [e]
  · have hshort := beginInject_short (s := e) (n := n) hsop hlen heop
    rw [takeEntry_discarded] at hshort
    exact hshort
  · rw [exec_injectDescriptorFetch_open hn he hw hst]
    exact congrArg Host.Outcome.next (if_neg (by simp [show (decodeDesc (getRing n s).cons (fit 32 b)).sop = false from hsop]))
  · rw [exec_injectDescriptorFetch_open hn he hw hst]
    exact congrArg Host.Outcome.next (if_pos hsop)
  · rw [exec_injectDescriptorFetch hn, if_pos (by simp [r, hst])]
  · have hdone := exec_injectBufferReadDone (bs := bs) hn hst
    refine ⟨fun h0 => hdone.trans ?_, fun h0 => hdone.trans ?_⟩
    · exact congrArg Host.Outcome.next ((if_pos h0).trans (by rw [h0]))
    · exact congrArg Host.Outcome.next (if_neg h0)
  · obtain ⟨u, hput, hpunts, hout⟩ := puntBuffer_whole he hw hp hend hdone hbufs hlen hpos hdom hch
    refine ⟨_, u, (within_of (decide_eq_true hn) _).trans ?_, hput, hpunts, ?_⟩
    · rw [hspoilt, List.foldl_cons, List.foldl_nil]
    · rw [hout]
      rfl
end Sys2Proof.Machine
end

section
/-! PROOFS. The host link (2.2, R516, R527). -/
namespace Sys2Proof.Machine

theorem linkStat_of_down {s : State} (hg : s.hif.gen = 0) (hw : s.hif.width = 0) (hf : s.hif.flit = false) : linkStat s = 0 := by
  simp [linkStat, hg, hw, hf, b2n]

/-- A link that was down comes up: its event follows. -/
theorem exec_hostLinkChange_up {gen width : Nat} {s : State} (hdown : s.hif.linkUp = false) (hp : s.sys.perstN = false)
    (hoff : s.sys.mode ≠ .off) (hreset : s.sys.mode ≠ .reset) (hgen : gen = 4 ∨ gen = 5 ∨ gen = 6)
    (hwidth : width = 1 ∨ width = 2 ∨ width = 4 ∨ width = 8) (h0 : linkStat s = 0) :
    exec (.hostLinkChange gen width (gen == 6)) s = .next (post 6 (le 4 (gen + 16 * width + 256 * b2n (gen == 6)))
      { s with hif := { s.hif with gen := gen, width := width, flit := gen == 6, linkUp := true } }) := by
  have hexec : exec (.hostLinkChange gen width (gen == 6)) s = execHostLinkChange gen width (gen == 6) s := rfl
  have hok : ((gen == 4 || gen == 5 || gen == 6) && (width == 1 || width == 2 || width == 4 || width == 8) &&
      ((gen == 6) == (gen == 6))) = true := by
    simp only [Bool.and_eq_true, Bool.or_eq_true, beq_iff_eq, beq_self_eq_true, and_true]
    omega
  have hup : gen ≠ 0 := by omega
  rw [hexec, execHostLinkChange]
  simp only [hok, hp, hoff, hreset, hdown, h0]
  simp [linkStat, hup]

/-- PERST_N changes nothing of the system's state (R527). -/
theorem perstReset_sys (s : State) : (perstReset s).sys = s.sys := (fr_perstReset s).sys.resolve_left (by decide)

theorem tgetD_filter_of_ne {α : Type} (t : Tab α) (p : Nat × α → Bool) (k : Nat) (d : α) (h : ∀ v, p (k, v) = false) :
    tgetD (t.filter p) k d = d := by
  induction t with
  | nil => rfl
  | cons e t ih =>
    obtain ⟨j, v⟩ := e
    by_cases hp : p (j, v) = true
    · have hj : j ≠ k := by
        rintro rfl
        rw [h v] at hp
        cases hp
      rw [List.filter_cons_of_pos hp]
      simpa [tgetD, hj] using ih
    · rw [List.filter_cons_of_neg hp, ih]

/-- PERST_N returns every register of its window to its reset value, and leaves of the host interface what R527 says. -/
theorem perstReset_parts (s : State) :
    (∃ u : State, (perstReset s).regs = u.regs.filter fun e => !hifWindow e.1) ∧
      (perstReset s).hif.rings = [] ∧ (perstReset s).hif.linkUp = false ∧ (perstReset s).hif.sumRun = none ∧
      (perstReset s).hif.sumWait = [] ∧ ∀ c ∈ (perstReset s).hif.inflight, c.orphan = true := by
  unfold perstReset
  generalize (List.range 256).foldl (fun s n => dropPunts n s) s = u
  refine ⟨⟨u, rfl⟩, rfl, rfl, rfl, rfl, fun c hc => ?_⟩
  obtain ⟨d, -, rfl⟩ := List.mem_map.mp hc
  rfl

theorem ringOn_perstReset {n : Nat} (hn : n < 256) (s : State) : ringOn n (perstReset s) = false := by
  have haddr : hifWindow (Reg.hifRingCfg.addr n + 4 * 0) = true := by
    simp only [hifWindow, Reg.hifRingCfg, RegDesc.addr]
    simp
    omega
  obtain ⟨⟨u, hregs⟩, -⟩ := perstReset_parts s
  have hword : rdWord Reg.hifRingCfg n 0 (perstReset s) = Reg.hifRingCfg.resetWord n 0 := by
    rw [rdWord, hregs]
    exact tgetD_filter_of_ne _ _ _ _ fun v => by rw [haddr, Bool.not_true]
  rw [ringOn, rd, hword]
  simp [RegDesc.resetWord, Reg.hifRingCfg, bitAt]

/-- PERST_N is asserted, and counted. -/
def perstAsserted (t : State) : State := { t with sys := { t.sys with perstN := true, perstCount := sat 8 (t.sys.perstCount + 1) } }

theorem perstAsserted_sys {s t : State} (h : t.sys = s.sys) :
    (perstAsserted t).sys = { s.sys with perstN := true, perstCount := min (s.sys.perstCount + 1) 255 } := by
  rw [← h]
  rfl

theorem ringOn_perstAsserted (n : Nat) (t : State) : ringOn n (perstAsserted t) = ringOn n t := rfl

/-- Settles O12: the rows of the link, and what PERST_N clears. -/
theorem hostLink : Obligations.HostLink := by
  unfold Obligations.HostLink
  intro gen width s
  refine ⟨fun hdown hp hoff hreset hgen hwidth hg hw hf =>
      exec_hostLinkChange_up hdown hp hoff hreset hgen hwidth (linkStat_of_down hg hw hf),
    fun hup => congrArg Host.Outcome.next (if_pos hup), fun hp hoff => ?_, rfl⟩
  obtain ⟨-, hrings, hlink, hrun, hwait, horphan⟩ := perstReset_parts s
  have hexec : exec .perstNAssert s = .next (perstAsserted (perstReset s)) := by
    have hrow : exec .perstNAssert s = execPerstNAssert s := rfl
    rw [hrow, execPerstNAssert, if_neg (by simp [hp, hoff])]
    generalize perstReset s = t
    rfl
  have hsys := perstAsserted_sys (perstReset_sys s)
  exact ⟨_, hexec, hsys, hrings, hlink, hrun, hwait,
    fun n hn => (ringOn_perstAsserted n _).trans (ringOn_perstReset hn s), horphan⟩

end Sys2Proof.Machine
end

section
/-! PROOFS. Which accesses of BAR0 and BAR2 are served (R8, R40, R523, R524). -/
namespace Sys2Proof.Machine

section
variable {a : Nat} {s : State}

theorem exec_registerWrite (size : Nat) (v : Word) : exec (.registerWrite a size v) s = .next (writeAt a size v s) := rfl
theorem exec_registerReadClear : exec (.registerReadClear a) s = .next (readAt a s) := rfl

theorem writeAt_of_unserved (hlt : a < 0x4000000) (h : writeServed a s = false) (size : Nat) (v : Word) : writeAt a size v s = s := by
  obtain ⟨-, hbar2⟩ := bar0_below_bases hlt
  rw [writeAt, if_neg hbar2, h, if_neg Bool.false_ne_true, ite_self]

theorem readAt_of_unserved (hlt : a < 0x4000000) (h : readServed (a - a % 4) s = false) : readAt a s = emit (.readData a 0) s := by
  obtain ⟨hbmc, hbar2⟩ := bar0_below_bases (a := a - a % 4) (by omega)
  simp [readAt, hbmc, hbar2, h]

/-- A read of any byte of an aligned word reads the word. -/
theorem readAt_within_word {k : Nat} (hlt : a < 0x4000000) (hal : a % 4 = 0) (hk : k < 4) (hs : readServed a s = true) :
    readAt (a + k) s = emit (.readData (a + k) (barRead a s).1) (barRead a s).2 := by
  obtain ⟨hbmc, hbar2⟩ := bar0_below_bases hlt
  have hword : a + k - (a + k) % 4 = a := by omega
  simp [readAt, hword, hbmc, hbar2, hs]

theorem barRead_narrow {n : Nat} {r : BarReg} (h : findReg a = some (r, n, 0)) (hw : r.desc.wide = false) :
    barRead a s = (BitVec.ofNat 32 (r.read n s), r.clear n s) := by
  simp [barRead, h, hw, regWord]

theorem writeAt_doorbell {n : Nat} (hn : n < 256) (v : Word) : writeAt (bar2Base + 4096 * n) 4 v s = ringDoorbell n v.toNat s := by
  unfold writeAt bar2Base bmcBase
  rw [if_neg (by omega), if_pos (by omega), if_pos (by omega)]
  congr 1
  omega

theorem readAt_doorbell {n : Nat} (hn : n < 256) (he : s.sys.mode.engine = true) : readAt (bar2Base + 4096 * n) s =
    emit (.readData (bar2Base + 4096 * n) (BitVec.ofNat 32 (devPosWord n s))) s := by
  have hword : bar2Base + 4096 * n - (bar2Base + 4096 * n) % 4 = bar2Base + 4096 * n := by unfold bar2Base; omega
  have hbmc : ¬ bmcBase ≤ bar2Base + 4096 * n := by unfold bar2Base bmcBase; omega
  simp [readAt, hword, hbmc, he]

/-- Neither an early nor another window is read before WIPE; no other window before STAGED or in LOCKDOWN. -/
theorem readServed_of_not_early (h : ¬(a < 0x0400000 ∨ 0x3C00000 ≤ a)) : readServed a s = s.sys.mode.engine := by
  rw [readServed, earlyWindow, if_neg]
  simp only [Bool.or_eq_true, decide_eq_true_eq]
  omega

theorem readServed_of_early (hlt : a < 0x4000000) (h : a < 0x0400000 ∨ 0x3C00000 ≤ a) : readServed a s = decide (2 ≤ s.sys.mode.num) := by
  rw [readServed, earlyWindow, if_pos]
  simp only [Bool.or_eq_true, decide_eq_true_eq]
  omega

theorem engine_iff (m : Mode) : m.engine = true ↔ 4 ≤ m.num ∧ m ≠ .lockdown := by
  simp [Mode.engine, Mode.late]

theorem writeServed_of_unread (h : readServed a s = false) : writeServed a s = false := by
  rw [writeServed, h, Bool.false_and]

/-- An address whose window the mode does not read takes no write and reads as 0. -/
theorem exec_of_unread (hlt : a < 0x4000000) (h : readServed a s = false) (h' : readServed (a - a % 4) s = false) (v : Word) :
    exec (.registerWrite a 4 v) s = .next s ∧ exec (.registerReadClear a) s = .next (emit (.readData a 0) s) := by
  rw [exec_registerWrite, exec_registerReadClear, writeAt_of_unserved hlt (writeServed_of_unread h), readAt_of_unserved hlt h']
  exact ⟨rfl, rfl⟩

end

/-- Settles O14: the accesses by alignment and window, then by mode. -/
theorem servedWindows : Obligations.ServedWindows := by
  unfold Obligations.ServedWindows
  refine ⟨fun a size v s => ⟨fun h => congrArg Host.Outcome.next (if_pos h), fun r n k hlt hal hk hf hw hs => ?_,
    fun r n hlt hal hf hw hs => ?_, fun hlt hal hf hs => ?_, fun n hn => ?_, fun n hn he => ?_⟩, fun a v s hlt => ?_⟩
  · rw [exec_registerReadClear, readAt_within_word hlt hal hk hs, barRead_narrow hf hw]
  · obtain ⟨hr, hm⟩ : readServed a s = true ∧ s.sys.mode ≠ .lockdown := by simpa [writeServed] using hs
    rw [exec_registerWrite_bar0 hlt hal hr hm, barWrite_narrow s hf hw]
  · have hr : barRead a s = (0, s) := by simp [barRead, hf]
    have hw : barWrite a v s = s := by simp [barWrite, hf]
    refine ⟨?_, by rw [exec_registerReadClear_bar0 hlt hal hs, hr]⟩
    obtain ⟨-, hbar2⟩ := bar0_below_bases hlt
    rw [exec_registerWrite, writeAt, if_neg (by unfold bmcBase; omega), if_neg hbar2, hw, ite_self]
  · rw [exec_registerWrite, writeAt_doorbell hn]
  · rw [exec_registerReadClear, readAt_doorbell hn he]
  · intro early
    refine ⟨fun hm hnot => ?_, fun hm => ?_, fun hm => ?_, fun hm hl hal => ?_, fun hm hearly hal => ?_⟩
    · have he : s.sys.mode.engine = false := by
        rw [Bool.eq_false_iff, Ne, engine_iff]
        rintro ⟨h4, hl⟩
        rcases hm with hm | hm
        · omega
        · exact hl hm
      refine exec_of_unread hlt ?_ ?_ v
      · rw [readServed_of_not_early hnot, he]
      · rw [readServed_of_not_early (by omega), he]
    · have hnone (b : Nat) (hb : b < 0x4000000) : readServed b s = false := by
        by_cases hearly : b < 0x0400000 ∨ 0x3C00000 ≤ b
        · rw [readServed_of_early hb hearly, decide_eq_false (by omega)]
        · rw [readServed_of_not_early hearly, Bool.eq_false_iff, Ne, engine_iff]
          omega
      exact exec_of_unread hlt (hnone a hlt) (hnone _ (by omega)) v
    · rw [exec_registerWrite, writeAt_of_unserved hlt (by simp [writeServed, hm])]
    · have hs := readServed_of_engine ((engine_iff _).mpr ⟨hm, hl⟩) a
      exact ⟨exec_registerWrite_bar0 hlt hal hs hl v, exec_registerReadClear_bar0 hlt hal hs⟩
    · have hs : readServed a s = true := by rw [readServed_of_early hlt hearly, decide_eq_true hm]
      exact ⟨exec_registerReadClear_bar0 hlt hal hs, fun hl => exec_registerWrite_bar0 hlt hal hs hl v⟩

end Sys2Proof.Machine
end

section
/-! PROOFS. What reset leaves (chapter 19), and that every command answers (chapter 0). -/
namespace Sys2Proof.Machine

theorem ringOn_reset (n : Nat) : ringOn n State.reset = false := by
  simp [ringOn, rd, rdWord, State.reset, tgetD, RegDesc.resetWord, Reg.hifRingCfg, bitAt]

/-- Settles O57: every table of the reset state is empty, but for the always-on domain. -/
theorem resetState : Obligations.ResetState := by
  unfold Obligations.ResetState
  exact ⟨rfl, rfl, rfl, rfl, rfl, rfl, rfl, rfl, rfl, rfl, rfl, fun _ _ => rfl, ringOn_reset, fun _ => rfl, fun _ => rfl,
    fun _ => rfl, rfl, rfl, rfl, rfl⟩

/-- Every command's row answers a next state, where the units that the command names exist. -/
theorem exec_within (c : Instr) (s : State) : ∃ t, exec c s = within (wellFormed c) t := by
  cases c
  case parseThreadAssign src => cases src <;> exact ⟨_, rfl⟩
  all_goals exact ⟨_, rfl⟩

/-- Settles O58: every row is guarded by the units that its command names, and by nothing else. -/
theorem everyCommandAnswers : Obligations.EveryCommandAnswers := by
  unfold Obligations.EveryCommandAnswers
  intro c s
  obtain ⟨t, h⟩ := exec_within c s
  exact ⟨fun hw => ⟨t, by rw [h, hw, within_true]⟩, fun hw => by rw [h, hw, within_false]⟩

end Sys2Proof.Machine
end

section
/-! PROOFS. Macros and the start of lanes (3.1 to 3.5). -/
namespace Sys2Proof.Machine

/-! ### Writes of LAN_MACRO_CFG (R77, R87, R103) -/

/-- The state after a good write of LAN_MACRO_CFG, before what follows from it. -/
def macroCfgSet (m v : Nat) (s : State) : State := setMacro m { getMacro m s with cfgErr := false } (wrRw Reg.lanMacroCfg m v s)

section
variable {m v : Nat} {s : State}

theorem writeMacroCfg_of_bad (h : macroCfgBad m v s = true) : writeMacroCfg m v s = setMacro m { getMacro m s with cfgErr := true } s :=
  if_pos h

theorem writeMacroCfg_of_good (h : macroCfgBad m v s = false) : writeMacroCfg m v s =
    groupRelock (m / 8) (groupRate (m / 8) s) (groupRate (m / 8) (macroCfgSet m v s))
      (if turnsOff (rd Reg.lanMacroCfg m s) v then
        macroOff m (if fld (rd Reg.lanMacroCfg m s) 0 3 ≠ fld v 0 3 then downMacro m (macroCfgSet m v s) else macroCfgSet m v s)
      else if fld (rd Reg.lanMacroCfg m s) 0 3 ≠ fld v 0 3 then macroRerate m (macroCfgSet m v s) else macroCfgSet m v s) := by
  rw [writeMacroCfg, h, if_neg Bool.false_ne_true]
  rfl

theorem groupRelock_same (g r : Nat) (t : State) : groupRelock g r r t = t := if_pos (.inl rfl)

section
variable (hgood : macroCfgBad m v s = false) (hrate : fld (rd Reg.lanMacroCfg m s) 0 3 = fld v 0 3)
  (htop : groupRate (m / 8) (macroCfgSet m v s) = groupRate (m / 8) s)
include hgood hrate htop

theorem writeMacroCfg_same_rate : writeMacroCfg m v s =
    if turnsOff (rd Reg.lanMacroCfg m s) v then macroOff m (macroCfgSet m v s) else macroCfgSet m v s := by
  rw [writeMacroCfg_of_good hgood, htop, groupRelock_same, if_neg (not_not.mpr hrate), if_neg (not_not.mpr hrate)]

/-- ENABLE stays set: the rate is the same, so nothing turns off. -/
theorem writeMacroCfg_enable (hv : bitAt v 4 = true) : writeMacroCfg m v s = macroCfgSet m v s := by
  rw [writeMacroCfg_same_rate hgood hrate htop, if_neg]
  simp only [turnsOff, hv, hrate, Bool.not_true, Bool.and_false, Bool.false_or, Bool.and_eq_true, decide_eq_true_eq]
  exact fun h => h.1 h.2

theorem writeMacroCfg_disable (hv : bitAt v 4 = false) (hon : macroOn m s = true) :
    writeMacroCfg m v s = macroOff m (macroCfgSet m v s) := by
  have hold : bitAt (rd Reg.lanMacroCfg m s) 4 = true := hon
  rw [writeMacroCfg_same_rate hgood hrate htop, if_pos (by simp [turnsOff, hv, hold])]

end

/-- A change of rate turns the lanes OFF where the rate becomes 0 or ENABLE is cleared. -/
theorem turnsOff_of_new_rate (h : fld (rd Reg.lanMacroCfg m s) 0 3 ≠ fld v 0 3) :
    turnsOff (rd Reg.lanMacroCfg m s) v = true ↔ fld v 0 3 = 0 ∨ (macroOn m s = true ∧ bitAt v 4 = false) := by
  have hzero : fld (rd Reg.lanMacroCfg m s) 0 3 ≠ 0 ∧ fld v 0 3 = 0 ↔ fld v 0 3 = 0 := ⟨And.right, fun hv => ⟨h.trans_eq hv, hv⟩⟩
  simp only [turnsOff, macroOn, Bool.or_eq_true, Bool.and_eq_true, decide_eq_true_eq, Bool.not_eq_true', hzero]
  exact or_comm

theorem writeMacroCfg_new_rate (hgood : macroCfgBad m v s = false) (h : fld (rd Reg.lanMacroCfg m s) 0 3 ≠ fld v 0 3) :
    writeMacroCfg m v s = groupRelock (m / 8) (groupRate (m / 8) s) (groupRate (m / 8) (macroCfgSet m v s))
      (if fld v 0 3 = 0 ∨ (macroOn m s = true ∧ bitAt v 4 = false) then macroOff m (downMacro m (macroCfgSet m v s))
      else macroRerate m (macroCfgSet m v s)) := by
  rw [writeMacroCfg_of_good hgood, if_pos h, if_pos h]
  simp only [turnsOff_of_new_rate h]

end

theorem fld_low_three (v : Nat) : fld v 0 3 = v % 8 := by rw [fld, pow_zero, Nat.div_one, show 2 ^ 3 = 8 from rfl]

/-! ### Writes of LAN_LANE_CFG (R103) -/

/-- Settles O15: the writes of LAN_MACRO_CFG by what becomes of the rate and of ENABLE, and TX_DISABLE by its bit before and after. -/
theorem macroConfiguration : Obligations.MacroConfiguration := by
  unfold Obligations.MacroConfiguration
  intro m v s hm he x u bad same
  have hrow (t : State) : within (decide (m < 128)) (whenOpen s t) = .next t := within_whenOpen (decide_eq_true hm) he t
  have henable (hv : bitAt x 4 = true) : exec (.macroEnable m v) s = .next (writeMacroCfg m x s) :=
    (hrow _).trans (congrArg Host.Outcome.next (if_pos hv))
  have hdisable (hv : bitAt x 4 = false) : exec (.macroDisable m v) s = .next (writeMacroCfg m x s) :=
    (hrow _).trans (congrArg Host.Outcome.next (if_neg (Bool.eq_false_iff.mp hv)))
  have hchange (hr : x % 8 ≠ rateOf m s) : exec (.macroRateChange m v) s = .next (writeMacroCfg m x s) :=
    (hrow _).trans (congrArg Host.Outcome.next (if_pos (by rwa [fld_low_three])))
  refine ⟨fun hv hgood hsame => ?_, fun hv hbad => ?_, fun hv hon hgood hsame => ?_, fun hv hbad => ?_, fun hr hbad => ?_,
    fun hr hgood => ⟨_, (hchange hr).trans (congrArg Host.Outcome.next (writeMacroCfg_new_rate hgood ?_)), ?_⟩, fun n hn => ?_⟩
  · rw [henable hv, writeMacroCfg_enable hgood (by rw [hsame.1, fld_low_three]) hsame.2 hv]
    rfl
  · rw [henable hv, writeMacroCfg_of_bad hbad]
  · rw [hdisable hv, writeMacroCfg_disable hgood (by rw [hsame.1, fld_low_three]) hsame.2 hv hon]
    rfl
  · rw [hdisable hv, writeMacroCfg_of_bad hbad]
  · rw [hchange hr, writeMacroCfg_of_bad hbad]
  · rw [fld_low_three x]
    exact Ne.symm hr
  · rw [fld_low_three]
    rfl
  · intro old y w
    have hw : exec (.txDisable n v) s = .next (if bitAt y 7 = bitAt old 7 then w else if bitAt y 7 then setSquelch n true w else settleTx n w) := by
      refine (within_whenOpen (decide_eq_true hn) he _).trans (congrArg Host.Outcome.next ?_)
      simp only [writeLaneCfg, decide_eq_true_eq]
      rfl
    refine ⟨fun hy ho => ?_, fun hy ho => ?_, fun heq => ?_⟩
    · rw [hw, hy, ho]
      rfl
    · rw [hw, hy, ho]
      rfl
    · rw [hw, if_pos heq]

/-! ### The start of lanes (Table 3.4) -/

theorem startable_lane_iff (n : Nat) (s : State) :
    ((getLane n s).st = .cal ∧ (getLane n s).calDone ∧ (getLane n s).signal ∧ !(getLane n s).retryWait ∧ !macroFenced (macroOf n) s) ↔
      ¬((getLane n s).st ≠ .cal ∨ (getLane n s).calDone = false ∨ (getLane n s).signal = false ∨ (getLane n s).retryWait = true ∨
        macroFenced (n / 8) s = true) := by
  simp [macroOf]

theorem laneStart_of_not (n : Nat) (s : State) (h : (getLane n s).st ≠ .cal ∨ (getLane n s).calDone = false ∨ (getLane n s).signal = false ∨
    (getLane n s).retryWait = true ∨ macroFenced (n / 8) s = true) : laneStart n s = s :=
  if_neg fun hs => (startable_lane_iff n s).mp hs h

section
variable {n : Nat} {s : State} (hst : (getLane n s).st = .cal) (hcal : (getLane n s).calDone = true) (hsig : (getLane n s).signal = true)
  (hwait : (getLane n s).retryWait = false) (hfence : macroFenced (n / 8) s = false)
include hst hcal hsig hwait hfence

/-- Where a lane that may start goes, by how it trains. -/
theorem laneStart_eq : laneStart n s =
    (let l := { getLane n s with reach := bitAt (rd Reg.lanMacroCfg (n / 8) s) 3 }
     if trainMode n s = 0 then setLane n { l with st := .an } s
     else if trainMode n s = 1 then setLane n { l with st := .train } s
     else setLane n { l with st := .adapt, preTx := bitAt l.cfgUse 2 && decide (rateOf (n / 8) s ≠ 4),
                             preRx := bitAt l.cfgUse 3 && decide (rateOf (n / 8) s ≠ 4) } s) := by
  rw [laneStart, if_pos]
  · rfl
  · rw [startable_lane_iff]
    simp [hst, hcal, hsig, hwait, hfence]

end

theorem trainMode_of_fast {n : Nat} {s : State} (h : rateOf (n / 8) s = 1) : trainMode n s = fld (getLane n s).cfgUse 4 2 := if_pos h
theorem trainMode_of_slow {n : Nat} {s : State} (h : rateOf (n / 8) s ≠ 1) : trainMode n s = 2 := if_neg h

theorem any_advertised_iff (partner : List AnAbility) : partner.any advertised.contains = true ↔ (.cr1 ∈ partner ∨ .kr1 ∈ partner) := by
  simp only [List.any_eq_true, List.contains_iff_mem, advertised, List.mem_cons, List.not_mem_nil, or_false]
  constructor
  · rintro ⟨a, ha, rfl | rfl⟩
    · exact .inl ha
    · exact .inr ha
  · rintro (h | h)
    · exact ⟨_, h, .inl rfl⟩
    · exact ⟨_, h, .inr rfl⟩

/-- Settles O16: each row by its equation, and `laneStart` by how the lane trains. -/
theorem laneStartUp : Obligations.LaneStartUp := by
  unfold Obligations.LaneStartUp
  intro n m s hn hm l reach pam failed
  have hrow (t : State) : within (decide (n < 1024)) t = .next t := within_of (decide_eq_true hn) t
  refine ⟨fun hon hrate hpow hlock hfence => ?_, fun hst hcal hlock signal => ⟨?_, ?_⟩, fun hst hcal => ?_, fun hwait => ?_,
    fun hst hwait partner => ⟨fun hany => ?_, fun hcr hkr => ?_, ?_⟩, fun hst hcal hsig hwait hfence => ?_, laneStart_of_not n s,
    fun g hg hclk => ⟨?_, ?_⟩⟩
  · exact (within_of (decide_eq_true hm) _).trans (congrArg Host.Outcome.next (if_pos (by simp [hon, hrate, hpow, hlock, hfence])))
  · exact (hrow _).trans (congrArg Host.Outcome.next ((if_pos ⟨hst, by simpa [l] using hcal, hlock⟩).trans (if_pos rfl)))
  · exact (hrow _).trans (congrArg Host.Outcome.next ((if_pos ⟨hst, by simpa [l] using hcal, hlock⟩).trans (if_neg Bool.false_ne_true)))
  · exact (hrow _).trans (congrArg Host.Outcome.next (if_pos ⟨hst, hcal⟩))
  · exact (hrow _).trans (congrArg Host.Outcome.next (if_pos hwait))
  · exact (hrow _).trans (congrArg Host.Outcome.next
      ((if_pos ⟨hst, by simpa [l] using hwait⟩).trans (if_pos ((any_advertised_iff partner).mpr hany))))
  · exact (hrow _).trans (congrArg Host.Outcome.next
      ((if_pos ⟨hst, by simpa [l] using hwait⟩).trans (if_neg fun h => ((any_advertised_iff partner).mp h).elim hcr hkr)))
  · exact (hrow _).trans (congrArg Host.Outcome.next (if_pos ⟨hst, by simpa [l] using hwait⟩))
  · have hstart := laneStart_eq hst hcal hsig hwait hfence
    intro adapt
    refine ⟨fun hr h0 => ?_, fun hr h1 => ?_, fun hr h2 => ?_, fun hr => ?_⟩
    · rw [hstart, trainMode_of_fast hr]
      exact if_pos h0
    · rw [hstart, trainMode_of_fast hr]
      exact (if_neg (by simp only [l] at h1; omega)).trans (if_pos h1)
    · rw [hstart, trainMode_of_fast hr]
      simp only [l] at h2
      exact (if_neg (by omega)).trans (if_neg (by omega))
    · rw [hstart, trainMode_of_slow hr]
      rfl
  · exact (within_of (decide_eq_true hg) _).trans (congrArg Host.Outcome.next ((if_pos hclk).trans (if_pos rfl)))
  · exact (within_of (decide_eq_true hg) _).trans (congrArg Host.Outcome.next ((if_pos hclk).trans (if_neg Bool.false_ne_true)))

end Sys2Proof.Machine
end

section
/-! PROOFS. Training, loss and wake of lanes, and the lane commands (3.5 to 3.8). -/
namespace Sys2Proof.Machine

/-! ### Lanes read back -/

@[simp] theorem getLane_setLane (n : Nat) (l : Lane) (s : State) : getLane n (setLane n l s) = l := tget_tset_self ..
@[simp] theorem getLane_modLane (n : Nat) (f : Lane → Lane) (s : State) : getLane n (modLane n f s) = f (getLane n s) := tget_tset_self ..
@[simp] theorem getLane_emit (n : Nat) (o : Out) (s : State) : getLane n (emit o s) = getLane n s := rfl

theorem Fr.getLane {M : Nat} {s t : State} (h : Fr M s t) (hM : M.testBit 11 = false) (n : Nat) : getLane n t = getLane n s := by
  rw [Machine.getLane, h.lan.resolve_left (by simp [hM]), Machine.getLane]

/-- Squelching a transmitter changes nothing else of its lane. -/
theorem getLane_setSquelch (n : Nat) (on : Bool) (s : State) : ∃ b, getLane n (setSquelch n on s) = { getLane n s with squelched := b } := by
  unfold setSquelch
  dsimp only
  split
  · exact ⟨_, rfl⟩
  · exact ⟨_, getLane_setLane ..⟩

/-- A lane as it enters DATA (Table 3.4, R81, R88, R92). -/
def dataLane (n : Nat) (m : RxMeasure) (record : Bool) (s : State) : Lane :=
  let l := { getLane n s with
    st := .data, signal := true, cdrLock := true, failures := 0, retryWait := false
    trainCount := ((getLane n s).trainCount + 1) % 2 ^ 32, snr := m.snr % 2 ^ 16, txPrev := 0, rxPrev := 0 }
  if record then
    { (l.loops m.rx).ctleTo (m.ctle % 32) with
      calTemp := groupTemp (groupOfLane n) s, calTs := (stamp s).1, calPh := (stamp s).2, calMode := rateOf (macroOf n) s + 8 * b2n l.reach }
  else l

theorem getLane_laneToData (n : Nat) (m : RxMeasure) (record : Bool) (s : State) :
    getLane n (laneToData n m record s) = dataLane n m record s := by
  unfold laneToData
  dsimp only
  split
  · rw [(fr_post ..).getLane rfl, getLane_setLane]
    rfl
  · rw [(fr_tryWaked ..).getLane rfl, (fr_tryLinking ..).getLane rfl, (fr_post ..).getLane rfl, getLane_setLane]
    rfl

section
variable (n : Nat) (m : RxMeasure) (record : Bool) (s : State)

theorem dataLane_st : (dataLane n m record s).st = .data := by cases record <;> rfl
theorem dataLane_failures : (dataLane n m record s).failures = 0 := by cases record <;> rfl
theorem dataLane_snr : (dataLane n m record s).snr = m.snr % 2 ^ 16 := by cases record <;> rfl
theorem dataLane_signal : (dataLane n m record s).signal = true := by cases record <;> rfl
theorem dataLane_cdrLock : (dataLane n m record s).cdrLock = true := by cases record <;> rfl
theorem dataLane_txPrev : (dataLane n m record s).txPrev = 0 := by cases record <;> rfl
theorem dataLane_rxPrev : (dataLane n m record s).rxPrev = 0 := by cases record <;> rfl
theorem dataLane_trainCount : (dataLane n m record s).trainCount = ((getLane n s).trainCount + 1) % 2 ^ 32 := by cases record <;> rfl

end

theorem decode_precode (prev g : Nat) (h : g < 4) : decode prev (precode prev g) = g := by
  unfold decode precode
  omega

/-! ### Training (R82, R83, R87) -/

section
variable {n : Nat} {s : State} (hn : n < 1024)
include hn

theorem exec_tapRequest {tap : Nat} (ht : tap < 6) (up : Bool) (hst : (getLane n s).st = .train) : exec (.tapRequest n tap up) s =
    .next (let cur := toS 8 (fld (getLane n s).taps (8 * tap) 8)
           let taps := setFld (getLane n s).taps (8 * tap) 8 (ofS 8 (if up then cur + 1 else cur - 1))
           if tapsOk taps then emit (.tapAnswer n tap 1) (setLane n { getLane n s with taps := taps } s)
           else emit (.tapAnswer n tap 2) s) :=
  (within_of (by simp [hn, ht]) _).trans (congrArg Host.Outcome.next (if_pos hst))

theorem exec_receiversReady {mm : RxMeasure} (hst : (getLane n s).st = .train) : exec (.receiversReady n mm) s =
    .next (if mm.snr ≥ snrMin (getLane n s) then
      laneToData n mm true (setLane n { getLane n s with
        preTx := mm.precodeTx && decide (rateOf (n / 8) s ≠ 4), preRx := mm.precodeRx && decide (rateOf (n / 8) s ≠ 4) } s)
      else trainFail n 2 s) :=
  (within_of (decide_eq_true hn) _).trans (congrArg Host.Outcome.next (if_pos hst))

theorem exec_adaptationConverged {mm : RxMeasure} (hst : (getLane n s).st = .adapt) : exec (.adaptationConverged n mm) s =
    .next (if mm.snr ≥ snrMin (getLane n s) then laneToData n mm true s else setLane n { getLane n s with snr := mm.snr % 2 ^ 16 } s) :=
  (within_of (decide_eq_true hn) _).trans (congrArg Host.Outcome.next (by simp only [hst, true_and, if_true]))

theorem exec_backgroundCtleStep {up : Option Bool} {rx : RxLoops} {c : Nat} (hst : (getLane n s).st = .data)
    (hc : (if !bitAt (getLane n s).cfgUse 6 then (getLane n s).ctle else match up with
      | none => (getLane n s).ctle
      | some true => min 31 ((getLane n s).ctle + 1)
      | some false => (getLane n s).ctle - 1) = c) :
    exec (.backgroundCtleStep n up rx) s =
      .next (setLane n { ((getLane n s).loops rx).ctleTo c with adcTemp := groupTemp (n / 64) s } s) := by
  subst hc
  exact (within_of (decide_eq_true hn) _).trans (congrArg Host.Outcome.next (if_pos hst))

end

/-- Settles O17: each row by its equation, and the lane that enters DATA by `dataLane`. -/
theorem laneTraining : Obligations.LaneTraining := by
  unfold Obligations.LaneTraining
  refine ⟨fun n tap mm s hn ht => ?_, decode_precode⟩
  intro l pam moved
  have htap (up : Bool) (hst : l.st = .train) := exec_tapRequest hn ht up hst
  have hrow (t : State) : within (decide (n < 1024)) t = .next t := within_of (decide_eq_true hn) t
  refine ⟨fun hst => ⟨fun h => ?_, fun h => ?_, fun h => ?_, fun h => ?_, fun hsnr => ?_, fun hsnr => ?_, ?_, ?_⟩,
    fun hst => ⟨fun hsnr => ?_, fun hsnr => ?_, ?_⟩, fun hst rx => ⟨fun up h => ?_, fun h => ⟨?_, ?_, ?_⟩⟩⟩
  · exact (htap true hst).trans (congrArg Host.Outcome.next (if_pos h))
  · exact (htap false hst).trans (congrArg Host.Outcome.next (if_pos h))
  · exact (htap true hst).trans (congrArg Host.Outcome.next (if_neg (Bool.eq_false_iff.mp h)))
  · exact (htap false hst).trans (congrArg Host.Outcome.next (if_neg (Bool.eq_false_iff.mp h)))
  · refine ⟨_, (exec_receiversReady hn hst).trans (congrArg Host.Outcome.next (if_pos hsnr)), rfl, ?_⟩
    rw [getLane_laneToData]
    refine ⟨dataLane_st .., dataLane_failures .., dataLane_snr .., dataLane_signal .., dataLane_cdrLock .., dataLane_txPrev ..,
      dataLane_rxPrev .., ?_⟩
    rw [dataLane_trainCount, getLane_setLane]
  · exact (exec_receiversReady hn hst).trans (congrArg Host.Outcome.next (if_neg (Nat.not_le.mpr hsnr)))
  · exact (hrow _).trans (congrArg Host.Outcome.next (if_pos hst))
  · exact (hrow _).trans (congrArg Host.Outcome.next (if_pos hst))
  · refine ⟨_, (exec_adaptationConverged hn hst).trans (congrArg Host.Outcome.next (if_pos hsnr)), rfl, ?_⟩
    rw [getLane_laneToData, dataLane_st]
  · exact (exec_adaptationConverged hn hst).trans (congrArg Host.Outcome.next (if_neg (Nat.not_le.mpr hsnr)))
  · exact (hrow _).trans (congrArg Host.Outcome.next (if_pos hst))
  · exact exec_backgroundCtleStep hn hst (if_pos (by simpa [l] using h))
  · exact exec_backgroundCtleStep hn hst (if_neg (by simpa [l] using h))
  · exact exec_backgroundCtleStep hn hst (if_neg (by simpa [l] using h))
  · exact exec_backgroundCtleStep hn hst (if_neg (by simpa [l] using h))

/-! ### Loss and wake (R86, R94, R139, R140) -/

theorem leaveData_of_data {n cause : Nat} {f : State → State} {s : State} (h : (getLane n s).st = .data) :
    leaveData n cause f s = portLaneLost n (post 0x9001 (le2 n ++ [byte cause]) (f s)) := if_pos h

theorem wakePort_of_sleep {p trig : Nat} {s : State} (h : (getPort p s).st = .sleep) : wakePort p trig s =
    (let a := portEnter p .waking (modPort p (fun x => { x with wakeTrig := trig, waving := true, aligned := false, pcs := [] }) s)
     let b := emit (.wakePattern p) (setSquelch p false a)
     let c := (portLanes p b).foldl (fun a k => laneWake k a) b
     if (portLanes p c).any (fun k => decide ((getLane k c).st = .cal)) then portCold p c else c) := by
  rw [wakePort]
  dsimp only
  rw [if_neg (by simp [h]), if_neg (by simp [h])]

/-- Settles O18: each row by its equation. -/
theorem laneLossAndWake : Obligations.LaneLossAndWake := by
  unfold Obligations.LaneLossAndWake
  intro n p cdr mm s hn hp l cold
  have hrow (t : State) : within (decide (n < 1024)) t = .next t := within_of (decide_eq_true hn) t
  refine ⟨fun hst => ?_, fun hst => ⟨_, (within_of (decide_eq_true hp) _).trans (congrArg Host.Outcome.next (wakePort_of_sleep hst)), rfl⟩,
    fun wm hst hw hup hrate htemp => ?_, fun wm hst hw hup => ?_, fun hst hsnr => ?_, fun hst => ?_⟩
  · exact (hrow _).trans (congrArg Host.Outcome.next ((if_pos hst).trans (leaveData_of_data hst)))
  · rw [laneWake]
    dsimp only
    rw [if_neg (by simp [show (getLane n s).st = .sleep from hst]), show (getLane n s).warm = some wm from hw]
    dsimp only
    exact (if_neg (not_not.mpr hup)).trans ((if_neg (not_not.mpr hrate)).trans (if_neg (Nat.not_lt.mpr htemp)))
  · rw [laneWake]
    dsimp only
    rw [if_neg (by simp [show (getLane n s).st = .sleep from hst]), show (getLane n s).warm = some wm from hw]
    exact if_pos hup
  · exact (hrow _).trans (congrArg Host.Outcome.next (if_pos ⟨hst, hsnr⟩))
  · exact (hrow _).trans (congrArg Host.Outcome.next (if_pos hst))

end Sys2Proof.Machine
end

section
/-! PROOFS. The lane commands (Table 3.7). -/
namespace Sys2Proof.Machine

section
variable {c : Cmd} {s : State}

/-- A command without data whose owner answers OK ends at once. -/
theorem runCmd_okay {op : Nat} {t : State} {body : Cmd → State → State × CmdEnd} (h : ready op c s = true) (hlen : c.len = 0)
    (hb : body c (started c s) = okay t) : runCmd op c.ref body s = finish c {} 0 0 t := by
  rw [runCmd_done h hb, conclude_of_len hlen]

/-- The lanes that a lane command names. -/
def namedLanes (c : Cmd) : List Nat := (List.range (c.op 2 2)).map (c.op 0 2 + ·)

theorem laneRange_of_named (h : 1 ≤ c.op 2 2 ∧ c.op 2 2 ≤ 64 ∧ c.op 0 2 + c.op 2 2 ≤ 1024 ∧ c.op 0 2 / 64 = (c.op 0 2 + c.op 2 2 - 1) / 64) :
    laneRange c = some (namedLanes c) := if_pos h

theorem laneRange_of_not_named (h : ¬(1 ≤ c.op 2 2 ∧ c.op 2 2 ≤ 64 ∧ c.op 0 2 + c.op 2 2 ≤ 1024 ∧ c.op 0 2 / 64 = (c.op 0 2 + c.op 2 2 - 1) / 64)) :
    laneRange c = none := if_neg h

theorem laneRetrainCmd_okay (hr : laneRange c = some (namedLanes c)) (hlen : c.len = 0)
    (hfree : ∀ n ∈ namedLanes c, macroFenced (n / 8) s = false) (htest : ∀ n ∈ namedLanes c, (getLane n s).st ≠ .test) :
    laneRetrainCmd c s = okay ((namedLanes c).foldl (fun a n =>
        if (getLane n a).st = .an ∨ (getLane n a).st = .train ∨ (getLane n a).st = .adapt ∨ (getLane n a).st = .data
        then leaveData n 2 (laneToCal n) a else a) s) := by
  have hf : ((namedLanes c).any fun n => macroFenced (macroOf n) s) = false := by simpa [macroOf] using hfree
  have ht : ((namedLanes c).any fun n => decide ((getLane n s).st = .test)) = false := by simpa using htest
  rw [laneRetrainCmd, hr]
  dsimp only
  rw [if_neg (not_not.mpr hlen), hf, ht]
  rfl

/-- CHECK[2] clears a checker's counters (R96). -/
def clearChecker (c : Cmd) (l : Lane) : Lane := if bitAt (c.op 6 1) 2 then { l with testBits := 0, testErrors := 0 } else l

/-- A lane in the test that LANE_TEST starts. -/
def testLane (c : Cmd) (l : Lane) : Lane :=
  { l with st := .test, testMode := c.op 4 1, pattern := c.op 5 1, check := c.op 6 1, retryWait := false }

/-- What LANE_TEST does to one of its lanes. -/
def laneTestStep (c : Cmd) (s : State) (n : Nat) : State :=
  let was := (getLane n s).st
  if c.op 4 1 = 0 then modLane n (clearChecker c) (if was = .test then laneToCal n s else s)
  else
    let s := settleTx n (modLane n (fun l => testLane c (clearChecker c (if was = .data then breakEye l else l))) (observeTest n s))
    let s := emit (.lanePath n (lanePaths (getLane n s)).1 (lanePaths (getLane n s)).2) s
    if was = .data then portLaneLost n s else s

theorem laneTestStep_of_end (h : c.op 4 1 = 0) (n : Nat) : laneTestStep c s n =
    modLane n (clearChecker c) (if (getLane n s).st = .test then laneToCal n s else s) := if_pos h

/-- LANE_TEST is accepted: its operands are in range, and its lanes serve and may be tested. -/
theorem laneTestCmd_okay (hr : laneRange c = some (namedLanes c)) (hlen : c.len = 0)
    (hfree : ∀ n ∈ namedLanes c, macroFenced (n / 8) s = false) (hallow : ∀ n ∈ namedLanes c, testAllowed n s = true)
    (hmode : c.op 4 1 ≤ 4) (hpat : c.op 5 1 ≤ 7) (hchk : c.op 6 1 ≤ 7)
    (hnrz : (c.op 5 1 = 5 ∨ c.op 5 1 = 6) → ∀ n ∈ namedLanes c, rateOf (n / 8) s ≠ 4) :
    laneTestCmd c s = okay ((namedLanes c).foldl (laneTestStep c) s) := by
  have hf : ((namedLanes c).any fun n => macroFenced (macroOf n) s && !macroTesting (macroOf n) s) = false := by
    simp only [List.any_eq_false, Bool.and_eq_true, not_and, macroOf]
    intro n hn h
    rw [hfree n hn] at h
    cases h
  have ha : ((namedLanes c).any fun n => !testAllowed n s) = false := by simpa using hallow
  have hbad : ¬(c.len ≠ 0 ∨ c.op 4 1 > 4 ∨ c.op 5 1 > 7 ∨ c.op 6 1 > 7 ∨
      ((c.op 5 1 = 5 ∨ c.op 5 1 = 6) ∧ ((namedLanes c).any fun n => decide (rateOf (macroOf n) s = 4)) = true)) := by
    rintro (h | h | h | h | ⟨h, hany⟩)
    · exact h hlen
    · omega
    · omega
    · omega
    · obtain ⟨n, hn, h4⟩ := List.any_eq_true.mp hany
      exact hnrz h n hn (of_decide_eq_true h4)
  rw [laneTestCmd, hr]
  dsimp only
  rw [if_neg hbad, hf, ha]
  rfl

/-- A lane that was not in DATA is in the test after LANE_TEST. -/
theorem getLane_laneTestStep {n : Nat} (hmode : c.op 4 1 ≠ 0) (hst : (getLane n s).st ≠ .data) :
    ∃ l, getLane n (laneTestStep c s n) = testLane c l := by
  rw [laneTestStep]
  dsimp only
  rw [if_neg hmode, if_neg hst, getLane_emit, settleTx]
  obtain ⟨b, hb⟩ := getLane_setSquelch n (laneQuiet n (modLane n (fun l => testLane c (clearChecker c
    (if (getLane n s).st = .data then breakEye l else l))) (observeTest n s))) (modLane n (fun l => testLane c (clearChecker c
    (if (getLane n s).st = .data then breakEye l else l))) (observeTest n s))
  refine ⟨{ (clearChecker c (if (getLane n s).st = .data then breakEye (getLane n (observeTest n s)) else getLane n (observeTest n s))) with
    squelched := b }, ?_⟩
  rw [hb, getLane_modLane]
  rfl

theorem laneEyeCmd_later (hn : c.op 0 2 < 1024) (heye : c.op 4 1 ≤ 3) (hnrz : rateOf (c.op 0 2 / 8) s = 4 → c.op 4 1 = 1)
    (h10 : 10 ≤ c.op 5 1) (h40 : c.op 5 1 ≤ 40) (hlen : c.len = if c.op 4 1 = 3 then 49152 else 16384)
    (hfence : macroFenced (c.op 0 2 / 8) s = false) (hst : (getLane (c.op 0 2) s).st = .data ∨ (getLane (c.op 0 2) s).st = .test)
    (hnone : (getLane (c.op 0 2) s).eye = none) :
    laneEyeCmd c s = (modLane (c.op 0 2) (fun l => { l with
      eye := some c.ref, eyeBroken := false, eyeSel := c.op 4 1, eyeDwell := c.op 5 1, ctleMoved := false }) s, .later) := by
  have hbad : ¬(c.op 0 2 ≥ 1024 ∨ c.op 4 1 > 3 ∨ (rateOf (macroOf (c.op 0 2)) s = 4 ∧ c.op 4 1 ≠ 1) ∨ c.op 5 1 < 10 ∨ c.op 5 1 > 40 ∨
      c.len ≠ (if c.op 4 1 = 3 then 49152 else 16384)) := by
    rintro (h | h | ⟨h, hne⟩ | h | h | h)
    · omega
    · omega
    · exact hne (hnrz h)
    · omega
    · omega
    · exact h hlen
  have hf : macroFenced (macroOf (c.op 0 2)) s = false := hfence
  have hs : ¬((getLane (c.op 0 2) s).st ≠ .data ∧ (getLane (c.op 0 2) s).st ≠ .test) := fun h => hst.elim h.1 h.2
  simp only [laneEyeCmd, if_neg hbad, hf, Bool.false_eq_true, if_false, if_neg hs, hnone, Option.isSome_none]

theorem laneReadCmd_okay (hk : 1 ≤ c.op 2 2) (hmax : c.op 0 2 + c.op 2 2 ≤ 1024) (hlen : c.len = 64 * c.op 2 2)
    (hfree : ∀ n ∈ namedLanes c, macroFenced (n / 8) s = false) :
    laneReadCmd c s = okayData ((namedLanes c).flatMap fun n => laneRecord n ((namedLanes c).foldl (fun a n => observeTest n a) s))
      ((namedLanes c).foldl (fun a n => observeTest n a) s) := by
  have hf : ((namedLanes c).any fun n => macroFenced (macroOf n) s && !macroTesting (macroOf n) s) = false := by
    simp only [List.any_eq_false, Bool.and_eq_true, not_and, macroOf]
    intro n hn h
    rw [hfree n hn] at h
    cases h
  rw [laneReadCmd]
  dsimp only
  rw [if_neg (by omega)]
  exact if_neg (Bool.eq_false_iff.mp hf)

end

/-- Settles O19: each command by what its owner answers. -/
theorem laneCommands : Obligations.LaneCommands := by
  unfold Obligations.LaneCommands
  intro c counts s u first k ls named free runs
  refine ⟨fun h hn hlen hf ht => ?_, fun h hn => ?_, fun h hn hlen hf hm hr => ?_, fun h hn hlen hf h1 h4 hr => ?_,
    fun h hn heye hnrz h10 h40 hlen hf hst hnone => ?_, fun n hn heye hc => ?_, fun h hk hmax hlen hf => ?_⟩
  · exact congrArg Host.Outcome.next (runCmd_okay h hlen (laneRetrainCmd_okay (laneRange_of_named hn) hlen hf ht))
  · exact congrArg Host.Outcome.next (runCmd_done h (by rw [laneRetrainCmd, laneRange_of_not_named hn]; rfl))
  · obtain ⟨hallow, hpat, hchk, hnrz⟩ := hr
    have hstep : laneTestStep c = fun a n => modLane n (clearChecker c) (if (getLane n a).st = .test then laneToCal n a else a) := by
      funext a n
      exact laneTestStep_of_end hm n
    have hok := laneTestCmd_okay (laneRange_of_named hn) (s := u) hlen hf hallow (by omega) hpat hchk hnrz
    rw [hstep] at hok
    exact congrArg Host.Outcome.next (runCmd_okay h hlen hok)
  · obtain ⟨hallow, hpat, hchk, hnrz⟩ := hr
    have hok := laneTestCmd_okay (laneRange_of_named hn) (s := u) hlen hf hallow h4 hpat hchk hnrz
    refine ⟨_, congrArg Host.Outcome.next (runCmd_okay h hlen hok), fun hone hst => ?_⟩
    have hls : namedLanes c = [first] := by
      rw [namedLanes, show c.op 2 2 = 1 from hone]
      rfl
    obtain ⟨l, hl⟩ := getLane_laneTestStep (c := c) (s := u) (n := first) (by omega) hst
    rw [hls, List.foldl_cons, List.foldl_nil, hl]
    exact ⟨rfl, rfl, rfl, rfl⟩
  · exact congrArg Host.Outcome.next (runCmd_later h (laneEyeCmd_later hn heye hnrz h10 h40 hlen hf hst hnone))
  · intro l w
    have hdone (t : State) (ht : (if l.eyeBroken then finish c { status := LANE_RESTARTED } 0 0 w
        else if domsDown (cmdDoms c w) w then finish c { status := DOMAIN_OFF } 0 0 w
        else conclude c { data := eyeBlocks l.eyeDwell (if l.eyeSel = 3 then 3 else 1) counts } (cmdDoms c w) w) = t) :
        exec (.laneEyeDone n counts) s = .next t := by
      have hc' : findCmd c.ref w = some c := hc
      refine (within_of (decide_eq_true hn) _).trans (congrArg Host.Outcome.next ?_)
      rw [heye]
      dsimp only
      rw [hc']
      exact ht
    have hdoms : domsDown (cmdDoms c w) w = domsDown (cmdDoms c s) s := rfl
    refine ⟨fun hb => hdone _ (if_pos hb), fun hb hd => hdone _ ?_, fun hb hd => hdone _ ?_⟩
    · rw [hb, hdoms, hd]
      rfl
    · rw [hb, hdoms, hd]
      rfl
  · exact congrArg Host.Outcome.next (runCmd_done h (laneReadCmd_okay hk hmax hlen hf))

end Sys2Proof.Machine
end

section
/-! PROOFS. Ports: layout, commands, gates and link state (4.1 to 4.6). -/
namespace Sys2Proof.Machine

/-! ### Ports read back -/

@[simp] theorem getPort_setPort (p : Nat) (x : Port) (s : State) : getPort p (setPort p x s) = x := tget_tset_self ..
@[simp] theorem getPort_modPort (p : Nat) (f : Port → Port) (s : State) : getPort p (modPort p f s) = f (getPort p s) := tget_tset_self ..
@[simp] theorem getPort_emit (p : Nat) (o : Out) (s : State) : getPort p (emit o s) = getPort p s := rfl

theorem getPort_modPort_ne {k p : Nat} (h : k ≠ p) (f : Port → Port) (s : State) : getPort k (modPort p f s) = getPort k s :=
  tget_tset_other _ _ _ _ h

theorem getPort_setPort_ne {k p : Nat} (h : k ≠ p) (x : Port) (s : State) : getPort k (setPort p x s) = getPort k s :=
  tget_tset_other _ _ _ _ h

theorem Fr.getPort {M : Nat} {s t : State} (h : Fr M s t) (hM : M.testBit 12 = false) (p : Nat) : getPort p t = getPort p s := by
  rw [Machine.getPort, h.mac.resolve_left (by simp [hM]), Machine.getPort]

/-- The fault that a port sends follows its state, and nothing else of it. -/
theorem getPort_settleFault (p : Nat) (s : State) : ∃ f, getPort p (settleFault p s) = { getPort p s with txFault := f } := by
  unfold settleFault
  dsimp only
  split
  · exact ⟨_, rfl⟩
  · exact ⟨_, by rw [getPort_emit, getPort_setPort]⟩

theorem getPort_settleFault_ne {k p : Nat} (h : k ≠ p) (s : State) : getPort k (settleFault p s) = getPort k s := by
  unfold settleFault
  dsimp only
  split
  · rfl
  · rw [getPort_emit, getPort_setPort_ne h]

/-- Entering a state sets the state, and with it its instant and the fault that the port sends. -/
theorem getPort_portEnter (p : Nat) (st : PortSt) (s : State) :
    ∃ ts ph f, getPort p (portEnter p st s) = { getPort p s with st := st, changeTs := ts, changePh := ph, txFault := f } := by
  obtain ⟨f, hf⟩ := getPort_settleFault p (unwake p (fun _ => true)
    (modPort p (fun x => { x with st := st, changeTs := (stamp s).1, changePh := (stamp s).2 }) s))
  refine ⟨(stamp s).1, (stamp s).2, f, hf.trans ?_⟩
  rw [(fr_unwake ..).getPort rfl, getPort_modPort]

theorem getPort_portEnter_ne {k p : Nat} (h : k ≠ p) (st : PortSt) (s : State) : getPort k (portEnter p st s) = getPort k s :=
  (getPort_settleFault_ne h _).trans (by rw [(fr_unwake ..).getPort rfl, getPort_modPort_ne h])

/-! ### Going down (Table 4.2) -/

theorem portDown_of_down {p cause : Nat} {s : State} (h : (getPort p s).st = .disabled ∨ (getPort p s).st = .down) :
    portDown p cause s = s := if_pos h

/-- A port as it is DOWN, but for what its exit from UP and its entry to DOWN add. -/
def downPort (cause : Nat) (x : Port) : Port :=
  { x with downCause := cause, aligned := false, pcs := [], sleeping := false, wakeNext := none, waving := false }

/-- A port as it leaves UP. -/
def exitedPort (x : Port) : Port := { x with pause := [], xoff := 0, sendOn := 0, sendOff := 0, flush := true }

theorem getPort_leaveUp (p : Nat) (s : State) : getPort p (leaveUp p s) = exitedPort (getPort p s) := by
  rw [leaveUp]
  rw [getPort_modPort, getPort_emit, (fr_countPort ..).getPort rfl]
  rfl

theorem portDown_of_linking {p cause : Nat} {s : State} (h : (getPort p s).st = .linking) :
    portDown p cause s = portEnter p .down (modPort p (downPort cause) s) := by
  rw [portDown]
  dsimp only
  rw [if_neg (by simp [h]), if_neg (by simp [h]), if_neg (by simp [h])]
  rfl

theorem portDown_of_up {p cause : Nat} {s : State} (h : (getPort p s).st = .up) : portDown p cause s =
    slotPortDown p (post 0x9011 (le2 p ++ [byte cause]) (portEnter p .down (modPort p (downPort cause) (leaveUp p s)))) := by
  rw [portDown]
  dsimp only
  rw [if_neg (by simp [h]), if_pos (by simp [h]), if_pos (by simp [h])]
  rfl

theorem getPort_portDown_of_up {p : Nat} {s : State} (h : (getPort p s).st = .up) (cause : Nat) : ∃ ts ph f,
    getPort p (portDown p cause s) =
      { downPort cause (exitedPort (getPort p s)) with st := .down, changeTs := ts, changePh := ph, txFault := f } := by
  obtain ⟨ts, ph, f, henter⟩ := getPort_portEnter p .down (modPort p (downPort cause) (leaveUp p s))
  refine ⟨ts, ph, f, ?_⟩
  rw [portDown_of_up h, (fr_slotPortDown ..).getPort rfl, (fr_post ..).getPort rfl, henter, getPort_modPort, getPort_leaveUp]

/-- Settles O23: the port that `portDown` leaves, by the state that it was in. -/
theorem portUpDown : Obligations.PortUpDown := by
  unfold Obligations.PortUpDown
  intro p cause s y
  refine ⟨fun h => ?_, portDown_of_down, fun k hne h => ?_⟩
  · obtain ⟨ts, ph, f, hy⟩ := getPort_portDown_of_up h cause
    rw [show y = _ from hy]
    exact ⟨rfl, rfl, rfl, rfl, rfl, rfl, rfl, rfl, rfl, rfl⟩
  · rw [portDown_of_linking h, getPort_portEnter_ne hne, getPort_modPort_ne hne]

/-! ### Layout and PORT_ADMIN (R107, R144, R569) -/

theorem fld_low_eight (v : Nat) : fld v 0 8 = v % 256 := by rw [fld, pow_zero, Nat.div_one, show 2 ^ 8 = 256 from rfl]

theorem writeMacroMode_of_bad {m v : Nat} {s : State} (h : layoutOk (rateOf m s) (v % 256) = false) :
    writeMacroMode m v s = { s with mac := { s.mac with modeErr := tset s.mac.modeErr m true } } := by
  rw [writeMacroMode]
  dsimp only
  rw [fld_low_eight, h]
  rfl

theorem writeMacroMode_of_good {m v : Nat} {s : State} (h : layoutOk (rateOf m s) (v % 256) = true) : writeMacroMode m v s =
    (let a := { s with mac := { s.mac with modeErr := tset s.mac.modeErr m false } }
     let b := (List.range 8).foldl (fun x i => relayLane (starts m s) (v % 256) (8 * m + i) x) a
     let d := wrRw Reg.macMacroMode m v b
     let e := (macroPorts m d).foldl (fun x p => tryLinking p x) d
     (List.range 8).foldl (fun x i => settleTx (8 * m + i) x) e) := by
  rw [writeMacroMode]
  dsimp only
  rw [fld_low_eight, h]
  rfl

section
variable {c : Cmd} {s : State}

/-- A command whose owner fails moves nothing. -/
theorem runCmd_fail {op k : Nat} {body : Cmd → State → State × CmdEnd} (h : ready op c s = true) (hk : k ≠ 0)
    (hb : body c (started c s) = fail k (started c s)) : runCmd op c.ref body s = finish c { status := k } 0 0 (started c s) := by
  rw [runCmd_done h hb, conclude_of_status hk]

section
variable (hp : c.op 0 2 < 1024) (hlen : c.len = 0)
include hp hlen

theorem portAdminCmd_noPort (hact : c.op 2 1 < 4) (hw : portWidth (c.op 0 2) s = 0) : portAdminCmd c s = fail NO_PORT s := by
  rw [portAdminCmd]
  rw [if_neg (by omega), if_pos hw]

variable (hw : portWidth (c.op 0 2) s ≠ 0)
include hw

theorem portAdminCmd_disable (hact : c.op 2 1 = 0) : portAdminCmd c s = okay (portDisable (c.op 0 2) 0 s) := by
  rw [portAdminCmd]
  rw [if_neg (by omega), if_neg hw, if_pos hact]

theorem portAdminCmd_enable (hact : c.op 2 1 = 1) : portAdminCmd c s =
    if (getPort (c.op 0 2) s).st ≠ .disabled then okay s
    else if portFenced (c.op 0 2) s then fail ST_FENCED s
    else if !macroOn (macroOf (c.op 0 2)) s then fail PORT_STATE s
    else okay (portEnable (c.op 0 2) s) := by
  rw [portAdminCmd]
  rw [if_neg (by omega), if_neg hw, if_neg (by omega), if_pos hact]

theorem portAdminCmd_sleep (hact : c.op 2 1 = 2) : portAdminCmd c s =
    if (getPort (c.op 0 2) s).st ≠ .up ∨ (getPort (c.op 0 2) s).sleeping then fail PORT_STATE s
    else okay (modPort (c.op 0 2) (fun x => { x with sleeping := true }) (emit (.linkSignal (c.op 0 2) false) s)) := by
  rw [portAdminCmd]
  rw [if_neg (by omega), if_neg hw, if_neg (by omega), if_neg (by omega), if_pos hact]

theorem portAdminCmd_wake (hact : c.op 2 1 = 3)
    (hst : (getPort (c.op 0 2) s).st = .sleep ∨ ((getPort (c.op 0 2) s).st = .up ∧ (getPort (c.op 0 2) s).sleeping = true)) :
    portAdminCmd c s = okay (wakePort (c.op 0 2) 1 s) := by
  rw [portAdminCmd]
  rw [if_neg (by omega), if_neg hw, if_neg (by omega), if_neg (by omega), if_neg (by omega)]
  rcases hst with h | h
  · rw [if_neg (by simp [h]), if_neg (not_not.mpr h)]
  · rw [if_pos h]

end

theorem portReadCmd_okay (hk : 1 ≤ c.op 2 2) (hmax : c.op 0 2 + c.op 2 2 ≤ 1024) (hlen : c.len = 64 * c.op 2 2) :
    portReadCmd c s = okayData ((List.range (c.op 2 2)).flatMap fun i => portRecord (c.op 0 2 + i) s) s := by
  rw [portReadCmd]
  rw [if_neg (by omega)]

end

/-- Settles O20: the layout by whether its rate allows it, PORT_ADMIN by its action. -/
theorem portLayout : Obligations.PortLayout := by
  unfold Obligations.PortLayout
  intro m v c s new u p
  refine ⟨fun hm he hbad => ?_, fun hm he hok => ?_, fun h hp hlen hw => ?_, fun h hp hlen hw hact => ?_, fun h hk hmax hlen => ?_⟩
  · exact (within_whenOpen (decide_eq_true hm) he _).trans (congrArg Host.Outcome.next (writeMacroMode_of_bad hbad))
  · exact (within_whenOpen (decide_eq_true hm) he _).trans (congrArg Host.Outcome.next (writeMacroMode_of_good hok))
  · have okay {t : State} (hb : portAdminCmd c u = okay t) : exec (.portAdmin c.ref) s = .next (finish c {} 0 0 t) :=
      congrArg Host.Outcome.next (runCmd_okay h hlen hb)
    have fail {k : Nat} (hk : k ≠ 0) (hb : portAdminCmd c u = fail k u) :
        exec (.portAdmin c.ref) s = .next (finish c { status := k } 0 0 u) :=
      congrArg Host.Outcome.next (runCmd_fail h hk hb)
    refine ⟨fun hact => okay (portAdminCmd_disable hp hlen hw hact), fun hact hst hf hon => okay ?_, fun hact hst => okay ?_,
      fun hact hst hf => fail (by decide) ?_, fun hact hst hsl => okay ?_, fun hact hst => fail (by decide) ?_,
      fun hact hst => okay (portAdminCmd_wake hp hlen hw hact hst)⟩
    · have hon' : (!macroOn (macroOf (c.op 0 2)) u) = false := congrArg not hon
      exact (portAdminCmd_enable (s := u) hp hlen hw hact).trans
        ((if_neg (not_not.mpr hst)).trans ((if_neg (Bool.eq_false_iff.mp hf)).trans (if_neg (Bool.eq_false_iff.mp hon'))))
    · exact (portAdminCmd_enable (s := u) hp hlen hw hact).trans (if_pos hst)
    · exact (portAdminCmd_enable (s := u) hp hlen hw hact).trans ((if_neg (not_not.mpr hst)).trans (if_pos hf))
    · exact (portAdminCmd_sleep (s := u) hp hlen hw hact).trans
        (if_neg fun hbad => hbad.elim (fun hne => hne hst) (Bool.eq_false_iff.mp hsl))
    · exact (portAdminCmd_sleep (s := u) hp hlen hw hact).trans (if_pos (.inl hst))
  · exact congrArg Host.Outcome.next (runCmd_fail h (by decide) (portAdminCmd_noPort hp hlen hact hw))
  · exact congrArg Host.Outcome.next (runCmd_done h (portReadCmd_okay hk hmax hlen))

end Sys2Proof.Machine
end

section
/-! PROOFS. Gates and link state (4.3, 4.4, 4.6). -/
namespace Sys2Proof.Machine

/-! ### The time of a gate list's switch (R133) -/

section
variable {base cycle load : Nat} (hc : 0 < cycle)

theorem gateSwitchTime_of_late (h : load + 1000 ≤ base) : gateSwitchTime base cycle load = base := if_pos h

/-- Past BASE, T is BASE and a whole number of cycles. -/
theorem gateSwitchTime_of_past (h : base < load + 1000) :
    gateSwitchTime base cycle load = base + (load + 1000 - base + cycle - 1) / cycle * cycle := if_neg (Nat.not_le.mpr h)

theorem le_gateSwitchTime : base ≤ gateSwitchTime base cycle load := by
  rcases Nat.lt_or_ge base (load + 1000) with h | h
  · rw [gateSwitchTime_of_past h]
    exact Nat.le_add_right ..
  · rw [gateSwitchTime_of_late h]

theorem gateSwitchTime_sub_mod : (gateSwitchTime base cycle load - base) % cycle = 0 := by
  rcases Nat.lt_or_ge base (load + 1000) with h | h
  · rw [gateSwitchTime_of_past h, Nat.add_sub_cancel_left, Nat.mul_mod_left]
  · rw [gateSwitchTime_of_late h, Nat.sub_self, Nat.zero_mod]

include hc

theorem load_le_gateSwitchTime : load + 1000 ≤ gateSwitchTime base cycle load := by
  rcases Nat.lt_or_ge base (load + 1000) with h | h
  · have hdiv := Nat.div_add_mod (load + 1000 - base + cycle - 1) cycle
    have hmod := Nat.mod_lt (load + 1000 - base + cycle - 1) hc
    rw [gateSwitchTime_of_past h, Nat.mul_comm]
    omega
  · rwa [gateSwitchTime_of_late h]

theorem gateSwitchTime_lt (h : base < gateSwitchTime base cycle load) : gateSwitchTime base cycle load < load + 1000 + cycle := by
  rcases Nat.lt_or_ge base (load + 1000) with hlt | hge
  · have hdiv := Nat.div_add_mod (load + 1000 - base + cycle - 1) cycle
    rw [gateSwitchTime_of_past hlt, Nat.mul_comm]
    omega
  · rw [gateSwitchTime_of_late hge] at h
    exact absurd h (Nat.lt_irrefl _)

end

/-- A gate list in range is loaded, to be switched to at T. -/
theorem portGateListCmd_okay {c : Cmd} {bs : List Byte} {s : State} (hq : c.op 0 2 < 1024) (hk : 1 ≤ c.op 2 2) (hk' : c.op 2 2 ≤ 256)
    (hlen : c.len = 8 * c.op 2 2) (hcy : 1000 ≤ c.op 4 4) (hcy' : c.op 4 4 ≤ 1000000000) (hns : c.op 8 4 ≤ 999999999)
    (hw : portWidth (c.op 0 2) s ≠ 0) (hes : ∀ e ∈ gateEntries (c.op 2 2) (fit c.len bs), 64 ≤ e.2 ∧ e.2 ≤ c.op 4 4) :
    ∃ payload, portGateListCmd c (.data bs) s = okayWith payload (modPort (c.op 0 2) (fun x => { x with
      standby := { entries := gateEntries (c.op 2 2) (fit c.len bs), cycle := c.op 4 4, baseSec := c.op 16 6, baseNs := c.op 8 4 }
      switchAt := some (gateSwitchTime (c.op 16 6 * 1000000000 + c.op 8 4) (c.op 4 4)
        (timeOf (rdFld Reg.macGateCfg (c.op 0 2) 1 2 s) s)) }) s) := by
  have hall : ((gateEntries (c.op 2 2) (fit c.len bs)).any fun e => decide (e.2 < 64 ∨ e.2 > c.op 4 4)) = false := by
    simp only [List.any_eq_false, decide_eq_true_eq]
    intro e he
    have := hes e he
    omega
  rw [portGateListCmd]
  dsimp only
  rw [if_neg (by omega), if_neg hw, withHost]
  exact ⟨_, if_neg (Bool.eq_false_iff.mp hall)⟩

/-! ### Switching and stepping gates (R132, R133) -/

/-- A port whose standby gate list has become active. -/
def switchedPort (on : Bool) (x : Port) : Port :=
  { x with active := x.standby, standby := {}, switchAt := none, page := !x.page, gateIx := if on then some 0 else none
           gates := if on then (x.standby.entries.getD 0 (0, 0)).1 else x.gates
           gateFail := x.gateFail && !x.gateParity, gateParity := false }

theorem exec_gateListSwitch {p t : Nat} {s : State} (hp : p < 1024) (h : (getPort p s).switchAt = some t) :
    ∃ v, exec (.gateListSwitch p) s = .next v ∧ getPort p v = switchedPort (bitAt (rd Reg.macGateCfg p s) 0) (getPort p s) := by
  have hexec : exec (.gateListSwitch p) s = execGateListSwitch p s := rfl
  rw [hexec, execGateListSwitch]
  dsimp only
  rw [h, within_of (decide_eq_true hp)]
  refine ⟨_, rfl, ?_⟩
  dsimp only
  rw [(fr_post ..).getPort rfl, (fr_unwake ..).getPort rfl, getPort_setPort]
  rfl

theorem gateTake_of_good {p i : Nat} {s : State} (h : upsetOf memGate p s = 0) :
    getPort p (gateTake p i s) = { getPort p s with gateIx := some i, gates := ((getPort p s).active.entries.getD i (0, 0)).1 } := by
  rw [gateTake, if_neg (not_not.mpr h)]
  dsimp only
  rw [(fr_unwake ..).getPort rfl, getPort_setPort]

/-- The entry that a port's gates take next (R132). -/
def gateNext (x : Port) : Nat :=
  match x.gateIx with
  | none => 0
  | some j => nextEntry x.active j

theorem exec_gateTransition {p : Nat} {s : State} (hp : p < 1024) (hw : portWidth p s ≠ 0) (hon : bitAt (rd Reg.macGateCfg p s) 0 = true)
    (htb : tbRuns (fld (rd Reg.macGateCfg p s) 1 2) s = true) (hfail : (getPort p s).gateFail = false)
    (hne : (getPort p s).active.entries ≠ []) : exec (.gateTransition p) s = .next (gateTake p (gateNext (getPort p s)) s) := by
  have hexec : exec (.gateTransition p) s = execGateTransition p s := rfl
  rw [hexec, execGateTransition]
  rw [within_of (decide_eq_true hp), if_neg (by simp [hw, hon]), htb, if_neg (by simp), if_neg (by simp [hfail, hne])]
  rfl

/-- Settles O21: the list's time by its quotient, and the two rows by the port that they leave. -/
theorem portGates : Obligations.PortGates := by
  unfold Obligations.PortGates
  intro c bs p s u q k cycle base es
  refine ⟨fun h hq hk hk' hlen hcy hcy' hns hw hes => ?_, fun t hp hsw => ?_, fun hp hw hon htb hfail hne hup => ?_⟩
  · obtain ⟨payload, hokay⟩ := portGateListCmd_okay (s := u) hq hk hk' hlen hcy hcy' hns hw hes
    exact ⟨_, payload, congrArg Host.Outcome.next (runCmd_done h hokay), le_gateSwitchTime, load_le_gateSwitchTime (by omega),
      gateSwitchTime_sub_mod, gateSwitchTime_lt (by omega)⟩
  · obtain ⟨v, hv, hport⟩ := exec_gateListSwitch hp hsw
    refine ⟨v, hv, ?_⟩
    rw [hport]
    exact ⟨rfl, rfl, rfl, rfl⟩
  · refine ⟨_, gateNext (getPort p s), exec_gateTransition hp hw hon htb hfail hne, ?_, rfl, ?_⟩
    · rw [gateTake_of_good hup]
    · rw [gateTake_of_good hup]

/-! ### Link state (R111 to R120) -/

section
variable {p : Nat} {s : State}

theorem portAligned_of_far {skew : Nat} {calOk : Bool} (hst : (getPort p s).st = .linking ∨ (getPort p s).st = .waking)
    (hfec : isNrz p s = false) (h : 64 < skew) :
    portAligned p skew calOk s = report 34 2 p (le 8 p) (setPort p { getPort p s with downCause := 9 } s) := by
  rw [portAligned]
  dsimp only
  rw [if_neg fun hn => hst.elim hn.1 hn.2, hfec, if_neg (by simp), if_pos h]

theorem portAligned_of_near {skew : Nat} {calOk : Bool} (hst : (getPort p s).st = .linking ∨ (getPort p s).st = .waking)
    (hfec : isNrz p s = false) (h : skew ≤ 64) : portAligned p skew calOk s =
      tryWaked p (settleFault p (modPort p (fun x => { x with aligned := true }) (if calOk then s else report 198 2 p (le 8 p) s))) := by
  rw [portAligned]
  dsimp only
  rw [if_neg fun hn => hst.elim hn.1 hn.2, hfec, if_neg (by simp), if_neg (Nat.not_lt.mpr h)]

/-- A port that was UP stays so while its loss of lock is counted. -/
theorem lockLost_of_up (h : (getPort p s).st = .up) : lockLost p true s =
    tryLinking p (portDown p 2 (settleFault p (modPort p (fun x => { x with aligned := false }) (countPort p 23 1 s)))) := by
  have hup : (getPort p (settleFault p (modPort p (fun x => { x with aligned := false }) (countPort p 23 1 s)))).st = .up := by
    obtain ⟨f, hf⟩ := getPort_settleFault p (modPort p (fun x => { x with aligned := false }) (countPort p 23 1 s))
    rw [hf, getPort_modPort, (fr_countPort ..).getPort rfl]
    exact h
  rw [lockLost]
  exact if_pos hup

theorem pcsRuns_of_up (h : (getPort p s).st = .up) : pcsRuns p s = true := by simp [pcsRuns, h]

variable (hp : p < 1024)
include hp

theorem exec_lockLoss {ev : LossEv} {t : State} (hruns : pcsRuns p s = true)
    (h : execLockLoss p ev s = within (decide (p < 1024)) (if !pcsRuns p s then s else t)) : exec (.lockLoss p ev) s = .next t :=
  h.trans ((within_of (decide_eq_true hp) _).trans (by rw [hruns]; rfl))

theorem exec_hiBer {count : Nat} (hnrz : isNrz p s = true) (hw : portWidth p s ≠ 0) : exec (.hiBer p count) s = .next
    (if count ≥ 97 then
      (if (getPort p s).st = .up then tryLinking p (portDown p 3 (setPort p { getPort p s with hiBer := true } s))
       else setPort p { getPort p s with hiBer := true } s)
     else setPort p { getPort p s with hiBer := false } s) :=
  (within_of (decide_eq_true hp) _).trans (congrArg Host.Outcome.next (if_neg (by simp [hnrz, hw])))

theorem exec_remoteFault_of_up (h : (getPort p s).st = .up) : exec (.remoteFault p .remoteFault) s =
    .next (tryLinking p (portDown p 4 (modPort p (fun x => { x with remoteRx := true }) s))) :=
  (within_of (decide_eq_true hp) _).trans (congrArg Host.Outcome.next (if_pos (by rw [getPort_modPort]; exact h)))

/-- A window below the threshold of a port that is not degraded is only counted (R114). -/
theorem exec_fecWindow_below {codewords : List Nat} (hfec : isNrz p s = false) (hw : portWidth p s ≠ 0)
    (hdeg : (getPort p s).fecDegrade = false) (hlt : codewords.foldl (· + ·) 0 < 16 * fld (rd Reg.macFecDegrade p s) 0 16) :
    exec (.fecWindow p codewords) s = .next
      (let good := codewords.filter fun e => decide (0 < e) && !uncorrectable e
       countPort p 22 (good.foldl (· + ·) 0) (countPort p 20 good.length (countPort p 21 (codewords.filter uncorrectable).length
         (setPort p { getPort p s with fecSymbols := sat 32 (codewords.foldl (· + ·) 0) } s)))) := by
  have hexec : exec (.fecWindow p codewords) s = execFecWindow p codewords s := rfl
  rw [hexec, execFecWindow]
  dsimp only
  rw [within_of (decide_eq_true hp), if_neg (by simp [hfec, hw]), if_neg fun h => Nat.not_le.mpr hlt h.2, hdeg, if_neg (by simp)]

end

theorem good_codewords (l : List Nat) : (l.filter fun e => decide (0 < e) && !uncorrectable e) =
    l.filter fun e => decide (0 < e) && decide (e ≤ 15) :=
  List.filter_congr fun e _ => by rw [uncorrectable, ← decide_not, decide_eq_decide.mpr (Nat.not_lt (a := 15) (b := e))]

/-- Settles O22: each row by its equation. -/
theorem linkState : Obligations.LinkState := by
  unfold Obligations.LinkState
  intro p count s hp x
  have hrow (t : State) : within (decide (p < 1024)) t = .next t := within_of (decide_eq_true hp) t
  refine ⟨fun skew calOk hst hfec => ?_, fun k hs hnrz hk hl => ?_, fun hst hal hl hr hb => ?_, fun hst => ?_, fun k hs hruns hnrz hk hl => ?_,
    fun hnrz hw => ⟨fun h97 hst => ?_, fun h97 hst => ?_, fun h97 => ?_⟩, exec_remoteFault_of_up hp, hrow _, hrow _,
    fun codewords hfec hw hdeg => ?_⟩
  · intro a
    exact ⟨fun h => (hrow _).trans (congrArg Host.Outcome.next (portAligned_of_near hst hfec h)),
      fun h => (hrow _).trans (congrArg Host.Outcome.next (portAligned_of_far hst hfec h))⟩
  · exact (hrow _).trans (congrArg Host.Outcome.next (if_pos ⟨hnrz, hk, by simpa [x] using hl⟩))
  · exact (hrow _).trans (congrArg Host.Outcome.next
      (if_pos ⟨hst, hal, by simpa [x] using hl, by simpa [x] using hr, by simpa [x] using hb⟩))
  · exact (exec_lockLoss hp (pcsRuns_of_up hst) rfl).trans (congrArg Host.Outcome.next (lockLost_of_up hst))
  · exact (exec_lockLoss hp hruns rfl).trans (congrArg Host.Outcome.next (if_pos ⟨hnrz, hk, hl⟩))
  · exact (exec_hiBer hp hnrz hw).trans (congrArg Host.Outcome.next ((if_pos h97).trans (if_pos hst)))
  · exact (exec_hiBer hp hnrz hw).trans (congrArg Host.Outcome.next ((if_pos h97).trans (if_neg hst)))
  · exact (exec_hiBer hp hnrz hw).trans (congrArg Host.Outcome.next (if_neg (Nat.not_le.mpr h97)))
  · intro sum good hlt
    rw [exec_fecWindow_below hp hfec hw hdeg hlt]
    simp only [good_codewords]
    rfl

end Sys2Proof.Machine
end

section
/-! PROOFS. What a report does to the units: it marks those under test, and leaves where each stands (R509, R558). -/
namespace Sys2Proof.Machine

theorem trising_tset {α : Type} [DecidableEq α] [Inhabited α] (t : Tab α) (k : Nat) (v : α) (h : trising t = true) :
    trising (tset t k v) = true := by
  unfold tset tsetD
  split
  · exact trising_tdrop t k h
  · exact trising_tput t k v h

/-- Every unit stands where it did: in service, fenced or under test. The table's form is kept. -/
structure UnitsStand (s t : State) : Prop where
  state : ∀ k, (tget t.flt.units k).state = (tget s.flt.units k).state
  rising : trising s.flt.units = true → trising t.flt.units = true

theorem UnitsStand.refl (s : State) : UnitsStand s s := ⟨fun _ => rfl, id⟩

theorem UnitsStand.trans {s t u : State} (a : UnitsStand s t) (b : UnitsStand t u) : UnitsStand s u :=
  ⟨fun k => (b.state k).trans (a.state k), fun h => b.rising (a.rising h)⟩

theorem UnitsStand.of_units {s t : State} (h : t.flt.units = s.flt.units) : UnitsStand s t := ⟨fun k => by rw [h], fun hr => by rwa [h]⟩

theorem Fr.stand {M : Nat} {s t : State} (h : Fr M s t) (hM : M.testBit 25 = false) : UnitsStand s t :=
  .of_units (h.units.resolve_left (by simp [hM]))

theorem UnitsStand.foldl {α : Type} {f : State → α → State} (hf : ∀ u x, UnitsStand u (f u x)) (l : List α) (s : State) :
    UnitsStand s (l.foldl f s) := by
  induction l generalizing s with
  | nil => exact .refl s
  | cons x l ih => exact (hf s x).trans (ih _)

theorem UnitsStand.fencedU {s t : State} (h : UnitsStand s t) (k i : Nat) : fencedU k i t = fencedU k i s := by
  rw [Machine.fencedU, getUnit, h.state, Machine.fencedU, getUnit]

theorem stand_setUnit {kind ix : Nat} {x : FUnit} {s : State} (h : x.state = (getUnit kind ix s).state) :
    UnitsStand s (setUnit kind ix x s) := by
  refine ⟨fun k => ?_, fun hr => trising_tset _ _ _ hr⟩
  by_cases hk : k = unitKey kind ix
  · rw [hk, setUnit, tget_tset_self, h, getUnit]
  · rw [setUnit, tget_tset_other _ _ _ _ hk]

theorem stand_markTest (rep : Report) (s : State) : UnitsStand s (markTest rep s) := by
  refine .foldl (fun u x => ?_) _ _
  split
  · exact stand_setUnit rfl
  · exact .refl u

theorem stand_enqueue (rep : Report) (s : State) : UnitsStand s (enqueue rep s) := by
  refine (stand_markTest rep s).trans ?_
  unfold enqueue
  dsimp only
  split
  · exact .of_units rfl
  · split
    · rename_i t ht
      exact (fr_tryMerge _ _ _ _ ht).stand rfl
    · exact .of_units rfl

theorem stand_report (cls kind unit : Nat) (detail : List Byte) (s : State) : UnitsStand s (report cls kind unit detail s) :=
  stand_enqueue ..

theorem stand_countIn (panel kind num n : Nat) (s : State) : UnitsStand s (countIn panel kind num n s) := by
  unfold countIn
  dsimp only
  split
  · refine UnitsStand.trans ?_ (stand_report ..)
    exact .of_units rfl
  · exact .of_units rfl

theorem stand_countPort (p ix n : Nat) (s : State) : UnitsStand s (countPort p ix n s) := stand_countIn ..

theorem stand_countGood (p len : Nat) (dst : List Byte) (s : State) : UnitsStand s (countGood p len dst s) :=
  (((stand_countPort ..).trans (stand_countPort ..)).trans (stand_countPort ..)).trans (stand_countPort ..)

theorem UnitsStand.pipeOfPort {s t : State} (h : UnitsStand s t) (p : Nat) : pipeOfPort p t = pipeOfPort p s := by
  rw [Machine.pipeOfPort, servingPipe, h.fencedU, Machine.pipeOfPort, servingPipe]

end Sys2Proof.Machine
end

section
/-! PROOFS. Flow control (4.5), and frames, sleep and wake of ports (4.2, 4.7, 6.1). -/
namespace Sys2Proof.Machine

section
variable {p k : Nat} {s : State} (hp : p < 1024)
include hp

/-- A frame of the MAC control sublayer on a port that takes frames. -/
theorem exec_pfcFrameReceive {en : Byte} {times : List Nat} {ok : Bool} (h : frameTaken p s = true) :
    exec (.pfcFrameReceive p en times ok) s =
      .next (if !ok then countPort p 15 1 s else pfcReceive p en.toNat times (countGood p 64 ctrlDst s)) :=
  (within_of (decide_eq_true hp) _).trans (congrArg Host.Outcome.next (if_neg (by simp [h])))

theorem exec_pauseFrameReceive {time : Nat} {ok : Bool} (h : frameTaken p s = true) :
    exec (.pauseFrameReceive p time ok) s =
      .next (if !ok then countPort p 15 1 s else pauseReceive p time (countGood p 64 ctrlDst s)) :=
  (within_of (decide_eq_true hp) _).trans (congrArg Host.Outcome.next (if_neg (by simp [h])))

/-- A frame that waits goes out, and is counted. -/
theorem exec_pfcFrameSend (ht : mayTransmit p s = true) (hs : (getPort p s).sending = none) (hw : fcWaits (getPort p s) = true) :
    exec (.pfcFrameSend p) s = .next (modPort p (fun x => { x with sendOn := 0, sendOff := 0 }) (countPort p 3 64 (countPort p 2 1
      (if (getPort p s).fcMode = 1 then countPort p 26 1 (emit (.macControl p (fcFrame p s)) s)
       else (List.range 8).foldl
         (fun a c => if bitAt ((getPort p s).sendOn ||| (getPort p s).sendOff) c then countPort p (36 + c) 1 a else a)
         (emit (.macControl p (fcFrame p s)) s))))) :=
  (within_of (decide_eq_true hp) _).trans (congrArg Host.Outcome.next (if_pos ⟨ht, hs, hw⟩))

variable (hk : k < 8)
include hk

theorem exec_pfcRefresh (hst : (getPort p s).st = .up) (hx : bitAt (getPort p s).xoff k = true) : exec (.pfcRefresh p k) s =
    .next (modPort p (fun x => { x with sendOn := setFld x.sendOn k 1 1 }) s) :=
  (within_of (by simp [hp, hk]) _).trans (congrArg Host.Outcome.next (if_pos ⟨hst, hx⟩))

/-- The state after a watchdog has flagged its class. -/
def watchdogFlagged (p k : Nat) (s : State) : State :=
  post 0x9013 (le2 p ++ [byte k, 1]) (report 35 2 p (le2 p ++ [byte k, 1]) (modPort p (fun x => { x with wd := setFld x.wd k 1 1 }) s))

/-- A watchdog ends a class's pause. -/
def pauseEnded (p k : Nat) (s : State) : State := modPort p (fun x => { x with pause := tset x.pause k 0 }) s

theorem exec_pfcWatchdog (hcfg : fld (rd Reg.macPfcWd p s) 0 16 ≠ 0) (hpause : tget (getPort p s).pause k ≠ 0)
    (hwd : bitAt (getPort p s).wd k = false) : exec (.pfcWatchdog p k) s = .next
      (let action := fld (rd Reg.macPfcWd p s) 16 2
       let t := if action = 0 then watchdogFlagged p k s else pauseEnded p k (watchdogFlagged p k s)
       if action = 2 then (heldQueues p k t).foldl (fun a q =>
         modQ q (fun y => { y with blocks := [], readPos := y.appended, spilling := false, began := false, runPeak := 0 })
           (countPort p 52 (getQ q a).pkts.length ((getQ q a).pkts.foldl (fun b i => dropQueued i q 17 b) a))) t
       else t) :=
  (within_of (by simp [hp, hk]) _).trans (congrArg Host.Outcome.next (if_neg (by simp [hcfg, hpause, hwd])))

theorem exec_watchdogRestore (hwd : bitAt (getPort p s).wd k = true) : exec (.watchdogRestore p k) s =
    .next (post 0x9013 (le2 p ++ [byte k, 0]) (modPort p (fun x => { x with wd := setFld x.wd k 1 0 }) s)) :=
  (within_of (by simp [hp, hk]) _).trans (congrArg Host.Outcome.next (if_pos hwd))

end

theorem fcWaits_of {x : Port} (hw : x.sendOn ≠ 0 ∨ x.sendOff ≠ 0) (hm : x.fcMode ≠ 0) : fcWaits x = true := by
  simp [fcWaits, hw, hm]

theorem portWdRestoreCmd_okay {c : Cmd} {s : State} (hp : c.op 0 2 < 1024) (hlen : c.len = 0) (hw : portWidth (c.op 0 2) s ≠ 0) :
    portWdRestoreCmd c s = okay ((List.range 8).foldl (fun s k => if bitAt (c.op 2 1) k then wdRestore (c.op 0 2) k s else s) s) := by
  rw [portWdRestoreCmd]
  rw [if_neg (by omega), if_neg hw]

/-- Settles O24: each row by its equation. -/
theorem flowControl : Obligations.FlowControl := by
  unfold Obligations.FlowControl
  intro p k time en times c s hp hk x sent
  refine ⟨fun h => ⟨?_, ?_, ?_, ?_⟩, within_of (by simp [hp, hk]) _, fun ht hs hw => ⟨fun hm => ?_, fun hm => ?_⟩, exec_pfcRefresh hp hk,
    fun hcfg hpause hwd => ?_, exec_watchdogRestore hp hk, fun h hq hlen hw => ?_⟩
  · exact (exec_pfcFrameReceive hp h).trans rfl
  · exact (exec_pauseFrameReceive hp h).trans rfl
  · exact (exec_pfcFrameReceive hp h).trans rfl
  · exact (exec_pauseFrameReceive hp h).trans rfl
  · rw [exec_pfcFrameSend hp ht hs (fcWaits_of hw (ne_of_eq_of_ne hm (by decide))), if_pos hm]
  · rw [exec_pfcFrameSend hp ht hs (fcWaits_of hw (ne_of_eq_of_ne hm (by decide))), if_neg (ne_of_eq_of_ne hm (by decide))]
  · intro t z
    have hdog := exec_pfcWatchdog hp hk hcfg hpause hwd
    refine ⟨fun h => ?_, fun h => ?_, fun h => ?_⟩
    · rw [hdog, h]
      rfl
    · rw [hdog, h]
      rfl
    · rw [hdog, h]
      rfl
  · exact congrArg Host.Outcome.next (runCmd_okay h hlen (portWdRestoreCmd_okay hq hlen hw))

/-! ### Frames (R109 to R111, R568) -/

section
variable {p : Nat} {f : List Byte} {cw : List Nat} {full : Bool} {s : State} (hp : p < 1024) (ht : frameTaken p s = true)
include hp ht

theorem exec_frameReceive_bad {k : Nat} (h : macCheck p f cw s = some k) : exec (.frameReceive p f cw full) s = .next (countPort p k 1 s) := by
  refine (within_of (decide_eq_true hp) _).trans (congrArg Host.Outcome.next ((if_neg (by simp [ht])).trans ?_))
  rw [h]

theorem exec_frameReceive_good (h : macCheck p f cw s = none) : exec (.frameReceive p f cw full) s = .next
    (if beAt f 12 2 = 0x8808 then macControl p f s
     else
       let t := countGood p f.length (f.take 6) s
       if !t.sys.mode.forwards then t
       else if full ∧ domStep (panelDom (pipeOfPort p t / 4)) t < 7 then throttleDrop (pipeOfPort p t) t
       else (newPkt { tag := rxTag p t, pipe := pipeOfPort p t, frame := f.take (f.length - 4), rxTotal := timeOf (pktTb t) t } t).2) := by
  refine (within_of (decide_eq_true hp) _).trans (congrArg Host.Outcome.next ((if_neg (by simp [ht])).trans ?_))
  rw [h]

end

theorem domStep_countGood (d p len : Nat) (dst : List Byte) (s : State) : domStep d (countGood p len dst s) = domStep d s := by
  have hpwr : (countGood p len dst s).pwr = s.pwr := (fr_countGood ..).pwr.resolve_left (by decide)
  have hcol : (countGood p len dst s).col = s.col := (fr_countGood ..).col.resolve_left (by decide)
  simp only [domStep, getCluster, getDom, hpwr, hcol]

/-- The new packet is found under its number. -/
theorem getPkt_newPkt (x : Pkt) (s : State) : getPkt s.pip.nextId (newPkt x s).2 = { x with live := true } := by
  rw [newPkt, getPkt]
  dsimp only
  exact tget_tset_self s.pip.pkts _ _

theorem holdersOf_of_pip {s t : State} (h : t.pip = s.pip) (i : Nat) : holdersOf i t = holdersOf i s := by
  rw [holdersOf, h, holdersOf]

/-- An arriving frame ends: it is counted, and what holds it takes its bytes. -/
theorem exec_frameEnd {i : Nat} {rest : List Byte} {cw : List Nat} {s : State} (hl : (tget s.pip.arriving i).live = true) :
    exec (.frameEnd i rest cw) s = .next
      (let a := tget s.pip.arriving i
       let all := a.bytes ++ rest
       let bad := macCheck a.port all cw s
       let v := setArriving i {} s
       let u := match bad with
         | none => countGood a.port all.length (all.take 6) v
         | some c => countPort a.port c 1 v
       (holdersOf i u).foldl (fun t j => frameRest (if bad = some 17 then all.take (getPort a.port u).maxFrame else all) bad j t) u) :=
  congrArg Host.Outcome.next (if_neg (by simp [hl]))

/-- Settles O25: a frame by what the MAC's checks and its pipe make of it, and the rows of sleep by their equations. -/
theorem framesAndSleep : Obligations.FramesAndSleep := by
  unfold Obligations.FramesAndSleep
  intro p i f rest cw full s hp
  refine ⟨fun ht => ⟨fun k h => exec_frameReceive_bad hp ht h, fun h hc => ?_, fun h hc hf => ?_⟩, fun hl => ?_, fun hst hsl hse => ?_, fun hw => ?_⟩
  · rw [exec_frameReceive_good hp ht h, if_pos hc]
  · have hmode : (countGood p f.length (f.take 6) s).sys.mode = s.sys.mode := (fr_countGood ..).mode_eq rfl
    have hpip : (countGood p f.length (f.take 6) s).pip = s.pip := (fr_countGood ..).pip.resolve_left (by decide)
    have hpipe : pipeOfPort p (countGood p f.length (f.take 6) s) = pipeOfPort p s := (stand_countGood ..).pipeOfPort p
    have hgood := exec_frameReceive_good (full := full) hp ht h
    rw [if_neg hc] at hgood
    simp only [hmode, hf, hpipe, domStep_countGood, Bool.not_true, Bool.false_eq_true, if_false] at hgood
    refine ⟨fun hroom => ?_, fun hfull hstep => ?_⟩
    · rw [if_neg] at hgood
      · refine ⟨_, hgood, ?_⟩
        rw [← hpip, getPkt_newPkt]
        exact ⟨rfl, rfl, rfl, rfl⟩
      · rintro ⟨hfull, hstep⟩
        rcases hroom with hroom | hroom
        · rw [hroom] at hfull
          cases hfull
        · omega
    · rw [hgood, if_pos ⟨hfull, hstep⟩]
  · intro a all v
    refine ⟨fun h => ?_, fun k h => ?_⟩
    · have hpip : (countGood a.port all.length (all.take 6) v).pip = v.pip := (fr_countGood ..).pip.resolve_left (by decide)
      have hnone : macCheck (tget s.pip.arriving i).port ((tget s.pip.arriving i).bytes ++ rest) cw s = none := h
      rw [exec_frameEnd hl]
      simp only [hnone]
      rw [holdersOf_of_pip hpip]
      rfl
    · have hpip : (countPort a.port k 1 v).pip = v.pip := (fr_countPort ..).pip.resolve_left (by decide)
      have hmac : getPort a.port (countPort a.port k 1 v) = getPort a.port s := (fr_countPort ..).getPort rfl _
      have hsome : macCheck (tget s.pip.arriving i).port ((tget s.pip.arriving i).bytes ++ rest) cw s = some k := h
      rw [exec_frameEnd hl]
      simp only [hsome, Option.some.injEq]
      rw [holdersOf_of_pip hpip, hmac]
  · exact (within_of (decide_eq_true hp) _).trans (congrArg Host.Outcome.next (if_pos ⟨hst, hsl, hse⟩))
  · exact (within_of (decide_eq_true hp) _).trans (congrArg Host.Outcome.next (if_pos hw))

end Sys2Proof.Machine
end

section
/-! PROOFS. Slot alignment and calendar switches (5.3 to 5.5). -/
namespace Sys2Proof.Machine

/-- A row with an index in range answers what its body gives. -/
theorem within_eq {b : Bool} (h : b = true) {t u : State} (htu : t = u) : within b t = .next u := by rw [within_of h, htu]

/-- A command answers what its body gives. -/
theorem next_done {op : Nat} {c : Cmd} {s t : State} {r : CmdRes} {body : Cmd → State → State × CmdEnd} (h : ready op c s = true)
    (hb : body c (started c s) = (t, .done r)) : (.next (runCmd op c.ref body s) : Res) = .next (conclude c r (cmdDoms c s) t) :=
  congrArg Host.Outcome.next (runCmd_done h hb)

/-! ### Alignment (5.3) -/

section
variable {g i block : Nat} {s : State} (hg : g < 32)
include hg

theorem exec_frameStartPattern (h : instSearches g i s = true) : exec (.frameStartPattern g i block) s = .next
    (if ((getInst g i s).sight block).2 then
      modGrp g (fun x => { x with ignored := sat 32 (x.ignored + 1) }) (setInst g i ((getInst g i s).sight block).1 s)
    else setInst g i ((getInst g i s).sight block).1 s) :=
  within_eq (decide_eq_true hg) (if_neg (by simp [h]))

variable (hl : instLive g i s = true) (hf : (getInst g i s).frameLock = true)
include hl hf

theorem exec_overheadPosition (pattern : Bool) (hb : block = (getInst g i s).pos + overheadPeriod) :
    exec (.overheadPosition g i block pattern) s = .next
      (if pattern then setInst g i { getInst g i s with pos := block, misses := 0 } s
      else if (getInst g i s).misses + 1 < 3 then setInst g i { getInst g i s with pos := block, misses := (getInst g i s).misses + 1 } s
      else instLost g (setInst g i {} s)) :=
  within_eq (decide_eq_true hg) (((if_neg (by simp [hl])).trans (if_neg (by simp [hf]))).trans (if_neg (not_not.mpr hb)))

/-- Whether a transition of the OMF bit is due at a receiver's present position (R156). -/
def omfDue (x : Inst) : Bool :=
  match x.omfPos with
  | none => false
  | some p => decide (x.pos = p + 16 * overheadPeriod)

theorem exec_multiframeLock (omf : Bool) :
    let x := getInst g i s
    let y := { x with omf := some omf }
    exec (.multiframeLock g i omf) s = .next
      (if x.mfLock then
        if omfDue x then
          (if decide (x.omf = some (!omf)) then setInst g i { y with omfBad := 0, omfPos := some x.pos } s
          else omfMiss g i { y with omfPos := some x.pos } s)
        else if decide (x.omf = some (!omf)) then omfMiss g i y s
        else setInst g i y s
      else if !decide (x.omf = some (!omf)) then setInst g i y s
      else if omfDue x then grpTryUp g (setInst g i { y with mfLock := true, omfBad := 0, omfPos := some x.pos } s)
      else setInst g i { y with omfPos := some x.pos } s) :=
  within_eq (decide_eq_true hg) (if_neg (by simp [hl, hf]))

theorem exec_overheadFrame_of_bad {oh : Overhead} (h : oh.crcOk = false) : exec (.overheadFrame g i oh) s = .next
    (setAlarm g 6 0xFF true (modGrp g (fun x => { x with sec := { x.sec with crc := x.sec.crc + 1 } }) s)) :=
  within_eq (decide_eq_true hg) ((if_neg (by simp [hl, hf])).trans (if_pos (by simp [h])))

end

theorem omfDue_of_pos {x : Inst} {p : Nat} (h : x.omfPos = some p) : omfDue x = decide (x.pos = p + 16 * overheadPeriod) := by
  rw [omfDue, h]

theorem omfDue_of_none {x : Inst} (h : x.omfPos = none) : omfDue x = false := by
  rw [omfDue, h]

/-- No transition is due unless one was noted 16 overhead periods before. -/
theorem omfDue_of_forall {x : Inst} (h : ∀ p, x.omfPos = some p → x.pos ≠ p + 16 * overheadPeriod) : omfDue x = false := by
  cases hp : x.omfPos with
  | none => exact omfDue_of_none hp
  | some p => rw [omfDue_of_pos hp, decide_eq_false (h p hp)]

/-- Settles O26. -/
theorem slotAlignment : Obligations.SlotAlignment := by
  intro g i block v omf oh s hg x y n
  refine ⟨fun he hv => ?_, fun he hv => ?_, fun hs => ⟨fun h => ?_, fun h => ?_⟩, fun hl hf => ⟨fun hb => ?_, ?_, ?_, ?_, ?_, fun h => ?_⟩⟩
  · exact (within_whenOpen (decide_eq_true hg) he _).trans (congrArg Host.Outcome.next (if_pos hv))
  · exact (within_whenOpen (decide_eq_true hg) he _).trans (congrArg Host.Outcome.next (if_neg (by simp [hv])))
  · rw [exec_frameStartPattern hg hs, if_neg (by simp [x] at h; simp [h])]
  · rw [exec_frameStartPattern hg hs, if_pos h]
    rfl
  · refine ⟨?_, fun hm => ?_, fun hm => ?_⟩
    · rw [exec_overheadPosition hg hl hf true hb, if_pos rfl]
    · rw [exec_overheadPosition hg hl hf false hb, if_neg Bool.false_ne_true, if_pos (Nat.succ_lt_succ hm)]
    · rw [exec_overheadPosition hg hl hf false hb, if_neg Bool.false_ne_true, if_neg (by simp only [x] at hm; omega)]
  · intro ht hor
    have ht' : ¬decide (x.omf = some (!omf)) = true := by simpa using ht
    have hn : (!decide (x.omf = some (!omf))) = true := by simpa using ht
    refine (exec_multiframeLock hg hl hf omf).trans (congrArg Host.Outcome.next ?_)
    by_cases hm : x.mfLock = true
    · have hd : omfDue x = false := omfDue_of_none (hor.resolve_left (by simp [hm]))
      exact ((if_pos hm).trans (if_neg (Bool.eq_false_iff.mp hd))).trans (if_neg ht')
    · exact (if_neg hm).trans (if_pos hn)
  · intro ht hm hp
    have ht' : ¬(!decide (x.omf = some (!omf))) = true := by simpa using ht
    have hd : omfDue x = false := omfDue_of_forall hp
    refine (exec_multiframeLock hg hl hf omf).trans (congrArg Host.Outcome.next ?_)
    exact ((if_neg (Bool.eq_false_iff.mp hm)).trans (if_neg ht')).trans (if_neg (Bool.eq_false_iff.mp hd))
  · intro p ht hp hpos
    have ht' : ¬(!decide (x.omf = some (!omf))) = true := by simpa using ht
    have hd : omfDue x = true := (omfDue_of_pos hp).trans (decide_eq_true hpos)
    refine ⟨fun hm => ?_, fun hm => ?_⟩
    · refine (exec_multiframeLock hg hl hf omf).trans (congrArg Host.Outcome.next ?_)
      exact ((if_neg (Bool.eq_false_iff.mp hm)).trans (if_neg ht')).trans (if_pos hd)
    · refine (exec_multiframeLock hg hl hf omf).trans (congrArg Host.Outcome.next ?_)
      exact ((if_pos hm).trans (if_pos hd)).trans (if_pos (decide_eq_true ht))
  · exact exec_overheadFrame_of_bad hg hl hf
  · exact within_eq (decide_eq_true hg) ((if_neg (by simp [hl, x] at hf ⊢; exact hf)).trans (if_neg (by simp [h])))

/-! ### Calendar switches (R163) -/

section
variable {g : Nat} {ref : CmdRef} {s : State} (hg : g < 32)
include hg

/-- A switch that is in progress: the answer of the far end decides. -/
theorem exec_calendarSwitch_of_some (h : (getGrp g s).switching = some ref) : exec (.calendarSwitch g) s = .next
    (let x := getGrp g s
     let t := timeOf (tsBase s) s
     if bitAt (rd Reg.sltGroupCfg g s) 21 && decide (x.rxCa ≠ x.txCr) then s
     else finishRef ref { payload := le 8 (t / 1000000000) ++ le 4 (t % 1000000000) }
       (applyCals (switched g 0 (1 - x.txCal) (sendOverhead g (setGrp g { x with
          txCal := 1 - x.txCal, txCr := 1 - x.txCal, switching := none } s))))) :=
  within_eq (decide_eq_true hg) (by rw [h])

theorem exec_calendarSwitch_of_none (h : (getGrp g s).switching = none) : exec (.calendarSwitch g) s = .next s :=
  within_eq (decide_eq_true hg) (by rw [h])

end

/-- Settles O27. -/
theorem calendarSwitch : Obligations.CalendarSwitch := by
  intro g ref s hg x neg t
  refine ⟨fun h hor => ?_, fun h hn hc => ⟨?_, ?_⟩, fun h => ⟨exec_calendarSwitch_of_none hg h, ?_⟩, fun hu hc => ?_⟩
  · rw [exec_calendarSwitch_of_some hg h]
    exact congrArg Host.Outcome.next (if_neg (by
      intro hb
      obtain ⟨hneg, hne⟩ := Bool.and_eq_true_iff.mp hb
      have hne' : x.rxCa ≠ x.txCr := of_decide_eq_true hne
      exact hor.elim (fun hf => absurd (hf.symm.trans hneg) Bool.false_ne_true) hne'))
  · rw [exec_calendarSwitch_of_some hg h]
    exact congrArg Host.Outcome.next (if_pos (Bool.and_eq_true_iff.mpr ⟨hn, decide_eq_true (p := x.rxCa ≠ x.txCr) hc⟩))
  · exact within_eq (decide_eq_true hg) (if_pos ⟨Option.isSome_iff_exists.mpr ⟨ref, h⟩, hn, hc⟩)
  · exact within_eq (decide_eq_true hg) (if_neg fun hx => by
      have := hx.1
      rw [show (getGrp g s).switching = none from h] at this
      exact Bool.false_ne_true this)
  · exact within_eq (decide_eq_true hg) (if_pos ⟨hu, hc⟩)

end Sys2Proof.Machine
end

section
/-! PROOFS. The commands of the slotted layer and its performance bins (5.6, Table 5.8). -/
namespace Sys2Proof.Machine

section
variable {c : Cmd} {bs : List Byte} {s : State}

/-- The members that SLOT_GROUP_MEMBERS names. -/
def namedMembers (c : Cmd) (bs : List Byte) : List (Nat × Nat) :=
  (List.range (c.op 1 1)).map fun i => (leAt (fit c.len bs) (4 * i) 2, byteAt (fit c.len bs) (4 * i + 2))

/-- The ports of the other groups. -/
def otherMembers (g : Nat) (s : State) : List Nat :=
  (s.slt.groups.filter fun e => decide (e.1 ≠ g)).flatMap fun e => e.2.members.map Prod.fst

theorem slotGroupMembersCmd_okay (hg : c.op 0 1 < 32) (h1 : 1 ≤ c.op 1 1) (h16 : c.op 1 1 ≤ 16) (hlen : c.len = 4 * c.op 1 1)
    (hoff : grpOn (c.op 0 1) s = false)
    (hm : ∀ m ∈ namedMembers c bs, m.1 < 1024 ∧ 1 ≤ m.2 ∧ m.2 ≤ 254 ∧ (otherMembers (c.op 0 1) s).contains m.1 = false)
    (hp : hasDup ((namedMembers c bs).map Prod.fst) = false) (hn : hasDup ((namedMembers c bs).map Prod.snd) = false) :
    slotGroupMembersCmd c (.data bs) s = okay (modGrp (c.op 0 1) (fun x => { x with members := namedMembers c bs }) s) := by
  have hall : ((namedMembers c bs).any fun m =>
      decide (m.1 ≥ 1024 ∨ m.2 < 1 ∨ m.2 > 254) || (otherMembers (c.op 0 1) s).contains m.1) = false := by
    refine List.any_eq_false.mpr fun m hmem => ?_
    obtain ⟨hlt, hlo, hhi, hfree⟩ := hm m hmem
    rw [hfree, decide_eq_false (by omega)]
    exact Bool.false_ne_true
  rw [slotGroupMembersCmd]
  refine ((if_neg (by omega)).trans (if_neg (Bool.eq_false_iff.mp hoff))).trans (if_neg ?_)
  exact Bool.eq_false_iff.mp (Bool.or_eq_false_iff.mpr ⟨Bool.or_eq_false_iff.mpr ⟨hall, hp⟩, hn⟩)

/-- What SLOT_CLIENT_SET makes of a client. -/
def namedClient (c : Cmd) : SClient :=
  if c.op 2 1 = 0 then {}
  else { kind := c.op 2 1, group := c.op 1 1, wire := c.op 4 2, port := if c.op 2 1 = 1 then c.op 6 2 else 0 }

theorem slotClientSetCmd_okay (hg : c.op 1 1 < 32) (hk : c.op 2 1 ≤ 2) (hlen : c.len = 0)
    (hwire : c.op 2 1 ≠ 0 → c.op 4 2 ≠ 0 ∧ c.op 4 2 ≠ 0xFFFF ∧
      ((s.slt.clients.filter fun e => decide (e.1 ≠ c.op 0 1) && decide (e.2.kind ≠ 0) && decide (e.2.group = c.op 1 1)).any
        fun e => e.2.wire == c.op 4 2) = false)
    (hport : c.op 2 1 = 1 → ((getGrp (c.op 1 1) s).members.all fun m => m.1 != c.op 6 2) = false ∧
      (s.slt.clients.any fun e => e.1 != c.op 0 1 && e.2.kind == 1 && e.2.port == c.op 6 2) = false)
    (hsw : (getGrp (c.op 1 1) s).switching = none) (huse : clientInUse (c.op 0 1) s = false) :
    slotClientSetCmd c s = okay (applyCals (setClient (c.op 0 1) (namedClient c) (clientTo (c.op 0 1) false s))) := by
  have hbusy : ¬((getGrp (c.op 1 1) s).switching.isSome ∨ clientInUse (c.op 0 1) s) := by simp [hsw, huse]
  rw [slotClientSetCmd]
  refine (((if_neg (by omega)).trans (if_neg ?_)).trans (if_neg ?_)).trans (if_neg hbusy)
  · rintro ⟨hne, h0 | hf | hany⟩
    · exact (hwire hne).1 h0
    · exact (hwire hne).2.1 hf
    · exact Bool.eq_false_iff.mp (hwire hne).2.2 hany
  · rintro ⟨h1, hall | hany⟩
    · exact Bool.eq_false_iff.mp (hport h1).1 hall
    · exact Bool.eq_false_iff.mp (hport h1).2 hany

theorem slotCmWriteCmd_okay (hg : c.op 0 1 < 32) (h1 : 1 ≤ c.op 4 2) (hn : c.op 4 2 ≤ 320) (hlen : c.len = 4 * c.op 4 2)
    (hin : c.op 2 2 + c.op 4 2 ≤ grpSlots (c.op 0 1) s) (hend : slotBase (c.op 0 1) s + c.op 2 2 + c.op 4 2 ≤ 2560)
    (hsw : (getGrp (c.op 0 1) s).switching = none)
    (hes : ((List.range (c.op 4 2)).map fun i => leAt (fit c.len bs) (4 * i) 4).all cmEntryOk = true) :
    let es := (List.range (c.op 4 2)).map fun i => leAt (fit c.len bs) (4 * i) 4
    let at0 := (1 - (getGrp (c.op 0 1) s).txCal) * 2560 + slotBase (c.op 0 1) s + c.op 2 2
    let t := (List.range (c.op 4 2)).foldl (fun t i => clearUpset memCm (at0 + i) t) s
    slotCmWriteCmd c (.data bs) s = okay (sendOverhead (c.op 0 1) { t with slt := { t.slt with
      cm := (List.range (c.op 4 2)).foldl (fun m i => tset m (at0 + i) (es.getD i 0 % 2 ^ 26)) t.slt.cm } }) := by
  intro es at0 t
  rw [slotCmWriteCmd]
  exact ((if_neg (by omega)).trans (if_neg (by simp [hsw]))).trans (if_neg (by rw [hes]; exact Bool.false_ne_true))

section
variable (hg : c.op 0 1 < 32) (hlen : c.len = 0) (hup : (getGrp (c.op 0 1) s).st = .up) (hsw : (getGrp (c.op 0 1) s).switching = none)
include hg hlen hup hsw

theorem slotCalSwitchCmd_of_good (h : firstBadSlot (c.op 0 1) (pageRange (c.op 0 1) (1 - (getGrp (c.op 0 1) s).txCal) s) s = none) :
    slotCalSwitchCmd c s =
      (let x := getGrp (c.op 0 1) s
       sendOverhead (c.op 0 1) (setGrp (c.op 0 1) { x with
        switching := some c.ref, txCr := if bitAt (rd Reg.sltGroupCfg (c.op 0 1) s) 21 then 1 - x.txCal else x.txCr } s), .later) := by
  rw [slotCalSwitchCmd]
  dsimp only
  rw [if_neg (by simp [hlen, hup]; omega), if_neg (by simp [hsw]), h]

theorem slotCalSwitchCmd_of_bad {i : Nat}
    (h : firstBadSlot (c.op 0 1) (pageRange (c.op 0 1) (1 - (getGrp (c.op 0 1) s).txCal) s) s = some i) :
    slotCalSwitchCmd c s = (s, .done { status := CM_INCONSISTENT, payload := le 2 i }) := by
  rw [slotCalSwitchCmd]
  dsimp only
  rw [if_neg (by simp [hlen, hup]; omega), if_neg (by simp [hsw]), h]

end

/-- The bin that SLOT_PM_READ names. -/
def namedBin (k : Nat) (s : State) : Option PmBin :=
  if k = 0 then some (freezeBin s.slt.bin15 s) else if k ≤ 32 then s.slt.prev15[k - 1]?
  else if k = 33 then some (freezeBin s.slt.binDay s) else s.slt.prevDay[0]?

theorem slotPmReadCmd_of_some {d : PmBin} (hk : c.op 0 1 ≤ 34) (hlen : c.len = 10304) (hb : namedBin (c.op 0 1) s = some d) :
    slotPmReadCmd c s = okayData (pmBytes (c.op 0 1) (some d) (binLost (decide (33 ≤ c.op 0 1)) d s))
      (if binLost (decide (33 ≤ c.op 0 1)) d s then report 53 14 (c.op 0 1) [byte (c.op 0 1)] s else s) := by
  unfold namedBin at hb
  rw [slotPmReadCmd]
  dsimp only
  rw [if_neg (by omega), hb]

theorem slotPmReadCmd_of_none (hk : c.op 0 1 ≤ 34) (hlen : c.len = 10304) (hb : namedBin (c.op 0 1) s = none) :
    slotPmReadCmd c s = okayData (pmBytes (c.op 0 1) none false) s := by
  unfold namedBin at hb
  rw [slotPmReadCmd]
  dsimp only
  rw [if_neg (by omega), hb]
  rfl

theorem slotGroupReadCmd_okay (hg : c.op 0 1 < 32) (hlen : c.len = 64 + 8 * grpSlots (c.op 0 1) s) :
    slotGroupReadCmd c s = okayData (groupBytes (c.op 0 1) s) s := by
  rw [slotGroupReadCmd]
  exact if_neg (by omega)

end

/-! ### A second of the bins' time base (R165) -/

/-- The running 15-minute bin keeps its length. -/
structure KeepsBin (s t : State) : Prop where
  running : t.slt.bin15.running = s.slt.bin15.running
  seconds : t.slt.bin15.seconds = s.slt.bin15.seconds

namespace KeepsBin

theorem refl (s : State) : KeepsBin s s := ⟨rfl, rfl⟩

theorem trans {s t u : State} (h : KeepsBin s t) (h' : KeepsBin t u) : KeepsBin s u :=
  ⟨h'.running.trans h.running, h'.seconds.trans h.seconds⟩

theorem of_slt {s t : State} (h : t.slt = s.slt) : KeepsBin s t := ⟨by rw [h], by rw [h]⟩

theorem foldl {α : Type} {f : State → α → State} (h : ∀ s a, KeepsBin s (f s a)) (l : List α) (s : State) : KeepsBin s (l.foldl f s) := by
  induction l generalizing s with
  | nil => exact refl s
  | cons a l ih => exact (h s a).trans (ih _)

theorem countBins {f : PmBin → PmBin} (hr : ∀ b, (f b).running = b.running) (hs : ∀ b, (f b).seconds = b.seconds) (s : State) :
    KeepsBin s (countBins f s) := by
  constructor <;> rw [Machine.countBins] <;> dsimp only <;> split
  · exact hr _
  · rfl
  · exact hs _
  · rfl

theorem setGrp (g : Nat) (x : Group) (s : State) : KeepsBin s (setGrp g x s) := ⟨rfl, rfl⟩

theorem setClient (k : Nat) (x : SClient) (s : State) : KeepsBin s (setClient k x s) := ⟨rfl, rfl⟩

theorem setAlarm (g bit k : Nat) (on : Bool) (s : State) : KeepsBin s (setAlarm g bit k on s) := by
  rw [Machine.setAlarm]
  split
  · exact refl s
  · exact trans (setGrp g _ s) (of_slt ((fr_post ..).slt.resolve_left (by decide)))

theorem setAlarm_ite (p : Prop) [Decidable p] (g bit k : Nat) (on : Bool) (s : State) :
    KeepsBin s (if p then Machine.setAlarm g bit k on s else s) := by
  split
  · exact setAlarm ..
  · exact refl s

end KeepsBin

theorem keepsBin_groupSecond (g : Nat) (s : State) : KeepsBin s (groupSecond g s) := by
  rw [groupSecond]
  split
  · split
    · exact .setAlarm ..
    · exact .refl s
  · dsimp only
    refine .trans (.trans ?_ (.setGrp g _ _)) (.setAlarm_ite ..)
    apply KeepsBin.countBins <;> intro <;> rfl

theorem keepsBin_clientSecond (k : Nat) (n : PmClient) (s : State) : KeepsBin s (clientSecond k n s) := by
  rw [clientSecond]
  split
  · exact .refl s
  · refine .trans ?_ (.setClient k _ _)
    apply KeepsBin.countBins <;> intro <;> rfl

/-- What a second of a running time base does to the bins after it has been added to them. -/
def classSecond (counts : PmCounts) (s : State) : State :=
  (List.range 256).foldl (fun s k => clientSecond k ((counts.find? fun n => n.client == k).getD {}) s)
    ((List.range 32).foldl (fun s g => groupSecond g s) s)

theorem keepsBin_classSecond (counts : PmCounts) (s : State) : KeepsBin s (classSecond counts s) :=
  .trans (.foldl (fun s g => keepsBin_groupSecond g s) _ s) (.foldl (fun s k => keepsBin_clientSecond k _ s) _ _)

theorem exec_pmSecond (counts : PmCounts) {s : State} (h : sltOn s = true) (ht : tbRuns (pmTb s) s = true) :
    exec (.pmSecond counts) s = .next (classSecond counts (countBins (fun b => { b with seconds := sat 32 (b.seconds + 1) }) s)) := by
  refine congrArg Host.Outcome.next ((if_neg (by simp [h])).trans ?_)
  rw [if_pos ht]
  rfl

theorem countBins_seconds {s : State} (h : s.slt.bin15.running = true) :
    (countBins (fun b => { b with seconds := sat 32 (b.seconds + 1) }) s).slt.bin15.seconds = min (s.slt.bin15.seconds + 1) (2 ^ 32 - 1) := by
  rw [countBins]
  dsimp only
  rw [if_pos h, sat]

/-- Settles O28. -/
theorem slotCommands : Obligations.SlotCommands := by
  intro c bs counts s u g n ms others
  refine ⟨fun h hg h1 h16 hlen hoff hm hp hn => ?_, fun h hn hlen hsw huse => ⟨fun hk => ?_, fun hk h0 hf hw hport => ?_⟩, ?_, ?_, ?_,
    fun h hg hlen => ?_, fun h ht => ⟨_, exec_pmSecond counts h ht, fun hr => ?_⟩, fun ht => ⟨fun hr => ?_, fun hr => ?_, fun hr => ?_, fun hr => ?_⟩⟩
  · exact next_done h (slotGroupMembersCmd_okay hg h1 h16 hlen hoff hm hp hn)
  · have hb := slotClientSetCmd_okay (c := c) (s := u) hn (by omega) hlen (fun h => absurd hk h) (fun h => by omega) hsw huse
    rw [namedClient, if_pos hk] at hb
    exact congrArg Host.Outcome.next (runCmd_okay h hlen hb)
  · have hwire : ((s.slt.clients.filter fun e => decide (e.1 ≠ g) && decide (e.2.kind ≠ 0) && decide (e.2.group = n)).any
        fun e => e.2.wire == c.op 4 2) = false := by rw [List.any_eq_not_all_not]; exact congrArg (! ·) hw
    have hfree : c.op 2 1 = 1 → (s.slt.clients.any fun e => e.1 != g && e.2.kind == 1 && e.2.port == c.op 6 2) = false := by
      intro h1
      rw [List.any_eq_not_all_not]
      simpa [bne, Bool.or_assoc] using (hport h1).2
    have hb := slotClientSetCmd_okay (c := c) (s := u) hn (by omega) hlen
      (fun _ => ⟨h0, hf, hwire⟩) (fun h1 => ⟨by simpa [u] using (hport h1).1, hfree h1⟩) hsw huse
    rw [namedClient, if_neg (by omega)] at hb
    exact congrArg Host.Outcome.next (runCmd_okay h hlen hb)
  · intro first k es at0 t h hg h1 hk hlen hin hend hsw hes
    exact next_done h (slotCmWriteCmd_okay (s := u) hg h1 hk hlen hin hend hsw hes)
  · intro x h hg hlen hup hsw
    refine ⟨fun hb => ?_, fun i hb => ?_⟩
    · exact congrArg Host.Outcome.next (runCmd_later h (slotCalSwitchCmd_of_good (s := u) hg hlen hup hsw hb))
    · have hd := runCmd_done h (slotCalSwitchCmd_of_bad (s := u) hg hlen hup hsw hb)
      rw [conclude_of_len hlen] at hd
      exact congrArg Host.Outcome.next hd
  · intro b h hk hlen
    refine ⟨fun d hb hl => ?_, fun hl => ?_⟩
    · have hl' : binLost (decide (33 ≤ c.op 0 1)) d u = true := hl
      have hbody := slotPmReadCmd_of_some (s := u) hk hlen hb
      rw [hl', if_pos rfl] at hbody
      rw [hb]
      exact next_done h hbody
    · cases hb : b with
      | none => exact next_done h (slotPmReadCmd_of_none (s := u) hk hlen hb)
      | some d =>
        have hl' : binLost (decide (33 ≤ c.op 0 1)) d u = false := hl d hb
        have hbody := slotPmReadCmd_of_some (s := u) hk hlen hb
        rw [hl', if_neg Bool.false_ne_true] at hbody
        exact next_done h hbody
  · exact next_done h (slotGroupReadCmd_okay (s := u) hg hlen)
  · exact (keepsBin_classSecond counts _).seconds.trans (countBins_seconds hr)
  · exact congrArg Host.Outcome.next ((if_neg (by simp [ht])).trans (if_pos hr))
  · exact congrArg Host.Outcome.next ((if_neg (by simp [ht])).trans (if_pos hr))
  · exact congrArg Host.Outcome.next (((if_neg (by simp [ht])).trans (if_neg (Bool.eq_false_iff.mp hr))).trans (if_neg Bool.false_ne_true))
  · exact congrArg Host.Outcome.next (((if_neg (by simp [ht])).trans (if_neg (Bool.eq_false_iff.mp hr))).trans (if_pos rfl))

end Sys2Proof.Machine
end

section
/-! PROOFS. Parse threads and parse microwords (6.2 to 6.5). -/
namespace Sys2Proof.Machine

/-- A report in front of which an upset ends leaves the pipes and the other upsets' owners alone. -/
theorem pip_report (code k n : Nat) (d : List Byte) (s : State) : (report code k n d s).pip = s.pip :=
  (fr_report ..).pip.resolve_left (by decide)

theorem upset_report (code k n : Nat) (d : List Byte) (s : State) : (report code k n d s).upset = s.upset :=
  (fr_report ..).upset.resolve_left (by decide)

theorem pip_clearUpset (m k : Nat) (s : State) : (clearUpset m k s).pip = s.pip := (fr_clearUpset ..).pip.resolve_left (by decide)

theorem upsetOf_of_upset {s t : State} (h : t.upset = s.upset) (m k : Nat) : upsetOf m k t = upsetOf m k s := by
  rw [upsetOf, h, upsetOf]

/-! ### Microwords (R177, R181 to R183) -/

/-- A readable word w of a packet p: the checks of R183 in their order. -/
def issueWord (i : Nat) (p : Pkt) (t : State) (w : Nat) : State :=
  let need := p.cursor + wordExtent w
  if need > 256 ∨ (bitAt w 234 ∧ p.cursor ≥ 255) then endParse i (some 1) p t
  else if need > p.avail then
    if !p.ended then t
    else endParse i (if bitAt w 14 then none else some 0) p t
  else
    let q := runWord w p
    if fld w 12 2 = 2 then endParse i none q t
    else if fld w 12 2 = 3 then endParse i (some 3) q t
    else setPkt i q t

section
variable {i : Nat} {s : State} (hs : atStage i .parsing s = true)

/-- The entry of the parse store's upsets that a packet's next word is struck by. -/
def wordUpset (p : Pkt) (s : State) : Nat := upsetOf memParse (p.pipe * 4096 + p.pc) s

/-- The state in which a readable word issues: a correctable upset is mended with FC065. -/
def wordMended (p : Pkt) (s : State) : State :=
  if wordUpset p s = 1 then report 65 4 p.pipe (le 8 p.pc) (clearUpset memParse (p.pipe * 4096 + p.pc) s) else s

theorem pip_wordMended (p : Pkt) (s : State) : (wordMended p s).pip = s.pip := by
  rw [wordMended]
  split
  · rw [pip_report, pip_clearUpset]
  · rfl

include hs

theorem exec_parseWord_of_steps (h : rdFld Reg.parseCfg 0 0 8 s ≤ (getPkt i s).steps) :
    exec (.parseWord i) s = .next (endParse i (some 2) (getPkt i s) s) :=
  congrArg Host.Outcome.next ((if_neg (by simp [hs])).trans (if_pos h))

variable (hn : (getPkt i s).steps < rdFld Reg.parseCfg 0 0 8 s)
include hn

theorem exec_parseWord_of_struck (h : wordUpset (getPkt i s) s = 2) : exec (.parseWord i) s =
    .next (endParse i (some 4) (getPkt i s) (report 64 4 (getPkt i s).pipe (le 8 (getPkt i s).pc) s)) :=
  congrArg Host.Outcome.next (((if_neg (by simp [hs])).trans (if_neg (Nat.not_le.mpr hn))).trans (if_pos h))

theorem exec_parseWord (h : wordUpset (getPkt i s) s ≠ 2) : exec (.parseWord i) s =
    .next (issueWord i (getPkt i s) (wordMended (getPkt i s) s) (tget s.pip.store (getPkt i s).pc)) := by
  refine congrArg Host.Outcome.next (((if_neg (by simp [hs])).trans (if_neg (Nat.not_le.mpr hn))).trans ((if_neg h).trans ?_))
  rw [← pip_wordMended (getPkt i s) s]
  rfl

end

/-! ### PARSE_READ (R194) -/

theorem upset_reports (pipe : Nat) (l : List Nat) (s : State) :
    (l.foldl (fun t a => report 64 4 pipe (le 8 a) t) s).upset = s.upset := by
  induction l generalizing s with
  | nil => rfl
  | cons a l ih => rw [List.foldl_cons, ih, upset_report]

/-- The end of PARSE_READ after the uncorrectable words are reported: the correctable ones are mended, and the words are read. -/
def parseReadEnd (pipe : Nat) (words bad soft : List Nat) (u : State) : State × CmdEnd :=
  let v := soft.foldl (fun t a => report 65 4 pipe (le 8 a) (clearUpset memParse (pipe * 4096 + a) t)) u
  (v, .done {
    status := if bad = [] then 0 else TARGET_ECC,
    data := words.flatMap fun a => le 32 (tget v.pip.store a ^^^ flipsOf memParse (pipe * 4096 + a) v) })

theorem parseReadCmd_eq {c : Cmd} {s : State} (hp : c.op 0 1 < 16) (h1 : 1 ≤ c.op 4 2) (hn : c.op 4 2 ≤ 4096) (hin : c.op 2 2 + c.op 4 2 ≤ 4096)
    (hlen : c.len = 32 * c.op 4 2) (hf : (getUnit 4 (c.op 0 1) s).state ≠ .fenced) :
    let pipe := c.op 0 1
    let words := (List.range (c.op 4 2)).map (c.op 2 2 + ·)
    let bad := words.filter fun a => upsetOf memParse (pipe * 4096 + a) s == 2
    let soft := words.filter fun a => upsetOf memParse (pipe * 4096 + a) s == 1
    let u := bad.foldl (fun t a => report 64 4 pipe (le 8 a) t) s
    parseReadCmd c s = parseReadEnd pipe words bad soft u := by
  intro pipe words bad soft u
  have hsoft : (words.filter fun a => upsetOf memParse (pipe * 4096 + a) u == 1) = soft :=
    List.filter_congr fun a _ => by rw [upsetOf_of_upset (upset_reports pipe bad s)]
  rw [parseReadCmd]
  exact ((if_neg (by omega)).trans (if_neg hf)).trans (congrArg (parseReadEnd pipe words bad · u) hsoft)

/-- Settles O29. -/
theorem parseThreads : Obligations.ParseThreads := by
  intro i port first c s p w need struck
  refine ⟨fun hs hb => ?_, fun hp ht hf hl hty hb => ?_, fun hs => ⟨fun h => ?_, fun hn h => ?_, ?_⟩, fun hs => ?_, ?_⟩
  · exact congrArg Host.Outcome.next (if_pos ⟨hs, hb⟩)
  · exact within_eq (decide_eq_true hp) (if_neg (by simp [ht, hf, hty]; omega))
  · exact exec_parseWord_of_steps hs h
  · exact exec_parseWord_of_struck hs hn h
  · intro hn h t
    have hrow := exec_parseWord hs hn h
    rw [issueWord] at hrow
    refine ⟨fun hbad => ?_, fun h256 hcur hav => ?_, fun h256 hcur hav => ?_⟩
    · exact hrow.trans (congrArg Host.Outcome.next (if_pos hbad))
    · have hok : ¬(need > 256 ∨ (bitAt w 234 ∧ p.cursor ≥ 255)) := by
        rintro (hlt | ⟨hb, hge⟩)
        · omega
        · exact hcur.elim (fun hf => absurd (hf.symm.trans hb) Bool.false_ne_true) (by omega)
      refine ⟨fun he => ?_, fun he => ?_⟩
      · exact hrow.trans (congrArg Host.Outcome.next (((if_neg hok).trans (if_pos hav)).trans (if_pos (by rw [he]; rfl))))
      · exact hrow.trans (congrArg Host.Outcome.next (((if_neg hok).trans (if_pos hav)).trans (if_neg (by rw [he]; exact Bool.false_ne_true))))
    · have hok : ¬(need > 256 ∨ (bitAt w 234 ∧ p.cursor ≥ 255)) := by
        rintro (hlt | ⟨hb, hge⟩)
        · omega
        · exact hcur.elim (fun hf => absurd (hf.symm.trans hb) Bool.false_ne_true) (by omega)
      have hrun := hrow.trans (congrArg Host.Outcome.next ((if_neg hok).trans (if_neg (Nat.not_lt.mpr hav))))
      refine ⟨fun hk => ?_, fun hk => ?_, fun hk => ?_⟩
      · exact hrun.trans (congrArg Host.Outcome.next (if_pos hk))
      · have h2 : ¬fld w 12 2 = 2 := by omega
        exact hrun.trans (congrArg Host.Outcome.next ((if_neg h2).trans (if_pos hk)))
      · have h2 : ¬fld w 12 2 = 2 := by omega
        have h3 : ¬fld w 12 2 = 3 := by omega
        exact hrun.trans (congrArg Host.Outcome.next ((if_neg h2).trans (if_neg h3)))
  · exact congrArg Host.Outcome.next (if_pos hs)
  · intro pipe words bad soft u v h hp h1 hn hin hlen hf
    exact next_done h (parseReadCmd_eq (s := started c s) hp h1 hn hin hlen hf)

end Sys2Proof.Machine
end

section
/-! PROOFS. Packets from admission to the end of transmission (6.4, 8.3, 9.2, 10.2). -/
namespace Sys2Proof.Machine

section
variable {i port panel total : Nat} {s : State}

section
variable (hp : panel < 4) (hs : atStage i .walking s = true) (hw : (getPkt i s).walked.contains panel = false)
include hp hs hw

theorem exec_replication : exec (.replication panel i) s = .next
    (if (panel :: (getPkt i s).walked).length = 4 then endPkt i (walkGroup panel i s)
    else modPkt i (fun x => { x with walked := panel :: (getPkt i s).walked }) (walkGroup panel i s)) :=
  within_eq (decide_eq_true hp) (if_neg (by simp [hs] at hw ⊢; exact hw))

end

section
variable (hp : port < 1024) (hidle : (getPort port s).sending = none) (hw : portWidth port s ≠ 0) (hf : s.sys.mode.forwards = true)
include hp hidle hw hf

/-- What a dequeue decision does with the queue that it has selected, if any (R300). -/
def dequeueChosen (port : Nat) (v : State) : Option (Nat × Bool) → State
  | none => v
  | some (q, ets) => match (getQ q v).pkts with
    | [] => v
    | k :: _ => lookPort port (dequeue port q k ets v)

theorem exec_dequeueDecision : exec (.dequeueDecision port) s =
    .next (dequeueChosen port (lookPort port (flushPort port s)) (selectQueue port (lookPort port (flushPort port s)))) := by
  refine within_eq (decide_eq_true hp) ?_
  rw [if_neg (by simp [hidle, hw, hf])]
  generalize lookPort port (flushPort port s) = v
  dsimp only
  rcases selectQueue port v with _ | ⟨q, ets⟩
  · rfl
  · rfl

end

theorem dequeueChosen_of_head {v : State} {q k : Nat} {ets : Bool} {rest : List Nat} (h : (getQ q v).pkts = k :: rest) :
    dequeueChosen port v (some (q, ets)) = lookPort port (dequeue port q k ets v) := by
  rw [dequeueChosen, h]

/-- The frame of a packet goes out and is counted in counters 2 and 3. -/
def wireSent (p : Pkt) (s : State) : State :=
  let b := wireFrame p.frame p.stomp
  countPort p.port 3 b.length (countPort p.port 2 1 (emit (.frame p.port b p.stomp) s))

theorem exec_transmitEnd (hs : atStage i .leaving s = true) (he : (getPkt i s).ended = true) : exec (.transmitEnd i) s = .next
    (let p := getPkt i s
     endPkt i (sendOver i p (if macRuns p.port s then (if p.stomp then countPort p.port 19 1 (wireSent p s) else wireSent p s) else s))) :=
  congrArg Host.Outcome.next (if_neg (by simp [hs, he]))

end

/-- Settles O30. -/
theorem packetsLeave : Obligations.PacketsLeave := by
  intro i port panel total more s p a
  refine ⟨fun hs => ?_, fun hl => ?_, fun hl => ?_, fun hp hs hw => ⟨fun hn => ?_, fun hn => ?_⟩, fun hp hidle hw hf => ?_,
    fun hs => ?_, fun hs he => ?_, fun hp => ?_⟩
  · exact congrArg Host.Outcome.next (if_pos hs)
  · exact congrArg Host.Outcome.next (if_neg (by rw [show (tget s.pip.arriving i).live = true from hl]; exact Bool.false_ne_true))
  · exact congrArg Host.Outcome.next (if_pos (by rw [show (tget s.pip.arriving i).live = false from hl]; rfl))
  · refine (exec_replication hp hs hw).trans (congrArg Host.Outcome.next ?_)
    have hne : ¬(panel :: (getPkt i s).walked).length = 4 := by
      simp only [List.length_cons]
      exact fun h => hn (by simp only [p]; omega)
    exact (if_neg hne).trans rfl
  · refine (exec_replication hp hs hw).trans (congrArg Host.Outcome.next ?_)
    have heq : (panel :: (getPkt i s).walked).length = 4 := congrArg (· + 1) hn
    exact if_pos heq
  · intro v
    have hrow := exec_dequeueDecision hp hidle hw hf
    refine ⟨fun hsel => ?_, fun q ets k rest hsel hq => ?_⟩
    · rw [hrow, hsel]
      rfl
    · rw [hrow, hsel, dequeueChosen_of_head hq]
  · exact congrArg Host.Outcome.next (if_pos hs)
  · intro b t
    have hrow := exec_transmitEnd hs he
    have hto {u : State} (hu : (if macRuns p.port s then (if p.stomp then countPort p.port 19 1 (wireSent p s) else wireSent p s) else s) = u) :
        exec (.transmitEnd i) s = .next (endPkt i (sendOver i p u)) := hu ▸ hrow
    refine ⟨fun hm => ?_, fun hm hst => ?_, fun hm hst => ?_⟩
    · exact hto (if_neg (Bool.eq_false_iff.mp hm))
    · exact hto ((if_pos hm).trans (if_neg (Bool.eq_false_iff.mp hst)))
    · exact hto ((if_pos hm).trans (if_pos hst))
  · exact within_of (decide_eq_true hp) _

end Sys2Proof.Machine
end

section
/-! PROOFS. Spill, readback and the buffer commands (9.5 to 9.9), and the scheduler's ticks and commands (chapter 10). -/
namespace Sys2Proof.Machine

/-! ### Spill and readback (R285 to R287) -/

section
variable {q : Nat} {b : RBlock} {r : List RBlock} {s : State} (hq : q < 20480)
include hq

theorem exec_spillAssemblyTimeout (hb : (getQ q s).blocks.getLast? = some b) (hw : b.w < b.n) (hr : b.reading = false) (hl : b.lost = false) :
    exec (.spillAssemblyTimeout q) s =
      .next (settle q (setQ q { getQ q s with blocks := (getQ q s).blocks.dropLast ++ [{ b with w := b.n }] } s)) := by
  refine within_eq (decide_eq_true hq) (congrArg (settle q) (congrArg (setQ q · s) ?_))
  dsimp only
  rw [hb]
  exact if_pos ⟨hw, by rw [hr]; rfl, by rw [hl]; rfl⟩

theorem exec_readbackStart_of_nil (hb : (getQ q (passLost q (getQ q s).blocks.length s)).blocks = []) :
    exec (.readbackStart q) s = .next (closeRun q (passLost q (getQ q s).blocks.length s)) := by
  refine within_eq (decide_eq_true hq) ?_
  dsimp only
  rw [hb]

theorem exec_readbackStart_of_cons (hb : (getQ q (passLost q (getQ q s).blocks.length s)).blocks = b :: r) : exec (.readbackStart q) s = .next
    (let v := passLost q (getQ q s).blocks.length s
     if !readTurn q v then v
     else
       let w := if readReady q v then { v with buf := { v.buf with readLast := q } } else v
       if mayRead q b w then
         settle q (chanUsed (blockChan b.id w) (setQ q { getQ q v with blocks := { b with reading := true } :: r, began := true } w))
       else takeAssembly q w) := by
  refine within_eq (decide_eq_true hq) ?_
  dsimp only
  rw [hb]

/-- What a block's read leaves of its queue's units: those of an unreadable block, or of one with an uncorrectable error, are lost. -/
def unitsRead (q : Nat) (ok : Bool) (b : RBlock) (s : State) : State :=
  let addr := blockAddr b.id s + 256 * (b.start - b.base)
  let hard := (burstsOf addr (256 * b.w)).any fun x => upsetOf memBurst x s == 2
  let v := burlapScan addr (256 * b.w) s
  if ok = true ∧ hard = false ∧ b.lost = false then v
  else loseUnits q { b with n := b.w } (if ok = true ∨ hard = true then v else report 178 9 (blockChan b.id v) (le 8 addr) v)

theorem exec_blockReadDone (ok : Bool) (hb : (getQ q s).blocks = b :: r) (hr : b.reading = true) : exec (.blockReadDone q ok) s = .next
    (closeRun q (runStep q (modQ q (fun x => { x with
      blocks := if b.n = b.w then r else { b with start := b.start + b.w, n := b.n - b.w, w := 0, reading := false } :: r,
      readPos := b.start + b.w }) (unitsRead q ok b s)))) := by
  refine within_eq (decide_eq_true hq) ?_
  dsimp only
  rw [hb]
  dsimp only
  rw [if_neg (by rw [hr]; exact Bool.false_ne_true), unitsRead]
  simp only [Bool.not_eq_true']

end

/-- Settles O31. -/
theorem spillAndBufferCommands : Obligations.SpillAndBufferCommands := by
  intro q c bs h s u
  refine ⟨fun hq b hb hw hr hl => exec_spillAssemblyTimeout hq hb hw hr hl, ?_, ?_, ?_, ?_, ?_, fun hd h1 hn hin hlen => ?_⟩
  · intro v w hq
    refine ⟨exec_readbackStart_of_nil hq, fun b r hb => ⟨fun ht => ?_, fun ht hm => ?_, fun ht hm => ?_⟩⟩
    · exact (exec_readbackStart_of_cons hq hb).trans (congrArg Host.Outcome.next (if_pos (by rw [show readTurn q v = false from ht]; rfl)))
    · exact (exec_readbackStart_of_cons hq hb).trans (congrArg Host.Outcome.next ((if_neg (by
        rw [show readTurn q v = true from ht]; exact Bool.false_ne_true)).trans (if_pos hm)))
    · exact (exec_readbackStart_of_cons hq hb).trans (congrArg Host.Outcome.next ((if_neg (by
        rw [show readTurn q v = true from ht]; exact Bool.false_ne_true)).trans (if_neg (Bool.eq_false_iff.mp hm))))
  · intro ok b r hq hb hr addr hard v t
    have hrow := exec_blockReadDone hq ok hb hr
    refine ⟨fun hn => ?_, fun hn => ?_⟩
    · rw [if_pos hn] at hrow
      exact hrow
    · rw [if_neg hn] at hrow
      exact hrow
  · intro hd h1 hin hlen hf recs
    have hok : ¬(c.op 1 1 < 1 ∨ c.op 1 1 > 64 ∨ c.op 0 1 + c.op 1 1 > 64 ∨ c.len ≠ 16 * c.op 1 1 ∨ (!flagOk c 2) = true) := by
      simp [hf]; omega
    refine ⟨fun hr => ?_, fun hr hall hsp => ?_⟩
    · exact next_done hd ((if_neg hok).trans (if_pos hr))
    · exact next_done hd (((if_neg hok).trans (if_neg (Bool.eq_false_iff.mp hr))).trans
        ((if_neg (by rw [show List.all _ _ = true from hall]; exact Bool.false_ne_true)).trans (if_neg (Bool.eq_false_iff.mp hsp))))
  · intro hd h1 hin hlen hf bytes
    have hok : ¬(c.op 2 2 < 1 ∨ c.op 2 2 > 20480 ∨ c.op 0 2 + c.op 2 2 > 20480 ∨ c.len ≠ c.op 2 2 ∨ (!flagOk c 4) = true) := by
      simp [hf]; omega
    refine ⟨fun hr => ?_, fun hr hall hsp => ?_⟩
    · exact next_done hd ((if_neg hok).trans (if_pos hr))
    · have hsmall : ¬(bytes.any fun b => decide (b.toNat > 63)) = true := by simpa using hall
      exact next_done hd (((if_neg hok).trans (if_neg (Bool.eq_false_iff.mp hr))).trans
        ((if_neg hsmall).trans (if_neg (Bool.eq_false_iff.mp hsp))))
  · intro hd h1 hin hlen hf
    have hok : ¬(c.op 2 2 < 1 ∨ c.op 2 2 > 1024 ∨ c.op 0 2 + c.op 2 2 > 1024 ∨ c.len ≠ 16 * c.op 2 2 ∨ (!flagOk c 4) = true) := by
      simp [hf]; omega
    refine ⟨fun hr => ?_, fun hr => ?_⟩
    · exact next_done hd ((if_neg hok).trans (if_pos hr))
    · exact next_done hd ((if_neg hok).trans (if_neg (Bool.eq_false_iff.mp hr)))
  · exact next_done hd (if_neg (by omega))

/-! ### Ticks, samples and the scheduling commands -/

theorem exec_depthSample {s : State} (h : sampleOn s = true) : exec .depthSample s = .next
    (let d : Tab Nat := s.buf.queues.foldl (fun t e => tset t e.1 (queueDepth e.1 s)) []
     { s with sch := { s.sch with depth := d, taken := s.sch.taken + 1,
                                  win := d.foldl (fun t e => tmod t e.1 fun w => w.depth e.2) s.sch.win } }) :=
  congrArg Host.Outcome.next (if_neg (by simp [h]))

/-- Settles O32. -/
theorem schedulerRows : Obligations.SchedulerRows := by
  intro pn c bs h s u
  refine ⟨fun hp => within_of (decide_eq_true hp) _, fun hp => ?_, fun hp => ?_, fun hs => ⟨_, exec_depthSample hs, rfl, rfl⟩,
    fun hs => congrArg Host.Outcome.next (if_pos hs), ?_, ?_, ?_, fun hd h1 hn hin hlen => ?_⟩
  · exact (within_of (decide_eq_true hp) _).trans rfl
  · exact (within_of (decide_eq_true hp) _).trans rfl
  · intro recs hd h1 hin hlen hf
    have hok : ¬(c.op 2 2 < 1 ∨ c.op 2 2 > 1024 ∨ c.op 0 2 + c.op 2 2 > 1024 ∨ c.len ≠ 32 * c.op 2 2 ∨ (!flagOk c 4) = true) := by
      simp [hf]; omega
    refine ⟨fun hr => ?_, fun hr hall => ?_⟩
    · exact next_done hd ((if_neg hok).trans (if_pos hr))
    · exact next_done hd (((if_neg hok).trans (if_neg (Bool.eq_false_iff.mp hr))).trans
        (if_neg (by rw [show List.all _ _ = true from hall]; exact Bool.false_ne_true)))
  · intro recs hd h1 hn hin hlen hf
    have hok : ¬(c.op 4 4 < 1 ∨ c.op 4 4 > 4096 ∨ c.op 0 4 + c.op 4 4 > 21504 ∨ c.len ≠ 16 * c.op 4 4 ∨ (!flagOk c 8) = true) := by
      simp [hf]; omega
    refine ⟨fun hr => ?_, fun hr hall => ?_⟩
    · exact next_done hd ((if_neg hok).trans (if_pos hr))
    · exact next_done hd (((if_neg hok).trans (if_neg (Bool.eq_false_iff.mp hr))).trans
        (if_neg (by rw [show List.all _ _ = true from hall]; exact Bool.false_ne_true)))
  · intro recs hd h1 hn hin hlen hf
    have hok : ¬(c.op 4 4 < 1 ∨ c.op 4 4 > 4096 ∨ c.op 0 4 + c.op 4 4 > 65536 ∨ c.len ≠ 32 * c.op 4 4 ∨ (!flagOk c 8) = true) := by
      simp [hf]; omega
    refine ⟨fun hr => ?_, fun hr hall => ?_⟩
    · exact next_done hd ((if_neg hok).trans (if_pos hr))
    · exact next_done hd (((if_neg hok).trans (if_neg (Bool.eq_false_iff.mp hr))).trans
        (if_neg (by rw [show List.all _ _ = true from hall]; exact Bool.false_ne_true)))
  · exact next_done hd (if_neg (by omega))

end Sys2Proof.Machine
end

section
/-! PROOFS. The lookup tables: exact match, prefixes and TCAM (7.4 to 7.7). -/
namespace Sys2Proof.Machine

section
variable {c : Cmd} {bs : List Byte} {s : State}

/-- A table command answers what its body gives, with the objects that it names held from the sweep. -/
theorem next_table {op : Nat} {t : State} {r : CmdRes} {body : Cmd → State → State × CmdEnd} (h : ready op c s = true)
    (hb : body c (started c s) = (t, .done r)) : (.next (runCmd op c.ref (tableCmd body) s) : Res) =
      .next (conclude c r (cmdDoms c s) (touch (cmdObjs c (started c s)) t)) :=
  next_done h (by rw [tableCmd, hb])

/-! ### Exact match (R206, R220, R238) -/

/-- The answer of EM_INSERT of an absent key by the place that it finds. -/
def placedAnswer (v : State) : Option (Nat × Nat × State) → State × CmdEnd
  | none => fail TABLE_FULL { v with tbl := { v.tbl with insertFails := sat 32 (v.tbl.insertFails + 1) } }
  | some (i, moves, t) => okayWith ([byte (emBank i), 0] ++ le 2 (emBucket i) ++ [byte (emSlot i), byte moves]) t

section
variable {e : EmEntry} (he : emOfBytes (slice c.ops 0 32) = e) (ht : e.typ ≤ 63) (hv : bitAt (byteAt (slice c.ops 0 32) 23) 0 = true)
  (hb : byteAt (slice c.ops 0 32) 23 ≤ 15) (hlen : c.len = 0) (hd : typeDefined e.typ s = true)
  (hz : allZero (e.key.drop (keyBytes e.typ s)) = true) (hm : c.op 32 1 ≤ 1)
include he ht hv hb hlen hd hz hm

/-- EM_INSERT of a well-formed entry, whose probed slots have met their upsets. -/
theorem emInsertCmd_of_absent (h : emFind e.key e.typ (emMeet e.key e.typ s) = none) : emInsertCmd c s =
    placedAnswer (emMeet e.key e.typ s) (emPlace e (emMeet e.key e.typ s)) := by
  subst he
  rw [emInsertCmd]
  dsimp only
  rw [if_neg (by simp [hv, hlen]; omega), if_neg (by simp [hd]), if_neg (by simp [hz]), h]
  cases emPlace _ (emMeet (emOfBytes (slice c.ops 0 32)).key (emOfBytes (slice c.ops 0 32)).typ s) with
  | none => rfl
  | some r => rfl

theorem emInsertCmd_of_present {i : Nat} (h : emFind e.key e.typ (emMeet e.key e.typ s) = some i) : emInsertCmd c s =
    (let v := emMeet e.key e.typ s
     if c.op 32 1 = 0 then fail EXISTS v
     else okayWith ([byte (emBank i), 0] ++ le 2 (emBucket i) ++ [byte (emSlot i), 0])
       (setEm i { e with hit := (getEm i v).hit, pendingAge := (getEm i v).pendingAge } v)) := by
  subst he
  rw [emInsertCmd]
  dsimp only
  rw [if_neg (by simp [hv, hlen]; omega), if_neg (by simp [hd]), if_neg (by simp [hz]), h]

end

section
variable (ht : c.op 22 1 ≤ 63) (hlen : c.len = 0) (hd : typeDefined (c.op 22 1) s = true)
include ht hlen hd

theorem emDeleteCmd_of_absent (hm : c.op 23 1 ≤ 1)
    (h : emFind (slice c.ops 0 22) (c.op 22 1) (emMeet (slice c.ops 0 22) (c.op 22 1) s) = none) :
    emDeleteCmd c s = fail NOT_FOUND (emMeet (slice c.ops 0 22) (c.op 22 1) s) := by
  rw [emDeleteCmd]
  dsimp only
  rw [if_neg (by omega), if_neg (by simp [hd]), h]

theorem emDeleteCmd_of_present {i : Nat} (hm : c.op 23 1 ≤ 1)
    (h : emFind (slice c.ops 0 22) (c.op 22 1) (emMeet (slice c.ops 0 22) (c.op 22 1) s) = some i) : emDeleteCmd c s =
    (let w := emMeet (slice c.ops 0 22) (c.op 22 1) s
     if c.op 23 1 = 1 ∧ !(getEm i w).pendingAge then fail NOT_PENDING w else okay (setEm i {} w)) := by
  rw [emDeleteCmd]
  dsimp only
  rw [if_neg (by omega), if_neg (by simp [hd]), h]

theorem emLookupCmd_of_absent (h : emFind (slice c.ops 0 22) (c.op 22 1) (emMeet (slice c.ops 0 22) (c.op 22 1) s) = none) :
    emLookupCmd c s = fail NOT_FOUND (emMeet (slice c.ops 0 22) (c.op 22 1) s) := by
  rw [emLookupCmd]
  dsimp only
  rw [if_neg (by omega), if_neg (by simp [hd]), h]

theorem emLookupCmd_of_present {i : Nat} (h : emFind (slice c.ops 0 22) (c.op 22 1) (emMeet (slice c.ops 0 22) (c.op 22 1) s) = some i) :
    emLookupCmd c s =
      (let w := emMeet (slice c.ops 0 22) (c.op 22 1) s
       okayWith ((getEm i w).bytes ++ [byte (emBank i), 0] ++ le 2 (emBucket i) ++ [byte (emSlot i)]) w) := by
  rw [emLookupCmd]
  dsimp only
  rw [if_neg (by omega), if_neg (by simp [hd]), h]

end

theorem emReadCmd_okay (hb : c.op 0 2 ≤ 255) (h1 : 1 ≤ c.op 2 2) (hin : c.op 0 2 + c.op 2 2 ≤ 256) (hlen : c.len = 524288 * c.op 2 2)
    (hf : ∀ k, k < c.op 2 2 → fencedU 5 (c.op 0 2 + k) s = false) :
    emReadCmd c s = okayData ((List.range (c.op 2 2)).flatMap fun k => bankBytes (c.op 0 2 + k) s) s := by
  have hany : ((List.range (c.op 2 2)).any fun k => fencedU 5 (c.op 0 2 + k) s) = false := by simpa using hf
  rw [emReadCmd]
  exact (if_neg (by omega)).trans (if_neg (Bool.eq_false_iff.mp hany))

/-- Settles O33. -/
theorem exactMatchCommands : Obligations.ExactMatchCommands := by
  intro c s u e v key typ w held
  refine ⟨fun h ht hv hb hlen hd hz hm => ⟨fun hn => ⟨fun i m t hp => ?_, fun hp => ?_⟩, fun i hi => ⟨fun h0 => ?_, fun h1 => ?_⟩⟩,
    fun h ht hm hlen hd => ⟨fun i hi => ⟨fun hor => ?_, fun h1 hp => ?_⟩, fun hn => ?_⟩, fun h ht hlen hd => ⟨fun i hi => ?_, fun hn => ?_⟩, ?_⟩
  · have hc := emInsertCmd_of_absent (s := u) rfl ht hv hb hlen hd hz hm hn
    rw [hp] at hc
    exact next_table h hc
  · have hc := emInsertCmd_of_absent (s := u) rfl ht hv hb hlen hd hz hm hn
    rw [hp] at hc
    exact next_table h hc
  · exact next_table h ((emInsertCmd_of_present (s := u) rfl ht hv hb hlen hd hz hm hi).trans (if_pos h0))
  · exact next_table h ((emInsertCmd_of_present (s := u) rfl ht hv hb hlen hd hz hm hi).trans (if_neg (by omega)))
  · refine next_table h ((emDeleteCmd_of_present (s := u) ht hlen hd hm hi).trans (if_neg ?_))
    rintro ⟨h1, hp⟩
    rcases hor with h0 | hpend
    · omega
    · simp [w, typ, key, u] at hpend hp
      simp [hpend] at hp
  · exact next_table h ((emDeleteCmd_of_present (s := u) ht hlen hd hm hi).trans (if_pos ⟨h1, by simpa using hp⟩))
  · exact next_table h (emDeleteCmd_of_absent (s := u) ht hlen hd hm hn)
  · exact next_table h (emLookupCmd_of_present (s := u) ht hlen hd hi)
  · exact next_table h (emLookupCmd_of_absent (s := u) ht hlen hd hn)
  · intro b n h hb h1 hin hlen hf
    exact next_done h (emReadCmd_okay (s := u) hb h1 hin hlen hf)

/-! ### Prefixes (R222, R238) -/

/-- The state with an LPM entry stored. -/
def prefixStored (key : Nat) (r : LpmRes) (s : State) : State :=
  clearUpset memLpm key { s with tbl := { s.tbl with lpm := tset s.tbl.lpm key r } }

/-- Units of the LPM entry that a key holds now. -/
def prefixUnits (key : Nat) (s : State) : Nat := if tget s.tbl.lpm key = {} then 0 else lpmUnits key

/-- The answer of LPM_ADD by the state that it leaves, if the units suffice. -/
def addedAnswer (s : State) : Option State → State × CmdEnd
  | none => fail TABLE_FULL { s with tbl := { s.tbl with insertFails := sat 32 (s.tbl.insertFails + 1) } }
  | some t => okay t

theorem addPrefix_of_fits {key : Nat} {r : LpmRes} (h : lpmUsed s - prefixUnits key s + lpmUnits key ≤ 2097152) :
    addPrefix key r s = some (prefixStored key r s) := if_neg (Nat.not_lt.mpr h)

theorem addPrefix_of_full {key : Nat} {r : LpmRes} (h : 2097152 < lpmUsed s - prefixUnits key s + lpmUnits key) :
    addPrefix key r s = none := if_pos h

theorem lpmUsed_started : lpmUsed (started c s) = lpmUsed s := by rw [lpmUsed, started_tbl, lpmUsed]

theorem prefixUnits_started (key : Nat) : prefixUnits key (started c s) = prefixUnits key s := by
  rw [prefixUnits, started_tbl, prefixUnits]

section
variable (hp : prefixOk c.ops true = true) (hlen : c.len = 0)
include hp hlen

theorem lpmAddCmd_eq (hd : lpmDestOk (c.op 20 1) (c.op 24 4) = true) (hz : c.op 21 3 = 0) : lpmAddCmd c s =
    addedAnswer s (addPrefix (prefixKey c.ops) { dk := c.op 20 1, dest := c.op 24 4 } s) := by
  rw [lpmAddCmd, if_neg (by simp [hp, hd, hz, hlen])]
  cases addPrefix (prefixKey c.ops) { dk := c.op 20 1, dest := c.op 24 4 } s with
  | none => rfl
  | some t => rfl

theorem lpmDeleteCmd_eq : lpmDeleteCmd c s =
    if tget s.tbl.lpm (prefixKey c.ops) = {} then fail NOT_FOUND s else okay (prefixStored (prefixKey c.ops) {} s) := by
  rw [lpmDeleteCmd]
  exact if_neg (by simp [hp, hlen])

end

section
variable (hp : prefixOk c.ops false = true) (hlen : c.len = 0)
include hp hlen

theorem lpmLookupCmd_of_none (h : lpmLookup (c.op 0 2) (byteAt c.ops 2 == 6) (prefixAddr c.ops) s = none) :
    lpmLookupCmd c s = fail NOT_FOUND s := by
  rw [lpmLookupCmd]
  dsimp only
  rw [if_neg (by simp [hp, hlen]), h]

theorem lpmLookupCmd_of_some {len : Nat} {x : LpmRes}
    (h : lpmLookup (c.op 0 2) (byteAt c.ops 2 == 6) (prefixAddr c.ops) s = some (len, x)) : lpmLookupCmd c s =
    (let k := lpmKey (c.op 0 2) (byteAt c.ops 2 == 6) len (maskAddr (byteAt c.ops 2 == 6) len (prefixAddr c.ops))
     let t := meetItem memLpm 1 k s
     if upsetOf memLpm k s = 2 then okayWith ([7, byte len, 0, 0] ++ le 4 (takeFree t).1) (takeFree t).2
     else okayWith ([byte x.dk, byte len, 0, 0] ++ le 4 x.dest) t) := by
  rw [lpmLookupCmd]
  dsimp only
  rw [if_neg (by simp [hp, hlen]), h]

end

theorem lpmSearch_started (vrf addr : Nat) (six : Bool) (c : Cmd) (s : State) (n : Nat) :
    lpmSearch vrf six addr (started c s) n = lpmSearch vrf six addr s n := by
  induction n with
  | zero => rw [lpmSearch, lpmSearch, started_tbl]
  | succ n ih => rw [lpmSearch, lpmSearch, started_tbl, ih]

theorem lpmLookup_started (vrf addr : Nat) (six : Bool) (c : Cmd) (s : State) :
    lpmLookup vrf six addr (started c s) = lpmLookup vrf six addr s := lpmSearch_started ..

/-- A search below `n` answers the longest stored match of the address, of length `n` or less. -/
theorem lpmSearch_spec (vrf addr : Nat) (six : Bool) (s : State) (n : Nat) :
    let stored := fun (l : Nat) => tget s.tbl.lpm (lpmKey vrf six l (if l = 0 then 0 else maskAddr six l addr))
    (∀ len r, lpmSearch vrf six addr s n = some (len, r) → len ≤ n ∧ stored len = r ∧ r ≠ {} ∧ ∀ l, len < l → l ≤ n → stored l = {}) ∧
    (lpmSearch vrf six addr s n = none → ∀ l, l ≤ n → stored l = {}) := by
  intro stored
  induction n with
  | zero =>
    have hstep : lpmSearch vrf six addr s 0 = if stored 0 = {} then none else some (0, stored 0) := rfl
    rw [hstep]
    by_cases h0 : stored 0 = {}
    · rw [if_pos h0]
      refine ⟨fun len r h => (nomatch h), fun _ l hl => ?_⟩
      rw [Nat.le_zero.mp hl, h0]
    · rw [if_neg h0]
      refine ⟨fun len r h => ?_, fun h => nomatch h⟩
      obtain ⟨rfl, rfl⟩ := Prod.mk.inj (Option.some.inj h)
      exact ⟨Nat.le_refl 0, rfl, h0, fun l hlt hle => absurd hle (Nat.not_le.mpr hlt)⟩
  | succ n ih =>
    obtain ⟨ihs, ihn⟩ := ih
    have hstep : lpmSearch vrf six addr s (n + 1) = if stored (n + 1) = {} then lpmSearch vrf six addr s n else some (n + 1, stored (n + 1)) := rfl
    rw [hstep]
    by_cases hn : stored (n + 1) = {}
    · rw [if_pos hn]
      refine ⟨fun len r h => ?_, fun h l hl => ?_⟩
      · obtain ⟨hle, hst, hne, hlong⟩ := ihs len r h
        refine ⟨Nat.le_succ_of_le hle, hst, hne, fun l hlt hl => ?_⟩
        exact (Nat.le_succ_iff.mp hl).elim (hlong l hlt) fun heq => heq ▸ hn
      · exact (Nat.le_succ_iff.mp hl).elim (ihn h l) fun heq => heq ▸ hn
    · rw [if_neg hn]
      refine ⟨fun len r h => ?_, fun h => nomatch h⟩
      obtain ⟨rfl, rfl⟩ := Prod.mk.inj (Option.some.inj h)
      exact ⟨Nat.le_refl _, rfl, hn, fun l hlt hle => absurd hle (Nat.not_le.mpr hlt)⟩

/-- Settles O35. -/
theorem longestPrefix : Obligations.LongestPrefix := by
  intro vrf addr six s
  exact lpmSearch_spec vrf addr six s (addrBits six)

/-- Settles O34. -/
theorem prefixAndTcamCommands : Obligations.PrefixAndTcamCommands := by
  intro c bs s u key r old six i w held
  refine ⟨fun h hp hd hz hlen => ⟨fun hfit => ?_, fun hfull => ?_⟩, fun h hp hlen => ⟨fun hst => ?_, fun hst => ?_⟩,
    fun h hp hlen => ⟨fun len x hl => ?_, fun hl => ?_⟩, ?_, fun h hw hout => ?_⟩
  · have hc := lpmAddCmd_eq (s := u) hp hlen hd hz
    rw [addPrefix_of_fits (by rw [lpmUsed_started, prefixUnits_started]; exact hfit)] at hc
    exact next_table h hc
  · have hc := lpmAddCmd_eq (s := u) hp hlen hd hz
    rw [addPrefix_of_full (by rw [lpmUsed_started, prefixUnits_started]; exact hfull)] at hc
    exact next_table h hc
  · exact next_table h ((lpmDeleteCmd_eq (s := u) hp hlen).trans (if_neg hst))
  · exact next_table h ((lpmDeleteCmd_eq (s := u) hp hlen).trans (if_pos hst))
  · intro k t
    have hx : lpmLookup (c.op 0 2) six (prefixAddr c.ops) u = some (len, x) := (lpmLookup_started ..).trans hl
    refine ⟨fun hup => ?_, fun hup => ?_⟩
    · exact next_table h ((lpmLookupCmd_of_some (s := u) hp hlen hx).trans (if_neg hup))
    · exact next_table h ((lpmLookupCmd_of_some (s := u) hp hlen hx).trans (if_pos hup))
  · have hx : lpmLookup (c.op 0 2) six (prefixAddr c.ops) u = none := (lpmLookup_started ..).trans hl
    exact next_table h (lpmLookupCmd_of_none (s := u) hp hlen hx)
  · intro recs h hw hout hall
    exact next_table h (((if_neg hw).trans (if_neg (Bool.eq_false_iff.mp hout))).trans
      (if_neg (by rw [show List.all _ _ = true from hall]; exact Bool.false_ne_true)))
  · exact next_table h ((if_neg hw).trans (if_neg (Bool.eq_false_iff.mp hout)))

end

end Sys2Proof.Machine
end

section
/-! PROOFS. The records of forwarding: groups, hops, classification, edits, replication, mirrors and egress (7.8 to 8.5). -/
namespace Sys2Proof.Machine

section
variable {c : Cmd} {bs : List Byte} {s : State}

/-- The records of a command's host buffer. -/
def hostRecs (c : Cmd) (bs : List Byte) (size m : Nat) : List Nat := (chunks size m (fit c.len bs)).map leNat

theorem writeRecords_of_good {size first n : Nat} {ok : Nat → Bool} {put : Nat → Nat → State → State}
    (h : (hostRecs c bs size n).all ok = true) : writeRecords c (.data bs) size first n ok put s =
      okay ((hostRecs c bs size n).zipIdx.foldl (fun s r => put (first + r.2) r.1 s) s) := by
  rw [hostRecs] at h
  exact if_neg (by rw [h]; exact Bool.false_ne_true)

/-- Items are copied to the host, unless one has an uncorrectable error. -/
theorem readItems_eq (mem : Nat) (meet : Nat → State → State) (items : List Nat) (bytes : Nat → List Byte) :
    readItems mem meet items bytes s = (items.foldl (fun s i => meet i s) s, .done
      (if items.any fun i => upsetOf mem i s == 2 then { status := TARGET_ECC } else { data := items.flatMap bytes })) := by
  rw [readItems]
  split
  · rfl
  · rfl

theorem ecmpGroupWriteCmd_okay (hg : c.op 0 2 ≤ 16383) (hr : groupOk (c.op 8 16) = true) (hlen : c.len = 0) :
    ecmpGroupWriteCmd c s = okay (setEcmp (c.op 0 2) (c.op 8 16) s) := by
  rw [ecmpGroupWriteCmd]
  exact if_neg (by simp [hr, hlen]; omega)

theorem memberWriteCmd_okay (h1 : 1 ≤ c.op 4 4) (hn : c.op 4 4 ≤ 4096) (hin : c.op 0 4 + c.op 4 4 ≤ 1048576) (hlen : c.len = 4 * c.op 4 4)
    (hall : (hostRecs c bs 4 (c.op 4 4)).all memberOk = true) : memberWriteCmd c (.data bs) s =
      okay (groupsLive ((hostRecs c bs 4 (c.op 4 4)).zipIdx.foldl (fun s r => setMember (c.op 0 4 + r.2) r.1 s) s)) := by
  rw [memberWriteCmd]
  dsimp only
  rw [if_neg (by omega), writeRecords_of_good hall]
  rfl

theorem nexthopWriteCmd_okay (h1 : 1 ≤ c.op 4 4) (hn : c.op 4 4 ≤ 4096) (hin : c.op 0 4 + c.op 4 4 ≤ 262144) (hlen : c.len = 16 * c.op 4 4)
    (hall : (hostRecs c bs 16 (c.op 4 4)).all hopOk = true) : nexthopWriteCmd c (.data bs) s =
      okay (groupsLive ((hostRecs c bs 16 (c.op 4 4)).zipIdx.foldl (fun s r => setHop (c.op 0 4 + r.2) r.1 s) s)) := by
  rw [nexthopWriteCmd]
  dsimp only
  rw [if_neg (by omega), writeRecords_of_good hall]
  rfl

theorem ecmpReadCmd_eq (h3 : 3 ≤ c.op 0 1) (h5 : c.op 0 1 ≤ 5) (h1 : 1 ≤ c.op 8 4) (hn : c.op 8 4 ≤ 4096)
    (hin : c.op 4 4 + c.op 8 4 ≤ shadowMax (c.op 0 1)) (hlen : c.len = shadowSize (c.op 0 1) * c.op 8 4) :
    let k := c.op 0 1
    let items := (List.range (c.op 8 4)).map (c.op 4 4 + ·)
    ecmpReadCmd c s = (items.foldl (fun t i => meetItem (kindMem k) k i t) s, .done
      (if items.any fun i => upsetOf (kindMem k) i s == 2 then { status := TARGET_ECC }
       else { data := items.flatMap fun i => le (shadowSize k) (tblRec k i s) })) := by
  intro k items
  rw [ecmpReadCmd]
  exact (if_neg (by omega)).trans (readItems_eq ..)

section
variable (hk : c.op 0 1 ≤ 5) (h1 : 1 ≤ c.op 8 4) (hin : c.op 4 4 + c.op 8 4 ≤ (areaOf (c.op 0 1) s).2) (hlen : c.len = 0)
include hk h1 hin hlen

theorem shadowCheckCmd_of_error {st : Byte} : shadowCheckCmd c (.error st bs) s = okayWith (le 4 0) (report 88 14 0 [byte (c.op 0 1)] s) := by
  rw [shadowCheckCmd]
  exact if_neg (by omega)

theorem shadowCheckCmd_of_data : shadowCheckCmd c (.data bs) s =
    (let k := c.op 0 1
     let n := c.op 8 4
     let r := (chunks (shadowSize k) n (fit (shadowSize k * n) bs)).zipIdx.foldl (fun (a : Nat × State) x =>
        (a.1 + b2n (shadowRecord true k (c.op 4 4 + x.2) x.1 a.2).1, (shadowRecord true k (c.op 4 4 + x.2) x.1 a.2).2)) (0, s)
     okayWith (le 4 r.1) (groupsLive r.2)) := by
  rw [shadowCheckCmd]
  exact (if_neg (by omega)).trans rfl

end

theorem classifyWriteCmd_port {h : HostAns} (hk : c.op 0 1 = 0) (hix : c.op 2 2 ≤ 1023) (hr : portRecOk (c.op 8 8) = true) (hlen : c.len = 0) :
    classifyWriteCmd c h s = okay { s with tbl := { s.tbl with ports := tset s.tbl.ports (c.op 2 2) (c.op 8 8) } } := by
  rw [classifyWriteCmd]
  exact (if_pos hk).trans (if_neg (by simp [hr, hlen]; omega))

theorem classifyWriteCmd_profile (hk : c.op 0 1 = 1) (hix : c.op 2 2 ≤ 15) (hlen : c.len = 72)
    (hall : ((fit c.len bs).all fun b => decide (b.toNat < 32)) = true) : classifyWriteCmd c (.data bs) s =
      okay { s with tbl := { s.tbl with profiles := tset s.tbl.profiles (c.op 2 2) (leNat (fit c.len bs)) } } := by
  rw [classifyWriteCmd]
  exact ((if_neg (by omega)).trans (if_neg (by omega))).trans (if_neg (by rw [hall]; exact Bool.false_ne_true))

section
variable {h : HostAns} (h1 : 1 ≤ c.op 4 2) (hn : c.op 4 2 ≤ 256) (hin : c.op 0 4 + c.op 4 2 ≤ 32768) (hf : flagOk c 6 = true)
  (hlen : c.len = 128 * c.op 4 2)
include h1 hn hin hf hlen

theorem editWriteCmd_read (hr : readFlag c 6 = true) : editWriteCmd c h s =
    readItems memEdit (meetSecded memEdit 70) ((List.range (c.op 4 2)).map (c.op 0 4 + ·)) (fun i => le 128 (tget s.pip.edits i)) s := by
  rw [editWriteCmd]
  exact (if_neg (by simp [hf]; omega)).trans (if_pos hr)

theorem editWriteCmd_write (hr : readFlag c 6 = false) : editWriteCmd c (.data bs) s =
    okay ((hostRecs c bs 128 (c.op 4 2)).zipIdx.foldl (fun s r =>
      clearUpset memEdit (c.op 0 4 + r.2) { s with pip := { s.pip with edits := tset s.pip.edits (c.op 0 4 + r.2) r.1 } }) s) := by
  rw [editWriteCmd]
  exact ((if_neg (by simp [hf]; omega)).trans (if_neg (Bool.eq_false_iff.mp hr))).trans (writeRecords_of_good (by simp))

end

section
variable {h : HostAns} (hf : flagOk c 1 = true) (h1 : 1 ≤ c.op 8 4) (hn : c.op 8 4 ≤ 4096) (hlen : c.len = 8 * c.op 8 4)
include hf h1 hn hlen

section
variable (hk : c.op 0 1 = 0) (hin : c.op 4 4 + c.op 8 4 ≤ 65536)
include hk hin

theorem mcastWriteCmd_readGroups (hr : readFlag c 1 = true) : mcastWriteCmd c h s =
    readItems memGroup (meetSecded memGroup 71) ((List.range (c.op 8 4)).map (c.op 4 4 + ·)) (fun i => le 8 (tget s.pip.groups i)) s := by
  rw [mcastWriteCmd]
  dsimp only
  rw [if_neg (by simp [hf, hk]; omega), if_pos hr]
  simp only [hk, if_true]

theorem mcastWriteCmd_writeGroups (hr : readFlag c 1 = false) (hall : (hostRecs c bs 8 (c.op 8 4)).all mcGroupOk = true) :
    mcastWriteCmd c (.data bs) s = okay ((hostRecs c bs 8 (c.op 8 4)).zipIdx.foldl (fun s r =>
      clearUpset memGroup (c.op 4 4 + r.2) { s with pip := { s.pip with groups := tset s.pip.groups (c.op 4 4 + r.2) r.1 } }) s) := by
  rw [mcastWriteCmd]
  exact (((if_neg (by simp [hf, hk]; omega)).trans (if_neg (Bool.eq_false_iff.mp hr))).trans (if_pos hk)).trans (writeRecords_of_good hall)

end

section
variable (hk : c.op 0 1 = 1) (hin : c.op 4 4 + c.op 8 4 ≤ 524288)
include hk hin

theorem mcastWriteCmd_readEntries (hr : readFlag c 1 = true) : mcastWriteCmd c h s =
    readItems memEntry (meetSecded memEntry 71) ((List.range (c.op 8 4)).map (c.op 4 4 + ·)) (fun i => le 8 (tget s.pip.entries i)) s := by
  rw [mcastWriteCmd]
  dsimp only
  rw [if_neg (by simp [hf, hk]; omega), if_pos hr]
  simp only [hk, Nat.one_ne_zero, if_false]

theorem mcastWriteCmd_writeEntries (hr : readFlag c 1 = false) (hall : (hostRecs c bs 8 (c.op 8 4)).all mcEntryOk = true) :
    mcastWriteCmd c (.data bs) s = okay ((hostRecs c bs 8 (c.op 8 4)).zipIdx.foldl (fun s r =>
      clearUpset memEntry (c.op 4 4 + r.2) { s with pip := { s.pip with entries := tset s.pip.entries (c.op 4 4 + r.2) r.1 } }) s) := by
  have hk0 : ¬c.op 0 1 = 0 := by omega
  rw [mcastWriteCmd]
  exact (((if_neg (by simp [hf, hk]; omega)).trans (if_neg (Bool.eq_false_iff.mp hr))).trans (if_neg hk0)).trans (writeRecords_of_good hall)

end
end

section
variable (hk : c.op 0 1 ≠ 0) (hf : flagOk c 1 = true) (hlen : c.len = 0)
include hk hf hlen

theorem mirrorWriteCmd_read (hr : readFlag c 1 = true) (hu : upsetOf memMirror (c.op 0 1) s ≠ 2) : mirrorWriteCmd c s =
    okayWith (le 16 (tget s.pip.mirrors (c.op 0 1))) (meetSecded memMirror 72 (c.op 0 1) s) := by
  rw [mirrorWriteCmd]
  exact ((if_neg (by simp [hk, hf, hlen])).trans (if_pos hr)).trans (if_neg hu)

theorem mirrorWriteCmd_write (hr : readFlag c 1 = false) (hok : mirrorOk (c.op 8 16) = true) : mirrorWriteCmd c s =
    okay (clearUpset memMirror (c.op 0 1) { s with pip := { s.pip with mirrors := tset s.pip.mirrors (c.op 0 1) (c.op 8 16) } }) := by
  rw [mirrorWriteCmd]
  exact ((if_neg (by simp [hk, hf, hlen])).trans (if_neg (Bool.eq_false_iff.mp hr))).trans (if_neg (by rw [hok]; exact Bool.false_ne_true))

end

section
variable {h : HostAns} (hf : flagOk c 1 = true) (h1 : 1 ≤ c.op 8 4)
include hf h1

section
variable (hk : c.op 0 1 = 0) (hin : c.op 4 4 + c.op 8 4 ≤ 1024) (hlen : c.len = 32 * c.op 8 4)
include hk hin hlen

theorem egressWriteCmd_readPorts (hr : readFlag c 1 = true) : egressWriteCmd c h s =
    okayData (((List.range (c.op 8 4)).map (c.op 4 4 + ·)).flatMap fun i => le 32 (tget s.pip.egress i)) s := by
  rw [egressWriteCmd]
  dsimp only
  rw [if_neg (by simp [hf, hk]; omega), if_pos hr, if_neg (by omega)]
  simp only [hk, if_true]

theorem egressWriteCmd_writePorts (hr : readFlag c 1 = false) (hall : (hostRecs c bs 32 (c.op 8 4)).all egressOk = true) :
    egressWriteCmd c (.data bs) s = okay ((hostRecs c bs 32 (c.op 8 4)).zipIdx.foldl (fun s r =>
      { s with pip := { s.pip with egress := tset s.pip.egress (c.op 4 4 + r.2) r.1 } }) s) := by
  rw [egressWriteCmd]
  exact (((if_neg (by simp [hf, hk]; omega)).trans (if_neg (Bool.eq_false_iff.mp hr))).trans (if_pos hk)).trans (writeRecords_of_good hall)

end

section
variable (hk : c.op 0 1 = 1) (h0 : c.op 4 4 ≠ 0) (hin : c.op 4 4 + c.op 8 4 ≤ 16) (hlen : c.len = 16 * c.op 8 4)
include hk h0 hin hlen

theorem egressWriteCmd_readEcn (hr : readFlag c 1 = true) : egressWriteCmd c h s =
    okayData (((List.range (c.op 8 4)).map (c.op 4 4 + ·)).flatMap fun i => le 16 (tget s.pip.ecn i)) s := by
  rw [egressWriteCmd]
  dsimp only
  rw [if_neg (by simp [hf, hk]; omega), if_pos hr, if_neg (by omega)]
  simp only [hk, Nat.one_ne_zero, if_false, if_true]

theorem egressWriteCmd_writeEcn (hr : readFlag c 1 = false) (hall : (hostRecs c bs 16 (c.op 8 4)).all ecnOk = true) :
    egressWriteCmd c (.data bs) s = okay ((hostRecs c bs 16 (c.op 8 4)).zipIdx.foldl (fun s r =>
      { s with pip := { s.pip with ecn := tset s.pip.ecn (c.op 4 4 + r.2) r.1 } }) s) := by
  have hk0 : ¬c.op 0 1 = 0 := by omega
  rw [egressWriteCmd]
  exact ((((if_neg (by simp [hf, hk]; omega)).trans (if_neg (Bool.eq_false_iff.mp hr))).trans (if_neg hk0)).trans (if_pos hk)).trans
    (writeRecords_of_good hall)

end

section
variable (hk : c.op 0 1 = 2) (hin : c.op 4 4 + c.op 8 4 ≤ 2048) (hlen : c.len = 64 * c.op 8 4)
include hk hin hlen

theorem egressWriteCmd_readAcl (hr : readFlag c 1 = true) : egressWriteCmd c h s =
    readItems memEacl (meetSecded memEacl 73) ((List.range (c.op 8 4)).map (c.op 4 4 + ·)) (fun i => le 64 (tget s.pip.eacl i)) s := by
  rw [egressWriteCmd]
  dsimp only
  rw [if_neg (by simp [hf, hk]; omega), if_pos hr, if_pos hk]
  simp only [hk, OfNat.ofNat_ne_zero, OfNat.ofNat_ne_one, if_false]

theorem egressWriteCmd_writeAcl (hr : readFlag c 1 = false) (hall : (hostRecs c bs 64 (c.op 8 4)).all eaclOk = true) :
    egressWriteCmd c (.data bs) s = okay ((hostRecs c bs 64 (c.op 8 4)).zipIdx.foldl (fun s r =>
      clearUpset memEacl (c.op 4 4 + r.2) { s with pip := { s.pip with eacl := tset s.pip.eacl (c.op 4 4 + r.2) r.1 } }) s) := by
  have hk0 : ¬c.op 0 1 = 0 := by omega
  have hk1 : ¬c.op 0 1 = 1 := by omega
  rw [egressWriteCmd]
  exact ((((if_neg (by simp [hf, hk]; omega)).trans (if_neg (Bool.eq_false_iff.mp hr))).trans (if_neg hk0)).trans (if_neg hk1)).trans
    (writeRecords_of_good hall)

end
end

theorem areaOf_started (k : Nat) : areaOf k (started c s) = areaOf k s := rfl

end

/-- Settles O36. -/
theorem forwardingRecords : Obligations.ForwardingRecords := by
  refine ⟨?_, fun typ key port s => ⟨⟨_, rfl, rfl, fun l => ?_⟩, rfl, fun hp hl => ⟨?_, ?_⟩, fun hp hl => ⟨?_, ?_⟩⟩⟩
  · intro c bs h st s u k first n recs ends held items readOut
    refine ⟨fun hd hg hr hlen => next_table hd (ecmpGroupWriteCmd_okay (s := u) hg hr hlen),
      fun hd h1 hn hin hlen hall => next_table hd (memberWriteCmd_okay (s := u) h1 hn hin hlen hall),
      fun hd h1 hn hin hlen hall => next_table hd (nexthopWriteCmd_okay (s := u) h1 hn hin hlen hall),
      fun hd h3 h5 h1 hn hin hlen => next_table hd (ecmpReadCmd_eq (s := u) h3 h5 h1 hn hin hlen),
      fun hd hk h1 hin hlen => ?_, fun hd hlen => next_done hd (if_neg (not_not.mpr hlen)),
      fun hd hk hix hr hlen => next_done hd (classifyWriteCmd_port (s := u) hk hix hr hlen),
      fun hd hk hix hlen hall => next_done hd (classifyWriteCmd_profile (s := u) hk hix hlen hall),
      fun hd h1 h2 hlen => next_done hd (if_neg (by omega)),
      fun hd h1 hn hin hf hlen => ⟨fun hr => ?_, fun hr => next_done hd (editWriteCmd_write (s := u) h1 hn hin hf hlen hr)⟩,
      fun hd hf h1 hn hlen => ⟨fun hk hin => ⟨fun hr => ?_, fun hr hall => ?_⟩, fun hk hin => ⟨fun hr => ?_, fun hr hall => ?_⟩⟩,
      fun hd hk hf hlen => ⟨fun hr hu => next_done hd (mirrorWriteCmd_read (s := u) hk hf hlen hr hu),
        fun hr hok => next_done hd (mirrorWriteCmd_write (s := u) hk hf hlen hr hok)⟩,
      fun hd hf h1 => ⟨fun hk hin hlen => ⟨fun hr => ?_, fun hr hall => ?_⟩, fun hk h0 hin hlen => ⟨fun hr => ?_, fun hr hall => ?_⟩,
        fun hk hin hlen => ⟨fun hr => ?_, fun hr hall => ?_⟩⟩⟩
    · have hin' : first + n ≤ (areaOf k u).2 := by rw [areaOf_started]; exact hin
      exact ⟨next_done hd (shadowCheckCmd_of_error hk h1 hin' hlen), next_done hd (shadowCheckCmd_of_data hk h1 hin' hlen)⟩
    · exact next_done hd ((editWriteCmd_read (s := u) h1 hn hin hf hlen hr).trans (readItems_eq ..))
    · exact next_done hd ((mcastWriteCmd_readGroups (s := u) hf h1 hn hlen hk hin hr).trans (readItems_eq ..))
    · exact next_done hd (mcastWriteCmd_writeGroups (s := u) hf h1 hn hlen hk hin hr hall)
    · exact next_done hd ((mcastWriteCmd_readEntries (s := u) hf h1 hn hlen hk hin hr).trans (readItems_eq ..))
    · exact next_done hd (mcastWriteCmd_writeEntries (s := u) hf h1 hn hlen hk hin hr hall)
    · exact next_done hd (egressWriteCmd_readPorts (s := u) hf h1 hk hin hlen hr)
    · exact next_done hd (egressWriteCmd_writePorts (s := u) hf h1 hk hin hlen hr hall)
    · exact next_done hd (egressWriteCmd_readEcn (s := u) hf h1 hk h0 hin hlen hr)
    · exact next_done hd (egressWriteCmd_writeEcn (s := u) hf h1 hk h0 hin hlen hr hall)
    · exact next_done hd ((egressWriteCmd_readAcl (s := u) hf h1 hk hin hlen hr).trans (readItems_eq ..))
    · exact next_done hd (egressWriteCmd_writeAcl (s := u) hf h1 hk hin hlen hr hall)
  · rw [List.mem_filter]
    simp only [Bool.not_eq_true', Bool.and_eq_false_iff, beq_eq_false_iff_ne, ne_eq, not_and_or]
  · exact within_eq (decide_eq_true hp) (if_neg (Bool.eq_false_iff.mp hl))
  · exact within_eq (decide_eq_true hp) (if_neg (Bool.eq_false_iff.mp hl))
  · exact within_eq (decide_eq_true hp) (if_pos hl)
  · exact within_eq (decide_eq_true hp) (if_pos hl)

end Sys2Proof.Machine
end

section
/-! PROOFS. Collective messages (11.5 to 11.8). -/
namespace Sys2Proof.Machine

/-- A message meets the upsets of its slot's staging where its type reads it: CONTRIB, RESEND and RESULT_REQ. -/
def staged (p : CPkt) (u : State) : State :=
  let typ := byteAt p.hdr 0 % 16
  if typ = 1 ∨ typ = 3 ∨ typ = 4 then meetStaging p.job p.chunk u else u

/-- A cluster's queue without its head. -/
def headTaken (k : Nat) (rest : List CPkt) (s : State) : State := setCluster k { getCluster k s with q := rest } s

theorem staged_of_other {p : CPkt} (h : byteAt p.hdr 0 % 16 ≠ 1 ∧ byteAt p.hdr 0 % 16 ≠ 3 ∧ byteAt p.hdr 0 % 16 ≠ 4) (u : State) :
    staged p u = u := if_neg (by omega)

section
variable {k typ : Nat} {p : CPkt} {rest : List CPkt} {s : State} {ready : CPkt → State → Bool} {body : CPkt → State → State}
  (hq : (getCluster k s).q = p :: rest)
include hq

theorem takeMsg_of_other (ht : byteAt p.hdr 0 % 16 ≠ typ) : takeMsg k typ ready body s = s := by
  rw [takeMsg]
  dsimp only
  rw [hq]
  exact if_pos ht

variable (ht : byteAt p.hdr 0 % 16 = typ)
include ht

theorem takeMsg_of_bad {n : Nat} (h : recvCheck p s = some n) : takeMsg k typ ready body s = countJob p.job n 1 (headTaken k rest s) := by
  rw [takeMsg]
  dsimp only
  rw [hq]
  refine (if_neg (not_not.mpr ht)).trans ?_
  rw [h]
  rfl

theorem takeMsg_of_good (h : recvCheck p s = none) (hr : ready p s = true) :
    takeMsg k typ ready body s = body p (staged p (headTaken k rest s)) := by
  subst ht
  rw [takeMsg]
  dsimp only
  rw [hq]
  refine (if_neg (not_not.mpr rfl)).trans ?_
  rw [h]
  exact if_pos hr

/-- A message that passes does what its row's body does. -/
theorem exec_msg {u : State} (hk : k < 4) (h : recvCheck p s = none) (hr : ready p s = true)
    (hb : body p (staged p (headTaken k rest s)) = u) : within (decide (k < 4)) (takeMsg k typ ready body s) = .next u :=
  within_eq (decide_eq_true hk) ((takeMsg_of_good hq ht h hr).trans hb)

/-- A message of a type that reads no staging. -/
theorem exec_msg_plain {u : State} (hk : k < 4) (h : recvCheck p s = none) (ho : typ ≠ 1 ∧ typ ≠ 3 ∧ typ ≠ 4) (hr : ready p s = true)
    (hb : body p (headTaken k rest s) = u) : within (decide (k < 4)) (takeMsg k typ ready body s) = .next u :=
  exec_msg hq ht hk h hr (by rw [staged_of_other (ht ▸ ho), hb])

theorem takeMsg_of_unready (h : recvCheck p s = none) (hr : ready p s = false) : takeMsg k typ ready body s = s := by
  rw [takeMsg]
  dsimp only
  rw [hq]
  refine (if_neg (not_not.mpr ht)).trans ?_
  rw [h]
  exact if_neg (Bool.eq_false_iff.mp hr)

end

/-- A contribution to a job that is moving, by the room that its log finds (R346, R358). -/
def onLogRoom (p : CPkt) (s : State) : Option (List Nat) → State
  | none => ovfDrop p.job s
  | some bs => let x := getJob p.job s
    setJob p.job { x with log := x.log ++ [p], blocks := x.blocks ++ bs } s

/-- STRAGGLER by the child that its sender is (R355). -/
def onMember (p : CPkt) (s : State) : Option Nat → State
  | some i => markChild p.job i p.strag p.arg s
  | none => s

/-- RESEND by the state of its slot (R343). -/
def onResend (p : CPkt) (s : State) : SlotSt → State
  | .emitted | .retained => sendPartial p.job p.chunk true s
  | .free => s
  | _ => sendWait p.job p.chunk s

theorem onResend_of_other {p : CPkt} {s : State} {st : SlotSt} (he : st ≠ .emitted) (hr : st ≠ .retained) (hf : st ≠ .free) :
    onResend p s st = sendWait p.job p.chunk s := by
  cases st with
  | emitted => exact absurd rfl he
  | retained => exact absurd rfl hr
  | free => exact absurd rfl hf
  | opened => rfl
  | spilled => rfl
  | recover => rfl

/-- RESULT_REQ by the state of its slot (R344). -/
def onResultReq (p : CPkt) (s : State) : SlotSt → State
  | .retained => sendChild p.job p.index (resultMsg p.job p.chunk s) s
  | .opened | .spilled => if bitAt (getSlot p.job p.chunk s).bits p.index then s else sendResends p.job p.chunk (2 ^ p.index) s
  | _ => s

theorem onResultReq_of_none {p : CPkt} {s : State} {st : SlotSt} (hr : st ≠ .retained)
    (hb : st = .opened ∨ st = .spilled → bitAt (getSlot p.job p.chunk s).bits p.index = true) : onResultReq p s st = s := by
  cases st with
  | retained => exact absurd rfl hr
  | opened => exact if_pos (hb (.inl rfl))
  | spilled => exact if_pos (hb (.inr rfl))
  | emitted => rfl
  | free => rfl
  | recover => rfl

/-- Settles O37. -/
theorem collectiveMessages : Obligations.CollectiveMessages := by
  intro k p rest s hk hq typ u m f x y a b drop
  refine ⟨fun n hbad => ⟨fun h => ?_, fun h => ?_, fun h => ?_, fun h => ?_, fun h => ?_, fun h => ?_, fun h => ?_, fun h => ?_, fun h => ?_⟩,
    ⟨fun h => ?_, fun h => ?_, fun h => ?_, fun h => ?_, fun h => ?_, fun h => ?_, fun h => ?_, fun h => ?_, fun h => ?_⟩, fun hgood => ?_⟩
  · exact within_eq (decide_eq_true hk) (takeMsg_of_bad hq h hbad)
  · exact within_eq (decide_eq_true hk) (takeMsg_of_bad hq h hbad)
  · exact within_eq (decide_eq_true hk) (takeMsg_of_bad hq h hbad)
  · exact within_eq (decide_eq_true hk) (takeMsg_of_bad hq h hbad)
  · exact within_eq (decide_eq_true hk) (takeMsg_of_bad hq h hbad)
  · exact within_eq (decide_eq_true hk) (takeMsg_of_bad hq h hbad)
  · exact within_eq (decide_eq_true hk) (takeMsg_of_bad hq h hbad)
  · exact within_eq (decide_eq_true hk) (takeMsg_of_bad hq h hbad)
  · exact within_eq (decide_eq_true hk) (takeMsg_of_bad hq h hbad)
  · exact within_eq (decide_eq_true hk) (takeMsg_of_other hq h)
  · exact within_eq (decide_eq_true hk) (takeMsg_of_other hq h)
  · exact within_eq (decide_eq_true hk) (takeMsg_of_other hq h)
  · exact within_eq (decide_eq_true hk) (takeMsg_of_other hq h)
  · exact within_eq (decide_eq_true hk) (takeMsg_of_other hq h)
  · exact within_eq (decide_eq_true hk) (takeMsg_of_other hq h)
  · exact within_eq (decide_eq_true hk) (takeMsg_of_other hq h)
  · exact within_eq (decide_eq_true hk) (takeMsg_of_other hq h)
  · exact within_eq (decide_eq_true hk) (takeMsg_of_other hq h)
  have hplain (h : typ ≠ 1 ∧ typ ≠ 3 ∧ typ ≠ 4) : m = u := staged_of_other h u
  refine ⟨fun ht hr => ?_, fun ht hr => ⟨fun hm => ?_, fun bs hm hroom => ?_, fun hm hroom => ?_⟩, fun ht ha => ?_, fun ht he hr => ?_,
    fun ht ha => ?_, fun ht ha => ?_, fun ht he hr hf => ?_, fun ht hb => ?_, fun ht hb hbit => ?_, fun ht hne hbit => ?_, fun ht hb => ?_,
    fun ht ho hs => ?_, fun ht hroot hi => ?_, fun ht hor => ?_, fun ht hor => ?_, fun ht hl hp hg => ?_, fun ht i hi => ?_, fun ht hi => ?_,
    fun ht => ?_⟩
  · exact within_eq (decide_eq_true hk) (takeMsg_of_unready hq ht hgood hr)
  · exact exec_msg hq ht hk hgood hr (if_neg hm)
  · exact exec_msg hq ht hk hgood hr ((if_pos hm).trans (congrArg (onLogRoom p f) hroom))
  · exact exec_msg hq ht hk hgood hr ((if_pos hm).trans (congrArg (onLogRoom p f) hroom))
  · have hst : a.st = (getSlot p.job p.chunk u).st := congrArg (fun t => (getSlot p.job p.chunk t).st) (hplain (by omega))
    exact exec_msg_plain hq ht hk hgood (by decide) rfl (if_pos (hst ▸ ha))
  · have hst : a.st = (getSlot p.job p.chunk u).st := congrArg (fun t => (getSlot p.job p.chunk t).st) (hplain (by omega))
    exact exec_msg_plain hq ht hk hgood (by decide) rfl (if_neg (not_or.mpr ⟨hst ▸ he, hst ▸ hr⟩))
  · refine exec_msg hq ht hk hgood rfl ?_
    rcases ha with ha | ha
    · exact congrArg (onResend p m) ha
    · exact congrArg (onResend p m) ha
  · exact exec_msg hq ht hk hgood rfl (congrArg (onResend p m) ha)
  · exact exec_msg hq ht hk hgood rfl (onResend_of_other he hr hf)
  · exact exec_msg hq ht hk hgood rfl (congrArg (onResultReq p f) hb)
  · refine exec_msg hq ht hk hgood rfl ?_
    rcases hb with hb | hb
    · exact (congrArg (onResultReq p f) hb).trans (if_neg (Bool.eq_false_iff.mp hbit))
    · exact (congrArg (onResultReq p f) hb).trans (if_neg (Bool.eq_false_iff.mp hbit))
  · exact exec_msg hq ht hk hgood rfl (onResultReq_of_none hne hbit)
  · exact exec_msg hq ht hk hgood rfl (if_pos hb)
  · exact exec_msg hq ht hk hgood rfl (if_neg (not_or.mpr ⟨ho, hs⟩))
  · exact exec_msg_plain hq ht hk hgood (by decide) rfl (if_pos ⟨hroot, hi⟩)
  · refine exec_msg_plain hq ht hk hgood (by decide) rfl (if_neg ?_)
    rintro ⟨hroot, hi⟩
    exact hor.elim (fun hf => absurd (hf.symm.trans hroot) Bool.false_ne_true) (Nat.not_le.mpr hi)
  · exact exec_msg_plain hq ht hk hgood (by decide) rfl (if_pos hor)
  · refine exec_msg_plain hq ht hk hgood (by decide) rfl (if_neg ?_)
    rintro (hx | hx | hx)
    · exact hl hx
    · exact Bool.eq_false_iff.mp hp hx
    · exact hg hx
  · exact exec_msg_plain hq ht hk hgood (by decide) rfl (congrArg (onMember p u) hi)
  · exact exec_msg_plain hq ht hk hgood (by decide) rfl (congrArg (onMember p u) hi)
  · exact exec_msg_plain hq ht hk hgood (by decide) rfl rfl

end Sys2Proof.Machine
end

section
/-! PROOFS. The timers, epochs, moves and commands of collectives (11.6 to 11.12). -/
namespace Sys2Proof.Machine

@[simp] theorem getJob_setJob (j : Nat) (x : Job) (s : State) : getJob j (setJob j x s) = x := tget_tset_self ..

theorem getJob_setJob_ne {k j : Nat} (h : k ≠ j) (x : Job) (s : State) : getJob k (setJob j x s) = getJob k s :=
  tget_tset_other _ _ _ _ h

/-- What is sent to a peer does not change the jobs. -/
theorem col_sendRin (j : Nat) (peer : List Byte) (nh : Nat) (m : RMsg) (s : State) : (sendRin j peer nh m s).col = s.col := by
  have hhop : (meetHop nh s).col = s.col := (fr_meetHop ..).col.resolve_left (by decide)
  rw [sendRin]
  dsimp only
  split
  · refine ((fr_newPkt ..).col.resolve_left (by decide)).trans (Eq.trans ?_ hhop)
    exact (fr_flowLabel ..).col.resolve_left (by decide)
  · exact hhop

/-! ### LATE_MAX is kept (R350 to R354) -/

/-- Every job keeps its LATE_MAX. -/
structure KeepsLate (s t : State) : Prop where
  late : ∀ j, (getJob j t).lateMax = (getJob j s).lateMax

namespace KeepsLate

theorem refl (s : State) : KeepsLate s s := ⟨fun _ => rfl⟩

theorem trans {s t u : State} (h : KeepsLate s t) (h' : KeepsLate t u) : KeepsLate s u :=
  ⟨fun j => (h'.late j).trans (h.late j)⟩

theorem of_jobs {s t : State} (h : t.col.jobs = s.col.jobs) : KeepsLate s t := ⟨fun j => by rw [getJob, h, getJob]⟩

theorem foldl {α : Type} {f : State → α → State} (h : ∀ s a, KeepsLate s (f s a)) (l : List α) (s : State) : KeepsLate s (l.foldl f s) := by
  induction l generalizing s with
  | nil => exact refl s
  | cons a l ih => exact (h s a).trans (ih _)

section
variable {s t : State} (h : KeepsLate s t)
include h

theorem then_col {u : State} (hu : u.col = t.col) : KeepsLate s u := h.trans (of_jobs (by rw [hu]))

theorem then_jobs {u : State} (hu : u.col.jobs = t.col.jobs) : KeepsLate s u := h.trans (of_jobs hu)

theorem setJob {j : Nat} {x : Job} (hx : x.lateMax = (getJob j t).lateMax) : KeepsLate s (setJob j x t) := by
  refine h.trans ⟨fun k => ?_⟩
  rcases eq_or_ne k j with rfl | hk
  · rw [getJob_setJob, hx]
  · rw [getJob_setJob_ne hk]

theorem modJob {j : Nat} {f : Job → Job} (hf : ∀ x, (f x).lateMax = x.lateMax) : KeepsLate s (modJob j f t) := h.setJob (hf _)

theorem post (code : Nat) (pay : List Byte) : KeepsLate s (post code pay t) := h.then_col ((fr_post ..).col.resolve_left (by decide))

theorem report (code k n : Nat) (d : List Byte) : KeepsLate s (report code k n d t) :=
  h.then_col ((fr_report ..).col.resolve_left (by decide))

theorem railFollow (old : State) : KeepsLate s (railFollow old t) := h.then_col ((fr_railFollow ..).col.resolve_left (by decide))

theorem sendRin (j : Nat) (peer : List Byte) (nh : Nat) (m : RMsg) : KeepsLate s (sendRin j peer nh m t) := h.then_col (col_sendRin ..)

theorem sendRoot (j : Nat) (m : RMsg) : KeepsLate s (sendRoot j m t) := by
  rw [Machine.sendRoot]
  split
  · exact h
  · exact h.sendRin ..

theorem sendPace (j arg : Nat) : KeepsLate s (sendPace j arg t) := h.sendRoot ..

theorem sendDevices (j : Nat) (m : RMsg) : KeepsLate s (sendDevices j m t) := by
  refine h.trans (foldl (fun s k => ?_) _ t)
  split
  · exact (refl s).sendRin ..
  · exact refl s

theorem sendStraggler (j step : Nat) : KeepsLate s (sendStraggler j step t) := by
  have hparent : KeepsLate s (if (getJob j t).root = true then t else Machine.sendRin j (getJob j t).parentAddr (getJob j t).parentNh
      { typ := 8, arg := step, epoch := epochNow (getJob j t) t, index := (getJob j t).member } t) := by
    split
    · exact h
    · exact h.sendRin ..
  rw [Machine.sendStraggler]
  dsimp only
  generalize (if (getJob j t).root = true then t else _) = u at hparent
  split
  · exact hparent
  · exact hparent.sendRoot ..

theorem lookJob (j : Nat) : KeepsLate s (lookJob j t) := by
  rw [Machine.lookJob]
  dsimp only
  split
  · exact h
  split
  · refine sendStraggler (post (setJob h ?_) ..) ..
    rfl
  split
  · refine sendStraggler (post (setJob h ?_) ..) ..
    rfl
  · exact h

theorem lookCluster (k : Nat) : KeepsLate s (lookCluster k t) := h.trans (foldl (fun s j => (refl s).lookJob j) _ t)

theorem modCluster (k : Nat) (f : Cluster → Cluster) : KeepsLate s (modCluster k f t) := h.then_jobs rfl

theorem countJob (j i n : Nat) : KeepsLate s (countJob j i n t) := h.then_jobs rfl

theorem startChange (k g : Nat) : KeepsLate s (startChange k g t) := railFollow (modCluster h ..) ..

theorem seekRail (k g : Nat) (due : Bool) : KeepsLate s (seekRail k g due t) := railFollow (modCluster h ..) ..

theorem foreseeRail (k : Nat) : KeepsLate s (foreseeRail k t) := by
  rw [Machine.foreseeRail]
  split
  · exact h.seekRail ..
  · exact h

theorem followGroup (k : Nat) : KeepsLate s (followGroup k t).2 := by
  rw [Machine.followGroup]
  split
  · exact h
  split
  · dsimp only
    exact h.modCluster ..
  split
  · dsimp only
    exact h.startChange ..
  split
  · dsimp only
    exact h.startChange ..
  · dsimp only
    exact h.seekRail ..

theorem announce (j : Nat) (p : StepSet) : KeepsLate s (announce j p t) := by
  refine foreseeRail (sendDevices (modJob h ?_) ..) ..
  exact fun _ => rfl

theorem applyPend (j n : Nat) : KeepsLate s (applyPend j n t) := by
  rw [Machine.applyPend]
  dsimp only
  refine trans (t := Machine.setJob j _ t) (setJob h ?_) (foldl (fun s p => ?_) _ _)
  · rfl
  · split
    · refine report (countJob (post (modJob (refl s) ?_) ..) ..) ..
      exact fun _ => rfl
    · refine post (modJob (refl s) ?_) ..
      exact fun _ => rfl

end
end KeepsLate

/-- The root's acceptance at an epoch boundary: a new change, or the last one sent again (R353, R354). -/
def epochRoot (j n : Nat) (s : State) : State :=
  let x := getJob j s
  if !x.root then s
  else
    let m := minProposal x (jobCeil j s)
    let latest := match x.pend.getLast? with
      | some p => p.step
      | none => x.agreed
    if m ≠ latest then
      let e := (n + 2) % 2 ^ 32
      announce j { step := m, epoch := e } (post 0x4002 ([byte j, byte m, 0, 0] ++ le 4 e ++ [1]) s)
    else match x.last with
      | some p => sendDevices j { typ := 7, arg := p.step, epoch := p.epoch } s
      | none => s

/-- The cluster's step, the stragglers and PACE at an epoch boundary; `x` is the job before. -/
def epochFollow (j before : Nat) (x : Job) (s : State) : State :=
  let (ready, s) := followGroup x.cluster s
  let s := if !ready ∧ x.agreed > before then report 135 14 j [byte j] (countJob j 15 1 s) else s
  let s := lookCluster x.cluster s
  let c := jobCeil j s
  let s := modJob j (fun x => { x with ceil := c }) s
  let g := groupStep x.cluster s
  if g < x.agreed then sendPace j (min g c) s else if c ≠ x.agreed then sendPace j c s else s

/-- What an epoch boundary of a running job does after the late count has moved into LATE_MAX. -/
def epochPaced (j n before : Nat) (s : State) : State :=
  let s := applyPend j n s
  epochFollow j before (getJob j s) (epochRoot j n s)

theorem exec_epochBoundary {j : Nat} {s : State} (hj : j < 128) (h : (getJob j s).runs = true) : exec (.epochBoundary j) s = .next
    (epochPaced j (epochNow (getJob j s) s) (getJob j s).agreed
      (setJob j { getJob j s with lateMax := (getJob j s).late, late := 0 } s)) := by
  refine within_eq (decide_eq_true hj) ((if_neg (by simp [h])).trans ?_)
  dsimp only [epochPaced, epochFollow, epochRoot]
  congr 1

theorem keepsLate_epochRoot (j n : Nat) (s : State) : KeepsLate s (epochRoot j n s) := by
  rw [epochRoot]
  dsimp only
  split
  · exact .refl s
  · generalize (match (getJob j s).pend.getLast? with | some p => p.step | none => (getJob j s).agreed) = latest
    split
    · exact .announce (.post (.refl s) ..) ..
    · split
      · exact .sendDevices (.refl s) ..
      · exact .refl s

theorem keepsLate_epochFollow (j before : Nat) (x : Job) (s : State) : KeepsLate s (epochFollow j before x s) := by
  have hfollow := (KeepsLate.refl s).followGroup x.cluster
  have hready : KeepsLate s (if !(followGroup x.cluster s).1 ∧ x.agreed > before
      then report 135 14 j [byte j] (countJob j 15 1 (followGroup x.cluster s).2) else (followGroup x.cluster s).2) := by
    split
    · exact (hfollow.countJob ..).report ..
    · exact hfollow
  rw [epochFollow]
  dsimp only
  generalize (if !(followGroup x.cluster s).1 ∧ x.agreed > before
      then report 135 14 j [byte j] (countJob j 15 1 (followGroup x.cluster s).2) else (followGroup x.cluster s).2) = u at hready
  have hlook := hready.lookCluster x.cluster
  generalize lookCluster x.cluster u = v at hlook
  have hceil : KeepsLate s (modJob j (fun x => { x with ceil := jobCeil j v }) v) := hlook.modJob fun _ => rfl
  split
  · exact hceil.sendPace ..
  split
  · exact hceil.sendPace ..
  · exact hceil

theorem keepsLate_epochPaced (j n before : Nat) (s : State) : KeepsLate s (epochPaced j n before s) :=
  (((KeepsLate.refl s).applyPend j n).trans (keepsLate_epochRoot ..)).trans (keepsLate_epochFollow ..)

/-! ### Timers, restores and moves -/

section
variable {j c : Nat} {s : State} (hj : j < 128)
include hj

/-- The children of a job that a slot has not heard from. -/
def missingKids (j c : Nat) (s : State) : List Nat :=
  let x := getJob j s
  let logged := x.log.foldl (fun m p => if p.chunk = c then m ||| 2 ^ p.index else m) 0
  (List.range x.children).filter fun i => !bitAt ((getSlot j c s).bits ||| logged) i

/-- Those of them that neither straggle nor wait. -/
def silentKids (j c : Nat) (s : State) : List Nat :=
  (missingKids j c s).filter fun i => !bitAt (getJob j s).strag i && !bitAt (getSlot j c s).waits i

theorem exec_slotTimerExpiry (hr : (getJob j s).runs = true) (hs : (getSlot j c s).st = .opened ∨ (getSlot j c s).st = .spilled)
    (hm : missingKids j c s ≠ []) : exec (.slotTimerExpiry j c) s = .next
    (let x := getJob j s
     let a := getSlot j c s
     let silent := silentKids j c s
     let s := sendResends j c ((missingKids j c s).foldl (fun m i => m + 2 ^ i) 0) s
     let s := setSlot j c { a with waits := 0, retries := if silent = [] then a.retries else a.retries + 1 } s
     if silent = [] then s
     else
       let s := modJob j (fun x => { x with retries := sat 32 (x.retries + 1) }) s
       let s := postRetry j c (silent.headD 0) (a.retries + 1) s
       if a.retries + 1 > x.maxRetries then failJob j 1 s else s) := by
  refine within_eq (decide_eq_true hj) (if_neg ?_)
  rintro (hn | hn | hn)
  · simp [hr] at hn
  · exact hs.elim hn.1 hn.2
  · exact hm hn

theorem exec_slotRestore (hr : (getJob j s).runs = true) (hs : (getSlot j c s).st = .spilled) (hn : nextRestore j c s = true)
    (hp : (getSlot j c s).bits = (getJob j s).all ∨ 768 ≤ freePages (getJob j s).cluster s) : exec (.slotRestore j c) s = .next
    (let x := getJob j s
     let a := getSlot j c s
     let r := makeRoom x.cluster x.accPages (openSlots x.cluster s) s
     let w := clearUpset memStaging (2 ^ 32 * j + c) (ovfRead a.blocks r.2).2
     if !r.1 then r.2
     else if ovfLost a.blocks r.2 ∨ !(ovfRead a.blocks r.2).1 then
       sendResends j c x.all (setSlot j c { a with st := .opened, acc := [], bits := 0, blocks := [], log := [] }
         (report 134 14 j ([byte j, 0, 0, 0] ++ le 4 c) w))
     else
       let z := a.log.foldl (fun t p => takeContrib j c p t)
         (setSlot j c { a with st := .opened, blocks := [], log := [], bits := a.log.foldl (fun m p => m ^^^ 2 ^ p.index) a.bits } w)
       completeSlot j c (setSlot j c { getSlot j c z with retries := a.retries } z)) := by
  refine within_eq (decide_eq_true hj) ((if_neg ?_).trans rfl)
  rintro (hn' | hn' | hn' | hn')
  · simp [hr] at hn'
  · exact hn' hs
  · simp [hn] at hn'
  · simp at hn'
    exact hp.elim hn'.1 (Nat.not_le.mpr hn'.2)

end

/-- Settles O38. -/
theorem collectiveTimers : Obligations.CollectiveTimers := by
  intro j c s hj x a logged missing silent asked retried
  refine ⟨fun hr hs hm => ⟨fun hsil => ?_, fun i r hsil => ⟨fun hle => ?_, fun hlt => ?_⟩⟩, fun hr he => ?_,
    fun hr => ⟨_, exec_epochBoundary hj hr, ?_⟩, fun hr => ?_, fun hr hs hn hp => ?_, fun hm => ?_,
    fun k t hk hc => ⟨fun hd => ?_, fun hd => ?_⟩, fun k hk hc => ?_⟩
  · have hsil' : silentKids j c s = [] := hsil
    rw [exec_slotTimerExpiry hj hr hs hm]
    dsimp only
    rw [if_pos hsil', if_pos hsil']
    rfl
  · have hsil' : silentKids j c s = i :: r := hsil
    have hne : ¬silentKids j c s = [] := by rw [hsil']; exact List.cons_ne_nil i r
    rw [exec_slotTimerExpiry hj hr hs hm]
    dsimp only
    rw [if_neg hne, if_neg hne, if_neg (Nat.not_lt.mpr hle), hsil']
    rfl
  · have hsil' : silentKids j c s = i :: r := hsil
    have hne : ¬silentKids j c s = [] := by rw [hsil']; exact List.cons_ne_nil i r
    rw [exec_slotTimerExpiry hj hr hs hm]
    dsimp only
    rw [if_neg hne, if_neg hne, if_pos hlt, hsil']
    rfl
  · exact within_eq (decide_eq_true hj) (if_pos ⟨hr, he⟩)
  · rw [(keepsLate_epochPaced ..).late, getJob_setJob]
  · exact within_eq (decide_eq_true hj) (if_pos (by simpa using hr))
  · intro r w y z
    have hrow := exec_slotRestore hj hr hs hn hp
    refine ⟨fun h => ?_, fun h hl => ?_, fun h hl ho => ?_⟩
    · exact hrow.trans (congrArg Host.Outcome.next (if_pos (by rw [show (makeRoom _ _ _ _).1 = false from h]; rfl)))
    · exact hrow.trans (congrArg Host.Outcome.next ((if_neg (by rw [show (makeRoom _ _ _ _).1 = true from h]; exact Bool.false_ne_true)).trans
        (if_pos (hl.imp_right fun ho => by rw [show (ovfRead _ _).1 = false from ho]; rfl))))
    · refine hrow.trans (congrArg Host.Outcome.next ((if_neg (by rw [show (makeRoom _ _ _ _).1 = true from h]; exact Bool.false_ne_true)).trans
        (if_neg ?_)))
      rintro (hl' | ho')
      · exact Bool.eq_false_iff.mp hl hl'
      · rw [show (ovfRead _ _).1 = true from ho] at ho'
        exact Bool.false_ne_true ho'
  · exact within_eq (decide_eq_true hj) ((if_neg (not_not.mpr hm)).trans rfl)
  · have hd' : ¬(getCluster k s).due = true := Bool.eq_false_iff.mp hd
    refine within_eq (decide_eq_true hk) ?_
    rw [hc]
    dsimp only
    rw [if_neg hd']
  · have hd' : (getCluster k s).due = true := hd
    refine within_eq (decide_eq_true hk) ?_
    rw [hc]
    dsimp only
    rw [if_pos hd']
  · exact within_eq (decide_eq_true hk) (by rw [hc])

end Sys2Proof.Machine
end

section
/-! PROOFS. The commands of collectives (R330, R357, R362). -/
namespace Sys2Proof.Machine

section
variable {c : Cmd} {bs : List Byte} {s : State}

/-- A cluster that cannot take a job is refused with a status other than OK. -/
theorem namedCluster_ne_zero {k step st : Nat} (h : namedCluster k step s = some st) : st ≠ 0 := by
  rw [namedCluster] at h
  split at h
  · exact Option.some.inj h ▸ by decide
  split at h
  · exact Option.some.inj h ▸ by decide
  split at h
  · exact Option.some.inj h ▸ by decide
  · exact nomatch h

/-- The job that COL_JOB_CREATE describes. -/
def namedJob (c : Cmd) (bs : List Byte) : Job := { record := (fit c.len bs).take 128, kids := chunks 32 256 ((fit c.len bs).drop 128) }

/-- The status and the cluster that COL_JOB_CREATE finds. -/
def foundCluster (k step : Nat) (s : State) : Nat × Nat :=
  if k = 255 then (match placeJob step s with | some d => (0, d) | none => (NO_CLUSTER, 0))
  else ((namedCluster k step s).getD 0, k)

theorem foundCluster_of_named {k step : Nat} (hk : k ≤ 3) : foundCluster k step s = ((namedCluster k step s).getD 0, k) :=
  if_neg (by omega)

theorem foundCluster_of_placed {step e : Nat} (h : placeJob step s = some e) : foundCluster 255 step s = (0, e) := by
  rw [foundCluster, if_pos rfl, h]

theorem foundCluster_of_none {step : Nat} (h : placeJob step s = none) : foundCluster 255 step s = (NO_CLUSTER, 0) := by
  rw [foundCluster, if_pos rfl, h]

/-- A job runs from now on in cluster `e`. -/
def jobCreated (j e : Nat) (n : Job) (u : State) : State :=
  let step := n.f 15 1
  let v := (takeFree u).2
  lookCeil j (lookCluster e (followGroup e (modJob j (fun x => { x with ceil := step }) (setJobSt j .running 0
    (setJob j { n with cluster := e, agreed := step, childIx := (takeFree u).1 % 65536 } { v with
      col := { v.col with ctrs := (List.range 16).foldl (fun t i => tset t (j * 16 + i) 0) v.col.ctrs } })))).2)

theorem colJobCreateCmd_eq (hj : c.op 0 1 ≤ 127) (hk : c.op 1 1 ≤ 3 ∨ c.op 1 1 = 255) (hlo : 160 ≤ c.len) (hhi : c.len ≤ 8320)
    (hmod : c.len % 32 = 0) (hst : (getJob (c.op 0 1) s).st = .free) (hlen : c.len = 128 + 32 * (namedJob c bs).children)
    (hok : jobOk (namedJob c bs) = true) (hkids : (namedJob c bs).kids.all (kidOk (namedJob c bs)) = true) : colJobCreateCmd c (.data bs) s =
      (let place := foundCluster (c.op 1 1) ((namedJob c bs).f 15 1) s
       if place.1 ≠ 0 then fail place.1 s else okayWith [byte place.2] (jobCreated (c.op 0 1) place.2 (namedJob c bs) s)) := by
  have hgood : ¬(c.len ≠ 128 + 32 * (namedJob c bs).children ∨ (!jobOk (namedJob c bs)) = true ∨
      (!(namedJob c bs).kids.all (kidOk (namedJob c bs))) = true) := by
    rintro (h | h | h)
    · exact h hlen
    · simp [hok] at h
    · rw [hkids] at h
      exact Bool.false_ne_true h
  rw [colJobCreateCmd]
  exact ((if_neg (by omega)).trans (if_neg (not_not.mpr hst))).trans ((if_neg hgood).trans rfl)

section
variable (hj : c.op 0 1 ≤ 127) (hk : c.op 1 1 ≤ 1) (hlen : c.len = 0)
include hj hk hlen

theorem colJobDestroyCmd_of_free (hst : (getJob (c.op 0 1) s).st = .free) : colJobDestroyCmd c s = fail JOB_BUSY s := by
  rw [colJobDestroyCmd]
  exact (if_neg (by omega)).trans (if_pos hst)

/-- A job is freed: of its entry only the last failure and the instant of the change stay. -/
theorem colJobDestroyCmd_of_used (hst : (getJob (c.op 0 1) s).st ≠ .free) : ∃ t, colJobDestroyCmd c s = okay t ∧
    ∃ x : Job, getJob (c.op 0 1) t = { fail := x.fail, changeTs := x.changeTs, changePh := x.changePh } := by
  rw [colJobDestroyCmd]
  exact ⟨_, (if_neg (by omega)).trans (if_neg hst), _, getJob_setJob ..⟩

end

theorem colJobReadCmd_okay (hj : c.op 0 1 ≤ 127) (h1 : 1 ≤ c.op 1 1) (hin : c.op 0 1 + c.op 1 1 ≤ 128) (hlen : c.len = 128 * c.op 1 1) :
    colJobReadCmd c s = okayData ((List.range (c.op 1 1)).flatMap fun i => jobEntry (c.op 0 1 + i) s ++ jobCounters (c.op 0 1 + i) s) s := by
  rw [colJobReadCmd]
  exact if_neg (by omega)

section
variable (hj : c.op 0 1 ≤ 127) (hk : c.op 1 1 ≤ 3) (hlen : c.len = 0)
include hj hk hlen

theorem colJobMoveCmd_of_free (hst : (getJob (c.op 0 1) s).st = .free) : colJobMoveCmd c s = fail JOB_BUSY s := by
  rw [colJobMoveCmd]
  exact (if_neg (by omega)).trans (if_pos hst)

theorem colJobMoveCmd_of_failed (hst : (getJob (c.op 0 1) s).st = .failed) : colJobMoveCmd c s = fail JOB_FAILED s := by
  rw [colJobMoveCmd]
  exact ((if_neg (by omega)).trans (if_neg (by rw [hst]; decide))).trans (if_pos hst)

variable (hfree : (getJob (c.op 0 1) s).st ≠ .free) (hfail : (getJob (c.op 0 1) s).st ≠ .failed) (hne : c.op 1 1 ≠ (getJob (c.op 0 1) s).cluster)
include hfree hfail hne

theorem colJobMoveCmd_of_good (h : namedCluster (c.op 1 1) (getJob (c.op 0 1) s).agreed s = none) :
    colJobMoveCmd c s = okay (startMove (c.op 0 1) (c.op 1 1) s) := by
  rw [colJobMoveCmd]
  rw [if_neg (by omega), if_neg hfree, if_neg hfail, if_neg hne, h]

theorem colJobMoveCmd_of_bad {st : Nat} (h : namedCluster (c.op 1 1) (getJob (c.op 0 1) s).agreed s = some st) :
    colJobMoveCmd c s = fail st s := by
  rw [colJobMoveCmd]
  rw [if_neg (by omega), if_neg hfree, if_neg hfail, if_neg hne, h]

end

section
variable (hj : c.op 0 1 ≤ 127) (hk : c.op 1 1 ≤ 7 ∨ c.op 1 1 = 255) (hlen : c.len = 0)
include hj hk hlen

theorem colPaceProposeCmd_of_free (hst : (getJob (c.op 0 1) s).st = .free) : colPaceProposeCmd c s = fail JOB_BUSY s := by
  rw [colPaceProposeCmd]
  exact (if_neg (by omega)).trans (if_pos hst)

theorem colPaceProposeCmd_of_failed (hst : (getJob (c.op 0 1) s).st = .failed) : colPaceProposeCmd c s = fail JOB_FAILED s := by
  rw [colPaceProposeCmd]
  exact ((if_neg (by omega)).trans (if_neg (by rw [hst]; decide))).trans (if_pos hst)

theorem colPaceProposeCmd_okay (hfree : (getJob (c.op 0 1) s).st ≠ .free) (hfail : (getJob (c.op 0 1) s).st ≠ .failed) :
    colPaceProposeCmd c s = okay (lookCeil (c.op 0 1) (setJob (c.op 0 1)
      { getJob (c.op 0 1) s with host := if c.op 1 1 = 255 then none else some (c.op 1 1) } s)) := by
  rw [colPaceProposeCmd]
  exact ((if_neg (by omega)).trans (if_neg hfree)).trans (if_neg hfail)

end

theorem namedCluster_started (k step : Nat) : namedCluster k step (started c s) = namedCluster k step s := rfl

theorem placeJob_started (step : Nat) : placeJob step (started c s) = placeJob step s := rfl

end

/-- Settles O39. -/
theorem collectiveCommands : Obligations.CollectiveCommands := by
  intro c bs s u j k x d n step ends
  refine ⟨fun h hj hlo hhi hmod hst hlen hok hkids => ⟨fun e he => ?_, fun st hk hc => ?_, fun hk hp => ?_⟩,
    fun h hj hk hlen => ⟨fun hst => ?_, fun hst => ?_⟩, fun h hj h1 hin hlen => ?_,
    fun h hj hk hlen => ⟨fun hfree hfail hne => ⟨fun hc => ?_, fun st hc => ?_⟩, fun hst => ?_, fun hst => ?_⟩,
    fun h hj hk hlen => ⟨fun hfree hfail => ?_, fun hst => ?_, fun hst => ?_⟩⟩
  · have hk : c.op 1 1 ≤ 3 ∨ c.op 1 1 = 255 := he.imp (·.1) (·.1)
    have hfound : foundCluster (c.op 1 1) ((namedJob c bs).f 15 1) u = (0, e) := by
      rcases he with ⟨hk3, hc, rfl⟩ | ⟨hk255, hp⟩
      · have hc' : namedCluster (c.op 1 1) ((namedJob c bs).f 15 1) s = none := hc
        rw [foundCluster_of_named hk3, namedCluster_started, hc']
        rfl
      · rw [show c.op 1 1 = 255 from hk255]
        exact foundCluster_of_placed ((placeJob_started _).trans hp)
    have hb := colJobCreateCmd_eq (s := u) hj hk hlo hhi hmod hst hlen hok hkids
    rw [hfound] at hb
    exact next_done h (hb.trans (if_neg (not_not.mpr rfl)))
  · have hfound : foundCluster (c.op 1 1) ((namedJob c bs).f 15 1) u = (st, c.op 1 1) := by
      have hc' : namedCluster (c.op 1 1) ((namedJob c bs).f 15 1) s = some st := hc
      rw [foundCluster_of_named hk, namedCluster_started, hc']
      rfl
    have hb := colJobCreateCmd_eq (s := u) hj (.inl hk) hlo hhi hmod hst hlen hok hkids
    rw [hfound] at hb
    exact next_done h (hb.trans (if_pos (namedCluster_ne_zero hc)))
  · have hfound : foundCluster (c.op 1 1) ((namedJob c bs).f 15 1) u = (NO_CLUSTER, 0) := by
      rw [show c.op 1 1 = 255 from hk]
      exact foundCluster_of_none ((placeJob_started _).trans hp)
    have hb := colJobCreateCmd_eq (s := u) hj (.inr hk) hlo hhi hmod hst hlen hok hkids
    rw [hfound] at hb
    exact next_done h (hb.trans (if_pos (by decide)))
  · obtain ⟨t, hb, y, hy⟩ := colJobDestroyCmd_of_used (s := u) hj hk hlen hst
    exact ⟨t, next_done h hb, by rw [hy], by rw [hy], by rw [hy]⟩
  · exact next_done h (colJobDestroyCmd_of_free (s := u) hj hk hlen hst)
  · exact next_done h (colJobReadCmd_okay (s := u) hj h1 hin hlen)
  · exact next_done h (colJobMoveCmd_of_good (s := u) hj hk hlen hfree hfail hne ((namedCluster_started ..).trans hc))
  · exact next_done h (colJobMoveCmd_of_bad (s := u) hj hk hlen hfree hfail hne ((namedCluster_started ..).trans hc))
  · exact next_done h (colJobMoveCmd_of_free (s := u) hj hk hlen hst)
  · exact next_done h (colJobMoveCmd_of_failed (s := u) hj hk hlen hst)
  · exact next_done h (colPaceProposeCmd_okay (s := u) hj hk hlen hfree hfail)
  · exact next_done h (colPaceProposeCmd_of_free (s := u) hj hk hlen hst)
  · exact next_done h (colPaceProposeCmd_of_failed (s := u) hj hk hlen hst)

end Sys2Proof.Machine
end

section
/-! PROOFS. The buffer pools (chapter 12). -/
namespace Sys2Proof.Machine

/-- A command that its owner answers later. -/
theorem next_later {op : Nat} {c : Cmd} {s t : State} {body : Cmd → State → State × CmdEnd} (h : ready op c s = true)
    (hb : body c (started c s) = (t, .later)) : (.next (runCmd op c.ref body s) : Res) = .next t :=
  congrArg Host.Outcome.next (runCmd_later h hb)

/-- What a cycle of a pool leaves, its answer given. -/
def grantAnswered (r : Option (PoolWho × Option Nat) × State) : State :=
  match r.1 with
  | some a => poolAnswer a r.2
  | none => r.2

theorem exec_poolGrant {pool : Nat} (hp : pool < 8) (s : State) : exec (.poolGrant pool) s = .next (grantAnswered (poolCycle pool s)) :=
  within_of (decide_eq_true hp) _

section
variable {c : Cmd} {bs : List Byte} {s : State}

theorem poolOn_started : poolOn (started c s) = poolOn s := rfl

theorem poolCount_started (k : Nat) : poolCount k (started c s) = poolCount k s := by
  simp only [poolCount, started_rd]

theorem poolFor_started (size tier : Nat) : poolFor size tier (started c s) = poolFor size tier s := by
  simp only [poolFor, poolCount_started]

section
variable (hon : poolOn s = true) (h1 : 1 ≤ c.op 0 4) (h4 : c.op 0 4 ≤ 4194304) (ht : c.op 4 1 ≤ 1) (hs : c.op 5 1 ≤ 1) (hlen : c.len = 0)
  (ho : hostOwner (c.op 6 2) = true)
include hon h1 h4 ht hs hlen ho

theorem poolAllocCmd_of_some {k : Nat} (h : poolFor (c.op 0 4) (c.op 4 1) s = some k) : poolAllocCmd c s =
    (poolRequest k 0 { port := 0, spill := bitAt (c.op 5 1) 0, owner := c.op 6 2, who := .cmd c.ref } s, .later) := by
  rw [poolAllocCmd]
  rw [if_neg (by simp [hon]), if_neg (by omega), if_neg (by simp [ho]), h]

theorem poolAllocCmd_of_none (h : poolFor (c.op 0 4) (c.op 4 1) s = none) : poolAllocCmd c s = fail POOL_EMPTY s := by
  rw [poolAllocCmd]
  rw [if_neg (by simp [hon]), if_neg (by omega), if_neg (by simp [ho]), h]

end

section
variable (hon : poolOn s = true) (hh : handleOk (c.op 0 4) s = true) (hlen : c.len = 0) (ho : hostOwner (c.op 4 2) = true)
include hon hh hlen ho

theorem poolFreeCmd_eq : poolFreeCmd c s = fail (poolFreeBy (c.op 0 4) (c.op 4 2) s).1 (poolFreeBy (c.op 0 4) (c.op 4 2) s).2 := by
  rw [poolFreeCmd]
  exact ((if_neg (by simp [hon])).trans (if_neg (by simp [hh, hlen]))).trans (if_neg (by simp [ho]))

theorem poolTransferCmd_eq (hn : ownerOk (c.op 6 2) = true) : poolTransferCmd c s =
    fail (poolGive (c.op 0 4) (c.op 4 2) (c.op 6 2) s).1 (poolGive (c.op 0 4) (c.op 4 2) (c.op 6 2) s).2 := by
  rw [poolTransferCmd]
  exact ((if_neg (by simp [hon])).trans (if_neg (by simp [hh, hlen]))).trans (if_neg (by simp [ho, hn]))

end

theorem poolOwnerFreeAllCmd_eq (hlen : c.len = 0) (ho : hostOwner (c.op 0 2) = true) : poolOwnerFreeAllCmd c s =
    okayWith (le 4 (ownedBy (c.op 0 2) s).length) ((ownedBy (c.op 0 2) s).foldl (fun s h => poolRelease h s) s) := by
  rw [poolOwnerFreeAllCmd]
  exact (if_neg (not_not.mpr hlen)).trans (if_neg (by simp [ho]))

theorem poolFreeBy_of_right {h who : Nat} (hr : poolRight h who s = 0) : poolFreeBy h who s = (0, poolRelease h s) := if_pos hr

theorem poolGive_of_right {h who new : Nat} (hr : poolRight h who s = 0) :
    poolGive h who new s = (0, setPBuf h { getPBuf h s with owner := new } s) := if_pos hr

/-! ### POOL_COPY (R369, R378, R380) -/

theorem poolStart_started (k : Nat) : poolStart k (started c s) = poolStart k s := by
  simp only [poolStart, poolCount_started, started_rd]

theorem handleAddr_started (h : Nat) : handleAddr h (started c s) = handleAddr h s := by
  simp only [handleAddr, poolStart_started]

theorem handleOk_started (h : Nat) : handleOk h (started c s) = handleOk h s := by
  simp only [handleOk, poolCount_started]

theorem halfOf_started (a : Nat) : halfOf a (started c s) = halfOf a s := rfl

theorem halfServes_started (h : Nat) : halfServes h (started c s) = halfServes h s := rfl

theorem poolRight_started (h who : Nat) : poolRight h who (started c s) = poolRight h who s := rfl

theorem poolCopyDoms_started : poolCopyDoms c (started c s) = poolCopyDoms c s := by
  simp only [poolCopyDoms, handleAddr_started, halfOf_started]

/-- POOL_COPY of no bytes, or with its memory half on, answers what its owner does. -/
theorem next_poolCopy {ans : HostAns} {t : State} {r : CmdRes} (h : ready 0x55 c s = true) (hd : c.len = 0 ∨ domsDown (poolCopyDoms c s) s = false)
    (hb : poolCopyCmd c ans (started c s) = (t, .done r)) : exec (.poolCopy c.ref ans) s = .next (conclude c r (poolCopyDoms c s) t) := by
  have hrun := runCmdIn_of_ready h poolCopyDoms (by rwa [poolCopyDoms_started]) fun c => poolCopyCmd c ans
  rw [hb, poolCopyDoms_started] at hrun
  exact congrArg Host.Outcome.next hrun

section
variable (hon : poolOn s = true) (hh : handleOk (c.op 0 4) s = true) (hdir : c.op 10 1 ≤ 1) (hin : c.op 4 4 + c.len ≤ poolSize (handlePool (c.op 0 4)))
  (ho : hostOwner (c.op 8 2) = true) (hr : poolRight (c.op 0 4) (c.op 8 2) s = 0)
  (hm : handleM (c.op 0 4) = true → halfServes (halfOf (handleAddr (c.op 0 4) s) s) s = true)
include hon hh hdir hin ho hr hm

/-- POOL_COPY by the owner, in range and with its memory half serving. -/
theorem poolCopyCmd_eq (ans : HostAns) : poolCopyCmd c ans s =
    if c.len = 0 then okay s
    else if c.op 10 1 = 0 then
      match ans with
      | .error _ got => withHost c ans (bufWrite (c.op 0 4) (c.op 4 4) (got.take c.len) s).2 fun _ => okay s
      | .data _ => withHost c ans s fun bs => fail (bufWrite (c.op 0 4) (c.op 4 4) bs s).1 (bufWrite (c.op 0 4) (c.op 4 4) bs s).2
    else
      let b := bufRead (c.op 0 4) (c.op 4 4) c.len s
      if b.1 = 0 then okayData b.2.1 b.2.2 else fail b.1 b.2.2 := by
  have hserves : ¬(handleM (c.op 0 4) = true ∧ (!halfServes (halfOf (handleAddr (c.op 0 4) s) s) s) = true) := by
    rintro ⟨hM, hn⟩
    rw [hm hM] at hn
    exact Bool.false_ne_true hn
  unfold poolCopyCmd
  exact (((((if_neg (by simp [hon])).trans (if_neg (by simp [hh]; omega))).trans (if_neg (by simp [ho]))).trans
    (if_neg (not_not.mpr hr))).trans (if_neg hserves)).trans rfl

theorem poolCopyCmd_of_none {ans : HostAns} (hlen : c.len = 0) : poolCopyCmd c ans s = okay s :=
  (poolCopyCmd_eq hon hh hdir hin ho hr hm ans).trans (if_pos hlen)

variable (hlen : c.len ≠ 0)
include hlen

theorem poolCopyCmd_of_write (h0 : c.op 10 1 = 0) : poolCopyCmd c (.data bs) s =
    fail (bufWrite (c.op 0 4) (c.op 4 4) (fit c.len bs) s).1 (bufWrite (c.op 0 4) (c.op 4 4) (fit c.len bs) s).2 :=
  (poolCopyCmd_eq hon hh hdir hin ho hr hm _).trans ((if_neg hlen).trans (if_pos h0))

theorem poolCopyCmd_of_read {ans : HostAns} (h1 : c.op 10 1 = 1) (hst : (bufRead (c.op 0 4) (c.op 4 4) c.len s).1 = 0) : poolCopyCmd c ans s =
    okayData (bufRead (c.op 0 4) (c.op 4 4) c.len s).2.1 (bufRead (c.op 0 4) (c.op 4 4) c.len s).2.2 :=
  (poolCopyCmd_eq hon hh hdir hin ho hr hm _).trans (((if_neg hlen).trans (if_neg (by omega))).trans (if_pos hst))

theorem poolCopyCmd_of_bad {ans : HostAns} (h1 : c.op 10 1 = 1) (hst : (bufRead (c.op 0 4) (c.op 4 4) c.len s).1 ≠ 0) : poolCopyCmd c ans s =
    fail (bufRead (c.op 0 4) (c.op 4 4) c.len s).1 (bufRead (c.op 0 4) (c.op 4 4) c.len s).2.2 :=
  (poolCopyCmd_eq hon hh hdir hin ho hr hm _).trans (((if_neg hlen).trans (if_neg (by omega))).trans (if_neg hst))

end

end

/-- Settles O40. -/
theorem poolRows : Obligations.PoolRows := by
  intro pool h v c bs ans s u hd owner w ends
  refine ⟨fun hp hn => ?_, fun hp a ha => ?_, fun ht => ⟨?_, ?_⟩, fun ok ht => ?_, fun hr hon h1 h4 ht hs hlen ho => ⟨fun k hk => ?_, fun hk => ?_⟩,
    fun hr hon hh hlen ho => ?_, fun hr hon hh hlen ho hn => ?_, fun hr => ⟨?_, ?_⟩, fun hr hlen => ?_, fun hr hlen ho => ?_,
    fun hr hon hh hdir hin ho hright hm => ?_, fun he hb => ⟨fun hon => ?_, fun hon hbad => ?_, fun hon hbad => ?_⟩⟩
  · rw [exec_poolGrant hp, grantAnswered, hn]
  · rw [exec_poolGrant hp, grantAnswered, ha]
  · exact congrArg Host.Outcome.next ((if_neg (by simp [ht])).trans (if_pos rfl))
  · exact congrArg Host.Outcome.next ((if_neg (by simp [ht])).trans (if_neg Bool.false_ne_true))
  · exact congrArg Host.Outcome.next (if_pos (by simp [ht]))
  · exact next_later hr (poolAllocCmd_of_some (s := u) hon h1 h4 ht hs hlen ho ((poolFor_started ..).trans hk))
  · exact next_done hr (poolAllocCmd_of_none (s := u) hon h1 h4 ht hs hlen ho ((poolFor_started ..).trans hk))
  · exact next_done hr (poolFreeCmd_eq (s := u) hon ((handleOk_started _).trans hh) hlen ho)
  · exact next_done hr (poolTransferCmd_eq (s := u) hon ((handleOk_started _).trans hh) hlen ho hn)
  · rw [poolFreeBy_of_right hr]
  · rw [poolGive_of_right hr]
  · exact next_done hr (if_neg (not_not.mpr hlen))
  · exact next_done hr (poolOwnerFreeAllCmd_eq (s := u) hlen ho)
  · have hh' : handleOk (c.op 0 4) u = true := (handleOk_started _).trans hh
    have hm' : handleM (c.op 0 4) = true → halfServes (halfOf (handleAddr (c.op 0 4) u) u) u = true := by
      rw [halfServes_started, halfOf_started, handleAddr_started]
      exact hm
    refine ⟨fun hlen => ?_, fun hlen hdom => ⟨fun h0 => ?_, fun h1 hst => ?_, fun h1 hst => ?_⟩⟩
    · have hrow := next_poolCopy hr (.inl hlen) (poolCopyCmd_of_none (s := u) hon hh' hdir hin ho hright hm' (ans := ans) hlen)
      rwa [conclude_of_len hlen] at hrow
    · exact next_poolCopy hr (.inr hdom) (poolCopyCmd_of_write (s := u) hon hh' hdir hin ho hright hm' hlen h0)
    · exact next_poolCopy hr (.inr hdom) (poolCopyCmd_of_read (s := u) hon hh' hdir hin ho hright hm' hlen h1 hst)
    · exact next_poolCopy hr (.inr hdom) (poolCopyCmd_of_bad (s := u) hon hh' hdir hin ho hright hm' hlen h1 hst)
  · exact congrArg Host.Outcome.next ((whenOpen_open _ he).trans ((if_pos hb).trans (if_pos hon)))
  · exact congrArg Host.Outcome.next ((whenOpen_open _ he).trans (((if_pos hb).trans (if_neg (Bool.eq_false_iff.mp hon))).trans (if_pos hbad)))
  · exact congrArg Host.Outcome.next ((whenOpen_open _ he).trans (((if_pos hb).trans (if_neg (Bool.eq_false_iff.mp hon))).trans
      (if_neg (Bool.eq_false_iff.mp hbad))))

end Sys2Proof.Machine
end

section
/-! PROOFS. The Serge engines (chapter 13). -/
namespace Sys2Proof.Machine

/-- A context with the data of its load in place. -/
def loaded (c : Ctx) : Ctx := (c.load.map fun l => { (c.setReg l.1 l.2) with load := none }).getD c

section
variable {e k r block : Nat} {s : State}

theorem exec_seqWord_ready {i : Nat} (he : e < 8) (hf : fencedU 11 e s = false) (hi : nextReady e s = some i) :
    exec (.seqWord e) s = .next (seqIssue e i s) := by
  refine within_eq (decide_eq_true he) ?_
  rw [hf, hi]
  rfl

theorem exec_seqWord_idle (he : e < 8) (hf : fencedU 11 e s = false) (hi : nextReady e s = none) :
    exec (.seqWord e) s = .next s := by
  refine within_eq (decide_eq_true he) ?_
  rw [hf, hi]
  rfl

theorem exec_seqWord_fenced (he : e < 8) (hf : fencedU 11 e s = true) : exec (.seqWord e) s = .next s :=
  within_eq (decide_eq_true he) (if_pos hf)

/-- Whether the wait of a context ends, its data in place. -/
def waitEnds (d : Ctx) (s : State) : Bool :=
  (d.wait.map fun w => w.cond == 8 || w.cond == 9 || (seqCond d w.cond (some w.since) s != w.neg)).getD true

/-- The context whose wait has ended. -/
def waitOver (d : Ctx) (s : State) : Ctx :=
  { d with st := .ready, pc := d.resume, wait := none,
           periodAt := if (d.wait.map fun w => w.cond == 9).getD false then s.aon else d.periodAt }

theorem loaded_wait (c : Ctx) : (loaded c).wait = c.wait := by
  unfold loaded
  cases c.load <;> rfl

theorem exec_waitEnd (he : e < 8) (hk : k < 4) (hw : (getCtx e k s).st = .waiting) (hh : seqHeld s = false) :
    exec (.waitEnd e k) s = .next (if waitEnds (loaded (getCtx e k s)) s then setCtx e k (waitOver (loaded (getCtx e k s)) s) s
      else setCtx e k (loaded (getCtx e k s)) s) := by
  have h : ¬((getCtx e k s).st ≠ .waiting ∨ seqHeld s = true) := by simp [hw, hh]
  refine within_eq (by simp [he, hk]) ((if_neg h).trans ?_)
  simp only [waitEnds, waitOver, loaded_wait]
  unfold loaded
  generalize getCtx e k s = c
  rcases hl : c.load with _ | ⟨r, v⟩ <;> rcases hc : c.wait with _ | w <;> simp only [Ctx.setReg, hc] <;> rfl

theorem exec_waitEnd_over {d : Ctx} (he : e < 8) (hk : k < 4) (hw : (getCtx e k s).st = .waiting) (hh : seqHeld s = false)
    (hd : waitEnds (loaded (getCtx e k s)) s = true) (hs : waitOver (loaded (getCtx e k s)) s = d) :
    exec (.waitEnd e k) s = .next (setCtx e k d s) := by
  rw [exec_waitEnd he hk hw hh, if_pos hd, hs]

theorem waitEnds_some {d : Ctx} {w : SeqWait} (h : d.wait = some w) :
    waitEnds d s = (w.cond == 8 || w.cond == 9 || (seqCond d w.cond (some w.since) s != w.neg)) := by
  rw [waitEnds, h]
  rfl

theorem waitOver_period {d : Ctx} {w : SeqWait} (h : d.wait = some w) (h9 : w.cond = 9) :
    waitOver d s = { d with st := .ready, pc := d.resume, wait := none, periodAt := s.aon } := by
  rw [waitOver, h, Option.map_some, h9]
  rfl

theorem waitOver_other {d : Ctx} (h : ∀ w, d.wait = some w → w.cond ≠ 9) :
    waitOver d s = { d with st := .ready, pc := d.resume, wait := none } := by
  rcases hw : d.wait with _ | w
  · rw [waitOver, hw]
    rfl
  · have h9 : (w.cond == 9) = false := beq_eq_false_iff_ne.mpr (h w hw)
    rw [waitOver, hw, Option.map_some, h9]
    rfl

theorem exec_waitTimeout (he : e < 8) (hk : k < 4) (hw : (getCtx e k s).st = .waiting) (hh : seqHeld s = false)
    (hl : rdFld Reg.seqCtrl 0 16 16 s ≠ 0)
    (hc : ∀ w, (getCtx e k s).wait = some w → w.cond ≠ 9 ∧ w.cond ≠ 10 ∧ w.cond ≠ 12) :
    exec (.waitTimeout e k) s = .next (seqTrap e k 2 0 s) := by
  refine within_eq (by simp [he, hk]) ?_
  rcases hx : (getCtx e k s).wait with _ | w
  · exact if_pos ⟨hw, by simp [hh], rfl, hl⟩
  · obtain ⟨h9, h10, h12⟩ := hc w hx
    exact if_pos ⟨hw, by simp [hh], by simp [h9, h10, h12], hl⟩

theorem exec_blockOpDone {res : BlockRes} (he : e < 8) (hk : k < 4) (hc : (getCtx e k s).st ≠ .free) :
    exec (.blockOpDone e k res) s = .next (blockDone e k res s) := within_eq (by simp [he, hk]) (if_neg hc)

theorem exec_blockOpDone_free {res : BlockRes} (he : e < 8) (hk : k < 4) (hc : (getCtx e k s).st = .free) :
    exec (.blockOpDone e k res) s = .next s := within_eq (by simp [he, hk]) (if_pos hc)

/-- A word of a block has an uncorrectable error. -/
def storeHurt (block : Nat) (s : State) : Bool :=
  ((List.range 64).map (64 * block + ·)).any fun a => upsetOf memStore a s == 2

theorem exec_storeRepair_sound (hb : block < 256) (hh : storeHurt block s = false) : exec (.storeRepair block) s = .next s :=
  within_eq (decide_eq_true hb) (if_pos ((Bool.not_eq_true' _).mpr hh))

theorem exec_storeRepair_crc (hb : block < 256) (hh : storeHurt block s = true)
    (hc : blockCrc (secStore s.seq.section5) block ≠ tget s.seq.crc block) :
    exec (.storeRepair block) s = .next (report 162 14 block (le 2 block) s) := by
  have h : ¬(!storeHurt block s) = true := by simp [hh]
  exact within_eq (decide_eq_true hb) ((if_neg h).trans (if_pos hc))

theorem setCtx_store (c : Ctx) (t : State) : (setCtx e k c t).seq.store = t.seq.store := by
  unfold setCtx
  dsimp only
  split <;> rfl

/-- One word of a store block is written again from the image copy. -/
def mendWord (copy : Tab Nat) (t : State) (a : Nat) : State :=
  clearUpset memStore a { t with seq := { t.seq with store := tset t.seq.store a (tget copy a) } }

theorem tget_mendWord {copy : Tab Nat} {t : State} {x a : Nat} (h : x = a ∨ tget t.seq.store a = tget copy a) :
    tget (mendWord copy t x).seq.store a = tget copy a := by
  rcases eq_or_ne a x with rfl | hax
  · exact tget_tset_self ..
  · exact (tget_tset_other _ _ _ _ hax).trans (h.resolve_left (Ne.symm hax))

theorem tget_mendWords {copy : Tab Nat} {a : Nat} (l : List Nat) (t : State) (h : a ∈ l ∨ tget t.seq.store a = tget copy a) :
    tget (l.foldl (mendWord copy) t).seq.store a = tget copy a := by
  induction l generalizing t with
  | nil => exact h.resolve_left List.not_mem_nil
  | cons x l ih =>
    refine ih _ ?_
    rcases h with h | h
    · rcases List.mem_cons.mp h with rfl | h
      · exact .inr (tget_mendWord (.inl rfl))
      · exact .inl h
    · exact .inr (tget_mendWord (.inr h))

/-- The trapped contexts that wait for a block's repair go on. -/
def wakeRepaired (block : Nat) (t : State) : State :=
  allCtx.foldl (fun s p =>
    let c := getCtx p.1 p.2 s
    if c.st = .trapped ∧ c.repair ∧ c.pc / 64 = block then
      setCtx p.1 p.2 { c with st := .ready, repair := false, savedWait := none, savedLoad := none } s
    else s) t

theorem wakeRepaired_store (t : State) : (wakeRepaired block t).seq.store = t.seq.store := by
  unfold wakeRepaired
  generalize allCtx = l
  induction l generalizing t with
  | nil => rfl
  | cons p l ih =>
    refine (ih _).trans ?_
    dsimp only
    split
    · exact setCtx_store _ _
    · rfl

theorem exec_storeRepair_mends (hb : block < 256) (hh : storeHurt block s = true)
    (hc : blockCrc (secStore s.seq.section5) block = tget s.seq.crc block) :
    exec (.storeRepair block) s = .next (wakeRepaired block
      (((List.range 64).map (64 * block + ·)).foldl (mendWord (secStore s.seq.section5)) s)) := by
  have h : ¬(!storeHurt block s) = true := by simp [hh]
  exact within_eq (decide_eq_true hb) ((if_neg h).trans (if_neg (not_not.mpr hc)))

theorem storeRepair_word {i : Nat} (hi : i < 64) : tget (wakeRepaired block
      (((List.range 64).map (64 * block + ·)).foldl (mendWord (secStore s.seq.section5)) s)).seq.store (64 * block + i) =
    tget (secStore s.seq.section5) (64 * block + i) := by
  rw [wakeRepaired_store]
  exact tget_mendWords _ _ (.inl (List.mem_map.mpr ⟨i, List.mem_range.mpr hi, rfl⟩))

theorem exec_stopTimeout {i j : Nat} (hr : r < 64) (hs : stopReq r s = true) (hc : ctxOf r s = some (i, j)) :
    exec (.stopTimeout r) s = .next (endRun i j 2 0x82 s) := by
  refine within_eq (decide_eq_true hr) ((if_pos hs).trans ?_)
  rw [hc]

theorem exec_noIssueTimeout (he : e < 8) (hr : (nextReady e s).isSome = true) (hf : fencedU 11 e s = false) :
    exec (.noIssueTimeout e) s = .next (report 166 11 e [byte e] s) :=
  within_eq (decide_eq_true he) (if_pos ⟨hr, by simp [hf]⟩)

theorem exec_noIssueTimeout_idle (he : e < 8) (hr : nextReady e s = none) : exec (.noIssueTimeout e) s = .next s := by
  have h : ¬((nextReady e s).isSome = true ∧ (!fencedU 11 e s) = true) := by simp [hr]
  exact within_eq (decide_eq_true he) (if_neg h)

end

/-- Settles O41. -/
theorem sergeRuns : Obligations.SergeRuns := by
  unfold Obligations.SergeRuns
  intro e k r block res s he hk hr hb c d
  refine ⟨fun hf i => exec_seqWord_ready he hf, exec_seqWord_idle he, exec_seqWord_fenced he, fun hw hh => ⟨?_, ?_, ?_, ?_⟩,
    fun hw hh hl => exec_waitTimeout he hk hw hh hl, within_of (decide_eq_true hr) _, exec_blockOpDone he hk,
    exec_blockOpDone_free he hk, ⟨exec_storeRepair_sound hb, exec_storeRepair_crc hb,
      fun hh hc => ⟨_, exec_storeRepair_mends hb hh hc, fun i hi => storeRepair_word hi⟩⟩,
    fun hs i j => exec_stopTimeout hr hs, exec_noIssueTimeout he, exec_noIssueTimeout_idle he⟩
  · intro hn
    have hd : (loaded c).wait = none := (loaded_wait c).trans hn
    exact exec_waitEnd_over he hk hw hh (congrArg (fun x => Option.getD (Option.map _ x) true) hd)
      (waitOver_other fun w h => nomatch hd.symm.trans h)
  · intro w hc h9
    have hd : (loaded c).wait = some w := (loaded_wait c).trans hc
    exact exec_waitEnd_over he hk hw hh ((waitEnds_some hd).trans (by simp [h9])) (waitOver_period hd h9)
  · intro w hc h9 ho
    have hd : (loaded c).wait = some w := (loaded_wait c).trans hc
    refine exec_waitEnd_over he hk hw hh ((waitEnds_some hd).trans ?_) (waitOver_other fun v hv => ?_)
    · rcases ho with h8 | h
      · simp [h8]
      · exact Bool.or_eq_true_iff.mpr (.inr (bne_iff_ne.mpr h))
    · exact Option.some.inj (hd.symm.trans hv) ▸ h9
  · intro w hc h8 h9 h
    have hd : (loaded c).wait = some w := (loaded_wait c).trans hc
    have hn : ¬waitEnds (loaded c) s = true := by
      rw [waitEnds_some hd]
      have h' : (seqCond (loaded c) w.cond (some w.since) s != w.neg) = false := bne_eq_false_iff_eq.mpr h
      simp [h8, h9, h']
    exact (exec_waitEnd he hk hw hh).trans (congrArg _ (if_neg hn))

/-- A command whose turn it is in a mode that forbids its opcode. -/
theorem runCmd_forbidden {op : Nat} {c : Cmd} {s : State} {body : Cmd → State → State × CmdEnd} (hf : findCmd c.ref s = some c)
    (he : s.sys.mode.engine = true) (ho : c.opcode = op) (hs : c.stage = .fetched) (hr : startable c s = true)
    (hm : modeForbids c.opcode s = true) : runCmd op c.ref body s = finish c { status := 5 } 0 0 s := by
  unfold runCmd runCmdIn
  rw [hf]
  refine (if_pos ⟨he, ho, hs, hr, .inr hm⟩).trans ?_
  rw [startCheck, if_pos hm]

section
variable {c : Cmd} {bs : List Byte} {s : State}

theorem seqLoadCmd_loads (hl : c.len ≠ 0) (hf : secForm (fit c.len bs) = true) (hs : secSigned (fit c.len bs) s = true)
    (hr : rollbackOk (byteAt (fit c.len bs) 1029) s = true) (hc : secChecked (fit c.len bs) = true) :
    seqLoadCmd c (.data bs) s = okay (loadSection (fit c.len bs) s) := by
  rw [seqLoadCmd, if_neg hl, withHost, if_neg (by simp [hf]), if_neg (by simp [hs]), if_neg (by simp [hr]), if_neg (by simp [hc])]

theorem seqLoadCmd_form (hl : c.len ≠ 0) (hf : secForm (fit c.len bs) = false) :
    seqLoadCmd c (.data bs) s = fail 2 (report 240 0 0 [] s) := by
  rw [seqLoadCmd, if_neg hl, withHost, if_pos (by simp [hf])]
  rfl

/-- The entry that SEQ_ROUTINE_SET writes. -/
def newRoutine (c : Cmd) (s : State) : Nat :=
  setFld (setFld (setFld (rtEntry (c.op 0 1) s) 32 8 (c.op 1 1)) 40 8 (c.op 2 1)) 64 32 (c.op 4 4)

theorem seqRoutineSetCmd_sets (ha : c.op 0 1 ≤ 63) (ht : c.op 2 1 ≤ 4) (hl : c.len = 0) :
    seqRoutineSetCmd c s = okay { s with seq := { s.seq with table := tset s.seq.table (c.op 0 1) (newRoutine c s) } } :=
  if_neg (by omega)

theorem seqRunCmd_begins {e i : Nat} (h1 : 1 ≤ c.op 0 1) (h63 : c.op 0 1 ≤ 63) (hv : rtValid (rtEntry (c.op 0 1) s) = true)
    (ht : rtTrigger (rtEntry (c.op 0 1) s) = 3) (hl : c.len = 0) (hc : ctxOf (c.op 0 1) s = none)
    (hf : freeCtx (rtEngines (rtEntry (c.op 0 1) s)) s = some (e, i)) :
    seqRunCmd c s = okay (beginRun e i (c.op 0 1) (rtPc (rtEntry (c.op 0 1) s)) (c.op 8 8) true s) := by
  have hn : ¬(c.op 0 1 > 63 ∨ c.op 0 1 = 0 ∨ (!rtValid (rtEntry (c.op 0 1) s)) = true ∨ rtTrigger (rtEntry (c.op 0 1) s) ≠ 3 ∨
      c.len ≠ 0) := by
    simp only [hv, ht, hl, Bool.not_true, Bool.false_eq_true, ne_eq, not_true_eq_false, or_false]
    omega
  have hc' : ¬(ctxOf (c.op 0 1) s).isSome = true := by simp [hc]
  refine ((if_neg hn).trans (if_neg hc')).trans ?_
  rw [hf]

theorem seqStopCmd_ended (ha : c.op 0 1 ≤ 63) (hl : c.len = 0) (hc : ctxOf (c.op 0 1) s = none) : seqStopCmd c s = okay s := by
  rw [seqStopCmd, if_neg (by omega), hc]
  rfl

theorem seqStopCmd_waits (ha : c.op 0 1 ≤ 63) (hl : c.len = 0) (hc : (ctxOf (c.op 0 1) s).isSome = true) :
    seqStopCmd c s = ({ s with seq := { s.seq with stops := s.seq.stops ++ [(c.op 0 1, c.ref)] } }, .later) := by
  have hn : ¬(ctxOf (c.op 0 1) s).isNone = true := by rw [Option.isNone_iff_eq_none]; exact Option.isSome_iff_ne_none.mp hc
  rw [seqStopCmd, if_neg (by omega), if_neg hn]

theorem seqFrameReadCmd_reads (he : c.op 0 1 ≤ 7) (hk : c.op 1 1 ≤ 3) (hl : c.len = 192)
    (hh : scratchHard (c.op 0 1) (frameAt (c.op 1 1)) 192 s = false) :
    seqFrameReadCmd c s = okayData (scratchRead (c.op 0 1) (frameAt (c.op 1 1)) 192
      (scratchFix (c.op 0 1) (frameAt (c.op 1 1)) 192 s)) (scratchFix (c.op 0 1) (frameAt (c.op 1 1)) 192 s) :=
  (if_neg (by omega)).trans (if_neg (ne_true_of_eq_false hh))

theorem seqFrameReadCmd_hard (he : c.op 0 1 ≤ 7) (hk : c.op 1 1 ≤ 3) (hl : c.len = 192)
    (hh : scratchHard (c.op 0 1) (frameAt (c.op 1 1)) 192 s = true) :
    seqFrameReadCmd c s = fail TARGET_ECC (report 163 11 (c.op 0 1) [byte (c.op 0 1)] s) := (if_neg (by omega)).trans (if_pos hh)

section
variable (he : c.op 0 1 ≤ 7) (hk : c.op 1 1 ≤ 3) (hl : c.len = 0)
include he hk hl

theorem seqResumeCmd_running (hw : c.op 2 1 ≤ 2) (ht : (getCtx (c.op 0 1) (c.op 1 1) s).st ≠ .trapped) :
    seqResumeCmd c s = fail 0x80 s := (if_neg (by omega)).trans (if_pos ht)

theorem seqResumeCmd_restores (ht : (getCtx (c.op 0 1) (c.op 1 1) s).st = .trapped) (hw : c.op 2 1 = 0)
    (hh : scratchHard (c.op 0 1) (frameAt (c.op 1 1)) 192 s = false) :
    seqResumeCmd c s = okay (restoreFrame (c.op 0 1) (c.op 1 1) s) := by
  rw [seqResumeCmd, if_neg (by omega), if_neg (not_not.mpr ht), if_neg (by simp [hh]), if_pos hw]

theorem seqResumeCmd_past (ht : (getCtx (c.op 0 1) (c.op 1 1) s).st = .trapped) (hw : c.op 2 1 = 1)
    (hh : scratchHard (c.op 0 1) (frameAt (c.op 1 1)) 192 s = false) :
    seqResumeCmd c s = okay (resumePast (c.op 0 1) (c.op 1 1) s) := by
  rw [seqResumeCmd, if_neg (by omega), if_neg (not_not.mpr ht), if_neg (by simp [hh]), if_neg (by omega), if_pos hw]

theorem seqResumeCmd_ends (ht : (getCtx (c.op 0 1) (c.op 1 1) s).st = .trapped) (hw : c.op 2 1 = 2) :
    seqResumeCmd c s = okay (endRun (c.op 0 1) (c.op 1 1) (b2n (stopReq (getCtx (c.op 0 1) (c.op 1 1) s).routine s)) 0 s) := by
  rw [seqResumeCmd, if_neg (by omega), if_neg (not_not.mpr ht), if_neg (by omega), if_neg (by omega), if_neg (by omega)]

end

/-- Some of `n` store words from `first` on have an uncorrectable error. -/
def wordsHurt (first n : Nat) (s : State) : Bool := (List.range n).any fun i => upsetOf memStore (first + i) s == 2

/-- The correctable ones of `n` store words from `first` on are mended. -/
def wordsMended (first n : Nat) (s : State) : State :=
  ((List.range n).filter fun i => upsetOf memStore (first + i) s == 1).foldl
    (fun t i => report 161 14 (first + i) (le 2 (first + i)) (clearUpset memStore (first + i) t)) s

theorem seqStoreReadCmd_reads (h1 : 1 ≤ c.op 2 2) (hr : c.op 0 2 + c.op 2 2 ≤ 16384) (hl : c.len = 16 * c.op 2 2)
    (hh : wordsHurt (c.op 0 2) (c.op 2 2) s = false) :
    seqStoreReadCmd c s = okayData ((List.range (c.op 2 2)).flatMap fun i =>
      le 16 (tget (wordsMended (c.op 0 2) (c.op 2 2) s).seq.store (c.op 0 2 + i))) (wordsMended (c.op 0 2) (c.op 2 2) s) :=
  (if_neg (by omega)).trans (if_neg (ne_true_of_eq_false hh))

theorem seqStoreReadCmd_hard (h1 : 1 ≤ c.op 2 2) (hr : c.op 0 2 + c.op 2 2 ≤ 16384) (hl : c.len = 16 * c.op 2 2)
    (hh : wordsHurt (c.op 0 2) (c.op 2 2) s = true) :
    seqStoreReadCmd c s = fail TARGET_ECC (report 160 14 (c.op 0 2) (le 2 (c.op 0 2)) s) :=
  (if_neg (by omega)).trans (if_pos hh)

end

theorem modeForbids_seqLoad {s : State} (h1 : s.sys.mode ≠ .staged) (h2 : s.sys.mode ≠ .diag) : modeForbids 0xA0 s = true := by
  simp [modeForbids, h1, h2]

/-- Settles O42. -/
theorem sergeCommands : Obligations.SergeCommands := by
  unfold Obligations.SergeCommands
  intro c bs ans s u a k d ends
  refine ⟨fun h hl => ⟨fun h1 h2 h3 h4 => next_done h (seqLoadCmd_loads (s := u) hl h1 h2 h3 h4),
      fun h1 => next_done h (seqLoadCmd_form (s := u) hl h1)⟩,
    fun hf he ho hs hr h1 h2 => congrArg _ (runCmd_forbidden hf he ho hs hr (ho ▸ modeForbids_seqLoad h1 h2)),
    fun h ha ht hl => next_done h (seqRoutineSetCmd_sets (s := u) ha ht hl), fun h h1 h63 hv ht hl hc e i hf => ?_,
    fun h ha hl => ⟨fun hc => ?_, fun hc => ?_⟩, fun h he hk hl => ⟨fun hh => ?_, fun hh => ?_⟩,
    fun h he hk hl ht => ⟨fun hw hh => ?_, fun hw hh => ?_, fun hw => ?_⟩,
    fun h he hk hl hw ht => next_done h (seqResumeCmd_running (s := u) he hk hl hw ht), ?_⟩
  · exact next_done h (seqRunCmd_begins (s := u) h1 h63 hv ht hl ((started_ctxOf c a s).trans hc) ((started_freeCtx c _ s).trans hf))
  · exact next_done h (seqStopCmd_ended (s := u) ha hl ((started_ctxOf c a s).trans hc))
  · exact next_later h (seqStopCmd_waits (s := u) ha hl ((started_ctxOf c a s).symm ▸ hc))
  · exact next_done h (seqFrameReadCmd_reads (s := u) he hk hl ((started_scratchHard c ..).trans hh))
  · exact next_done h (seqFrameReadCmd_hard (s := u) he hk hl ((started_scratchHard c ..).trans hh))
  · exact next_done h (seqResumeCmd_restores (s := u) he hk hl ht hw ((started_scratchHard c ..).trans hh))
  · exact next_done h (seqResumeCmd_past (s := u) he hk hl ht hw ((started_scratchHard c ..).trans hh))
  · exact next_done h (seqResumeCmd_ends (s := u) he hk hl ht hw)
  · intro first n soft v h h1 hr hl
    exact ⟨fun hh => next_done h (seqStoreReadCmd_reads (s := u) h1 hr hl hh),
      fun hh => next_done h (seqStoreReadCmd_hard (s := u) h1 hr hl hh)⟩

end Sys2Proof.Machine
end

section
/-! PROOFS. The memory interface (chapter 14). -/
namespace Sys2Proof.Machine

section
variable {ch bank row half n : Nat} {t : TrainRes} {s : State}

/-- A channel whose training answered, outside WIPE. -/
def trainedChan (ch : Nat) (t : TrainRes) (s : State) : MChan :=
  { getMChan ch s with st := .ready, trained := t.ok, temp := chanTemp ch s / 16, trainedAt := s.aon, rate := t.rate }

/-- The same in WIPE, which also notes what the channel is. -/
def wipedChan (ch : Nat) (t : TrainRes) (s : State) : MChan :=
  { trainedChan ch t s with density := some t.density, width := t.width }

theorem trainingDone_ok (hc : (getMChan ch s).st = .training) (hw : s.sys.mode ≠ .wipe) (ht : t.ok = true) :
    trainingDone ch t s = setMChan ch (trainedChan ch t s) s := by
  unfold trainingDone
  simp [hc, hw, ht, trainedChan]

theorem trainingDone_failed (hc : (getMChan ch s).st = .training) (hw : s.sys.mode ≠ .wipe) (ht : t.ok = false) :
    trainingDone ch t s = report 176 9 ch [byte ch] (setMChan ch (trainedChan ch t s) s) := by
  unfold trainingDone
  simp [hc, hw, ht, trainedChan]

theorem trainingDone_absent (hc : (getMChan ch s).st = .training) (hw : s.sys.mode = .wipe) (ha : t.answered = false) :
    trainingDone ch t s = settleMem (setMChan ch { getMChan ch s with st := .absent, density := none } s) := by
  unfold trainingDone
  simp [hc, hw, ha]

theorem trainingDone_wipe (hc : (getMChan ch s).st = .training) (hw : s.sys.mode = .wipe) (ha : t.answered = true)
    (ht : t.ok = true) : trainingDone ch t s = settleMem (setMChan ch (wipedChan ch t s) s) := by
  unfold trainingDone
  simp [hc, hw, ha, ht, wipedChan, trainedChan]

theorem trainingDone_wipe_failed (hc : (getMChan ch s).st = .training) (hw : s.sys.mode = .wipe) (ha : t.answered = true)
    (ht : t.ok = false) :
    trainingDone ch t s = settleMem (report 176 9 ch [byte ch] (setMChan ch (wipedChan ch t s) s)) := by
  unfold trainingDone
  simp [hc, hw, ha, ht, wipedChan, trainedChan]

theorem trainingDone_retrained (hc : (getMChan ch s).st ≠ .training) (hr : (getMChan ch s).retraining = true) (ht : t.ok = true) :
    trainingDone ch t s = setMChan ch
      { getMChan ch s with retraining := false, retry := false, temp := chanTemp ch s / 16, trainedAt := s.aon } s :=
  ((if_neg hc).trans (if_pos hr)).trans (if_pos ht)

theorem trainingDone_retrain_failed (hc : (getMChan ch s).st ≠ .training) (hr : (getMChan ch s).retraining = true)
    (ht : t.ok = false) : trainingDone ch t s =
      report 177 9 ch [byte ch] (setMChan ch { getMChan ch s with retraining := false, retry := true } s) :=
  ((if_neg hc).trans (if_pos hr)).trans (if_neg (ne_true_of_eq_false ht))

theorem trainingDone_idle (hc : (getMChan ch s).st ≠ .training) (hr : (getMChan ch s).retraining = false) :
    trainingDone ch t s = s := (if_neg hc).trans (if_neg (ne_true_of_eq_false hr))

theorem exec_channelTrainingDone {u : State} (hch : ch < 32) (h : trainingDone ch t s = u) :
    exec (.channelTrainingDone ch t) s = .next u := within_eq (decide_eq_true hch) h

theorem exec_periodicRetrain (hch : ch < 32) (hm : mayRetrain ch s = true) (hd : retrainDue ch s = true) :
    exec (.periodicRetrain ch) s = .next (startRetrain ch s) := within_eq (decide_eq_true hch) (if_pos ⟨hm, hd⟩)

theorem exec_periodicRetrain_not (hch : ch < 32) (h : mayRetrain ch s = false ∨ retrainDue ch s = false) :
    exec (.periodicRetrain ch) s = .next s :=
  within_eq (decide_eq_true hch) (if_neg fun ⟨hm, hd⟩ => h.elim (ne_false_of_eq_true hm) (ne_false_of_eq_true hd))

theorem exec_retrainRetry (hch : ch < 32) (hm : mayRetrain ch s = true) (hr : (getMChan ch s).retry = true) :
    exec (.retrainRetry ch) s = .next (startRetrain ch s) := within_eq (decide_eq_true hch) (if_pos ⟨hr, hm⟩)

theorem exec_retrainRetry_not (hch : ch < 32) (h : mayRetrain ch s = false ∨ (getMChan ch s).retry = false) :
    exec (.retrainRetry ch) s = .next s :=
  within_eq (decide_eq_true hch) (if_neg fun ⟨hr, hm⟩ => h.elim (ne_false_of_eq_true hm) (ne_false_of_eq_true hr))

theorem refresh_serves (hu : chanUp ch s = true) (hc : (getMChan ch s).st = .ready) :
    ¬((!chanUp ch s) = true ∨ (getMChan ch s).st ≠ .ready) := by simp [hu, hc]

section
variable (hch : ch < 32) (hu : chanUp ch s = true) (hc : (getMChan ch s).st = .ready)
include hch hu hc

theorem exec_refresh_postponed (hl : tget (getMChan ch s).late bank < 8) : exec (.refresh ch bank true) s = .next (setMChan ch
    { getMChan ch s with late := tset (getMChan ch s).late bank (tget (getMChan ch s).late bank + 1) } s) :=
  within_eq (decide_eq_true hch) ((if_neg (refresh_serves hu hc)).trans (if_pos ⟨rfl, hl⟩))

theorem exec_refresh_busy (hl : 8 ≤ tget (getMChan ch s).late bank) : exec (.refresh ch bank true) s = .next (setMChan ch
    { getMChan ch s with refreshes := tset (getMChan ch s).refreshes bank (tget (getMChan ch s).refreshes bank + 1) } s) :=
  within_eq (decide_eq_true hch)
    (((if_neg (refresh_serves hu hc)).trans (if_neg fun h => absurd h.2 (by omega))).trans (if_pos rfl))

theorem exec_refresh_idle : exec (.refresh ch bank false) s = .next (setMChan ch { getMChan ch s with
    late := tset (getMChan ch s).late bank 0,
    refreshes := tset (getMChan ch s).refreshes bank (tget (getMChan ch s).refreshes bank + (tget (getMChan ch s).late bank + 1)) } s) :=
  within_eq (decide_eq_true hch)
    (((if_neg (refresh_serves hu hc)).trans (if_neg fun h => nomatch h.1)).trans (if_neg Bool.false_ne_true))

theorem exec_selfRefreshEntry (ha : autoSr s = true) (hr : (getMChan ch s).retraining = false) :
    exec (.selfRefreshEntry ch) s = .next (setMChan ch { getMChan ch s with st := .selfRefresh } s) :=
  within_eq (decide_eq_true hch) (if_pos ⟨ha, hc, by simp [hr], hu⟩)

end

theorem exec_refresh_not (hch : ch < 32) (h : chanUp ch s = false ∨ (getMChan ch s).st ≠ .ready) (b : Bool) :
    exec (.refresh ch bank b) s = .next s :=
  within_eq (decide_eq_true hch) (if_pos (h.imp (Bool.not_eq_true' _).mpr id))

theorem exec_selfRefreshEntry_not (hch : ch < 32)
    (h : autoSr s = false ∨ (getMChan ch s).st ≠ .ready ∨ (getMChan ch s).retraining = true ∨ chanUp ch s = false) :
    exec (.selfRefreshEntry ch) s = .next s := by
  refine within_eq (decide_eq_true hch) (if_neg ?_)
  rintro ⟨ha, hc, hr, hu⟩
  rcases h with h | h | h | h
  · exact ne_false_of_eq_true ha h
  · exact h hc
  · simp [h] at hr
  · exact ne_false_of_eq_true hu h

/-! ### Scrubbing -/

/-- The 28 bursts of a row are handled. -/
def scrubRow (ch row : Nat) (s : State) : State := (List.range 28).foldl (fun t i => burlapScan (rowAddr ch row i t) 64 t) s

/-- A row may be scrubbed. -/
def mayScrub (ch row : Nat) (s : State) : Bool := bitAt (rd Reg.memCtrl 0 s) 1 && chanUp ch s && decide (row < memRows s)

theorem mayScrub_iff : mayScrub ch row s = true ↔ ¬((!bitAt (rd Reg.memCtrl 0 s) 1) = true ∨ (!chanUp ch s) = true ∨ row ≥ memRows s) := by
  simp [mayScrub, and_assoc]

theorem exec_scrubRead_not (hch : ch < 32) (h : mayScrub ch row s = false) (l : LinkFound) :
    exec (.scrubRead ch row l) s = .next s :=
  within_eq (decide_eq_true hch) (if_pos (by_contra fun hn => ne_false_of_eq_true (mayScrub_iff.mpr hn) h))

/-- What a scrub read does with the link's finding, after the bursts are handled. -/
def scrubLink (ch row : Nat) (s t : State) : LinkFound → State
  | .clean => t
  | .corrected n => linkSeen ch n t
  | .lost => report 178 9 ch (le 8 (rowAddr ch row 0 s)) t

theorem exec_scrubRead (hch : ch < 32) (h : mayScrub ch row s = true) (l : LinkFound) :
    exec (.scrubRead ch row l) s = .next (scrubLink ch row s (scrubRow ch row s) l) := by
  refine within_eq (decide_eq_true hch) ((if_neg (mayScrub_iff.mp h)).trans ?_)
  cases l <;> rfl

theorem halfOf_lt (a : Nat) (s : State) : halfOf a s < 2 := by
  unfold halfOf
  split <;> omega

theorem chanOfAddr_lt (a : Nat) (s : State) : chanOfAddr a s < 32 := by
  have h := halfOf_lt a s
  unfold chanOfAddr
  omega

theorem foldl_fixed {α β : Type} {f : β → α → β} {b : β} (l : List α) (h : ∀ x ∈ l, f b x = b) : l.foldl f b = b := by
  induction l with
  | nil => rfl
  | cons x l ih =>
    rw [List.foldl_cons, h x List.mem_cons_self]
    exact ih fun y hy => h y (List.mem_cons_of_mem x hy)

theorem burlapScan_sound {a n : Nat} (hr : ∀ k, k < 32 → (getMChan k s).st ≠ .selfRefresh)
    (hs : ∀ b ∈ burstsOf a n, upsetOf memBurst b s = 0) : burlapScan a n s = s := by
  have hu : (burstsOf a n).foldl (fun t b => chanUsed (chanOfAddr (64 * b) t) t) s = s :=
    foldl_fixed _ fun b _ => if_neg (hr _ (chanOfAddr_lt _ _))
  have hf : ∀ k, k ≠ 0 → ((burstsOf a n).filter fun b => upsetOf memBurst b s == k) = [] := fun k hk =>
    List.filter_eq_nil_iff.mpr fun b hb => by rw [hs b hb, beq_iff_eq]; exact Ne.symm hk
  unfold burlapScan
  simp only [hu, hf 1 one_ne_zero, hf 2 two_ne_zero, List.foldl_nil]

theorem scrubRow_sound (hr : ∀ k, k < 32 → (getMChan k s).st ≠ .selfRefresh)
    (hs : ((List.range 28).all fun i => (burstsOf (rowAddr ch row i s) 64).all fun b => upsetOf memBurst b s == 0) = true) :
    scrubRow ch row s = s :=
  foldl_fixed _ fun i hi => burlapScan_sound hr fun b hb =>
    eq_of_beq (List.all_eq_true.mp (List.all_eq_true.mp hs i hi) b hb)

/-! ### A half that powers up -/

/-- A channel of a half still trains. -/
def halfTrains (half : Nat) (s : State) : Bool := (List.range 16).any fun i => decide ((getMChan (16 * half + i) s).st = .training)

/-- A half that has powered up, its memory zeroed. -/
def halfRisen (half : Nat) (s : State) : State :=
  let v := { s with upset := s.upset.filter fun e => !(e.1 % 64 == memBurst && halfOf (64 * (e.1 / 64)) s == half) }
  setDom (27 + half) { getDom (27 + half) s with st := .on, up := none } { v with mem := { s.mem with
    serving := setFld s.mem.serving half 1 1, burlap := mzero s.mem.burlap (half * (usable s / 2)) (usable s / 2), rate := commonRate v } }

theorem halfReady_rises (hd : (getDom (27 + half) s).st = .poweringUp) (ht : halfTrains half s = false) :
    (getDom (27 + half) s).up = none → halfReady half s = halfRisen half s := by
  intro hu
  refine (if_neg ?_).trans ?_
  · rintro (h | h)
    · exact h hd
    · exact ne_false_of_eq_true h ht
  · dsimp only
    rw [hu]
    rfl

theorem halfReady_finishes {r : CmdRef} (hd : (getDom (27 + half) s).st = .poweringUp) (ht : halfTrains half s = false)
    (hu : (getDom (27 + half) s).up = some r) : halfReady half s = finishRef r {} (halfRisen half s) := by
  refine (if_neg ?_).trans ?_
  · rintro (h | h)
    · exact h hd
    · exact ne_false_of_eq_true h ht
  · dsimp only
    rw [hu]
    rfl

theorem halfReady_not (h : (getDom (27 + half) s).st ≠ .poweringUp ∨ halfTrains half s = true) : halfReady half s = s := if_pos h

theorem exec_halfReady {u : State} (hh : half < 2) (h : halfReady half s = u) : exec (.halfReady half) s = .next u :=
  within_eq (decide_eq_true hh) h

end

/-- Settles O43. -/
theorem memoryInterface : Obligations.MemoryInterface := by
  unfold Obligations.MemoryInterface
  intro ch bank row half n t s hch c up wiped scrubbed scrubs x trains kept zeroed risen
  refine ⟨fun hc hw => ⟨fun ht => ?_, fun ht => ?_⟩, fun hc hw => ⟨fun ha => ?_, fun ha ht => ?_, fun ha ht => ?_⟩,
    fun hc hr => ⟨fun ht => ?_, fun ht => ?_⟩, fun hc hr => exec_channelTrainingDone hch (trainingDone_idle hc hr),
    exec_periodicRetrain hch, exec_periodicRetrain_not hch, exec_retrainRetry hch, exec_retrainRetry_not hch,
    fun hu hc => ⟨exec_refresh_postponed hch hu hc, exec_refresh_busy hch hu hc, exec_refresh_idle hch hu hc⟩,
    exec_refresh_not hch, fun ha hc hr hu => exec_selfRefreshEntry hch hu hc ha hr, exec_selfRefreshEntry_not hch,
    fun h => ⟨fun hr hs => ?_, exec_scrubRead hch h .clean, exec_scrubRead hch h (.corrected n), exec_scrubRead hch h .lost⟩,
    exec_scrubRead_not hch, fun hh hd ht => ⟨fun hu => ?_, fun r hu => ?_⟩, fun hh h => exec_halfReady hh (halfReady_not h)⟩
  · exact exec_channelTrainingDone hch (trainingDone_ok hc hw ht)
  · exact exec_channelTrainingDone hch (trainingDone_failed hc hw ht)
  · exact exec_channelTrainingDone hch (trainingDone_absent hc hw ha)
  · exact exec_channelTrainingDone hch (trainingDone_wipe hc hw ha ht)
  · exact exec_channelTrainingDone hch (trainingDone_wipe_failed hc hw ha ht)
  · exact exec_channelTrainingDone hch (trainingDone_retrained hc hr ht)
  · exact exec_channelTrainingDone hch (trainingDone_retrain_failed hc hr ht)
  · exact (exec_scrubRead hch h .clean).trans (congrArg _ (scrubRow_sound hr hs))
  · exact exec_halfReady hh (halfReady_rises hd ht hu)
  · exact exec_halfReady hh (halfReady_finishes hd ht hu)

end Sys2Proof.Machine
end

section
/-! PROOFS. The time unit (chapter 15): rows and commands. -/
namespace Sys2Proof.Machine

theorem bitAt_zero_setFld (v lo w x : Nat) : bitAt (setFld v (lo + 1) w x) 0 = bitAt v 0 := by
  have hle : fld v (lo + 1) w * 2 ^ (lo + 1) ≤ v :=
    (Nat.mul_le_mul_right _ (Nat.mod_le _ _)).trans (Nat.div_mul_le_self _ _)
  simp only [bitAt, setFld, pow_zero, Nat.div_one]
  generalize fld v (lo + 1) w = k at hle ⊢
  have h1 : k * 2 ^ (lo + 1) = k * 2 ^ lo * 2 := by ring
  have h2 : x % 2 ^ w * 2 ^ (lo + 1) = x % 2 ^ w * 2 ^ lo * 2 := by ring
  rw [h1] at hle ⊢
  rw [h2]
  congr 1
  omega

/-! ### Time bases -/

section
variable {n k : Nat} {s t : State}

theorem getTb_setTb (x : TimeBase) : getTb n (setTb n x s) = x := tget_tset_self ..

theorem getTb_setTb_ne (h : n ≠ k) (x : TimeBase) : getTb n (setTb k x s) = getTb n s := tget_tset_other _ _ _ _ h

theorem getTb_of_tim (h : t.tim = s.tim) : getTb n t = getTb n s := by rw [getTb, h, getTb]

theorem getTb_post (code : Nat) (bs : List Byte) (s : State) : getTb n (post code bs s) = getTb n s :=
  getTb_of_tim ((fr_post code bs s).tim.resolve_left (by decide))

theorem getTb_report (cls kind unit : Nat) (bs : List Byte) (s : State) : getTb n (report cls kind unit bs s) = getTb n s :=
  getTb_of_tim ((fr_report cls kind unit bs s).tim.resolve_left (by decide))

theorem getTb_setPair (p : Nat) (odd : Bool) (c : Int) (s : State) : getTb n (setPair p odd c s) = getTb n s := by
  unfold setPair
  split <;> rfl

theorem getTb_autoSwitch (s : State) : getTb n (autoSwitch k s) = getTb n s := by
  unfold autoSwitch
  dsimp only
  split
  · exact (getTb_post ..).trans (getTb_setPair ..)
  · rfl

theorem getTb_setTbState_ne (h : n ≠ k) (st : TbState) (cause : Nat) (s : State) :
    getTb n (setTbState k st cause s) = getTb n s := by
  unfold setTbState
  dsimp only
  split
  · rfl
  · exact ((getTb_autoSwitch _).trans (getTb_post ..)).trans (getTb_setTb_ne h _)

theorem tgetD_tsetD_other {α : Type} [DecidableEq α] {t : Tab α} {k a : Nat} (v d : α) {e : α} (h : a ≠ k) :
    tgetD (tsetD t k v e) a d = tgetD t a d := by
  unfold tsetD
  split
  · exact tgetD_tdrop_other t k a d h
  · exact tgetD_tput_other t k a v d h

/-- What a change of state leaves of a base that is not fenced. -/
structure TbChanged (st : TbState) (a b : TimeBase) : Prop where
  state : b.state = st
  sec : b.sec = a.sec
  ns : b.ns = a.ns
  trim : b.trim = a.trim
  ratio : b.ratio = a.ratio

theorem TbChanged.total {st : TbState} {a b : TimeBase} (h : TbChanged st a b) : b.total = a.total := by
  rw [TimeBase.total, h.sec, h.ns, TimeBase.total]

theorem TbChanged.trans {x st : TbState} {a b c : TimeBase} (h : TbChanged x a b) (h' : TbChanged st b c) : TbChanged st a c :=
  ⟨h'.state, h'.sec.trans h.sec, h'.ns.trans h.ns, h'.trim.trans h.trim, h'.ratio.trans h.ratio⟩

theorem setTbState_changed (st : TbState) (cause : Nat) (hf : (getTb n s).state ≠ .fenced) :
    TbChanged st (getTb n s) (getTb n (setTbState n st cause s)) := by
  unfold setTbState
  dsimp only
  split
  · next h => exact ⟨h, rfl, rfl, rfl, rfl⟩
  · rw [getTb_autoSwitch, getTb_post, getTb_setTb]
    cases st with
    | stopped => exact ⟨rfl, rfl, rfl, rfl, rfl⟩
    | running => exact ⟨rfl, rfl, rfl, rfl, rfl⟩
    | holdover => exact ⟨rfl, rfl, rfl, rfl, rfl⟩
    | fenced => exact ⟨rfl, rfl, rfl, rfl, rfl⟩

theorem tbWatch_tim (f : State → State) (s : State) : (tbWatch f s).tim = (f s).tim := by
  unfold tbWatch
  dsimp only
  split
  · rfl
  · refine ((fr_gatesFollowTb _).tim.resolve_left (by decide)).trans ?_
    exact (Fr.foldl (.refl _ _) fun a k h => h.trans (fr_suspectTime k a)).tim.resolve_left (by decide)

theorem getTb_tbWatch (f : State → State) (s : State) : getTb n (tbWatch f s) = getTb n (f s) := getTb_of_tim (tbWatch_tim f s)

theorem tbWatch_fixed {f : State → State} (h : f s = s) : tbWatch f s = s := by
  have hc : ((List.range 4).filter fun k => decide (tbRuns k s ≠ tbRuns k s)) = [] :=
    List.filter_eq_nil_iff.mpr fun k _ => by simp
  unfold tbWatch
  simp only [h, hc, List.isEmpty_nil, if_true]

/-! ### TIM_TB_CFG -/

/-- The configuration that a write of `v` to TIM_TB_CFG leaves. -/
def tbCfgWritten (n v : Nat) (s : State) : Nat :=
  let old := rd Reg.timTbCfg n s
  let srcBad := decide (bitAt v 1 ≠ bitAt old 1) && decide ((getTb n s).state ≠ .stopped)
  let v := if srcBad then setFld v 1 1 (fld old 1 1) else v
  let sm := fld v 8 17
  if 1 ≤ sm ∧ sm ≤ 100000 then v else setFld v 8 17 (fld old 8 17)

theorem bitAt_tbCfgWritten (v : Nat) (s : State) : bitAt (tbCfgWritten n v s) 0 = bitAt v 0 := by
  unfold tbCfgWritten
  dsimp only
  split <;> split <;> simp only [bitAt_zero_setFld]

/-- A write of TIM_TB_CFG as the register takes it. -/
def tbCfgEntered (n v : Nat) (s : State) : State :=
  { wrRw Reg.timTbCfg n (tbCfgWritten n v s) s with tim := { s.tim with
    cfgErr := decide (bitAt v 1 ≠ bitAt (rd Reg.timTbCfg n s) 1) && decide ((getTb n s).state ≠ .stopped) } }

/-- The same once a slew that the write ends is abandoned, before the base starts or stops. -/
def tbCfgStored (n v : Nat) (s : State) : State :=
  if bitAt (rd Reg.timTbCfg n s) 2 ∧ !bitAt (tbCfgWritten n v s) 2 then abandonSlew n (tbCfgEntered n v s) else tbCfgEntered n v s

theorem writeTbCfg_enable {v : Nat} (hv : bitAt v 0 = true) (ht : (getTb n s).state = .stopped) :
    writeTbCfg n v s = setTbState n .running 0 (tbCfgStored n v s) :=
  (if_pos ((bitAt_tbCfgWritten v s).trans hv)).trans (if_pos ht)

theorem writeTbCfg_disable {v : Nat} (hv : bitAt v 0 = false) (ht : (getTb n s).state ≠ .fenced) :
    writeTbCfg n v s = setTbState n .stopped 0 (tbCfgStored n v s) :=
  (if_neg (ne_true_of_eq_false ((bitAt_tbCfgWritten v s).trans hv))).trans (if_neg ht)

theorem getTb_abandonSlew (s : State) : TbChanged (getTb n s).state (getTb n s) (getTb n (abandonSlew n s)) := by
  unfold abandonSlew
  dsimp only
  split
  · exact ⟨rfl, rfl, rfl, rfl, rfl⟩
  · rw [slewDone, getTb_post, getTb_setTb]
    exact ⟨rfl, rfl, rfl, rfl, rfl⟩

theorem getTb_tbCfgStored (v : Nat) (s : State) : TbChanged (getTb n s).state (getTb n s) (getTb n (tbCfgStored n v s)) := by
  unfold tbCfgStored
  split
  · exact getTb_abandonSlew (tbCfgEntered n v s)
  · exact ⟨rfl, rfl, rfl, rfl, rfl⟩

theorem writeTb_enable {v : Nat} (hv : bitAt v 0 = true) (ht : (getTb n s).state = .stopped) :
    TbChanged .running (getTb n s) (getTb n (writeTb n v s)) := by
  have h := getTb_tbCfgStored (n := n) v s
  have hf : (getTb n (tbCfgStored n v s)).state ≠ .fenced := by rw [h.state, ht]; decide
  have h' := setTbState_changed .running 0 hf
  rw [writeTb, getTb_tbWatch, writeTbCfg_enable hv ht]
  exact h.trans h'

theorem writeTb_disable {v : Nat} (hv : bitAt v 0 = false) (ht : (getTb n s).state = .running) :
    TbChanged .stopped (getTb n s) (getTb n (writeTb n v s)) := by
  have h := getTb_tbCfgStored (n := n) v s
  have hf : (getTb n (tbCfgStored n v s)).state ≠ .fenced := by rw [h.state, ht]; decide
  have h' := setTbState_changed .stopped 0 hf
  rw [writeTb, getTb_tbWatch, writeTbCfg_disable hv (by rw [ht]; decide)]
  exact h.trans h'

/-! ### CLK10_IN -/

/-- Every word of the registers past the pending bits of the host interface stays. -/
structure RegsPast (s t : State) : Prop where
  regs : ∀ a d, 0x40A028 ≤ a → tgetD t.regs a d = tgetD s.regs a d

namespace RegsPast
variable {u : State}

theorem of_regs (h : t.regs = s.regs) : RegsPast s t := ⟨fun _ _ _ => by rw [h]⟩

theorem trans (h : RegsPast s t) (h' : RegsPast t u) : RegsPast s u := ⟨fun a d ha => (h'.regs a d ha).trans (h.regs a d ha)⟩

theorem rd_eq (h : RegsPast s t) {r : RegDesc} {n : Nat} (hr : 0x40A028 ≤ r.addr n) : rd r n t = rd r n s := by
  simp only [rd, rdWord]
  rw [h.regs _ _ (by omega), h.regs _ _ (by omega)]

theorem wr_msixPba {n v : Nat} (hn : n < 10) (s : State) : RegsPast s (wr Reg.msixPba n v s) := by
  refine ⟨fun a d ha => ?_⟩
  have hne : a ≠ Reg.msixPba.addr n + 4 * 0 := by
    have h : Reg.msixPba.addr n = 0x40A000 + 4 * n := by simp [RegDesc.addr, Reg.msixPba]
    omega
  exact tgetD_tsetD_other _ _ hne

theorem raiseVector {n : Nat} (hn : n < 256) (h : RegsPast s t) : RegsPast s (raiseVector n t) := by
  unfold Machine.raiseVector
  split
  · exact h.trans (wr_msixPba (by omega) t)
  · exact h.trans (of_regs rfl)

theorem writeEvent {n : Nat} (hn : n < 256) (e : Event) (h : RegsPast s t) : RegsPast s (writeEvent n e t) := by
  unfold Machine.writeEvent
  dsimp only
  split
  · exact h.trans (of_regs rfl)
  · split
    · exact raiseVector hn (h.trans (of_regs rfl))
    · exact h.trans (of_regs rfl)

theorem post (code : Nat) (bs : List Byte) (h : RegsPast s t) : RegsPast s (post code bs t) := by
  unfold Machine.post
  dsimp only
  split
  · exact h
  · split
    · have hn : fld (rd Reg.hifEventRoute (code / 4096) t) 0 8 < 256 := Nat.mod_lt _ (by decide)
      unfold asyncToRing
      dsimp only
      split
      · exact writeEvent hn _ h
      · split <;> exact h.trans (of_regs rfl)
    · exact h.trans (of_regs rfl)

theorem setPair (p : Nat) (odd : Bool) (c : Int) (h : RegsPast s t) : RegsPast s (setPair p odd c t) := by
  unfold Machine.setPair
  split <;> exact h.trans (of_regs rfl)

theorem autoSwitch (k : Nat) (h : RegsPast s t) : RegsPast s (autoSwitch k t) := by
  unfold Machine.autoSwitch
  dsimp only
  split
  · exact post _ _ (setPair _ _ _ h)
  · exact h

theorem setTb (k : Nat) (x : TimeBase) (h : RegsPast s t) : RegsPast s (setTb k x t) := h.trans (of_regs rfl)

theorem setTbState (k : Nat) (st : TbState) (cause : Nat) (h : RegsPast s t) : RegsPast s (setTbState k st cause t) := by
  unfold Machine.setTbState
  dsimp only
  split
  · exact h
  · exact autoSwitch _ (post _ _ (setTb _ _ h))

theorem report (cls kind unit : Nat) (bs : List Byte) (h : RegsPast s t) : RegsPast s (report cls kind unit bs t) :=
  h.trans (of_regs ((fr_report cls kind unit bs t).regs.resolve_left (by decide)))

end RegsPast

/-- What the loss of CLK10_IN does to one base. -/
def clk10Hit (ratio : Nat) (s : State) (n : Nat) : State :=
  if (getTb n s).state = .running ∧ bitAt (rd Reg.timTbCfg n s) 1 then
    setTbState n .holdover 1 (report 193 12 n [byte n] (setTb n { getTb n s with ratio := ratio } s))
  else s

theorem clk10Hit_regs (ratio : Nat) (s : State) (n : Nat) : RegsPast s (clk10Hit ratio s n) := by
  unfold clk10Hit
  split
  · exact .setTbState _ _ _ (.report _ _ _ _ (.setTb _ _ (.of_regs rfl)))
  · exact .of_regs rfl

theorem getTb_clk10Hit_ne {ratio : Nat} (h : n ≠ k) : getTb n (clk10Hit ratio s k) = getTb n s := by
  unfold clk10Hit
  split
  · rw [getTb_setTbState_ne h, getTb_report, getTb_setTb_ne h]
  · rfl

/-- A base that runs on CLK10_IN. -/
def onClk10 (n : Nat) (s : State) : Prop := (getTb n s).state = .running ∧ bitAt (rd Reg.timTbCfg n s) 1 = true

theorem onClk10_hit_ne {ratio : Nat} (h : n ≠ k) (hn : onClk10 n s) : onClk10 n (clk10Hit ratio s k) := by
  have ha : 0x40A028 ≤ Reg.timTbCfg.addr n := by
    have h : Reg.timTbCfg.addr n = 0x3400100 + 64 * n := by simp [RegDesc.addr, Reg.timTbCfg]
    omega
  exact ⟨by rw [getTb_clk10Hit_ne h, hn.1], by rw [(clk10Hit_regs ratio s k).rd_eq ha, hn.2]⟩

/-- A base that CLK10_IN has left. -/
def heldAt (ratio n : Nat) (s : State) : Prop := (getTb n s).state = .holdover ∧ (getTb n s).ratio = ratio

theorem heldAt_hit {ratio : Nat} (hn : onClk10 n s) : heldAt ratio n (clk10Hit ratio s n) := by
  have hr : getTb n (report 193 12 n [byte n] (setTb n { getTb n s with ratio := ratio } s)) = { getTb n s with ratio := ratio } := by
    rw [getTb_report, getTb_setTb]
  have h := setTbState_changed (n := n) (s := report 193 12 n [byte n] (setTb n { getTb n s with ratio := ratio } s)) .holdover 1
    (by rw [hr, hn.1]; decide)
  have he : clk10Hit ratio s n = _ := if_pos hn
  rw [he]
  exact ⟨h.state, by rw [h.ratio, hr]⟩

theorem heldAt_hit_kept {ratio : Nat} (hn : heldAt ratio n s) : heldAt ratio n (clk10Hit ratio s k) := by
  by_cases h : n = k
  · subst h
    have hs : ¬((getTb n s).state = .running ∧ bitAt (rd Reg.timTbCfg n s) 1 = true) := by rw [hn.1]; exact fun h => nomatch h.1
    rw [clk10Hit, if_neg hs]
    exact hn
  · rw [heldAt, getTb_clk10Hit_ne h]
    exact hn

theorem heldAt_hits {ratio : Nat} (l : List Nat) (s : State) (h : n ∈ l ∧ onClk10 n s ∨ heldAt ratio n s) :
    heldAt ratio n (l.foldl (clk10Hit ratio) s) := by
  induction l generalizing s with
  | nil => exact h.resolve_left fun h => List.not_mem_nil h.1
  | cons k l ih =>
    refine ih _ ?_
    rcases h with ⟨hm, hn⟩ | h
    · by_cases hk : n = k
      · exact .inr (hk ▸ heldAt_hit (hk ▸ hn))
      · exact .inl ⟨(List.mem_cons.mp hm).resolve_left hk, onClk10_hit_ne hk hn⟩
    · exact .inr (heldAt_hit_kept h)

theorem exec_clk10Loss (ratio : Nat) (s : State) :
    exec (.clk10Loss ratio) s = .next (tbWatch (fun s => (List.range 4).foldl (clk10Hit ratio) s) s) := rfl

theorem exec_clk10Loss_none {ratio : Nat} (h : ∀ k, k < 4 → (getTb k s).state ≠ .running ∨ bitAt (rd Reg.timTbCfg k s) 1 = false) :
    exec (.clk10Loss ratio) s = .next s := by
  have hf : (List.range 4).foldl (clk10Hit ratio) s = s := foldl_fixed _ fun k hk =>
    if_neg fun hk' => (h k (List.mem_range.mp hk)).elim (fun hr => hr hk'.1) (ne_false_of_eq_true hk'.2)
  exact (exec_clk10Loss ratio s).trans (congrArg _ (tbWatch_fixed hf))

theorem heldAt_clk10Loss {ratio : Nat} (hn : n < 4) (h : onClk10 n s) :
    heldAt ratio n (tbWatch (fun s => (List.range 4).foldl (clk10Hit ratio) s) s) := by
  rw [heldAt, getTb_tbWatch]
  exact heldAt_hits _ s (.inl ⟨List.mem_range.mpr hn, h⟩)

/-! ### The other rows -/

theorem exec_tbEnable {v : Word} (hn : n < 4) (he : s.sys.mode.engine = true) (hv : bitAt v.toNat 0 = true) :
    exec (.tbEnable n v) s = .next (writeTb n v.toNat s) :=
  (within_whenOpen (decide_eq_true hn) he _).trans (congrArg _ (if_pos hv))

theorem exec_tbDisable {v : Word} (hn : n < 4) (he : s.sys.mode.engine = true) (hv : bitAt v.toNat 0 = false) :
    exec (.tbDisable n v) s = .next (writeTb n v.toNat s) :=
  (within_whenOpen (decide_eq_true hn) he _).trans (congrArg _ (if_neg (ne_true_of_eq_false hv)))

theorem exec_slewDisable {v : Word} (hn : n < 4) (he : s.sys.mode.engine = true) (hv : bitAt v.toNat 2 = false) :
    exec (.slewDisable n v) s = .next (writeTb n v.toNat s) :=
  (within_whenOpen (decide_eq_true hn) he _).trans (congrArg _ (if_neg (ne_true_of_eq_false hv)))

theorem exec_slewComplete (hn : n < 4) (hp : (getTb n s).pending ≠ 0) (hr : (getTb n s).state = .running) :
    exec (.slewComplete n) s = .next (slewDone n 0 (setTb n
      { (getTb n s).setFine (((getTb n s).fine : Int) + (getTb n s).pending) with pending := 0, slewEnd := false } s)) :=
  within_eq (decide_eq_true hn) (if_pos (.inl ⟨hp, .inl hr⟩))

theorem exec_slewComplete_none (hn : n < 4) (hp : (getTb n s).pending = 0) (he : (getTb n s).slewEnd = false) :
    exec (.slewComplete n) s = .next s :=
  within_eq (decide_eq_true hn) (if_neg fun h => h.elim (fun h => h.1 hp) (ne_true_of_eq_false he))

theorem exec_holdoverExit (hn : n < 4) (hs : (getTb n s).state = .holdover) :
    exec (.holdoverExit n) s = .next (tbWatch (setTbState n .running 2) s) := within_eq (decide_eq_true hn) (if_pos hs)

theorem holdoverExit_runs (hs : (getTb n s).state = .holdover) :
    (getTb n (tbWatch (setTbState n .running 2) s)).state = .running := by
  rw [getTb_tbWatch]
  exact (setTbState_changed .running 2 (by rw [hs]; decide)).state

theorem exec_holdoverExit_not (hn : n < 4) (hs : (getTb n s).state ≠ .holdover) : exec (.holdoverExit n) s = .next s :=
  within_eq (decide_eq_true hn) (if_neg hs)

/-- Output `k` pulses at the seconds of base `n`. -/
def pulsesAt (n k : Nat) (s : State) : Bool := bitAt (rd Reg.timPpsOut k s) 0 && decide (rdFld Reg.timPpsOut k 1 2 s = n)

/-- The first output and the time of day at a second of base `n`. -/
def firstPulse (n : Nat) (s : State) : State :=
  if pulsesAt n 0 s then
    if bitAt (rd Reg.timTodCfg 0 s) 0 then emit (.tod (rdFld Reg.timTodCfg 0 1 15 s) (todBytes n s)) (pulse 0 s) else pulse 0 s
  else s

theorem exec_secondBoundary (hn : n < 4) (hr : tbRuns n s = true) :
    exec (.secondBoundary n) s = .next (if pulsesAt n 1 s then pulse 1 (firstPulse n s) else firstPulse n s) :=
  within_eq (decide_eq_true hn) (if_pos hr)

theorem exec_secondBoundary_first (hn : n < 4) (hr : tbRuns n s = true) (h1 : pulsesAt n 1 s = false) {u : State}
    (hu : firstPulse n s = u) : exec (.secondBoundary n) s = .next u := by
  rw [exec_secondBoundary hn hr, if_neg (ne_true_of_eq_false h1), hu]

theorem exec_secondBoundary_both (hn : n < 4) (hr : tbRuns n s = true) (h1 : pulsesAt n 1 s = true) {u : State}
    (hu : firstPulse n s = u) : exec (.secondBoundary n) s = .next (pulse 1 u) := by
  rw [exec_secondBoundary hn hr, if_pos h1, hu]

theorem exec_secondBoundary_not (hn : n < 4) (hr : tbRuns n s = false) : exec (.secondBoundary n) s = .next s :=
  within_eq (decide_eq_true hn) (if_neg (ne_true_of_eq_false hr))

theorem firstPulse_untold (h : pulsesAt n 0 s = false ∨ bitAt (rd Reg.timTodCfg 0 s) 0 = false) :
    firstPulse n s = if pulsesAt n 0 s then pulse 0 s else s := by
  unfold firstPulse
  rcases h with h | h <;> simp [h]

theorem firstPulse_told (h : pulsesAt n 0 s = true) (ht : bitAt (rd Reg.timTodCfg 0 s) 0 = true) : firstPulse n s =
    emit (.tod (rdFld Reg.timTodCfg 0 1 15 s) (todBytes n s)) (if pulsesAt n 0 s then pulse 0 s else s) := by
  rw [firstPulse, if_pos h, if_pos ht, if_pos h]

theorem exec_ppsInEdge {fall : Bool} (h : edgeSelected 4 fall s = true) :
    exec (.ppsInEdge fall) s = .next (postEdge 4 (fld (pinCfg 4 s) 2 2) fall s) := congrArg _ (if_pos h)

theorem exec_ppsInEdge_not {fall : Bool} (h : edgeSelected 4 fall s = false) : exec (.ppsInEdge fall) s = .next s :=
  congrArg _ (if_neg (ne_true_of_eq_false h))

/-- An edge of a pin is noted. -/
def edgeNoted (pin : Nat) (s : State) : State := { s with tim := { s.tim with edgeAt := tset s.tim.edgeAt pin (some s.aon) } }

theorem exec_tsEventEdge {pin : Nat} {fall : Bool} (hp : pin < 4) (h : edgeSelected pin fall s = true) (hn : edgeNear pin s = false) :
    exec (.tsEventEdge pin fall) s = .next (postEdge pin (fld (pinCfg pin s) 2 2) fall (edgeNoted pin s)) :=
  within_eq (decide_eq_true hp) ((if_pos h).trans (if_neg (ne_true_of_eq_false hn)))

theorem exec_tsEventEdge_near {pin : Nat} {fall : Bool} (hp : pin < 4) (h : edgeSelected pin fall s = true)
    (hn : edgeNear pin s = true) : exec (.tsEventEdge pin fall) s = .next { edgeNoted pin s with tim := { (edgeNoted pin s).tim with
      missed := tset s.tim.missed pin (min (tget s.tim.missed pin + 1) (2 ^ 32 - 1)) } } :=
  within_eq (decide_eq_true hp) ((if_pos h).trans (if_pos hn))

theorem exec_tsEventEdge_not {pin : Nat} {fall : Bool} (hp : pin < 4) (h : edgeSelected pin fall s = false) :
    exec (.tsEventEdge pin fall) s = .next s := within_eq (decide_eq_true hp) (if_neg (ne_true_of_eq_false h))

theorem fit_length (bs : List Byte) : fit bs.length bs = bs := by
  simp [fit, slice, zeros]

theorem exec_todMessage {msg : List Byte} (hl : msg.length = 16) (hc : beAt msg 14 2 = crc16 (msg.take 14)) :
    exec (.todMessage msg) s = .next (post 0x7006 msg s) := by
  have hf : fit 16 msg = msg := hl ▸ fit_length msg
  refine congrArg _ ((if_pos ⟨hl, ?_⟩).trans ?_)
  · rw [hf]
  · rw [hf]; exact hc

theorem exec_todMessage_bad {msg : List Byte} (h : msg.length ≠ 16 ∨ beAt msg 14 2 ≠ crc16 (msg.take 14)) :
    exec (.todMessage msg) s = .next (report 197 0 0 [] s) := by
  refine congrArg _ (if_neg ?_)
  rintro ⟨hl, hc⟩
  have hf : fit 16 msg = msg := hl ▸ fit_length msg
  rw [hf] at hc
  exact h.elim (fun h => h hl) (fun h => h hc)

end

/-- Settles O44. -/
theorem timeRows : Obligations.TimeRows := by
  unfold Obligations.TimeRows
  intro n pin v fall ratio msg s hn hp t asks first told tod k pay near
  refine ⟨exec_tbEnable hn, fun he hv ht => ?_, exec_tbDisable hn, fun he hv ht => ?_, exec_slewDisable hn, exec_slewComplete hn,
    exec_slewComplete_none hn, exec_clk10Loss_none, fun hr hb => ⟨_, exec_clk10Loss ratio s, heldAt_clk10Loss hn ⟨hr, hb⟩⟩,
    fun hs => ⟨_, exec_holdoverExit hn hs, holdoverExit_runs hs⟩, exec_holdoverExit_not hn, exec_secondBoundary_not hn,
    fun hr h1 h => ?_, fun hr h1 h0 ht => ?_, fun hr h1 h => ?_, exec_ppsInEdge, exec_ppsInEdge_not,
    fun h => congrArg _ (if_pos h), fun h => congrArg _ (if_neg (ne_true_of_eq_false h)),
    fun h => ⟨exec_tsEventEdge hp h, exec_tsEventEdge_near hp h⟩, exec_tsEventEdge_not hp, exec_todMessage, exec_todMessage_bad⟩
  · have h := writeTb_enable hv ht
    exact ⟨_, exec_tbEnable hn he hv, h.state, h.total, h.trim⟩
  · have h := writeTb_disable hv ht
    exact ⟨_, exec_tbDisable hn he hv, h.state, h.total⟩
  · exact exec_secondBoundary_first hn hr h1 (firstPulse_untold h)
  · exact exec_secondBoundary_first hn hr h1 (firstPulse_told h0 ht)
  · exact exec_secondBoundary_both hn hr h1 (firstPulse_untold h)

/-! ### Time commands -/

section
variable {c : Cmd} {s : State}

theorem tbCheck_ok (hn : c.op 0 1 ≤ 3) (hl : c.len = 0) (hf : (getTb (c.op 0 1) s).state ≠ .fenced) : tbCheck c s = none :=
  (if_neg (by omega)).trans (if_neg hf)

theorem timeSetCmd_slewing (hk : tbCheck c s = none) (hn : c.op 16 4 < 1000000000) (hs : slewEn (c.op 0 1) s = true) :
    timeSetCmd c s = fail 0x80 s := by
  unfold timeSetCmd
  rw [hk]
  exact (if_neg (by omega)).trans (if_pos hs)

theorem timeSetCmd_range (hk : tbCheck c s = none) (hn : 1000000000 ≤ c.op 16 4) : timeSetCmd c s = fail BAD_PARAM s := by
  unfold timeSetCmd
  rw [hk]
  exact if_pos hn

theorem timeSetCmd_steps (hk : tbCheck c s = none) (hn : c.op 16 4 < 1000000000) (hs : slewEn (c.op 0 1) s = false)
    (hsec : c.op 8 8 < 2 ^ 48) : timeSetCmd c s =
      (stepAll (c.op 0 1) ((c.op 8 8 * 1000000000 + c.op 16 4 : Int) - (getTb (c.op 0 1) s).total) s,
        .done { payload := sle8 ((c.op 8 8 * 1000000000 + c.op 16 4 : Int) - (getTb (c.op 0 1) s).total) }) := by
  unfold timeSetCmd
  rw [hk]
  exact ((if_neg (by omega)).trans (if_neg (ne_true_of_eq_false hs))).trans (if_neg (by omega))

theorem timeAdjustCmd_steps (hk : tbCheck c s = none) (hs : slewEn (c.op 0 1) s = false)
    (hf : stepFits (c.op 0 1) (toS 64 (c.op 8 8)) s = true) :
    timeAdjustCmd c s = okay (stepAll (c.op 0 1) (toS 64 (c.op 8 8)) s) := by
  unfold timeAdjustCmd
  rw [hk]
  exact (if_neg (ne_true_of_eq_false hs)).trans (if_pos hf)

theorem timeAdjustCmd_large (hk : tbCheck c s = none) (hs : slewEn (c.op 0 1) s = false)
    (hf : stepFits (c.op 0 1) (toS 64 (c.op 8 8)) s = false) : timeAdjustCmd c s = fail 0x81 s := by
  unfold timeAdjustCmd
  rw [hk]
  exact (if_neg (ne_true_of_eq_false hs)).trans (if_neg (ne_true_of_eq_false hf))

/-- What is pending once TIME_ADJUST has added to it. -/
def pendingSum (c : Cmd) (s : State) : Int := (getTb (c.op 0 1) s).pending + toS 64 (c.op 8 8) * (2 ^ 48 : Int)

theorem timeAdjustCmd_beyond (hk : tbCheck c s = none) (hs : slewEn (c.op 0 1) s = true)
    (hp : 10000000000 * 2 ^ 48 < (pendingSum c s).natAbs) : timeAdjustCmd c s = fail 0x81 s := by
  unfold timeAdjustCmd
  rw [hk]
  exact (if_pos hs).trans (if_pos hp)

theorem timeAdjustCmd_slews (hk : tbCheck c s = none) (hs : slewEn (c.op 0 1) s = true)
    (hp : (pendingSum c s).natAbs ≤ 10000000000 * 2 ^ 48) (h0 : pendingSum c s ≠ 0) :
    timeAdjustCmd c s = okay (setTb (c.op 0 1) { getTb (c.op 0 1) s with pending := pendingSum c s, slewEnd := false } s) := by
  unfold timeAdjustCmd
  rw [hk]
  exact ((if_pos hs).trans (if_neg (Nat.not_lt.mpr hp))).trans (if_neg fun h => h0 h.1)

/-- What TIME_TRIM leaves. -/
def trimmed (c : Cmd) (s : State) : State :=
  let t := getTb (c.op 0 1) s
  let jump := decide ((toS 32 (c.op 4 4) - t.trim).natAbs * 1000000000 > slewMax (c.op 0 1) s * 2 ^ 40)
  let v := setTb (c.op 0 1) { t with trim := toS 32 (c.op 4 4), freqJump := t.freqJump || jump } s
  if jump then (readersOf (c.op 0 1) v).foldl (fun a k => suspectTime k a) v else v

theorem timeTrimCmd_trims (hk : tbCheck c s = none) : timeTrimCmd c s = okay (trimmed c s) := by
  unfold timeTrimCmd
  rw [hk]
  rfl

theorem getTb_trimmed (s : State) :
    (getTb (c.op 0 1) (trimmed c s)).trim = toS 32 (c.op 4 4) ∧ (getTb (c.op 0 1) (trimmed c s)).state = (getTb (c.op 0 1) s).state := by
  unfold trimmed
  dsimp only
  split
  · rw [getTb_of_tim ((Fr.foldl (.refl _ _) fun a k h => h.trans (fr_suspectTime k a)).tim.resolve_left (by decide)), getTb_setTb]
    exact ⟨rfl, rfl⟩
  · rw [getTb_setTb]
    exact ⟨rfl, rfl⟩

section
variable (hp : c.op 0 1 ≤ 1) (hd : c.op 1 1 ≤ 1) (hl : c.len = 0) (hon : paired (c.op 0 1) s = true)
  (hr : (getTb (2 * c.op 0 1 + c.op 1 1) s).state = .running)
include hp hd hl hon hr

theorem pairSwitchCmd_active (ha : pairOdd (c.op 0 1) s = decide (c.op 1 1 = 1)) : pairSwitchCmd c s = okay s := by
  unfold pairSwitchCmd
  simp only [hon, hr]
  exact (if_neg (by omega)).trans (if_pos ha)

theorem pairSwitchCmd_switches (ha : pairOdd (c.op 0 1) s ≠ decide (c.op 1 1 = 1)) :
    pairSwitchCmd c s = okay (switchPair (c.op 0 1) (decide (c.op 1 1 = 1)) s) := by
  unfold pairSwitchCmd
  simp only [hon, hr]
  exact (if_neg (by omega)).trans (if_neg ha)

end

end

/-- A ready command without host data that its owner's effect ends. -/
theorem next_done_finish {op : Nat} {c : Cmd} {s t : State} {r : CmdRes} {body : Cmd → State → State × CmdEnd}
    (h : ready op c s = true) (hl : c.len = 0) (hb : body c (started c s) = (t, .done r)) :
    (.next (runCmd op c.ref body s) : Res) = .next (finish c r 0 0 t) :=
  (next_done h hb).trans (congrArg _ (conclude_of_len hl ..))

/-- Settles O45. -/
theorem timeCommands : Obligations.TimeCommands := by
  unfold Obligations.TimeCommands
  intro c s u n t ok d states phases
  have hok : ok → tbCheck c u = none := fun ⟨hn, hl, hf⟩ => tbCheck_ok hn hl hf
  have hlen : ok → c.len = 0 := fun ⟨_, hl, _⟩ => hl
  refine ⟨fun h hl => ?_, fun h hk hns => ⟨fun hs => ?_, fun hs hsec => ?_⟩, fun h hk hns => ?_,
    fun h hk hs => ⟨fun hf => ?_, fun hf => ?_⟩, fun h hk hs => ⟨fun hp => ?_, fun hp h0 => ?_⟩,
    fun h hk => ⟨_, ?_, getTb_trimmed u⟩, fun h hp hd hl hon hr => ⟨fun ha => ?_, fun ha => ?_⟩⟩
  · exact next_done h (if_neg (not_not.mpr hl))
  · exact next_done h (timeSetCmd_slewing (hok hk) hns hs)
  · exact next_done_finish h (hlen hk) (timeSetCmd_steps (hok hk) hns hs hsec)
  · exact next_done h (timeSetCmd_range (hok hk) hns)
  · exact next_done_finish h (hlen hk) (timeAdjustCmd_steps (hok hk) hs hf)
  · exact next_done h (timeAdjustCmd_large (hok hk) hs hf)
  · exact next_done h (timeAdjustCmd_beyond (hok hk) hs hp)
  · exact next_done_finish h (hlen hk) (timeAdjustCmd_slews (hok hk) hs hp h0)
  · exact next_done_finish h (hlen hk) (timeTrimCmd_trims (hok hk))
  · exact next_done_finish h hl (pairSwitchCmd_active (s := u) hp hd hl hon hr ha)
  · exact next_done_finish h hl (pairSwitchCmd_switches (s := u) hp hd hl hon hr ha)

end Sys2Proof.Machine
end

section
/-! PROOFS. The telemetry unit (chapter 16): snapshots, dumps, the Gauze ring and the telemetry commands. -/
namespace Sys2Proof.Machine

section
variable {k : Nat} {s : State}

theorem exec_snapshotInstant_skipped {x : Dump} (hk : k < 16) (he : (getSet k s).enabled = true) (hr : telRuns s = true)
    (hx : (getSet k s).dump = some x) : exec (.snapshotInstant k) s =
      .next (report 211 14 k [byte k] (setSet k { getSet k s with skipped := min ((getSet k s).skipped + 1) (2 ^ 32 - 1) } s)) :=
  within_eq (decide_eq_true hk) ((if_neg (by simp [he, hr])).trans (if_pos (by simp [hx])))

/-- A set whose snapshot instant is taken. -/
def setTaken (k : Nat) (s : State) : State := setSet k { getSet k s with skipped := 0, suspect := false } s

/-- The flags of a record at a snapshot instant: periods skipped, time suspect. -/
def instantFlags (d : DumpSet) (s : State) : Nat := b2n (d.skipped ≠ 0) + 2 * b2n (d.suspect || !tbRuns d.tb s)

theorem exec_snapshotInstant_taken (hk : k < 16) (he : (getSet k s).enabled = true) (hr : telRuns s = true)
    (hx : (getSet k s).dump = none) : exec (.snapshotInstant k) s = .next (snapshot k (instantOf (getSet k s) s)
      (instantFlags (getSet k s) s) (1 + (getSet k s).skipped) (setTaken k s)) :=
  within_eq (decide_eq_true hk) ((if_neg (by simp [he, hr])).trans (if_neg (by simp [hx])))

theorem exec_snapshotInstant_not (hk : k < 16) (h : (getSet k s).enabled = false ∨ telRuns s = false) :
    exec (.snapshotInstant k) s = .next s :=
  within_eq (decide_eq_true hk) (if_pos (by rcases h with h | h <;> simp [h]))

/-! ### The end of a dump -/

/-- A dump's counters, their upsets met. -/
def dumpMet (d : DumpSet) (s : State) : State := d.nums.foldl (fun s num => meetValue d.kind num s) s
/-- A dump's counters, read. -/
def dumpRead (k : Nat) (d : DumpSet) (s : State) : State := d.nums.foldl (fun s num => dumpedCtr k d num s) (dumpMet d s)

/-- PAYLOAD of EV_CTR_DUMP. -/
def dumpPay (k : Nat) (x : Dump) (st : Byte) : List Byte := [byte k, st, byte x.flags, 0] ++ le 4 x.seq ++ le 2 x.slot

/-- A whole record is written at `base` and its event posted. -/
def dumpWritten (k : Nat) (d : DumpSet) (x : Dump) (parts : List Byte × List Byte × List Byte) (base : Nat) (t : State) : State :=
  postDump d.evRing (dumpPay k x 0)
    (emit (.hostWrite (base + slotBytes d.n - 64) (dumpTrailer x.seq (parts.1 ++ parts.2.1 ++ parts.2.2)))
      (emit (.flushRead (base + 64 + 8 * d.n + flagLen d.n - 1))
        (emit (.hostWrite (base + 64 + 8 * d.n) parts.2.2) (emit (.hostWrite (base + 64) parts.2.1) (emit (.hostWrite base parts.1) t)))))

/-- A host write of a record has failed. -/
def dumpFailed (k : Nat) (d : DumpSet) (x : Dump) (st : Byte) (t : State) : State :=
  postDump d.evRing (dumpPay k x st) (report 214 14 k (dumpPay k x st) t)

/-- A dump's record is written, or its write has failed. -/
def dumpEnded (k : Nat) (x : Dump) (s : State) : Option Byte → State
  | none => dumpWritten k (getSet k s) x (dumpBody k (getSet k s) x (dumpMet (getSet k s) s))
      ((getSet k s).area + x.slot * slotBytes (getSet k s).n) (dumpRead k (getSet k s) s)
  | some st => dumpFailed k (getSet k s) x st (dumpRead k (getSet k s) s)

/-- The dump is over and the clears that waited are taken. -/
def dumpClosed (k : Nat) (d : DumpSet) (t : State) : State :=
  d.clears.foldl (fun s w => lateClear d w s) (setSet k { getSet k t with dump := none, clears := [] } t)

/-- A CTR_SET_WRITE that waited comes in force. -/
def nextApplied (k : Nat) (next : Option (List Byte)) (t : State) : State := (next.map fun o => applySet k o t).getD t

theorem exec_dumpComplete {x : Dump} (hk : k < 16) (hx : (getSet k s).dump = some x) (hr : telRuns s = true)
    (hc : chanServes (sergeChan 2 s) s = true) (err : Option Byte) : exec (.dumpComplete k err) s =
      .next (nextApplied k (getSet k s).next (dumpClosed k (getSet k s) (dumpEnded k x s err))) := by
  have hn : ¬(!telRuns s || !chanServes (sergeChan 2 s) s) = true := by simp [hr, hc]
  refine within_eq (decide_eq_true hk) ?_
  rw [hx]
  refine (if_neg hn).trans ?_
  cases err <;> rcases (getSet k s).next with _ | o <;> rfl

theorem exec_dumpComplete_none {x : Dump} (hk : k < 16) (hx : (getSet k s).dump = some x) (hr : telRuns s = true)
    (hc : chanServes (sergeChan 2 s) s = true) (err : Option Byte) (hn : (getSet k s).next = none) :
    exec (.dumpComplete k err) s = .next (dumpClosed k (getSet k s) (dumpEnded k x s err)) := by
  rw [exec_dumpComplete hk hx hr hc, hn]
  rfl

theorem exec_dumpComplete_next {x : Dump} {o : List Byte} (hk : k < 16) (hx : (getSet k s).dump = some x) (hr : telRuns s = true)
    (hc : chanServes (sergeChan 2 s) s = true) (err : Option Byte) (hn : (getSet k s).next = some o) :
    exec (.dumpComplete k err) s = .next (applySet k o (dumpClosed k (getSet k s) (dumpEnded k x s err))) := by
  rw [exec_dumpComplete hk hx hr hc, hn]
  rfl

theorem exec_dumpComplete_not {err : Option Byte} (hk : k < 16) (h : (getSet k s).dump = none ∨ telRuns s = false) :
    exec (.dumpComplete k err) s = .next s := by
  refine within_eq (decide_eq_true hk) ?_
  rcases hx : (getSet k s).dump with _ | x
  · rfl
  · exact if_pos (by simp [h.resolve_left (by simp [hx])])

/-! ### The Gauze ring -/

/-- Records that the Gauze ring holds. -/
def gzHeld (s : State) : Nat := (s.tel.gzProd + 2 * gzSize s - s.tel.gzCons) % (2 * gzSize s)

/-- A record as it is written. -/
def gauzeEntry (r : List Byte) (s : State) : List Byte :=
  splice (splice (splice r 134 [byte (byteAt r 134 + phaseOf (gzSize s) s.tel.gzProd)]) 192 (le 4 s.tel.gzSeq)) 196 (le 4 s.tel.gzLost)

section
variable {r : List Byte} {rest : List (List Byte)} (hs : s.tel.gzStage = r :: rest) (ho : gauzeOn s = true)
  (hc : chanOn (gzChan s) s = true)
include hs ho hc

theorem exec_gauzeRecordWrite_lost
    (h : gzSize s ≤ gzHeld s ∨ (getChan (gzChan s) s).halted = true ∨ fencedU 10 (gzChan s) s = true) :
    exec .gauzeRecordWrite s = .next (gauzeLose { s with tel := { s.tel with gzStage := rest } }) := by
  have hn : ¬(!gauzeOn s || !chanOn (gzChan s) s) = true := by simp [ho, hc]
  refine congrArg Host.Outcome.next ?_
  rw [hs]
  exact (if_neg hn).trans (if_pos h)

theorem exec_gauzeRecordWrite_written (hl : gzHeld s < gzSize s) (hh : (getChan (gzChan s) s).halted = false)
    (hf : fencedU 10 (gzChan s) s = false) : exec .gauzeRecordWrite s =
      .next (emit (.hostWrite (rd Reg.telGauzeBase 0 s + 256 * (s.tel.gzProd % gzSize s)) (gauzeEntry r s)) { s with tel := { s.tel with
        gzStage := rest, gzProd := (s.tel.gzProd + 1) % (2 * gzSize s), gzSeq := (s.tel.gzSeq + 1) % 2 ^ 32, gzLost := 0 } }) := by
  have hn : ¬(!gauzeOn s || !chanOn (gzChan s) s) = true := by simp [ho, hc]
  have hw : ¬(gzHeld s ≥ gzSize s ∨ (getChan (gzChan s) s).halted = true ∨ fencedU 10 (gzChan s) s = true) := by
    rw [hh, hf]
    simpa using hl
  refine congrArg Host.Outcome.next ?_
  rw [hs]
  exact (if_neg hn).trans (if_neg hw)

end

theorem exec_gauzeRecordWrite_none (h : s.tel.gzStage = [] ∨ gauzeOn s = false ∨ chanOn (gzChan s) s = false) :
    exec .gauzeRecordWrite s = .next s := by
  refine congrArg Host.Outcome.next ?_
  rcases hs : s.tel.gzStage with _ | ⟨r, rest⟩
  · rfl
  · exact if_pos (by rcases h.resolve_left (by simp [hs]) with h | h <;> simp [h])

theorem exec_gauzeEnable {v : Word} {t : State} (he : s.sys.mode.engine = true) (h : writeGauzeCfg v.toNat s = t) :
    exec (.gauzeEnable v) s = .next t := congrArg Host.Outcome.next ((whenOpen_open _ he).trans h)

section
variable {w : Nat}

theorem writeGauzeCfg_disable (ho : bitAt (rd Reg.telGauzeCfg 0 s) 0 = true) (hw : bitAt w 0 = false) : writeGauzeCfg w s =
    wr Reg.telGauzeCfg 0 (setFld (rd Reg.telGauzeCfg 0 s) 0 1 0) { s with tel := { s.tel with cfgErr := false } } :=
  (if_pos ho).trans (if_neg (ne_true_of_eq_false hw))

theorem writeGauzeCfg_enabled (ho : bitAt (rd Reg.telGauzeCfg 0 s) 0 = true) (hw : bitAt w 0 = true) :
    writeGauzeCfg w s = { s with tel := { s.tel with cfgErr := false } } := (if_pos ho).trans (if_pos hw)

theorem writeGauzeCfg_off (ho : bitAt (rd Reg.telGauzeCfg 0 s) 0 = false) (hw : bitAt w 0 = false) :
    writeGauzeCfg w s = wrRw Reg.telGauzeCfg 0 w { s with tel := { s.tel with cfgErr := false } } :=
  (if_neg (ne_true_of_eq_false ho)).trans (if_pos ((Bool.not_eq_true' _).mpr hw))

/-- A configuration that enables the Gauze ring well. -/
def gauzeSound (w : Nat) (s : State) : Bool :=
  decide (10 ≤ fld w 1 5) && decide (fld w 1 5 ≤ 16) && decide (4 ≤ fld w 6 6) && chanOn (fld w 6 6) s &&
    decide (rd Reg.telGauzeBase 0 s ≠ 0)

theorem gauzeSound_iff : gauzeSound w s = true ↔ ¬(fld w 1 5 < 10 ∨ fld w 1 5 > 16 ∨ fld w 6 6 < 4 ∨ (!chanOn (fld w 6 6) s) = true ∨
    rd Reg.telGauzeBase 0 s = 0) := by
  simp [gauzeSound, and_assoc]

theorem writeGauzeCfg_enables (ho : bitAt (rd Reg.telGauzeCfg 0 s) 0 = false) (hw : bitAt w 0 = true)
    (hs : gauzeSound w s = true) : writeGauzeCfg w s = wrRw Reg.telGauzeCfg 0 w { s with tel := { s.tel with
      cfgErr := false, gzProd := 0, gzCons := 0, gzSeq := 0, gzLost := 0, gzStage := [] } } :=
  ((if_neg (ne_true_of_eq_false ho)).trans (if_neg (by simp [hw]))).trans (if_neg (gauzeSound_iff.mp hs))

theorem writeGauzeCfg_refused (ho : bitAt (rd Reg.telGauzeCfg 0 s) 0 = false) (hw : bitAt w 0 = true)
    (hs : gauzeSound w s = false) :
    writeGauzeCfg w s = wrRw Reg.telGauzeCfg 0 (setFld w 0 1 0) { s with tel := { s.tel with cfgErr := true } } :=
  ((if_neg (ne_true_of_eq_false ho)).trans (if_neg (by simp [hw]))).trans
    (if_pos (by_contra fun h => ne_false_of_eq_true (gauzeSound_iff.mpr h) hs))

end

end

/-- Settles O46. -/
theorem snapshotsAndDumps : Obligations.SnapshotsAndDumps := by
  unfold Obligations.SnapshotsAndDumps
  intro k v err s hk d met read parts slotAt pay body flushed trailer good failed closed size occ a phased entry ok old w ch sound
  refine ⟨fun he hr x => exec_snapshotInstant_skipped hk he hr, exec_snapshotInstant_taken hk, exec_snapshotInstant_not hk,
    exec_dumpComplete_not hk, fun x hx hr hc => ⟨exec_dumpComplete_none hk hx hr hc none, fun st =>
      exec_dumpComplete_none hk hx hr hc (some st), fun o => exec_dumpComplete_next hk hx hr hc none, fun o st =>
      exec_dumpComplete_next hk hx hr hc (some st)⟩,
    fun r rest hs ho hc => ⟨exec_gauzeRecordWrite_lost hs ho hc, exec_gauzeRecordWrite_written hs ho hc⟩,
    exec_gauzeRecordWrite_none, fun he => ⟨fun ho hw => exec_gauzeEnable he (writeGauzeCfg_disable ho hw),
      fun ho hw => exec_gauzeEnable he (writeGauzeCfg_enabled ho hw), fun ho hw => exec_gauzeEnable he (writeGauzeCfg_off ho hw),
      fun ho hw hs => exec_gauzeEnable he (writeGauzeCfg_enables ho hw hs),
      fun ho hw hs => exec_gauzeEnable he (writeGauzeCfg_refused ho hw hs)⟩⟩

/-! ### Telemetry commands -/

section
variable {c : Cmd} {s : State}

/-- The set that the operands of CTR_SET_WRITE describe. -/
def newSet (c : Cmd) : DumpSet := { ops := fit 40 c.ops, enabled := true }

/-- Another set, in force or about to be, shares a counter with the new one. -/
def setClash (c : Cmd) (s : State) : Bool :=
  s.tel.sets.any fun e => decide (e.1 ≠ c.op 0 1) && (match e.2.claim with | some x => x.meets (newSet c) | none => false) ||
    decide (e.1 ≠ c.op 0 1) && e.2.enabled && e.2.meets (newSet c)

theorem ctrSetWriteCmd_reads (hk : c.op 0 1 ≤ 15) (hl : c.len = 0) (hf : bitAt (c.op 2 1) 0 = true) :
    ctrSetWriteCmd c s = okayWith (fit 40 (getSet (c.op 0 1) s).ops) s := (if_neg (by omega)).trans (if_pos hf)

/-- Operands of CTR_SET_WRITE that it takes. -/
structure SetOk (c : Cmd) (s : State) : Prop where
  set : c.op 0 1 ≤ 15
  len : c.len = 0
  flags : c.op 2 1 < 16
  write : bitAt (c.op 2 1) 0 = false
  tb : c.op 3 1 ≤ 3
  items : itemsOk (newSet c).kind (newSet c).first (newSet c).items = true
  period : 1 ≤ (newSet c).period ∧ (newSet c).period ≤ 3600000
  slots : 1 ≤ (newSet c).slots ∧ (newSet c).slots ≤ 256
  ring : evRingOn (newSet c).evRing s = true
  area : (newSet c).area % 64 = 0
  clear : bitAt (c.op 2 1) 1 = false ∨ setClash c s = false

theorem SetOk.good (h : SetOk c s) : ¬(c.op 2 1 ≥ 16 ∨ c.op 3 1 > 3 ∨ (!itemsOk (newSet c).kind (newSet c).first (newSet c).items) = true ∨
    (newSet c).period < 1 ∨ (newSet c).period > 3600000 ∨ (newSet c).slots < 1 ∨ (newSet c).slots > 256 ∨
    (!evRingOn (newSet c).evRing s) = true ∨ (newSet c).area % 64 ≠ 0) := by
  obtain ⟨_, _, hf, _, ht, hi, hp, hs, hr, ha, _⟩ := h
  rw [hi, hr]
  simp only [Bool.not_true, Bool.false_eq_true, false_or]
  omega

theorem SetOk.free (h : SetOk c s) : ¬(bitAt (c.op 2 1) 1 && setClash c s) = true := by
  rcases h.clear with h | h <;> simp [h]

theorem SetOk.runs (h : SetOk c s) : ctrSetWriteCmd c s =
    if (getSet (c.op 0 1) s).enabled ∧ (getSet (c.op 0 1) s).dump.isSome then
      okay (setSet (c.op 0 1) { getSet (c.op 0 1) s with next := some (newSet c).ops } s)
    else okay (applySet (c.op 0 1) (newSet c).ops s) := by
  have h1 := h.set
  have h2 := h.len
  exact (((if_neg (by omega)).trans (if_neg (ne_true_of_eq_false h.write))).trans (if_neg h.good)).trans (if_neg h.free)

theorem ctrSetWriteCmd_waits (h : SetOk c s) (he : (getSet (c.op 0 1) s).enabled = true) (hd : (getSet (c.op 0 1) s).dump ≠ none) :
    ctrSetWriteCmd c s = okay (setSet (c.op 0 1) { getSet (c.op 0 1) s with next := some (newSet c).ops } s) :=
  h.runs.trans (if_pos ⟨he, Option.isSome_iff_ne_none.mpr hd⟩)

theorem ctrSetWriteCmd_applies (h : SetOk c s) (hd : (getSet (c.op 0 1) s).enabled = false ∨ (getSet (c.op 0 1) s).dump = none) :
    ctrSetWriteCmd c s = okay (applySet (c.op 0 1) (newSet c).ops s) :=
  h.runs.trans (if_neg fun ⟨he, hs⟩ => hd.elim (ne_false_of_eq_true he) (Option.isSome_iff_ne_none.mp hs))

/-- The counters that CTR_READ and CTR_CLEAR name. -/
def namedCtrs (c : Cmd) : List Nat := rangeNums (c.op 0 1) (c.op 4 4) (c.op 8 4)

/-- The counters of CTR_READ, their upsets met. -/
def readMet (c : Cmd) (s : State) : State := (namedCtrs c).foldl (fun s num => meetCtr (c.op 0 1) num s) s

/-- The data of CTR_READ. -/
def readCtrs (c : Cmd) (t : State) : List Byte :=
  ((namedCtrs c).flatMap fun num => le 8 (if ctrExists (c.op 0 1) num t then ctrValue (c.op 0 1) num t else 0)) ++
    flagArea ((namedCtrs c).flatMap fun num => (shownCtr (c.op 0 1) num t).bits) (ctrCount (c.op 0 1) (c.op 8 4))

theorem ctrReadCmd_reads (hi : itemsOk (c.op 0 1) (c.op 4 4) (c.op 8 4) = true)
    (hl : c.len = 8 * ctrCount (c.op 0 1) (c.op 8 4) + flagLen (ctrCount (c.op 0 1) (c.op 8 4))) :
    ctrReadCmd c s = okayData (readCtrs c (readMet c s)) (readMet c s) := by
  have hn : ¬((!itemsOk (c.op 0 1) (c.op 4 4) (c.op 8 4)) = true ∨
      c.len ≠ 8 * ctrCount (c.op 0 1) (c.op 8 4) + flagLen (ctrCount (c.op 0 1) (c.op 8 4))) := by
    rw [hi]
    exact fun h => h.elim Bool.false_ne_true (fun h => h hl)
  exact if_neg hn

/-- A dump in progress holds some of the counters of CTR_CLEAR. -/
def clearBusy (c : Cmd) (d : DumpSet) : Bool := d.dump.isSome && (namedCtrs c).any fun num => d.holds (c.op 0 1) num

/-- The counters that no dump in progress holds, cleared. -/
def freeCleared (c : Cmd) (s : State) : State :=
  ((namedCtrs c).filter fun num => !s.tel.sets.any fun e => e.2.dump.isSome && e.2.holds (c.op 0 1) num).foldl
    (fun s num => clearCtr (c.op 0 1) (c.op 1 1) num s) s

/-- What waits for the dumps. -/
def clearWait (c : Cmd) : ClearWait := { cmd := c.ref, kind := c.op 0 1, what := c.op 1 1, first := c.op 4 4, items := c.op 8 4 }

/-- The sets whose dumps CTR_CLEAR waits for note it. -/
def clearQueued (c : Cmd) (sets : Tab DumpSet) : Tab DumpSet :=
  tmap sets fun _ d => if clearBusy c d then { d with clears := d.clears ++ [clearWait c] } else d

section
variable (hi : itemsOk (c.op 0 1) (c.op 4 4) (c.op 8 4) = true) (hw : c.op 1 1 < 8) (hl : c.len = 0)
include hi hw hl

theorem ctrClear_good : ¬((!itemsOk (c.op 0 1) (c.op 4 4) (c.op 8 4)) = true ∨ c.op 1 1 ≥ 8 ∨ c.len ≠ 0) := by
  rw [hi]
  simp only [Bool.not_true, Bool.false_eq_true, false_or]
  omega

theorem ctrClearCmd_clears (hb : (s.tel.sets.any fun e => clearBusy c e.2) = false) : ctrClearCmd c s = okay (freeCleared c s) :=
  (if_neg (ctrClear_good hi hw hl)).trans (if_neg (ne_true_of_eq_false hb))

theorem ctrClearCmd_waits (hb : (s.tel.sets.any fun e => clearBusy c e.2) = true) :
    ctrClearCmd c s = ({ freeCleared c s with tel := { (freeCleared c s).tel with
      sets := clearQueued c (freeCleared c s).tel.sets } }, .later) :=
  (if_neg (ctrClear_good hi hw hl)).trans (if_pos hb)

end

section
variable (hk : c.op 0 1 ≤ 15) (he : (getSet (c.op 0 1) s).enabled = true) (hl : c.len = 0)
include hk he hl

theorem ctrDumpNow_good : ¬(c.op 0 1 > 15 ∨ (!(getSet (c.op 0 1) s).enabled) = true ∨ c.len ≠ 0) := by
  rw [he]
  simp only [Bool.not_true, Bool.false_eq_true, false_or]
  omega

theorem ctrDumpNowCmd_takes (hd : (getSet (c.op 0 1) s).dump = none) : ctrDumpNowCmd c s =
    okay (snapshot (c.op 0 1) (timeOf (getSet (c.op 0 1) s).tb s)
      (4 + 2 * b2n ((getSet (c.op 0 1) s).suspect || !tbRuns (getSet (c.op 0 1) s).tb s)) 0 s) :=
  (if_neg (ctrDumpNow_good hk he hl)).trans (if_neg (by simp [hd]))

theorem ctrDumpNowCmd_busy (hd : (getSet (c.op 0 1) s).dump ≠ none) : ctrDumpNowCmd c s = fail 0x80 s :=
  (if_neg (ctrDumpNow_good hk he hl)).trans (if_pos (Option.isSome_iff_ne_none.mpr hd))

end

/-- The position that GAUZE_RELEASE names. -/
def releasePos (c : Cmd) (s : State) : Nat := c.op 0 2 + gzSize s * c.op 2 1

theorem gauzeReleaseCmd_releases (hl : c.len = 0) (ho : bitAt (rd Reg.telGauzeCfg 0 s) 0 = true) (hg : c.op 2 1 ≤ 1)
    (hx : c.op 0 2 < gzSize s) (hp : atOrBeyond (gzSize s) (releasePos c s) s.tel.gzCons = true)
    (hh : (s.tel.gzProd + 2 * gzSize s - releasePos c s) % (2 * gzSize s) ≤ gzSize s) :
    gauzeReleaseCmd c s = okay { s with tel := { s.tel with gzCons := releasePos c s } } := by
  have he : c.op 0 2 + gzSize s * (c.op 2 1 % 2) = releasePos c s := by rw [Nat.mod_eq_of_lt (by omega), releasePos]
  have hn : ¬(c.len ≠ 0 ∨ (!bitAt (rd Reg.telGauzeCfg 0 s) 0) = true ∨ c.op 2 1 > 1 ∨ c.op 0 2 ≥ gzSize s ∨
      (!atOrBeyond (gzSize s) (releasePos c s) s.tel.gzCons) = true ∨
      (s.tel.gzProd + 2 * gzSize s - releasePos c s) % (2 * gzSize s) > gzSize s) := by
    rw [ho, hp]
    simp only [Bool.not_true, Bool.false_eq_true, false_or]
    omega
  unfold gauzeReleaseCmd
  dsimp only
  rw [he]
  exact if_neg hn

section
variable (hl : c.len = 128) (hf : flagOk c 0 = true)
include hl hf

theorem ioamSinkCmd_reads (ans : HostAns) (hr : readFlag c 0 = true) :
    ioamSinkCmd c ans s = okayData (le 128 (ofBits ((List.range 1024).map fun p => tget s.tel.sink p))) s := by
  rw [ioamSinkCmd, if_neg (by simp [hl, hf]), if_pos hr]

theorem ioamSinkCmd_writes (bs : List Byte) (hr : readFlag c 0 = false) :
    ioamSinkCmd c (.data bs) s = okay { s with tel := { s.tel with
      sink := (List.range 1024).foldl (fun t p => tset t p (bitAt (leNat (fit c.len bs)) p)) s.tel.sink } } := by
  rw [ioamSinkCmd, if_neg (by simp [hl, hf]), if_neg (ne_true_of_eq_false hr), withHost]

end

end

/-- Settles O47. -/
theorem telemetryCommands : Obligations.TelemetryCommands := by
  unfold Obligations.TelemetryCommands
  intro c bs ans s u k d nw first items fl ends clash met values flags held cleared wait busy size pos
  refine ⟨fun h hk hl hf => next_done h (ctrSetWriteCmd_reads (s := u) hk hl hf),
    fun h hk hl h16 hf ht hi hp1 hp2 hs1 hs2 hr ha hc => ?_, fun h hi hl => next_done h (ctrReadCmd_reads (s := u) hi hl),
    fun h hi hw hl => ⟨fun hb => next_done h (ctrClearCmd_clears (s := u) hi hw hl hb),
      fun hb => next_later h (ctrClearCmd_waits (s := u) hi hw hl hb)⟩,
    fun h hk he hl => ⟨fun hd => next_done h (ctrDumpNowCmd_takes (s := u) hk he hl hd),
      fun hd => next_done h (ctrDumpNowCmd_busy (s := u) hk he hl hd)⟩,
    fun h hl ho hg hx hp hh => next_done h (gauzeReleaseCmd_releases (s := u) hl ho hg hx hp hh),
    fun h hl hf => ⟨fun hr => next_done h (ioamSinkCmd_writes (s := u) hl hf bs hr),
      fun hr => next_done h (ioamSinkCmd_reads (s := u) hl hf ans hr)⟩⟩
  have hok : SetOk c u := ⟨hk, hl, h16, hf, ht, hi, ⟨hp1, hp2⟩, ⟨hs1, hs2⟩, hr, ha, hc⟩
  exact ⟨fun he hd => next_done h (ctrSetWriteCmd_waits hok he hd), fun hd => next_done h (ctrSetWriteCmd_applies hok hd)⟩

end Sys2Proof.Machine
end

section
/-! PROOFS. The power manager (chapter 17): measurement. -/
namespace Sys2Proof.Machine

/-- In WIPE, with the limits not enforced, a job runs on cluster 0 whose ceiling has risen since it was last looked at, and the record of the next hop to its
root, hop 0, has an uncorrectable upset. -/
def hurtHop : State :=
  { State.reset with
    sys := { State.reset.sys with mode := .wipe }
    col := { State.reset.col with jobs := [(0, { st := .running, record := [0, 0, 0, 0, 1], ceil := 3, agreed := 1 })] }
    upset := [(memHop, 2)], regs := [(0x3E00000, 0)] }

/-- The sample lets the job send a PACE to its root, which meets the upset: the hop's record is to be restored. -/
theorem powerSample_hurtHop_restore : (powerSample {} hurtHop).tbl.restore = [(5, 0)] := by decide +kernel

theorem hurtHop_restore : hurtHop.tbl.restore = [] := by decide +kernel

theorem exec_powerSample_hurtHop : exec (.powerSample {}) hurtHop = .next (powerSample {} hurtHop) := rfl

/-- Refutes O49: POWER_SAMPLE may change the forwarding tables. A cluster's ceiling that has moved lets a job send a PACE, and a PACE
whose next hop's record has an uncorrectable upset enters that record among those to be restored. -/
theorem not_powerMeasured : ¬ Obligations.PowerMeasured := by
  unfold Obligations.PowerMeasured
  intro h
  obtain ⟨⟨t, ht, -, -, -, htbl, -⟩, -⟩ := (h {} [] [] 0 {} hurtHop).1 (by decide)
  have he : powerSample {} hurtHop = t := Host.Outcome.next.inj (exec_powerSample_hurtHop.symm.trans ht)
  have hr : (powerSample {} hurtHop).tbl.restore = [] := by rw [he, htbl, hurtHop_restore]
  rw [powerSample_hurtHop_restore] at hr
  exact absurd hr (by decide)

/-! ### Supply dips -/

section
variable {det code d : Nat} {s : State}

theorem exec_droopTrip (hd : det < 64) (hc : code < 256) (ht : trips det code s = true) : exec (.droopTrip det code) s =
    .next (modDom (detDom det) (fun x => { x with dip := some (match x.dip with
      | none => { first := det, code := code, since := s.aon }
      | some p => { p with code := min p.code code }) }) s) := within_eq (by simp [hd, hc]) (if_pos ht)

theorem exec_droopTrip_first (hd : det < 64) (hc : code < 256) (ht : trips det code s = true) (hx : (getDom (detDom det) s).dip = none) :
    exec (.droopTrip det code) s = .next (setDom (detDom det)
      { getDom (detDom det) s with dip := some { first := det, code := code, since := s.aon } } s) := by
  rw [exec_droopTrip hd hc ht, modDom, hx]

theorem exec_droopTrip_later {p : Dip} (hd : det < 64) (hc : code < 256) (ht : trips det code s = true)
    (hx : (getDom (detDom det) s).dip = some p) : exec (.droopTrip det code) s = .next (setDom (detDom det)
      { getDom (detDom det) s with dip := some { p with code := min p.code code } } s) := by
  rw [exec_droopTrip hd hc ht, modDom, hx]

theorem exec_droopTrip_not (hd : det < 64) (hc : code < 256) (ht : trips det code s = false) :
    exec (.droopTrip det code) s = .next s := within_eq (by simp [hd, hc]) (if_neg (ne_true_of_eq_false ht))

theorem exec_droopReturn_none (hd : d < 31) (hx : (getDom d s).dip = none) : exec (.droopReturn d) s = .next s := by
  refine within_eq (decide_eq_true hd) ?_
  rw [hx]

/-- PAYLOAD of EV_PWR_DROOP. -/
def dipPay (d : Nat) (p : Dip) (s : State) : List Byte := [byte d, byte p.first, byte p.code, 0] ++ le 4 (4 * (s.aon - p.since))

theorem exec_droopReturn {p : Dip} (hd : d < 31) (hx : (getDom d s).dip = some p) : exec (.droopReturn d) s = .next
    (post 0x7800 (dipPay d p s) (report 224 14 d (dipPay d p s) (setDom d { getDom d s with dip := none } s))) := by
  refine within_eq (decide_eq_true hd) ?_
  rw [hx]
  rfl

/-- The domain of a detector changes its step. -/
def detChanging (det : Nat) (s : State) : Bool :=
  decide (7 ≤ detDom det) && decide (detDom det ≤ 10) && (getCluster (detDom det - 7) s).changing.isSome

/-- The temperature that a detector is calibrated at. -/
def detTemp (det : Nat) (s : State) : Int :=
  if detDom det = 29 then sensorTemp 28 s else if detDom det = 30 then sensorTemp 29 s
  else dieTemp (if detDom det = 3 ∨ detDom det = 4 ∨ detDom det = 9 ∨ detDom det = 10 then 1 else 0) s

theorem exec_droopRecalibration (hd : det < 64) : exec (.droopRecalibration det) s =
    .next (if (getDom (detDom det) s).raise.isSome || detChanging det s then s else { s with pwr := { s.pwr with
      droopCal := tset s.pwr.droopCal det { nj := (getDom (detDom det) s).nj, temp := detTemp det s, at_ := s.aon } } }) := by
  refine within_eq (decide_eq_true hd) ?_
  rw [detChanging, ← Bool.decide_and]
  rfl

theorem exec_droopRecalibration_busy (hd : det < 64) (h : (getDom (detDom det) s).raise.isSome = true ∨ detChanging det s = true) :
    exec (.droopRecalibration det) s = .next s :=
  (exec_droopRecalibration hd).trans (congrArg _ (if_pos (Bool.or_eq_true_iff.mpr h)))

theorem exec_droopRecalibration_idle (hd : det < 64) (hr : (getDom (detDom det) s).raise = none) (hc : detChanging det s = false) :
    exec (.droopRecalibration det) s = .next { s with pwr := { s.pwr with
      droopCal := tset s.pwr.droopCal det { nj := (getDom (detDom det) s).nj, temp := detTemp det s, at_ := s.aon } } } :=
  (exec_droopRecalibration hd).trans (congrArg _ (if_neg (by simp [hr, hc])))

/-! ### Power domains -/

theorem exec_domainPowerDownDone (hd : d < 31) (hs : (getDom d s).st = .deferred ∨ (getDom d s).st = .poweringDown)
    (ht : touchesDom d s = false) : exec (.domainPowerDownDone d) s = .next (cutPower d s) :=
  within_eq (decide_eq_true hd) (if_pos ⟨hs, by simp [ht]⟩)

theorem exec_domainPowerDownDone_not (hd : d < 31)
    (h : touchesDom d s = true ∨ ((getDom d s).st ≠ .deferred ∧ (getDom d s).st ≠ .poweringDown)) :
    exec (.domainPowerDownDone d) s = .next s := by
  refine within_eq (decide_eq_true hd) (if_neg ?_)
  rintro ⟨hs, ht⟩
  rcases h with h | ⟨h1, h2⟩
  · simp [h] at ht
  · exact hs.elim h1 h2

end

section
variable {d : Nat} {c : Cmd} {s : State}

theorem powerDown_off (hs : (getDom d s).st = .off) : powerDown d c s = okay s := if_pos hs

theorem powerDown_dependent (hs : (getDom d s).st ≠ .off)
    (h : (getDom d s).st ≠ .on ∨ relying d s ≠ [] ∨ mayPowerDown d s = false) : powerDown d c s = fail 0x80 s := by
  have hn : (getDom d s).st ≠ .on ∨ relying d s ≠ [] ∨ (!mayPowerDown d s) = true := by
    rwa [Bool.not_eq_true']
  exact (if_neg hs).trans (if_pos hn)

section
variable (hs : (getDom d s).st = .on) (hr : relying d s = []) (hm : mayPowerDown d s = true)
include hs hr hm

theorem powerDown_deferred (ht : touchesDom d s = true) :
    powerDown d c s = (setDom d { getDom d s with st := .deferred, down := some c.ref, cut := 0 } s, .later) := by
  unfold powerDown
  simp [hs, hr, hm, ht]

theorem powerDown_cuts (ht : touchesDom d s = false) :
    powerDown d c s = okay (cutPower d (setDom d { getDom d s with st := .poweringDown, cut := 0 } s)) := by
  unfold powerDown
  simp [hs, hr, hm, ht]

end

theorem powerUp_on (hs : (getDom d s).st = .on) : powerUp d c s = okay s := by
  unfold powerUp
  dsimp only
  rw [hs]

theorem powerUp_cancels {r : CmdRef} (hs : (getDom d s).st = .deferred ∨ (getDom d s).st = .poweringDown)
    (hr : (getDom d s).down = some r) :
    powerUp d c s = okay (finishRef r { status := 0x82 } (setDom d { getDom d s with st := .on, down := none } s)) := by
  unfold powerUp
  dsimp only
  rcases hs with hs | hs <;> rw [hs, hr]

theorem powerUp_off (hs : (getDom d s).st = .off) : powerUp d c s =
    if (requires d).any fun e => !domServes e s then fail DEPENDENT s
    else if d = 27 ∨ d = 28 then
      (trainHalf (d - 27) (setDom d { getDom d s with st := .poweringUp, up := some c.ref } s), .later)
    else okay (railFollow s (if 11 ≤ d ∧ d ≤ 26 then groupPowerUp (d - 11) (setDom d { getDom d s with st := .on } s)
      else setDom d { getDom d s with st := .on } s)) := by
  unfold powerUp
  dsimp only
  rw [hs]

theorem powerUp_dependent (hs : (getDom d s).st = .off) (hr : ((requires d).any fun e => !domServes e s) = true) :
    powerUp d c s = fail 0x80 s := (powerUp_off hs).trans (if_pos hr)

section
variable (hs : (getDom d s).st = .off) (hr : ((requires d).any fun e => !domServes e s) = false)
include hs hr

theorem powerUp_half (hd : d = 27 ∨ d = 28) :
    powerUp d c s = (trainHalf (d - 27) (setDom d { getDom d s with st := .poweringUp, up := some c.ref } s), .later) :=
  ((powerUp_off hs).trans (if_neg (ne_true_of_eq_false hr))).trans (if_pos hd)

theorem powerUp_group (h1 : 11 ≤ d) (h2 : d ≤ 26) :
    powerUp d c s = okay (railFollow s (groupPowerUp (d - 11) (setDom d { getDom d s with st := .on } s))) := by
  rw [powerUp_off hs, if_neg (ne_true_of_eq_false hr), if_neg (by omega), if_pos ⟨h1, h2⟩]

theorem powerUp_other (hd : d < 11 ∨ 28 < d) :
    powerUp d c s = okay (railFollow s (setDom d { getDom d s with st := .on } s)) := by
  rw [powerUp_off hs, if_neg (ne_true_of_eq_false hr), if_neg (by omega), if_neg (by omega)]

end

/-! ### Power commands -/

theorem pwrDomainCmd_down (he : c.op 0 1 < 31) (hl : c.len = 0) (ha : c.op 1 1 = 0) :
    pwrDomainCmd c s = powerDown (c.op 0 1) c s := (if_neg (by omega)).trans (if_pos ha)

theorem pwrDomainCmd_up (he : c.op 0 1 < 31) (hl : c.len = 0) (ha : c.op 1 1 = 1) :
    pwrDomainCmd c s = powerUp (c.op 0 1) c s := ((if_neg (by omega)).trans (if_neg (by omega))).trans (if_pos ha)

theorem pwrDomainCmd_ceiling (he : 1 ≤ c.op 0 1) (he' : c.op 0 1 ≤ 10) (hl : c.len = 0) (ha : c.op 1 1 = 2)
    (hp : c.op 2 1 ≤ 7 ∨ c.op 2 1 = 0xFF) : pwrDomainCmd c s = okay (ceilingsMoved (holdTops (setDom (c.op 0 1)
      { getDom (c.op 0 1) s with host := if c.op 2 1 = 0xFF then none else some (c.op 2 1) } s))) :=
  (((if_neg (by omega)).trans (if_neg (by omega))).trans (if_neg (by omega))).trans (if_neg (by omega))

theorem pwrDomainCmd_ceiling_set (he : 1 ≤ c.op 0 1) (he' : c.op 0 1 ≤ 10) (hl : c.len = 0) (ha : c.op 1 1 = 2)
    (hp : c.op 2 1 ≤ 7) : pwrDomainCmd c s = okay (ceilingsMoved (holdTops (setDom (c.op 0 1)
      { getDom (c.op 0 1) s with host := some (c.op 2 1) } s))) := by
  rw [pwrDomainCmd_ceiling he he' hl ha (.inl hp), if_neg (by omega)]

theorem pwrDomainCmd_ceiling_withdrawn (he : 1 ≤ c.op 0 1) (he' : c.op 0 1 ≤ 10) (hl : c.len = 0) (ha : c.op 1 1 = 2)
    (hp : c.op 2 1 = 0xFF) : pwrDomainCmd c s = okay (ceilingsMoved (holdTops (setDom (c.op 0 1)
      { getDom (c.op 0 1) s with host := none } s))) := by
  rw [pwrDomainCmd_ceiling he he' hl ha (.inr hp), if_pos hp]

/-- A value of PWR_LIMIT that is in range. -/
def limitSound (v : Nat) : Bool :=
  decide (100 ≤ fld v 0 11) && decide (fld v 0 11 ≤ 1000) && decide (100 ≤ fld v 20 11) && decide (fld v 20 11 ≤ 900) &&
    decide (fld v 20 11 ≤ fld v 0 11) && decide (5 ≤ fld v 11 9) && decide (fld v 11 9 ≤ 500)

theorem limitSound_iff {v : Nat} : limitSound v = true ↔ 100 ≤ fld v 0 11 ∧ fld v 0 11 ≤ 1000 ∧ 100 ≤ fld v 20 11 ∧ fld v 20 11 ≤ 900 ∧
    fld v 20 11 ≤ fld v 0 11 ∧ 5 ≤ fld v 11 9 ∧ fld v 11 9 ≤ 500 := by
  simp only [limitSound, Bool.and_eq_true, decide_eq_true_eq, and_assoc]

theorem pwrLimitSetCmd_sets (hl : c.len = 0) (h : limitSound (c.op 0 4) = true) :
    pwrLimitSetCmd c s = okay (pwrErr false (wrRw Reg.pwrLimit 0 (c.op 0 4) s)) :=
  (if_neg (not_not.mpr hl)).trans (congrArg okay (if_pos (limitSound_iff.mp h)))

theorem pwrLimitSetCmd_refuses (hl : c.len = 0) (h : limitSound (c.op 0 4) = false) : pwrLimitSetCmd c s = okay (pwrErr true s) :=
  (if_neg (not_not.mpr hl)).trans (congrArg okay (if_neg fun hs => ne_false_of_eq_true (limitSound_iff.mpr hs) h))

theorem pwrReadCmd_reads (hl : c.len = 1024) : pwrReadCmd c s = okayData (powerArea s) s := if_neg (not_not.mpr hl)

section
variable {ans : VrAnswer} (he : c.op 0 1 < 16) (hn : c.op 3 1 = 1 ∨ c.op 3 1 = 2) (hl : c.len = 0)
include he hn hl

theorem pwrPmbusCmd_nack (hw : c.op 2 1 < 2) (ha : ans.answered = false) : pwrPmbusCmd c ans s = fail 0x81 s :=
  (if_neg (by omega)).trans (if_pos (by simp [ha]))

theorem pwrPmbusCmd_writes (ha : ans.answered = true) (h : c.op 2 1 = 1) :
    pwrPmbusCmd c ans s = okay (emit (.vr (c.op 0 1) (c.op 1 1) (c.op 4 (c.op 3 1))) s) :=
  ((if_neg (by omega)).trans (if_neg (by simp [ha]))).trans (if_pos h)

theorem pwrPmbusCmd_reads (ha : ans.answered = true) (h : c.op 2 1 = 0) {v : Nat}
    (hv : (if c.op 1 1 = 0x8B then ans.mv else if c.op 1 1 = 0x8C then ans.ma else ans.status) = v) :
    pwrPmbusCmd c ans s = okayWith (fit 2 (le (c.op 3 1) v)) s := by
  rw [← hv]
  exact ((if_neg (by omega)).trans (if_neg (by simp [ha]))).trans (if_neg (by omega))

end

end

/-- Settles O50. -/
theorem powerCommands : Obligations.PowerCommands := by
  unfold Obligations.PowerCommands
  intro det code d c ans s hdet hcode hd u x changing die temp pay e y ends n pk w l sound on
  refine ⟨fun ht => ⟨exec_droopTrip_first hdet hcode ht, fun p => exec_droopTrip_later hdet hcode ht⟩, exec_droopTrip_not hdet hcode,
    exec_droopReturn_none hd, fun p => exec_droopReturn hd, exec_droopRecalibration_busy hdet, exec_droopRecalibration_idle hdet,
    exec_domainPowerDownDone hd, exec_domainPowerDownDone_not hd, fun h he hl => ⟨fun ha => ?_, fun ha => ?_, fun ha h1 h10 => ?_⟩,
    fun h hl => ⟨fun hs => next_done h (pwrLimitSetCmd_sets (s := u) hl hs), fun hs => next_done h (pwrLimitSetCmd_refuses (s := u) hl hs)⟩,
    fun h hl => ⟨length_fit _ _, next_done h (pwrReadCmd_reads (s := u) hl)⟩, fun h he hw hn hl => ?_⟩
  · have hc := pwrDomainCmd_down (s := u) he hl ha
    exact ⟨fun hs => next_done h (hc.trans (powerDown_off hs)), fun hs hx => next_done h (hc.trans (powerDown_dependent hs hx)),
      fun hs hr hm ht => next_later h (hc.trans (powerDown_deferred hs hr hm ht)),
      fun hs hr hm ht => next_done h (hc.trans (powerDown_cuts hs hr hm ht))⟩
  · have hc := pwrDomainCmd_up (s := u) he hl ha
    exact ⟨fun hs => next_done h (hc.trans (powerUp_on hs)), fun r hs hr => next_done h (hc.trans (powerUp_cancels hs hr)),
      fun hs hr => next_done h (hc.trans (powerUp_dependent hs hr)), fun hs hr hh => next_later h (hc.trans (powerUp_half hs hr hh)),
      fun hs hr h1 h2 => next_done h (hc.trans (powerUp_group hs hr h1 h2)),
      fun hs hr hh => next_done h (hc.trans (powerUp_other hs hr hh))⟩
  · exact ⟨fun hp => next_done h (pwrDomainCmd_ceiling_set (s := u) h1 h10 hl ha hp),
      fun hp => next_done h (pwrDomainCmd_ceiling_withdrawn (s := u) h1 h10 hl ha hp)⟩
  · exact ⟨fun ha => next_done h (pwrPmbusCmd_nack (s := u) he hn hl hw ha),
      fun ha h1 => next_done h (pwrPmbusCmd_writes (s := u) he hn hl ha h1),
      fun ha h0 hb => next_done h (pwrPmbusCmd_reads (s := u) he hn hl ha h0 (if_pos hb)),
      fun ha h0 hb => next_done h (pwrPmbusCmd_reads (s := u) he hn hl ha h0 ((if_neg (by omega)).trans (if_pos hb))),
      fun ha h0 hb hb' => next_done h (pwrPmbusCmd_reads (s := u) he hn hl ha h0 ((if_neg hb).trans (if_neg hb')))⟩

end Sys2Proof.Machine
end

section
/-! PROOFS. The fault manager's commands (chapter 18). -/
namespace Sys2Proof.Machine

section
variable {c : Cmd} {s : State}

theorem faultAckCmd_acks (hl : c.len = 0) : faultAckCmd c s = okay { s with flt := { s.flt with
    recs := s.flt.recs.map (fun r => if bitAt (c.op 0 32) r.cls then { r with acked := true } else r), ackAt := noteAck (c.op 0 32) s } } :=
  if_neg (not_not.mpr hl)

/-- What FAULT_READ reads. -/
def faultData (w : Nat) (s : State) : List Byte :=
  if w = 0 then firstBytes s else if w = 1 then histBytes s else if w = 2 then latestBytes s else faultArea s

theorem faultReadCmd_reads (hw : c.op 0 1 ≤ 3) (hl : c.len = ([64, 1024, 16384, 1280]).getD (c.op 0 1) 0) :
    faultReadCmd c s = okayData (faultData (c.op 0 1) s) s :=
  if_neg fun h => h.elim (by omega) fun h => h hl

theorem faultReadCmd_of {w n : Nat} {d : List Byte} (hw : c.op 0 1 = w) (hl : c.len = n) (h3 : w ≤ 3)
    (hn : n = ([64, 1024, 16384, 1280]).getD w 0) (hd : faultData w s = d) : faultReadCmd c s = okayData d s := by
  subst hw
  rw [faultReadCmd_reads h3 (hl.trans hn), hd]

section
variable (hl : c.len = 0)
include hl

theorem faultClassSetCmd_reads (hf : c.op 4 1 = 1) :
    faultClassSetCmd c s = okayWith (le 4 (rd Reg.fltClassCfg (c.op 0 1) s)) s := by
  have h1 : flagOk c 4 = true := by simp [flagOk, hf]
  have h2 : readFlag c 4 = true := by simp [readFlag, hf, bitAt]
  rw [faultClassSetCmd, if_neg (by simp [hl, h1]), if_pos h2]

theorem faultClassSetCmd_write (hf : c.op 4 1 = 0) : faultClassSetCmd c s =
    if Reg.clsFixed (c.op 0 1) then fail 0x84 s
    else if classCfgOk (c.op 1 1) (c.op 2 1) then
      okay (fltErr false (wrRw Reg.fltClassCfg (c.op 0 1) (c.op 1 1 + 8 * c.op 2 1 + 256 * c.op 3 1) s))
    else fail BAD_PARAM (fltErr true s) := by
  have h1 : flagOk c 4 = true := by simp [flagOk, hf]
  have h2 : ¬readFlag c 4 = true := by simp [readFlag, hf, bitAt]
  rw [faultClassSetCmd, if_neg (by simp [hl, h1]), if_neg h2]

theorem unitOperand_ok {other : Nat} (hk : c.op 2 2 < kindCount (c.op 0 1)) : unitOperand c other = none := by
  have hw : c.op 0 1 ≤ 14 := by
    by_contra h
    have h0 : kindCount (c.op 0 1) = 0 := by
      rw [kindCount, List.getD_eq_default]
      simp only [List.length_cons, List.length_nil]
      omega
    omega
  rw [unitOperand, if_neg (by omega), if_neg (by omega), if_neg (by omega)]

theorem unitOperand_other {other : Nat} (hw : c.op 0 1 = 0 ∨ c.op 0 1 = 13 ∨ c.op 0 1 = 14) : unitOperand c other = some other := by
  have h0 : kindCount (c.op 0 1) = 0 := by rcases hw with h | h | h <;> simp [h, kindCount]
  rw [unitOperand, if_neg (by omega), if_pos h0]

theorem unitFenceCmd_other (hf : c.op 4 1 ≤ 1) (hw : c.op 0 1 = 0 ∨ c.op 0 1 = 13 ∨ c.op 0 1 = 14) :
    unitFenceCmd c s = fail 0x83 s := by
  rw [unitFenceCmd, if_neg (by omega), unitOperand_other hl hw]

section
variable (hk : c.op 2 2 < kindCount (c.op 0 1))
include hk

/-- A unit that UNIT_FENCE must leave in service. -/
def fenceBarred (kind ix : Nat) (s : State) : Bool := !unitExists kind ix s || unitKept kind ix s || twinDrains kind ix s

theorem unitFenceCmd_of_unit (hf : c.op 4 1 ≤ 1) : unitFenceCmd c s =
    if (getUnit (c.op 0 1) (c.op 2 2) s).state ≠ .inService then okay s
    else if fenceBarred (c.op 0 1) (c.op 2 2) s then fail 0x83 s
    else if bitAt (c.op 4 1) 0 then okay (fenceNow (c.op 0 1) (c.op 2 2) 2 none s)
    else if drainKind (c.op 0 1) then
      if (getUnit (c.op 0 1) (c.op 2 2) s).draining.isSome then
        (setUnit (c.op 0 1) (c.op 2 2)
          { getUnit (c.op 0 1) (c.op 2 2) s with also := (getUnit (c.op 0 1) (c.op 2 2) s).also ++ [c.ref] } s, .later)
      else (startDrain (c.op 0 1) (c.op 2 2)
        (setUnit (c.op 0 1) (c.op 2 2) { getUnit (c.op 0 1) (c.op 2 2) s with draining := some c.ref } s), .later)
    else okay (fenceNow (c.op 0 1) (c.op 2 2) 1 none s) := by
  rw [unitFenceCmd, if_neg (by omega), unitOperand_ok hl hk]
  simp only [fenceBarred, Bool.or_eq_true, or_assoc]

theorem unitFenceCmd_out (hf : c.op 4 1 ≤ 1) (hs : (getUnit (c.op 0 1) (c.op 2 2) s).state ≠ .inService) :
    unitFenceCmd c s = okay s := (unitFenceCmd_of_unit hl hk hf).trans (if_pos hs)

section
variable (hf : c.op 4 1 ≤ 1) (hs : (getUnit (c.op 0 1) (c.op 2 2) s).state = .inService)
include hf hs

theorem unitFenceCmd_barred (hb : fenceBarred (c.op 0 1) (c.op 2 2) s = true) : unitFenceCmd c s = fail 0x83 s :=
  ((unitFenceCmd_of_unit hl hk hf).trans (if_neg (not_not.mpr hs))).trans (if_pos hb)

variable (hb : fenceBarred (c.op 0 1) (c.op 2 2) s = false)
include hb

theorem unitFenceCmd_force (h1 : c.op 4 1 = 1) : unitFenceCmd c s = okay (fenceNow (c.op 0 1) (c.op 2 2) 2 none s) :=
  (((unitFenceCmd_of_unit hl hk hf).trans (if_neg (not_not.mpr hs))).trans (if_neg (ne_true_of_eq_false hb))).trans
    (if_pos (by simp [h1, bitAt]))

theorem unitFenceCmd_unforced (h0 : c.op 4 1 = 0) : unitFenceCmd c s = if drainKind (c.op 0 1) then
      if (getUnit (c.op 0 1) (c.op 2 2) s).draining.isSome then
        (setUnit (c.op 0 1) (c.op 2 2)
          { getUnit (c.op 0 1) (c.op 2 2) s with also := (getUnit (c.op 0 1) (c.op 2 2) s).also ++ [c.ref] } s, .later)
      else (startDrain (c.op 0 1) (c.op 2 2)
        (setUnit (c.op 0 1) (c.op 2 2) { getUnit (c.op 0 1) (c.op 2 2) s with draining := some c.ref } s), .later)
    else okay (fenceNow (c.op 0 1) (c.op 2 2) 1 none s) :=
  (((unitFenceCmd_of_unit hl hk hf).trans (if_neg (not_not.mpr hs))).trans (if_neg (ne_true_of_eq_false hb))).trans
    (if_neg (by simp [h0, bitAt]))

theorem unitFenceCmd_drains (h0 : c.op 4 1 = 0) (hd : drainKind (c.op 0 1) = true)
    (hx : (getUnit (c.op 0 1) (c.op 2 2) s).draining = none) : unitFenceCmd c s = (startDrain (c.op 0 1) (c.op 2 2)
      (setUnit (c.op 0 1) (c.op 2 2) { getUnit (c.op 0 1) (c.op 2 2) s with draining := some c.ref } s), .later) := by
  rw [unitFenceCmd_unforced hl hk hf hs hb h0, if_pos hd, if_neg (by simp [hx])]

theorem unitFenceCmd_joins (h0 : c.op 4 1 = 0) (hd : drainKind (c.op 0 1) = true)
    (hx : (getUnit (c.op 0 1) (c.op 2 2) s).draining.isSome = true) : unitFenceCmd c s = (setUnit (c.op 0 1) (c.op 2 2)
      { getUnit (c.op 0 1) (c.op 2 2) s with also := (getUnit (c.op 0 1) (c.op 2 2) s).also ++ [c.ref] } s, .later) := by
  rw [unitFenceCmd_unforced hl hk hf hs hb h0, if_pos hd, if_pos hx]

theorem unitFenceCmd_fences (h0 : c.op 4 1 = 0) (hd : drainKind (c.op 0 1) = false) :
    unitFenceCmd c s = okay (fenceNow (c.op 0 1) (c.op 2 2) 1 none s) := by
  rw [unitFenceCmd_unforced hl hk hf hs hb h0, if_neg (ne_true_of_eq_false hd)]

end

theorem unitTestCmd_starts (hs : (getUnit (c.op 0 1) (c.op 2 2) s).state = .fenced) : unitTestCmd c s =
    (setUnit (c.op 0 1) (c.op 2 2)
      { getUnit (c.op 0 1) (c.op 2 2) s with state := .testing, testCmd := some c.ref, faulted := false } s, .later) := by
  unfold unitTestCmd
  simp only [unitOperand_ok hl hk, hs]

theorem unitTestCmd_inService (hs : (getUnit (c.op 0 1) (c.op 2 2) s).state = .inService) : unitTestCmd c s = fail 0x80 s := by
  unfold unitTestCmd
  simp only [unitOperand_ok hl hk, hs]

theorem unitTestCmd_testing (hs : (getUnit (c.op 0 1) (c.op 2 2) s).state = .testing) : unitTestCmd c s = fail 0x85 s := by
  unfold unitTestCmd
  simp only [unitOperand_ok hl hk, hs]

theorem unitReturnCmd_fenced (hs : (getUnit (c.op 0 1) (c.op 2 2) s).state = .fenced) : unitReturnCmd c s =
    if (getUnit (c.op 0 1) (c.op 2 2) s).passed then okay (followFence (returnEffect (c.op 0 1) (c.op 2 2)
      (postUnit (c.op 0 1) (c.op 2 2) 0 5 (setUnit (c.op 0 1) (c.op 2 2) {} s))))
    else fail 0x81 s := by
  unfold unitReturnCmd
  simp only [unitOperand_ok hl hk, hs]

theorem unitReturnCmd_inService (hs : (getUnit (c.op 0 1) (c.op 2 2) s).state = .inService) : unitReturnCmd c s = fail 0x80 s := by
  unfold unitReturnCmd
  simp only [unitOperand_ok hl hk, hs]

theorem unitReturnCmd_testing (hs : (getUnit (c.op 0 1) (c.op 2 2) s).state = .testing) : unitReturnCmd c s = fail 0x85 s := by
  unfold unitReturnCmd
  simp only [unitOperand_ok hl hk, hs]

end

theorem diagTestCmd_passes (ht : c.op 0 1 < 4) : diagTestCmd c true s = okay s := (if_neg (by omega)).trans (if_pos rfl)

theorem diagTestCmd_fails (ht : c.op 0 1 < 4) :
    diagTestCmd c false s = fail 0x82 (report 252 14 (c.op 0 1) (le 8 (c.op 0 1)) s) :=
  (if_neg (by omega)).trans (if_neg Bool.false_ne_true)

end

end

theorem modeForbids_diagTest {s : State} (h : s.sys.mode ≠ .diag) : modeForbids 0x87 s = true := by simp [modeForbids, h]

/-! ### The end of a drain and of a test -/

section
variable {kind ix : Nat} {s : State}

theorem exec_fenceComplete {t : State} (hi : ix < kindCount kind) (h : fenceComplete kind ix s = t) :
    exec (.fenceComplete kind ix) s = .next t := within_eq (decide_eq_true hi) h

theorem fenceComplete_not (h : (getUnit kind ix s).draining = none ∨ drained kind ix s = false) : fenceComplete kind ix s = s :=
  if_pos (h.imp (by simp [·]) (by simp [·]))

section
variable (hd : (getUnit kind ix s).draining ≠ none) (hn : drained kind ix s = true)
include hd hn

theorem drain_over : ¬((getUnit kind ix s).draining.isNone = true ∨ (!drained kind ix s) = true) := by
  simp [hn, Option.isNone_iff_eq_none, hd]

theorem fenceComplete_fences (hk : unitKept kind ix s = false) :
    fenceComplete kind ix s = toFenced kind ix 1 (drainedEffect kind ix) s :=
  (if_neg (drain_over hd hn)).trans (if_neg (ne_true_of_eq_false hk))

theorem fenceComplete_bank (hk : unitKept kind ix s = true) (h5 : kind = 5) : fenceComplete kind ix s =
    endDrain (getUnit kind ix s) 0x83 (setUnit kind ix {} { s with tbl := { s.tbl with noProbe := tset s.tbl.noProbe ix false } }) :=
  ((if_neg (drain_over hd hn)).trans (if_pos hk)).trans (congrArg (endDrain (getUnit kind ix s) 0x83) (if_pos h5))

theorem fenceComplete_kept (hk : unitKept kind ix s = true) (h5 : kind ≠ 5) :
    fenceComplete kind ix s = endDrain (getUnit kind ix s) 0x83 (setUnit kind ix {} s) :=
  ((if_neg (drain_over hd hn)).trans (if_pos hk)).trans (congrArg (endDrain (getUnit kind ix s) 0x83) (if_neg h5))

end

/-- A test's finding is that the unit is good. -/
def testGood (kind ix : Nat) (found : TestFound) (s : State) : Bool := testPassed kind found && !(getUnit kind ix s).faulted

theorem exec_testEnd {found : TestFound} (hi : ix < kindCount kind) :
    exec (.testEnd kind ix found) s = .next (endTest kind ix (testGood kind ix found s) s) := within_of (decide_eq_true hi) _

theorem endTest_not {ok : Bool} (hs : (getUnit kind ix s).state ≠ .testing) : endTest kind ix ok s = s := if_pos hs

theorem endTest_passed {r : CmdRef} (hs : (getUnit kind ix s).state = .testing) (hr : (getUnit kind ix s).testCmd = some r) :
    endTest kind ix true s =
      finishRef r {} (afterTest kind ix (postUnit kind ix 1 3 (setUnit kind ix { state := .fenced, passed := true } s))) := by
  refine (if_neg (not_not.mpr hs)).trans ?_
  rw [hr]
  rfl

theorem endTest_failed {r : CmdRef} (hs : (getUnit kind ix s).state = .testing) (hr : (getUnit kind ix s).testCmd = some r) :
    endTest kind ix false s =
      finishRef r { status := 0x82 } (afterTest kind ix (postUnit kind ix 1 4 (setUnit kind ix { state := .fenced } s))) := by
  refine (if_neg (not_not.mpr hs)).trans ?_
  rw [hr]
  rfl

end

/-- Settles O53. -/
theorem faultCommands : Obligations.FaultCommands := by
  unfold Obligations.FaultCommands
  intro kind ix found ok c s u w k x y passed ends kept probing
  refine ⟨fun h hl => next_done h (faultAckCmd_acks (s := u) hl), fun h => ?_, fun h hl => ⟨fun hf => ?_, fun hf hx => ?_, fun hf hx ho => ?_,
      fun hf hx ho => ?_⟩, fun h hk hl hf => ⟨fun hs => ?_, fun hs hb => ?_, fun hs hb => ?_⟩,
    fun hw h hl hf => next_done h (unitFenceCmd_other (s := u) hl hf hw), fun hi => ?_, fun h hk hl => ?_, fun h hk hl => ?_,
    fun h hl hw => ⟨next_done h (diagTestCmd_passes (s := u) hl hw), next_done h (diagTestCmd_fails (s := u) hl hw)⟩,
    fun hf he ho hs hr hm => congrArg _ (runCmd_forbidden hf he ho hs hr (ho ▸ modeForbids_diagTest hm))⟩
  · exact ⟨fun hw hl => next_done h (faultReadCmd_of (s := u) hw hl (by decide) rfl rfl),
      fun hw hl => next_done h (faultReadCmd_of (s := u) hw hl (by decide) rfl rfl),
      fun hw hl => next_done h (faultReadCmd_of (s := u) hw hl (by decide) rfl rfl),
      fun hw hl => next_done h (faultReadCmd_of (s := u) hw hl (by decide) rfl rfl)⟩
  · exact next_done h (faultClassSetCmd_reads (s := u) hl hf)
  · exact next_done h ((faultClassSetCmd_write (s := u) hl hf).trans (if_pos hx))
  · exact next_done h (((faultClassSetCmd_write (s := u) hl hf).trans (if_neg (ne_true_of_eq_false hx))).trans
      (if_neg (ne_true_of_eq_false ho)))
  · exact next_done h (((faultClassSetCmd_write (s := u) hl hf).trans (if_neg (ne_true_of_eq_false hx))).trans (if_pos ho))
  · exact next_done h (unitFenceCmd_out (s := u) hl hk hf hs)
  · exact next_done h (unitFenceCmd_barred (s := u) hl hk hf hs hb)
  · exact ⟨fun h1 => next_done h (unitFenceCmd_force (s := u) hl hk hf hs hb h1),
      fun h0 hd hx => next_later h (unitFenceCmd_drains (s := u) hl hk hf hs hb h0 hd hx),
      fun h0 hd hx => next_later h (unitFenceCmd_joins (s := u) hl hk hf hs hb h0 hd hx),
      fun h0 hd => next_done h (unitFenceCmd_fences (s := u) hl hk hf hs hb h0 hd)⟩
  · refine ⟨fun hn => exec_fenceComplete hi (fenceComplete_not hn), fun hd hn hk => exec_fenceComplete hi (fenceComplete_fences hd hn hk),
      fun hd hn hk h5 => exec_fenceComplete hi (fenceComplete_bank hd hn hk h5),
      fun hd hn hk h5 => exec_fenceComplete hi (fenceComplete_kept hd hn hk h5),
      fun hs => (exec_testEnd hi).trans (congrArg _ (endTest_not hs)), fun r hs hr => ⟨fun hp => ?_, fun hp => ?_⟩⟩
    · have hg : testGood kind ix found s = true := hp
      rw [exec_testEnd hi, hg, endTest_passed hs hr]
    · have hg : testGood kind ix found s = false := hp
      rw [exec_testEnd hi, hg, endTest_failed hs hr]
  · exact ⟨fun hs => next_later h (unitTestCmd_starts (s := u) hl hk hs), fun hs => next_done h (unitTestCmd_inService (s := u) hl hk hs),
      fun hs => next_done h (unitTestCmd_testing (s := u) hl hk hs)⟩
  · exact ⟨fun hs hp => next_done h ((unitReturnCmd_fenced (s := u) hl hk hs).trans (if_pos hp)),
      fun hs hp => next_done h ((unitReturnCmd_fenced (s := u) hl hk hs).trans (if_neg (ne_true_of_eq_false hp))),
      fun hs => next_done h (unitReturnCmd_inService (s := u) hl hk hs),
      fun hs => next_done h (unitReturnCmd_testing (s := u) hl hk hs)⟩

end Sys2Proof.Machine
end

section
/-! PROOFS. Power, reset and wipe (chapter 19, tables 19.2 and 20.7). -/
namespace Sys2Proof.Machine

/-! ### Domains that power up in order -/

section
variable {d e n : Nat} {s : State}

theorem getDom_setDom_self (x : PDom) : getDom d (setDom d x s) = x := tget_tset_self ..

theorem getDom_setDom_ne (h : e ≠ d) (x : PDom) : getDom e (setDom d x s) = getDom e s := tget_tset_other _ _ _ _ h

theorem domServes_riseDom (h : (requires d).all (fun e => domServes e s) = true) : domServes d (riseDom d s) = true := by
  rw [riseDom, if_pos h, domServes, modDom, getDom_setDom_self, decide_eq_true_eq]

theorem domServes_riseDom_kept (h : domServes e s = true) : domServes e (riseDom d s) = true := by
  unfold riseDom
  split
  · unfold domServes modDom
    rcases eq_or_ne e d with rfl | hne
    · rw [getDom_setDom_self, decide_eq_true_eq]
    · rw [getDom_setDom_ne hne]
      exact h
  · exact h

/-- Each domain of a list comes after those that it requires, of which `up` are up before. -/
def requiresMet : List Nat → List Nat → Bool
  | _, [] => true
  | up, d :: l => (requires d).all up.contains && requiresMet (d :: up) l

theorem domServes_foldl_riseDom (l : List Nat) (up : List Nat) (s : State) (hl : requiresMet up l = true)
    (hup : ∀ e ∈ up, domServes e s = true) (he : e ∈ up ∨ e ∈ l) : domServes e (l.foldl (fun s d => riseDom d s) s) = true := by
  induction l generalizing up s with
  | nil => exact hup e (he.resolve_right List.not_mem_nil)
  | cons d l ih =>
    obtain ⟨hd, hl⟩ := Bool.and_eq_true_iff.mp hl
    have hr : (requires d).all (fun e => domServes e s) = true :=
      List.all_eq_true.mpr fun e h => hup e (List.contains_iff_mem.mp (List.all_eq_true.mp hd e h))
    refine ih (d :: up) (riseDom d s) hl (fun x hx => ?_) ?_
    · rcases List.mem_cons.mp hx with rfl | hx
      · exact domServes_riseDom hr
      · exact domServes_riseDom_kept (hup x hx)
    · rcases he with he | he
      · exact .inl (List.mem_cons_of_mem d he)
      · exact (List.mem_cons.mp he).imp (fun h : e = d => h ▸ List.mem_cons_self) id

theorem mem_upOrder : ∀ n ∈ List.range 31, 1 ≤ n → n ∈ upOrder := by decide

theorem domServes_powerAll (h1 : 1 ≤ n) (h30 : n ≤ 30) (s : State) : domServes n (powerAll s) = true :=
  domServes_foldl_riseDom upOrder [] s (by decide) (fun _ h => absurd h List.not_mem_nil)
    (.inr (mem_upOrder n (List.mem_range.mpr (by omega)) h1))

theorem getMChan_modMChan_self (f : MChan → MChan) : getMChan n (modMChan n f s) = f (getMChan n s) := tget_tset_self ..

theorem getMChan_modMChan_ne (h : n ≠ d) (f : MChan → MChan) : getMChan n (modMChan d f s) = getMChan n s :=
  tget_tset_other _ _ _ _ h

theorem getMChan_foldl_training (l : List Nat) (s : State) (h : n ∈ l ∨ (getMChan n s).st = .training) :
    (getMChan n (l.foldl (fun s ch => modMChan ch (fun c => { c with st := .training }) s) s)).st = .training := by
  induction l generalizing s with
  | nil => exact h.resolve_left List.not_mem_nil
  | cons ch l ih =>
    refine ih _ ?_
    rcases eq_or_ne n ch with rfl | hne
    · exact .inr (by rw [getMChan_modMChan_self])
    · refine h.imp (fun h => (List.mem_cons.mp h).resolve_left hne) fun h => ?_
      rw [getMChan_modMChan_ne hne, h]

end

/-! ### Resets and power -/

section
variable {s : State}

theorem lanesStop_sys (s : State) : (lanesStop s).sys = s.sys := (fr_lanesStop s).sys.resolve_left (by decide)

theorem exec_vddAonGood (h : s.sys.mode = .off) (e : Bool) : exec (.vddAonGood e) s =
    .next { freshState s with sys := { (freshState s).sys with mode := .reset, fuseError := e } } :=
  congrArg Host.Outcome.next (if_neg (not_not.mpr h))

/-- What a loss of VDD_AON keeps until the fresh state. -/
def unpowered (s : State) : State := if (lanesStop s).sys.thermtrip then emit (.thermtrip false) (lanesStop s) else lanesStop s

theorem unpowered_sys (s : State) : (unpowered s).sys = s.sys := by
  unfold unpowered
  split <;> exact lanesStop_sys s

theorem exec_vddAonLost (h : s.sys.mode ≠ .off) : exec .vddAonLost s = .next { freshState (unpowered s) with
    sys := { (freshState (unpowered s)).sys with mode := .off }, pwr := { doms := (0, { st := .off }) :: heldDoms } } :=
  congrArg Host.Outcome.next (if_neg h)

theorem freshState_fuses (o : State) : (freshState o).sys.lifecycle = o.sys.lifecycle ∧ (freshState o).sys.rollback = o.sys.rollback ∧
    (freshState o).sys.revoked = o.sys.revoked ∧ (freshState o).sys.keyHash = o.sys.keyHash := ⟨rfl, rfl, rfl, rfl⟩

/-- A state whose lanes are stopped and whose ALIVE_OUT is low. -/
def stopped (s : State) : State := if (lanesStop s).flt.alive then emit (.alive false) (lanesStop s) else lanesStop s

theorem stopped_sys (s : State) : (stopped s).sys = s.sys := by
  unfold stopped
  split <;> exact lanesStop_sys s

theorem doReset_eq {k : Nat} (h1 : s.sys.mode ≠ .off) (h2 : s.sys.mode ≠ .lockdown) : doReset k s =
    { freshState (stopped s) with sys := { (freshState (stopped s)).sys with
      mode := .reset, resetKind := k, resets := sat 16 (s.sys.resets + 1), priorFirst := firstBytes s, straps := s.sys.straps
      unlockFails := s.sys.unlockFails, grantAcross := if k = 6 then s.sys.grantAcross else 0
      fuseError := s.sys.fuseError } } := by
  unfold doReset
  rw [if_neg (not_or.mpr ⟨h1, h2⟩)]
  simp only [lanesStop_sys, stopped]

theorem doReset_not {k : Nat} (h : s.sys.mode = .off ∨ s.sys.mode = .lockdown) : doReset k s = s := if_pos h

theorem exec_resetNRelease_not {straps : Nat} {good : Bool} (h : s.sys.mode ≠ .reset) :
    exec (.resetNRelease straps good) s = .next { s with sys := { s.sys with resetN := false } } :=
  congrArg Host.Outcome.next (if_pos h)

section
variable {straps : Nat} (hm : s.sys.mode = .reset)
include hm

theorem exec_resetNRelease_fuses {good : Bool} (hf : s.sys.fuseError = true) : exec (.resetNRelease straps good) s =
    .next (enterLockdown (report 244 0 0 [] { s with sys := { s.sys with resetN := false } })) :=
  congrArg Host.Outcome.next ((if_neg (not_not.mpr hm)).trans (if_pos hf))

theorem exec_resetNRelease_bad (hf : s.sys.fuseError = false) :
    exec (.resetNRelease straps false) s = .next { s with sys := { s.sys with resetN := false } } :=
  congrArg Host.Outcome.next (((if_neg (not_not.mpr hm)).trans (if_neg (ne_true_of_eq_false hf))).trans (if_pos rfl))

/-- A state that enters WIPE, before its domains power up. -/
def wiping (straps : Nat) (s : State) : State :=
  { s with sys := { s.sys with resetN := false, straps := straps % 16, mode := .wipe } }

theorem exec_resetNRelease_wipe (hf : s.sys.fuseError = false) :
    exec (.resetNRelease straps true) s = .next (startTraining (powerAll (wiping straps s))) :=
  congrArg Host.Outcome.next (((if_neg (not_not.mpr hm)).trans (if_neg (ne_true_of_eq_false hf))).trans (if_neg Bool.false_ne_true))

end

theorem started_wipe_sys (straps : Nat) (s : State) : (startTraining (powerAll (wiping straps s))).sys = (wiping straps s).sys :=
  ((fr_startTraining _).sys.resolve_left (by decide)).trans ((fr_powerAll _).sys.resolve_left (by decide))

theorem started_wipe_dom {n : Nat} (straps : Nat) (h1 : 1 ≤ n) (h30 : n ≤ 30) (s : State) :
    (getDom n (startTraining (powerAll (wiping straps s)))).st = .on := by
  have hp : (startTraining (powerAll (wiping straps s))).pwr = (powerAll (wiping straps s)).pwr :=
    (fr_startTraining _).pwr.resolve_left (by decide)
  rw [getDom, hp]
  exact of_decide_eq_true (domServes_powerAll h1 h30 _)

theorem report_sys (cls kind unit : Nat) (bs : List Byte) (s : State) : (report cls kind unit bs s).sys = s.sys :=
  (fr_report ..).sys.resolve_left (by decide)

/-! ### WIPE_COMPLETE -/

/-- The device with its memories zeroed, before it leaves WIPE. -/
def zeroed (u : State) : State :=
  { u with mem := { u.mem with burlap := [], lostGran := [] }, upset := [], seq := { u.seq with scratch := [] },
           sys := { u.sys with debug := u.sys.debug ||| u.sys.grantAcross, grantAcross := 0 } }

/-- The device as it leaves WIPE. -/
def wipeLeft (u : State) : State :=
  { zeroed u with sys := { (zeroed u).sys with
      mode := if (zeroed u).sys.lifecycle = .retired then .diag else .boot
      hostWait := decide ((zeroed u).sys.lifecycle ≠ .retired) && bootSrc (zeroed u) == 1 } }

theorem wiped_lifecycle (f : WipeFound) (s : State) : (endWipeRuns (wipeReadBack f s)).sys.lifecycle = s.sys.lifecycle := by
  have h := ((fr_wipeReadBack f s).fuses.resolve_left (by decide))
  have h' := ((fr_endWipeRuns (wipeReadBack f s)).fuses.resolve_left (by decide))
  simp only [Prod.mk.injEq] at h h'
  exact h'.1.trans h.1

theorem exec_wipeComplete {f : WipeFound} (hu : (f.units.all fun u => decide (u.1 < 15) && decide (u.2 < 65536)) = true)
    (hm : s.sys.mode = .wipe) (ht : ∀ ch, ch < 32 → (getMChan ch s).st ≠ .training) :
    exec (.wipeComplete f) s = .next (railFollow (zeroed (endWipeRuns (wipeReadBack f s))) (wipeLeft (endWipeRuns (wipeReadBack f s)))) := by
  have hn : ¬(s.sys.mode ≠ .wipe ∨ ((List.range 32).any fun ch => decide ((getMChan ch s).st = .training)) = true) := by
    rintro (h | h)
    · exact h hm
    · obtain ⟨ch, hch, h⟩ := List.any_eq_true.mp h
      exact ht ch (List.mem_range.mp hch) (of_decide_eq_true h)
  have he : wipeComplete f s = _ := if_neg hn
  exact within_eq hu (he.trans rfl)

theorem exec_wipeComplete_not {f : WipeFound} (hu : (f.units.all fun u => decide (u.1 < 15) && decide (u.2 < 65536)) = true)
    (h : s.sys.mode ≠ .wipe ∨ ((List.range 32).any fun ch => decide ((getMChan ch s).st = .training)) = true) :
    exec (.wipeComplete f) s = .next s := within_eq hu (if_pos h)

/-- What is left of a state that leaves WIPE. -/
theorem wipeLeft_left (u : State) : let t := railFollow (zeroed u) (wipeLeft u)
    t.sys.mode = (if u.sys.lifecycle = .retired then .diag else .boot) ∧ t.mem.burlap = [] ∧ t.seq.scratch = [] ∧ t.upset = [] ∧
      t.flt = u.flt := by
  have h := fr_railFollow (zeroed u) (wipeLeft u)
  have hs : (railFollow (zeroed u) (wipeLeft u)).sys = (wipeLeft u).sys := h.sys.resolve_left (by decide)
  have hm : (railFollow (zeroed u) (wipeLeft u)).mem = (wipeLeft u).mem := h.mem.resolve_left (by decide)
  have hq : (railFollow (zeroed u) (wipeLeft u)).seq = (wipeLeft u).seq := h.seq.resolve_left (by decide)
  exact ⟨congrArg SysState.mode hs, congrArg MemState.burlap hm, congrArg SeqState.scratch hq, h.upset.resolve_left (by decide),
    h.flt.resolve_left (by decide)⟩

/-! ### THERMAL_TRIP -/

/-- THERMTRIP_N is driven. -/
def tripped (s : State) : State :=
  if s.sys.thermtrip then s else emit (.thermtrip true) { s with sys := { s.sys with thermtrip := true } }

theorem tripped_thermtrip (s : State) : (tripped s).sys.thermtrip = true := by
  unfold tripped
  split
  · assumption
  · rfl

theorem tripped_mode (s : State) : (tripped s).sys.mode = s.sys.mode := by
  unfold tripped
  split <;> rfl

theorem exec_thermalTrip {n : Nat} (hn : n < 32) (hm : s.sys.mode ≠ .off) :
    exec (.thermalTrip n) s = .next (enterLockdown (report 227 14 n (le 8 n) (tripped s))) :=
  within_eq (decide_eq_true hn) (if_neg hm)

theorem exec_thermalTrip_off {n : Nat} (hn : n < 32) (hm : s.sys.mode = .off) : exec (.thermalTrip n) s = .next s :=
  within_eq (decide_eq_true hn) (if_pos hm)

theorem post_sys (code : Nat) (bs : List Byte) (s : State) : (post code bs s).sys = s.sys := (fr_post ..).sys.resolve_left (by decide)

theorem setMode_sys (m : Mode) (cause : Nat) (s : State) : (setMode m cause s).sys = { s.sys with mode := m } := by
  unfold setMode
  dsimp only
  split
  · rw [post_sys]
  · rfl

theorem enterLockdown_thermtrip (s : State) : (enterLockdown s).sys.thermtrip = s.sys.thermtrip := by
  unfold enterLockdown
  split
  · rfl
  · have hdoms (l : List Nat) (u : State) : (l.foldl (fun s d => loseDomain d (modDom d (fun x =>
        { x with st := .off, raise := none, down := none, up := none }) s)) u).sys = u.sys :=
      (Fr.foldl (M := 320404194) (.refl _ u) fun _ _ h => .step (fr_loseDomain _ _) rfl (.step (fr_modDom ..) rfl h)).sys.resolve_left
        (by decide)
    have hq : (squelchAll (setMode .lockdown 2 s)).sys = (setMode .lockdown 2 s).sys := (fr_squelchAll _).sys.resolve_left (by decide)
    simp only [hdoms, hq, setMode_sys]

end

/-- Settles O54. -/
theorem resetAndPower : Obligations.ResetAndPower := by
  unfold Obligations.ResetAndPower
  intro k rail straps n good found c s
  refine ⟨fun h e => ⟨_, exec_vddAonGood h e, rfl, rfl⟩, fun h => congrArg Host.Outcome.next (if_pos h),
    fun h => ⟨_, exec_vddAonLost h, rfl, ?_⟩, fun h => congrArg Host.Outcome.next (if_pos h), fun h => within_of (decide_eq_true h) _, rfl,
    fun h hl ho => next_later h (if_neg (by simp [hl, ho])), doReset_not, fun h1 h2 => ?_, fun hm hf => ?_,
    fun hm hf => ⟨_, exec_resetNRelease_fuses hm hf, ?_⟩, exec_resetNRelease_bad, exec_resetNRelease_not,
    fun hm hu ht => ⟨_, exec_wipeComplete hu hm ht, ?_⟩, exec_wipeComplete_not, fun hn hm => ⟨_, exec_thermalTrip hn hm, ?_, ?_⟩,
    exec_thermalTrip_off⟩
  · obtain ⟨hl, hr, hv, hk⟩ := freshState_fuses (unpowered s)
    rw [unpowered_sys] at hl hr hv hk
    exact ⟨hl, hr, hv, hk, rfl⟩
  · obtain ⟨hl, hr, hv, hk⟩ := freshState_fuses (stopped s)
    rw [stopped_sys] at hl hr hv hk
    rw [doReset_eq h1 h2]
    exact ⟨rfl, rfl, rfl, rfl, hl, hr, hv, hk, rfl, rfl, rfl, rfl, rfl, rfl, rfl, rfl, rfl, rfl, rfl, rfl, rfl, rfl, rfl, rfl, rfl, rfl,
      rfl, rfl⟩
  · have hs := started_wipe_sys straps s
    exact ⟨_, exec_resetNRelease_wipe hm hf, congrArg SysState.mode hs, congrArg SysState.straps hs,
      fun hn => getMChan_foldl_training _ _ (.inl (List.mem_range.mpr hn)), fun h1 h30 => started_wipe_dom straps h1 h30 s⟩
  · rw [enterLockdown_mode, report_sys, if_neg (by simp [hm])]
  · rw [← wiped_lifecycle found s]
    exact wipeLeft_left _
  · rw [enterLockdown_mode, report_sys, tripped_mode, if_neg hm]
  · rw [enterLockdown_thermtrip, report_sys, tripped_thermtrip]

end Sys2Proof.Machine
end

section
/-! PROOFS. Boot and the operating modes (chapter 19). -/
namespace Sys2Proof.Machine

/-! ### Boot -/

section
variable {s : State}

/-- The state in which the image is loaded, its sequencer section stored, before the rails follow. -/
def imageLoaded (k : Nat) (host : Bool) (b : List Byte) (u : State) : State := { u with
  pip := { u.pip with
    store := recTab (sectionRecs (imgSection b 1) 32 4096), profiles := recTab (sectionRecs (imgSection b 2) 16 256)
    templates := recTab (sectionRecs (imgSection b 3) 4 4096), layouts := recTab (sectionRecs (imgSection b 4) 64 32), loaded := true }
  upset := u.upset.filter fun e => !(e.1 % 64 == memParse || e.1 % 64 == memProfile || e.1 % 64 == memTemplate)
  sys := { u.sys with
    mode := .staged, imageSlot := k, hostImage := host, imageVersion := imgVersion b, secVersion := imgSecurity b
    keySlot := imgSlot b, image := b.take (imgTotal b), hostWait := false, bootBusy := false, bootErr := false } }

theorem loadImage_eq (k : Nat) (host : Bool) (b : List Byte) (s : State) : loadImage k host b s =
    railFollow (loadSection (imgSection b 5) s) (imageLoaded k host b (loadSection (imgSection b 5) s)) := rfl

theorem railFollow_imageLoaded (k : Nat) (host : Bool) (b : List Byte) (w u : State) :
    (railFollow w (imageLoaded k host b u)).sys.mode = .staged ∧ (railFollow w (imageLoaded k host b u)).sys.imageSlot = k ∧
      (railFollow w (imageLoaded k host b u)).sys.secVersion = imgSecurity b := by
  have h : (railFollow w (imageLoaded k host b u)).sys = (imageLoaded k host b u).sys :=
    (fr_railFollow w (imageLoaded k host b u)).sys.resolve_left (by decide)
  exact ⟨congrArg SysState.mode h, congrArg SysState.imageSlot h, congrArg SysState.secVersion h⟩

theorem loadImage_sys (k : Nat) (host : Bool) (b : List Byte) (s : State) : (loadImage k host b s).sys.mode = .staged ∧
    (loadImage k host b s).sys.imageSlot = k ∧ (loadImage k host b s).sys.secVersion = imgSecurity b := by
  rw [loadImage_eq]
  exact railFollow_imageLoaded ..

/-- What BOOT does with a slot's image by what is wrong with it. -/
def bootNext (k : Nat) (b : List Byte) (r : List (Nat × List Byte)) (s : State) : Option Nat → State
  | none => loadImage k false b s
  | some c => bootFrom r (report c 0 0 (le 8 k) s)

theorem bootFrom_cons (k : Nat) (b : List Byte) (r : List (Nat × List Byte)) (s : State) :
    bootFrom ((k, b) :: r) s = bootNext k b r s (imageFault b s) := Eq.refl (bootNext k b r s (imageFault b s))

theorem bootFrom_accepted {k : Nat} {b : List Byte} {r : List (Nat × List Byte)} (h : imageFault b s = none) :
    bootFrom ((k, b) :: r) s = loadImage k false b s := (bootFrom_cons ..).trans (congrArg (bootNext k b r s) h)

theorem bootFrom_refused {k f : Nat} {b : List Byte} {r : List (Nat × List Byte)} (h : imageFault b s = some f) :
    bootFrom ((k, b) :: r) s = bootFrom r (report f 0 0 (le 8 k) s) := (bootFrom_cons ..).trans (congrArg (bootNext k b r s) h)

/-- The slot that BOOT takes first, and the other one. -/
def firstSlot (slotA slotB : List Byte) (s : State) : Nat × List Byte :=
  if bootSrc s = 3 ∨ imgVersion slotA < imgVersion slotB then (1, slotB) else (0, slotA)
def otherSlot (slotA slotB : List Byte) : Nat × List Byte := if imgVersion slotA < imgVersion slotB then (0, slotA) else (1, slotB)

theorem bootOrder_eq (slotA slotB : List Byte) (s : State) :
    bootOrder slotA slotB s = firstSlot slotA slotB s :: if bootSrc s = 3 then [] else [otherSlot slotA slotB] := by
  unfold bootOrder firstSlot otherSlot
  by_cases h3 : bootSrc s = 3
  · simp [h3]
  · by_cases hv : imgVersion slotA < imgVersion slotB <;> simp [h3, hv]

section
variable {slotA slotB : List Byte} (hm : s.sys.mode = .boot)
include hm

theorem exec_noAcceptableImage (hw : s.sys.hostWait = false) (hs : bootSrc s ≠ 1) :
    exec .noAcceptableImage s = .next (report 241 0 0 [] { s with sys := { s.sys with hostWait := true } }) :=
  congrArg Host.Outcome.next (if_pos ⟨hm, by simp [hw], hs⟩)

section
variable (hw : s.sys.hostWait = false) (hb : s.sys.bootBusy = false) (hs : bootSrc s ≠ 1)
include hw hb hs

theorem exec_bootImageAccepted : exec (.bootImageAccepted slotA slotB) s = .next (bootFrom (firstSlot slotA slotB s ::
    if bootSrc s = 3 then [] else [otherSlot slotA slotB]) s) := by
  have hn : ¬(s.sys.mode ≠ .boot ∨ s.sys.hostWait = true ∨ s.sys.bootBusy = true ∨ bootSrc s = 1) := by simp [hm, hw, hb, hs]
  rw [← bootOrder_eq]
  exact congrArg Host.Outcome.next (if_neg hn)

theorem exec_bootImageAccepted_first (hf : imageFault (firstSlot slotA slotB s).2 s = none) :
    exec (.bootImageAccepted slotA slotB) s =
      .next (loadImage (firstSlot slotA slotB s).1 false (firstSlot slotA slotB s).2 s) :=
  (exec_bootImageAccepted hm hw hb hs).trans (congrArg _ (bootFrom_accepted hf))

theorem exec_bootImageAccepted_alone {f : Nat} (hf : imageFault (firstSlot slotA slotB s).2 s = some f) (h3 : bootSrc s = 3) :
    exec (.bootImageAccepted slotA slotB) s = .next (report f 0 0 (le 8 (firstSlot slotA slotB s).1) s) := by
  have he := exec_bootImageAccepted hm hw hb hs (slotA := slotA) (slotB := slotB)
  rw [if_pos h3] at he
  exact he.trans (congrArg _ (bootFrom_refused hf))

theorem exec_bootImageAccepted_next {f : Nat} (hf : imageFault (firstSlot slotA slotB s).2 s = some f) (h3 : bootSrc s ≠ 3) :
    exec (.bootImageAccepted slotA slotB) s =
      .next (bootFrom [otherSlot slotA slotB] (report f 0 0 (le 8 (firstSlot slotA slotB s).1) s)) := by
  have he := exec_bootImageAccepted hm hw hb hs (slotA := slotA) (slotB := slotB)
  rw [if_neg h3] at he
  exact he.trans (congrArg _ (bootFrom_refused hf))

end

/-- What the host's image does by what is wrong with it. -/
def hostImageEnd (b : List Byte) (s : State) : Option Nat → State
  | none => loadImage 0 true b s
  | some c => report c 0 0 [] { s with sys := { s.sys with bootBusy := false, bootErr := true } }

theorem exec_hostImageChecked {image : List Byte} (hb : s.sys.bootBusy = true) (hn : rdFld Reg.sysHostBootCtrl 0 0 23 s ≤ 4194304)
    {r : Option Nat} (hf : imageFault (image.take (rdFld Reg.sysHostBootCtrl 0 0 23 s)) s = r) :
    exec (.hostImageChecked image) s = .next (hostImageEnd (image.take (rdFld Reg.sysHostBootCtrl 0 0 23 s)) s r) := by
  have hc : ¬(s.sys.mode ≠ .boot ∨ (!s.sys.bootBusy) = true) := by simp [hm, hb]
  exact congrArg Host.Outcome.next ((if_neg hc).trans
    (congrArg (hostImageEnd _ s) ((if_neg (Nat.not_lt.mpr hn)).trans hf)))

theorem exec_hostBootGo {v : Word} (hw : s.sys.hostWait = true) (hb : s.sys.bootBusy = false) (hv : bitAt v.toNat 24 = true) :
    exec (.hostBootGo v) s = .next { wrRw Reg.sysHostBootCtrl 0 v.toNat s with
      sys := { s.sys with bootBusy := true, bootErr := false } } := by
  have hs : (wrRw Reg.sysHostBootCtrl 0 v.toNat s).sys = s.sys := (fr_wrRw ..).sys.resolve_left (by decide)
  have hg : writeHostBoot v.toNat s = { wrRw Reg.sysHostBootCtrl 0 v.toNat s with
      sys := { s.sys with bootBusy := true, bootErr := false } } := by
    unfold writeHostBoot
    simp only [hs, hm, hw, hb, hv]
    rfl
  have hl : ¬s.sys.mode = .lockdown := by simp [hm]
  have h2 : 2 ≤ s.sys.mode.num := by rw [hm]; decide
  exact congrArg Host.Outcome.next (((if_neg hl).trans (if_pos h2)).trans hg)

end

/-! ### MODE_SET -/

theorem finishRef_sys (ref : CmdRef) (r : CmdRes) (s : State) : (finishRef ref r s).sys = s.sys :=
  (fr_finishRef ..).sys.resolve_left (by decide)

theorem endDrainMode_sys (cause : Nat) (s : State) :
    (endDrainMode cause s).sys.mode = .staged ∧ (endDrainMode cause s).sys.modeWait = none := by
  unfold endDrainMode
  dsimp only
  rcases s.sys.modeWait with _ | ⟨ref, m⟩
  · rw [setMode_sys]
    exact ⟨rfl, rfl⟩
  · rw [finishRef_sys, setMode_sys]
    exact ⟨rfl, rfl⟩

section
variable {c : Cmd} (hl : c.len = 0)
  (hm : c.op 0 1 = 4 ∨ c.op 0 1 = 5 ∨ c.op 0 1 = 7 ∨ c.op 0 1 = 8 ∨ c.op 0 1 = 11)
include hl hm

theorem modeSet_good : ¬(c.len ≠ 0 ∨ (!(c.op 0 1 == 4 || c.op 0 1 == 5 || c.op 0 1 == 7 || c.op 0 1 == 8 || c.op 0 1 == 11)) = true) := by
  simp only [hl, ne_eq, not_true_eq_false, false_or]
  rcases hm with h | h | h | h | h <;> simp [h]

theorem modeSetCmd_same (h : c.op 0 1 = s.sys.mode.num ∨ c.op 0 1 = 5 ∧ s.sys.mode = .degraded) : modeSetCmd c s = okay s :=
  (if_neg (modeSet_good hl hm)).trans (if_pos h)

theorem modeSetCmd_forward (h5 : c.op 0 1 = 5) (hs : s.sys.mode = .staged) :
    modeSetCmd c s = okay (setMode (if anyFenced s then .degraded else .forward) 0 s) := by
  refine (if_neg (modeSet_good hl hm)).trans ?_
  simp [h5, hs, Mode.num]

theorem modeSetCmd_jobs (h7 : c.op 0 1 = 7) (hs : s.sys.mode = .forward ∨ s.sys.mode = .degraded)
    (hj : (s.col.jobs.any fun e => e.2.st != .free) = true) : modeSetCmd c s = fail 0x81 s := by
  refine (if_neg (modeSet_good hl hm)).trans ?_
  rcases hs with hs | hs <;> simp [h7, hs, Mode.num, hj]

theorem modeSetCmd_drain (h7 : c.op 0 1 = 7) (hs : s.sys.mode = .forward ∨ s.sys.mode = .degraded)
    (hj : (s.col.jobs.any fun e => e.2.st != .free) = false) : modeSetCmd c s = ({ setMode .drain 0 s with
      sys := { (setMode .drain 0 s).sys with modeWait := some (c.ref, .staged) } }, .later) := by
  refine (if_neg (modeSet_good hl hm)).trans ?_
  rcases hs with hs | hs <;> simp [h7, hs, Mode.num, hj]

theorem modeSetCmd_doze (h8 : c.op 0 1 = 8) (hs : s.sys.mode = .staged) (hp : portsIdle s = true) :
    modeSetCmd c s = okay (dozeMem (allToZero (setMode .doze 0 s))) := by
  refine (if_neg (modeSet_good hl hm)).trans ?_
  simp [h8, hs, Mode.num, hp]

theorem modeSetCmd_staged (h4 : c.op 0 1 = 4) (hs : s.sys.mode = .doze) :
    modeSetCmd c s = okay (undozeMem (setMode .staged 0 s)) := by
  refine (if_neg (modeSet_good hl hm)).trans ?_
  simp [h4, hs, Mode.num]

theorem modeSetCmd_diag (h11 : c.op 0 1 = 11) (hs : s.sys.mode = .staged) (hd : diagAllowed s = true) :
    modeSetCmd c s = okay (setMode .diag 0 s) := by
  refine (if_neg (modeSet_good hl hm)).trans ?_
  simp [h11, hs, Mode.num, hd]

theorem modeSetCmd_noDrain (h7 : c.op 0 1 = 7) (hs : s.sys.mode = .staged) : modeSetCmd c s = fail 0x80 s := by
  refine (if_neg (modeSet_good hl hm)).trans ?_
  simp [h7, hs, Mode.num]

end

end

/-- Settles O55. -/
theorem bootAndModes : Obligations.BootAndModes := by
  unfold Obligations.BootAndModes
  intro slotA slotB image v c s x y u m n ends
  refine ⟨fun hm hw hb hs => ⟨fun hf => ⟨exec_bootImageAccepted_first hm hw hb hs hf, loadImage_sys _ _ _ _⟩,
      fun f hf h3 => exec_bootImageAccepted_alone hm hw hb hs hf h3, fun f hf h3 => ?_, exec_noAcceptableImage hm hw hs⟩,
    fun hm => ⟨congrArg Host.Outcome.next (if_pos (.inl hm)), congrArg Host.Outcome.next (if_neg fun h => hm h.1),
      congrArg Host.Outcome.next (if_pos (.inl hm))⟩,
    fun hm hw hb hv => ⟨_, exec_hostBootGo hm hw hb hv, rfl⟩,
    fun hm hb hn => ⟨fun hf => exec_hostImageChecked hm hb hn hf, fun f hf => exec_hostImageChecked hm hb hn hf⟩,
    fun h hl hm => ?_, fun hm he => ⟨congrArg Host.Outcome.next (if_pos ⟨hm, he⟩), (endDrainMode_sys 0 s).1⟩,
    fun h => congrArg Host.Outcome.next (if_neg fun hd => h.elim (fun h => h hd.1) (ne_false_of_eq_true hd.2)),
    fun hm => congrArg Host.Outcome.next (if_neg hm), fun hm => ⟨_, congrArg Host.Outcome.next (if_pos hm), endDrainMode_sys _ _⟩⟩
  · have he := exec_bootImageAccepted_next hm hw hb hs hf h3
    exact ⟨fun hg => he.trans (congrArg _ (bootFrom_accepted hg)), fun g hg => he.trans (congrArg _ (bootFrom_refused hg))⟩
  · exact ⟨fun hs => next_done h (modeSetCmd_same (s := u) hl hm (.inl hs)), fun h5 hs => next_done h (modeSetCmd_forward (s := u) hl hm h5 hs),
      fun h5 hs => next_done h (modeSetCmd_same (s := u) hl hm (.inr ⟨h5, hs⟩)),
      fun h7 hs hj => ⟨_, next_later h (modeSetCmd_drain (s := u) hl hm h7 hs hj), rfl, rfl⟩,
      fun h7 hs hj => next_done h (modeSetCmd_jobs (s := u) hl hm h7 hs hj),
      fun h8 hs hp => next_done h (modeSetCmd_doze (s := u) hl hm h8 hs hp), fun h4 hs => next_done h (modeSetCmd_staged (s := u) hl hm h4 hs),
      fun h11 hs hd => next_done h (modeSetCmd_diag (s := u) hl hm h11 hs hd),
      fun h7 hs => next_done h (modeSetCmd_noDrain (s := u) hl hm h7 hs)⟩

end Sys2Proof.Machine
end

section
/-! PROOFS. How the units stand: a report leaves each where it stands, and so does every function that only reports (R509, R558). -/
namespace Sys2Proof.Machine

theorem tabove_of_tput {α : Type} {i k : Nat} {v : α} {t : Tab α} (h : tabove i (tput t k v)) : tabove i t := by
  induction t with
  | nil => exact fun e he => absurd he List.not_mem_nil
  | cons e r ih =>
    obtain ⟨j, w⟩ := e
    unfold tput at h
    split at h
    · exact fun e he => h e (List.mem_cons_of_mem _ he)
    · split at h
      · rename_i hk
        refine List.forall_mem_cons.mpr ⟨?_, (List.forall_mem_cons.mp h).2⟩
        rw [← hk]
        exact (List.forall_mem_cons.mp h).1
      · exact List.forall_mem_cons.mpr ⟨(List.forall_mem_cons.mp h).1, ih (List.forall_mem_cons.mp h).2⟩

/-- Putting an entry neither breaks the order of a table's keys nor mends it. -/
theorem trising_tput_iff {α : Type} (t : Tab α) (k : Nat) (v : α) : trising (tput t k v) = true ↔ trising t = true := by
  refine ⟨fun h => ?_, trising_tput t k v⟩
  induction t with
  | nil => rfl
  | cons e r ih =>
    obtain ⟨j, w⟩ := e
    unfold tput at h
    split at h
    · exact ((trising_cons _ _ _).mp h).2
    · split at h
      · rename_i hk
        subst hk
        exact (trising_cons _ _ _).mpr ((trising_cons _ _ _).mp h)
      · obtain ⟨ha, hr⟩ := (trising_cons _ _ _).mp h
        exact (trising_cons _ _ _).mpr ⟨tabove_of_tput ha, ih hr⟩

/-- Where each unit stands in a table of units, and whether the table is in canonical form. -/
def unitsStanding (t : Tab FUnit) : (Nat → FenceState) × Bool := (fun k => (tget t k).state, trising t)

/-- How the units of a state stand. -/
def standing (s : State) : (Nat → FenceState) × Bool := unitsStanding s.flt.units

theorem standing_mark {kind ix : Nat} {s : State} (h : (getUnit kind ix s).state = .testing) :
    standing (setUnit kind ix { getUnit kind ix s with faulted := true } s) = standing s := by
  have ht : tset s.flt.units (unitKey kind ix) { getUnit kind ix s with faulted := true } =
      tput s.flt.units (unitKey kind ix) { getUnit kind ix s with faulted := true } :=
    if_neg fun hd => by
      have := congrArg FUnit.state hd
      rw [h] at this
      cases this
  refine Prod.ext (funext fun k => ?_) ?_
  · exact (stand_setUnit (x := { getUnit kind ix s with faulted := true }) rfl).state k
  · show trising (tset _ _ _) = _
    rw [ht]
    exact Bool.eq_iff_iff.mpr (trising_tput_iff ..)

theorem standing_foldl {α : Type} {f : State → α → State} (hf : ∀ u x, standing (f u x) = standing u) (l : List α) (s : State) :
    standing (l.foldl f s) = standing s := by
  induction l generalizing s with
  | nil => rfl
  | cons x l ih => exact (ih _).trans (hf s x)

theorem standing_markTest (rep : Report) (s : State) : standing (markTest rep s) = standing s := by
  refine standing_foldl (fun u x => ?_) _ _
  split
  · rename_i h
    exact standing_mark h.2
  · rfl

/-- A state stands as its table of units does, whatever else it holds. -/
theorem standing_mk {pending regs latch hold aon out freeIx hif tim sys lan mac tel pwr slt pip tbl buf sch mem col pool seq upset}
    (flt : FltState) : standing ⟨pending, regs, latch, hold, aon, out, freeIx, hif, tim, flt, sys, lan, mac, tel, pwr, slt, pip, tbl, buf, sch,
      mem, col, pool, seq, upset⟩ = unitsStanding flt.units := by
  rw [standing]

theorem unitsStanding_units (s : State) : unitsStanding s.flt.units = standing s := by
  rw [standing]

theorem Fr.standing {M : Nat} {s t : State} (h : Fr M s t) (hM : M.testBit 25 = false) : standing t = standing s :=
  congrArg unitsStanding (h.units.resolve_left (by simp [hM]))

theorem standing_ite {c : Prop} [Decidable c] {a b : State} {x : (Nat → FenceState) × Bool} (ha : standing a = x) (hb : standing b = x) :
    standing (if c then a else b) = x := by
  split
  · exact ha
  · exact hb

theorem standing_ite_fst {α : Type} {c : Prop} [Decidable c] {a b : State × α} {x : (Nat → FenceState) × Bool} (ha : standing a.1 = x)
    (hb : standing b.1 = x) : standing (if c then a else b).1 = x := by
  rw [apply_ite Prod.fst]
  exact standing_ite ha hb

theorem standing_ite_snd {α : Type} {c : Prop} [Decidable c] {a b : α × State} {x : (Nat → FenceState) × Bool} (ha : standing a.2 = x)
    (hb : standing b.2 = x) : standing (if c then a else b).2 = x := by
  rw [apply_ite Prod.snd]
  exact standing_ite ha hb

theorem standing_foldl_snd {α β : Type} {f : β × State → α → β × State} (hf : ∀ a x, standing (f a x).2 = standing a.2) (l : List α)
    (a : β × State) : standing (l.foldl f a).2 = standing a.2 := by
  induction l generalizing a with
  | nil => rfl
  | cons x l ih => exact (ih _).trans (hf a x)

theorem standing_foldl_third {α β γ : Type} {f : β × γ × State → α → β × γ × State} (hf : ∀ a x, standing (f a x).2.2 = standing a.2.2)
    (l : List α) (a : β × γ × State) : standing (l.foldl f a).2.2 = standing a.2.2 := by
  induction l generalizing a with
  | nil => rfl
  | cons x l ih => exact (ih _).trans (hf a x)

/-- A row that answers a next state leaves the units where they stand. -/
def Stays (s : State) (r : Res) : Prop := ∀ t, r = .next t → standing t = standing s

theorem stays_next {s t : State} : Stays s (.next t) ↔ standing t = standing s :=
  ⟨fun h => h t rfl, fun h u hu => by cases hu; exact h⟩

theorem stays_within {s t : State} {ok : Bool} : Stays s (within ok t) ↔ (ok = true → standing t = standing s) := by
  unfold within
  split
  · simp only [stays_next, true_imp_iff, *]
  · simp only [Stays, reduceCtorEq, false_imp_iff, implies_true, *]

theorem unitsStand_of_standing {s t : State} (h : standing t = standing s) : UnitsStand s t :=
  ⟨fun k => congrFun (congrArg Prod.fst h) k, fun hr => (congrArg Prod.snd h).trans hr⟩

end Sys2Proof.Machine
end

section
/-! PROOFS. What the functions that do not touch the table of units leave of how the units stand: all of it. -/
namespace Sys2Proof.Machine

theorem standing_wr (r : RegDesc) (n v : Nat) (s : State) : standing (wr r n v s) = standing s := (fr_wr r n v s).standing rfl

theorem standing_wrRw (r : RegDesc) (n v : Nat) (s : State) : standing (wrRw r n v s) = standing s := (fr_wrRw r n v s).standing rfl

theorem standing_wrFld (r : RegDesc) (n lo w v : Nat) (s : State) : standing (wrFld r n lo w v s) = standing s :=
  (fr_wrFld r n lo w v s).standing rfl

theorem standing_emit (o : Out) (s : State) : standing (emit o s) = standing s := (fr_emit o s).standing rfl

theorem standing_takeFree (s : State) : standing (takeFree s).2 = standing s := (fr_takeFree s).standing rfl

theorem standing_setRing (n : Nat) (r : Ring) (s : State) : standing (setRing n r s) = standing s := (fr_setRing n r s).standing rfl

theorem standing_post (code : Nat) (payload : List Byte) (s : State) : standing (post code payload s) = standing s :=
  (fr_post code payload s).standing rfl

theorem standing_drainCaptures (s : State) : standing (drainCaptures s) = standing s := (fr_drainCaptures s).standing rfl

theorem standing_setMode (m : Mode) (cause : Nat) (s : State) : standing (setMode m cause s) = standing s :=
  (fr_setMode m cause s).standing rfl

theorem standing_modCmd (ref : CmdRef) (f : Cmd → Cmd) (s : State) : standing (modCmd ref f s) = standing s :=
  (fr_modCmd ref f s).standing rfl

theorem standing_finish (c : Cmd) (r : CmdRes) (done left : Nat) (s : State) : standing (finish c r done left s) = standing s :=
  (fr_finish c r done left s).standing rfl

theorem standing_finishRef (ref : CmdRef) (r : CmdRes) (s : State) : standing (finishRef ref r s) = standing s :=
  (fr_finishRef ref r s).standing rfl

theorem standing_setChan (ch : Nat) (c : Chan) (s : State) : standing (setChan ch c s) = standing s := (fr_setChan ch c s).standing rfl

theorem standing_conclude (c : Cmd) (r : CmdRes) (domains : List Nat) (s : State) : standing (conclude c r domains s) = standing s :=
  (fr_conclude c r domains s).standing rfl

theorem standing_fail (st : Nat) (s : State) : standing (fail st s).1 = standing s := (fr_fail st s).standing rfl

theorem standing_okay (s : State) : standing (okay s).1 = standing s := (fr_okay s).standing rfl

theorem standing_okayWith (payload : List Byte) (s : State) : standing (okayWith payload s).1 = standing s :=
  (fr_okayWith payload s).standing rfl

theorem standing_okayData (data : List Byte) (s : State) : standing (okayData data s).1 = standing s := (fr_okayData data s).standing rfl

theorem standing_clearUpset (mem ix : Nat) (s : State) : standing (clearUpset mem ix s) = standing s :=
  (fr_clearUpset mem ix s).standing rfl

theorem standing_markSuspect (n : Nat) (s : State) : standing (markSuspect n s) = standing s := (fr_markSuspect n s).standing rfl

theorem standing_foldAcc (kind num ix : Nat) (s : State) : standing (foldAcc kind num ix s) = standing s :=
  (fr_foldAcc kind num ix s).standing rfl

theorem standing_markInexact (kind num : Nat) (s : State) : standing (markInexact kind num s) = standing s :=
  (fr_markInexact kind num s).standing rfl

theorem standing_setGrp (g : Nat) (x : Group) (s : State) : standing (setGrp g x s) = standing s := (fr_setGrp g x s).standing rfl

theorem standing_modGrp (g : Nat) (f : Group → Group) (s : State) : standing (modGrp g f s) = standing s := (fr_modGrp g f s).standing rfl

theorem standing_setClient (k : Nat) (x : SClient) (s : State) : standing (setClient k x s) = standing s :=
  (fr_setClient k x s).standing rfl

theorem standing_clientTo (k : Nat) (up : Bool) (s : State) : standing (clientTo k up s) = standing s := (fr_clientTo k up s).standing rfl

theorem standing_setAlarm (g bit client : Nat) (on : Bool) (s : State) : standing (setAlarm g bit client on s) = standing s :=
  (fr_setAlarm g bit client on s).standing rfl

theorem standing_applyCal (g : Nat) (s : State) : standing (applyCal g s) = standing s := (fr_applyCal g s).standing rfl

theorem standing_pmStep (day : Bool) (a b : Nat) (s : State) : standing (pmStep day a b s) = standing s :=
  (fr_pmStep day a b s).standing rfl

theorem standing_setLane (n : Nat) (l : Lane) (s : State) : standing (setLane n l s) = standing s := (fr_setLane n l s).standing rfl

theorem standing_modLane (n : Nat) (f : Lane → Lane) (s : State) : standing (modLane n f s) = standing s :=
  (fr_modLane n f s).standing rfl

theorem standing_setMacro (m : Nat) (x : LMacro) (s : State) : standing (setMacro m x s) = standing s := (fr_setMacro m x s).standing rfl

theorem standing_setPort (p : Nat) (x : Port) (s : State) : standing (setPort p x s) = standing s := (fr_setPort p x s).standing rfl

theorem standing_modPort (p : Nat) (f : Port → Port) (s : State) : standing (modPort p f s) = standing s :=
  (fr_modPort p f s).standing rfl

theorem standing_setSquelch (n : Nat) (on : Bool) (s : State) : standing (setSquelch n on s) = standing s :=
  (fr_setSquelch n on s).standing rfl

theorem standing_settleTx (n : Nat) (s : State) : standing (settleTx n s) = standing s := (fr_settleTx n s).standing rfl

theorem standing_unwake (p : Nat) (held : Nat → Bool) (s : State) : standing (unwake p held s) = standing s :=
  (fr_unwake p held s).standing rfl

theorem standing_settleFault (p : Nat) (s : State) : standing (settleFault p s) = standing s := (fr_settleFault p s).standing rfl

theorem standing_portEnter (p : Nat) (st : PortSt) (s : State) : standing (portEnter p st s) = standing s :=
  (fr_portEnter p st s).standing rfl

theorem standing_tryLinking (p : Nat) (s : State) : standing (tryLinking p s) = standing s := (fr_tryLinking p s).standing rfl

theorem standing_evalFc (p : Nat) (s : State) : standing (evalFc p s) = standing s := (fr_evalFc p s).standing rfl

theorem standing_addOcc (p c : Nat) (d : Int) (s : State) : standing (addOcc p c d s) = standing s := (fr_addOcc p c d s).standing rfl

theorem standing_observeTest (n : Nat) (s : State) : standing (observeTest n s) = standing s := (fr_observeTest n s).standing rfl

theorem standing_laneToCal (n : Nat) (s : State) : standing (laneToCal n s) = standing s := (fr_laneToCal n s).standing rfl

theorem standing_laneStart (n : Nat) (s : State) : standing (laneStart n s) = standing s := (fr_laneStart n s).standing rfl

theorem standing_gatesStepped (n : Nat) (s : State) : standing (gatesStepped n s) = standing s := (fr_gatesStepped n s).standing rfl

theorem standing_setPkt (i : Nat) (p : Pkt) (s : State) : standing (setPkt i p s) = standing s := (fr_setPkt i p s).standing rfl

theorem standing_setArriving (i : Nat) (a : Arrival) (s : State) : standing (setArriving i a s) = standing s :=
  (fr_setArriving i a s).standing rfl

theorem standing_modPkt (i : Nat) (f : Pkt → Pkt) (s : State) : standing (modPkt i f s) = standing s := (fr_modPkt i f s).standing rfl

theorem standing_dropPkt (i : Nat) (s : State) : standing (dropPkt i s) = standing s := (fr_dropPkt i s).standing rfl

theorem standing_newPkt (p : Pkt) (s : State) : standing (newPkt p s).2 = standing s := (fr_newPkt p s).standing rfl

theorem standing_setQ (q : Nat) (x : Queue) (s : State) : standing (setQ q x s) = standing s := (fr_setQ q x s).standing rfl

theorem standing_modQ (q : Nat) (f : Queue → Queue) (s : State) : standing (modQ q f s) = standing s := (fr_modQ q f s).standing rfl

theorem standing_setCells (i : Nat) (x : Cells) (s : State) : standing (setCells i x s) = standing s := (fr_setCells i x s).standing rfl

theorem standing_gauzeSource (pipe src : Nat) (s : State) : standing (gauzeSource pipe src s).2.2 = standing s :=
  (fr_gauzeSource pipe src s).standing rfl

theorem standing_endPkt (i : Nat) (s : State) : standing (endPkt i s) = standing s := (fr_endPkt i s).standing rfl

theorem standing_setMChan (ch : Nat) (c : MChan) (s : State) : standing (setMChan ch c s) = standing s :=
  (fr_setMChan ch c s).standing rfl

theorem standing_modMChan (ch : Nat) (f : MChan → MChan) (s : State) : standing (modMChan ch f s) = standing s :=
  (fr_modMChan ch f s).standing rfl

theorem standing_chanUsed (ch : Nat) (s : State) : standing (chanUsed ch s) = standing s := (fr_chanUsed ch s).standing rfl

theorem standing_burlapWrite (a : Nat) (bs : List Byte) (s : State) : standing (burlapWrite a bs s) = standing s :=
  (fr_burlapWrite a bs s).standing rfl

theorem standing_setEm (i : Nat) (e : EmEntry) (s : State) : standing (setEm i e s) = standing s := (fr_setEm i e s).standing rfl

theorem standing_restoreLater (kind key : Nat) (s : State) : standing (restoreLater kind key s) = standing s :=
  (fr_restoreLater kind key s).standing rfl

theorem standing_countMiss (s : State) : standing (countMiss s) = standing s := (fr_countMiss s).standing rfl

theorem standing_emHit (i : Nat) (s : State) : standing (emHit i s) = standing s := (fr_emHit i s).standing rfl

theorem standing_groupEmpty (g : Nat) (s : State) : standing (groupEmpty g s) = standing s := (fr_groupEmpty g s).standing rfl

theorem standing_groupsLive (s : State) : standing (groupsLive s) = standing s := (fr_groupsLive s).standing rfl

theorem standing_touch (objs : List (Nat × Nat)) (s : State) : standing (touch objs s) = standing s := (fr_touch objs s).standing rfl

theorem standing_beginSweep (s : State) : standing (beginSweep s) = standing s := (fr_beginSweep s).standing rfl

theorem standing_learnCandidate (key : List Byte) (typ : Nat) (move : Option Nat) (p : Pkt) (s : State) : standing (learnCandidate key typ
    move p s) = standing s :=
  (fr_learnCandidate key typ move p s).standing rfl

theorem standing_postSpill (q entered peak : Nat) (s : State) : standing (postSpill q entered peak s) = standing s :=
  (fr_postSpill q entered peak s).standing rfl

theorem standing_setRun (q : Nat) (x : Queue) (s : State) : standing (setRun q x s) = standing s := (fr_setRun q x s).standing rfl

theorem standing_closeRun (q : Nat) (s : State) : standing (closeRun q s) = standing s := (fr_closeRun q s).standing rfl

theorem standing_storeCells (c : Cells) (key n : Nat) (s : State) : standing (storeCells c key n s).2 = standing s :=
  (fr_storeCells c key n s).standing rfl

theorem standing_storeUnit (q i k pos : Nat) (s : State) : standing (storeUnit q i k pos s) = standing s :=
  (fr_storeUnit q i k pos s).standing rfl

theorem standing_spillLate (i : Nat) (s : State) : standing (spillLate i s) = standing s := (fr_spillLate i s).standing rfl

theorem standing_leaveQueue (i q : Nat) (s : State) : standing (leaveQueue i q s) = standing s := (fr_leaveQueue i q s).standing rfl

theorem standing_loseUnits (q : Nat) (b : RBlock) (s : State) : standing (loseUnits q b s) = standing s :=
  (fr_loseUnits q b s).standing rfl

theorem standing_passLost (q : Nat) (k : Nat) (s : State) : standing (passLost q k s) = standing s := (fr_passLost q k s).standing rfl

theorem standing_takeAssembly (q : Nat) (s : State) : standing (takeAssembly q s) = standing s := (fr_takeAssembly q s).standing rfl

theorem standing_groupClk (g : Nat) (c : LgClk) (s : State) : standing (groupClk g c s) = standing s := (fr_groupClk g c s).standing rfl

theorem standing_lanesOff (m : Nat) (s : State) : standing (lanesOff m s) = standing s := (fr_lanesOff m s).standing rfl

theorem standing_writeLaneCfg (n v : Nat) (s : State) : standing (writeLaneCfg n v s) = standing s := (fr_writeLaneCfg n v s).standing rfl

theorem standing_writeTxffe (n v : Nat) (s : State) : standing (writeTxffe n v s) = standing s := (fr_writeTxffe n v s).standing rfl

theorem standing_writeLaneRx (n v : Nat) (s : State) : standing (writeLaneRx n v s) = standing s := (fr_writeLaneRx n v s).standing rfl

theorem standing_clearPortCtrs (p : Nat) (s : State) : standing (clearPortCtrs p s) = standing s := (fr_clearPortCtrs p s).standing rfl

theorem standing_resetPortRegs (p : Nat) (s : State) : standing (resetPortRegs p s) = standing s := (fr_resetPortRegs p s).standing rfl

theorem standing_unsleep (ls : List Nat) (s : State) : standing (unsleep ls s) = standing s := (fr_unsleep ls s).standing rfl

theorem standing_setPortErr (p : Nat) (bad : Bool) (s : State) : standing (setPortErr p bad s) = standing s :=
  (fr_setPortErr p bad s).standing rfl

theorem standing_writePortCfg (p v : Nat) (s : State) : standing (writePortCfg p v s) = standing s := (fr_writePortCfg p v s).standing rfl

theorem standing_writePfcRefresh (p v : Nat) (s : State) : standing (writePfcRefresh p v s) = standing s :=
  (fr_writePfcRefresh p v s).standing rfl

theorem standing_writePfcWd (p v : Nat) (s : State) : standing (writePfcWd p v s) = standing s := (fr_writePfcWd p v s).standing rfl

theorem standing_writeWatermark (r : RegDesc) (p c v : Nat) (s : State) : standing (writeWatermark r p c v s) = standing s :=
  (fr_writeWatermark r p c v s).standing rfl

theorem standing_portEnable (p : Nat) (s : State) : standing (portEnable p s) = standing s := (fr_portEnable p s).standing rfl

theorem standing_unpunt (i : Nat) (s : State) : standing (unpunt i s) = standing s := (fr_unpunt i s).standing rfl

theorem standing_takeBytes (bytes : List Byte) (i : Nat) (s : State) : standing (takeBytes bytes i s) = standing s :=
  (fr_takeBytes bytes i s).standing rfl

theorem standing_bufErr (bad : Bool) (s : State) : standing (bufErr bad s) = standing s := (fr_bufErr bad s).standing rfl

theorem standing_writePart (r : RegDesc) (n v : Nat) (s : State) : standing (writePart r n v s) = standing s :=
  (fr_writePart r n v s).standing rfl

theorem standing_writeRegion (r : RegDesc) (v : Nat) (s : State) : standing (writeRegion r v s) = standing s :=
  (fr_writeRegion r v s).standing rfl

theorem standing_setDom (d : Nat) (x : PDom) (s : State) : standing (setDom d x s) = standing s := (fr_setDom d x s).standing rfl

theorem standing_modDom (d : Nat) (f : PDom → PDom) (s : State) : standing (modDom d f s) = standing s := (fr_modDom d f s).standing rfl

theorem standing_setCluster (k : Nat) (x : Cluster) (s : State) : standing (setCluster k x s) = standing s :=
  (fr_setCluster k x s).standing rfl

theorem standing_modCluster (k : Nat) (f : Cluster → Cluster) (s : State) : standing (modCluster k f s) = standing s :=
  (fr_modCluster k f s).standing rfl

theorem standing_railFollow (old s : State) : standing (railFollow old s) = standing s := (fr_railFollow old s).standing rfl

theorem standing_setStep (d p : Nat) (s : State) : standing (setStep d p s) = standing s := (fr_setStep d p s).standing rfl

theorem standing_powerAll (s : State) : standing (powerAll s) = standing s := (fr_powerAll s).standing rfl

theorem standing_setTb (n : Nat) (t : TimeBase) (s : State) : standing (setTb n t s) = standing s := (fr_setTb n t s).standing rfl

theorem standing_advanceTime (k : Nat) (s : State) : standing (advanceTime k s) = standing s := (fr_advanceTime k s).standing rfl

theorem standing_setTbState (n : Nat) (st : TbState) (cause : Nat) (s : State) : standing (setTbState n st cause s) = standing s :=
  (fr_setTbState n st cause s).standing rfl

theorem standing_stepTb (n : Nat) (d : Int) (s : State) : standing (stepTb n d s) = standing s := (fr_stepTb n d s).standing rfl

theorem standing_slewDone (n : Nat) (left : Int) (s : State) : standing (slewDone n left s) = standing s :=
  (fr_slewDone n left s).standing rfl

theorem standing_writeTbCfg (n v : Nat) (s : State) : standing (writeTbCfg n v s) = standing s := (fr_writeTbCfg n v s).standing rfl

theorem standing_writeTimCtrl (v : Nat) (s : State) : standing (writeTimCtrl v s) = standing s := (fr_writeTimCtrl v s).standing rfl

theorem standing_writePpsOut (k v : Nat) (s : State) : standing (writePpsOut k v s) = standing s := (fr_writePpsOut k v s).standing rfl

theorem standing_writePpsOfs (k v : Nat) (s : State) : standing (writePpsOfs k v s) = standing s := (fr_writePpsOfs k v s).standing rfl

theorem standing_setJob (j : Nat) (x : Job) (s : State) : standing (setJob j x s) = standing s := (fr_setJob j x s).standing rfl

theorem standing_modJob (j : Nat) (f : Job → Job) (s : State) : standing (modJob j f s) = standing s := (fr_modJob j f s).standing rfl

theorem standing_setSlot (j c : Nat) (x : CSlot) (s : State) : standing (setSlot j c x s) = standing s :=
  (fr_setSlot j c x s).standing rfl

theorem standing_countJob (j i n : Nat) (s : State) : standing (countJob j i n s) = standing s := (fr_countJob j i n s).standing rfl

theorem standing_takeFreeBits (k : Nat) (s : State) : standing (takeFreeBits k s).2 = standing s := (fr_takeFreeBits k s).standing rfl

theorem standing_flowLabel (eth : Bool) (s : State) : standing (flowLabel eth s).2 = standing s := (fr_flowLabel eth s).standing rfl

theorem standing_setJobSt (j : Nat) (st : JobSt) (reason : Nat) (s : State) : standing (setJobSt j st reason s) = standing s :=
  (fr_setJobSt j st reason s).standing rfl

theorem standing_freeSlots (j : Nat) (s : State) : standing (freeSlots j s) = standing s := (fr_freeSlots j s).standing rfl

theorem standing_ovfFresh (bs : List Nat) (s : State) : standing (ovfFresh bs s) = standing s := (fr_ovfFresh bs s).standing rfl

theorem standing_takeContrib (j c : Nat) (p : CPkt) (s : State) : standing (takeContrib j c p s) = standing s :=
  (fr_takeContrib j c p s).standing rfl

theorem standing_freeOld (j c : Nat) (s : State) : standing (freeOld j c s) = standing s := (fr_freeOld j c s).standing rfl

theorem standing_recovered (j : Nat) (s : State) : standing (recovered j s) = standing s := (fr_recovered j s).standing rfl

theorem standing_startChange (k t : Nat) (s : State) : standing (startChange k t s) = standing s := (fr_startChange k t s).standing rfl

theorem standing_followGroup (k : Nat) (s : State) : standing (followGroup k s).2 = standing s := (fr_followGroup k s).standing rfl

theorem standing_foreseeRail (k : Nat) (s : State) : standing (foreseeRail k s) = standing s := (fr_foreseeRail k s).standing rfl

theorem standing_colReceive (i j : Nat) (s : State) : standing (colReceive i j s) = standing s := (fr_colReceive i j s).standing rfl

theorem standing_startMove (j k : Nat) (s : State) : standing (startMove j k s) = standing s := (fr_startMove j k s).standing rfl

theorem standing_notAdmitted (p : Pkt) (s : State) : standing (notAdmitted p s).2 = standing s := (fr_notAdmitted p s).standing rfl

theorem standing_emReadCmd (c : Cmd) (s : State) : standing (emReadCmd c s).1 = standing s := (fr_emReadCmd c s).standing rfl

theorem standing_lpmAddCmd (c : Cmd) (s : State) : standing (lpmAddCmd c s).1 = standing s := (fr_lpmAddCmd c s).standing rfl

theorem standing_lpmDeleteCmd (c : Cmd) (s : State) : standing (lpmDeleteCmd c s).1 = standing s := (fr_lpmDeleteCmd c s).standing rfl

theorem standing_setTcam (i : Nat) (b : List Byte) (s : State) : standing (setTcam i b s) = standing s := (fr_setTcam i b s).standing rfl

theorem standing_tcamWriteCmd (c : Cmd) (host : HostAns) (s : State) : standing (tcamWriteCmd c host s).1 = standing s :=
  (fr_tcamWriteCmd c host s).standing rfl

theorem standing_tcamReadCmd (c : Cmd) (s : State) : standing (tcamReadCmd c s).1 = standing s := (fr_tcamReadCmd c s).standing rfl

theorem standing_ecmpGroupWriteCmd (c : Cmd) (s : State) : standing (ecmpGroupWriteCmd c s).1 = standing s :=
  (fr_ecmpGroupWriteCmd c s).standing rfl

theorem standing_memberWriteCmd (c : Cmd) (host : HostAns) (s : State) : standing (memberWriteCmd c host s).1 = standing s :=
  (fr_memberWriteCmd c host s).standing rfl

theorem standing_nexthopWriteCmd (c : Cmd) (host : HostAns) (s : State) : standing (nexthopWriteCmd c host s).1 = standing s :=
  (fr_nexthopWriteCmd c host s).standing rfl

theorem standing_tableStatCmd (c : Cmd) (s : State) : standing (tableStatCmd c s).1 = standing s := (fr_tableStatCmd c s).standing rfl

theorem standing_classifyWriteCmd (c : Cmd) (host : HostAns) (s : State) : standing (classifyWriteCmd c host s).1 = standing s :=
  (fr_classifyWriteCmd c host s).standing rfl

theorem standing_endpointWriteCmd (c : Cmd) (s : State) : standing (endpointWriteCmd c s).1 = standing s :=
  (fr_endpointWriteCmd c s).standing rfl

theorem standing_tblErr (bad : Bool) (s : State) : standing (tblErr bad s) = standing s := (fr_tblErr bad s).standing rfl

theorem standing_writeTblCtrl (v : Nat) (s : State) : standing (writeTblCtrl v s) = standing s := (fr_writeTblCtrl v s).standing rfl

theorem standing_writeSeed (r : RegDesc) (v : Nat) (s : State) : standing (writeSeed r v s) = standing s :=
  (fr_writeSeed r v s).standing rfl

theorem standing_writeTcamMode (v : Nat) (s : State) : standing (writeTcamMode v s) = standing s := (fr_writeTcamMode v s).standing rfl

theorem standing_writeTypeCfg (t v : Nat) (s : State) : standing (writeTypeCfg t v s) = standing s := (fr_writeTypeCfg t v s).standing rfl

theorem standing_writeLearnCfg (v : Nat) (s : State) : standing (writeLearnCfg v s) = standing s := (fr_writeLearnCfg v s).standing rfl

theorem standing_writeShadowCfg (v : Nat) (s : State) : standing (writeShadowCfg v s) = standing s := (fr_writeShadowCfg v s).standing rfl

theorem standing_writeArCfg (v : Nat) (s : State) : standing (writeArCfg v s) = standing s := (fr_writeArCfg v s).standing rfl

theorem standing_writeShadowLen (k v : Nat) (s : State) : standing (writeShadowLen k v s) = standing s :=
  (fr_writeShadowLen k v s).standing rfl

theorem standing_enableRing (n v : Nat) (s : State) : standing (enableRing n v s) = standing s := (fr_enableRing n v s).standing rfl

theorem standing_writeRingBase (n v : Nat) (s : State) : standing (writeRingBase n v s) = standing s :=
  (fr_writeRingBase n v s).standing rfl

theorem standing_ringDoorbell (n v : Nat) (s : State) : standing (ringDoorbell n v s) = standing s := (fr_ringDoorbell n v s).standing rfl

theorem standing_postCompletion (ring : Nat) (ref : CmdRef) (e : Event) (s : State) : standing (postCompletion ring ref e s) = standing s :=
  (fr_postCompletion ring ref e s).standing rfl

theorem standing_summaryGo (s : State) : standing (summaryGo s) = standing s := (fr_summaryGo s).standing rfl

theorem standing_restartChan (ch : Nat) (s : State) : standing (restartChan ch s) = standing s := (fr_restartChan ch s).standing rfl

theorem standing_puntBuffer (n : Nat) (b : List Byte) (s : State) : standing (puntBuffer n b s) = standing s :=
  (fr_puntBuffer n b s).standing rfl

theorem standing_perstDiscard (k : Nat) (s : State) : standing (perstDiscard k s) = standing s := (fr_perstDiscard k s).standing rfl

theorem standing_tempRetrain (h : Nat) (s : State) : standing (tempRetrain h s) = standing s := (fr_tempRetrain h s).standing rfl

theorem standing_halfOff (h : Nat) (s : State) : standing (halfOff h s) = standing s := (fr_halfOff h s).standing rfl

theorem standing_dozeMem (s : State) : standing (dozeMem s) = standing s := (fr_dozeMem s).standing rfl

theorem standing_undozeMem (s : State) : standing (undozeMem s) = standing s := (fr_undozeMem s).standing rfl

theorem standing_writeMemCtrl (v : Nat) (s : State) : standing (writeMemCtrl v s) = standing s := (fr_writeMemCtrl v s).standing rfl

theorem standing_modPool (k : Nat) (f : Pool → Pool) (s : State) : standing (modPool k f s) = standing s :=
  (fr_modPool k f s).standing rfl

theorem standing_setPBuf (h : Nat) (b : PBuf) (s : State) : standing (setPBuf h b s) = standing s := (fr_setPBuf h b s).standing rfl

theorem standing_taintChannel (ch : Nat) (s : State) : standing (taintChannel ch s) = standing s := (fr_taintChannel ch s).standing rfl

theorem standing_poolRequest (k ahead : Nat) (r : PoolReq) (s : State) : standing (poolRequest k ahead r s) = standing s :=
  (fr_poolRequest k ahead r s).standing rfl

theorem standing_poolRelease (h : Nat) (s : State) : standing (poolRelease h s) = standing s := (fr_poolRelease h s).standing rfl

theorem standing_bufWrite (h off : Nat) (bs : List Byte) (s : State) : standing (bufWrite h off bs s).2 = standing s :=
  (fr_bufWrite h off bs s).standing rfl

theorem standing_tellCeil (k : Nat) (s : State) : standing (tellCeil k s) = standing s := (fr_tellCeil k s).standing rfl

theorem standing_shareSram (est : List Nat) (s : State) : standing (shareSram est s) = standing s := (fr_shareSram est s).standing rfl

theorem standing_chargeJobs (k : Nat) (ingested : List Nat) (s : State) : standing (chargeJobs k ingested s) = standing s :=
  (fr_chargeJobs k ingested s).standing rfl

theorem standing_lowerStep (floor d : Nat) (s : State) : standing (lowerStep floor d s) = standing s :=
  (fr_lowerStep floor d s).standing rfl

theorem standing_raiseStep (d : Nat) (s : State) : standing (raiseStep d s) = standing s := (fr_raiseStep d s).standing rfl

theorem standing_throttleBegan (c : PwrCause) (s : State) : standing (throttleBegan c s) = standing s :=
  (fr_throttleBegan c s).standing rfl

theorem standing_throttleEnded (s : State) : standing (throttleEnded s) = standing s := (fr_throttleEnded s).standing rfl

theorem standing_enforce (s : State) : standing (enforce s) = standing s := (fr_enforce s).standing rfl

theorem standing_setCeils (s : State) : standing (setCeils s) = standing s := (fr_setCeils s).standing rfl

theorem standing_holdTops (s : State) : standing (holdTops s) = standing s := (fr_holdTops s).standing rfl

theorem standing_powerUp (d : Nat) (c : Cmd) (s : State) : standing (powerUp d c s).1 = standing s := (fr_powerUp d c s).standing rfl

theorem standing_writePwrLimit (v : Nat) (s : State) : standing (writePwrLimit v s) = standing s := (fr_writePwrLimit v s).standing rfl

theorem standing_writePwrCtrl (v : Nat) (s : State) : standing (writePwrCtrl v s) = standing s := (fr_writePwrCtrl v s).standing rfl

theorem standing_writePwrVr (k v : Nat) (s : State) : standing (writePwrVr k v s) = standing s := (fr_writePwrVr k v s).standing rfl

theorem standing_writePwrPolicy (v : Nat) (s : State) : standing (writePwrPolicy v s) = standing s := (fr_writePwrPolicy v s).standing rfl

theorem standing_writePwrTherm (v : Nat) (s : State) : standing (writePwrTherm v s) = standing s := (fr_writePwrTherm v s).standing rfl

theorem standing_writePwrDroop (v : Nat) (s : State) : standing (writePwrDroop v s) = standing s := (fr_writePwrDroop v s).standing rfl

theorem standing_squelchAll (s : State) : standing (squelchAll s) = standing s := (fr_squelchAll s).standing rfl

theorem standing_modEng (e : Nat) (f : Engine → Engine) (s : State) : standing (modEng e f s) = standing s :=
  (fr_modEng e f s).standing rfl

theorem standing_setCtx (e k : Nat) (c : Ctx) (s : State) : standing (setCtx e k c s) = standing s := (fr_setCtx e k c s).standing rfl

theorem standing_modCtx (e k : Nat) (f : Ctx → Ctx) (s : State) : standing (modCtx e k f s) = standing s :=
  (fr_modCtx e k f s).standing rfl

theorem standing_endRun (e k how status : Nat) (s : State) : standing (endRun e k how status s) = standing s :=
  (fr_endRun e k how status s).standing rfl

theorem standing_scratchWrite (e a : Nat) (bs : List Byte) (s : State) : standing (scratchWrite e a bs s) = standing s :=
  (fr_scratchWrite e a bs s).standing rfl

theorem standing_seqPoolAnswer (e k : Nat) (h : Option Nat) (s : State) : standing (seqPoolAnswer e k h s) = standing s :=
  (fr_seqPoolAnswer e k h s).standing rfl

theorem standing_fenceEngine (e : Nat) (s : State) : standing (fenceEngine e s) = standing s := (fr_fenceEngine e s).standing rfl

theorem standing_loadSection (b : List Byte) (s : State) : standing (loadSection b s) = standing s := (fr_loadSection b s).standing rfl

theorem standing_setShaper (k : Nat) (x : Shaper) (s : State) : standing (setShaper k x s) = standing s :=
  (fr_setShaper k x s).standing rfl

theorem standing_stepTags (p q len : Nat) (ets : Bool) (s : State) : standing (stepTags p q len ets s) = standing s :=
  (fr_stepTags p q len ets s).standing rfl

theorem standing_suspectTime (n : Nat) (s : State) : standing (suspectTime n s) = standing s := (fr_suspectTime n s).standing rfl

theorem standing_loseBank (b : Nat) (s : State) : standing (loseBank b s) = standing s := (fr_loseBank b s).standing rfl

theorem standing_evacuate (b : Nat) (s : State) : standing (evacuate b s) = standing s := (fr_evacuate b s).standing rfl

theorem standing_postBank (b cause lost : Nat) (s : State) : standing (postBank b cause lost s) = standing s :=
  (fr_postBank b cause lost s).standing rfl

theorem standing_loseChannel (ch : Nat) (s : State) : standing (loseChannel ch s) = standing s := (fr_loseChannel ch s).standing rfl

theorem standing_fenceChan (ch : Nat) (s : State) : standing (fenceChan ch s) = standing s := (fr_fenceChan ch s).standing rfl

theorem standing_writeClassCfg (n v : Nat) (s : State) : standing (writeClassCfg n v s) = standing s :=
  (fr_writeClassCfg n v s).standing rfl

theorem standing_sweepEnds (s : State) : standing (sweepEnds s) = standing s := (fr_sweepEnds s).standing rfl

theorem standing_seqStoreCtr (kind num v : Nat) (s : State) : standing (seqStoreCtr kind num v s) = standing s :=
  (fr_seqStoreCtr kind num v s).standing rfl

theorem standing_chkWrite (r off : Nat) (bs : List Byte) (s : State) : standing (chkWrite r off bs s) = standing s :=
  (fr_chkWrite r off bs s).standing rfl

theorem standing_regBytes (c : Ctx) (n k : Nat) (s : State) : standing (regBytes c n k s).2 = standing s :=
  (fr_regBytes c n k s).standing rfl

theorem standing_goOn (e k pc : Nat) (s : State) : standing (goOn e k pc s) = standing s := (fr_goOn e k pc s).standing rfl

theorem standing_aluStep (e k w : Nat) (s : State) : standing (aluStep e k w s) = standing s := (fr_aluStep e k w s).standing rfl

theorem standing_freeBytes (k : Nat) (s : State) : standing (freeBytes k s).2 = standing s := (fr_freeBytes k s).standing rfl

theorem standing_loadImage (slot : Nat) (fromHost : Bool) (b : List Byte) (s : State) : standing (loadImage slot fromHost b s) = standing
    s :=
  (fr_loadImage slot fromHost b s).standing rfl

theorem standing_writeHostBoot (v : Nat) (s : State) : standing (writeHostBoot v s) = standing s := (fr_writeHostBoot v s).standing rfl

theorem standing_startTraining (s : State) : standing (startTraining s) = standing s := (fr_startTraining s).standing rfl

theorem standing_endDrainMode (cause : Nat) (s : State) : standing (endDrainMode cause s) = standing s :=
  (fr_endDrainMode cause s).standing rfl

theorem standing_driveBalls (s : State) : standing (driveBalls s) = standing s := (fr_driveBalls s).standing rfl

theorem standing_tapPass (x : TapScan) (s : State) : standing (tapPass x s) = standing s := (fr_tapPass x s).standing rfl

theorem standing_markChild (j i : Nat) (on : Bool) (step : Nat) (s : State) : standing (markChild j i on step s) = standing s :=
  (fr_markChild j i on step s).standing rfl

theorem standing_flagChild (p : CPkt) (s : State) : standing (flagChild p s) = standing s := (fr_flagChild p s).standing rfl

theorem standing_postRetry (j c child n : Nat) (s : State) : standing (postRetry j c child n s) = standing s :=
  (fr_postRetry j c child n s).standing rfl

theorem standing_writeColCfg (r : RegDesc) (v : Nat) (s : State) : standing (writeColCfg r v s) = standing s :=
  (fr_writeColCfg r v s).standing rfl

theorem standing_stage13 (p : Pkt) (base : Nat) (w : Work) (s : State) : standing (stage13 p base w s).2 = standing s :=
  (fr_stage13 p base w s).standing rfl

theorem standing_ioamInsert (w : Work) (s : State) : standing (ioamInsert w s).2.2 = standing s := (fr_ioamInsert w s).standing rfl

theorem standing_sendOver (i : Nat) (p : Pkt) (s : State) : standing (sendOver i p s) = standing s := (fr_sendOver i p s).standing rfl

theorem standing_poolCtrlWrite (v : Nat) (s : State) : standing (poolCtrlWrite v s) = standing s := (fr_poolCtrlWrite v s).standing rfl

theorem standing_writePoolCfg (r : RegDesc) (n v : Nat) (s : State) : standing (writePoolCfg r n v s) = standing s :=
  (fr_writePoolCfg r n v s).standing rfl

theorem standing_throttleDrop (pipe : Nat) (s : State) : standing (throttleDrop pipe s) = standing s :=
  (fr_throttleDrop pipe s).standing rfl

theorem standing_endParse (i : Nat) (err : Option Nat) (p : Pkt) (s : State) : standing (endParse i err p s) = standing s :=
  (fr_endParse i err p s).standing rfl

theorem standing_clearPeak (n : Nat) (s : State) : standing (clearPeak n s) = standing s := (fr_clearPeak n s).standing rfl

theorem standing_writeParseCfg (v : Nat) (s : State) : standing (writeParseCfg v s) = standing s := (fr_writeParseCfg v s).standing rfl

theorem standing_writeGroupBase (g v : Nat) (s : State) : standing (writeGroupBase g v s) = standing s :=
  (fr_writeGroupBase g v s).standing rfl

theorem standing_setInst (g i : Nat) (x : Inst) (s : State) : standing (setInst g i x s) = standing s := (fr_setInst g i x s).standing rfl

theorem standing_switched (g dir cal : Nat) (s : State) : standing (switched g dir cal s) = standing s :=
  (fr_switched g dir cal s).standing rfl

theorem standing_setSet (k : Nat) (d : DumpSet) (s : State) : standing (setSet k d s) = standing s := (fr_setSet k d s).standing rfl

theorem standing_dumpedCtr (k : Nat) (d : DumpSet) (num : Nat) (s : State) : standing (dumpedCtr k d num s) = standing s :=
  (fr_dumpedCtr k d num s).standing rfl

theorem standing_lateClear (d : DumpSet) (w : ClearWait) (s : State) : standing (lateClear d w s) = standing s :=
  (fr_lateClear d w s).standing rfl

theorem standing_applySet (k : Nat) (ops : List Byte) (s : State) : standing (applySet k ops s) = standing s :=
  (fr_applySet k ops s).standing rfl

theorem standing_postDump (ring : Nat) (payload : List Byte) (s : State) : standing (postDump ring payload s) = standing s :=
  (fr_postDump ring payload s).standing rfl

theorem standing_writeGauzeCfg (v : Nat) (s : State) : standing (writeGauzeCfg v s) = standing s := (fr_writeGauzeCfg v s).standing rfl

theorem standing_writeTelCtrl (v : Nat) (s : State) : standing (writeTelCtrl v s) = standing s := (fr_writeTelCtrl v s).standing rfl

theorem standing_writeGauzeBase (v : Nat) (s : State) : standing (writeGauzeBase v s) = standing s := (fr_writeGauzeBase v s).standing rfl

theorem standing_writeBufCtrl (v : Nat) (s : State) : standing (writeBufCtrl v s) = standing s := (fr_writeBufCtrl v s).standing rfl

theorem standing_writeColCtrl (v : Nat) (s : State) : standing (writeColCtrl v s) = standing s := (fr_writeColCtrl v s).standing rfl

theorem standing_writeSysDrain (v : Nat) (s : State) : standing (writeSysDrain v s) = standing s := (fr_writeSysDrain v s).standing rfl

theorem standing_writeMsix (n v : Nat) (s : State) : standing (writeMsix n v s) = standing s := (fr_writeMsix n v s).standing rfl

end Sys2Proof.Machine
end

section
/-! PROOFS. Counters, tables, queues, lanes and ports: a function that only reports leaves the units where they stand. -/
namespace Sys2Proof.Machine

theorem standing_enqueue (rep : Report) (s : State) : standing (enqueue rep s) = standing s := by
  unfold enqueue
  dsimp only
  split
  · simp only [standing_mk, unitsStanding_units, standing_markTest]
  · split
    · rename_i t ht
      exact ((fr_tryMerge _ _ _ _ ht).standing rfl).trans (standing_markTest ..)
    · simp only [standing_mk, unitsStanding_units, standing_markTest]

theorem standing_report (cls kind unit : Nat) (detail : List Byte) (s : State) : standing (report cls kind unit detail s) = standing s := by
  simp only [report, standing_enqueue]

theorem standing_reportCond (cls kind unit : Nat) (detail : List Byte) (s : State) : standing (reportCond cls kind unit detail s) =
    standing s := by
  simp only [reportCond, standing_enqueue]

theorem standing_runCmdIn {ds : Cmd → State → List Nat} {body : Cmd → State → State × CmdEnd}
    (hb : ∀ c u, standing (body c u).1 = standing u) (op : Nat) (ref : CmdRef) (s : State) : standing (runCmdIn ds op ref body s) =
      standing s := by
  unfold runCmdIn
  split
  · rfl
  · rename_i c _
    refine (apply_ite standing _ _ _).trans (ite_eq_right_iff.mpr fun _ => ?_)
    split
    · exact standing_finish ..
    · have hm : standing (modCmd ref (fun d => { d with stage := .running }) s) = standing s := standing_modCmd ..
      have hc := hb c (modCmd ref (fun d => { d with stage := .running }) s)
      dsimp only
      split <;> rename_i t _ he <;> rw [he] at hc
      · simp only [apply_ite standing, standing_finish, hm, hc, ite_self]
      · simp only [apply_ite standing, standing_finish, standing_conclude, hm, hc, ite_self]

theorem standing_runCmd {body : Cmd → State → State × CmdEnd} (hb : ∀ c u, standing (body c u).1 = standing u) (op : Nat) (ref : CmdRef)
    (s : State) : standing (runCmd op ref body s) = standing s := standing_runCmdIn hb ..

theorem standing_withHost (c : Cmd) (h : HostAns) {s u : State} {k : List Byte → State × CmdEnd} (hk : ∀ bs, standing (k bs).1 = standing u)
    (hs : standing s = standing u) : standing (withHost c h s k).1 = standing u := by
  cases h with
  | error st got => exact hs
  | data bs => exact hk _

theorem standing_countIn (panel kind num n : Nat) (s : State) : standing (countIn panel kind num n s) = standing s := by
  simp only [countIn, standing_report, standing_mk, unitsStanding_units, apply_ite standing, ite_self]

theorem standing_count (kind item ix n : Nat) (s : State) : standing (count kind item ix n s) = standing s := by
  simp only [count, standing_countIn]

theorem standing_countPort (p ix n : Nat) (s : State) : standing (countPort p ix n s) = standing s := by
  simp only [countPort, standing_count]

theorem standing_countQueue (q ix n : Nat) (s : State) : standing (countQueue q ix n s) = standing s := by
  simp only [countQueue, standing_count]

theorem standing_countPipe (p ix n : Nat) (s : State) : standing (countPipe p ix n s) = standing s := by
  simp only [countPipe, standing_count]

theorem standing_countFlex (panel id bytes : Nat) (s : State) : standing (countFlex panel id bytes s) = standing s := by
  simp only [countFlex, standing_countIn]

theorem standing_meetValue (kind num : Nat) (s : State) : standing (meetValue kind num s) = standing s := by
  simp only [meetValue]
  split <;> simp only [standing_report, standing_clearUpset, standing_markInexact, standing_mk, unitsStanding_units]

theorem standing_meetAcc (kind num ix : Nat) (s : State) : standing (meetAcc kind num ix s) = standing s := by
  simp only [meetAcc]
  split <;> simp only [standing_report, standing_clearUpset, standing_markInexact, standing_mk, unitsStanding_units]

theorem standing_meetCtr (kind num : Nat) (s : State) : standing (meetCtr kind num s) = standing s := by
  simp only [meetCtr, standing_meetValue, standing_meetAcc, standing_foldl, implies_true]

theorem standing_foldBank (kind num bank : Nat) (s : State) : standing (foldBank kind num bank s) = standing s := by
  simp only [foldBank, standing_foldAcc, standing_meetValue, standing_meetAcc, standing_foldl, implies_true]

theorem standing_foldCtr (kind num : Nat) (s : State) : standing (foldCtr kind num s) = standing s := by
  simp only [foldCtr]
  split <;> simp only [standing_foldBank, apply_ite standing, ite_self]

theorem standing_readPage (g : Nat) (s : State) : standing (readPage g s) = standing s := by
  simp only [readPage, standing_report, standing_clearUpset, apply_ite standing, ite_self, standing_foldl, implies_true]

theorem standing_sendOverhead (g : Nat) (s : State) : standing (sendOverhead g s) = standing s := by
  simp only [sendOverhead, standing_emit, standing_modGrp, standing_readPage, apply_ite standing, ite_self]

theorem standing_sendAll (s : State) : standing (sendAll s) = standing s := by
  simp only [sendAll, standing_sendOverhead, standing_foldl, implies_true]

theorem standing_applyCals (s : State) : standing (applyCals s) = standing s := by
  simp only [applyCals, standing_sendAll, standing_applyCal, standing_foldl, implies_true]

theorem standing_endSwitch (g status : Nat) (s : State) : standing (endSwitch g status s) = standing s := by
  simp only [endSwitch]
  split <;> simp only [standing_finishRef, standing_setGrp, standing_sendOverhead]

theorem standing_showAlarms (g : Nat) (s : State) : standing (showAlarms g s) = standing s := by
  simp only [showAlarms, standing_report, standing_setAlarm, apply_ite standing, ite_self]

theorem standing_clearSearch (g : Nat) (s : State) : standing (clearSearch g s) = standing s := by
  simp only [clearSearch, standing_modGrp, standing_applyCal, standing_showAlarms]

theorem standing_grpTo (g : Nat) (st : GrpSt) (cause : Nat) (s : State) : standing (grpTo g st cause s) = standing s := by
  simp only [grpTo, standing_emit, standing_post, standing_setGrp, standing_modGrp, standing_clientTo, standing_sendAll,
    standing_applyCal, standing_endSwitch, standing_clearSearch, apply_ite standing, ite_self, standing_foldl, implies_true]

theorem standing_grpTryUp (g : Nat) (s : State) : standing (grpTryUp g s) = standing s := by
  simp only [grpTryUp, standing_grpTo, apply_ite standing, ite_self]

theorem standing_grpTryAlign (g : Nat) (s : State) : standing (grpTryAlign g s) = standing s := by
  simp only [grpTryAlign, standing_clearSearch, standing_grpTo, apply_ite standing, ite_self]

theorem standing_slotPortDown (p : Nat) (s : State) : standing (slotPortDown p s) = standing s := by
  simp only [slotPortDown]
  split <;> simp only [standing_grpTo, apply_ite standing, ite_self]

theorem standing_slotPortUp (p : Nat) (s : State) : standing (slotPortUp p s) = standing s := by
  simp only [slotPortUp]
  split <;> simp only [standing_grpTryAlign]

theorem standing_leaveUp (p : Nat) (s : State) : standing (leaveUp p s) = standing s := by
  simp only [leaveUp, standing_emit, standing_countPort, standing_modPort]

theorem standing_portDown (p cause : Nat) (s : State) : standing (portDown p cause s) = standing s := by
  simp only [portDown, standing_post, standing_slotPortDown, standing_modPort, standing_portEnter, standing_leaveUp, apply_ite standing,
    ite_self]

theorem standing_portDisable (p cause : Nat) (s : State) : standing (portDisable p cause s) = standing s := by
  simp only [portDisable, standing_post, standing_slotPortDown, standing_setPort, standing_modPort, standing_setSquelch,
    standing_portEnter, standing_leaveUp, apply_ite standing, ite_self, standing_foldl, implies_true]

theorem standing_portUp (p : Nat) (s : State) : standing (portUp p s) = standing s := by
  simp only [portUp, standing_emit, standing_post, standing_slotPortUp, standing_modPort, standing_portEnter, standing_evalFc]

theorem standing_tryWaked (p : Nat) (s : State) : standing (tryWaked p s) = standing s := by
  simp only [tryWaked, standing_post, standing_portUp, apply_ite standing, ite_self]

theorem standing_portCold (p : Nat) (s : State) : standing (portCold p s) = standing s := by
  simp only [portCold, standing_post, standing_settleTx, standing_portDown, standing_tryLinking, apply_ite standing, ite_self,
    standing_foldl, implies_true]

theorem standing_portLaneLost (lane : Nat) (s : State) : standing (portLaneLost lane s) = standing s := by
  simp only [portLaneLost]
  split <;> simp only [standing_portDown, standing_portCold, apply_ite standing, ite_self]

theorem standing_leaveData {s : State} {f : State → State} (hf : ∀ u,
    standing (f u) = standing u) (n cause : Nat) : standing (leaveData n cause f s) = standing s := by
  simp only [leaveData, standing_portLaneLost, standing_post, hf, apply_ite standing, ite_self]

theorem standing_laneToData (n : Nat) (m : RxMeasure) (record : Bool) (s : State) : standing (laneToData n m record s) = standing s := by
  simp only [laneToData]
  split <;> simp only [standing_post, standing_setLane, standing_tryLinking, standing_tryWaked]

theorem standing_countFail (n reason : Nat) (s : State) : standing (countFail n reason s) = standing s := by
  simp only [countFail, standing_post, standing_report, standing_setLane, apply_ite standing, ite_self]

theorem standing_failOthers (n : Nat) (s : State) : standing (failOthers n s) = standing s := by
  simp only [failOthers]
  split <;> simp only [standing_modLane, standing_laneToCal, standing_leaveData, apply_ite standing, ite_self, standing_foldl, implies_true]

theorem standing_trainFail (n reason : Nat) (s : State) : standing (trainFail n reason s) = standing s := by
  simp only [trainFail, standing_laneToCal, standing_countFail, standing_failOthers]

theorem standing_laneWake (n : Nat) (s : State) : standing (laneWake n s) = standing s := by
  unfold laneWake
  dsimp only
  repeat' split
  all_goals simp only [standing_post, standing_report, standing_setLane, standing_modLane, standing_laneToCal]

theorem standing_wakePort (p trig : Nat) (s : State) : standing (wakePort p trig s) = standing s := by
  simp only [wakePort, standing_emit, standing_modPort, standing_setSquelch, standing_portEnter, standing_portCold, standing_laneWake,
    apply_ite standing, ite_self, standing_foldl, implies_true]

theorem standing_enterSleep (p : Nat) (s : State) : standing (enterSleep p s) = standing s := by
  simp only [enterSleep]
  split <;> simp only [standing_post, standing_clearUpset, standing_countPort, standing_slotPortDown, standing_setLane, standing_modPort,
    standing_setSquelch, standing_portEnter, standing_wakePort, standing_foldl, implies_true]

theorem standing_gateFails (p : Nat) (parity : Bool) (s : State) : standing (gateFails p parity s) = standing s := by
  simp only [gateFails, standing_post, standing_report, standing_modPort, apply_ite standing, ite_self]

theorem standing_gateTake (p i : Nat) (s : State) : standing (gateTake p i s) = standing s := by
  simp only [gateTake, standing_setPort, standing_unwake, standing_gateFails, apply_ite standing, ite_self]

theorem standing_gatePlace (p : Nat) (s : State) : standing (gatePlace p s) = standing s := by
  simp only [gatePlace, standing_setPort, standing_gateTake, apply_ite standing, ite_self]

theorem standing_gateTb (p : Nat) (s : State) : standing (gateTb p s) = standing s := by
  simp only [gateTb, standing_post, standing_modPort, standing_gateFails, apply_ite standing, ite_self]

theorem standing_gatesFollowTb (s : State) : standing (gatesFollowTb s) = standing s := by
  simp only [gatesFollowTb, standing_gateTb, standing_foldl, implies_true]

theorem standing_meetSecded (mem cls i : Nat) (s : State) : standing (meetSecded mem cls i s) = standing s := by
  simp only [meetSecded]
  split <;> simp only [standing_report, standing_clearUpset]

theorem standing_gauzeLose (s : State) : standing (gauzeLose s) = standing s := by
  simp only [gauzeLose, standing_post, standing_report, standing_mk, unitsStanding_units, apply_ite standing, ite_self]

theorem standing_gauze (p : Pkt) (pipe reason now : Nat) (fwd : Bool) (s : State) : standing (gauze p pipe reason now fwd s) = standing s
    := by
  simp only [gauze, standing_gauzeSource, standing_gauzeLose, standing_mk, unitsStanding_units, apply_ite standing, apply_ite Prod.snd,
    standing_foldl_third, implies_true, ite_self]

theorem standing_checkTag (i pipe : Nat) (s : State) : standing (checkTag i pipe s) = standing s := by
  simp only [checkTag, standing_report, standing_clearUpset, standing_modPkt, apply_ite standing, ite_self]

theorem standing_checkKey (i pipe : Nat) (s : State) : standing (checkKey i pipe s) = standing s := by
  simp only [checkKey, standing_report, standing_clearUpset, standing_modPkt, apply_ite standing, ite_self]

theorem standing_discard (i reason pipe : Nat) (s : State) : standing (discard i reason pipe s) = standing s := by
  simp only [discard, standing_countPipe, standing_gauze, standing_endPkt, apply_ite standing, ite_self]

theorem standing_burlapScan (a n : Nat) (s : State) : standing (burlapScan a n s) = standing s := by
  simp only [burlapScan, standing_report, standing_clearUpset, standing_modMChan, standing_chanUsed, standing_foldl, implies_true]

theorem standing_burlapRead (a n : Nat) (s : State) : standing (burlapRead a n s).2.2 = standing s := by
  simp only [burlapRead, standing_chanUsed, standing_burlapScan, apply_ite standing, ite_self, standing_foldl, implies_true,
    apply_ite Prod.snd]

theorem standing_emMeetBad (i : Nat) (s : State) : standing (emMeetBad i s) = standing s := by
  simp only [emMeetBad, standing_post, standing_report, standing_clearUpset, standing_setEm, standing_restoreLater, apply_ite standing,
    ite_self]

theorem standing_emMeet (key : List Byte) (typ : Nat) (s : State) : standing (emMeet key typ s) = standing s := by
  simp only [emMeet, standing_emMeetBad, standing_countMiss, apply_ite standing, ite_self, standing_foldl, implies_true]

theorem standing_emPlace {e : EmEntry} {s : State} {x : Nat × Nat × State} (h : emPlace e s = some x) : standing x.2.2 = standing s :=
  (fr_emPlace e s h).standing rfl

theorem standing_mirrorFix (mem ix : Nat) (s : State) : standing (mirrorFix mem ix s) = standing s := by
  simp only [mirrorFix, standing_report, standing_clearUpset, apply_ite standing, ite_self]

theorem standing_meetItem (mem kind ix : Nat) (s : State) : standing (meetItem mem kind ix s) = standing s := by
  simp only [meetItem, standing_restoreLater, standing_mirrorFix, apply_ite standing, ite_self]

theorem standing_meetHop (n : Nat) (s : State) : standing (meetHop n s) = standing s := by
  simp only [meetHop, standing_meetItem, apply_ite standing, ite_self]

theorem standing_meetGroup (g hash : Nat) (s : State) : standing (meetGroup g hash s) = standing s := by
  simp only [meetGroup, standing_meetItem, apply_ite standing, ite_self, standing_foldl, implies_true]

theorem standing_pickMember (g hash tc : Nat) (s : State) : standing (pickMember g hash tc s).2 = standing s := by
  simp only [pickMember, standing_report, standing_clearUpset, standing_mk, unitsStanding_units, apply_ite standing, ite_self,
    apply_ite Prod.snd]

theorem standing_exhausted (what : Nat) (s : State) : standing (exhausted what s) = standing s := by
  simp only [exhausted, standing_post, standing_report, standing_mk, unitsStanding_units, apply_ite standing, ite_self]

theorem standing_meetCell (id : Nat) (spoilt : Bool) (cell bank : Nat) (s : State) : standing (meetCell id spoilt cell bank s).2 =
    standing s := by
  simp only [meetCell]
  split <;> simp only [standing_report, standing_clearUpset]

theorem standing_readCells (i : Nat) (s : State) : standing (readCells i s) = standing s := by
  simp only [readCells]
  split <;> simp only [standing_modPkt, standing_meetCell, apply_ite standing, ite_self, implies_true, standing_foldl_snd]

theorem standing_settleUnit (q i k pos : Nat) (s : State) : standing (settleUnit q i k pos s) = standing s := by
  unfold settleUnit
  dsimp only
  repeat' split
  all_goals simp only [standing_modPkt, standing_setCells, standing_meetCell, standing_storeUnit, standing_mk, unitsStanding_units]

theorem standing_settle (q : Nat) (s : State) : standing (settle q s) = standing s := by
  simp only [settle, standing_settleUnit, standing_foldl, implies_true]

theorem standing_runStep (q : Nat) (s : State) : standing (runStep q s) = standing s := by
  simp only [runStep, standing_modQ, standing_settle]

theorem standing_joinQueue (i q : Nat) (s : State) : standing (joinQueue i q s) = standing s := by
  simp only [joinQueue, standing_countQueue, standing_wakePort, standing_setPkt, standing_modQ, apply_ite standing, ite_self]

theorem standing_dropQueued (i q reason : Nat) (s : State) : standing (dropQueued i q reason s) = standing s := by
  simp only [dropQueued, standing_discard, standing_leaveQueue]

theorem standing_dropLost (q : Nat) (l : List Nat) (s : State) : standing (dropLost q l s) = standing s := by
  induction l generalizing s with
  | nil => rfl
  | cons i l ih =>
    simp only [dropLost, apply_ite standing, ih, standing_dropQueued, standing_report, standing_countQueue, standing_mk,
      unitsStanding_units, ite_self]

theorem standing_lookHead (q : Nat) (s : State) : standing (lookHead q s) = standing s := by
  simp only [lookHead, standing_dropLost]

theorem standing_flushQueue (q ctr reason : Nat) (s : State) : standing (flushQueue q ctr reason s) = standing s := by
  simp only [flushQueue, standing_countQueue, standing_modQ, standing_dropQueued, standing_foldl, implies_true]

theorem standing_flushPort (p : Nat) (s : State) : standing (flushPort p s) = standing s := by
  simp only [flushPort, standing_modPort, standing_flushQueue, apply_ite standing, ite_self, standing_foldl, implies_true]

theorem standing_retrainMacro (m : Nat) (s : State) : standing (retrainMacro m s) = standing s := by
  simp only [retrainMacro, standing_laneToCal, standing_leaveData, apply_ite standing, ite_self, standing_foldl, implies_true]

theorem standing_downMacro (m : Nat) (s : State) : standing (downMacro m s) = standing s := by
  simp only [downMacro, standing_portDown, standing_foldl, implies_true]

theorem standing_groupRelock (g old new : Nat) (s : State) : standing (groupRelock g old new s) = standing s := by
  simp only [groupRelock, standing_retrainMacro, standing_downMacro, standing_groupClk, apply_ite standing, ite_self, standing_foldl,
    implies_true]

theorem standing_macroOff (m : Nat) (s : State) : standing (macroOff m s) = standing s := by
  simp only [macroOff, standing_portDown, standing_lanesOff, standing_foldl, implies_true]

theorem standing_macroRerate (m : Nat) (s : State) : standing (macroRerate m s) = standing s := by
  simp only [macroRerate, standing_modLane, standing_setMacro, standing_retrainMacro, standing_downMacro, standing_foldl, implies_true]

theorem standing_writeMacroCfg (m v : Nat) (s : State) : standing (writeMacroCfg m v s) = standing s := by
  simp only [writeMacroCfg, standing_wrRw, standing_setMacro, standing_downMacro, standing_groupRelock, standing_macroOff,
    standing_macroRerate, apply_ite standing, ite_self]

theorem standing_laneRetrainCmd (c : Cmd) (s : State) : standing (laneRetrainCmd c s).1 = standing s := by
  simp only [laneRetrainCmd]
  split <;> simp only [standing_fail, standing_okay, standing_laneToCal, standing_leaveData, apply_ite standing, ite_self, standing_foldl,
    implies_true, apply_ite Prod.fst]

theorem standing_laneTestCmd (c : Cmd) (s : State) : standing (laneTestCmd c s).1 = standing s := by
  simp only [laneTestCmd]
  split <;> simp only [standing_emit, standing_fail, standing_okay, standing_modLane, standing_settleTx, standing_observeTest,
    standing_laneToCal, standing_portLaneLost, apply_ite standing, ite_self, standing_foldl, implies_true, apply_ite Prod.fst]

theorem standing_relayLane (old new n : Nat) (s : State) : standing (relayLane old new n s) = standing s := by
  simp only [relayLane, standing_setPort, standing_modPort, standing_portDown, standing_clearPortCtrs, standing_resetPortRegs,
    standing_unsleep, apply_ite standing, ite_self]

theorem standing_writeMacroMode (m v : Nat) (s : State) : standing (writeMacroMode m v s) = standing s := by
  simp only [writeMacroMode, standing_wrRw, standing_settleTx, standing_tryLinking, standing_relayLane, standing_mk, unitsStanding_units,
    apply_ite standing, ite_self, standing_foldl, implies_true]

theorem standing_writeGateCfg (p v : Nat) (s : State) : standing (writeGateCfg p v s) = standing s := by
  simp only [writeGateCfg, standing_wrRw, standing_modPort, standing_gatePlace, standing_gateTb, standing_setPortErr, apply_ite standing,
    ite_self]

theorem standing_countGood (p len : Nat) (dst : List Byte) (s : State) : standing (countGood p len dst s) = standing s := by
  simp only [countGood, standing_countPort]

theorem standing_pfcReceive (p enable : Nat) (times : List Nat) (s : State) : standing (pfcReceive p enable times s) = standing s := by
  simp only [pfcReceive, standing_countPort, standing_modPort, standing_unwake, apply_ite standing, ite_self, standing_foldl, implies_true]

theorem standing_pauseReceive (p time : Nat) (s : State) : standing (pauseReceive p time s) = standing s := by
  simp only [pauseReceive, standing_countPort, standing_modPort, standing_unwake, apply_ite standing, ite_self, standing_foldl,
    implies_true]

theorem standing_portAligned (p skewNs : Nat) (calOk : Bool) (s : State) : standing (portAligned p skewNs calOk s) = standing s := by
  simp only [portAligned, standing_report, standing_setPort, standing_modPort, standing_settleFault, standing_tryWaked,
    apply_ite standing, ite_self]

theorem standing_lockLost (p : Nat) (counts : Bool) (s : State) : standing (lockLost p counts s) = standing s := by
  simp only [lockLost, standing_countPort, standing_modPort, standing_settleFault, standing_portDown, standing_tryLinking,
    apply_ite standing, ite_self]

theorem standing_feedHeader (p k : Nat) (h : BitVec 2) (s : State) : standing (feedHeader p k h s) = standing s := by
  simp only [feedHeader, standing_setPort, standing_portAligned, standing_lockLost, apply_ite standing, ite_self]

theorem standing_feedHeaders (p k : Nat) (hs : List (BitVec 2)) (s : State) : standing (feedHeaders p k hs s) = standing s := by
  simp only [feedHeaders, standing_feedHeader, standing_foldl, implies_true]

theorem standing_portAdminCmd (c : Cmd) (s : State) : standing (portAdminCmd c s).1 = standing s := by
  simp only [portAdminCmd, standing_emit, standing_fail, standing_okay, standing_modPort, standing_portDisable, standing_wakePort,
    standing_portEnable, apply_ite standing, ite_self, apply_ite Prod.fst]

theorem standing_refuse (i q ctr reason : Nat) (s : State) : standing (refuse i q ctr reason s) = standing s := by
  simp only [refuse, standing_countQueue, standing_discard]

theorem standing_storeOnDie (i q : Nat) (c : Cells) (n : Nat) (s : State) : standing (storeOnDie i q c n s) = standing s := by
  simp only [storeOnDie, standing_setPkt, standing_storeCells, standing_joinQueue]

theorem standing_appendPkt (i q units : Nat) (x : Queue) (head : Option (Nat × Nat × Nat)) (s : State) : standing (appendPkt i q units x
    head s) = standing s := by
  simp only [appendPkt, standing_countQueue, standing_setPkt, standing_setRun, standing_storeCells, standing_runStep, standing_joinQueue]

theorem standing_tryAppend (q units : Nat) (s : State) : standing (tryAppend q units s).2 = standing s := by
  unfold tryAppend
  split <;> simp only [standing_exhausted, apply_ite standing, ite_self, apply_ite Prod.snd]

theorem standing_tryOpen (q n units : Nat) (s : State) : standing (tryOpen q n units s).2 = standing s := by
  unfold tryOpen
  split <;> simp only [standing_exhausted, apply_ite standing, ite_self, apply_ite Prod.snd]

end Sys2Proof.Machine
end

section
/-! PROOFS. Packets, collectives, the host interface and power: a function that only reports leaves the units where they stand. -/
namespace Sys2Proof.Machine

theorem standing_dropLossless (i q : Nat) (s : State) : standing (dropLossless i q s) = standing s := by
  simp only [dropLossless, standing_post, standing_report, standing_refuse, standing_mk, unitsStanding_units, apply_ite standing, ite_self]

theorem standing_trimTo (i q : Nat) (s : State) : standing (trimTo i q s) = standing s := by
  simp only [trimTo, standing_countPort, standing_countQueue, standing_countPipe, standing_setPkt, standing_discard, standing_storeOnDie,
    apply_ite standing, ite_self]

theorem standing_admitRest (i q n units : Nat) (spillTried : Bool) (s : State) : standing (admitRest i q n units spillTried s) = standing
    s := by
  unfold admitRest
  dsimp only
  repeat' split
  all_goals simp only [standing_countQueue, standing_exhausted, standing_refuse, standing_storeOnDie, standing_appendPkt,
    standing_dropLossless, standing_trimTo]

theorem standing_admitUnicast (i q : Nat) (s : State) : standing (admitUnicast i q s) = standing s := by
  refine standing_ite ?_ (standing_ite ?_ ?_)
  · have h := standing_tryAppend q (unitsOf (getPkt i s).len) s
    split <;> rename_i he <;> rw [he] at h
    · rw [standing_appendPkt, h]
    · rw [standing_admitRest, h]
  · exact (standing_storeOnDie ..).trans (standing_setPkt ..)
  · have h := standing_tryOpen q (cellsOf (getPkt i s).len) (unitsOf (getPkt i s).len) s
    split <;> rename_i he <;> rw [he] at h
    · rw [standing_appendPkt, standing_postSpill, h]
    · rw [standing_admitRest, h]

theorem standing_meetEgress (p : Pkt) (s : State) : standing (meetEgress p s) = standing s := by
  simp only [meetEgress, standing_meetHop, apply_ite standing, ite_self]

theorem standing_puntTo {s : State} {f : State → State} (hf : ∀ u,
    standing (f u) = standing u) (i pool : Nat) : standing (puntTo i pool f s) = standing s := by
  simp only [puntTo, standing_setRing, standing_setPkt, standing_storeCells, hf, apply_ite standing, ite_self]

theorem standing_readGroup (g : Nat) (s : State) : standing (readGroup g s).2 = standing s := by
  simp only [readGroup, standing_meetSecded]

theorem standing_storeMulticast (i : Nat) (s : State) : standing (storeMulticast i s) = standing s := by
  simp only [storeMulticast, standing_setPkt, standing_discard, standing_storeCells, standing_readGroup, apply_ite standing, ite_self]

theorem standing_admitToPort (i port : Nat) (s : State) : standing (admitToPort i port s) = standing s := by
  simp only [admitToPort, standing_countPort, standing_setPkt, standing_discard, standing_flushPort, standing_refuse,
    standing_admitUnicast, apply_ite standing, ite_self]

theorem standing_admitMain (i : Nat) (s : State) : standing (admitMain i s) = standing s := by
  unfold admitMain
  dsimp only
  repeat' split
  all_goals simp only [standing_setPkt, standing_discard, standing_meetEgress, standing_puntTo, standing_storeMulticast,
    standing_admitToPort, implies_true]

theorem standing_readMirror (m : Nat) (s : State) : standing (readMirror m s).2 = standing s := by
  simp only [readMirror, standing_meetSecded]

theorem standing_refuseCopy (i m : Nat) (s : State) : standing (refuseCopy i m s) = standing s := by
  simp only [refuseCopy, standing_discard, standing_mk, unitsStanding_units]

theorem standing_copyToPort (i m port : Nat) (share : Option Nat) (s : State) : standing (copyToPort i m port share s) = standing s := by
  unfold copyToPort
  split <;> simp only [standing_countPort, standing_setPkt, standing_modPkt, standing_setCells, standing_joinQueue, standing_flushPort,
    standing_storeOnDie, standing_refuseCopy, apply_ite standing, ite_self]

theorem standing_mirrorCopy (p : Pkt) (root : Nat) (share : Option Nat) (s : State) : standing (mirrorCopy p root share s) = standing s := by
  unfold mirrorCopy
  dsimp only
  repeat' split
  all_goals simp only [standing_modPkt, standing_newPkt, standing_meetEgress, standing_puntTo, standing_readMirror, standing_refuseCopy,
    standing_copyToPort, standing_mk, unitsStanding_units, implies_true]

theorem standing_admitPkt (i : Nat) (s : State) : standing (admitPkt i s) = standing s := by
  simp only [admitPkt, standing_setPkt, standing_discard, standing_puntTo, standing_admitMain, standing_mirrorCopy, apply_ite standing,
    ite_self, implies_true]

theorem standing_cutShort (i reason : Nat) (s : State) : standing (cutShort i reason s) = standing s := by
  unfold cutShort
  dsimp only
  repeat' split
  all_goals simp only [standing_setPkt, standing_discard, standing_dropQueued, standing_unpunt]

theorem standing_growSpilled (i id arrived : Nat) (s : State) : standing (growSpilled i id arrived s) = standing s := by
  simp only [growSpilled, standing_cutShort, apply_ite standing, ite_self]
  split <;> simp only [standing_countQueue, standing_addOcc, standing_setPkt, standing_setCells, standing_setRun, standing_runStep,
    apply_ite standing, ite_self]

theorem standing_growOnDie (id arrived : Nat) (hs : List Nat) (s : State) : standing (growOnDie id arrived hs s) = standing s := by
  have hg : ∀ (c c' : Cells) (k : Nat) (rot : Tab Nat), standing (setCells id c'
      (if c.occ = 0 then { s with buf := { s.buf with rot := rot } } else addOcc c.port c.cls k { s with buf := { s.buf with rot := rot } })) =
      standing s := fun c c' k rot => by
    simp only [standing_setCells, apply_ite standing, standing_addOcc, standing_mk, unitsStanding_units, ite_self]
  refine standing_ite ((standing_foldl (fun u h => standing_cutShort ..) _ _).trans ?_) ?_
  all_goals
    refine (standing_foldl (fun u h => ?_) _ _).trans (hg ..)
    dsimp only
    split
    · simp only [apply_ite standing, standing_modQ, standing_setPkt, ite_self]
    · exact standing_setPkt ..

theorem standing_frameGrows (pkt : Nat) (bytes : List Byte) (s : State) : standing (frameGrows pkt bytes s) = standing s := by
  simp only [frameGrows, standing_takeBytes, standing_growSpilled, standing_growOnDie, apply_ite standing, ite_self, standing_foldl,
    implies_true]

theorem standing_frameRest (all : List Byte) (bad : Option Nat) (i : Nat) (s : State) : standing (frameRest all bad i s) = standing s := by
  simp only [frameRest, standing_setPkt, standing_spillLate, standing_cutShort, apply_ite standing, ite_self]

theorem standing_replicate (i e : Nat) (s : State) : standing (replicate i e s) = standing s := by
  unfold replicate
  dsimp only
  repeat' split
  all_goals simp only [standing_countPort, standing_countQueue, standing_countPipe, standing_setPkt, standing_dropPkt, standing_newPkt,
    standing_setCells, standing_discard, standing_joinQueue, standing_flushPort, standing_mk, unitsStanding_units]

theorem standing_readEntry (n : Nat) (s : State) : standing (readEntry n s).2 = standing s := by
  simp only [readEntry, standing_meetSecded]

theorem standing_walkGroup (panel pkt : Nat) (s : State) : standing (walkGroup panel pkt s) = standing s := by
  refine standing_foldl (fun u k => ?_) _ _
  have h := standing_readEntry (fld (getPkt pkt s).grp 0 19 + k) u
  split <;> rename_i he <;> rw [he] at h
  · exact h
  · simp only [apply_ite standing, standing_replicate, h, ite_self]

theorem standing_sendRin (j : Nat) (peer : List Byte) (nh : Nat) (m : RMsg) (s : State) : standing (sendRin j peer nh m s) = standing s := by
  simp only [sendRin]
  split <;> simp only [standing_newPkt, standing_meetHop, standing_flowLabel]

theorem standing_sendParent (j : Nat) (m : RMsg) (s : State) : standing (sendParent j m s) = standing s := by
  simp only [sendParent, standing_sendRin, apply_ite standing, ite_self]

theorem standing_sendRoot (j : Nat) (m : RMsg) (s : State) : standing (sendRoot j m s) = standing s := by
  simp only [sendRoot, standing_sendRin, apply_ite standing, ite_self]

theorem standing_sendChild (j i : Nat) (m : RMsg) (s : State) : standing (sendChild j i m s) = standing s := by
  simp only [sendChild, standing_sendRin]

theorem standing_sendKids (j mask : Nat) (m : RMsg) (s : State) : standing (sendKids j mask m s) = standing s := by
  simp only [sendKids, standing_sendChild, apply_ite standing, ite_self, standing_foldl, implies_true]

theorem standing_sendDevices (j : Nat) (m : RMsg) (s : State) : standing (sendDevices j m s) = standing s := by
  simp only [sendDevices, standing_sendRin, apply_ite standing, ite_self, standing_foldl, implies_true]

theorem standing_sendPartial (j c : Nat) (retry : Bool) (s : State) : standing (sendPartial j c retry s) = standing s := by
  simp only [sendPartial, standing_sendParent]

theorem standing_sendResends (j c mask : Nat) (s : State) : standing (sendResends j c mask s) = standing s := by
  simp only [sendResends, standing_countJob, standing_sendKids]

theorem standing_sendResultReq (j c : Nat) (s : State) : standing (sendResultReq j c s) = standing s := by
  simp only [sendResultReq, standing_countJob, standing_sendParent]

theorem standing_sendWait (j c : Nat) (s : State) : standing (sendWait j c s) = standing s := by
  simp only [sendWait, standing_countJob, standing_sendParent]

theorem standing_sendAborts (j reason : Nat) (s : State) : standing (sendAborts j reason s) = standing s := by
  simp only [sendAborts, standing_sendRin, standing_sendParent, standing_sendRoot, apply_ite standing, ite_self, standing_foldl,
    implies_true]

theorem standing_failJob (j reason : Nat) (s : State) : standing (failJob j reason s) = standing s := by
  simp only [failJob, standing_report, standing_setJobSt, standing_sendAborts, standing_freeSlots, apply_ite standing, ite_self]

theorem standing_ovfRead (bs : List Nat) (s : State) : standing (ovfRead bs s).2 = standing s := by
  simp only [ovfRead, standing_chanUsed, standing_burlapScan, standing_foldl, implies_true]

theorem standing_ovfDrop (j : Nat) (s : State) : standing (ovfDrop j s) = standing s := by
  simp only [ovfDrop, standing_post, standing_report, standing_setJob, standing_countJob, apply_ite standing, ite_self]

theorem standing_recoverSlot (j c : Nat) (s : State) : standing (recoverSlot j c s) = standing s := by
  simp only [recoverSlot]
  split <;> simp only [standing_clearUpset, standing_setSlot, standing_sendResends, standing_sendResultReq]

theorem standing_meetStaging (j c : Nat) (s : State) : standing (meetStaging j c s) = standing s := by
  simp only [meetStaging]
  split <;> simp only [standing_report, standing_clearUpset, standing_failJob, standing_recoverSlot, apply_ite standing, ite_self]

theorem standing_evict {j c : Nat} {s t : State} (h : evict j c s = some t) : standing t = standing s := by
  obtain ⟨bs, _, rfl⟩ := Option.map_eq_some_iff.mp h
  simp only [standing_countJob, standing_setSlot, standing_mk, unitsStanding_units, standing_ovfFresh, standing_meetStaging]

theorem standing_makeRoom (k n : Nat) (fuel : Nat) (s : State) : standing (makeRoom k n fuel s).2 = standing s := by
  induction fuel generalizing s with
  | zero => rfl
  | succ fuel ih =>
    unfold makeRoom
    split
    · rfl
    · split
      · rfl
      · split
        · rfl
        · exact (ih _).trans (standing_evict ‹_›)

theorem standing_retain (j c : Nat) (payload : List Byte) (ovf : Bool) (s : State) : standing (retain j c payload ovf s) = standing s := by
  simp only [retain, standing_clearUpset, standing_modJob, standing_setSlot, standing_sendKids, standing_freeOld, standing_recovered]

theorem standing_completeSlot (j c : Nat) (s : State) : standing (completeSlot j c s) = standing s := by
  simp only [completeSlot, standing_modJob, standing_setSlot, standing_countJob, standing_sendPartial, standing_freeOld,
    standing_recovered, standing_retain, apply_ite standing, ite_self]

theorem standing_sendStraggler (j : Nat) (step : Nat) (s : State) : standing (sendStraggler j step s) = standing s := by
  simp only [sendStraggler, standing_sendRin, standing_sendRoot, apply_ite standing, ite_self]

theorem standing_lookJob (j : Nat) (s : State) : standing (lookJob j s) = standing s := by
  simp only [lookJob, standing_post, standing_setJob, standing_sendStraggler, apply_ite standing, ite_self]

theorem standing_lookCluster (k : Nat) (s : State) : standing (lookCluster k s) = standing s := by
  simp only [lookCluster, standing_lookJob, standing_foldl, implies_true]

theorem standing_dropCluster (k t : Nat) (s : State) : standing (dropCluster k t s) = standing s := by
  simp only [dropCluster, standing_lookCluster, standing_startChange, apply_ite standing, ite_self]

theorem standing_sendPace (j arg : Nat) (s : State) : standing (sendPace j arg s) = standing s := by
  simp only [sendPace, standing_sendRoot]

theorem standing_lookCeil (j : Nat) (s : State) : standing (lookCeil j s) = standing s := by
  simp only [lookCeil, standing_setJob, standing_sendPace, apply_ite standing, ite_self]

theorem standing_lookCeils (s : State) : standing (lookCeils s) = standing s := by
  simp only [lookCeils, standing_lookCeil, standing_foldl, implies_true]

theorem standing_announce (j : Nat) (p : StepSet) (s : State) : standing (announce j p s) = standing s := by
  simp only [announce, standing_modJob, standing_sendDevices, standing_foreseeRail]

theorem standing_applyPend (j n : Nat) (s : State) : standing (applyPend j n s) = standing s := by
  simp only [applyPend, standing_post, standing_report, standing_setJob, standing_modJob, standing_countJob, apply_ite standing, ite_self,
    standing_foldl, implies_true]

theorem standing_moveAll (k : Nat) (s : State) : standing (moveAll k s) = standing s := by
  refine standing_foldl (fun u j => ?_) _ _
  split
  · exact standing_startMove ..
  · exact standing_failJob ..

theorem standing_redirectMoves (k : Nat) (s : State) : standing (redirectMoves k s) = standing s := by
  refine standing_foldl (fun u j => ?_) _ _
  split
  · exact standing_modJob ..
  · exact standing_failJob ..

theorem standing_contribSlot (p : CPkt) (s : State) : standing (contribSlot p s) = standing s := by
  unfold contribSlot
  dsimp only
  repeat' split
  all_goals simp only [standing_clearUpset, standing_setSlot, standing_countJob, standing_sendChild, standing_ovfFresh, standing_ovfDrop,
    standing_makeRoom, standing_takeContrib, standing_completeSlot, standing_mk, unitsStanding_units]

theorem standing_takeLog (j k : Nat) (log : List CPkt) (s : State) : standing (takeLog j k log s) = standing s := by
  simp only [takeLog, standing_lookCluster, standing_followGroup, standing_contribSlot, apply_ite standing, ite_self, standing_foldl,
    implies_true]

theorem standing_loseCluster (k : Nat) (s : State) : standing (loseCluster k s) = standing s := by
  refine (standing_foldl (fun u j => standing_ite (standing_failJob ..) ?_) _ _).trans ?_
  · split
    · exact standing_failJob ..
    · simp only [standing_takeLog, apply_ite standing, standing_setJobSt, standing_post, standing_foldl, standing_recoverSlot, implies_true,
        standing_modJob, standing_makeRoom, ite_self]
  · exact (standing_redirectMoves ..).trans (standing_modCluster ..)

theorem standing_applyProfile (n data stage : Nat) (p : Pkt) (s : State) : standing (applyProfile n data stage p s).2 = standing s := by
  simp only [applyProfile, standing_report, standing_clearUpset, apply_ite standing, ite_self, apply_ite Prod.snd]

theorem standing_sourceLookup (p : Pkt) (s : State) : standing (sourceLookup p s).2 = standing s := by
  simp only [sourceLookup]
  split <;> simp only [standing_emMeet, standing_emHit, standing_learnCandidate, apply_ite standing, ite_self]

theorem standing_destLookup (p : Pkt) (s : State) : standing (destLookup p s).2 = standing s := by
  simp only [destLookup]
  split <;> simp only [standing_emMeet, standing_emHit, standing_applyProfile]

theorem standing_stage4 (p : Pkt) (s : State) : standing (stage4 p s).2 = standing s := by
  simp only [stage4, standing_sourceLookup, standing_destLookup, apply_ite standing, ite_self, apply_ite Prod.fst, apply_ite Prod.snd]

theorem standing_stage5 (p : Pkt) (s : State) : standing (stage5 p s).2 = standing s := by
  unfold stage5
  dsimp only
  repeat' split
  all_goals simp only [standing_meetItem]

theorem standing_stage6 (p : Pkt) (s : State) : standing (stage6 p s).2 = standing s := by
  unfold stage6
  dsimp only
  repeat' split
  all_goals simp only [standing_applyProfile]

theorem standing_resolveNext (p : Pkt) (n : Nat) (s : State) : standing (resolveNext p n s).2 = standing s := by
  simp only [resolveNext]
  split <;> simp only [standing_meetHop]

theorem standing_stage7 (p : Pkt) (s : State) : standing (stage7 p s).2 = standing s := by
  refine standing_ite_snd (standing_resolveNext ..) (standing_ite_snd ?_ rfl)
  have h := (standing_pickMember (p.tag.dest % 2 ^ 14) p.tag.hash p.tag.tc _).trans
    (standing_meetGroup (p.tag.dest % 2 ^ 14) p.tag.hash s)
  dsimp only
  split <;> rename_i he <;> rw [he] at h
  · rw [standing_resolveNext, h]
  · simp only [apply_ite Prod.snd, apply_ite standing, standing_groupEmpty, h, ite_self]

theorem standing_meterNow (k : Nat) (s : State) : standing (meterNow k s).2 = standing s := by
  simp only [meterNow, standing_report, standing_clearUpset, standing_mirrorFix, apply_ite standing, ite_self, apply_ite Prod.snd]

theorem standing_stage8 (p : Pkt) (s : State) : standing (stage8 p s).2 = standing s := by
  simp only [stage8]
  split <;> simp only [standing_meterNow, standing_mk, unitsStanding_units, apply_ite standing, ite_self, apply_ite Prod.snd]

theorem standing_stage9 (p : Pkt) (s : State) : standing (stage9 p s).2 = standing s := by
  simp only [stage9]
  split <;> simp only [standing_countFlex]

theorem standing_stages5to9 (i : Nat) (p : Pkt) (s : State) : standing (stages5to9 i p s) = standing s := by
  simp only [stages5to9, standing_setPkt, standing_stage5, standing_stage6, standing_stage7, standing_stage8, standing_stage9]

theorem standing_ingress (i : Nat) (s : State) : standing (ingress i s) = standing s := by
  simp only [ingress]
  split <;> simp only [standing_setPkt, standing_discard, standing_colReceive, standing_stage4, standing_notAdmitted, standing_stages5to9,
    standing_mk, unitsStanding_units, apply_ite standing, ite_self]

theorem standing_tableCmd {body : Cmd → State → State × CmdEnd} (hb : ∀ c u, standing (body c u).1 = standing u) (c : Cmd) (s : State) :
    standing (tableCmd body c s).1 = standing s := by
  simp only [tableCmd, standing_touch, hb]

theorem standing_readItems (mem : Nat) {meet : Nat → State → State} (hm : ∀ i u, standing (meet i u) = standing u) (items : List Nat)
    (bytes : Nat → List Byte) (s : State) : standing (readItems mem meet items bytes s).1 = standing s := by
  simp only [readItems, apply_ite Prod.fst, standing_fail, standing_okayData, standing_foldl, hm, apply_ite standing, ite_self,
    implies_true]

theorem standing_emInsertCmd (c : Cmd) (s : State) : standing (emInsertCmd c s).1 = standing s := by
  have hm := standing_emMeet (emOfBytes (slice c.ops 0 32)).key (emOfBytes (slice c.ops 0 32)).typ s
  refine standing_ite_fst rfl (standing_ite_fst rfl (standing_ite_fst rfl ?_))
  dsimp only
  split
  · exact standing_ite_fst hm ((standing_setEm ..).trans hm)
  · split
    · exact hm
    · exact (standing_emPlace ‹_›).trans hm

theorem standing_emDeleteCmd (c : Cmd) (s : State) : standing (emDeleteCmd c s).1 = standing s := by
  unfold emDeleteCmd
  dsimp only
  repeat' split
  all_goals simp only [standing_fail, standing_okay, standing_setEm, standing_emMeet]

theorem standing_emLookupCmd (c : Cmd) (s : State) : standing (emLookupCmd c s).1 = standing s := by
  unfold emLookupCmd
  dsimp only
  repeat' split
  all_goals simp only [standing_fail, standing_okayWith, standing_emMeet]

theorem standing_addPrefix {key : Nat} {r : LpmRes} {s t : State} (h : addPrefix key r s = some t) : standing t = standing s :=
  (fr_addPrefix key r s t h).standing rfl

theorem standing_lpmLookupCmd (c : Cmd) (s : State) : standing (lpmLookupCmd c s).1 = standing s := by
  unfold lpmLookupCmd
  dsimp only
  repeat' split
  all_goals simp only [standing_takeFree, standing_fail, standing_okayWith, standing_meetItem]

theorem standing_writeRecords (c : Cmd) (host : HostAns) (size first n : Nat) (ok : Nat → Bool) {put : Nat → Nat → State → State}
    (hp : ∀ i r u, standing (put i r u) = standing u) (s : State) : standing (writeRecords c host size first n ok put s).1 = standing s :=
      by
  refine standing_withHost c host (fun bs => ?_) rfl
  simp only [apply_ite Prod.fst, standing_fail, standing_okay, standing_foldl, hp, apply_ite standing, ite_self, implies_true]

theorem standing_ecmpReadCmd (c : Cmd) (s : State) : standing (ecmpReadCmd c s).1 = standing s := by
  simp only [ecmpReadCmd, standing_fail, standing_meetItem, standing_readItems, apply_ite standing, ite_self, implies_true,
    apply_ite Prod.fst]

theorem standing_shadowFix (kind action ix : Nat) (unit : Nat × Nat) (lost : Option Nat) (s : State) : standing (shadowFix kind action ix
    unit lost s) = standing s := by
  simp only [shadowFix, standing_post]
  split <;> simp only [standing_report, standing_mk, unitsStanding_units, apply_ite standing, ite_self]

theorem standing_compareRecord (kind ix : Nat) (b : List Byte) (s : State) : standing (compareRecord kind ix b s).2 = standing s := by
  unfold compareRecord
  dsimp only
  refine standing_ite_snd ?_ (standing_ite_snd ?_ (standing_ite_snd ?_ ?_))
  · split
    · refine standing_ite_snd rfl ?_
      simp only [standing_shadowFix, standing_clearUpset, standing_setEm]
    · split
      · rename_i h
        exact (standing_shadowFix ..).trans (standing_emPlace h)
      · exact standing_shadowFix ..
  · refine standing_ite_snd (standing_mirrorFix ..) ?_
    split
    · rename_i h
      exact (standing_shadowFix ..).trans ((standing_addPrefix h).trans (standing_mirrorFix ..))
    · exact (standing_shadowFix ..).trans (standing_mirrorFix ..)
  · refine standing_ite_snd rfl ?_
    simp only [standing_shadowFix, standing_setTcam]
  · simp only [apply_ite Prod.snd, apply_ite standing, standing_shadowFix, standing_clearUpset, standing_mk, unitsStanding_units,
      standing_mirrorFix, ite_self]

theorem standing_shadowRecord (all : Bool) (kind ix : Nat) (b : List Byte) (s : State) : standing (shadowRecord all kind ix b s).2 =
    standing s := by
  simp only [shadowRecord, standing_compareRecord, standing_mk, unitsStanding_units, apply_ite standing, ite_self, apply_ite Prod.snd]

theorem standing_shadowCheckCmd (c : Cmd) (host : HostAns) (s : State) : standing (shadowCheckCmd c host s).1 = standing s := by
  unfold shadowCheckCmd
  dsimp only
  repeat' split
  all_goals simp only [standing_report, standing_fail, standing_okayWith, standing_groupsLive, standing_shadowRecord, implies_true,
    standing_foldl_snd]

theorem standing_editWriteCmd (c : Cmd) (host : HostAns) (s : State) : standing (editWriteCmd c host s).1 = standing s := by
  simp only [editWriteCmd, standing_fail, standing_clearUpset, standing_meetSecded, standing_readItems, standing_writeRecords,
    standing_mk, unitsStanding_units, apply_ite standing, ite_self, implies_true, apply_ite Prod.fst]

theorem standing_mcastWriteCmd (c : Cmd) (host : HostAns) (s : State) : standing (mcastWriteCmd c host s).1 = standing s := by
  simp only [mcastWriteCmd, standing_fail, standing_clearUpset, standing_meetSecded, standing_readItems, standing_writeRecords,
    standing_mk, unitsStanding_units, apply_ite standing, ite_self, implies_true, apply_ite Prod.fst]

theorem standing_mirrorWriteCmd (c : Cmd) (s : State) : standing (mirrorWriteCmd c s).1 = standing s := by
  simp only [mirrorWriteCmd, standing_fail, standing_okay, standing_okayWith, standing_clearUpset, standing_meetSecded, standing_mk,
    unitsStanding_units, apply_ite standing, ite_self, apply_ite Prod.fst]

theorem standing_egressWriteCmd (c : Cmd) (host : HostAns) (s : State) : standing (egressWriteCmd c host s).1 = standing s := by
  simp only [egressWriteCmd, standing_fail, standing_okayData, standing_clearUpset, standing_meetSecded, standing_readItems,
    standing_writeRecords, standing_mk, unitsStanding_units, apply_ite standing, ite_self, implies_true, apply_ite Prod.fst]

theorem standing_dropPunts (n : Nat) (s : State) : standing (dropPunts n s) = standing s := by
  simp only [dropPunts, standing_setRing, standing_discard, standing_foldl, implies_true]

theorem standing_writeRingCfg (n v : Nat) (s : State) : standing (writeRingCfg n v s) = standing s := by
  simp only [writeRingCfg, standing_wr, standing_wrRw, standing_setRing, standing_dropPunts, standing_enableRing, apply_ite standing,
    ite_self]

theorem standing_lateError (ch : Nat) (desc : DescRef) (status : Byte) (s : State) : standing (lateError ch desc status s) = standing s := by
  simp only [lateError, standing_report, standing_setChan, standing_postCompletion, apply_ite standing, ite_self]

theorem standing_dropSpoilt (ring : Nat) (s : State) : standing (dropSpoilt ring s) = standing s := by
  simp only [dropSpoilt, standing_discard, standing_readCells, standing_unpunt, apply_ite standing, ite_self, standing_foldl, implies_true]

theorem standing_perstReset (s : State) : standing (perstReset s) = standing s := by
  simp only [perstReset, standing_dropPunts, standing_perstDiscard, standing_mk, unitsStanding_units, standing_foldl, implies_true]

theorem standing_settleMem (s : State) : standing (settleMem s) = standing s := by
  unfold settleMem
  dsimp only
  repeat' split
  all_goals simp only [standing_report, standing_modMChan, standing_halfOff, standing_mk, unitsStanding_units, standing_foldl, implies_true]

theorem standing_trainingDone (ch : Nat) (t : TrainRes) (s : State) : standing (trainingDone ch t s) = standing s := by
  simp only [trainingDone, standing_report, standing_setMChan, standing_settleMem, apply_ite standing, ite_self]

theorem standing_linkSeen (ch n : Nat) (s : State) : standing (linkSeen ch n s) = standing s := by
  simp only [linkSeen, standing_report, standing_setMChan, apply_ite standing, ite_self]

theorem standing_poolMisuse (h owner offender kind : Nat) (s : State) : standing (poolMisuse h owner offender kind s) = standing s := by
  simp only [poolMisuse, standing_post, standing_report, standing_modPool, standing_mk, unitsStanding_units]

theorem standing_poolFreeBy (h who : Nat) (s : State) : standing (poolFreeBy h who s).2 = standing s := by
  simp only [poolFreeBy, standing_poolMisuse, standing_poolRelease, apply_ite standing, ite_self, apply_ite Prod.snd]

theorem standing_poolGive (h who new : Nat) (s : State) : standing (poolGive h who new s).2 = standing s := by
  simp only [poolGive, standing_setPBuf, standing_poolMisuse, apply_ite standing, ite_self, apply_ite Prod.snd]

theorem standing_bufRead (h off n : Nat) (s : State) : standing (bufRead h off n s).2.2 = standing s := by
  simp only [bufRead, standing_report, standing_clearUpset, standing_burlapRead, standing_setPBuf, apply_ite standing, ite_self,
    standing_foldl, implies_true, apply_ite Prod.snd]

theorem standing_ceilingsMoved (s : State) : standing (ceilingsMoved s) = standing s := by
  simp only [ceilingsMoved, standing_foreseeRail, standing_lookCeils, standing_tellCeil, standing_foldl, implies_true]

theorem standing_takeVr (k : Nat) (a : VrAnswer) (s : State) : standing (takeVr k a s) = standing s := by
  simp only [takeVr, standing_post, standing_report, standing_mk, unitsStanding_units, apply_ite standing, ite_self]

end Sys2Proof.Machine
end

section
/-! PROOFS. The fault manager, the sequencer, commands and registers: a function that only reports leaves the units where they stand. -/
namespace Sys2Proof.Machine

theorem standing_scaleRail (cr : Nat) (est : List Nat) (s : State) : standing (scaleRail cr est s) = standing s := by
  simp only [scaleRail, standing_report, standing_modDom, standing_mk, unitsStanding_units, apply_ite standing, ite_self, standing_foldl,
    implies_true]

theorem standing_dropIfMust (k : Nat) (s : State) : standing (dropIfMust k s) = standing s := by
  simp only [dropIfMust, standing_dropCluster, apply_ite standing, ite_self]

theorem standing_fullThrottle (s : State) : standing (fullThrottle s) = standing s := by
  simp only [fullThrottle, standing_report, standing_mk, unitsStanding_units, apply_ite standing, ite_self]

theorem standing_powerSample (m : PowerMeasure) (s : State) : standing (powerSample m s) = standing s := by
  simp only [powerSample, standing_ceilingsMoved, standing_takeVr, standing_scaleRail, standing_shareSram, standing_chargeJobs,
    standing_enforce, standing_setCeils, standing_dropIfMust, standing_fullThrottle, standing_holdTops, standing_mk, unitsStanding_units,
    apply_ite standing, ite_self, standing_foldl, implies_true]

theorem standing_allToZero (s : State) : standing (allToZero s) = standing s := by
  simp only [allToZero, standing_setStep, standing_dropCluster, apply_ite standing, ite_self, standing_foldl, implies_true]

theorem standing_vrAlert (ball : Nat) (status : List VrAnswer) (s : State) : standing (vrAlert ball status s) = standing s := by
  simp only [vrAlert, standing_post, standing_report, standing_ceilingsMoved, standing_throttleBegan, standing_allToZero, standing_mk,
    unitsStanding_units, apply_ite standing, ite_self, standing_foldl, implies_true]

theorem standing_takeSensor (n : Nat) (t : Option Int) (s : State) : standing (takeSensor n t s) = standing s := by
  simp only [takeSensor]
  split <;> simp only [standing_report, standing_mk, unitsStanding_units, apply_ite standing, ite_self]

theorem standing_crossSensor (n : Nat) (s : State) : standing (crossSensor n s) = standing s := by
  simp only [crossSensor, standing_post, standing_report, standing_mk, unitsStanding_units, apply_ite standing, ite_self]

theorem standing_coolDie (x : Nat) (s : State) : standing (coolDie x s) = standing s := by
  simp only [coolDie, standing_dropCluster, standing_lowerStep, standing_throttleBegan, standing_mk, unitsStanding_units,
    apply_ite standing, ite_self, standing_foldl, implies_true]

theorem standing_sensorRead (temps : List (Option Int)) (s : State) : standing (sensorRead temps s) = standing s := by
  simp only [sensorRead, standing_tempRetrain, standing_ceilingsMoved, standing_takeSensor, standing_crossSensor, standing_coolDie,
    standing_foldl, implies_true]

theorem standing_thermalRecovery (x : Nat) (s : State) : standing (thermalRecovery x s) = standing s := by
  simp only [thermalRecovery, standing_ceilingsMoved, standing_raiseStep, standing_throttleEnded, standing_mk, unitsStanding_units,
    apply_ite standing, ite_self, standing_foldl, implies_true]

theorem standing_loseDomain (d : Nat) (s : State) : standing (loseDomain d s) = standing s := by
  simp only [loseDomain, standing_modMChan, standing_groupClk, standing_macroOff, standing_mk, unitsStanding_units, apply_ite standing,
    ite_self, standing_foldl, implies_true]

theorem standing_cutPower (d : Nat) (s : State) : standing (cutPower d s) = standing s := by
  simp only [cutPower]
  split <;> simp only [standing_post, standing_report, standing_finishRef, standing_setDom, standing_loseDomain, apply_ite standing,
    ite_self]

theorem standing_powerDownDone (d : Nat) (s : State) : standing (powerDownDone d s) = standing s := by
  simp only [powerDownDone, standing_cutPower, apply_ite standing, ite_self]

theorem standing_powerDown (d : Nat) (c : Cmd) (s : State) : standing (powerDown d c s).1 = standing s := by
  simp only [powerDown, standing_fail, standing_okay, standing_setDom, standing_cutPower, apply_ite standing, ite_self, apply_ite Prod.fst]

theorem standing_pwrDomainCmd (c : Cmd) (s : State) : standing (pwrDomainCmd c s).1 = standing s := by
  simp only [pwrDomainCmd, standing_fail, standing_okay, standing_modDom, standing_ceilingsMoved, standing_holdTops, standing_powerDown,
    standing_powerUp, apply_ite standing, ite_self, apply_ite Prod.fst]

theorem standing_enterLockdown (s : State) : standing (enterLockdown s) = standing s := by
  simp only [enterLockdown, standing_setMode, standing_modDom, standing_loseDomain, standing_squelchAll, standing_mk, unitsStanding_units,
    apply_ite standing, ite_self, standing_foldl, implies_true]

theorem standing_scratchFix (e a n : Nat) (s : State) : standing (scratchFix e a n s) = standing s := by
  simp only [scratchFix, standing_report, standing_clearUpset, standing_foldl, implies_true]

theorem standing_seqTrap (e k cause info : Nat) (s : State) : standing (seqTrap e k cause info s) = standing s := by
  unfold seqTrap
  dsimp only
  repeat' split
  all_goals simp only [standing_post, standing_report, standing_modEng, standing_setCtx, standing_scratchWrite]

theorem standing_restoreFrame (e k : Nat) (s : State) : standing (restoreFrame e k s) = standing s := by
  simp only [restoreFrame, standing_setCtx, standing_scratchFix, apply_ite standing, ite_self]

theorem standing_resumePast (e k : Nat) (s : State) : standing (resumePast e k s) = standing s := by
  simp only [resumePast, standing_setCtx, standing_scratchFix]

theorem standing_tmFault (cls panel item : Nat) (s : State) : standing (tmFault cls panel item s) = standing s := by
  simp only [tmFault, standing_report]

theorem standing_meetSched (q : Nat) (s : State) : standing (meetSched q s) = standing s := by
  simp only [meetSched]
  split <;> simp only [standing_clearUpset, standing_flushQueue, standing_tmFault, standing_mk, unitsStanding_units]

theorem standing_meetPort (p : Nat) (s : State) : standing (meetPort p s) = standing s := by
  simp only [meetPort, standing_meetSched, standing_foldl, implies_true]

theorem standing_lookPort (p : Nat) (s : State) : standing (lookPort p s) = standing s := by
  simp only [lookPort, standing_lookHead, standing_meetPort, standing_mk, unitsStanding_units, standing_foldl, implies_true]

theorem standing_meetSamples (s : State) : standing (meetSamples s).2 = standing s := by
  simp only [meetSamples, standing_clearUpset, standing_tmFault, apply_ite standing, ite_self, implies_true, apply_ite Prod.snd,
    standing_foldl_snd]

theorem standing_closeWindow (suspect : Bool) (s : State) : standing (closeWindow suspect s) = standing s := by
  simp only [closeWindow, standing_meetSamples, standing_mk, unitsStanding_units]

theorem standing_sampleStepped (n : Nat) (s : State) : standing (sampleStepped n s) = standing s := by
  simp only [sampleStepped, standing_closeWindow, apply_ite standing, ite_self]

theorem standing_tbWatch {s : State} {f : State → State} (hf : ∀ u, standing (f u) = standing u) : standing (tbWatch f s) = standing s := by
  simp only [tbWatch, standing_gatesFollowTb, standing_suspectTime, standing_foldl, implies_true, hf, apply_ite standing, ite_self]

theorem standing_writeTb (n v : Nat) (s : State) : standing (writeTb n v s) = standing s := by
  simp only [writeTb, standing_writeTbCfg, standing_tbWatch, implies_true]

theorem standing_stepAll (n : Nat) (d : Int) (s : State) : standing (stepAll n d s) = standing s := by
  simp only [stepAll, standing_markSuspect, standing_pmStep, standing_gatesStepped, standing_stepTb, standing_sampleStepped,
    apply_ite standing, ite_self, standing_foldl, implies_true]

theorem standing_timeSetCmd (c : Cmd) (s : State) : standing (timeSetCmd c s).1 = standing s := by
  simp only [timeSetCmd]
  split <;> simp only [standing_fail, standing_stepAll, apply_ite standing, ite_self, apply_ite Prod.fst]

theorem standing_timeAdjustCmd (c : Cmd) (s : State) : standing (timeAdjustCmd c s).1 = standing s := by
  simp only [timeAdjustCmd]
  split <;> simp only [standing_fail, standing_okay, standing_setTb, standing_slewDone, standing_stepAll, apply_ite standing, ite_self,
    apply_ite Prod.fst]

theorem standing_fenceMacro (m : Nat) (s : State) : standing (fenceMacro m s) = standing s := by
  simp only [fenceMacro, standing_portDisable, standing_lanesOff, standing_foldl, implies_true]

theorem standing_fenceGroup (g : Nat) (s : State) : standing (fenceGroup g s) = standing s := by
  simp only [fenceGroup, standing_fenceMacro, standing_foldl, implies_true]

theorem standing_fencePipe (k : Nat) (s : State) : standing (fencePipe k s) = standing s := by
  simp only [fencePipe, standing_countPort, standing_discard, apply_ite standing, ite_self, standing_foldl, implies_true]

theorem standing_loseCells (b : Nat) (s : State) : standing (loseCells b s).2 = standing s := by
  simp only [loseCells, standing_mk, unitsStanding_units]

theorem standing_fenceEffect (kind ix : Nat) (cls : Option Nat) (s : State) : standing (fenceEffect kind ix cls s) = standing s := by
  simp only [fenceEffect, standing_portDisable, standing_setTbState, standing_loseCluster, standing_fenceEngine, standing_tbWatch,
    standing_fenceMacro, standing_fenceGroup, standing_fencePipe, standing_loseBank, standing_evacuate, standing_loseCells,
    standing_postBank, standing_loseChannel, standing_fenceChan, apply_ite standing, ite_self, implies_true]

theorem standing_startDrain (kind ix : Nat) (s : State) : standing (startDrain kind ix s) = standing s := by
  simp only [startDrain, standing_moveAll, standing_redirectMoves, standing_taintChannel, standing_evacuate, apply_ite standing, ite_self]

theorem standing_returnEffect (kind ix : Nat) (s : State) : standing (returnEffect kind ix s) = standing s := by
  simp only [returnEffect, standing_restoreLater, standing_setTbState, standing_tbWatch, standing_postBank, standing_mk,
    unitsStanding_units, apply_ite standing, ite_self, standing_foldl, implies_true]

theorem standing_reportLost (s : State) : standing (reportLost s) = standing s := by
  simp only [reportLost, standing_report, standing_mk, unitsStanding_units, apply_ite standing, ite_self, standing_foldl, implies_true]

theorem standing_diagTestCmd (c : Cmd) (passed : Bool) (s : State) : standing (diagTestCmd c passed s).1 = standing s := by
  simp only [diagTestCmd, standing_report, standing_fail, standing_okay, apply_ite standing, ite_self, apply_ite Prod.fst]

theorem standing_ageCheck (i : Nat) (s : State) : standing (ageCheck i s) = standing s := by
  simp only [ageCheck, standing_post, standing_setEm, standing_emMeetBad, standing_countMiss, apply_ite standing, ite_self]

theorem standing_agePass (t : Nat) (s : State) : standing (agePass t s) = standing s := by
  simp only [agePass, standing_ageCheck, standing_mk, unitsStanding_units, apply_ite standing, ite_self, standing_foldl, implies_true]

theorem standing_serveAging (s : State) : standing (serveAging s) = standing s := by
  simp only [serveAging, standing_agePass, standing_foldl, implies_true]

theorem standing_serveEvac (s : State) : standing (serveEvac s) = standing s := by
  unfold serveEvac
  split
  · rfl
  · split
    · rfl
    · refine standing_ite ?_ ?_
      · simp only [standing_setEm, standing_clearUpset, standing_emMeetBad]
      · split
        · rename_i h
          exact (standing_setEm ..).trans (standing_emPlace h)
        · exact (standing_post ..).trans (standing_setEm ..)

theorem standing_sweepLate (s : State) : standing (sweepLate s) = standing s := by
  simp only [sweepLate, standing_report, standing_mk, unitsStanding_units, apply_ite standing, ite_self]

theorem standing_serveShadow (r addr : Nat) (bs : List Byte) (s : State) : standing (serveShadow r addr bs s) = standing s := by
  simp only [serveShadow, standing_groupsLive, standing_beginSweep, standing_shadowRecord, standing_sweepLate, standing_sweepEnds,
    standing_mk, unitsStanding_units, apply_ite standing, ite_self, standing_foldl, implies_true]

theorem standing_seqLoad8 (space a : Nat) (s : State) : standing (seqLoad8 space a s).2 = standing s := by
  simp only [seqLoad8]
  split <;> simp only [standing_takeFree, standing_meetValue, standing_bufRead, apply_ite standing, ite_self, apply_ite Prod.snd]

theorem standing_chkLost (e r : Nat) (s : State) : standing (chkLost e r s) = standing s := by
  simp only [chkLost, standing_report, standing_chkWrite]

theorem standing_memEffect (e k w : Nat) (c : Ctx) (s : State) : standing (memEffect e k w c s) = standing s := by
  unfold memEffect
  dsimp only
  repeat' split
  all_goals simp only [standing_post, standing_report, standing_poolRequest, standing_poolFreeBy, standing_bufWrite, standing_modCtx,
    standing_scratchFix, standing_scratchWrite, standing_seqPoolAnswer, standing_seqLoad8, standing_seqStoreCtr, standing_chkWrite,
    standing_regBytes]

theorem standing_seqFlow (e k w : Nat) (s : State) : standing (seqFlow e k w s) = standing s := by
  simp only [seqFlow]
  split <;> simp only [standing_setCtx, standing_endRun, standing_seqTrap, standing_restoreFrame, standing_goOn]

theorem standing_serveRoutine (r : Nat) (s : State) : standing (serveRoutine r s) = standing s := by
  simp only [serveRoutine, standing_serveAging, standing_serveEvac, apply_ite standing, ite_self]

theorem standing_trapReport (e r cause : Nat) (s : State) : standing (trapReport e r cause s) = standing s := by
  simp only [trapReport, standing_report, standing_chkLost, apply_ite standing, ite_self]

theorem standing_seqIssue (e k : Nat) (s : State) : standing (seqIssue e k s) = standing s := by
  unfold seqIssue
  dsimp only
  repeat' split
  all_goals simp only [standing_report, standing_clearUpset, standing_modEng, standing_seqTrap, standing_memEffect, standing_seqFlow,
    standing_aluStep, standing_serveRoutine, standing_trapReport]

/-- What a table request answers and leaves by how its command ends. -/
def tableAnswer (objs : List (Nat × Nat)) : State × CmdEnd → Bool × State
  | (t, .done r) => (decide (r.status = 0), touch objs t)
  | (t, .later) => (true, t)

theorem standing_tableAnswer {s : State} {objs : List (Nat × Nat)} {x : State × CmdEnd} (h : standing x.1 = standing s) :
    standing (tableAnswer objs x).2 = standing s := by
  obtain ⟨t, r | _⟩ := x
  · exact (standing_touch ..).trans h
  · exact h

theorem standing_tableRequest (bs host : List Byte) (s : State) : standing (tableRequest bs host s).2 = standing s := by
  unfold tableRequest
  dsimp only
  split
  · exact standing_tableAnswer (standing_emInsertCmd ..)
  · exact standing_tableAnswer (standing_emDeleteCmd ..)
  · exact standing_tableAnswer (standing_emLookupCmd ..)
  · exact standing_tableAnswer (standing_emReadCmd ..)
  · exact standing_tableAnswer (standing_lpmAddCmd ..)
  · exact standing_tableAnswer (standing_lpmDeleteCmd ..)
  · exact standing_tableAnswer (standing_lpmLookupCmd ..)
  · exact standing_tableAnswer (standing_tcamWriteCmd ..)
  · exact standing_tableAnswer (standing_tcamReadCmd ..)
  · exact standing_tableAnswer (standing_ecmpGroupWriteCmd ..)
  · exact standing_tableAnswer (standing_memberWriteCmd ..)
  · exact standing_tableAnswer (standing_nexthopWriteCmd ..)
  · exact standing_tableAnswer (standing_ecmpReadCmd ..)
  · exact standing_tableAnswer (standing_shadowCheckCmd ..)
  · have h := standing_tableStatCmd { opcode := byteAt bs 0, ops := fit 40 (bs.drop 8) } s
    generalize tableStatCmd _ s = x at h ⊢
    exact standing_tableAnswer h
  · exact standing_tableAnswer (standing_classifyWriteCmd ..)
  · exact standing_tableAnswer (standing_endpointWriteCmd ..)
  · rfl

theorem standing_foldRun (kind first n : Nat) (fold : Bool) (s : State) : standing (foldRun kind first n fold s).2 = standing s := by
  simp only [foldRun, standing_meetValue, standing_foldCtr, apply_ite standing, ite_self, implies_true, standing_foldl_snd]

theorem standing_blockIn (r : Nat) (op : BlkOp) (host : List Byte) (e : Nat) (s : State) : standing (blockIn r op host e s).2 = standing s
    := by
  simp only [blockIn]
  split <;> simp only [standing_report, standing_burlapRead, standing_bufRead, standing_scratchFix, standing_chkLost, standing_foldRun,
    standing_freeBytes, apply_ite standing, ite_self, apply_ite Prod.snd]

theorem standing_blockOut (r : Nat) (op : BlkOp) (host : List Byte) (e k : Nat) (s : State) : standing (blockOut r op host e k s).2 =
    standing s := by
  simp only [blockOut, apply_ite Prod.fst, apply_ite Prod.snd]
  split <;> simp only [standing_emit, standing_burlapWrite, standing_bufWrite, standing_modCtx, standing_scratchWrite,
    standing_seqStoreCtr, standing_chkWrite, standing_tableRequest, apply_ite standing, ite_self, standing_foldl, implies_true,
    apply_ite Prod.snd]

theorem standing_blockDone (e k : Nat) (res : BlockRes) (s : State) : standing (blockDone e k res s) = standing s := by
  unfold blockDone
  dsimp only
  split
  · rfl
  · rename_i op rest _
    split
    · simp only [standing_modCtx, apply_ite standing, standing_report, standing_setCtx, ite_self]
    · rename_i host
      refine standing_ite ?_ ((standing_modCtx ..).trans ((standing_blockOut ..).trans (standing_setCtx ..)))
      have h := (standing_blockIn (getCtx e k s).routine op host e _).trans (standing_setCtx e k { getCtx e k s with blk := rest } s)
      split <;> rename_i he <;> rw [he] at h
      · exact (standing_modCtx ..).trans h
      · simp only [standing_modCtx, apply_ite standing, standing_serveShadow, standing_scratchWrite, h, ite_self]

theorem standing_seqLoadCmd (c : Cmd) (host : HostAns) (s : State) : standing (seqLoadCmd c host s).1 = standing s := by
  refine standing_ite_fst rfl (standing_withHost c host (fun b => ?_) rfl)
  simp only [apply_ite Prod.fst, apply_ite standing, standing_fail, standing_okay, standing_report, standing_loadSection, ite_self]

theorem standing_seqFrameReadCmd (c : Cmd) (s : State) : standing (seqFrameReadCmd c s).1 = standing s := by
  simp only [seqFrameReadCmd, standing_report, standing_fail, standing_okayData, standing_scratchFix, apply_ite standing, ite_self,
    apply_ite Prod.fst]

theorem standing_seqResumeCmd (c : Cmd) (s : State) : standing (seqResumeCmd c s).1 = standing s := by
  simp only [seqResumeCmd, standing_report, standing_fail, standing_okay, standing_endRun, standing_restoreFrame, standing_resumePast,
    apply_ite standing, ite_self, apply_ite Prod.fst]

theorem standing_seqStoreReadCmd (c : Cmd) (s : State) : standing (seqStoreReadCmd c s).1 = standing s := by
  simp only [seqStoreReadCmd, standing_report, standing_fail, standing_okayData, standing_clearUpset, apply_ite standing, ite_self,
    standing_foldl, implies_true, apply_ite Prod.fst]

theorem standing_bootFrom (l : List (Nat × List Byte)) (s : State) : standing (bootFrom l s) = standing s := by
  induction l generalizing s with
  | nil => rfl
  | cons x l ih =>
    obtain ⟨k, b⟩ := x
    rw [bootFrom_cons]
    cases imageFault b s with
    | none => exact standing_loadImage ..
    | some c => exact (ih _).trans (standing_report ..)

theorem standing_modeSetCmd (c : Cmd) (s : State) : standing (modeSetCmd c s).1 = standing s := by
  simp only [modeSetCmd, standing_setMode, standing_fail, standing_okay, standing_dozeMem, standing_undozeMem, standing_allToZero,
    standing_mk, unitsStanding_units, apply_ite standing, ite_self, apply_ite Prod.fst]

theorem standing_takeMsg (k typ : Nat) (ready : CPkt → State → Bool) {body : CPkt → State → State}
    (hb : ∀ p u, standing (body p u) = standing u) (s : State) : standing (takeMsg k typ ready body s) = standing s := by
  unfold takeMsg
  dsimp only
  repeat' split
  all_goals simp only [standing_setCluster, standing_countJob, standing_meetStaging, hb]

theorem standing_colJobCreateCmd (c : Cmd) (host : HostAns) (s : State) : standing (colJobCreateCmd c host s).1 = standing s := by
  refine standing_ite_fst rfl (standing_ite_fst rfl (standing_withHost c host (fun b => standing_ite_fst rfl (standing_ite_fst rfl ?_))
    rfl))
  simp only [standing_okayWith, standing_lookCeil, standing_lookCluster, standing_followGroup, standing_modJob, standing_setJobSt,
    standing_setJob, standing_mk, unitsStanding_units, standing_takeFree]

theorem standing_colJobDestroyCmd (c : Cmd) (s : State) : standing (colJobDestroyCmd c s).1 = standing s := by
  simp only [colJobDestroyCmd, standing_fail, standing_okay, standing_setJob, standing_setJobSt, standing_sendAborts, standing_freeSlots,
    apply_ite standing, ite_self, apply_ite Prod.fst]

theorem standing_colPaceProposeCmd (c : Cmd) (s : State) : standing (colPaceProposeCmd c s).1 = standing s := by
  simp only [colPaceProposeCmd, standing_fail, standing_okay, standing_setJob, standing_lookCeil, apply_ite standing, ite_self,
    apply_ite Prod.fst]

theorem standing_stage12 (p : Pkt) (pipe base : Nat) (w : Work) (s : State) : standing (stage12 p pipe base w s).2 = standing s := by
  simp only [stage12, standing_report, standing_clearUpset, standing_meetSecded, standing_takeFreeBits, apply_ite standing, ite_self,
    apply_ite Prod.fst, apply_ite Prod.snd]

theorem standing_aclLookup (key : Nat) (s : State) : standing (aclLookup key s).2 = standing s := by
  simp only [aclLookup, standing_meetSecded, standing_foldl, implies_true]

theorem standing_stage14 (p : Pkt) (pipe : Nat) (w : Work) (s : State) : standing (stage14 p pipe w s).2 = standing s := by
  unfold stage14
  have h := standing_aclLookup (leNat (aclKey p w)) s
  split <;> rename_i he <;> rw [he] at h
  · exact h
  · simp only [apply_ite standing, standing_countFlex, h, ite_self]

theorem standing_captureTx (p : Pkt) (e : Nat) (w : Work) (s : State) : standing (captureTx p e w s) = standing s := by
  simp only [captureTx, standing_post, standing_drainCaptures, standing_report, standing_mk, unitsStanding_units, apply_ite standing,
    ite_self]

theorem standing_egress (i e : Nat) (s : State) : standing (egress i e s) = standing s := by
  simp only [egress, standing_setPkt, standing_gauze, standing_discard, standing_stage12, standing_stage13, standing_stage14,
    standing_ioamInsert, standing_captureTx, standing_sendOver, apply_ite standing, ite_self]

theorem standing_countPaused (ns : Nat) (s : State) : standing (countPaused ns s) = standing s := by
  simp only [countPaused, standing_countPort, apply_ite standing, ite_self, standing_foldl, implies_true]

theorem standing_aonCycle (s : State) : standing (aonCycle s) = standing s := by
  simp only [aonCycle, standing_advanceTime, standing_countPaused, standing_mk, unitsStanding_units, apply_ite standing, ite_self]

theorem standing_poolFreeCmd (c : Cmd) (s : State) : standing (poolFreeCmd c s).1 = standing s := by
  simp only [poolFreeCmd, standing_fail, standing_poolFreeBy, apply_ite standing, ite_self, apply_ite Prod.fst]

theorem standing_poolTransferCmd (c : Cmd) (s : State) : standing (poolTransferCmd c s).1 = standing s := by
  simp only [poolTransferCmd, standing_fail, standing_poolGive, apply_ite standing, ite_self, apply_ite Prod.fst]

theorem standing_poolCopyCmd (c : Cmd) (host : HostAns) (s : State) : standing (poolCopyCmd c host s).1 = standing s := by
  refine standing_ite_fst rfl (standing_ite_fst rfl (standing_ite_fst rfl (standing_ite_fst rfl (standing_ite_fst rfl
    (standing_ite_fst rfl (standing_ite_fst ?_ (standing_ite_fst (standing_bufRead ..) (standing_bufRead ..))))))))
  split
  · exact standing_bufWrite ..
  · exact standing_bufWrite ..

theorem standing_macControl (p : Nat) (frame : List Byte) (s : State) : standing (macControl p frame s) = standing s := by
  simp only [macControl, standing_countGood, standing_pfcReceive, standing_pauseReceive, apply_ite standing, ite_self]

theorem standing_startParse (i : Nat) (s : State) : standing (startParse i s) = standing s := by
  simp only [startParse, standing_countPipe, standing_setPkt, standing_mk, unitsStanding_units]

theorem standing_parseReadCmd (c : Cmd) (s : State) : standing (parseReadCmd c s).1 = standing s := by
  simp only [parseReadCmd, standing_report, standing_fail, standing_clearUpset, apply_ite standing, ite_self, standing_foldl,
    implies_true, apply_ite Prod.fst]

theorem standing_dequeue (p q i : Nat) (ets : Bool) (s : State) : standing (dequeue p q i ets s) = standing s := by
  simp only [dequeue, standing_countQueue, standing_modPort, standing_setPkt, standing_leaveQueue, standing_setShaper, standing_stepTags,
    standing_mk, unitsStanding_units, apply_ite standing, ite_self]

theorem standing_meetShaper (k : Nat) (s : State) : standing (meetShaper k s) = standing s := by
  simp only [meetShaper]
  split <;> simp only [standing_clearUpset, standing_setShaper, standing_tmFault]

theorem standing_meetShapers (panel : Nat) (s : State) : standing (meetShapers panel s) = standing s := by
  simp only [meetShapers, standing_meetShaper, standing_foldl, implies_true]

theorem standing_writeGroupCfg (g v : Nat) (s : State) : standing (writeGroupCfg g v s) = standing s := by
  simp only [writeGroupCfg, standing_wrRw, standing_wrFld, standing_modGrp, standing_sendOverhead, standing_grpTo, standing_grpTryAlign,
    apply_ite standing, ite_self]

theorem standing_instLost (g : Nat) (s : State) : standing (instLost g s) = standing s := by
  simp only [instLost, standing_modGrp, standing_grpTo, apply_ite standing, ite_self]

theorem standing_omfMiss (g i : Nat) (x : Inst) (s : State) : standing (omfMiss g i x s) = standing s := by
  simp only [omfMiss, standing_setInst, standing_instLost, apply_ite standing, ite_self]

theorem standing_answerCa (g : Nat) (s : State) : standing (answerCa g s) = standing s := by
  simp only [answerCa, standing_setGrp, standing_sendOverhead, apply_ite standing, ite_self]

theorem standing_labelAlarms (g : Nat) (s : State) : standing (labelAlarms g s) = standing s := by
  simp only [labelAlarms, standing_showAlarms, standing_grpTo, apply_ite standing, ite_self]

theorem standing_slotClientSetCmd (c : Cmd) (s : State) : standing (slotClientSetCmd c s).1 = standing s := by
  simp only [slotClientSetCmd, standing_fail, standing_okay, standing_setClient, standing_clientTo, standing_applyCals,
    apply_ite standing, ite_self, apply_ite Prod.fst]

theorem standing_slotCmWriteCmd (c : Cmd) (host : HostAns) (s : State) : standing (slotCmWriteCmd c host s).1 = standing s := by
  refine standing_ite_fst rfl (standing_ite_fst rfl (standing_withHost c host (fun b => standing_ite_fst rfl ?_) rfl))
  simp only [standing_okay, standing_sendOverhead, standing_mk, unitsStanding_units, standing_foldl, standing_clearUpset, implies_true]

theorem standing_slotCalSwitchCmd (c : Cmd) (s : State) : standing (slotCalSwitchCmd c s).1 = standing s := by
  unfold slotCalSwitchCmd
  dsimp only
  repeat' split
  all_goals simp only [standing_fail, standing_setGrp, standing_sendOverhead]

theorem standing_slotPmReadCmd (c : Cmd) (s : State) : standing (slotPmReadCmd c s).1 = standing s := by
  simp only [slotPmReadCmd, standing_report, standing_fail, standing_okayData, apply_ite standing, ite_self, apply_ite Prod.fst]

theorem standing_snapshot (k at_ flags periods : Nat) (s : State) : standing (snapshot k at_ flags periods s) = standing s := by
  simp only [snapshot, standing_foldBank, standing_setSet, standing_foldl, implies_true]

theorem standing_ctrReadCmd (c : Cmd) (s : State) : standing (ctrReadCmd c s).1 = standing s := by
  simp only [ctrReadCmd, standing_fail, standing_okayData, standing_meetCtr, apply_ite standing, ite_self, standing_foldl, implies_true,
    apply_ite Prod.fst]

theorem standing_ctrDumpNowCmd (c : Cmd) (s : State) : standing (ctrDumpNowCmd c s).1 = standing s := by
  simp only [ctrDumpNowCmd, standing_fail, standing_okay, standing_snapshot, apply_ite standing, ite_self, apply_ite Prod.fst]

/-- Neither the write of a register nor what a read of it clears moves a unit. -/
def RegStands (r : BarReg) : Prop :=
  (∀ n v s, standing (r.write n v s) = standing s) ∧ ∀ n s, standing (r.clear n s) = standing s

theorem regStands_sys : ∀ r ∈ sysRegs, RegStands r := by
  simp only [sysRegs, standing_wrRw, standing_writeHostBoot, standing_writeSysDrain, List.forall_mem_cons, List.not_mem_nil, RegStands,
    roReg, standing_mk, unitsStanding_units, implies_true, and_true, IsEmpty.forall_iff]

theorem regStands_hif : ∀ r ∈ hifRegs, RegStands r := by
  simp only [hifRegs, standing_wrRw, standing_writeRingCfg, standing_writeRingBase, standing_summaryGo, standing_restartChan,
    standing_writeMsix, List.forall_mem_cons, List.not_mem_nil, RegStands, roReg, apply_ite standing, ite_self, implies_true, and_true,
    IsEmpty.forall_iff]

theorem regStands_lan : ∀ r ∈ lanRegs, RegStands r := by
  simp only [lanRegs, standing_wrRw, standing_writeMacroCfg, standing_writeLaneCfg, standing_writeTxffe, standing_writeLaneRx,
    List.forall_mem_cons, List.not_mem_nil, RegStands, roReg, implies_true, and_true, IsEmpty.forall_iff]

theorem regStands_mac : ∀ r ∈ macRegs, RegStands r := by
  simp only [macRegs, standing_wrRw, standing_evalFc, standing_writeMacroMode, standing_setPortErr, standing_writePortCfg,
    standing_writePfcRefresh, standing_writePfcWd, standing_writeGateCfg, standing_writeWatermark, List.forall_mem_cons, List.not_mem_nil,
    RegStands, roReg, portReg, plainPort, levelReg, apply_ite standing, ite_self, implies_true, and_true, IsEmpty.forall_iff]

theorem regStands_slt : ∀ r ∈ sltRegs, RegStands r := by
  simp only [sltRegs, standing_wrRw, standing_writeGroupCfg, standing_writeGroupBase, List.forall_mem_cons, List.not_mem_nil, RegStands,
    roReg, implies_true, and_true, IsEmpty.forall_iff]

theorem regStands_pipe : ∀ r ∈ pipeRegs, RegStands r := by
  simp only [pipeRegs, standing_wrRw, standing_clearPeak, standing_writeParseCfg, List.forall_mem_cons, List.not_mem_nil, RegStands,
    implies_true, and_true, IsEmpty.forall_iff]

theorem regStands_tbl : ∀ r ∈ tblRegs, RegStands r := by
  simp only [tblRegs, standing_wrRw, standing_writeTblCtrl, standing_writeSeed, standing_writeTcamMode, standing_writeTypeCfg,
    standing_writeLearnCfg, standing_writeShadowCfg, standing_writeArCfg, standing_writeShadowLen, List.forall_mem_cons, List.not_mem_nil,
    RegStands, implies_true, and_true, IsEmpty.forall_iff]

theorem regStands_buf : ∀ r ∈ bufRegs, RegStands r := by
  simp only [bufRegs, standing_wrRw, standing_bufErr, standing_writePart, standing_writeRegion, standing_writeBufCtrl,
    List.forall_mem_cons, List.not_mem_nil, RegStands, roReg, partReg, implies_true, and_true, IsEmpty.forall_iff]

theorem regStands_col : ∀ r ∈ colRegs, RegStands r := by
  simp only [colRegs, standing_wrRw, standing_modPool, standing_modEng, standing_writeColCfg, standing_poolCtrlWrite,
    standing_writePoolCfg, standing_writeColCtrl, List.forall_mem_cons, List.not_mem_nil, RegStands, roReg, apply_ite standing, ite_self,
    implies_true, and_true, IsEmpty.forall_iff]

theorem regStands_mem : ∀ r ∈ memRegs, RegStands r := by
  simp only [memRegs, standing_wrRw, standing_setMChan, standing_setTb, standing_writeTimCtrl, standing_writePpsOut, standing_writePpsOfs,
    standing_writeMemCtrl, standing_tbWatch, standing_writeTb, standing_writeGauzeCfg, standing_writeTelCtrl, standing_writeGauzeBase,
    List.forall_mem_cons, List.not_mem_nil, RegStands, roReg, apply_ite standing, ite_self, implies_true, and_true, IsEmpty.forall_iff]

theorem regStands_flt : ∀ r ∈ fltRegs, RegStands r := by
  simp only [fltRegs, standing_wrRw, standing_writePwrLimit, standing_writePwrCtrl, standing_writePwrVr, standing_writePwrPolicy,
    standing_writePwrTherm, standing_writePwrDroop, standing_writeClassCfg, List.forall_mem_cons, List.not_mem_nil, RegStands, roReg,
    implies_true, and_true, IsEmpty.forall_iff]

theorem regStands_window {a : Nat} {r : BarReg} (h : r ∈ windowRegs a) : RegStands r := by
  unfold windowRegs at h
  split at h
  · exact regStands_sys r h
  split at h
  · exact regStands_hif r h
  split at h
  · exact regStands_lan r h
  split at h
  · exact regStands_mac r h
  split at h
  · exact regStands_slt r h
  split at h
  · exact regStands_pipe r h
  split at h
  · exact regStands_tbl r h
  split at h
  · exact regStands_buf r h
  split at h
  · exact regStands_col r h
  split at h
  · exact regStands_mem r h
  split at h
  · exact regStands_flt r h
  cases h

theorem regStands_findReg {a n w : Nat} {r : BarReg} (h : findReg a = some (r, n, w)) : RegStands r := by
  obtain ⟨x, hx, he⟩ := List.exists_of_findSome?_eq_some h
  obtain ⟨y, _, hy⟩ := Option.map_eq_some_iff.mp he
  cases hy
  exact regStands_window hx

theorem standing_barWrite (a : Nat) (v : Word) (s : State) : standing (barWrite a v s) = standing s := by
  unfold barWrite
  split
  · rfl
  · rename_i h
    obtain ⟨hw, _⟩ := regStands_findReg h
    exact standing_ite (hw ..) (standing_ite (standing_ite rfl rfl) (hw ..))

theorem standing_barRead (a : Nat) (s : State) : standing (barRead a s).2 = standing s := by
  unfold barRead
  split
  · rfl
  · rename_i h
    obtain ⟨_, hc⟩ := regStands_findReg h
    refine standing_ite_snd (hc ..) (standing_ite_snd rfl ?_)
    split <;> rfl

theorem standing_readAt (addr : Nat) (s : State) : standing (readAt addr s) = standing s := by
  simp only [readAt, standing_emit, standing_barRead, apply_ite standing, ite_self]

theorem standing_writeAt (addr size : Nat) (v : Word) (s : State) : standing (writeAt addr size v s) = standing s := by
  simp only [writeAt, standing_ringDoorbell, standing_barWrite, apply_ite standing, ite_self]

end Sys2Proof.Machine
end

section
/-! PROOFS. The rows of the queue that only report leave the units where they stand. -/
namespace Sys2Proof.Machine

theorem stays_macroEnable (m : Nat) (value : Word) (s : State) : Stays s (execMacroEnable m value s) := by
  simp only [execMacroEnable, stays_within, whenOpen, standing_writeMacroCfg, apply_ite standing, ite_self, implies_true]

theorem stays_macroDisable (m : Nat) (value : Word) (s : State) : Stays s (execMacroDisable m value s) := by
  simp only [execMacroDisable, stays_within, whenOpen, standing_writeMacroCfg, apply_ite standing, ite_self, implies_true]

theorem stays_macroRateChange (m : Nat) (value : Word) (s : State) : Stays s (execMacroRateChange m value s) := by
  simp only [execMacroRateChange, stays_within, whenOpen, standing_writeMacroCfg, apply_ite standing, ite_self, implies_true]

theorem stays_calibrationDone (lane : Nat) (inRange signal : Bool) (s : State) : Stays s (execCalibrationDone lane inRange signal s) := by
  simp only [execCalibrationDone, stays_within, standing_report, standing_setLane, standing_laneStart, apply_ite standing, ite_self,
    implies_true]

theorem stays_negotiationComplete (lane : Nat) (partner : List AnAbility) (s : State) : Stays s (execNegotiationComplete lane partner s)
    := by
  simp only [execNegotiationComplete, stays_within, standing_setLane, standing_countFail, standing_failOthers, apply_ite standing,
    ite_self, implies_true]

theorem stays_anTimeout (lane : Nat) (s : State) : Stays s (execAnTimeout lane s) := by
  simp only [execAnTimeout, stays_within, standing_trainFail, apply_ite standing, ite_self, implies_true]

theorem stays_receiversReady (lane : Nat) (m : RxMeasure) (s : State) : Stays s (execReceiversReady lane m s) := by
  simp only [execReceiversReady, stays_within, standing_setLane, standing_laneToData, standing_trainFail, apply_ite standing, ite_self,
    implies_true]

theorem stays_trainTimeout (lane : Nat) (atLimit : Bool) (s : State) : Stays s (execTrainTimeout lane atLimit s) := by
  simp only [execTrainTimeout, stays_within, standing_trainFail, apply_ite standing, ite_self, implies_true]

theorem stays_adaptationConverged (lane : Nat) (m : RxMeasure) (s : State) : Stays s (execAdaptationConverged lane m s) := by
  simp only [execAdaptationConverged, stays_within, standing_setLane, standing_laneToData, apply_ite standing, ite_self, implies_true]

theorem stays_adaptTimeout (lane : Nat) (s : State) : Stays s (execAdaptTimeout lane s) := by
  simp only [execAdaptTimeout, stays_within, standing_trainFail, apply_ite standing, ite_self, implies_true]

theorem stays_laneLoss (lane : Nat) (cdr : Bool) (s : State) : Stays s (execLaneLoss lane cdr s) := by
  simp only [execLaneLoss, stays_within, standing_modLane, standing_laneToCal, standing_leaveData, apply_ite standing, ite_self,
    implies_true]

theorem stays_laneGroupClockLock (group : Nat) (ok : Bool) (s : State) : Stays s (execLaneGroupClockLock group ok s) := by
  simp only [execLaneGroupClockLock, stays_within, standing_report, standing_groupClk, apply_ite standing, ite_self, implies_true]

theorem stays_wakeDeclared (port : Nat) (s : State) : Stays s (execWakeDeclared port s) := by
  simp only [execWakeDeclared, stays_within, standing_wakePort, implies_true]

theorem stays_wakeSnrOk (lane : Nat) (m : RxMeasure) (s : State) : Stays s (execWakeSnrOk lane m s) := by
  simp only [execWakeSnrOk, stays_within, standing_laneToData, apply_ite standing, ite_self, implies_true]

theorem stays_wakeTimeout (lane : Nat) (partnerTrained : Bool) (s : State) : Stays s (execWakeTimeout lane partnerTrained s) := by
  simp only [execWakeTimeout, stays_within, standing_takeFree, standing_post, standing_modLane, standing_laneToCal, standing_portLaneLost,
    apply_ite standing, ite_self, implies_true, apply_ite Prod.fst, apply_ite Prod.snd]

theorem stays_laneRetrain (ref : CmdRef) (s : State) : Stays s (execLaneRetrain ref s) := by
  simp only [execLaneRetrain, stays_next, standing_runCmd, standing_laneRetrainCmd, implies_true]

theorem stays_laneTest (ref : CmdRef) (s : State) : Stays s (execLaneTest ref s) := by
  simp only [execLaneTest, stays_next, standing_runCmd, standing_laneTestCmd, implies_true]

theorem stays_layoutChange (m : Nat) (value : Word) (s : State) : Stays s (execLayoutChange m value s) := by
  simp only [execLayoutChange, stays_within, whenOpen, standing_writeMacroMode, apply_ite standing, ite_self, implies_true]

theorem stays_pfcFrameReceive (port : Nat) (enable : Byte) (times : List Nat) (fcsOk : Bool) (s : State) : Stays s (execPfcFrameReceive
    port enable times fcsOk s) := by
  simp only [execPfcFrameReceive, stays_within, standing_countPort, standing_countGood, standing_pfcReceive, apply_ite standing, ite_self,
    implies_true]

theorem stays_pauseFrameReceive (port time : Nat) (fcsOk : Bool) (s : State) : Stays s (execPauseFrameReceive port time fcsOk s) := by
  simp only [execPauseFrameReceive, stays_within, standing_countPort, standing_countGood, standing_pauseReceive, apply_ite standing,
    ite_self, implies_true]

theorem stays_pfcFrameSend (port : Nat) (s : State) : Stays s (execPfcFrameSend port s) := by
  simp only [execPfcFrameSend, stays_within, standing_emit, standing_countPort, standing_modPort, apply_ite standing, ite_self,
    standing_foldl, implies_true]

theorem stays_blockLock (port : Nat) (ev : LockEv) (s : State) : Stays s (execBlockLock port ev s) := by
  simp only [execBlockLock, stays_within]
  split <;> simp only [standing_portAligned, standing_feedHeaders, apply_ite standing, ite_self, implies_true]

theorem stays_lockLoss (port : Nat) (ev : LossEv) (s : State) : Stays s (execLockLoss port ev s) := by
  refine stays_within.mpr fun _ => standing_ite rfl ?_
  split
  · exact standing_ite (standing_feedHeaders ..) rfl
  · exact standing_lockLost ..
  · exact standing_lockLost ..

theorem stays_hiBer (port invalid : Nat) (s : State) : Stays s (execHiBer port invalid s) := by
  simp only [execHiBer, stays_within, standing_setPort, standing_portDown, standing_tryLinking, apply_ite standing, ite_self, implies_true]

theorem stays_upDebounce (port : Nat) (s : State) : Stays s (execUpDebounce port s) := by
  simp only [execUpDebounce, stays_within, standing_portUp, apply_ite standing, ite_self, implies_true]

theorem stays_remoteFault (port : Nat) (seq : FaultSeq) (s : State) : Stays s (execRemoteFault port seq s) := by
  simp only [execRemoteFault, stays_within]
  split <;> simp only [standing_modPort, standing_settleFault, standing_portDown, standing_tryLinking, apply_ite standing, ite_self,
    implies_true]

theorem stays_fecWindow (port : Nat) (codewords : List Nat) (s : State) : Stays s (execFecWindow port codewords s) := by
  simp only [execFecWindow, stays_within, standing_post, standing_countPort, standing_setPort, standing_modPort, standing_portDown,
    standing_tryLinking, apply_ite standing, ite_self, implies_true]

theorem stays_gateTransition (port : Nat) (s : State) : Stays s (execGateTransition port s) := by
  simp only [execGateTransition, stays_within, standing_gateFails, standing_gateTake, apply_ite standing, ite_self, implies_true]

theorem stays_sleepEntry (port : Nat) (s : State) : Stays s (execSleepEntry port s) := by
  simp only [execSleepEntry, stays_within, standing_enterSleep, apply_ite standing, ite_self, implies_true]

theorem stays_portAdmin (ref : CmdRef) (s : State) : Stays s (execPortAdmin ref s) := by
  simp only [execPortAdmin, stays_next, standing_runCmd, standing_portAdminCmd, implies_true]

theorem stays_admission (pkt : Nat) (s : State) : Stays s (execAdmission pkt s) := by
  simp only [execAdmission, stays_next, standing_checkTag, standing_admitPkt, apply_ite standing, ite_self]

theorem stays_remainingCells (pkt : Nat) (more : List Byte) (s : State) : Stays s (execRemainingCells pkt more s) := by
  simp only [execRemainingCells, stays_next, standing_setArriving, standing_frameGrows, apply_ite standing, ite_self]

theorem stays_frameEnd (pkt : Nat) (rest : List Byte) (codewords : List Nat) (s : State) : Stays s (execFrameEnd pkt rest codewords s) := by
  unfold execFrameEnd
  dsimp only
  repeat' split
  all_goals simp only [stays_next, standing_countPort, standing_setArriving, standing_countGood, standing_frameRest, standing_foldl,
    implies_true]

theorem stays_replication (panel pkt : Nat) (s : State) : Stays s (execReplication panel pkt s) := by
  simp only [execReplication, stays_within, standing_modPkt, standing_endPkt, standing_walkGroup, apply_ite standing, ite_self,
    implies_true]

theorem stays_queueFlush (port : Nat) (s : State) : Stays s (execQueueFlush port s) := by
  simp only [execQueueFlush, stays_within, standing_flushPort, implies_true]

theorem stays_pfcWatchdog (port cls : Nat) (s : State) : Stays s (execPfcWatchdog port cls s) := by
  simp only [execPfcWatchdog, stays_within, standing_post, standing_report, standing_countPort, standing_modPort, standing_modQ,
    standing_dropQueued, apply_ite standing, ite_self, standing_foldl, implies_true]

theorem stays_spillAssemblyTimeout (queue : Nat) (s : State) : Stays s (execSpillAssemblyTimeout queue s) := by
  simp only [execSpillAssemblyTimeout, stays_within, standing_modQ, standing_settle, implies_true]

theorem stays_readbackStart (queue : Nat) (s : State) : Stays s (execReadbackStart queue s) := by
  simp only [execReadbackStart, stays_within]
  split <;> simp only [standing_setQ, standing_chanUsed, standing_closeRun, standing_settle, standing_passLost, standing_takeAssembly,
    standing_mk, unitsStanding_units, apply_ite standing, ite_self, implies_true]

theorem stays_blockReadDone (queue : Nat) (ok : Bool) (s : State) : Stays s (execBlockReadDone queue ok s) := by
  simp only [execBlockReadDone, stays_within]
  split <;> simp only [standing_report, standing_modQ, standing_burlapScan, standing_closeRun, standing_runStep, standing_loseUnits,
    apply_ite standing, ite_self, implies_true]

theorem stays_ppsInMissing (s : State) : Stays s (execPpsInMissing s) := by
  simp only [execPpsInMissing, stays_next, standing_post, standing_report, apply_ite standing, ite_self]

theorem stays_todMessage (msg : List Byte) (s : State) : Stays s (execTodMessage msg s) := by
  simp only [execTodMessage, stays_next, standing_post, standing_report, apply_ite standing, ite_self]

theorem stays_ingressStages (pkt : Nat) (s : State) : Stays s (execIngressStages pkt s) := by
  simp only [execIngressStages, stays_next, standing_checkTag, standing_checkKey, standing_ingress, apply_ite standing, ite_self]

theorem stays_emInsert (ref : CmdRef) (s : State) : Stays s (execEmInsert ref s) := by
  simp only [execEmInsert, stays_next, standing_runCmd, standing_tableCmd, standing_emInsertCmd, implies_true]

theorem stays_emDelete (ref : CmdRef) (s : State) : Stays s (execEmDelete ref s) := by
  simp only [execEmDelete, stays_next, standing_runCmd, standing_tableCmd, standing_emDeleteCmd, implies_true]

theorem stays_emLookup (ref : CmdRef) (s : State) : Stays s (execEmLookup ref s) := by
  simp only [execEmLookup, stays_next, standing_runCmd, standing_tableCmd, standing_emLookupCmd, implies_true]

theorem stays_lpmLookup (ref : CmdRef) (s : State) : Stays s (execLpmLookup ref s) := by
  simp only [execLpmLookup, stays_next, standing_runCmd, standing_tableCmd, standing_lpmLookupCmd, implies_true]

theorem stays_ecmpRead (ref : CmdRef) (s : State) : Stays s (execEcmpRead ref s) := by
  simp only [execEcmpRead, stays_next, standing_runCmd, standing_tableCmd, standing_ecmpReadCmd, implies_true]

theorem stays_shadowCheck (ref : CmdRef) (host : HostAns) (s : State) : Stays s (execShadowCheck ref host s) := by
  simp only [execShadowCheck, stays_next, standing_runCmd, standing_shadowCheckCmd, implies_true]

theorem stays_editWrite (ref : CmdRef) (host : HostAns) (s : State) : Stays s (execEditWrite ref host s) := by
  simp only [execEditWrite, stays_next, standing_runCmd, standing_editWriteCmd, implies_true]

theorem stays_mcastWrite (ref : CmdRef) (host : HostAns) (s : State) : Stays s (execMcastWrite ref host s) := by
  simp only [execMcastWrite, stays_next, standing_runCmd, standing_mcastWriteCmd, implies_true]

theorem stays_mirrorWrite (ref : CmdRef) (s : State) : Stays s (execMirrorWrite ref s) := by
  simp only [execMirrorWrite, stays_next, standing_runCmd, standing_mirrorWriteCmd, implies_true]

theorem stays_egressWrite (ref : CmdRef) (host : HostAns) (s : State) : Stays s (execEgressWrite ref host s) := by
  simp only [execEgressWrite, stays_next, standing_runCmd, standing_egressWriteCmd, implies_true]

theorem stays_ringEnable (ring : Nat) (value : Word) (s : State) : Stays s (execRingEnable ring value s) := by
  simp only [execRingEnable, stays_within, whenOpen, standing_writeRingCfg, apply_ite standing, ite_self, implies_true]

theorem stays_ringDisable (ring : Nat) (value : Word) (s : State) : Stays s (execRingDisable ring value s) := by
  simp only [execRingDisable, stays_within, whenOpen, standing_writeRingCfg, apply_ite standing, ite_self, implies_true]

theorem stays_lateError (ch : Nat) (desc : DescRef) (status : Byte) (s : State) : Stays s (execLateError ch desc status s) := by
  simp only [execLateError, stays_within, whenOpen, standing_setChan, standing_lateError, apply_ite standing, ite_self, implies_true]

theorem stays_puntBufferWrite (ring : Nat) (descs : List (List Byte)) (s : State) : Stays s (execPuntBufferWrite ring descs s) := by
  simp only [execPuntBufferWrite, stays_within, standing_puntBuffer, standing_dropSpoilt, standing_foldl, implies_true]

theorem stays_hostLinkChange (gen width : Nat) (flit : Bool) (s : State) : Stays s (execHostLinkChange gen width flit s) := by
  simp only [execHostLinkChange, stays_next, standing_post, standing_report, standing_mk, unitsStanding_units, apply_ite standing, ite_self]

theorem stays_hostLinkDown (s : State) : Stays s (execHostLinkDown s) := by
  simp only [execHostLinkDown, stays_next, standing_report, standing_mk, unitsStanding_units, apply_ite standing, ite_self]

theorem stays_perstNAssert (s : State) : Stays s (execPerstNAssert s) := by
  simp only [execPerstNAssert, stays_next, standing_perstReset, standing_mk, unitsStanding_units, apply_ite standing, ite_self]

theorem stays_channelTrainingDone (ch : Nat) (t : TrainRes) (s : State) : Stays s (execChannelTrainingDone ch t s) := by
  simp only [execChannelTrainingDone, stays_within, standing_trainingDone, implies_true]

theorem stays_scrubRead (ch row : Nat) (link : LinkFound) (s : State) : Stays s (execScrubRead ch row link s) := by
  unfold execScrubRead
  dsimp only
  repeat' split
  all_goals simp only [stays_within, standing_report, standing_burlapScan, standing_linkSeen, standing_foldl, implies_true]

theorem stays_powerSample (m : PowerMeasure) (s : State) : Stays s (execPowerSample m s) := by
  simp only [execPowerSample, stays_next, fromWipe, standing_powerSample, apply_ite standing, ite_self]

theorem stays_pmbusRead (answers : List VrAnswer) (s : State) : Stays s (execPmbusRead answers s) := by
  simp only [execPmbusRead, stays_next, fromWipe, standing_takeVr, apply_ite standing, ite_self, standing_foldl, implies_true]

theorem stays_droopReturn (domain : Nat) (s : State) : Stays s (execDroopReturn domain s) := by
  simp only [execDroopReturn, stays_within]
  split <;> simp only [standing_post, standing_report, standing_modDom, implies_true]

theorem stays_vrAlert (ball : Nat) (status : List VrAnswer) (s : State) : Stays s (execVrAlert ball status s) := by
  simp only [execVrAlert, stays_within, fromWipe, standing_vrAlert, apply_ite standing, ite_self, implies_true]

theorem stays_vrAlertClear (s : State) : Stays s (execVrAlertClear s) := by
  simp only [execVrAlertClear, stays_next, standing_ceilingsMoved, standing_mk, unitsStanding_units]

theorem stays_sensorRead (temps : List (Option Int)) (s : State) : Stays s (execSensorRead temps s) := by
  simp only [execSensorRead, stays_next, fromWipe, standing_sensorRead, apply_ite standing, ite_self]

theorem stays_thermalRecovery (die : Nat) (s : State) : Stays s (execThermalRecovery die s) := by
  simp only [execThermalRecovery, stays_within, fromWipe, standing_thermalRecovery, apply_ite standing, ite_self, implies_true]

theorem stays_domainPowerDownDone (domain : Nat) (s : State) : Stays s (execDomainPowerDownDone domain s) := by
  simp only [execDomainPowerDownDone, stays_within, standing_powerDownDone, implies_true]

theorem stays_pwrDomain (ref : CmdRef) (s : State) : Stays s (execPwrDomain ref s) := by
  simp only [execPwrDomain, stays_next, standing_runCmd, standing_pwrDomainCmd, implies_true]

theorem stays_tbEnable (tb : Nat) (value : Word) (s : State) : Stays s (execTbEnable tb value s) := by
  simp only [execTbEnable, stays_within, whenOpen, standing_writeTb, apply_ite standing, ite_self, implies_true]

theorem stays_tbDisable (tb : Nat) (value : Word) (s : State) : Stays s (execTbDisable tb value s) := by
  simp only [execTbDisable, stays_within, whenOpen, standing_writeTb, apply_ite standing, ite_self, implies_true]

theorem stays_slewDisable (tb : Nat) (value : Word) (s : State) : Stays s (execSlewDisable tb value s) := by
  simp only [execSlewDisable, stays_within, whenOpen, standing_writeTb, apply_ite standing, ite_self, implies_true]

theorem stays_clk10Loss (ratio : Nat) (s : State) : Stays s (execClk10Loss ratio s) := by
  simp only [execClk10Loss, stays_next, standing_report, standing_setTb, standing_setTbState, standing_tbWatch, apply_ite standing,
    ite_self, standing_foldl, implies_true]

theorem stays_holdoverExit (tb : Nat) (s : State) : Stays s (execHoldoverExit tb s) := by
  simp only [execHoldoverExit, stays_within, standing_setTbState, standing_tbWatch, apply_ite standing, ite_self, implies_true]

theorem stays_timeSet (ref : CmdRef) (s : State) : Stays s (execTimeSet ref s) := by
  simp only [execTimeSet, stays_next, standing_runCmd, standing_timeSetCmd, implies_true]

theorem stays_timeAdjust (ref : CmdRef) (s : State) : Stays s (execTimeAdjust ref s) := by
  simp only [execTimeAdjust, stays_next, standing_runCmd, standing_timeAdjustCmd, implies_true]

theorem stays_clockMonitorWindow (clock : Nat) (found : ClockFound) (s : State) : Stays s (execClockMonitorWindow clock found s) := by
  simp only [execClockMonitorWindow, stays_within, standing_report, apply_ite standing, ite_self, implies_true]

theorem stays_diagTest (ref : CmdRef) (passed : Bool) (s : State) : Stays s (execDiagTest ref passed s) := by
  simp only [execDiagTest, stays_next, standing_runCmd, standing_diagTestCmd, implies_true]

theorem stays_seqWord (engine : Nat) (s : State) : Stays s (execSeqWord engine s) := by
  refine stays_within.mpr fun _ => standing_ite rfl ?_
  split
  · rfl
  · exact standing_seqIssue ..

theorem stays_waitTimeout (engine ctx : Nat) (s : State) : Stays s (execWaitTimeout engine ctx s) := by
  simp only [execWaitTimeout, stays_within, standing_seqTrap, apply_ite standing, ite_self, implies_true]

theorem stays_blockOpDone (engine ctx : Nat) (res : BlockRes) (s : State) : Stays s (execBlockOpDone engine ctx res s) := by
  simp only [execBlockOpDone, stays_within, standing_blockDone, apply_ite standing, ite_self, implies_true]

theorem stays_storeRepair (block : Nat) (s : State) : Stays s (execStoreRepair block s) := by
  simp only [execStoreRepair, stays_within, standing_report, standing_clearUpset, standing_setCtx, standing_mk, unitsStanding_units,
    apply_ite standing, ite_self, standing_foldl, implies_true]

theorem stays_noIssueTimeout (engine : Nat) (s : State) : Stays s (execNoIssueTimeout engine s) := by
  simp only [execNoIssueTimeout, stays_within, standing_report, apply_ite standing, ite_self, implies_true]

theorem stays_seqLoad (ref : CmdRef) (host : HostAns) (s : State) : Stays s (execSeqLoad ref host s) := by
  simp only [execSeqLoad, stays_next, standing_runCmd, standing_seqLoadCmd, implies_true]

theorem stays_seqFrameRead (ref : CmdRef) (s : State) : Stays s (execSeqFrameRead ref s) := by
  simp only [execSeqFrameRead, stays_next, standing_runCmd, standing_seqFrameReadCmd, implies_true]

theorem stays_seqResume (ref : CmdRef) (s : State) : Stays s (execSeqResume ref s) := by
  simp only [execSeqResume, stays_next, standing_runCmd, standing_seqResumeCmd, implies_true]

theorem stays_seqStoreRead (ref : CmdRef) (s : State) : Stays s (execSeqStoreRead ref s) := by
  simp only [execSeqStoreRead, stays_next, standing_runCmd, standing_seqStoreReadCmd, implies_true]

theorem stays_bootImageAccepted (slotA slotB : List Byte) (s : State) : Stays s (execBootImageAccepted slotA slotB s) := by
  simp only [execBootImageAccepted, stays_next, standing_bootFrom, apply_ite standing, ite_self]

theorem stays_noAcceptableImage (s : State) : Stays s (execNoAcceptableImage s) := by
  simp only [execNoAcceptableImage, stays_next, standing_report, standing_mk, unitsStanding_units, apply_ite standing, ite_self]

theorem stays_hostImageChecked (image : List Byte) (s : State) : Stays s (execHostImageChecked image s) := by
  unfold execHostImageChecked
  dsimp only
  repeat' split
  all_goals simp only [stays_next, standing_report, standing_loadImage, standing_mk, unitsStanding_units]

theorem stays_resetNRelease (straps : Nat) (good : Bool) (s : State) : Stays s (execResetNRelease straps good s) := by
  simp only [execResetNRelease, stays_next, standing_report, standing_powerAll, standing_enterLockdown, standing_startTraining,
    standing_mk, unitsStanding_units, apply_ite standing, ite_self]

theorem stays_thermalTrip (sensor : Nat) (s : State) : Stays s (execThermalTrip sensor s) := by
  simp only [execThermalTrip, stays_within, standing_emit, standing_report, standing_enterLockdown, standing_mk, unitsStanding_units,
    apply_ite standing, ite_self, implies_true]

theorem stays_drainLimit (s : State) : Stays s (execDrainLimit s) := by
  simp only [execDrainLimit, stays_next, standing_flushQueue, standing_endDrainMode, apply_ite standing, ite_self, standing_foldl,
    implies_true]

theorem stays_modeSet (ref : CmdRef) (s : State) : Stays s (execModeSet ref s) := by
  simp only [execModeSet, stays_next, standing_runCmd, standing_modeSetCmd, implies_true]

theorem stays_tapInstruction (code : Byte) (scan : TapScan) (s : State) : Stays s (execTapInstruction code scan s) := by
  simp only [execTapInstruction, stays_next, standing_report, standing_driveBalls, standing_tapPass, standing_mk, unitsStanding_units,
    apply_ite standing, ite_self]

theorem stays_contrib (cluster : Nat) (s : State) : Stays s (execContrib cluster s) := by
  refine stays_within.mpr fun _ => standing_takeMsg _ _ _ (fun p u => standing_ite ?_ ?_) s
  · split
    · exact (standing_ovfDrop ..).trans (standing_flagChild ..)
    · exact (standing_setJob ..).trans (standing_flagChild ..)
  · exact (standing_contribSlot ..).trans (standing_flagChild ..)

theorem stays_result (cluster : Nat) (s : State) : Stays s (execResult cluster s) := by
  simp only [execResult, stays_within, standing_retain, standing_takeMsg, apply_ite standing, ite_self, implies_true]

theorem stays_resend (cluster : Nat) (s : State) : Stays s (execResend cluster s) := by
  refine stays_within.mpr fun _ => standing_takeMsg _ _ _ (fun p u => ?_) s
  split
  · exact standing_sendPartial ..
  · exact standing_sendPartial ..
  · rfl
  · exact standing_sendWait ..

theorem stays_resultReq (cluster : Nat) (s : State) : Stays s (execResultReq cluster s) := by
  refine stays_within.mpr fun _ => standing_takeMsg _ _ _ (fun p u => Eq.trans ?_ (standing_flagChild p u)) s
  dsimp only
  split
  · exact standing_sendChild ..
  · exact standing_ite rfl (standing_sendResends ..)
  · exact standing_ite rfl (standing_sendResends ..)
  · rfl

theorem stays_wait (cluster : Nat) (s : State) : Stays s (execWait cluster s) := by
  simp only [execWait, stays_within, standing_setSlot, standing_takeMsg, standing_flagChild, apply_ite standing, ite_self, implies_true]

theorem stays_pace (cluster : Nat) (s : State) : Stays s (execPace cluster s) := by
  simp only [execPace, stays_within, standing_setJob, standing_takeMsg, apply_ite standing, ite_self, implies_true]

theorem stays_paceSet (cluster : Nat) (s : State) : Stays s (execPaceSet cluster s) := by
  simp only [execPaceSet, stays_within, standing_announce, standing_takeMsg, apply_ite standing, ite_self, implies_true]

theorem stays_straggler (cluster : Nat) (s : State) : Stays s (execStraggler cluster s) := by
  refine stays_within.mpr fun _ => standing_takeMsg _ _ _ (fun p u => ?_) s
  dsimp only
  split
  · exact standing_markChild ..
  · rfl

theorem stays_abort (cluster : Nat) (s : State) : Stays s (execAbort cluster s) := by
  simp only [execAbort, stays_within, standing_failJob, standing_takeMsg, implies_true]

theorem stays_slotTimerExpiry (job chunk : Nat) (s : State) : Stays s (execSlotTimerExpiry job chunk s) := by
  simp only [execSlotTimerExpiry, stays_within, standing_modJob, standing_setSlot, standing_sendResends, standing_failJob,
    standing_postRetry, apply_ite standing, ite_self, implies_true]

theorem stays_emittedTimerExpiry (job chunk : Nat) (s : State) : Stays s (execEmittedTimerExpiry job chunk s) := by
  simp only [execEmittedTimerExpiry, stays_within, standing_sendResultReq, apply_ite standing, ite_self, implies_true]

theorem stays_epochBoundary (job : Nat) (s : State) : Stays s (execEpochBoundary job s) := by
  refine stays_within.mpr fun _ => standing_ite rfl ?_
  have hp := (standing_applyPend job (epochNow (getJob job s) s) _).trans
    (standing_setJob job { getJob job s with lateMax := (getJob job s).late, late := 0 } s)
  simp only [apply_ite standing, standing_sendPace, standing_modJob, standing_lookCluster, standing_report, standing_countJob,
    standing_followGroup, standing_announce, standing_post, hp, ite_self]
  refine ite_eq_iff'.mpr ⟨fun _ => rfl, fun _ => ite_eq_iff'.mpr ⟨fun _ => rfl, fun _ => ?_⟩⟩
  split
  · exact (standing_sendDevices ..).trans hp
  · exact hp

theorem stays_clusterStepChangeDone (cluster : Nat) (s : State) : Stays s (execClusterStepChangeDone cluster s) := by
  simp only [execClusterStepChangeDone, stays_within]
  split <;> simp only [standing_setCluster, standing_railFollow, standing_lookCluster, standing_followGroup, apply_ite standing, ite_self,
    implies_true]

theorem stays_slotRestore (job chunk : Nat) (s : State) : Stays s (execSlotRestore job chunk s) := by
  simp only [execSlotRestore, stays_within, standing_report, standing_clearUpset, standing_setSlot, standing_sendResends,
    standing_ovfRead, standing_makeRoom, standing_takeContrib, standing_completeSlot, apply_ite standing, ite_self, standing_foldl,
    implies_true]

theorem stays_jobMoveDone (job : Nat) (s : State) : Stays s (execJobMoveDone job s) := by
  simp only [execJobMoveDone, stays_within, standing_post, standing_modJob, standing_setJobSt, standing_makeRoom, standing_takeLog,
    apply_ite standing, ite_self, implies_true]

theorem stays_colJobCreate (ref : CmdRef) (host : HostAns) (s : State) : Stays s (execColJobCreate ref host s) := by
  simp only [execColJobCreate, stays_next, standing_runCmd, standing_colJobCreateCmd, implies_true]

theorem stays_colJobDestroy (ref : CmdRef) (s : State) : Stays s (execColJobDestroy ref s) := by
  simp only [execColJobDestroy, stays_next, standing_runCmd, standing_colJobDestroyCmd, implies_true]

theorem stays_colPacePropose (ref : CmdRef) (s : State) : Stays s (execColPacePropose ref s) := by
  simp only [execColPacePropose, stays_next, standing_runCmd, standing_colPaceProposeCmd, implies_true]

theorem stays_egressStages (pkt : Nat) (txTotalNs : Nat) (s : State) : Stays s (execEgressStages pkt txTotalNs s) := by
  simp only [execEgressStages, stays_next, standing_checkTag, standing_readCells, standing_egress, apply_ite standing, ite_self]

theorem stays_transmitEnd (pkt : Nat) (s : State) : Stays s (execTransmitEnd pkt s) := by
  simp only [execTransmitEnd, stays_next, standing_emit, standing_countPort, standing_endPkt, standing_sendOver, apply_ite standing,
    ite_self]

theorem stays_bufferTestDone (handle : Nat) (ok : Bool) (s : State) : Stays s (execBufferTestDone handle ok s) := by
  simp only [execBufferTestDone, stays_next, standing_takeFree, standing_post, standing_report, standing_modPool, standing_setPBuf,
    standing_bufWrite, apply_ite standing, ite_self]

theorem stays_poolFree (ref : CmdRef) (s : State) : Stays s (execPoolFree ref s) := by
  simp only [execPoolFree, stays_next, standing_runCmd, standing_poolFreeCmd, implies_true]

theorem stays_poolTransfer (ref : CmdRef) (s : State) : Stays s (execPoolTransfer ref s) := by
  simp only [execPoolTransfer, stays_next, standing_runCmd, standing_poolTransferCmd, implies_true]

theorem stays_poolCopy (ref : CmdRef) (host : HostAns) (s : State) : Stays s (execPoolCopy ref host s) := by
  simp only [execPoolCopy, stays_next, standing_runCmdIn, standing_poolCopyCmd, implies_true]

theorem stays_frameReceive (port : Nat) (frame : List Byte) (codewords : List Nat) (inputFull : Bool) (s : State) : Stays s
    (execFrameReceive port frame codewords inputFull s) := by
  unfold execFrameReceive
  dsimp only
  repeat' split
  all_goals simp only [stays_within, standing_countPort, standing_newPkt, standing_countGood, standing_macControl, standing_throttleDrop,
    implies_true]

theorem stays_parseThreadAssign (src : ThreadSrc) (s : State) : Stays s (execParseThreadAssign src s) := by
  simp only [execParseThreadAssign]
  split <;> simp only [stays_next, stays_within, standing_setArriving, standing_newPkt, standing_startParse, apply_ite standing, ite_self,
    implies_true]

theorem stays_parseWord (pkt : Nat) (s : State) : Stays s (execParseWord pkt s) := by
  simp only [execParseWord, stays_next, standing_report, standing_clearUpset, standing_setPkt, standing_endParse, apply_ite standing,
    ite_self]

theorem stays_parseRead (ref : CmdRef) (s : State) : Stays s (execParseRead ref s) := by
  simp only [execParseRead, stays_next, standing_runCmd, standing_parseReadCmd, implies_true]

theorem stays_dequeueDecision (port : Nat) (s : State) : Stays s (execDequeueDecision port s) := by
  unfold execDequeueDecision
  dsimp only
  repeat' split
  all_goals simp only [stays_within, standing_flushPort, standing_lookPort, standing_dequeue, implies_true]

theorem stays_shaperTick (panel : Nat) (s : State) : Stays s (execShaperTick panel s) := by
  simp only [execShaperTick, stays_within, standing_meetShapers, standing_mk, unitsStanding_units, implies_true]

theorem stays_sampleWindowClose (s : State) : Stays s (execSampleWindowClose s) := by
  simp only [execSampleWindowClose, stays_next, standing_closeWindow, apply_ite standing, ite_self]

theorem stays_groupEnable (group : Nat) (value : Word) (s : State) : Stays s (execGroupEnable group value s) := by
  simp only [execGroupEnable, stays_within, whenOpen, standing_writeGroupCfg, apply_ite standing, ite_self, implies_true]

theorem stays_groupDisable (group : Nat) (value : Word) (s : State) : Stays s (execGroupDisable group value s) := by
  simp only [execGroupDisable, stays_within, whenOpen, standing_writeGroupCfg, apply_ite standing, ite_self, implies_true]

theorem stays_overheadPosition (group inst block : Nat) (pattern : Bool) (s : State) : Stays s (execOverheadPosition group inst block
    pattern s) := by
  simp only [execOverheadPosition, stays_within, standing_setInst, standing_instLost, apply_ite standing, ite_self, implies_true]

theorem stays_multiframeLock (group inst : Nat) (omf : Bool) (s : State) : Stays s (execMultiframeLock group inst omf s) := by
  simp only [execMultiframeLock, stays_within, standing_grpTryUp, standing_setInst, standing_omfMiss, apply_ite standing, ite_self,
    implies_true]

theorem stays_overheadFrame (group inst : Nat) (oh : Overhead) (s : State) : Stays s (execOverheadFrame group inst oh s) := by
  simp only [execOverheadFrame, stays_within, standing_modGrp, standing_setAlarm, standing_sendAll, standing_applyCal, standing_grpTryUp,
    standing_setInst, standing_answerCa, standing_labelAlarms, apply_ite standing, ite_self, implies_true]

theorem stays_calendarSwitch (group : Nat) (s : State) : Stays s (execCalendarSwitch group s) := by
  simp only [execCalendarSwitch, stays_within]
  split <;> simp only [standing_finishRef, standing_setGrp, standing_sendOverhead, standing_applyCals, standing_switched,
    apply_ite standing, ite_self, implies_true]

theorem stays_calSwitchTimeout (group : Nat) (s : State) : Stays s (execCalSwitchTimeout group s) := by
  simp only [execCalSwitchTimeout, stays_within, standing_report, standing_endSwitch, apply_ite standing, ite_self, implies_true]

theorem stays_rxCalendarSwitch (group : Nat) (s : State) : Stays s (execRxCalendarSwitch group s) := by
  simp only [execRxCalendarSwitch, stays_within, standing_setGrp, standing_applyCals, standing_answerCa, standing_switched,
    apply_ite standing, ite_self, implies_true]

theorem stays_slotClientSet (ref : CmdRef) (s : State) : Stays s (execSlotClientSet ref s) := by
  simp only [execSlotClientSet, stays_next, standing_runCmd, standing_slotClientSetCmd, implies_true]

theorem stays_slotCmWrite (ref : CmdRef) (host : HostAns) (s : State) : Stays s (execSlotCmWrite ref host s) := by
  simp only [execSlotCmWrite, stays_next, standing_runCmd, standing_slotCmWriteCmd, implies_true]

theorem stays_slotCalSwitch (ref : CmdRef) (s : State) : Stays s (execSlotCalSwitch ref s) := by
  simp only [execSlotCalSwitch, stays_next, standing_runCmd, standing_slotCalSwitchCmd, implies_true]

theorem stays_slotPmRead (ref : CmdRef) (s : State) : Stays s (execSlotPmRead ref s) := by
  simp only [execSlotPmRead, stays_next, standing_runCmd, standing_slotPmReadCmd, implies_true]

theorem stays_snapshotInstant (set : Nat) (s : State) : Stays s (execSnapshotInstant set s) := by
  simp only [execSnapshotInstant, stays_within, standing_report, standing_setSet, standing_snapshot, apply_ite standing, ite_self,
    implies_true]

theorem stays_dumpComplete (set : Nat) (err : Option Byte) (s : State) : Stays s (execDumpComplete set err s) := by
  unfold execDumpComplete
  dsimp only
  repeat' split
  all_goals simp only [stays_within, standing_emit, standing_report, standing_meetValue, standing_setSet, standing_dumpedCtr,
    standing_lateClear, standing_applySet, standing_postDump, standing_foldl, implies_true]

theorem stays_gauzeRecordWrite (s : State) : Stays s (execGauzeRecordWrite s) := by
  simp only [execGauzeRecordWrite, stays_next]
  split <;> simp only [standing_emit, standing_gauzeLose, standing_mk, unitsStanding_units, apply_ite standing, ite_self]

theorem stays_ctrRead (ref : CmdRef) (s : State) : Stays s (execCtrRead ref s) := by
  simp only [execCtrRead, stays_next, standing_runCmd, standing_ctrReadCmd, implies_true]

theorem stays_ctrDumpNow (ref : CmdRef) (s : State) : Stays s (execCtrDumpNow ref s) := by
  simp only [execCtrDumpNow, stays_next, standing_runCmd, standing_ctrDumpNowCmd, implies_true]

theorem stays_registerWrite (addr size : Nat) (value : Word) (s : State) : Stays s (execRegisterWrite addr size value s) := by
  simp only [execRegisterWrite, stays_next, standing_writeAt]

theorem stays_registerReadClear (addr : Nat) (s : State) : Stays s (execRegisterReadClear addr s) := by
  simp only [execRegisterReadClear, stays_next, standing_readAt]

theorem stays_lowWordRead (addr : Nat) (s : State) : Stays s (execLowWordRead addr s) := by
  simp only [execLowWordRead, stays_next, standing_readAt]

end Sys2Proof.Machine
end

section
/-! PROOFS. The form of the Burlap memory: what does not write it keeps it, and what writes it keeps it canonical (14.1). -/
namespace Sys2Proof.Machine

theorem burlapOk_mk {pending regs latch hold aon out freeIx hif tim flt sys lan mac tel pwr slt pip tbl buf sch col pool seq upset}
    (mem : MemState) : burlapOk ⟨pending, regs, latch, hold, aon, out, freeIx, hif, tim, flt, sys, lan, mac, tel, pwr, slt, pip, tbl, buf,
      sch,
      mem, col, pool, seq, upset⟩ = Memory.wf mem.burlap := by
  rw [burlapOk]

theorem wf_burlap (s : State) : Memory.wf s.mem.burlap = burlapOk s := by
  rw [burlapOk]

theorem Fr.burlapOk {M : Nat} {s t : State} (h : Fr M s t) (hM : M.testBit 28 = false) : burlapOk t = burlapOk s :=
  congrArg Memory.wf (h.burlap.resolve_left (by simp [hM]))

theorem burlapOk_foldl {α : Type} {f : State → α → State} {s : State} (h : burlapOk s = true)
    (hf : ∀ u x, burlapOk u = true → burlapOk (f u x) = true) (l : List α) : burlapOk (l.foldl f s) = true := by
  induction l generalizing s with
  | nil => exact h
  | cons x l ih => exact ih (hf s x h)

theorem burlapOk_emit (o : Out) (s : State) : burlapOk (emit o s) = burlapOk s := (fr_emit o s).burlapOk rfl

theorem burlapOk_takeFree (s : State) : burlapOk (takeFree s).2 = burlapOk s := (fr_takeFree s).burlapOk rfl

theorem burlapOk_setRing (n : Nat) (r : Ring) (s : State) : burlapOk (setRing n r s) = burlapOk s := (fr_setRing n r s).burlapOk rfl

theorem burlapOk_post (code : Nat) (payload : List Byte) (s : State) : burlapOk (post code payload s) = burlapOk s :=
  (fr_post code payload s).burlapOk rfl

theorem burlapOk_setUnit (kind ix : Nat) (u : FUnit) (s : State) : burlapOk (setUnit kind ix u s) = burlapOk s :=
  (fr_setUnit kind ix u s).burlapOk rfl

theorem burlapOk_enqueue (rep : Report) (s : State) : burlapOk (enqueue rep s) = burlapOk s := (fr_enqueue rep s).burlapOk rfl

theorem burlapOk_report (cls kind unit : Nat) (detail : List Byte) (s : State) : burlapOk (report cls kind unit detail s) = burlapOk s :=
  (fr_report cls kind unit detail s).burlapOk rfl

theorem burlapOk_setMode (m : Mode) (cause : Nat) (s : State) : burlapOk (setMode m cause s) = burlapOk s :=
  (fr_setMode m cause s).burlapOk rfl

theorem burlapOk_finish (c : Cmd) (r : CmdRes) (done left : Nat) (s : State) : burlapOk (finish c r done left s) = burlapOk s :=
  (fr_finish c r done left s).burlapOk rfl

theorem burlapOk_finishRef (ref : CmdRef) (r : CmdRes) (s : State) : burlapOk (finishRef ref r s) = burlapOk s :=
  (fr_finishRef ref r s).burlapOk rfl

theorem burlapOk_fail (st : Nat) (s : State) : burlapOk (fail st s).1 = burlapOk s := (fr_fail st s).burlapOk rfl

theorem burlapOk_okay (s : State) : burlapOk (okay s).1 = burlapOk s := (fr_okay s).burlapOk rfl

theorem burlapOk_okayData (data : List Byte) (s : State) : burlapOk (okayData data s).1 = burlapOk s := (fr_okayData data s).burlapOk rfl

theorem burlapOk_clearUpset (mem ix : Nat) (s : State) : burlapOk (clearUpset mem ix s) = burlapOk s :=
  (fr_clearUpset mem ix s).burlapOk rfl

theorem burlapOk_countPort (p ix n : Nat) (s : State) : burlapOk (countPort p ix n s) = burlapOk s := (fr_countPort p ix n s).burlapOk rfl

theorem burlapOk_countQueue (q ix n : Nat) (s : State) : burlapOk (countQueue q ix n s) = burlapOk s :=
  (fr_countQueue q ix n s).burlapOk rfl

theorem burlapOk_addOcc (p c : Nat) (d : Int) (s : State) : burlapOk (addOcc p c d s) = burlapOk s := (fr_addOcc p c d s).burlapOk rfl

theorem burlapOk_gatesFollowTb (s : State) : burlapOk (gatesFollowTb s) = burlapOk s := (fr_gatesFollowTb s).burlapOk rfl

theorem burlapOk_setPkt (i : Nat) (p : Pkt) (s : State) : burlapOk (setPkt i p s) = burlapOk s := (fr_setPkt i p s).burlapOk rfl

theorem burlapOk_setArriving (i : Nat) (a : Arrival) (s : State) : burlapOk (setArriving i a s) = burlapOk s :=
  (fr_setArriving i a s).burlapOk rfl

theorem burlapOk_modPkt (i : Nat) (f : Pkt → Pkt) (s : State) : burlapOk (modPkt i f s) = burlapOk s := (fr_modPkt i f s).burlapOk rfl

theorem burlapOk_setQ (q : Nat) (x : Queue) (s : State) : burlapOk (setQ q x s) = burlapOk s := (fr_setQ q x s).burlapOk rfl

theorem burlapOk_modQ (q : Nat) (f : Queue → Queue) (s : State) : burlapOk (modQ q f s) = burlapOk s := (fr_modQ q f s).burlapOk rfl

theorem burlapOk_setCells (i : Nat) (x : Cells) (s : State) : burlapOk (setCells i x s) = burlapOk s := (fr_setCells i x s).burlapOk rfl

theorem burlapOk_checkTag (i pipe : Nat) (s : State) : burlapOk (checkTag i pipe s) = burlapOk s := (fr_checkTag i pipe s).burlapOk rfl

theorem burlapOk_discard (i reason pipe : Nat) (s : State) : burlapOk (discard i reason pipe s) = burlapOk s :=
  (fr_discard i reason pipe s).burlapOk rfl

theorem burlapOk_modMChan (ch : Nat) (f : MChan → MChan) (s : State) : burlapOk (modMChan ch f s) = burlapOk s :=
  (fr_modMChan ch f s).burlapOk rfl

theorem burlapOk_chanUsed (ch : Nat) (s : State) : burlapOk (chanUsed ch s) = burlapOk s := (fr_chanUsed ch s).burlapOk rfl

theorem burlapOk_burlapScan (a n : Nat) (s : State) : burlapOk (burlapScan a n s) = burlapOk s := (fr_burlapScan a n s).burlapOk rfl

theorem burlapOk_burstsWritten (a n : Nat) (s : State) : burlapOk (burstsWritten a n s) = burlapOk s :=
  (fr_burstsWritten a n s).burlapOk rfl

theorem burlapOk_restoreLater (kind key : Nat) (s : State) : burlapOk (restoreLater kind key s) = burlapOk s :=
  (fr_restoreLater kind key s).burlapOk rfl

theorem burlapOk_exhausted (what : Nat) (s : State) : burlapOk (exhausted what s) = burlapOk s := (fr_exhausted what s).burlapOk rfl

theorem burlapOk_postSpill (q entered peak : Nat) (s : State) : burlapOk (postSpill q entered peak s) = burlapOk s :=
  (fr_postSpill q entered peak s).burlapOk rfl

theorem burlapOk_setRun (q : Nat) (x : Queue) (s : State) : burlapOk (setRun q x s) = burlapOk s := (fr_setRun q x s).burlapOk rfl

theorem burlapOk_closeRun (q : Nat) (s : State) : burlapOk (closeRun q s) = burlapOk s := (fr_closeRun q s).burlapOk rfl

theorem burlapOk_storeCells (c : Cells) (key n : Nat) (s : State) : burlapOk (storeCells c key n s).2 = burlapOk s :=
  (fr_storeCells c key n s).burlapOk rfl

theorem burlapOk_meetCell (id : Nat) (spoilt : Bool) (cell bank : Nat) (s : State) : burlapOk (meetCell id spoilt cell bank s).2 =
    burlapOk s :=
  (fr_meetCell id spoilt cell bank s).burlapOk rfl

theorem burlapOk_joinQueue (i q : Nat) (s : State) : burlapOk (joinQueue i q s) = burlapOk s := (fr_joinQueue i q s).burlapOk rfl

theorem burlapOk_flushPort (p : Nat) (s : State) : burlapOk (flushPort p s) = burlapOk s := (fr_flushPort p s).burlapOk rfl

theorem burlapOk_loseUnits (q : Nat) (b : RBlock) (s : State) : burlapOk (loseUnits q b s) = burlapOk s :=
  (fr_loseUnits q b s).burlapOk rfl

theorem burlapOk_passLost (q : Nat) (k : Nat) (s : State) : burlapOk (passLost q k s) = burlapOk s := (fr_passLost q k s).burlapOk rfl

theorem burlapOk_takeAssembly (q : Nat) (s : State) : burlapOk (takeAssembly q s) = burlapOk s := (fr_takeAssembly q s).burlapOk rfl

theorem burlapOk_groupClk (g : Nat) (c : LgClk) (s : State) : burlapOk (groupClk g c s) = burlapOk s := (fr_groupClk g c s).burlapOk rfl

theorem burlapOk_macroOff (m : Nat) (s : State) : burlapOk (macroOff m s) = burlapOk s := (fr_macroOff m s).burlapOk rfl

theorem burlapOk_countGood (p len : Nat) (dst : List Byte) (s : State) : burlapOk (countGood p len dst s) = burlapOk s :=
  (fr_countGood p len dst s).burlapOk rfl

theorem burlapOk_refuse (i q ctr reason : Nat) (s : State) : burlapOk (refuse i q ctr reason s) = burlapOk s :=
  (fr_refuse i q ctr reason s).burlapOk rfl

theorem burlapOk_storeOnDie (i q : Nat) (c : Cells) (n : Nat) (s : State) : burlapOk (storeOnDie i q c n s) = burlapOk s :=
  (fr_storeOnDie i q c n s).burlapOk rfl

theorem burlapOk_tryAppend (q units : Nat) (s : State) : burlapOk (tryAppend q units s).2 = burlapOk s :=
  (fr_tryAppend q units s).burlapOk rfl

theorem burlapOk_tryOpen (q n units : Nat) (s : State) : burlapOk (tryOpen q n units s).2 = burlapOk s :=
  (fr_tryOpen q n units s).burlapOk rfl

theorem burlapOk_dropLossless (i q : Nat) (s : State) : burlapOk (dropLossless i q s) = burlapOk s := (fr_dropLossless i q s).burlapOk rfl

theorem burlapOk_trimTo (i q : Nat) (s : State) : burlapOk (trimTo i q s) = burlapOk s := (fr_trimTo i q s).burlapOk rfl

theorem burlapOk_meetEgress (p : Pkt) (s : State) : burlapOk (meetEgress p s) = burlapOk s := (fr_meetEgress p s).burlapOk rfl

theorem burlapOk_storeMulticast (i : Nat) (s : State) : burlapOk (storeMulticast i s) = burlapOk s := (fr_storeMulticast i s).burlapOk rfl

theorem burlapOk_mirrorCopy (p : Pkt) (root : Nat) (share : Option Nat) (s : State) : burlapOk (mirrorCopy p root share s) = burlapOk s :=
  (fr_mirrorCopy p root share s).burlapOk rfl

theorem burlapOk_cutShort (i reason : Nat) (s : State) : burlapOk (cutShort i reason s) = burlapOk s :=
  (fr_cutShort i reason s).burlapOk rfl

theorem burlapOk_growOnDie (id arrived : Nat) (hs : List Nat) (s : State) : burlapOk (growOnDie id arrived hs s) = burlapOk s :=
  (fr_growOnDie id arrived hs s).burlapOk rfl

theorem burlapOk_replicate (i e : Nat) (s : State) : burlapOk (replicate i e s) = burlapOk s := (fr_replicate i e s).burlapOk rfl

theorem burlapOk_setDom (d : Nat) (x : PDom) (s : State) : burlapOk (setDom d x s) = burlapOk s := (fr_setDom d x s).burlapOk rfl

theorem burlapOk_modDom (d : Nat) (f : PDom → PDom) (s : State) : burlapOk (modDom d f s) = burlapOk s := (fr_modDom d f s).burlapOk rfl

theorem burlapOk_railFollow (old s : State) : burlapOk (railFollow old s) = burlapOk s := (fr_railFollow old s).burlapOk rfl

theorem burlapOk_powerAll (s : State) : burlapOk (powerAll s) = burlapOk s := (fr_powerAll s).burlapOk rfl

theorem burlapOk_setTbState (n : Nat) (st : TbState) (cause : Nat) (s : State) : burlapOk (setTbState n st cause s) = burlapOk s :=
  (fr_setTbState n st cause s).burlapOk rfl

theorem burlapOk_tblErr (bad : Bool) (s : State) : burlapOk (tblErr bad s) = burlapOk s := (fr_tblErr bad s).burlapOk rfl

theorem burlapOk_modPool (k : Nat) (f : Pool → Pool) (s : State) : burlapOk (modPool k f s) = burlapOk s :=
  (fr_modPool k f s).burlapOk rfl

theorem burlapOk_setPBuf (h : Nat) (b : PBuf) (s : State) : burlapOk (setPBuf h b s) = burlapOk s := (fr_setPBuf h b s).burlapOk rfl

theorem burlapOk_poolRequest (k ahead : Nat) (r : PoolReq) (s : State) : burlapOk (poolRequest k ahead r s) = burlapOk s :=
  (fr_poolRequest k ahead r s).burlapOk rfl

theorem burlapOk_poolFreeBy (h who : Nat) (s : State) : burlapOk (poolFreeBy h who s).2 = burlapOk s :=
  (fr_poolFreeBy h who s).burlapOk rfl

theorem burlapOk_bufRead (h off n : Nat) (s : State) : burlapOk (bufRead h off n s).2.2 = burlapOk s :=
  (fr_bufRead h off n s).burlapOk rfl

theorem burlapOk_ceilingsMoved (s : State) : burlapOk (ceilingsMoved s) = burlapOk s := (fr_ceilingsMoved s).burlapOk rfl

theorem burlapOk_holdTops (s : State) : burlapOk (holdTops s) = burlapOk s := (fr_holdTops s).burlapOk rfl

theorem burlapOk_powerUp (d : Nat) (c : Cmd) (s : State) : burlapOk (powerUp d c s).1 = burlapOk s := (fr_powerUp d c s).burlapOk rfl

theorem burlapOk_followFence (s : State) : burlapOk (followFence s) = burlapOk s := (fr_followFence s).burlapOk rfl

theorem burlapOk_squelchAll (s : State) : burlapOk (squelchAll s) = burlapOk s := (fr_squelchAll s).burlapOk rfl

theorem burlapOk_enterHold (s : State) : burlapOk (enterHold s) = burlapOk s := (fr_enterHold s).burlapOk rfl

theorem burlapOk_lanesStop (s : State) : burlapOk (lanesStop s) = burlapOk s := (fr_lanesStop s).burlapOk rfl

theorem burlapOk_modEng (e : Nat) (f : Engine → Engine) (s : State) : burlapOk (modEng e f s) = burlapOk s :=
  (fr_modEng e f s).burlapOk rfl

theorem burlapOk_setCtx (e k : Nat) (c : Ctx) (s : State) : burlapOk (setCtx e k c s) = burlapOk s := (fr_setCtx e k c s).burlapOk rfl

theorem burlapOk_modCtx (e k : Nat) (f : Ctx → Ctx) (s : State) : burlapOk (modCtx e k f s) = burlapOk s :=
  (fr_modCtx e k f s).burlapOk rfl

theorem burlapOk_scratchFix (e a n : Nat) (s : State) : burlapOk (scratchFix e a n s) = burlapOk s := (fr_scratchFix e a n s).burlapOk rfl

theorem burlapOk_scratchWrite (e a : Nat) (bs : List Byte) (s : State) : burlapOk (scratchWrite e a bs s) = burlapOk s :=
  (fr_scratchWrite e a bs s).burlapOk rfl

theorem burlapOk_seqTrap (e k cause info : Nat) (s : State) : burlapOk (seqTrap e k cause info s) = burlapOk s :=
  (fr_seqTrap e k cause info s).burlapOk rfl

theorem burlapOk_seqPoolAnswer (e k : Nat) (h : Option Nat) (s : State) : burlapOk (seqPoolAnswer e k h s) = burlapOk s :=
  (fr_seqPoolAnswer e k h s).burlapOk rfl

theorem burlapOk_suspectTime (n : Nat) (s : State) : burlapOk (suspectTime n s) = burlapOk s := (fr_suspectTime n s).burlapOk rfl

theorem burlapOk_postUnit (kind ix st cause : Nat) (s : State) : burlapOk (postUnit kind ix st cause s) = burlapOk s :=
  (fr_postUnit kind ix st cause s).burlapOk rfl

theorem burlapOk_postBank (b cause lost : Nat) (s : State) : burlapOk (postBank b cause lost s) = burlapOk s :=
  (fr_postBank b cause lost s).burlapOk rfl

theorem burlapOk_takeHeads (s : State) : burlapOk (takeHeads s).2 = burlapOk s := (fr_takeHeads s).burlapOk rfl

theorem burlapOk_reportLost (s : State) : burlapOk (reportLost s) = burlapOk s := (fr_reportLost s).burlapOk rfl

theorem burlapOk_formRecord (d : Draft) (s : State) : burlapOk (formRecord d s) = burlapOk s := (fr_formRecord d s).burlapOk rfl

theorem burlapOk_mergeAll (k : List Intake) (s : State) : burlapOk (mergeAll k s).2 = burlapOk s := (fr_mergeAll k s).burlapOk rfl

theorem burlapOk_endTests (l : List Intake) (s : State) : burlapOk (endTests l s) = burlapOk s := (fr_endTests l s).burlapOk rfl

theorem burlapOk_reportedPll (r : Report) (s : State) : burlapOk (reportedPll r s) = burlapOk s := (fr_reportedPll r s).burlapOk rfl

theorem burlapOk_serveShadow (r addr : Nat) (bs : List Byte) (s : State) : burlapOk (serveShadow r addr bs s) = burlapOk s :=
  (fr_serveShadow r addr bs s).burlapOk rfl

theorem burlapOk_seqLoad8 (space a : Nat) (s : State) : burlapOk (seqLoad8 space a s).2 = burlapOk s :=
  (fr_seqLoad8 space a s).burlapOk rfl

theorem burlapOk_seqStoreCtr (kind num v : Nat) (s : State) : burlapOk (seqStoreCtr kind num v s) = burlapOk s :=
  (fr_seqStoreCtr kind num v s).burlapOk rfl

theorem burlapOk_chkWrite (r off : Nat) (bs : List Byte) (s : State) : burlapOk (chkWrite r off bs s) = burlapOk s :=
  (fr_chkWrite r off bs s).burlapOk rfl

theorem burlapOk_regBytes (c : Ctx) (n k : Nat) (s : State) : burlapOk (regBytes c n k s).2 = burlapOk s :=
  (fr_regBytes c n k s).burlapOk rfl

theorem burlapOk_seqFlow (e k w : Nat) (s : State) : burlapOk (seqFlow e k w s) = burlapOk s := (fr_seqFlow e k w s).burlapOk rfl

theorem burlapOk_aluStep (e k w : Nat) (s : State) : burlapOk (aluStep e k w s) = burlapOk s := (fr_aluStep e k w s).burlapOk rfl

theorem burlapOk_serveRoutine (r : Nat) (s : State) : burlapOk (serveRoutine r s) = burlapOk s := (fr_serveRoutine r s).burlapOk rfl

theorem burlapOk_trapReport (e r cause : Nat) (s : State) : burlapOk (trapReport e r cause s) = burlapOk s :=
  (fr_trapReport e r cause s).burlapOk rfl

theorem burlapOk_tableRequest (bs host : List Byte) (s : State) : burlapOk (tableRequest bs host s).2 = burlapOk s :=
  (fr_tableRequest bs host s).burlapOk rfl

theorem burlapOk_blockIn (r : Nat) (op : BlkOp) (host : List Byte) (e : Nat) (s : State) : burlapOk (blockIn r op host e s).2 = burlapOk s
    :=
  (fr_blockIn r op host e s).burlapOk rfl

theorem burlapOk_startTraining (s : State) : burlapOk (startTraining s) = burlapOk s := (fr_startTraining s).burlapOk rfl

theorem burlapOk_endWipeRuns (s : State) : burlapOk (endWipeRuns s) = burlapOk s := (fr_endWipeRuns s).burlapOk rfl

theorem burlapOk_wipeReadBack (f : WipeFound) (s : State) : burlapOk (wipeReadBack f s) = burlapOk s := (fr_wipeReadBack f s).burlapOk rfl

end Sys2Proof.Machine
end

section
namespace Sys2Proof.Machine

theorem burlapOk_ite {c : Prop} [Decidable c] {a b : State} (ha : burlapOk a = true) (hb : burlapOk b = true) :
    burlapOk (if c then a else b) = true := by
  split
  · exact ha
  · exact hb

theorem burlapOk_ite_fst {α : Type} {c : Prop} [Decidable c] {a b : State × α} (ha : burlapOk a.1 = true) (hb : burlapOk b.1 = true) :
    burlapOk (if c then a else b).1 = true := by
  rw [apply_ite Prod.fst]
  exact burlapOk_ite ha hb

theorem wf_filter (m : Memory) (p : Nat × Byte → Bool) (h : Memory.wf m = true) : Memory.wf (m.filter p) = true := by
  obtain ⟨hr, ha⟩ := Bool.and_eq_true_iff.mp h
  refine Bool.and_eq_true_iff.mpr ⟨trising_filter m p hr, List.all_eq_true.mpr fun e he => ?_⟩
  exact List.all_eq_true.mp ha e (List.mem_filter.mp he).1

theorem burlapOk_puntTo {f : State → State} (i pool : Nat) (s : State) (hf : ∀ u, burlapOk (f u) = burlapOk u) :
    burlapOk (puntTo i pool f s) = burlapOk s := by
  simp only [puntTo, burlapOk_setRing, burlapOk_setPkt, burlapOk_storeCells, hf, apply_ite burlapOk, ite_self]

theorem burlapOk_tbWatch {f : State → State} (hf : ∀ u, burlapOk (f u) = burlapOk u) (s : State) : burlapOk (tbWatch f s) = burlapOk s := by
  have hs : ∀ (l : List Nat) (u : State), burlapOk (l.foldl (fun a k => suspectTime k a) u) = burlapOk u := fun l u =>
    (Fr.foldl (.refl _ _) fun a k h => h.trans (fr_suspectTime k a)).burlapOk rfl
  simp only [tbWatch, burlapOk_gatesFollowTb, hs, hf, apply_ite burlapOk, ite_self]

theorem burlapOk_spillWrite (a : Nat) (bs : List Byte) {s : State} (h : burlapOk s = true) : burlapOk (spillWrite a bs s) = true := by
  simp only [spillWrite, burlapOk_burstsWritten, burlapOk_mk, wf_burlap, wf_mwrite, h]

theorem burlapOk_burlapWrite (a : Nat) (bs : List Byte) {s : State} (h : burlapOk s = true) : burlapOk (burlapWrite a bs s) = true := by
  refine burlapOk_foldl ((burlapOk_burstsWritten ..).trans h) (fun u x hu => ?_) _
  split
  · exact hu
  · exact wf_mwrite _ _ _ hu

theorem burlapOk_storeUnit (q i k pos : Nat) {s : State} (h : burlapOk s = true) : burlapOk (storeUnit q i k pos s) = true := by
  simp only [storeUnit]
  split <;> simp only [burlapOk_spillWrite, h]

theorem burlapOk_settleUnit (q i k pos : Nat) {s : State} (h : burlapOk s = true) : burlapOk (settleUnit q i k pos s) = true := by
  unfold settleUnit
  dsimp only
  repeat' split
  all_goals simp only [burlapOk_modPkt, burlapOk_setCells, burlapOk_meetCell, burlapOk_storeUnit, burlapOk_mk, wf_burlap, h]

theorem burlapOk_settle (q : Nat) {s : State} (h : burlapOk s = true) : burlapOk (settle q s) = true := by
  exact burlapOk_foldl h (fun _ _ hu => burlapOk_foldl hu (fun _ _ hv => burlapOk_settleUnit _ _ _ _ hv) _) _

theorem burlapOk_runStep (q : Nat) {s : State} (h : burlapOk s = true) : burlapOk (runStep q s) = true := by
  simp only [runStep, burlapOk_modQ, burlapOk_settle, h]

theorem burlapOk_spillLate (i : Nat) {s : State} (h : burlapOk s = true) : burlapOk (spillLate i s) = true := by
  unfold spillLate
  dsimp only
  split
  · exact h
  · refine burlapOk_foldl h (fun u x hu => ?_) _
    split
    · exact hu
    · exact burlapOk_storeUnit _ _ _ _ hu

theorem burlapOk_appendPkt (i q units : Nat) (x : Queue) (head : Option (Nat × Nat × Nat)) {s : State} (h : burlapOk s = true) : burlapOk
    (appendPkt i q units x head s) = true := by
  simp only [appendPkt, burlapOk_countQueue, burlapOk_setPkt, burlapOk_setRun, burlapOk_storeCells, burlapOk_runStep, burlapOk_joinQueue, h]

theorem burlapOk_admitRest (i q n units : Nat) (spillTried : Bool) {s : State} (h : burlapOk s = true) : burlapOk (admitRest i q n units
    spillTried s) = true := by
  unfold admitRest
  dsimp only
  repeat' split
  all_goals simp only [burlapOk_countQueue, burlapOk_exhausted, burlapOk_refuse, burlapOk_storeOnDie, burlapOk_appendPkt,
    burlapOk_dropLossless, burlapOk_trimTo, h]

theorem burlapOk_admitUnicast (i q : Nat) {s : State} (h : burlapOk s = true) : burlapOk (admitUnicast i q s) = true := by
  refine burlapOk_ite ?_ (burlapOk_ite ?_ ?_)
  · have ht := burlapOk_tryAppend q (unitsOf (getPkt i s).len) s
    split <;> rename_i he <;> rw [he] at ht
    · exact burlapOk_appendPkt _ _ _ _ _ (ht.trans h)
    · exact burlapOk_admitRest _ _ _ _ _ (ht.trans h)
  · exact (burlapOk_storeOnDie ..).trans ((burlapOk_setPkt ..).trans h)
  · have ht := burlapOk_tryOpen q (cellsOf (getPkt i s).len) (unitsOf (getPkt i s).len) s
    split <;> rename_i he <;> rw [he] at ht
    · exact burlapOk_appendPkt _ _ _ _ _ ((burlapOk_postSpill ..).trans (ht.trans h))
    · exact burlapOk_admitRest _ _ _ _ _ (ht.trans h)

theorem burlapOk_admitToPort (i port : Nat) {s : State} (h : burlapOk s = true) : burlapOk (admitToPort i port s) = true := by
  simp only [admitToPort, burlapOk_countPort, burlapOk_setPkt, burlapOk_discard, burlapOk_flushPort, burlapOk_refuse,
    burlapOk_admitUnicast, apply_ite burlapOk, ite_self, h]

theorem burlapOk_admitMain (i : Nat) {s : State} (h : burlapOk s = true) : burlapOk (admitMain i s) = true := by
  have hr : ∀ u, burlapOk (discard i 13 (getPkt i s).pipe u) = burlapOk u := burlapOk_discard i 13 _
  refine burlapOk_ite ((burlapOk_puntTo i 3 s hr).trans h) (burlapOk_ite (burlapOk_ite ((burlapOk_discard ..).trans h)
    ((burlapOk_storeMulticast ..).trans h)) (burlapOk_ite ?_ ((burlapOk_discard ..).trans h)))
  have ht : burlapOk (meetEgress (getPkt i s) s) = true := (burlapOk_meetEgress ..).trans h
  dsimp only
  split
  · exact burlapOk_admitToPort _ _ ht
  · exact (burlapOk_puntTo i 3 _ hr).trans ((burlapOk_setPkt ..).trans ht)
  · exact (burlapOk_discard ..).trans ht

theorem burlapOk_admitPkt (i : Nat) {s : State} (h : burlapOk s = true) : burlapOk (admitPkt i s) = true := by
  refine (burlapOk_mirrorCopy ..).trans ?_
  have hs : ∀ p, burlapOk (setPkt i p s) = true := fun p => (burlapOk_setPkt ..).trans h
  refine burlapOk_ite ((burlapOk_discard ..).trans (hs _)) (burlapOk_ite ?_ (burlapOk_ite ((burlapOk_discard ..).trans (hs _))
    (burlapOk_admitMain _ (hs _))))
  exact (burlapOk_puntTo i 3 _ (burlapOk_discard i 13 _)).trans ((burlapOk_setPkt ..).trans (hs _))

theorem burlapOk_takeBytes (bytes : List Byte) (i : Nat) {s : State} (h : burlapOk s = true) : burlapOk (takeBytes bytes i s) = true := by
  simp only [takeBytes, burlapOk_modPkt, burlapOk_spillLate, h]

theorem burlapOk_growSpilled (i id arrived : Nat) {s : State} (h : burlapOk s = true) : burlapOk (growSpilled i id arrived s) = true := by
  simp only [growSpilled, burlapOk_cutShort, apply_ite burlapOk, ite_self]
  split <;> simp only [burlapOk_countQueue, burlapOk_addOcc, burlapOk_setPkt, burlapOk_setCells, burlapOk_setRun, burlapOk_runStep,
    apply_ite burlapOk, ite_self, h]

theorem burlapOk_frameGrows (pkt : Nat) (bytes : List Byte) {s : State} (h : burlapOk s = true) : burlapOk (frameGrows pkt bytes s) = true
    := by
  refine burlapOk_foldl (burlapOk_foldl h (fun _ _ hu => burlapOk_takeBytes _ _ hu) _) (fun u id hu => ?_) _
  exact burlapOk_ite hu (burlapOk_ite (burlapOk_growSpilled _ _ _ hu) ((burlapOk_growOnDie ..).trans hu))

theorem burlapOk_frameRest (all : List Byte) (bad : Option Nat) (i : Nat) {s : State} (h : burlapOk s = true) : burlapOk (frameRest all
    bad i s) = true := by
  simp only [frameRest, burlapOk_setPkt, burlapOk_spillLate, burlapOk_cutShort, apply_ite burlapOk, ite_self, h]

theorem burlapOk_bufWrite (k off : Nat) (bs : List Byte) {s : State} (h : burlapOk s = true) : burlapOk (bufWrite k off bs s).2 = true := by
  unfold bufWrite
  dsimp only
  split
  · split
    · exact burlapOk_burlapWrite _ _ h
    · exact h
  · exact burlapOk_foldl h (fun _ _ hu => (burlapOk_clearUpset ..).trans hu) _

theorem burlapOk_loseDomain (d : Nat) {s : State} (h : burlapOk s = true) : burlapOk (loseDomain d s) = true := by
  refine burlapOk_ite ?_ (burlapOk_ite ((burlapOk_groupClk ..).trans ?_) h)
  · refine burlapOk_foldl ?_ (fun _ _ hu => (burlapOk_modMChan ..).trans hu) _
    exact wf_mzero _ _ _ h
  · exact burlapOk_foldl h (fun _ _ hu => (burlapOk_macroOff ..).trans hu) _

theorem burlapOk_cutPower (d : Nat) {s : State} (h : burlapOk s = true) : burlapOk (cutPower d s) = true := by
  simp only [cutPower]
  split <;> simp only [burlapOk_post, burlapOk_report, burlapOk_finishRef, burlapOk_setDom, burlapOk_loseDomain, apply_ite burlapOk,
    ite_self, h]

theorem burlapOk_powerDownDone (d : Nat) {s : State} (h : burlapOk s = true) : burlapOk (powerDownDone d s) = true := by
  simp only [powerDownDone, burlapOk_cutPower, apply_ite burlapOk, ite_self, h]

theorem burlapOk_powerDown (d : Nat) (c : Cmd) {s : State} (h : burlapOk s = true) : burlapOk (powerDown d c s).1 = true := by
  simp only [powerDown, burlapOk_fail, burlapOk_okay, burlapOk_setDom, burlapOk_cutPower, apply_ite burlapOk, ite_self,
    apply_ite Prod.fst, h]

theorem burlapOk_pwrDomainCmd (c : Cmd) {s : State} (h : burlapOk s = true) : burlapOk (pwrDomainCmd c s).1 = true := by
  simp only [pwrDomainCmd, burlapOk_fail, burlapOk_okay, burlapOk_modDom, burlapOk_ceilingsMoved, burlapOk_holdTops, burlapOk_powerDown,
    burlapOk_powerUp, apply_ite burlapOk, ite_self, apply_ite Prod.fst, h]

theorem burlapOk_halfReady (k : Nat) {s : State} (h : burlapOk s = true) : burlapOk (halfReady k s) = true := by
  unfold halfReady
  dsimp only
  repeat' split
  all_goals simp only [burlapOk_finishRef, burlapOk_setDom, burlapOk_mk, wf_burlap, wf_mzero, h]

theorem burlapOk_enterLockdown {s : State} (h : burlapOk s = true) : burlapOk (enterLockdown s) = true := by
  have hq : burlapOk (squelchAll (setMode .lockdown 2 s)) = true := (burlapOk_squelchAll _).trans ((burlapOk_setMode ..).trans h)
  unfold enterLockdown
  split
  · exact h
  · refine burlapOk_foldl ?_ (fun _ _ hu => burlapOk_loseDomain _ ((burlapOk_modDom ..).trans hu)) _
    simpa only [burlapOk_mk, wf_burlap] using hq

theorem burlapOk_freshState (o : State) : burlapOk (freshState o) = true := rfl

theorem burlapOk_doReset (kind : Nat) {s : State} (h : burlapOk s = true) : burlapOk (doReset kind s) = true := by
  simp only [doReset, burlapOk_freshState, burlapOk_mk, wf_burlap, apply_ite burlapOk, ite_self, h]

theorem burlapOk_returnEffect (kind ix : Nat) {s : State} (h : burlapOk s = true) : burlapOk (returnEffect kind ix s) = true := by
  refine burlapOk_ite h (burlapOk_ite ?_ (burlapOk_ite ((burlapOk_postBank ..).trans h) (burlapOk_ite ?_ (burlapOk_ite ?_ h))))
  · exact burlapOk_foldl h (fun _ _ hu => burlapOk_ite ((burlapOk_restoreLater ..).trans hu) hu) _
  · exact wf_filter _ _ h
  · exact (burlapOk_tbWatch (burlapOk_setTbState ix .stopped 0) s).trans h

theorem burlapOk_formAll {s : State} (h : burlapOk s = true) : burlapOk (formAll s) = true := by
  have merged (l : List Intake) : burlapOk (mergeAll l (reportLost (takeHeads s).2)).2 = true :=
    (burlapOk_mergeAll ..).trans ((burlapOk_reportLost ..).trans ((burlapOk_takeHeads s).trans h))
  have formed (l tested : List Intake) (ds : List Draft) :
      burlapOk (endTests tested (ds.foldl (fun s d => formRecord d s) (mergeAll l (reportLost (takeHeads s).2)).2)) = true :=
    (burlapOk_endTests ..).trans (burlapOk_foldl (merged l) (fun _ _ hu => (burlapOk_formRecord ..).trans hu) ds)
  have served {t : State} (ht : burlapOk t = true) : burlapOk { t with flt := { t.flt with served := true } } = true := ht
  unfold formAll
  dsimp only
  split
  · exact burlapOk_enterLockdown (served (formed _ _ _))
  · split
    · exact (burlapOk_enterHold _).trans (served (formed _ _ _))
    · exact served (formed _ _ _)

theorem burlapOk_unitReturnCmd (c : Cmd) {s : State} (h : burlapOk s = true) : burlapOk (unitReturnCmd c s).1 = true := by
  unfold unitReturnCmd
  dsimp only
  repeat' split
  all_goals simp only [burlapOk_setUnit, burlapOk_fail, burlapOk_okay, burlapOk_followFence, burlapOk_postUnit, burlapOk_returnEffect, h]

theorem burlapOk_memEffect (e k w : Nat) (c : Ctx) {s : State} (h : burlapOk s = true) : burlapOk (memEffect e k w c s) = true := by
  unfold memEffect
  dsimp only
  repeat' split
  all_goals simp only [burlapOk_post, burlapOk_report, burlapOk_poolRequest, burlapOk_poolFreeBy, burlapOk_bufWrite, burlapOk_modCtx,
    burlapOk_scratchFix, burlapOk_scratchWrite, burlapOk_seqPoolAnswer, burlapOk_seqLoad8, burlapOk_seqStoreCtr, burlapOk_chkWrite,
    burlapOk_regBytes, h]

theorem burlapOk_seqIssue (e k : Nat) {s : State} (h : burlapOk s = true) : burlapOk (seqIssue e k s) = true := by
  unfold seqIssue
  dsimp only
  repeat' split
  all_goals simp only [burlapOk_report, burlapOk_clearUpset, burlapOk_modEng, burlapOk_seqTrap, burlapOk_memEffect, burlapOk_seqFlow,
    burlapOk_aluStep, burlapOk_serveRoutine, burlapOk_trapReport, h]

theorem burlapOk_blockOut (r : Nat) (op : BlkOp) (host : List Byte) (e k : Nat) {s : State} (h : burlapOk s = true) : burlapOk (blockOut r
    op host e k s).2 = true := by
  unfold blockOut
  split
  · exact (burlapOk_scratchWrite ..).trans h
  · simp only [burlapOk_modCtx, apply_ite Prod.snd, apply_ite burlapOk, burlapOk_tableRequest, h, ite_self]
  · exact burlapOk_foldl h (fun _ _ hu => (burlapOk_seqStoreCtr ..).trans hu) _
  · exact burlapOk_bufWrite _ _ _ h
  · exact burlapOk_bufWrite _ _ _ h
  · exact burlapOk_burlapWrite _ _ h
  · split
    · exact (burlapOk_emit ..).trans h
    · exact h
  · exact (burlapOk_chkWrite ..).trans h

theorem burlapOk_blockDone (e k : Nat) (res : BlockRes) {s : State} (h : burlapOk s = true) : burlapOk (blockDone e k res s) = true := by
  unfold blockDone
  dsimp only
  split
  · exact h
  · rename_i op rest _
    have hs := (burlapOk_setCtx e k { getCtx e k s with blk := rest } s).trans h
    split
    · refine (burlapOk_modCtx ..).trans ?_
      simp only [apply_ite burlapOk, burlapOk_report, burlapOk_modCtx, hs, ite_self]
    · rename_i host
      refine burlapOk_ite ?_ ((burlapOk_modCtx ..).trans (burlapOk_blockOut _ _ _ _ _ hs))
      have hb := (burlapOk_blockIn (getCtx e k s).routine op host e _).trans hs
      split <;> rename_i he <;> rw [he] at hb
      · exact (burlapOk_modCtx ..).trans hb
      · simp only [burlapOk_modCtx, apply_ite burlapOk, burlapOk_serveShadow, burlapOk_scratchWrite, hb, ite_self]

theorem burlapOk_wipeComplete (f : WipeFound) {s : State} (h : burlapOk s = true) : burlapOk (wipeComplete f s) = true := by
  refine burlapOk_ite h ((burlapOk_railFollow _ _).trans ?_)
  rfl

theorem burlapOk_sysResetCmd (c : Cmd) {s : State} (h : burlapOk s = true) : burlapOk (sysResetCmd c s).1 = true := by
  simp only [sysResetCmd, burlapOk_fail, burlapOk_doReset, apply_ite burlapOk, ite_self, apply_ite Prod.fst, h]

theorem burlapOk_lcAdvanceCmd (c : Cmd) (host : HostAns) {s : State} (h : burlapOk s = true) : burlapOk (lcAdvanceCmd c host s).1 = true
    := by
  refine burlapOk_ite_fst h (burlapOk_ite_fst h (burlapOk_ite_fst ?_
    (burlapOk_ite_fst (burlapOk_doReset _ h) (burlapOk_ite_fst (burlapOk_doReset _ h) h))))
  cases host with
  | error st got => exact h
  | data bs => exact burlapOk_doReset _ h

theorem burlapOk_debugUnlockCmd (c : Cmd) (host : HostAns) {s : State} (h : burlapOk s = true) : burlapOk (debugUnlockCmd c host s).1 =
    true := by
  refine burlapOk_ite_fst h (burlapOk_ite_fst h ?_)
  split
  · exact h
  · cases host with
    | error st got => exact h
    | data bs =>
      refine burlapOk_ite_fst ((burlapOk_post ..).trans ((burlapOk_report ..).trans h)) (burlapOk_ite_fst (burlapOk_doReset _ ?_)
        ((burlapOk_post ..).trans h))
      exact (burlapOk_finish ..).trans ((burlapOk_post ..).trans h)

theorem burlapOk_poolCopyCmd (c : Cmd) (host : HostAns) {s : State} (h : burlapOk s = true) : burlapOk (poolCopyCmd c host s).1 = true := by
  refine burlapOk_ite_fst h (burlapOk_ite_fst h (burlapOk_ite_fst h (burlapOk_ite_fst h (burlapOk_ite_fst h
    (burlapOk_ite_fst h (burlapOk_ite_fst ?_ (burlapOk_ite_fst ((burlapOk_bufRead ..).trans h) ((burlapOk_bufRead ..).trans h))))))))
  split
  · exact burlapOk_bufWrite _ _ _ h
  · exact burlapOk_bufWrite _ _ _ h

end Sys2Proof.Machine
end

section
/-! PROOFS. Every row keeps the Burlap memory in canonical form. -/
namespace Sys2Proof.Machine

/-- Whatever state a row answers has a property. -/
def Leaves (P : State → Prop) (r : Res) : Prop := ∀ t, r = .next t → P t

theorem leaves_next {P : State → Prop} {t : State} (h : P t) : Leaves P (.next t) := fun u hu => by
  cases hu
  exact h

theorem leaves_within {P : State → Prop} {t : State} {ok : Bool} (h : P t) : Leaves P (within ok t) := by
  unfold within
  split
  · exact leaves_next h
  · exact fun u hu => by cases hu

/-- A property that the host interface's bookkeeping keeps, and a command's body keeps, is kept by the command. -/
theorem runCmdIn_keeps {P : State → Prop} (hP : ∀ {u t}, Fr 162 u t → P u → P t) {ds : Cmd → State → List Nat}
    {body : Cmd → State → State × CmdEnd} (hb : ∀ c u, P u → P (body c u).1) (op : Nat) (ref : CmdRef) {s : State} (h : P s) :
    P (runCmdIn ds op ref body s) := by
  unfold runCmdIn
  split
  · exact h
  · rename_i c _
    split
    · split
      · exact hP (fr_finish ..) h
      · have hm : P (modCmd ref (fun d => { d with stage := .running }) s) := hP ((fr_modCmd ..).mono rfl) h
        have hc := hb c _ hm
        dsimp only
        split <;> rename_i t _ he <;> rw [he] at hc
        · split
          · exact hP (fr_finish ..) hm
          · exact hc
        · split
          · exact hP (fr_finish ..) hm
          · exact hP (fr_conclude ..) hc
    · exact h

theorem leaves_burlapOk {t : State} (h : burlapOk t = true) : Leaves (burlapOk · = true) (.next t) := leaves_next h

theorem leaves_burlapOk_within {t : State} {ok : Bool} (h : burlapOk t = true) : Leaves (burlapOk · = true) (within ok t) :=
  leaves_within h

theorem burlapOk_runCmd {body : Cmd → State → State × CmdEnd} (hb : ∀ c u, burlapOk u = true → burlapOk (body c u).1 = true)
    (op : Nat) (ref : CmdRef) {s : State} (h : burlapOk s = true) : burlapOk (runCmd op ref body s) = true :=
  runCmdIn_keeps (fun hf hu => (hf.burlapOk rfl).trans hu) hb op ref h

section
variable {s : State} (h : burlapOk s = true)
include h

theorem burlapOk_recordFormation (l : List Report) : Leaves (burlapOk · = true) (execRecordFormation l s) :=
  leaves_within (burlapOk_ite h (burlapOk_formAll (burlapOk_foldl h (fun _ _ hu =>
    (burlapOk_enqueue ..).trans ((burlapOk_reportedPll ..).trans hu)) _)))

theorem burlapOk_readbackStart (q : Nat) : Leaves (burlapOk · = true) (execReadbackStart q s) := by
  refine leaves_within ?_
  have hp : burlapOk (passLost q (getQ q s).blocks.length s) = true := (burlapOk_passLost ..).trans h
  dsimp only
  split
  · exact (burlapOk_closeRun ..).trans hp
  · refine burlapOk_ite hp (burlapOk_ite ?_ ((burlapOk_takeAssembly ..).trans (burlapOk_ite hp hp)))
    exact burlapOk_settle _ ((burlapOk_chanUsed ..).trans ((burlapOk_setQ ..).trans (burlapOk_ite hp hp)))

theorem burlapOk_blockReadDone (q : Nat) (ok : Bool) : Leaves (burlapOk · = true) (execBlockReadDone q ok s) := by
  refine leaves_within ?_
  dsimp only
  split
  · exact h
  · refine burlapOk_ite h ((burlapOk_closeRun ..).trans (burlapOk_runStep _ ((burlapOk_modQ ..).trans ?_)))
    simp only [apply_ite burlapOk, burlapOk_loseUnits, burlapOk_report, burlapOk_burlapScan, h, ite_self]

theorem burlapOk_bufferTestDone (k : Nat) (ok : Bool) : Leaves (burlapOk · = true) (execBufferTestDone k ok s) := by
  refine leaves_next (burlapOk_ite h ?_)
  have hb := burlapOk_bufWrite k 0 (List.replicate (poolSize (handlePool k)) (byte (takeFree s).1)) ((burlapOk_takeFree s).trans h)
  refine burlapOk_ite ((burlapOk_setPBuf ..).trans hb) ?_
  exact (burlapOk_post ..).trans ((burlapOk_report ..).trans ((burlapOk_modPool ..).trans ((burlapOk_setPBuf ..).trans hb)))

theorem burlapOk_frameEnd (k : Nat) (rest : List Byte) (cw : List Nat) : Leaves (burlapOk · = true) (execFrameEnd k rest cw s) := by
  refine leaves_next (burlapOk_ite h (burlapOk_foldl ?_ (fun _ _ hu => burlapOk_frameRest _ _ _ hu) _))
  have ha : burlapOk (setArriving k {} s) = true := (burlapOk_setArriving ..).trans h
  split
  · exact (burlapOk_countGood ..).trans ha
  · exact (burlapOk_countPort ..).trans ha

theorem burlapOk_remainingCells (k : Nat) (more : List Byte) : Leaves (burlapOk · = true) (execRemainingCells k more s) :=
  leaves_next (burlapOk_ite h (burlapOk_frameGrows _ _ ((burlapOk_setArriving ..).trans h)))

theorem burlapOk_admission (k : Nat) : Leaves (burlapOk · = true) (execAdmission k s) :=
  leaves_next (burlapOk_ite (burlapOk_admitPkt _ ((burlapOk_checkTag ..).trans h)) h)

theorem burlapOk_spillAssemblyTimeout (q : Nat) : Leaves (burlapOk · = true) (execSpillAssemblyTimeout q s) :=
  leaves_within (burlapOk_settle _ ((burlapOk_modQ ..).trans h))

theorem burlapOk_seqWord (e : Nat) : Leaves (burlapOk · = true) (execSeqWord e s) := by
  refine leaves_within (burlapOk_ite h ?_)
  split
  · exact h
  · exact burlapOk_seqIssue _ _ h

theorem burlapOk_blockOpDone (e k : Nat) (res : BlockRes) : Leaves (burlapOk · = true) (execBlockOpDone e k res s) :=
  leaves_within (burlapOk_ite h (burlapOk_blockDone _ _ _ h))

theorem burlapOk_resetReq (v : Byte) (soon : Bool) : Leaves (burlapOk · = true) (execResetReq v soon s) :=
  leaves_next (burlapOk_ite h (burlapOk_ite h (burlapOk_ite (burlapOk_doReset 2 h) h)))

theorem burlapOk_vddAonGood (e : Bool) : Leaves (burlapOk · = true) (execVddAonGood e s) :=
  leaves_next (burlapOk_ite h (burlapOk_freshState s))

theorem burlapOk_vddAonLost : Leaves (burlapOk · = true) (execVddAonLost s) :=
  leaves_next (burlapOk_ite h (burlapOk_freshState
    (if (lanesStop s).sys.thermtrip then emit (.thermtrip false) (lanesStop s) else lanesStop s)))

theorem burlapOk_resetNRelease (straps : Nat) (good : Bool) : Leaves (burlapOk · = true) (execResetNRelease straps good s) := by
  have ht : burlapOk { s with sys := { s.sys with resetN := false } } = true := h
  refine leaves_next (burlapOk_ite ht (burlapOk_ite (burlapOk_enterLockdown ((burlapOk_report ..).trans ht)) (burlapOk_ite ht ?_)))
  exact (burlapOk_startTraining _).trans ((burlapOk_powerAll _).trans h)

theorem burlapOk_thermalTrip (k : Nat) : Leaves (burlapOk · = true) (execThermalTrip k s) := by
  refine leaves_within (burlapOk_ite h (burlapOk_enterLockdown ((burlapOk_report ..).trans (burlapOk_ite h ?_))))
  exact (burlapOk_emit ..).trans h

end

/-- Whatever row a step runs, the Burlap memory stays in canonical form. -/
theorem exec_burlapOk {c : Instr} {s t : State} (he : exec c s = .next t) (h : burlapOk s = true) : burlapOk t = true := by
  by_cases hc : burlapRow c = false
  · exact (congrArg Memory.wf (exec_burlap he hc)).trans h
  cases c with
  | admission k => exact burlapOk_admission h k t he
  | remainingCells k b => exact burlapOk_remainingCells h k b t he
  | frameEnd k b cw => exact burlapOk_frameEnd h k b cw t he
  | spillAssemblyTimeout q => exact burlapOk_spillAssemblyTimeout h q t he
  | readbackStart q => exact burlapOk_readbackStart h q t he
  | blockReadDone q ok => exact burlapOk_blockReadDone h q ok t he
  | domainPowerDownDone d => exact leaves_burlapOk_within (burlapOk_powerDownDone d h) t he
  | pwrDomain r => exact leaves_burlapOk (burlapOk_runCmd (fun c _ hu => burlapOk_pwrDomainCmd c hu) _ r h) t he
  | halfReady k => exact leaves_burlapOk_within (burlapOk_halfReady k h) t he
  | recordFormation l => exact burlapOk_recordFormation h l t he
  | resetReq v soon => exact burlapOk_resetReq h v soon t he
  | unitReturn r => exact leaves_burlapOk (burlapOk_runCmd (fun c _ hu => burlapOk_unitReturnCmd c hu) _ r h) t he
  | seqWord e => exact burlapOk_seqWord h e t he
  | blockOpDone e k res => exact burlapOk_blockOpDone h e k res t he
  | vddAonGood e => exact burlapOk_vddAonGood h e t he
  | vddAonLost => exact burlapOk_vddAonLost h t he
  | railResetLevel k => exact leaves_burlapOk_within (burlapOk_doReset 4 h) t he
  | resetNAssert => exact leaves_burlapOk (burlapOk_doReset 1 (s := { s with sys := { s.sys with resetN := true } }) h) t he
  | resetNRelease v good => exact burlapOk_resetNRelease h v good t he
  | wipeComplete f => exact leaves_burlapOk_within (burlapOk_wipeComplete f h) t he
  | thermalTrip k => exact burlapOk_thermalTrip h k t he
  | sysReset r => exact leaves_burlapOk (burlapOk_runCmd (fun c _ hu => burlapOk_sysResetCmd c hu) _ r h) t he
  | lcAdvance r a => exact leaves_burlapOk (burlapOk_runCmd (fun c _ hu => burlapOk_lcAdvanceCmd c a hu) _ r h) t he
  | debugUnlock r a => exact leaves_burlapOk (burlapOk_runCmd (fun c _ hu => burlapOk_debugUnlockCmd c a hu) _ r h) t he
  | bufferTestDone k ok => exact burlapOk_bufferTestDone h k ok t he
  | poolCopy r a =>
    exact leaves_burlapOk (runCmdIn_keeps (P := (burlapOk · = true)) (fun hf hu => (hf.burlapOk rfl).trans hu) (fun c _ hu =>
      burlapOk_poolCopyCmd c a hu) 0x55 r h) t he
  | _ => exact absurd rfl hc

end Sys2Proof.Machine
end

section
/-! PROOFS. Fences and tests: which units leave service, and that none returns to it by them (18.5, 18.6). -/
namespace Sys2Proof.Machine

/-- Units leave service, only those whose keys `P` allows, and none returns. The table's form is kept. -/
structure Fences (P : Nat → Prop) (s t : State) : Prop where
  rising : trising s.flt.units = true → trising t.flt.units = true
  out : ∀ k, (tget s.flt.units k).state ≠ .inService → (tget t.flt.units k).state ≠ .inService
  serves : ∀ k, ¬P k → (tget s.flt.units k).state = .inService → (tget t.flt.units k).state = .inService

section
variable {P : Nat → Prop} {s t u : State}

theorem Fences.refl (s : State) : Fences P s s := ⟨id, fun _ => id, fun _ _ => id⟩

theorem Fences.trans (a : Fences P s t) (b : Fences P t u) : Fences P s u :=
  ⟨fun h => b.rising (a.rising h), fun k h => b.out k (a.out k h), fun k hk h => b.serves k hk (a.serves k hk h)⟩

theorem Fences.of_stand (h : UnitsStand s t) : Fences P s t :=
  ⟨h.rising, fun k hk => by rwa [h.state], fun k _ hk => by rwa [h.state]⟩

theorem Fences.of_standing (h : standing t = standing s) : Fences P s t := .of_stand (unitsStand_of_standing h)

theorem Fences.ite {c : Prop} [Decidable c] (ht : Fences P s t) (hu : Fences P s u) : Fences P s (if c then t else u) := by
  split
  · exact ht
  · exact hu

theorem Fences.foldl {α : Type} {f : State → α → State} {l : List α} (hf : ∀ u, ∀ x ∈ l, Fences P u (f u x)) (s : State) :
    Fences P s (l.foldl f s) := by
  induction l generalizing s with
  | nil => exact .refl s
  | cons x l ih => exact (hf s x List.mem_cons_self).trans (ih (fun u y hy => hf u y (List.mem_cons_of_mem x hy)) _)

theorem Fences.getUnit_out {kind ix : Nat} (h : Fences P s t) (hs : (getUnit kind ix s).state ≠ .inService) :
    (getUnit kind ix t).state ≠ .inService := h.out _ hs

theorem fences_setUnit {kind ix : Nat} {x : FUnit} (hx : x.state ≠ .inService)
    (hP : (getUnit kind ix s).state = .inService → P (unitKey kind ix)) : Fences P s (setUnit kind ix x s) := by
  refine ⟨fun hr => trising_tset _ _ _ hr, fun k hk => ?_, fun k hk hs => ?_⟩
  · by_cases he : k = unitKey kind ix
    · rw [he, setUnit, tget_tset_self]
      exact hx
    · rwa [setUnit, tget_tset_other _ _ _ _ he]
  · by_cases he : k = unitKey kind ix
    · rw [he] at hk hs
      exact absurd (hP hs) hk
    · rwa [setUnit, tget_tset_other _ _ _ _ he]

theorem getUnit_setUnit_self (kind ix : Nat) (x : FUnit) (s : State) : getUnit kind ix (setUnit kind ix x s) = x := tget_tset_self ..

theorem standing_toFenced (kind ix cause : Nat) {effect : State → State} (he : ∀ u, standing (effect u) = standing u) (s : State) :
    standing (toFenced kind ix cause effect s) = standing (setUnit kind ix { state := .fenced } s) :=
  ((fr_followFence _).standing rfl).trans (((fr_endDrain ..).standing rfl).trans ((he _).trans ((fr_postUnit ..).standing rfl)))

theorem getUnit_of_standing (h : standing t = standing s) (kind ix : Nat) : (getUnit kind ix t).state = (getUnit kind ix s).state :=
  (unitsStand_of_standing h).state _

theorem toFenced_state (kind ix cause : Nat) {effect : State → State} (he : ∀ u, standing (effect u) = standing u) (s : State) :
    (getUnit kind ix (toFenced kind ix cause effect s)).state = .fenced := by
  rw [getUnit_of_standing (standing_toFenced kind ix cause he s), getUnit_setUnit_self]

theorem fences_toFenced {kind ix : Nat} (hP : P (unitKey kind ix)) (cause : Nat) {effect : State → State}
    (he : ∀ u, standing (effect u) = standing u) (s : State) : Fences P s (toFenced kind ix cause effect s) :=
  (fences_setUnit FenceState.noConfusion fun _ => hP).trans (.of_standing (standing_toFenced kind ix cause he s))

theorem fences_fenceOne {kind ix : Nat} (hP : P (unitKey kind ix)) (cause : Nat) (cls : Option Nat) (s : State) :
    Fences P s (fenceOne kind ix cause cls s) := by
  unfold fenceOne
  split
  · exact .refl s
  · rename_i h
    have hf : Fences P s (setUnit kind ix { getUnit kind ix s with passed := false } s) := .of_stand (stand_setUnit rfl)
    exact .ite (hf.trans (.of_standing (standing_loseBank ..))) hf
  · exact fences_toFenced hP cause (standing_fenceEffect kind ix cls) s

theorem fenceOne_out (kind ix cause : Nat) (cls : Option Nat) (s : State) :
    (getUnit kind ix (fenceOne kind ix cause cls s)).state ≠ .inService := by
  unfold fenceOne
  split
  · rename_i h
    rw [h]
    decide
  · rename_i h
    have hs : (getUnit kind ix (setUnit kind ix { getUnit kind ix s with passed := false } s)).state ≠ .inService := by
      rw [getUnit_setUnit_self, h]
      decide
    dsimp only
    split
    · rwa [getUnit_of_standing (standing_loseBank ..)]
    · exact hs
  · rw [toFenced_state kind ix cause (standing_fenceEffect kind ix cls)]
    decide

theorem fences_fenceNow {kind ix : Nat} (hP : P (unitKey kind ix))
    (h3 : kind = 4 → P (unitKey 3 (ix / 2 * 2)) ∧ P (unitKey 3 (ix / 2 * 2 + 1))) (cause : Nat) (cls : Option Nat) (s : State) :
    Fences P s (fenceNow kind ix cause cls s) := by
  unfold fenceNow
  dsimp only
  split
  · rename_i h
    obtain ⟨ha, hb⟩ := h3 h.1
    refine (fences_fenceOne hP cause cls s).trans (.foldl (fun u g hg => .ite (.refl u) (fences_fenceOne ?_ cause cls u)) _)
    rcases List.mem_pair.mp hg with rfl | rfl
    · exact ha
    · exact hb
  · exact fences_fenceOne hP cause cls s

theorem fenceNow_out (kind ix cause : Nat) (cls : Option Nat) (s : State) :
    (getUnit kind ix (fenceNow kind ix cause cls s)).state ≠ .inService := by
  have h := fenceOne_out kind ix cause cls s
  unfold fenceNow
  dsimp only
  split
  · exact (Fences.foldl (P := fun _ => True) (fun u g _ => .ite (.refl u) (fences_fenceOne trivial cause cls u)) _).getUnit_out h
  · exact h

theorem fences_endTest (kind ix : Nat) (ok : Bool) (s : State) : Fences P s (endTest kind ix ok s) := by
  unfold endTest
  dsimp only
  split
  · exact .refl s
  · rename_i h
    have hf : Fences P s (afterTest kind ix (postUnit kind ix 1 (if ok then 3 else 4)
        (setUnit kind ix { state := .fenced, passed := ok } s))) :=
      (fences_setUnit FenceState.noConfusion fun hs => absurd hs (by rw [not_not.mp h]; decide)).trans
        (.of_standing (((fr_afterTest ..).standing rfl).trans ((fr_postUnit ..).standing rfl)))
    split
    · exact hf
    · exact hf.trans (.of_standing (standing_finishRef ..))

theorem fences_endTests (l : List Intake) (s : State) : Fences P s (endTests l s) :=
  .foldl (fun u _ _ => .foldl (fun v _ _ => .ite (fences_endTest ..) (.refl v)) u) s

end

/-! ### DC00 -/

/-- The key of a unit other than DC00. -/
def OtherUnit (k : Nat) : Prop := k ≠ unitKey 10 0

theorem otherUnit_key {kind ix : Nat} (hi : ix < 1024) (hd : ¬(kind = 10 ∧ ix = 0)) : OtherUnit (unitKey kind ix) := by
  unfold OtherUnit unitKey
  omega

theorem fences_fenceNow_other {kind ix : Nat} (hi : ix < 1024) (hd : ¬(kind = 10 ∧ ix = 0)) (cause : Nat) (cls : Option Nat) (s : State) :
    Fences OtherUnit s (fenceNow kind ix cause cls s) :=
  fences_fenceNow (otherUnit_key hi hd) (fun _ => ⟨otherUnit_key (by omega) (by omega), otherUnit_key (by omega) (by omega)⟩) cause cls s

/-- The table of units keeps its form, and DC00 stays in service. -/
structure UnitsKept (s t : State) : Prop where
  rising : trising s.flt.units = true → trising t.flt.units = true
  dc00 : dc00Ok s = true → dc00Ok t = true

section
variable {s t u : State}

theorem UnitsKept.refl (s : State) : UnitsKept s s := ⟨id, id⟩

theorem UnitsKept.trans (a : UnitsKept s t) (b : UnitsKept t u) : UnitsKept s u := ⟨fun h => b.rising (a.rising h),
    fun h => b.dc00 (a.dc00 h)⟩

theorem dc00Ok_iff (s : State) : dc00Ok s = true ↔ (getUnit 10 0 s).state = .inService := decide_eq_true_iff

theorem Fences.kept (h : Fences OtherUnit s t) : UnitsKept s t :=
  ⟨h.rising, fun hd => (dc00Ok_iff t).mpr (h.serves (unitKey 10 0) (fun hn => hn rfl) ((dc00Ok_iff s).mp hd))⟩

theorem UnitsKept.of_standing (h : standing t = standing s) : UnitsKept s t := (Fences.of_standing h).kept

theorem UnitsKept.ite {c : Prop} [Decidable c] (ht : UnitsKept s t) (hu : UnitsKept s u) : UnitsKept s (if c then t else u) := by
  split
  · exact ht
  · exact hu

theorem UnitsKept.ite_fst {α : Type} {c : Prop} [Decidable c] {x y : State × α} (hx : UnitsKept s x.1) (hy : UnitsKept s y.1) :
    UnitsKept s (if c then x else y).1 := by
  rw [apply_ite Prod.fst]
  exact .ite hx hy

theorem unitsKept_freshState (o : State) : UnitsKept s (freshState o) := ⟨fun _ => rfl, fun _ => rfl⟩

theorem UnitsKept.of_units (h : t.flt.units = s.flt.units) : UnitsKept s t := .of_standing (congrArg unitsStanding h)

theorem UnitsKept.doReset (kind : Nat) (h : UnitsKept s t) : UnitsKept s (doReset kind t) :=
  h.trans (.ite (.refl t) ⟨fun _ => rfl, fun _ => rfl⟩)

end
end Sys2Proof.Machine
end

section
/-! PROOFS. Every row keeps the table of units in form and DC00 in service (R505 to R510). -/
namespace Sys2Proof.Machine

theorem kindCount_le (kind : Nat) : kindCount kind ≤ 1024 := by
  by_cases h : kind < 13
  · revert kind
    decide
  · rw [kindCount, List.getD_eq_getElem?_getD, List.getElem?_eq_none (by simp; omega)]
    exact Nat.zero_le _

theorem unitKept_dc00 (s : State) : unitKept 10 0 s = true := by
  simp [unitKept]

theorem not_dc00_of_unitKept {kind ix : Nat} {s : State} (h : unitKept kind ix s = false) : ¬(kind = 10 ∧ ix = 0) := by
  rintro ⟨rfl, rfl⟩
  rw [unitKept_dc00] at h
  cases h

theorem unitOperand_none {c : Cmd} {other : Nat} (h : unitOperand c other = none) : c.op 2 2 < kindCount (c.op 0 1) := by
  unfold unitOperand at h
  split at h
  · cases h
  · split at h
    · cases h
    · split at h
      · cases h
      · rename_i hk
        exact Nat.lt_of_not_le hk

/-! ### Commands -/

section
variable {s : State}

theorem unitsKept_setUnit_inService (kind ix : Nat) {x : FUnit} (hx : x.state = .inService) (s : State) : UnitsKept s (setUnit kind ix x
    s) := by
  refine ⟨fun hr => trising_tset _ _ _ hr, fun hd => (dc00Ok_iff _).mpr ?_⟩
  by_cases he : unitKey 10 0 = unitKey kind ix
  · rw [getUnit, he, setUnit, tget_tset_self]
    exact hx
  · rw [getUnit, setUnit, tget_tset_other _ _ _ _ he]
    exact (dc00Ok_iff s).mp hd

theorem unitsKept_setUnit_same {kind ix : Nat} (x : FUnit) (h : x.state = (getUnit kind ix s).state) : UnitsKept s (setUnit kind ix x s) :=
  (Fences.of_stand (stand_setUnit h)).kept

theorem unitsKept_unitFenceCmd (c : Cmd) (s : State) : UnitsKept s (unitFenceCmd c s).1 := by
  unfold unitFenceCmd
  dsimp only
  refine .ite_fst (.refl s) ?_
  split
  · exact .refl s
  · rename_i h
    refine .ite_fst (.refl s) ?_
    split
    · exact .refl s
    · rename_i hb
      simp only [not_or, Bool.not_eq_true] at hb
      obtain ⟨_, hk, _⟩ := hb
      have hn : ∀ cause, UnitsKept s (fenceNow (c.op 0 1) (c.op 2 2) cause none s) := fun cause =>
        (fences_fenceNow_other (lt_of_lt_of_le (unitOperand_none h) (kindCount_le _)) (not_dc00_of_unitKept hk) cause none s).kept
      refine .ite_fst (hn 2) (.ite_fst (.ite_fst (unitsKept_setUnit_same _ ?_)
        ((unitsKept_setUnit_same { getUnit (c.op 0 1) (c.op 2 2) s with draining := some c.ref } ?_).trans
          (.of_standing (standing_startDrain ..)))) (hn 1))
      · rfl
      · rfl

theorem unitsKept_unitTestCmd (c : Cmd) (s : State) : UnitsKept s (unitTestCmd c s).1 := by
  unfold unitTestCmd
  dsimp only
  split
  · exact .refl s
  · split
    · exact .refl s
    · exact .refl s
    · rename_i h
      exact (fences_setUnit FenceState.noConfusion fun hs => absurd hs (by rw [h]; decide)).kept

theorem unitsKept_unitReturnCmd (c : Cmd) (s : State) : UnitsKept s (unitReturnCmd c s).1 := by
  unfold unitReturnCmd
  dsimp only
  split
  · exact .refl s
  · split
    · exact .refl s
    · exact .refl s
    · refine .ite_fst ((unitsKept_setUnit_inService (c.op 0 1) (c.op 2 2) (x := {}) rfl s).trans (.of_standing ?_)) (.refl s)
      exact ((fr_followFence _).standing rfl).trans ((standing_returnEffect ..).trans ((fr_postUnit ..).standing rfl))

theorem unitsKept_fenceComplete {kind ix : Nat} (hi : ix < kindCount kind) (s : State) : UnitsKept s (fenceComplete kind ix s) := by
  unfold fenceComplete
  dsimp only
  refine .ite (.refl s) ?_
  split
  · refine (unitsKept_setUnit_inService kind ix (x := {}) rfl s).trans (.of_standing (((fr_endDrain ..).standing rfl).trans ?_))
    simp only [apply_ite standing, standing_mk, unitsStanding_units, ite_self]
  · rename_i hk
    exact (fences_toFenced (otherUnit_key (lt_of_lt_of_le hi (kindCount_le kind)) (not_dc00_of_unitKept (eq_false_of_ne_true hk))) 1
      (fun u => (fr_drainedEffect kind ix u).standing rfl) s).kept

theorem unitsKept_lcAdvanceCmd (c : Cmd) (host : HostAns) (s : State) : UnitsKept s (lcAdvanceCmd c host s).1 := by
  have hs : ∀ y, UnitsKept s { s with sys := y } := fun y => .of_units rfl
  refine .ite_fst (.refl s) (.ite_fst (.refl s) (.ite_fst ?_ (.ite_fst ((hs _).doReset 5) (.ite_fst ((hs _).doReset 5) (.refl s)))))
  cases host with
  | error st got => exact .refl s
  | data bs => exact (hs _).doReset 5

theorem unitsKept_debugUnlockCmd (c : Cmd) (host : HostAns) (s : State) : UnitsKept s (debugUnlockCmd c host s).1 := by
  refine .ite_fst (.refl s) (.ite_fst (.refl s) ?_)
  split
  · exact .refl s
  · cases host with
    | error st got => exact .refl s
    | data bs =>
      refine .ite_fst (.of_standing ((standing_post ..).trans (standing_report ..))) (.ite_fst ?_ (.of_standing (standing_post ..)))
      exact UnitsKept.doReset 6 (.of_standing ((standing_finish ..).trans (standing_post ..)))

theorem unitsKept_sysResetCmd (c : Cmd) (s : State) : UnitsKept s (sysResetCmd c s).1 :=
  .ite_fst (.refl s) ((UnitsKept.refl s).doReset 3)

theorem unitsKept_runCmd {body : Cmd → State → State × CmdEnd} (hb : ∀ c u,
    UnitsKept u (body c u).1) (op : Nat) (ref : CmdRef) (s : State) :
    UnitsKept s (runCmd op ref body s) :=
  runCmdIn_keeps (P := UnitsKept s) (fun hf hu => hu.trans (.of_standing (hf.standing rfl))) (fun c _ hu => hu.trans (hb c _)) op ref
    (.refl s)

/-! ### WIPE -/

theorem fences_wipeReadBack (f : WipeFound) (s : State) : Fences OtherUnit s (wipeReadBack f s) := by
  refine (Fences.foldl (fun u g _ => ?_) s).trans (.foldl (fun v x _ => .of_standing (standing_report ..)) _)
  have hc := chanOfAddr_lt (65536 * g) u
  exact (Fences.of_standing (standing_report ..)).trans (fences_fenceNow_other (by omega) (by omega) 0 (some 178) _)

theorem unitsKept_wipeComplete (f : WipeFound) (s : State) : UnitsKept s (wipeComplete f s) := by
  refine .ite (.refl s) ((fences_wipeReadBack f s).kept.trans ?_)
  refine UnitsKept.trans (.of_standing ((fr_endWipeRuns _).standing rfl)) (.of_standing ((standing_railFollow _ _).trans ?_))
  simp only [standing_mk, unitsStanding_units]

end
end Sys2Proof.Machine
end

section
/-! PROOFS. The fault manager's cycle and the units: a record fences what it stands for, and never DC00 while it serves (R505, R508). -/
namespace Sys2Proof.Machine

/-! ### Sorted lists -/

theorem mem_insertBy {α : Type} {lt : α → α → Bool} {x y : α} {l : List α} : y ∈ insertBy lt x l ↔ y = x ∨ y ∈ l := by
  induction l with
  | nil => simp [insertBy]
  | cons z r ih =>
    unfold insertBy
    split
    · exact List.mem_cons
    · rw [List.mem_cons, ih, List.mem_cons]
      exact or_left_comm

theorem mem_foldl_insertBy {α : Type} {lt : α → α → Bool} {y : α} {l acc : List α} :
    y ∈ l.foldl (fun a x => insertBy lt x a) acc ↔ y ∈ l ∨ y ∈ acc := by
  induction l generalizing acc with
  | nil => simp
  | cons x r ih => rw [List.foldl_cons, ih, mem_insertBy, List.mem_cons, or_assoc, or_left_comm]

theorem mem_sortBy {α : Type} {lt : α → α → Bool} {y : α} {l : List α} : y ∈ sortBy lt l ↔ y ∈ l := by
  rw [sortBy, mem_foldl_insertBy]
  simp

/-! ### What a record fences -/

/-- The units that a draft fences, and the lane groups that a pipe takes with it, are among those whose keys `P` allows. -/
def Draft.Allowed (P : Nat → Prop) (d : Draft) : Prop := ∀ us, d.goal = .units us → ∀ u ∈ us, P (unitKey u.1 u.2) ∧
  (u.1 = 4 → P (unitKey 3 (u.2 / 2 * 2)) ∧ P (unitKey 3 (u.2 / 2 * 2 + 1)))

theorem Draft.allowed_all (d : Draft) : d.Allowed fun _ => True := fun _ _ _ _ => ⟨trivial, fun _ => ⟨trivial, trivial⟩⟩

theorem Draft.Allowed.of_goal {P : Nat → Prop} {d e : Draft} (h : d.Allowed P) (hg : e.goal = d.goal) : e.Allowed P :=
  fun us hu => h us (hg.symm.trans hu)

section
variable {P : Nat → Prop} {s : State}

theorem fences_fenceReact {d : Draft} (h : d.Allowed P) (s : State) : Fences P s (fenceReact d s) := by
  unfold fenceReact
  split
  · rename_i us hu
    exact .foldl (fun v u hm => fences_fenceNow (h us hu u hm).1 (h us hu u hm).2 0 _ v) s
  · exact .ite (.refl s) (.of_standing ((standing_modGrp ..).trans (standing_grpTo ..)))
  · exact .of_stand (.of_units rfl)
  · exact .refl s

/-- The state in which a draft has become a record: before its event, vector 256 and its fence. -/
def recorded (d : Draft) (s : State) : State :=
  let r := { d.r with seq := s.flt.nextSeq }
  { s with flt := { s.flt with
    recs := r :: s.flt.recs.map fun x => if x.aon = r.aon then { x with sameCycle := true } else x
    hist := (r.seq :: s.flt.hist).take 32, first := some (s.flt.first.getD r.seq)
    ackAt := if r.acked then tmod s.flt.ackAt r.cls fun a => a.map fun x => (x.1, r.level) else s.flt.ackAt
    nextSeq := (s.flt.nextSeq + 1) % 2 ^ 32, levelCounts := tmod s.flt.levelCounts r.level fun n => sat 32 (n + 1) } }

/-- The state that has told of a draft's record, in which its fence takes effect. -/
def announced (d : Draft) (s : State) : State :=
  let t := post 0x8000 (({ d.r with seq := s.flt.nextSeq } : FltRec).bytes.take 32) (recorded d s)
  if d.force ∨ d.r.level ≥ rdFld Reg.fltCtrl 0 0 3 t then raiseVector 256 t else t

theorem formRecord_eq (d : Draft) (s : State) : formRecord d s = fenceReact d (announced d s) := rfl

theorem fr_announced (d : Draft) (s : State) : Fr 162 (recorded d s) (announced d s) := by
  have ht : Fr 162 (recorded d s) (post 0x8000 (({ d.r with seq := s.flt.nextSeq } : FltRec).bytes.take 32) (recorded d s)) := fr_post ..
  exact .ite (ht.trans ((fr_raiseVector ..).mono rfl)) ht

theorem fences_formRecord {d : Draft} (h : d.Allowed P) (s : State) : Fences P s (formRecord d s) := by
  have hr : Fences P s (recorded d s) := .of_stand (.of_units rfl)
  exact (hr.trans (.of_standing ((fr_announced d s).standing rfl))).trans (fences_fenceReact h _)

/-- The state in which the reports of a cycle, in order `l`, have been merged. -/
def mergedState (l : List Intake) (s : State) : State := (mergeAll l (reportLost (takeHeads s).2)).2

theorem standing_mergedState (l : List Intake) (s : State) : standing (mergedState l s) = standing s :=
  ((fr_mergeAll l _).standing rfl).trans ((standing_reportLost _).trans ((fr_takeHeads s).standing rfl))

theorem fences_formAll (h : ∀ l fresh, ∀ d ∈ draftAll fresh (mergedState l s), d.Allowed P) : Fences P s (formAll s) := by
  have allowed (l fresh : List Intake) (p : Draft → Bool) : ∀ d ∈ (sortBy Draft.before (draftAll fresh (mergedState l s))).map fun d =>
      { d with r := { d.r with sameCycle := p d } }, d.Allowed P := fun d hd => by
    obtain ⟨e, he, rfl⟩ := List.mem_map.mp hd
    exact (h l fresh e (mem_sortBy.mp he)).of_goal rfl
  have formed (l tested : List Intake) (ds : List Draft) (hds : ∀ d ∈ ds, d.Allowed P) :
      Fences P s (endTests tested (ds.foldl (fun s d => formRecord d s) (mergeAll l (reportLost (takeHeads s).2)).2)) :=
    (Fences.of_standing (standing_mergedState l s)).trans (.trans (.foldl (fun u d hd => fences_formRecord (hds d hd) u) _)
      (fences_endTests tested _))
  have served {t : State} (ht : Fences P s t) : Fences P s { t with flt := { t.flt with served := true } } :=
    ⟨ht.rising, ht.out, ht.serves⟩
  have locked {t : State} (ht : Fences P s t) : Fences P s (enterLockdown t) := ht.trans (.of_standing (standing_enterLockdown t))
  have held {t : State} (ht : Fences P s t) : Fences P s (enterHold t) := ht.trans (.of_standing ((fr_enterHold t).standing rfl))
  unfold formAll
  dsimp only
  split
  · exact locked (served (formed _ _ _ (allowed _ _ _)))
  · split
    · exact held (served (formed _ _ _ (allowed _ _ _)))
    · exact served (formed _ _ _ (allowed _ _ _))

end

/-! ### DC00 -/

/-- What R505 and R508 let a record fence is not DC00 while it is in service. -/
theorem goalOf_units_other {cls kind unit : Nat} {s : State} {us : List (Nat × Nat)} (hd : dc00Ok s = true)
    (h : goalOf cls kind unit s = .units us) : ∀ u ∈ us, u.2 < 1024 ∧ ¬(u.1 = 10 ∧ u.2 = 0) := by
  unfold goalOf at h
  split at h
  · split at h <;> cases h
  · split at h
    · cases h
    · split at h
      · cases h
      · dsimp only at h
        generalize (if fenceKind cls kind = kind ∧ unit < kindCount kind then reportSet cls kind unit else []) = l at h
        split at h
        · cases h
        · rename_i he
          split at h
          · cases h
          · rename_i hk
            cases h
            intro u hu
            have hx : unitExists u.1 u.2 s = true := by
              by_contra hx
              exact he (.inr (by simp only [Bool.not_eq_true', List.all_eq_false]; exact ⟨u, hu, hx⟩))
            refine ⟨?_, fun hn => hk (List.any_eq_true.mpr ⟨u, hu, ?_⟩)⟩
            · have hc := kindCount_le u.1
              simp only [unitExists, Bool.and_eq_true, decide_eq_true_eq] at hx
              omega
            · rw [hn.1, hn.2, unitKept_dc00, Bool.and_true]
              exact hd

theorem draft_allowed {i : Intake} {s : State} (hd : dc00Ok s = true) : (draft i s).Allowed OtherUnit := by
  intro us hu u hm
  have hg : goalOf i.rep.cls i.rep.kind i.rep.unit s = .units us := by
    unfold draft at hu
    dsimp only at hu
    split at hu
    · exact hu
    · cases hu
  obtain ⟨hi, hn⟩ := goalOf_units_other hd hg u hm
  exact ⟨otherUnit_key hi hn, fun _ => ⟨otherUnit_key (by omega) (by omega), otherUnit_key (by omega) (by omega)⟩⟩

theorem dc00Ok_markDraft {d : Draft} {s : State} (h : d.Allowed OtherUnit) (hd : dc00Ok s = true) : dc00Ok (markDraft d s) = true := by
  unfold markDraft
  split
  · rename_i us hu
    exact (Fences.foldl (P := OtherUnit) (fun v u hm => .ite (fences_setUnit FenceState.noConfusion fun _ => (h us hu u hm).1) (.refl v))
      s).kept.dc00 hd
  · exact hd

theorem draftAll_allowed {l : List Intake} {s : State} (hd : dc00Ok s = true) : ∀ d ∈ draftAll l s, d.Allowed OtherUnit := by
  induction l generalizing s with
  | nil => exact fun d h => absurd h List.not_mem_nil
  | cons i r ih => exact List.forall_mem_cons.mpr ⟨draft_allowed hd, ih (dc00Ok_markDraft (draft_allowed hd) hd)⟩

theorem unitsKept_formAll (s : State) : UnitsKept s (formAll s) := by
  refine ⟨(fences_formAll fun _ _ d _ => d.allowed_all).rising, fun hd => (fences_formAll (P := OtherUnit) fun l fresh => ?_).kept.dc00 hd⟩
  exact draftAll_allowed ((UnitsKept.of_standing (standing_mergedState l s)).dc00 hd)

end Sys2Proof.Machine
end

section
/-! PROOFS. Every row keeps the table of units in form, DC00 in service and the fuses blown, and leaves the queue (R505 to R510, 19.7). -/
namespace Sys2Proof.Machine

theorem leaves_within_of {P : State → Prop} {t : State} {ok : Bool} (h : ok = true → P t) : Leaves P (within ok t) := by
  cases ok with
  | false => exact fun u hu => by cases hu
  | true => exact leaves_within (h rfl)

/-! ### The units -/

section
variable (s : State)

theorem unitsKept_recordFormation (l : List Report) : Leaves (UnitsKept s) (execRecordFormation l s) := by
  refine leaves_within (.ite (.refl s) (UnitsKept.trans (.of_standing ?_) (unitsKept_formAll _)))
  exact standing_foldl (fun u r => (standing_enqueue ..).trans ((fr_reportedPll r u).standing rfl)) l s

theorem unitsKept_execFenceComplete (kind ix : Nat) : Leaves (UnitsKept s) (execFenceComplete kind ix s) :=
  leaves_within_of fun h => unitsKept_fenceComplete (of_decide_eq_true h) s

theorem unitsKept_testEnd (kind ix : Nat) (found : TestFound) : Leaves (UnitsKept s) (execTestEnd kind ix found s) :=
  leaves_within (fences_endTest kind ix _ s).kept

theorem unitsKept_resetReq (v : Byte) (soon : Bool) : Leaves (UnitsKept s) (execResetReq v soon s) :=
  leaves_next (.ite (.refl s) (.ite (.of_units rfl) (.ite (.doReset 2 (.refl s)) (.of_units rfl))))

theorem unitsKept_resetNAssert : Leaves (UnitsKept s) (execResetNAssert s) := leaves_next (.doReset 1 (.of_units rfl))

theorem unitsKept_vddAonGood (e : Bool) : Leaves (UnitsKept s) (execVddAonGood e s) :=
  leaves_next (.ite (.refl s) ⟨fun _ => rfl, fun _ => rfl⟩)

theorem unitsKept_vddAonLost : Leaves (UnitsKept s) (execVddAonLost s) :=
  leaves_next (.ite (.refl s) ⟨fun _ => rfl, fun _ => rfl⟩)

end

theorem leaves_unitsKept_runCmd {body : Cmd → State → State × CmdEnd} (hb : ∀ c u, UnitsKept u (body c u).1) (op : Nat) (ref : CmdRef)
    (s : State) : Leaves (UnitsKept s) (.next (runCmd op ref body s)) := leaves_next (unitsKept_runCmd hb op ref s)

/-- Whatever row a step runs, the table of units keeps its form and DC00 stays in service. -/
theorem exec_unitsKept {c : Instr} {s t : State} (he : exec c s = .next t) : UnitsKept s t := by
  by_cases hc : unitRow c = false
  · exact .of_units (exec_units he hc)
  cases c with
  | recordFormation l => exact unitsKept_recordFormation s l t he
  | fenceComplete kind ix => exact unitsKept_execFenceComplete s kind ix t he
  | testEnd kind ix found => exact unitsKept_testEnd s kind ix found t he
  | resetReq v soon => exact unitsKept_resetReq s v soon t he
  | unitFence ref => exact leaves_unitsKept_runCmd unitsKept_unitFenceCmd _ ref s t he
  | unitTest ref => exact leaves_unitsKept_runCmd unitsKept_unitTestCmd _ ref s t he
  | unitReturn ref => exact leaves_unitsKept_runCmd unitsKept_unitReturnCmd _ ref s t he
  | vddAonGood e => exact unitsKept_vddAonGood s e t he
  | vddAonLost => exact unitsKept_vddAonLost s t he
  | railResetLevel rail => exact leaves_within (P := UnitsKept s) (.doReset 4 (.refl s)) t he
  | resetNAssert => exact unitsKept_resetNAssert s t he
  | wipeComplete found => exact leaves_within (P := UnitsKept s) (unitsKept_wipeComplete found s) t he
  | sysReset ref => exact leaves_unitsKept_runCmd unitsKept_sysResetCmd _ ref s t he
  | lcAdvance ref host => exact leaves_unitsKept_runCmd (fun c => unitsKept_lcAdvanceCmd c host) _ ref s t he
  | debugUnlock ref host => exact leaves_unitsKept_runCmd (fun c => unitsKept_debugUnlockCmd c host) _ ref s t he
  | registerWrite a b c => exact .of_standing (stays_registerWrite a b c s t he)
  | registerReadClear a => exact .of_standing (stays_registerReadClear a s t he)
  | lowWordRead a => exact .of_standing (stays_lowWordRead a s t he)
  | ringEnable a b => exact .of_standing (stays_ringEnable a b s t he)
  | ringDisable a b => exact .of_standing (stays_ringDisable a b s t he)
  | lateError a b c => exact .of_standing (stays_lateError a b c s t he)
  | puntBufferWrite a b => exact .of_standing (stays_puntBufferWrite a b s t he)
  | hostLinkChange a b c => exact .of_standing (stays_hostLinkChange a b c s t he)
  | hostLinkDown => exact .of_standing (stays_hostLinkDown s t he)
  | perstNAssert => exact .of_standing (stays_perstNAssert s t he)
  | macroEnable a b => exact .of_standing (stays_macroEnable a b s t he)
  | macroDisable a b => exact .of_standing (stays_macroDisable a b s t he)
  | macroRateChange a b => exact .of_standing (stays_macroRateChange a b s t he)
  | calibrationDone a b c => exact .of_standing (stays_calibrationDone a b c s t he)
  | negotiationComplete a b => exact .of_standing (stays_negotiationComplete a b s t he)
  | anTimeout a => exact .of_standing (stays_anTimeout a s t he)
  | receiversReady a b => exact .of_standing (stays_receiversReady a b s t he)
  | trainTimeout a b => exact .of_standing (stays_trainTimeout a b s t he)
  | adaptationConverged a b => exact .of_standing (stays_adaptationConverged a b s t he)
  | adaptTimeout a => exact .of_standing (stays_adaptTimeout a s t he)
  | laneLoss a b => exact .of_standing (stays_laneLoss a b s t he)
  | wakeDeclared a => exact .of_standing (stays_wakeDeclared a s t he)
  | wakeSnrOk a b => exact .of_standing (stays_wakeSnrOk a b s t he)
  | wakeTimeout a b => exact .of_standing (stays_wakeTimeout a b s t he)
  | laneRetrain a => exact .of_standing (stays_laneRetrain a s t he)
  | laneTest a => exact .of_standing (stays_laneTest a s t he)
  | layoutChange a b => exact .of_standing (stays_layoutChange a b s t he)
  | portAdmin a => exact .of_standing (stays_portAdmin a s t he)
  | blockLock a b => exact .of_standing (stays_blockLock a b s t he)
  | lockLoss a b => exact .of_standing (stays_lockLoss a b s t he)
  | hiBer a b => exact .of_standing (stays_hiBer a b s t he)
  | upDebounce a => exact .of_standing (stays_upDebounce a s t he)
  | remoteFault a b => exact .of_standing (stays_remoteFault a b s t he)
  | fecWindow a b => exact .of_standing (stays_fecWindow a b s t he)
  | frameReceive a b c d => exact .of_standing (stays_frameReceive a b c d s t he)
  | pfcFrameReceive a b c d => exact .of_standing (stays_pfcFrameReceive a b c d s t he)
  | pauseFrameReceive a b c => exact .of_standing (stays_pauseFrameReceive a b c s t he)
  | pfcFrameSend a => exact .of_standing (stays_pfcFrameSend a s t he)
  | pfcWatchdog a b => exact .of_standing (stays_pfcWatchdog a b s t he)
  | gateTransition a => exact .of_standing (stays_gateTransition a s t he)
  | sleepEntry a => exact .of_standing (stays_sleepEntry a s t he)
  | frameEnd a b c => exact .of_standing (stays_frameEnd a b c s t he)
  | groupEnable a b => exact .of_standing (stays_groupEnable a b s t he)
  | groupDisable a b => exact .of_standing (stays_groupDisable a b s t he)
  | overheadPosition a b c d => exact .of_standing (stays_overheadPosition a b c d s t he)
  | multiframeLock a b c => exact .of_standing (stays_multiframeLock a b c s t he)
  | overheadFrame a b c => exact .of_standing (stays_overheadFrame a b c s t he)
  | calendarSwitch a => exact .of_standing (stays_calendarSwitch a s t he)
  | calSwitchTimeout a => exact .of_standing (stays_calSwitchTimeout a s t he)
  | rxCalendarSwitch a => exact .of_standing (stays_rxCalendarSwitch a s t he)
  | slotClientSet a => exact .of_standing (stays_slotClientSet a s t he)
  | slotCmWrite a b => exact .of_standing (stays_slotCmWrite a b s t he)
  | slotCalSwitch a => exact .of_standing (stays_slotCalSwitch a s t he)
  | slotPmRead a => exact .of_standing (stays_slotPmRead a s t he)
  | parseThreadAssign a => exact .of_standing (stays_parseThreadAssign a s t he)
  | parseWord a => exact .of_standing (stays_parseWord a s t he)
  | ingressStages a => exact .of_standing (stays_ingressStages a s t he)
  | admission a => exact .of_standing (stays_admission a s t he)
  | remainingCells a b => exact .of_standing (stays_remainingCells a b s t he)
  | replication a b => exact .of_standing (stays_replication a b s t he)
  | dequeueDecision a => exact .of_standing (stays_dequeueDecision a s t he)
  | egressStages a b => exact .of_standing (stays_egressStages a b s t he)
  | transmitEnd a => exact .of_standing (stays_transmitEnd a s t he)
  | queueFlush a => exact .of_standing (stays_queueFlush a s t he)
  | emInsert a => exact .of_standing (stays_emInsert a s t he)
  | emDelete a => exact .of_standing (stays_emDelete a s t he)
  | emLookup a => exact .of_standing (stays_emLookup a s t he)
  | lpmLookup a => exact .of_standing (stays_lpmLookup a s t he)
  | ecmpRead a => exact .of_standing (stays_ecmpRead a s t he)
  | shadowCheck a b => exact .of_standing (stays_shadowCheck a b s t he)
  | editWrite a b => exact .of_standing (stays_editWrite a b s t he)
  | mcastWrite a b => exact .of_standing (stays_mcastWrite a b s t he)
  | mirrorWrite a => exact .of_standing (stays_mirrorWrite a s t he)
  | egressWrite a b => exact .of_standing (stays_egressWrite a b s t he)
  | parseRead a => exact .of_standing (stays_parseRead a s t he)
  | spillAssemblyTimeout a => exact .of_standing (stays_spillAssemblyTimeout a s t he)
  | readbackStart a => exact .of_standing (stays_readbackStart a s t he)
  | blockReadDone a b => exact .of_standing (stays_blockReadDone a b s t he)
  | shaperTick a => exact .of_standing (stays_shaperTick a s t he)
  | sampleWindowClose => exact .of_standing (stays_sampleWindowClose s t he)
  | contrib a => exact .of_standing (stays_contrib a s t he)
  | result a => exact .of_standing (stays_result a s t he)
  | resend a => exact .of_standing (stays_resend a s t he)
  | resultReq a => exact .of_standing (stays_resultReq a s t he)
  | wait a => exact .of_standing (stays_wait a s t he)
  | pace a => exact .of_standing (stays_pace a s t he)
  | paceSet a => exact .of_standing (stays_paceSet a s t he)
  | straggler a => exact .of_standing (stays_straggler a s t he)
  | abort a => exact .of_standing (stays_abort a s t he)
  | slotTimerExpiry a b => exact .of_standing (stays_slotTimerExpiry a b s t he)
  | emittedTimerExpiry a b => exact .of_standing (stays_emittedTimerExpiry a b s t he)
  | epochBoundary a => exact .of_standing (stays_epochBoundary a s t he)
  | slotRestore a b => exact .of_standing (stays_slotRestore a b s t he)
  | clusterStepChangeDone a => exact .of_standing (stays_clusterStepChangeDone a s t he)
  | jobMoveDone a => exact .of_standing (stays_jobMoveDone a s t he)
  | colJobCreate a b => exact .of_standing (stays_colJobCreate a b s t he)
  | colJobDestroy a => exact .of_standing (stays_colJobDestroy a s t he)
  | colPacePropose a => exact .of_standing (stays_colPacePropose a s t he)
  | bufferTestDone a b => exact .of_standing (stays_bufferTestDone a b s t he)
  | poolFree a => exact .of_standing (stays_poolFree a s t he)
  | poolTransfer a => exact .of_standing (stays_poolTransfer a s t he)
  | poolCopy a b => exact .of_standing (stays_poolCopy a b s t he)
  | seqWord a => exact .of_standing (stays_seqWord a s t he)
  | waitTimeout a b => exact .of_standing (stays_waitTimeout a b s t he)
  | blockOpDone a b c => exact .of_standing (stays_blockOpDone a b c s t he)
  | storeRepair a => exact .of_standing (stays_storeRepair a s t he)
  | noIssueTimeout a => exact .of_standing (stays_noIssueTimeout a s t he)
  | seqLoad a b => exact .of_standing (stays_seqLoad a b s t he)
  | seqFrameRead a => exact .of_standing (stays_seqFrameRead a s t he)
  | seqResume a => exact .of_standing (stays_seqResume a s t he)
  | seqStoreRead a => exact .of_standing (stays_seqStoreRead a s t he)
  | scrubRead a b c => exact .of_standing (stays_scrubRead a b c s t he)
  | tbEnable a b => exact .of_standing (stays_tbEnable a b s t he)
  | tbDisable a b => exact .of_standing (stays_tbDisable a b s t he)
  | slewDisable a b => exact .of_standing (stays_slewDisable a b s t he)
  | clk10Loss a => exact .of_standing (stays_clk10Loss a s t he)
  | holdoverExit a => exact .of_standing (stays_holdoverExit a s t he)
  | ppsInMissing => exact .of_standing (stays_ppsInMissing s t he)
  | todMessage a => exact .of_standing (stays_todMessage a s t he)
  | timeSet a => exact .of_standing (stays_timeSet a s t he)
  | timeAdjust a => exact .of_standing (stays_timeAdjust a s t he)
  | snapshotInstant a => exact .of_standing (stays_snapshotInstant a s t he)
  | dumpComplete a b => exact .of_standing (stays_dumpComplete a b s t he)
  | gauzeRecordWrite => exact .of_standing (stays_gauzeRecordWrite s t he)
  | ctrRead a => exact .of_standing (stays_ctrRead a s t he)
  | ctrDumpNow a => exact .of_standing (stays_ctrDumpNow a s t he)
  | powerSample a => exact .of_standing (stays_powerSample a s t he)
  | pmbusRead a => exact .of_standing (stays_pmbusRead a s t he)
  | droopReturn a => exact .of_standing (stays_droopReturn a s t he)
  | vrAlert a b => exact .of_standing (stays_vrAlert a b s t he)
  | vrAlertClear => exact .of_standing (stays_vrAlertClear s t he)
  | sensorRead a => exact .of_standing (stays_sensorRead a s t he)
  | thermalRecovery a => exact .of_standing (stays_thermalRecovery a s t he)
  | thermalTrip a => exact .of_standing (stays_thermalTrip a s t he)
  | domainPowerDownDone a => exact .of_standing (stays_domainPowerDownDone a s t he)
  | pwrDomain a => exact .of_standing (stays_pwrDomain a s t he)
  | clockMonitorWindow a b => exact .of_standing (stays_clockMonitorWindow a b s t he)
  | diagTest a b => exact .of_standing (stays_diagTest a b s t he)
  | resetNRelease a b => exact .of_standing (stays_resetNRelease a b s t he)
  | bootImageAccepted a b => exact .of_standing (stays_bootImageAccepted a b s t he)
  | hostImageChecked a => exact .of_standing (stays_hostImageChecked a s t he)
  | drainLimit => exact .of_standing (stays_drainLimit s t he)
  | modeSet a => exact .of_standing (stays_modeSet a s t he)
  | tapInstruction a b => exact .of_standing (stays_tapInstruction a b s t he)
  | channelTrainingDone a b => exact .of_standing (stays_channelTrainingDone a b s t he)
  | noAcceptableImage => exact .of_standing (stays_noAcceptableImage s t he)
  | laneGroupClockLock a b => exact .of_standing (stays_laneGroupClockLock a b s t he)
  | _ => exact absurd rfl hc

/-! ### The fuses -/

/-- The fuses have reached a life cycle, a rollback count and a set of revoked keys, or gone on from there. -/
structure Blown (lc rb rv : Nat) (u : State) : Prop where
  lifecycle : lc ≤ u.sys.lifecycle.code
  rollback : rb ≤ u.sys.rollback
  revoked : u.sys.revoked &&& rv = rv

section
variable {lc rb rv : Nat} {s t : State}

theorem Blown.of_fuses (h : (t.sys.lifecycle, t.sys.rollback, t.sys.revoked, t.sys.keyHash) =
    (s.sys.lifecycle, s.sys.rollback, s.sys.revoked, s.sys.keyHash)) (hs : Blown lc rb rv s) : Blown lc rb rv t := by
  simp only [Prod.mk.injEq] at h
  obtain ⟨hl, hr, hv, -⟩ := h
  exact ⟨hl ▸ hs.lifecycle, hr ▸ hs.rollback, hv ▸ hs.revoked⟩

theorem Blown.frame (h : Fr 162 s t) (hs : Blown lc rb rv s) : Blown lc rb rv t := hs.of_fuses (h.fuses.resolve_left (by decide))

theorem Blown.reset (kind : Nat) (hs : Blown lc rb rv s) : Blown lc rb rv (doReset kind s) :=
  hs.of_fuses ((fr_doReset kind s).fuses.resolve_left (by decide))

theorem Blown.ite_fst {α : Type} {c : Prop} [Decidable c] {x y : State × α} (hx : c → Blown lc rb rv x.1) (hy : Blown lc rb rv y.1) :
    Blown lc rb rv (if c then x else y).1 := by
  split
  · exact hx ‹_›
  · exact hy

/-- Revoking further keys leaves revoked what was. -/
theorem or_and_of_and {a b m : Nat} (h : a &&& m = m) : (a ||| b) &&& m = m := by
  refine Nat.eq_of_testBit_eq fun i => ?_
  have hi := congrArg (Nat.testBit · i) h
  simp only [Nat.testBit_and, Nat.testBit_or] at hi ⊢
  revert hi
  cases a.testBit i <;> cases m.testBit i <;> simp

theorem Blown.fuse {y : SysState} (hs : Blown lc rb rv s) (hl : s.sys.lifecycle.code ≤ y.lifecycle.code) (hr : s.sys.rollback ≤ y.rollback)
    (hv : y.revoked &&& rv = rv) : Blown lc rb rv (doReset 5 { s with sys := y }) :=
  Blown.reset 5 ⟨hs.lifecycle.trans hl, hs.rollback.trans hr, hv⟩

theorem code_le_retired (l : LifeCycle) : l.code ≤ LifeCycle.retired.code := by
  cases l <;> decide

theorem blown_lcAdvanceCmd (c : Cmd) (host : HostAns) (hs : Blown lc rb rv s) : Blown lc rb rv (lcAdvanceCmd c host s).1 := by
  refine .ite_fst (fun _ => hs) (.ite_fst (fun _ => hs) (.ite_fst (fun h => ?_) (.ite_fst (fun h => ?_) (.ite_fst (fun _ => ?_) hs))))
  · cases host with
    | error st got => exact hs
    | data bs => exact hs.fuse ((congrArg LifeCycle.code h.2).le.trans (Nat.zero_le _)) le_rfl (or_and_of_and hs.revoked)
  · exact hs.fuse ((congrArg LifeCycle.code h.2.1).le.trans (by decide : (1 : Nat) ≤ 2)) le_rfl hs.revoked
  · exact hs.fuse (code_le_retired _) le_rfl hs.revoked

theorem blown_rollbackAdvanceCmd (c : Cmd) (hs : Blown lc rb rv s) : Blown lc rb rv (rollbackAdvanceCmd c s).1 :=
  .ite_fst (fun _ => hs) ⟨hs.lifecycle, hs.rollback.trans (Nat.le_max_left ..), hs.revoked⟩

theorem blown_keyRevokeCmd (c : Cmd) (hs : Blown lc rb rv s) : Blown lc rb rv (keyRevokeCmd c s).1 :=
  .ite_fst (fun _ => hs) (.ite_fst (fun _ => hs) ⟨hs.lifecycle, hs.rollback, or_and_of_and hs.revoked⟩)

theorem leaves_blown {body : Cmd → State → State × CmdEnd} (hb : ∀ c u, Blown lc rb rv u → Blown lc rb rv (body c u).1) (op : Nat)
    (ref : CmdRef) (hs : Blown lc rb rv s) : Leaves (Blown lc rb rv) (.next (runCmd op ref body s)) :=
  leaves_next (runCmdIn_keeps Blown.frame hb op ref hs)

/-- Whatever row a step runs, no fuse is unblown. -/
theorem exec_blown {c : Instr} (he : exec c s = .next t) (hs : Blown lc rb rv s) : Blown lc rb rv t := by
  by_cases hc : fuseRow c = false
  · exact hs.of_fuses (exec_fuses he hc)
  cases c with
  | lcAdvance ref host => exact leaves_blown (fun c _ => blown_lcAdvanceCmd c host) _ ref hs t he
  | rollbackAdvance ref => exact leaves_blown (fun c _ => blown_rollbackAdvanceCmd c) _ ref hs t he
  | keyRevoke ref => exact leaves_blown (fun c _ => blown_keyRevokeCmd c) _ ref hs t he
  | _ => exact absurd rfl hc

end

/-- Settles O60, from what every row keeps of the memory, the units and the fuses; with no command waiting a cycle of CLK_AON touches none
of them. -/
theorem stepInvariant : Obligations.StepInvariant := by
  unfold Obligations.StepInvariant
  rintro lc rb rv s t inv ⟨hm, hu, hd, hl, hr, hv⟩ h
  unfold step at h
  split at h
  · rename_i hp
    cases h
    have hf := fr_aonCycle s
    obtain ⟨hl', hr', hv'⟩ := Blown.of_fuses (hf.fuses.resolve_left (by decide)) ⟨hl, hr, hv⟩
    have hk := UnitsKept.of_standing (standing_aonCycle s)
    exact ⟨⟨(hf.burlapOk rfl).trans hm, hk.rising hu, hk.dc00 hd, hl', hr', hv'⟩, by rw [hf.pending.resolve_left (by decide), hp]; rfl⟩
  · rename_i c q hp
    have hk := exec_unitsKept h
    obtain ⟨hl', hr', hv'⟩ := exec_blown (lc := lc) (rb := rb) (rv := rv) h ⟨hl, hr, hv⟩
    exact ⟨⟨exec_burlapOk h hm, hk.rising hu, hk.dc00 hd, hl', hr', hv'⟩, by rw [exec_pending h, hp]; rfl⟩

end Sys2Proof.Machine
end

section
/-! PROOFS. One report in a cycle in which nothing else waits: the record that it forms, and what its level does (18.1 to 18.5). -/
namespace Sys2Proof.Machine

/-! ### The report's arrival -/

section
variable {rep : Report} {s u : State}

/-- A report changes at most the lock of the PLL that it names, and the units whose tests it fails. -/
def Marked (s u : State) : Prop := (∃ l us, u = { s with lan := l, flt := { s.flt with units := us } }) ∧ standing u = standing s

theorem Marked.refl (s : State) : Marked s s := ⟨⟨s.lan, s.flt.units, rfl⟩, rfl⟩

theorem Marked.trans {t : State} (a : Marked s t) (b : Marked t u) : Marked s u := by
  obtain ⟨⟨l, us, rfl⟩, ha⟩ := a
  obtain ⟨⟨m, vs, rfl⟩, hb⟩ := b
  exact ⟨⟨m, vs, rfl⟩, hb.trans ha⟩

theorem marked_reportedPll (rep : Report) (s : State) : Marked s (reportedPll rep s) := by
  unfold reportedPll
  split
  · exact ⟨⟨_, s.flt.units, rfl⟩, rfl⟩
  · exact .refl s

theorem marked_markTest (rep : Report) (s : State) : Marked s (markTest rep s) := by
  unfold markTest
  induction reportSet rep.cls rep.kind rep.unit generalizing s with
  | nil => exact .refl s
  | cons x l ih =>
    refine .trans ?_ (ih _)
    dsimp only
    split
    · rename_i h
      exact ⟨⟨s.lan, _, rfl⟩, standing_mark h.2⟩
    · exact .refl s

/-- The state that a report leaves, but for its place in the intake queue. -/
def arrived (rep : Report) (s : State) : State := markTest rep (reportedPll rep s)

theorem marked_arrived (rep : Report) (s : State) : Marked s (arrived rep s) := (marked_reportedPll rep s).trans (marked_markTest ..)

/-- The entry of the intake queue for a report, with its stamp. -/
def intakeOf (rep : Report) (s : State) : Intake :=
  { rep := { rep with detail := fit 24 rep.detail }, aon := s.aon, ts := (stamp s).1, ph := (stamp s).2, tb := tsBase s }

/-- One entry waits, in the queue of its block. -/
def waiting (b : Nat) (i : Intake) (s : State) : State := { s with flt := { s.flt with intake := tset [] b [i] } }

theorem enqueue_first (h : (markTest rep s).flt.intake = []) :
    enqueue rep s = waiting (rep.cls / 16) (intakeOf rep (markTest rep s)) (markTest rep s) := by
  unfold enqueue
  dsimp only
  rw [h]
  rfl

/-! ### A cycle with one entry -/

theorem foldl_once {α β : Type} {f : β → α → β} {x y : β} {b : α} (hx : ∀ k, k ≠ b → f x k = x) (hb : f x b = y) (hy : ∀ k, f y k = y)
    {l : List α} (h : b ∈ l) : l.foldl f x = y := by
  induction l with
  | nil => exact absurd h List.not_mem_nil
  | cons k l ih =>
    rw [List.foldl_cons]
    by_cases hk : k = b
    · rw [hk, hb]
      exact foldl_fixed l fun k _ => hy k
    · rw [hx k hk]
      exact ih ((List.mem_cons.mp h).resolve_left (Ne.symm hk))

theorem takeHeads_waiting {b : Nat} {i : Intake} (hb : b < 16) (h : u.flt.intake = []) : takeHeads (waiting b i u) = ([i], u) := by
  have hn (k : Nat) : tget u.flt.intake k = [] := by
    rw [h]
    rfl
  have hr : tset (tset [] b [i]) b [] = u.flt.intake := by
    have hd : tset [(b, [i])] b [] = tdrop [(b, [i])] b := by
      unfold tset tsetD
      exact if_pos rfl
    rw [h, show tset [] b [i] = [(b, [i])] from rfl, hd]
    simp [tdrop]
  unfold takeHeads
  refine foldl_once (fun k hk => ?_) ?_ (fun k => ?_) (List.mem_range.mpr hb)
  · have ho : tget (waiting b i u).flt.intake k = [] := tget_tset_other [] b k [i] hk
    dsimp only
    rw [ho]
  · have hs : tget (waiting b i u).flt.intake b = [i] := tget_tset_self [] b [i]
    dsimp only
    rw [hs]
    dsimp only [waiting]
    rw [hr]
    rfl
  · dsimp only
    rw [hn]

theorem reportLost_none (h : u.flt.blockLost = []) : reportLost u = u :=
  foldl_fixed _ fun _ _ => if_neg fun hc => hc.1 (by rw [h]; rfl)

theorem mergeAll_one {i : Intake} (h : tryMerge i.rep i.aon u = none) : mergeAll [i] u = ([i], u) := by
  unfold mergeAll mergeIntake
  rw [h]
  rfl

/-- The draft of the only record of a cycle. -/
def soleDraft (i : Intake) (s : State) : Draft :=
  { draft i s with r := { (draft i s).r with sameCycle := hasPeer (draft i s) [draft i s] s } }

/-- The end of a cycle in which one record has formed: LOCK, or HALT, takes the device with it. -/
def cycleEnd (level : Nat) (s : State) : State :=
  let s := { s with flt := { s.flt with served := true } }
  if level ≥ 5 then enterLockdown s else if level = 4 then enterHold s else s

theorem formAll_waiting {b : Nat} {i : Intake} (hb : b < 16) (h : u.flt.intake = []) (hl : u.flt.blockLost = [])
    (hm : tryMerge i.rep i.aon u = none) :
    formAll (waiting b i u) = cycleEnd (soleDraft i u).r.level (endTests [i] (formRecord (soleDraft i u) u)) := by
  have hs : sortBy (fun a b => decide (a.aon < b.aon)) [i] = [i] := rfl
  have hd : sortBy Draft.before (draftAll [i] u) = [draft i u] := rfl
  unfold formAll
  rw [takeHeads_waiting hb h]
  dsimp only
  rw [reportLost_none hl, hs, mergeAll_one hm]
  dsimp only
  rw [hd]
  simp only [List.map_cons, List.map_nil, List.any_cons, List.any_nil, Bool.or_false, decide_eq_true_eq, List.foldl_cons, List.foldl_nil]
  rfl


theorem Marked.intake (h : Marked s u) : u.flt.intake = s.flt.intake := by
  obtain ⟨⟨l, us, rfl⟩, -⟩ := h
  rfl

theorem Marked.blockLost (h : Marked s u) : u.flt.blockLost = s.flt.blockLost := by
  obtain ⟨⟨l, us, rfl⟩, -⟩ := h
  rfl

theorem tryMerge_none_iff {now : Nat} : tryMerge rep now s = none ↔
    mergeFirst (mergesInto rep.cls rep.kind rep.unit now (rdFld Reg.fltClassCfg rep.cls 8 8 s)) (fun r => r.merge rep.condition now)
      s.flt.recs =
      none := by
  unfold tryMerge
  dsimp only
  split <;> simp [*]

theorem Marked.tryMerge (h : Marked s u) (hm : tryMerge rep s.aon s = none) :
    tryMerge (intakeOf rep u).rep (intakeOf rep u).aon u = none := by
  obtain ⟨⟨l, us, rfl⟩, -⟩ := h
  have hn := tryMerge_none_iff.mp hm
  exact tryMerge_none_iff.mpr hn

theorem exec_recordFormation_one (hc : rep.cls < 256) (hk : rep.kind < 15) (hu : rep.unit < 65536) (ho : s.sys.mode ≠ .off)
    (hi : s.flt.intake = []) (hb : s.flt.blockLost = []) (hm : tryMerge rep s.aon s = none) :
    exec (.recordFormation [rep]) s = .next (cycleEnd (soleDraft (intakeOf rep (arrived rep s)) (arrived rep s)).r.level
      (endTests [intakeOf rep (arrived rep s)] (formRecord (soleDraft (intakeOf rep (arrived rep s)) (arrived rep s)) (arrived rep s))))
        := by
  have ha := marked_arrived rep s
  have he : enqueue rep (reportedPll rep s) = waiting (rep.cls / 16) (intakeOf rep (arrived rep s)) (arrived rep s) :=
    enqueue_first (ha.intake.trans hi)
  refine within_eq (by simp [hc, hk, hu]) ((if_neg ho).trans ?_)
  rw [List.foldl_cons, List.foldl_nil, he]
  exact formAll_waiting (by omega) (ha.intake.trans hi) (ha.blockLost.trans hb) (ha.tryMerge hm)

end

/-! ### The record -/

section
variable {rep : Report} {i : Intake} {s u : State}

/-- The level that the next record of a class takes (R496). -/
def recLevel (cls : Nat) (s : State) : Nat :=
  levelOfRec (rdFld Reg.fltClassCfg cls 0 3 s) (rdFld Reg.fltClassCfg cls 3 3 s) (prevLevel cls s)

theorem Marked.recLevel (h : Marked s u) (cls : Nat) : recLevel cls u = recLevel cls s := by
  obtain ⟨⟨l, us, rfl⟩, -⟩ := h
  rfl

theorem Marked.unitExists (h : Marked s u) (kind ix : Nat) : unitExists kind ix u = unitExists kind ix s := by
  obtain ⟨⟨l, us, rfl⟩, -⟩ := h
  rfl

theorem unitKept_of_standing (h : standing u = standing s) (kind ix : Nat) : unitKept kind ix u = unitKept kind ix s := by
  simp only [unitKept, fencedU, getUnit_of_standing h]

theorem Marked.goalOf (h : Marked s u) (cls kind unit : Nat) : goalOf cls kind unit u = goalOf cls kind unit s := by
  simp only [Machine.goalOf, h.unitExists, getUnit_of_standing h.2, unitKept_of_standing h.2]

theorem Marked.ackedLevel (h : Marked s u) (ha : ∀ a, tget s.flt.ackAt rep.cls = some a → a.1 ≠ s.aon) :
    ackedLevel (intakeOf rep u) u = none := by
  obtain ⟨⟨l, us, rfl⟩, -⟩ := h
  unfold Machine.ackedLevel
  split
  · rename_i hs
    exact if_neg (Ne.symm (ha _ hs))
  · rfl

/-- What the record of an unacknowledged class fences, by its level. -/
def recGoal (rep : Report) (s : State) : FenceGoal := if recLevel rep.cls s ≥ 3 then goalOf rep.cls rep.kind rep.unit s else .none

theorem soleDraft_goal (h : ackedLevel i s = none) : (soleDraft i s).goal = recGoal i.rep s := by
  simp only [soleDraft, draft, h]
  rfl

theorem soleDraft_level (h : ackedLevel i s = none) :
    (soleDraft i s).r.level = if recGoal i.rep s = .kept then max (recLevel i.rep.cls s) 4 else recLevel i.rep.cls s := by
  simp only [soleDraft, draft, h]
  rfl

theorem soleDraft_raised (h : ackedLevel i s = none) : (soleDraft i s).r.raised = decide (recGoal i.rep s = .kept) := by
  simp only [soleDraft, draft, h]
  rfl

theorem soleDraft_escalated (h : ackedLevel i s = none) :
    (soleDraft i s).r.escalated = decide (recLevel i.rep.cls s > rdFld Reg.fltClassCfg i.rep.cls 0 3 s) := by
  simp only [soleDraft, draft, h]
  rfl

theorem soleDraft_acked (h : ackedLevel i s = none) : (soleDraft i s).r.acked = false := by
  simp only [soleDraft, draft, h]
  rfl

end

end Sys2Proof.Machine
end

section
/-! PROOFS. What the formation of a record leaves, and what its level does (R495, R505, R509), and the other rows of the fault manager. -/
namespace Sys2Proof.Machine

/-! ### What follows the record -/

section
variable {d : Draft} {s t u : State}

/-- The SEQ that the next record takes, and the history. -/
def seqs (s : State) : Nat × List Nat := (s.flt.nextSeq, s.flt.hist)

theorem Fr.seqs {M : Nat} (h : Fr M s t) (hM : M.testBit 29 = false) : seqs t = seqs s :=
  congrArg Prod.snd (h.first.resolve_left (by simp [hM]))

theorem Fr.recs {M : Nat} (h : Fr M s t) (hM : M.testBit 9 = false) : t.flt.recs = s.flt.recs :=
  congrArg FltState.recs (h.flt.resolve_left (by simp [hM]))

theorem fenceReact_idle (h : d.goal = .none ∨ d.goal = .kept) (s : State) : fenceReact d s = s := by
  unfold fenceReact
  rcases h with h | h <;> rw [h]

theorem announced_flt (d : Draft) (s : State) : (announced d s).flt = (recorded d s).flt := (fr_announced d s).flt.resolve_left (by decide)

theorem seqs_formRecord (d : Draft) (s : State) : seqs (formRecord d s) = ((s.flt.nextSeq + 1) % 2 ^ 32,
    (s.flt.nextSeq :: s.flt.hist).take 32) :=
  ((fr_fenceReact d _).seqs rfl).trans ((fr_announced d s).seqs rfl)

theorem seqs_cycleEnd (level : Nat) (s : State) : seqs (cycleEnd level s) = seqs s := by
  unfold cycleEnd
  dsimp only
  split
  · exact (fr_enterLockdown _).seqs rfl
  · split
    · exact (fr_enterHold _).seqs rfl
    · rfl

theorem endTest_recs (kind ix : Nat) (ok : Bool) (s : State) : (endTest kind ix ok s).flt.recs = s.flt.recs := by
  have ha : (afterTest kind ix (postUnit kind ix 1 (if ok then 3 else 4) (setUnit kind ix { state := .fenced, passed := ok } s))).flt.recs =
      s.flt.recs :=
    ((fr_afterTest ..).recs rfl).trans ((fr_postUnit ..).recs rfl)
  unfold endTest
  dsimp only
  split
  · rfl
  · split
    · exact ha
    · exact ((fr_finishRef ..).recs rfl).trans ha

theorem foldl_keeps {α β γ : Type} {f : β → α → β} {g : β → γ} (h : ∀ b a,
    g (f b a) = g b) (l : List α) (b : β) : g (l.foldl f b) = g b := by
  induction l generalizing b with
  | nil => rfl
  | cons a l ih => exact (ih _).trans (h b a)

theorem endTests_recs (l : List Intake) (s : State) : (endTests l s).flt.recs = s.flt.recs := by
  unfold endTests
  refine foldl_keeps (g := fun u => u.flt.recs) (fun u i => foldl_keeps (g := fun u => u.flt.recs) (fun v x => ?_) _ u) l s
  split
  · exact endTest_recs ..
  · rfl

/-- A report of units none of which is under test ends no test. -/
theorem endTests_idle {i : Intake} (h : ∀ u ∈ reportSet i.rep.cls i.rep.kind i.rep.unit, (getUnit u.1 u.2 s).state ≠ .testing) :
    endTests [i] s = s := by
  refine foldl_fixed _ fun j hj => ?_
  rw [List.mem_singleton.mp hj]
  refine foldl_fixed _ fun u hu => ?_
  split
  · exact if_pos (h u hu)
  · rfl

theorem cycleEnd_recs {level : Nat} (h : level < 5) (s : State) : (cycleEnd level s).flt.recs = s.flt.recs := by
  unfold cycleEnd
  dsimp only
  rw [if_neg (by omega)]
  split
  · exact (fr_enterHold _).recs rfl
  · rfl

theorem cycleEnd_low {level : Nat} (h : level < 4) (s : State) :
    (cycleEnd level s).sys = s.sys ∧ (cycleEnd level s).flt.units = s.flt.units := by
  unfold cycleEnd
  dsimp only
  rw [if_neg (by omega), if_neg (by omega)]
  exact ⟨rfl, rfl⟩

theorem standing_cycleEnd (level : Nat) (s : State) : standing (cycleEnd level s) = standing s := by
  unfold cycleEnd
  dsimp only
  split
  · exact standing_enterLockdown _
  · split
    · exact (fr_enterHold _).standing rfl
    · rfl

theorem recorded_recs (h : ∀ r ∈ s.flt.recs, r.aon ≠ d.r.aon) :
    (recorded d s).flt.recs = { d.r with seq := s.flt.nextSeq } :: s.flt.recs := by
  refine congrArg _ ((List.map_congr_left fun r hr => if_neg (h r hr)).trans (List.map_id' _))

/-- Below FENCE, and where nothing can be fenced, the new record stands before the ones that were there. -/
theorem formed_recs {l : List Intake} {level : Nat} (hg : d.goal = .none ∨ d.goal = .kept) (hl : level < 5)
    (h : ∀ r ∈ s.flt.recs, r.aon ≠ d.r.aon) :
    (cycleEnd level (endTests l (formRecord d s))).flt.recs = { d.r with seq := s.flt.nextSeq } :: s.flt.recs := by
  rw [cycleEnd_recs hl, endTests_recs, formRecord_eq, fenceReact_idle hg, announced_flt, recorded_recs h]

theorem followed_formed (l : List Intake) (d : Draft) (s : State) : FenceFollowed s (endTests l (formRecord d s)) :=
  (followed_formRecord d s).frame (fr_endTests l _) rfl

theorem FenceFollowed.mode_ne {m : Mode} (h : FenceFollowed s t) (hf : m ≠ .forward) (hd : m ≠ .degraded) (hs : s.sys.mode ≠ m) :
    t.sys.mode ≠ m := by
  rcases h with h | ⟨-, h | h⟩
  · rwa [h]
  · rw [h]; exact hf.symm
  · rw [h]; exact hd.symm

theorem cycleEnd_hold (h1 : s.sys.mode ≠ .off) (h2 : s.sys.mode ≠ .reset) (h3 : s.sys.mode ≠ .lockdown) :
    (cycleEnd 4 s).sys.mode = .hold := by
  have he : cycleEnd 4 s = enterHold { s with flt := { s.flt with served := true } } := by
    unfold cycleEnd
    dsimp only
    rw [if_neg (by decide), if_pos rfl]
  rw [he, enterHold_mode]
  exact if_neg (not_or.mpr ⟨h1, not_or.mpr ⟨h2, h3⟩⟩)

theorem cycleEnd_lockdown (h : s.sys.mode ≠ .off) : (cycleEnd 5 s).sys.mode = .lockdown := by
  have he : cycleEnd 5 s = enterLockdown { s with flt := { s.flt with served := true } } := by
    unfold cycleEnd
    dsimp only
    rw [if_pos (by decide)]
  rw [he, enterLockdown_mode]
  exact if_neg h

/-- The units that a record fences are out of service when the cycle ends. -/
theorem formed_out {l : List Intake} {level : Nat} {us : List (Nat × Nat)} (hg : d.goal = .units us) :
    ∀ x ∈ us, (getUnit x.1 x.2 (cycleEnd level (endTests l (formRecord d s)))).state ≠ .inService := by
  intro x hx
  rw [getUnit_of_standing (standing_cycleEnd ..)]
  refine (fences_endTests (P := fun _ => True) l _).getUnit_out ?_
  rw [formRecord_eq]
  unfold fenceReact
  rw [hg]
  dsimp only
  obtain ⟨a, b, rfl⟩ := List.append_of_mem hx
  rw [List.foldl_append, List.foldl_cons]
  have hb := fenceNow_out x.1 x.2 0 (some d.r.cls) (a.foldl (fun s u => fenceNow u.1 u.2 0 (some d.r.cls) s) (announced d s))
  exact (Fences.foldl (P := fun _ => True) (fun v y _ => fences_fenceNow trivial (fun _ => ⟨trivial, trivial⟩) 0 _ v) _).getUnit_out hb

end

/-! ### RECORD_FORMATION of one report -/

section
variable {rep : Report} {s : State}

/-- The state after the cycle in which one report forms its record. -/
def formedOne (rep : Report) (s : State) : State :=
  cycleEnd (soleDraft (intakeOf rep (arrived rep s)) (arrived rep s)).r.level
    (endTests [intakeOf rep (arrived rep s)] (formRecord (soleDraft (intakeOf rep (arrived rep s)) (arrived rep s)) (arrived rep s)))

theorem recGoal_arrived (rep : Report) (s : State) : recGoal (intakeOf rep (arrived rep s)).rep (arrived rep s) = recGoal rep s := by
  unfold recGoal
  rw [(marked_arrived rep s).recLevel, (marked_arrived rep s).goalOf]
  rfl

theorem recGoal_idle (h : recLevel rep.cls s < 3 ∨ recLevel rep.cls s < 5 ∧ (goalOf rep.cls rep.kind rep.unit s = .none ∨
    goalOf rep.cls rep.kind rep.unit s = .kept)) : recGoal rep s = .none ∨ recGoal rep s = .kept := by
  unfold recGoal
  split
  · exact (h.resolve_left (by omega)).2
  · exact .inl rfl

theorem recGoal_kept_iff : recGoal rep s = .kept ↔ 3 ≤ recLevel rep.cls s ∧ goalOf rep.cls rep.kind rep.unit s = .kept := by
  unfold recGoal
  split <;> simp [*]

/-- Nothing of the report's class was acknowledged in this cycle. -/
def NoAck (rep : Report) (s : State) : Prop := ∀ a, tget s.flt.ackAt rep.cls = some a → a.1 ≠ s.aon

theorem seqs_formedOne (rep : Report) (s : State) : seqs (formedOne rep s) =
    ((s.flt.nextSeq + 1) % 2 ^ 32, (s.flt.nextSeq :: s.flt.hist).take 32) := by
  have hs : seqs (arrived rep s) = seqs s := by
    obtain ⟨⟨l, us, he⟩, -⟩ := marked_arrived rep s
    rw [he]
    rfl
  obtain ⟨hn, hh⟩ := Prod.mk.inj hs
  rw [formedOne, seqs_cycleEnd, (fr_endTests ..).seqs rfl, seqs_formRecord, hn, hh]

theorem formedOne_level (h : NoAck rep s) : (soleDraft (intakeOf rep (arrived rep s)) (arrived rep s)).r.level =
    if recGoal rep s = .kept then max (recLevel rep.cls s) 4 else recLevel rep.cls s := by
  rw [soleDraft_level ((marked_arrived rep s).ackedLevel h), recGoal_arrived]
  exact congrArg (fun l => if recGoal rep s = .kept then max l 4 else l) ((marked_arrived rep s).recLevel rep.cls)

theorem formedOne_goal (h : NoAck rep s) : (soleDraft (intakeOf rep (arrived rep s)) (arrived rep s)).goal = recGoal rep s := by
  rw [soleDraft_goal ((marked_arrived rep s).ackedLevel h), recGoal_arrived]

/-- The record that a report forms, as it stands in front of the others. -/
def soleRecord (rep : Report) (s : State) : FltRec :=
  { (soleDraft (intakeOf rep (arrived rep s)) (arrived rep s)).r with seq := s.flt.nextSeq }

theorem formedOne_recs (hn : NoAck rep s) (hr : ∀ r ∈ s.flt.recs, r.aon ≠ s.aon)
    (h : recLevel rep.cls s < 3 ∨ recLevel rep.cls s < 5 ∧ (goalOf rep.cls rep.kind rep.unit s = .none ∨
      goalOf rep.cls rep.kind rep.unit s = .kept)) : (formedOne rep s).flt.recs = soleRecord rep s :: s.flt.recs := by
  have hl : (soleDraft (intakeOf rep (arrived rep s)) (arrived rep s)).r.level < 5 := by
    rw [formedOne_level hn]
    split <;> omega
  have hg := recGoal_idle h
  rw [← formedOne_goal hn] at hg
  have hu : (arrived rep s).flt.recs = s.flt.recs ∧ (arrived rep s).flt.nextSeq = s.flt.nextSeq ∧ (arrived rep s).aon = s.aon := by
    obtain ⟨⟨l, us, he⟩, -⟩ := marked_arrived rep s
    rw [he]
    exact ⟨rfl, rfl, rfl⟩
  obtain ⟨hrecs, hseq, haon⟩ := hu
  have ha : ∀ r ∈ (arrived rep s).flt.recs, r.aon ≠ (soleDraft (intakeOf rep (arrived rep s)) (arrived rep s)).r.aon := by
    rw [hrecs]
    exact fun r hm => (hr r hm).trans_eq haon.symm
  rw [formedOne, formed_recs hg hl ha, hrecs, hseq]
  rfl

theorem soleRecord_aon (rep : Report) (s : State) : (soleRecord rep s).aon = s.aon := by
  have h : (arrived rep s).aon = s.aon := by
    obtain ⟨⟨l, us, he⟩, -⟩ := marked_arrived rep s
    rw [he]
  exact h

theorem soleRecord_level (hn : NoAck rep s) (hl : recLevel rep.cls s < 5) : (soleRecord rep s).level =
    if 3 ≤ recLevel rep.cls s ∧ goalOf rep.cls rep.kind rep.unit s = .kept then 4 else recLevel rep.cls s := by
  refine (formedOne_level hn).trans ?_
  simp only [recGoal_kept_iff]
  split <;> omega

theorem soleRecord_raised (hn : NoAck rep s) :
    (soleRecord rep s).raised = decide (3 ≤ recLevel rep.cls s ∧ goalOf rep.cls rep.kind rep.unit s = .kept) := by
  refine (soleDraft_raised ((marked_arrived rep s).ackedLevel hn)).trans ?_
  simp only [recGoal_arrived, recGoal_kept_iff]

theorem soleRecord_escalated (hn : NoAck rep s) :
    (soleRecord rep s).escalated = decide (rdFld Reg.fltClassCfg rep.cls 0 3 s < recLevel rep.cls s) := by
  refine (soleDraft_escalated ((marked_arrived rep s).ackedLevel hn)).trans ?_
  obtain ⟨⟨l, us, he⟩, -⟩ := marked_arrived rep s
  rw [he]
  rfl

theorem soleRecord_acked (hn : NoAck rep s) : (soleRecord rep s).acked = false := soleDraft_acked ((marked_arrived rep s).ackedLevel hn)

/-- A report of units none of which is under test leaves the table of units. -/
theorem arrived_units (h : ∀ u ∈ reportSet rep.cls rep.kind rep.unit, (getUnit u.1 u.2 s).state ≠ .testing) :
    (arrived rep s).flt.units = s.flt.units := by
  have hw : arrived rep s = reportedPll rep s := foldl_fixed _ fun u hu => if_neg fun hc =>
    h u hu ((getUnit_of_standing (marked_reportedPll rep s).2 u.1 u.2).symm.trans hc.2)
  rw [hw]
  exact (fr_reportedPll rep s).units.resolve_left (by decide)

theorem announced_units (d : Draft) (s : State) : (announced d s).flt.units = s.flt.units := by
  rw [announced_flt]
  rfl

theorem announced_mode (d : Draft) (s : State) : (announced d s).sys.mode = s.sys.mode := (fr_announced d s).mode_eq rfl

/-- Below FENCE the record fences nothing, and the cycle ends in the mode in which it began. -/
theorem formedOne_low (hn : NoAck rep s) (hl : recLevel rep.cls s < 3) : (formedOne rep s).sys.mode = s.sys.mode ∧
    ((∀ u ∈ reportSet rep.cls rep.kind rep.unit, (getUnit u.1 u.2 s).state ≠ .testing) → (formedOne rep s).flt.units = s.flt.units) := by
  have hg : recGoal rep s = .none := if_neg (by omega)
  have hd := formedOne_goal hn
  have hv := formedOne_level hn
  rw [hg] at hd
  rw [hg, if_neg (by decide)] at hv
  have hm : (arrived rep s).sys = s.sys := by
    obtain ⟨⟨l, us, he⟩, -⟩ := marked_arrived rep s
    rw [he]
  obtain ⟨hmode, hunits⟩ := cycleEnd_low (level := (soleDraft (intakeOf rep (arrived rep s)) (arrived rep s)).r.level) (by omega)
    (endTests [intakeOf rep (arrived rep s)] (formRecord (soleDraft (intakeOf rep (arrived rep s)) (arrived rep s)) (arrived rep s)))
  rw [formRecord_eq, fenceReact_idle (.inl hd)] at hmode hunits
  unfold formedOne
  rw [formRecord_eq, fenceReact_idle (.inl hd), hmode, hunits]
  refine ⟨?_, fun h => ?_⟩
  · rw [(fr_endTests ..).mode_eq rfl, announced_mode, hm]
  · rw [endTests_idle fun u hu => ?_, announced_units, arrived_units h]
    rw [getUnit_of_standing (((fr_announced ..).standing rfl).trans (marked_arrived rep s).2)]
    exact h u hu

theorem formed_mode_ne {m : Mode} (hf : m ≠ .forward) (hd : m ≠ .degraded) (h : s.sys.mode ≠ m) (l : List Intake) (d : Draft) :
    (endTests l (formRecord d (arrived rep s))).sys.mode ≠ m := by
  refine (followed_formed l d (arrived rep s)).mode_ne hf hd ?_
  obtain ⟨⟨l, us, he⟩, -⟩ := marked_arrived rep s
  rwa [he]

theorem formedOne_hold (hn : NoAck rep s) (hl : recLevel rep.cls s = 4 ∨ recLevel rep.cls s = 3 ∧ goalOf rep.cls rep.kind rep.unit s =
    .kept)
    (h1 : s.sys.mode ≠ .off) (h2 : s.sys.mode ≠ .reset) (h3 : s.sys.mode ≠ .lockdown) : (formedOne rep s).sys.mode = .hold := by
  have hv : (soleDraft (intakeOf rep (arrived rep s)) (arrived rep s)).r.level = 4 := by
    rw [formedOne_level hn]
    rcases hl with hl | hl
    · split <;> omega
    · rw [if_pos (recGoal_kept_iff.mpr ⟨hl.1.ge, hl.2⟩), hl.1]
      rfl
  unfold formedOne
  rw [hv]
  exact cycleEnd_hold (formed_mode_ne (by decide) (by decide) h1 _ _) (formed_mode_ne (by decide) (by decide) h2 _ _)
    (formed_mode_ne (by decide) (by decide) h3 _ _)

theorem formedOne_lockdown (hn : NoAck rep s) (hl : recLevel rep.cls s = 5) (h1 : s.sys.mode ≠ .off) :
    (formedOne rep s).sys.mode = .lockdown := by
  have hv : (soleDraft (intakeOf rep (arrived rep s)) (arrived rep s)).r.level = 5 := by
    rw [formedOne_level hn]
    split <;> omega
  unfold formedOne
  rw [hv]
  exact cycleEnd_lockdown (formed_mode_ne (by decide) (by decide) h1 _ _)

theorem formedOne_out {us : List (Nat × Nat)} (hn : NoAck rep s) (hl : 3 ≤ recLevel rep.cls s)
    (hg : goalOf rep.cls rep.kind rep.unit s = .units us) : ∀ u ∈ us, (getUnit u.1 u.2 (formedOne rep s)).state ≠ .inService :=
  formed_out ((formedOne_goal hn).trans ((if_pos hl).trans hg))

end

/-! ### The other rows -/

section
variable {s : State}

theorem clearCondition_cleared {cls kind unit : Nat} : ∀ r ∈ (clearCondition cls kind unit s).flt.recs,
    r.cls = cls → r.kind = kind → r.unit = unit → r.condition = true → r.cleared = true := by
  intro r hr hc hk hu hd
  obtain ⟨x, -, rfl⟩ := List.mem_map.mp hr
  revert hc hk hu hd
  dsimp only
  split
  · exact fun _ _ _ _ => rfl
  · rename_i hn
    intro hc hk hu hd
    simpa [hc, hk, hu, hd] using hn

theorem exec_aliveToggle_edge (hm : aliveMode s.sys.mode = true) (hs : s.flt.served = true) : exec .aliveToggle s =
    .next (emit (.alive (!s.flt.alive)) { s with flt := { s.flt with alive := !s.flt.alive, served := false } }) :=
  congrArg Host.Outcome.next (if_pos ⟨hm, hs⟩)

theorem exec_aliveToggle_idle (h : aliveMode s.sys.mode = false ∨ s.flt.served = false) : exec .aliveToggle s = .next s :=
  congrArg Host.Outcome.next (if_neg fun hc => by simp [hc.1, hc.2] at h)

theorem exec_clockMonitorWindow_unseen {clock : Nat} {found : ClockFound} (h : clock < 51) (hu : clockUnseen clock s = true) :
    exec (.clockMonitorWindow clock found) s = .next s := within_eq (decide_eq_true h) (if_pos hu)

theorem exec_clockMonitorWindow_bad {clock : Nat} {found : ClockFound} (h : clock < 51) (hu : clockUnseen clock s = false)
    (hb : found.hz = 0 ∨ clockOff clock found.hz s = true ∧ found.returning = false ∧ clockChanging clock s = false) :
    exec (.clockMonitorWindow clock found) s = .next (report 248 (clockUnit clock).1 (clockUnit clock).2 (le 8 clock) s) :=
  within_eq (decide_eq_true h) ((if_neg (by simp [hu])).trans (if_pos (by simpa using hb)))

theorem exec_clockMonitorWindow_good {clock : Nat} {found : ClockFound} (h : clock < 51) (hu : clockUnseen clock s = false)
    (hz : found.hz ≠ 0) (hg : clockOff clock found.hz s = false ∨ found.returning = true ∨ clockChanging clock s = true) :
    exec (.clockMonitorWindow clock found) s = .next s := by
  refine within_eq (decide_eq_true h) ((if_neg (by simp [hu])).trans (if_neg ?_))
  rintro (h0 | ⟨ho, hr, hc⟩)
  · exact hz h0
  · rcases hg with hg | hg | hg <;> simp_all

theorem exec_resetReq_lockdown {v : Byte} {soon : Bool} (h : s.sys.mode = .lockdown) :
    exec (.resetReq v soon) s = .next { s with flt := { s.flt with resetArmed := false } } :=
  congrArg Host.Outcome.next ((if_neg (by simp [h])).trans (if_pos h))

theorem exec_resetReq_reset (h1 : s.sys.mode ≠ .off) (h2 : s.sys.mode ≠ .lockdown) (ha : s.flt.resetArmed = true) :
    exec (.resetReq 0x5A true) s = .next (doReset 2 s) :=
  congrArg Host.Outcome.next ((if_neg h1).trans ((if_neg h2).trans (if_pos ⟨rfl, ha, rfl⟩)))

theorem exec_resetReq_arm {v : Byte} {soon : Bool} (h1 : s.sys.mode ≠ .off) (h2 : s.sys.mode ≠ .lockdown)
    (hv : ¬(v = 0x5A ∧ s.flt.resetArmed = true ∧ soon = true)) :
    exec (.resetReq v soon) s = .next { s with flt := { s.flt with resetArmed := decide (v = 0xA5) } } :=
  congrArg Host.Outcome.next ((if_neg h1).trans ((if_neg h2).trans (if_neg hv)))

end

/-- Settles O52: the cycle of one report forms one record, and its level and what it can fence decide the rest. -/
theorem faultRecords : Obligations.FaultRecords := by
  unfold Obligations.FaultRecords
  intro rep clock found v s hc hk hu
  refine ⟨fun ho hi hb hm hr hn => ?_, within_eq (decide_eq_true hc) rfl, clearCondition_cleared, exec_aliveToggle_edge,
    exec_aliveToggle_idle,
    exec_clockMonitorWindow_unseen, fun h hs => ⟨fun hz => ?_, fun ho hr hg => ?_, exec_clockMonitorWindow_good h hs⟩, fun h1 h2 => ?_,
    exec_resetReq_lockdown⟩
  · obtain ⟨hseq, hhist⟩ := Prod.mk.inj (seqs_formedOne rep s)
    refine ⟨formedOne rep s, exec_recordFormation_one hc hk hu ho hi hb hm, hseq, hhist, fun h => ?_, formedOne_low hn,
      fun hl h2 h3 => formedOne_hold hn hl ho h2 h3, fun hl => formedOne_lockdown hn hl ho, fun us hl hg => formedOne_out hn hl hg⟩
    have hl : recLevel rep.cls s < 5 := h.elim (fun h => h.trans (by decide)) And.left
    exact ⟨soleRecord rep s, formedOne_recs hn hr h, rfl, rfl, rfl, rfl, rfl, rfl, soleRecord_aon rep s, soleRecord_level hn hl,
      soleRecord_raised hn, soleRecord_escalated hn, soleRecord_acked hn, rfl⟩
  · exact exec_clockMonitorWindow_bad h hs (.inl hz)
  · exact exec_clockMonitorWindow_bad h hs (.inr ⟨ho, hr, hg⟩)
  · refine ⟨exec_resetReq_arm h1 h2 (by simp), exec_resetReq_reset h1 h2, fun hA hv => ?_, exec_resetReq_arm h1 h2 (by simp)⟩
    rw [exec_resetReq_arm h1 h2 (by rintro ⟨h5, ha, -⟩; simp_all), decide_eq_false hA]

end Sys2Proof.Machine
end
